-- ==== Sys2Proof/Word.lean ====
section
/-!
DEFINITION. The word and byte types of the register fabric and the mailbox, and their plainest arithmetic.
-/
namespace Sys2Proof

/-- A register word (chapter 03: all expert registers are 32 bits wide). -/
abbrev Word := BitVec 32

/-- A byte of a slot, a payload or a frame. -/
abbrev Byte := BitVec 8

/-- The word that holds `n` modulo 2^32. -/
def word (n : Nat) : Word := BitVec.ofNat 32 n

/-- The byte that holds `n` modulo 256. -/
def byte (n : Nat) : Byte := BitVec.ofNat 8 n

end Sys2Proof
end

