-- ==== Sys2Proof/Syntax.lean ====
section
/-!
DEFINITION. The commands: the one inductive Instr, a constructor for each row of spec/opcode_table.json, and the
types of their operands. An event row carries what the environment supplies (a measured value, a frame, an index);
a mailbox row carries the command as its sender wrote it.
-/
namespace Sys2Proof

/-- The two initiators of the register fabric (R71). -/
inductive Initiator where
  | host | dome
deriving DecidableEq, Repr, Inhabited

/-- The path a mailbox command came by: the command ring of a session (R35), or a UDP source (R55, R56). -/
inductive Origin where
  | ring (q : Nat)
  | udp (ip port : Nat)
deriving DecidableEq, Repr, Inhabited

/-- A mailbox command as it stands in its slot or datagram (R41): session-index byte, sequence, the header CRC it
carries and its whole payload. Its opcode is the row's own. -/
structure Cmd where
  origin  : Origin
  session : Nat
  seq     : Nat
  crc     : Word
  payload : List Byte
deriving DecidableEq, Repr, Inhabited

/-- A slot the host placed in its command ring (R41 to R43): the four header words, the 48 inline bytes and, behind an
EXT descriptor, the bytes that stand in the session window at its offset. -/
structure HostSlot where
  w0     : Word
  w1     : Word
  w2     : Word
  w3     : Word
  inline : List Byte
  window : List Byte
deriving DecidableEq, Repr, Inhabited

/-- The measurements of one pair-cycle boundary that SYS publishes (R99): the ten monitored supplies (mV), VBST (mV),
the sensor supplies' voltages (mV) and currents (mA), module dissipation (mW), the ten temperatures (0.01 °C) in
signal order 0x1D0 to 0x1D9, and the mask of sensor supplies in current limit (R130), and for each load switch its
mean current and its mean on-state current (mA), the raw code and the junction temperature (R266, R275). -/
structure Measure where
  mv    : List Nat
  vbst  : Nat
  supMv : List Nat
  diss  : Nat
  temps : List Int
  supMa : List Nat
  limit : Nat
  pswMean : List Nat
  pswOn   : List Nat
  pswCode : List Nat
  pswTj   : List Int
deriving DecidableEq, Repr, Inhabited

/-- A wake source as `PWR_WAKE_EN` numbers it (R109), and for DIN the digital input `n` whose level has changed (R126): the CLK_FAB
time since which its new level is held, and its group's VFS in mV. -/
structure WakeIn where
  src   : Nat
  n     : Nat := 0
  since : Nat := 0
  vfs   : Nat := 0
deriving DecidableEq, Repr, Inhabited

/-- A measured value and the TB from which it stands. -/
structure Sample where
  val : Nat
  tb  : Nat
deriving DecidableEq, Repr, Inhabited

/-- A value measured at channel `n`. -/
structure Reading where
  n   : Nat
  val : Nat
deriving DecidableEq, Repr, Inhabited

/-- A received SENT frame (R138): the tick its calibration pulse measures (10 ns units), the TB of that pulse's falling
edge, and the lengths in ticks of its nibble pulses: status, data, CRC. -/
structure SentRx where
  tick   : Nat
  stamp  : Nat
  pulses : List Nat
deriving DecidableEq, Repr, Inhabited

/-- What one millisecond gives a Transit channel (R287 to R290): its number, the prompt sums scaled by 2^-8, what the
loops' filters add to the Doppler in 2^-8 mHz, the code phase at the dump, the C/N0 estimate, the place of this dump in the secondary
code where the prompt signs of a whole period match it, and whether prompt power stands. -/
structure TrnMs where
  n     : Nat
  i     : Int
  q     : Int
  corr  : Int
  cp    : Nat
  cn0   : Nat
  sec   : Option Nat
  power : Bool
deriving DecidableEq, Repr, Inhabited

/-- The latched accumulators of a Transit channel at an epoch (R296, R297): transmit time in 2^-16 ns, modulo the channel's
ambiguity period, and accumulated phase in 2^-16 cycle. -/
structure TrnEp where
  n     : Nat
  ttx   : Nat
  phase : Int
deriving DecidableEq, Repr, Inhabited

/-- What an acquisition sweep finds (R293): the peak's code position, Doppler and detection ratio, and for each verify
set the same of the highest of its nine. -/
structure TrnSweep where
  pos   : Nat
  dop   : Int
  ratio : Nat
  sets  : List (Nat × Int × Nat)
deriving DecidableEq, Repr, Inhabited

/-- A navigation unit (R299): TB at its end, its bits as delivered, most significant first, and whether the loop stands inverted. -/
structure TrnNav where
  tb    : Nat
  bits  : List Byte
  inv   : Bool
deriving DecidableEq, Repr, Inhabited

/-- The navigation estimate that R313 lists, in its units: position, height, heading, velocity, speed, roll, pitch, yaw rate,
accelerations and accuracies. -/
structure PosEst where
  lat  : Int
  lon  : Int
  h    : Int
  head : Nat
  vn   : Int
  ve   : Int
  vu   : Int
  spd  : Int
  roll : Int
  pit  : Int
  yaw  : Int
  ax   : Int
  ay   : Int
  hAcc : Nat
  vAcc : Nat
  dAcc : Nat
deriving DecidableEq, Repr, Inhabited

/-- What the position algorithms find at a solution epoch (R307 to R318): whether the equations have a solution; the
channels whose measurements enter with the elevations of their satellites (degree); the corrections used (0 none, 1 code,
2 carrier phase with real ambiguities, 3 with integer ones); satellites fixed and the ratio test in 0.1; whether the
innovation exceeds the bound of R310; the solution itself and the filter's estimate after the update; the baseline
(0 none, 1 float, 2 integer), its length in mm and azimuth in 0.01°; GNSS time of the epoch in ns, the clock drift in ppb,
and the Doppler rates for `TRN_CH_AID`. -/
structure PosSol where
  found  : Bool
  used   : List (Nat × Nat)
  corr   : Nat
  fixed  : Nat
  ratio  : Nat
  exceeds : Bool
  fix    : PosEst
  est    : PosEst
  dual   : Nat
  len    : Int
  az     : Nat
  gnss   : Nat
  drift  : Int
  aids   : List (Nat × Int)
deriving DecidableEq, Repr, Inhabited

/-- A channel that a sentry burst finds (R323): satellite, component, code phase, Doppler in mHz and C/N0 in 0.01 dB-Hz. -/
structure SentryHit where
  sv  : Nat
  sig : Nat
  cp  : Nat
  dop : Int
  cn0 : Nat
deriving DecidableEq, Repr, Inhabited

/-- An AVTPDU of the RVF subtype as a camera port received it (R329, R330, R334): its stream ID, sequence_num, tv,
avtp_timestamp, stream_data_length and payload bytes, and the TB at which its first byte was received. -/
structure CamSeg where
  sid  : Nat
  seq  : Nat
  tv   : Bool
  ts   : Nat
  len  : Nat
  data : List Byte
  at_  : Nat
deriving DecidableEq, Repr, Inhabited

/-- A datagram or a CAN FD frame that may carry a detection list (R352): whether it is a frame on CAN, its port or controller,
the CAN identifier with its format bit 31, its arrival stamp and its bytes. -/
structure AstRx where
  can   : Bool
  link  : Nat
  ident : Nat
  stamp : Nat
  data  : List Byte
deriving DecidableEq, Repr, Inhabited

/-- What the safety island samples in one cycle (R376 to R386): levels of the safe inputs (bit set: contact closed), new edges on
each safe speed input, the override lines that read back as present, the safe outputs whose readback disagrees, a control tick
missing for 200 µs, a fault of the island itself, and the sealed switches (address, DIP). -/
structure SafIn where
  si    : Nat
  ss    : List Nat
  lines : Nat
  so    : Nat
  tick  : Bool
  own   : Bool
  addr  : Nat
  dip   : Nat
  us    : Nat
deriving DecidableEq, Repr, Inhabited

/-- What a test pulse shows (R379): the inputs low throughout the output's own pulse, the pairs of inputs that a cross-short joins,
and an overload of the output. -/
structure SafTp where
  low   : Nat
  cross : List (Nat × Nat)
  exceeds : Bool
deriving DecidableEq, Repr, Inhabited

/-- A cell delta of the state copy (R458, R459): its sequence number and the cell's index and new content. -/
structure PairDelta where
  seq   : Nat
  i     : Int
  j     : Int
  mass  : Int
  area  : Nat
  moist : Int
  pass  : Nat
  count : Nat
  flags : Nat
deriving DecidableEq, Repr, Inhabited

/-- A Meridian slot in the state copy (R458). -/
structure PairMer where
  sp    : Word
  i16   : Int
  u     : Int
  clip  : Nat
  r     : Int
  fresh : Bool
deriving DecidableEq, Repr, Inhabited

/-- An actuator channel in the state copy (R458): command, trim, temperature estimate, short count, latch, queued events. -/
structure PairAdr where
  cmd   : Word
  trim  : Word
  est   : Option Int
  sccnt : Nat
  latch : Bool
  queue : List (Nat × Nat)
deriving DecidableEq, Repr, Inhabited

/-- A load switch in the state copy (R458): mode, duty, RCNT, latches, back-off left in TB units. -/
structure PairPsw where
  mode : Nat
  duty : Word
  rcnt : Nat
  ocl  : Bool
  th   : Bool
  back : Option Nat
deriving DecidableEq, Repr, Inhabited

/-- Coelostat in the state copy (R458): mode, phase, sample index, per MF centre, override and operator value. -/
structure PairCst where
  mode  : Nat
  phase : Nat
  k     : Nat
  mfs   : List (Int × Bool × Word)
deriving DecidableEq, Repr, Inhabited

/-- A track in the state copy (R458): cm, cm/s and 0.01 m. -/
structure PairTrk where
  slot : Nat
  id   : Nat
  cls  : Nat
  x    : Int
  y    : Int
  vx   : Int
  vy   : Int
  len  : Int
  wid  : Int
deriving DecidableEq, Repr, Inhabited

/-- The Yield Plate part of the state copy (R458): field state, the field's identity, pass ID, balance counters, the sequence of
the last delta, and the deltas. -/
structure PairYpl where
  state  : Nat
  id     : Nat
  lat    : Int
  lon    : Int
  crop   : Nat
  grid   : Word
  pass   : Nat
  sensor : Int
  unattr : Int
  area   : Nat
  seq    : Nat
  deltas : List PairDelta
deriving DecidableEq, Repr, Inhabited

/-- A state copy (R458): cycle number, TB of the boundary, length, configuration CRC, whether its own CRC passes, its parts. -/
structure PairCopy where
  cycle : Nat
  tb    : Nat
  len   : Nat
  cfg   : Word
  ok    : Bool
  mer   : List PairMer
  adr   : List PairAdr
  psw   : List PairPsw
  cst   : PairCst
  ast   : List PairTrk
  ypl   : Option PairYpl
deriving DecidableEq, Repr, Inhabited

/-- A valid CAN frame (R418, R419): identifier, extended format, FD format, bit-rate switch, error state indicator, data, and the
TB of its SOF. -/
structure CanRx where
  ident : Nat
  xtd   : Bool
  fdf   : Bool
  brs   : Bool
  esi   : Bool
  data  : List Byte
  sof   : Nat
deriving DecidableEq, Repr, Inhabited

/-- What an Ethernet frame carries beyond its addresses (R437, R329): a UDP datagram, a fragment of an IPv4 datagram (offset in bytes),
an ARP request, an ICMP echo request, an AVTP video segment, or anything else. -/
inductive EthPay where
  | udp (sip dip sport dport : Nat) (p : List Byte)
  | frag (sip dip ident off : Nat) (more : Bool) (p : List Byte)
  | arp (sip dip : Nat)
  | echo (sip dip : Nat) (p : List Byte)
  | avtp (x : CamSeg)
  | other (p : List Byte)
deriving DecidableEq, Repr, Inhabited

/-- An Ethernet frame at ingress (R433, R438): port, MAC addresses, VLAN tag (0 untagged) with its priority, length in bytes with
FCS, whether the FCS holds, and its content. -/
structure EthRx where
  port : Nat
  dst  : Nat
  src  : Nat
  vid  : Nat
  pcp  : Nat
  len  : Nat
  fcs  : Bool
  pay  : EthPay
deriving DecidableEq, Repr, Inhabited

/-- The link of a switch port (R433, R435): whether it is up, its speed code, signal quality, and whether the port is asCapable. -/
structure EthLink where
  up    : Bool
  speed : Nat
  sqi   : Nat
  asCap : Bool
deriving DecidableEq, Repr, Inhabited

/-- A frame received on an RS-485 port (R447): TB of its first byte, whether a parity or framing error occurred, its bytes. -/
structure SerRx where
  stamp : Nat
  bad   : Bool
  data  : List Byte
deriving DecidableEq, Repr, Inhabited

/-- The other end of a fleet association (R468, R470): the parent, or the child with a unit ID. -/
inductive FltPeer where
  | parent
  | child (unit : Nat)
deriving DecidableEq, Repr, Inhabited

/-- The common part of a received fleet message (R471): the association it came on and the epoch it carries. -/
structure FltHdr where
  peer  : FltPeer
  unit  : Nat
  epoch : Nat
deriving DecidableEq, Repr, Inhabited

/-- A global operation as its message names it (R475): its number, T0 as a TB value of the receiving unit, and the depth D. -/
structure FltOpHdr where
  num   : Nat
  t0    : Nat
  depth : Nat
deriving DecidableEq, Repr, Inhabited

/-- A coverage tile (R192, R471): field ID, tile, and 8 KiB of one bit per cell. -/
structure FltTile where
  field : Nat
  tx    : Int
  ty    : Int
  bits  : List Byte
deriving DecidableEq, Repr, Inhabited

/-- A report of a subtree (R475): operation number, units counted and missing, the records of a snapshot. -/
structure FltRep where
  num     : Nat
  counted : Nat
  missing : Nat
  recs    : List (List Byte)
deriving DecidableEq, Repr, Inhabited

/-- What a fleet message carries after its common part (R469 to R477). -/
inductive FltMsg where
  | heartbeat
  | keyUpdate
  | coverage (t : FltTile)
  | rtcm (p : List Byte)
  | rdv (group : Nat) (p : List Byte)
  | tiles (field : Nat) (p : List Byte)
  | sentry (p : List Byte)
  | broadcast (op : FltOpHdr)
  | barrier (op : FltOpHdr) (tag : Nat) (auto : Bool)
  | marker (op : FltOpHdr) (reset : Bool)
  | report (r : FltRep)
deriving DecidableEq, Repr, Inhabited

/-- How a DTLS handshake ends (R468, R470): with the parent endpoint in use, or with a would-be child; the level of the parent, the
unit ID and the address of the child. -/
structure FltHs where
  child : Bool
  ok    : Bool
  level : Nat
  unit  : Nat
  ip    : Nat
  port  : Nat
deriving DecidableEq, Repr, Inhabited

/-- The commands of spec/opcode_table.json, a constructor for each row. -/
inductive Instr where
  /-- CONTROL_TICK (R29): At each 50 µs control-tick boundary the module applies the tick-strobed update groups, latches the signal bus and runs the due Meridian slots. -/
  | controlTick
  /-- PAIR_CYCLE_BOUNDARY (R29): At every 20th tick boundary the module applies the pair-strobed groups and SYS publishes its supply and temperature entries; the acting unit gathers and sends the state copy and a link beacon. -/
  | pairCycleBoundary (m : Measure)
  /-- SPEED_ZERO_TIMEOUT (R134): A speed entry is forced to 0 once more than 10 s have passed since its last edge. -/
  | speedZeroTimeout (j : Nat)
  /-- REGISTER_WRITE (R91): A write to a register without a row of its own passes the width, ownership, lock and guard checks and enters the register or its shadow. -/
  | registerWrite (ini : Initiator) (addr : Nat) (bits : Nat) (v : BitVec 64)
  /-- BIT_ALIAS_ACCESS (R76): An access in the bit-alias region performs an indivisible single-bit operation on the target register according to its type. -/
  | bitAliasAccess (ini : Initiator) (addr : Nat) (w : Option Word)
  /-- GUARD_FIRST_WRITE (R82): A write to an RWG address is held pending in the guard comparator without crossing. -/
  | guardFirstWrite (ini : Initiator) (addr : Nat) (v : Word)
  /-- GUARD_COMPANION_WRITE (R82): A write to a guard companion address passes the pending value if it is the complement, or discards it and counts the cause. -/
  | guardCompanionWrite (ini : Initiator) (addr : Nat) (v : Word)
  /-- GUARD_TIMEOUT (R82): A pending guarded value with no companion write within 256 CLK_FAB cycles is discarded with cause 1. -/
  | guardTimeout (ini : Initiator) (blk : Nat)
  /-- STALL_WATCHDOG (R79): An access stalled for 200 µs is ended, with a bus error for a read and a dropped write, and counted in FAB_STALL_ERR. -/
  | stallWatchdog (ini : Initiator) (addr : Nat) (isWrite : Bool)
  /-- FAB_SIG_HOST_WRITE (R18): A host write to a signal-bus entry is stored and validated for entries 0x180 to 0x1BF and otherwise discarded and counted. -/
  | fabSigHostWrite (n : Nat) (v : Word)
  /-- SIG_HOST_AGE_EXPIRY (R22): A host-written entry becomes invalid once FAB_SIG_HOST_AGE ms have passed since its last host write. -/
  | sigHostAgeExpiry (n : Nat)
  /-- TB_NOW_LO_READ (R26): A read of TB_NOW_LO returns TB[31:0] and latches TB[63:32] for the reading initiator. -/
  | tbNowLoRead (ini : Initiator)
  /-- TB_TICK_COUNT_LO_READ (R26): A read of TB_TICK_COUNT_LO returns the low tick count and latches its high half and the tick stamp. -/
  | tbTickCountLoRead (ini : Initiator)
  /-- UPD_STROBE_WRITE (R85): A write to FAB_UPD_STROBE strobes each group whose bit is set and whose SW source is enabled. -/
  | updStrobeWrite (ini : Initiator) (v : Word)
  /-- FAB_UG_CFG_WRITE (R86): A write to FAB_UG_CFG sets strobe sources and may arm the TB compare, giving an immediate strobe when the compare is already late. -/
  | fabUgCfgWrite (ini : Initiator) (g : Nat) (v : Word)
  /-- UG_TBCMP_STROBE (R86): TB reaching an armed compare value strobes the group and advances or disarms the compare. -/
  | ugTbcmpStrobe (g : Nat)
  /-- GLOBAL_SNAPSHOT (R89): A write of FAB_SNAP.GO loads every SNAP copy on one edge, raises FAB_SNAP_SEQ and latches the TB of that edge. -/
  | globalSnapshot (ini : Initiator) (v : Word)
  /-- SYS_BOOTLOCK_WRITE (R83): A write of 1s to SYS_BOOTLOCK closes the named RWL lock classes until a device-level reset. -/
  | sysBootlockWrite (ini : Initiator) (v : Word)
  /-- MBX_CLAIM_READ (R39): A direct read of MBX_CLAIM returns the lowest free session index and reserves it for 1 s. -/
  | mbxClaimRead (ini : Initiator)
  /-- CLAIM_RESERVATION_LAPSE (R39): A session reservation without a LINK_OPEN for 1 s lapses, and Dome releases its bootstrap rings. -/
  | claimReservationLapse (k : Nat)
  /-- BOOTSTRAP_RING_PLACEMENT (R40): Within 1 ms of a claim, Dome places the 16-slot bootstrap rings and sets their EN bits. -/
  | bootstrapRingPlacement (k : Nat)
  /-- SESSION_RING_PLACEMENT (R40): Once the host has consumed the LINK_AUTH response, Dome places the session's rings and window and re-enables them. -/
  | sessionRingPlacement (k : Nat)
  /-- MBX_Q_PROD_WRITE (R36): A host doorbell write to a command ring's producer index is checked and, if valid, hands the new commands to Dome. -/
  | mbxQProdWrite (n : Nat) (v : Word) (slots : List HostSlot)
  /-- MBX_Q_CONS_WRITE (R36): A host write to a module ring's consumer index frees slots and may close a finished transfer ring. -/
  | mbxQConsWrite (n : Nat) (v : Word)
  /-- IRQ_HOLDOFF_EXPIRY (R37): At the end of the mailbox interrupt hold-off, the pending bits set meanwhile are raised together. -/
  | irqHoldoffExpiry
  /-- NOTIF_HOLDOFF_EXPIRY (R53): At the end of the 10 ms hold-off of a class, or when ring room appears, the merged pending notification is written. -/
  | notifHoldoffExpiry (k : Nat) (cls : Nat)
  /-- KMP_DATAGRAM_RX (R55): A UDP datagram to port 47810 is checked for length, CRC and session source and handed on as a command. -/
  | kmpDatagramRx (ip : Nat) (port : Nat) (p : List Byte)
  /-- IPV4_REASSEMBLY_TIMEOUT (R55): IPv4 fragments not reassembled within 2 s are discarded. -/
  | ipv4ReassemblyTimeout (ip : Nat) (ident : Nat)
  /-- UDP_DATA_RESEND (R57): Data-ring records sent over UDP and not acknowledged within 200 ms are sent again. -/
  | udpDataResend (n : Nat)
  /-- LINK_OPEN_KEEP_EXPIRY (R56): The kept response of a UDP LINK_OPEN lapses 10 s after the open. -/
  | linkOpenKeepExpiry (ip : Nat) (port : Nat)
  /-- AUTH_BLOCK_EXPIRY (R60): The 60 s open block of a source ends. -/
  | authBlockExpiry (src : Nat)
  /-- SESSION_IDLE_TIMEOUT (R61): A session with no command for 300 s closes, releasing its rings and EXPERT ownerships. -/
  | sessionIdleTimeout (k : Nat) (loop : Nat)
  /-- PROGRESS_NOTIFY (R49): A running class C command posts a PROGRESS notification at least every 500 ms. -/
  | progressNotify (fn : Nat) (permille : Nat)
  /-- GET_INFO (R45): Returns a function's 16-byte information block. -/
  | getInfo (fn : Nat) (c : Cmd)
  /-- GET_STATUS (R45): Returns the 8 common status bytes and the function-specific bytes. -/
  | getStatus (fn : Nat) (c : Cmd)
  /-- CONFIGURE (R45): Writes a function's pending configuration after checking it. -/
  | configure (fn : Nat) (c : Cmd)
  /-- APPLY (R45): Makes a function's pending configuration current and stores it as the applied configuration. -/
  | apply (fn : Nat) (c : Cmd)
  /-- START (R45): Moves a CONFIGURED function to RUNNING. -/
  | start (fn : Nat) (c : Cmd)
  /-- STOP (R45): Moves a RUNNING function to CONFIGURED with its outputs inactive. -/
  | stop (fn : Nat) (c : Cmd)
  /-- REINIT (R45): Reinitialises a function's class F state through REINIT. -/
  | reinit (fn : Nat) (c : Cmd) (loop : Nat)
  /-- REINIT_COMPLETE (R45): A function's REINIT completes within 50 ms and leaves it CONFIGURED, STOPPED or RUNNING. -/
  | reinitComplete (fn : Nat) (ok : Bool)
  /-- SET_EXPERT (R63): Takes a function into EXPERT ownership for the session or returns it to BASIC. -/
  | setExpert (fn : Nat) (c : Cmd) (loop : Nat)
  /-- EXPERT_TRANSFER (R64): The transfer of a control-plane function to EXPERT takes effect at the next control-tick boundary, and the response follows. -/
  | expertTransfer (fn : Nat)
  /-- LINK_OPEN (R58): Starts a session open and answers with a fresh challenge and the salt. -/
  | linkOpen (c : Cmd)
  /-- LINK_AUTH (R59): Checks the HMAC over the challenge and opens the session with the requested role. -/
  | linkAuth (c : Cmd)
  /-- LINK_CLOSE (R61): Closes the session. -/
  | linkClose (c : Cmd) (loop : Nat)
  /-- LINK_PING (R46): Answers OK and keeps the session alive. -/
  | linkPing (c : Cmd)
  /-- LINK_SUBSCRIBE (R53): Sets the function-ID mask of notifications for the session. -/
  | linkSubscribe (c : Cmd)
  /-- LINK_DATA_ACK (R57): Acknowledges data-ring records up to a consumer index. -/
  | linkDataAck (c : Cmd)
  /-- LINK_KEY_SET (R62): Sets a key and its highest role in the parameter store. -/
  | linkKeySet (c : Cmd)
  /-- SUPPLY_DIP_BEGIN (R97): A monitored supply falls below its threshold and a dip begins. -/
  | supplyDipBegin (i : Nat) (mv : Nat)
  /-- SUPPLY_DIP_END (R97): A supply rises 0.5 V above its threshold; the dip is counted, timed and reported. -/
  | supplyDipEnd (i : Nat) (mv : Nat)
  /-- VRST_SHED (R101): VBAT below 7.5 V sheds field stages within 20 µs and starts the 30 ms hold-up. -/
  | vrstShed (mv : Nat)
  /-- VBAT_RISE_VRST (R103): VBAT rising above 8.0 V starts the 1 ms confirmation of a hold-up or the start of R113. -/
  | vbatRiseVrst (mv : Nat)
  /-- HOLDUP_RECOVERED (R103): VBAT held above 8.0 V for 1 ms within the hold-up; the shed stages return and deferred resets run. -/
  | holdupRecovered
  /-- HOLDUP_EXPIRY (R103): At 30 ms without recovery, the core domains stop and a BOR follows. -/
  | holdupExpiry
  /-- OVERVOLTAGE_SHED (R550): VBAT above 38 V for 10 µs sheds the stages of R101 and posts a WARN event. -/
  | overvoltageShed (mv : Nat)
  /-- OVERVOLTAGE_RECOVER (R550): VBAT below 37 V for 1 ms returns the stages as after a recovered hold-up. -/
  | overvoltageRecover (mv : Nat)
  /-- PSW_GROUP_OVERVOLTAGE (R550): A group supply above 38 V for 10 µs turns that group's channels off until it has stayed below 37 V for 10 ms. -/
  | pswGroupOvervoltage (g : Nat) (mv : Nat)
  /-- CLOCK_LOSS (R107): The island detects loss of the TCXO or root-PLL lock, enters STO and counts the loss. -/
  | clockLoss (tcxo : Bool)
  /-- XTAL32_FAIL (R107): The 32.768 kHz crystal fails and AON falls back to its internal oscillator. -/
  | xtal32Fail
  /-- TEMP_THRESHOLD (R558): A reported temperature crosses a threshold of R558; the reaction is applied and an event posted. -/
  | tempThreshold (i : Nat) (t : Int)
  /-- KEY_OFF (R111): The filtered KEY falls and the key-off sequence begins. -/
  | keyOff
  /-- KEY_ON (R112): The filtered KEY rises: it ends a key-off before step 2 or acts as a wake. -/
  | keyOn
  /-- KEYOFF_SHUTDOWN (R111): At the end of the key-off delay and holds, every function is stopped and staging, the journal, counters and panel are committed. -/
  | keyoffShutdown (loop : Nat)
  /-- KEYOFF_FINAL (R111): 5 s after step 2, the module enters STANDBY or hands over to sentry and releases PWR_HOLD. -/
  | keyoffFinal (susp : Bool)
  /-- KEEP_AWAKE_EXPIRY (R119): A SYS_KEEP_AWAKE hold runs out. -/
  | keepAwakeExpiry (k : Nat)
  /-- STANDBY_TIMEOUT (R110): After STBY_MAX_H hours in STANDBY, the module commits its state and moves to OFF. -/
  | standbyTimeout (loop : Nat)
  /-- SENTRY_AON_LOW (R110): VBAT_AON below V_WARN for 60 s in SENTRY ends SENTRY in OFF. -/
  | sentryAonLow (mv : Nat) (since : Nat)
  /-- POWER_OFF_HOLD_END (R94): PWR_PC_OFF after a release of PWR_HOLD ends, and wake sources may assert it again. -/
  | powerOffHoldEnd
  /-- WAKE (R109): An enabled wake source wakes the module from STANDBY to RUN, or from SENTRY or OFF by a BOR. -/
  | wake (w : WakeIn)
  /-- COUNTER_MIRROR_WRITE (R118): Every 60 s in RUN the counter mirror is written to the parameter store. -/
  | counterMirrorWrite
  /-- POWER_ON_RESET (R115): A start with AON lost resets everything including the island. -/
  | powerOnReset
  /-- BROWN_OUT_RESET (R115): A start after VBAT loss, power cycle or wake resets all but AON. -/
  | brownOutReset
  /-- PIN_RESET (R115): RESET_N low for at least 1 ms with RESETN_EN set resets the core domains. -/
  | pinReset (us : Nat)
  /-- WATCHDOG_RESET (R115): The Dome watchdog not served within its timeout resets the core domains. -/
  | watchdogReset
  /-- DEVICE_RESET (R68): 10 ms after the response to SYS_DEVICE_RESET or UPD_ACTIVATE, DEVRST is performed. -/
  | deviceReset
  /-- CONTAINER_VERIFIED (R114): The Beryl loader verifies the container and Dome moves from BOOT to INIT, or to RECOVERY on failure. -/
  | containerVerified (ok : Bool)
  /-- INIT_COMPLETE (R113): Dome reads the store, writes RWL registers and configurations, loads sub-images, sets locks and enters READY. -/
  | initComplete (subOk : Nat) (loop : Nat)
  /-- FUNCTION_FAULT (R114): A function enters FAULTED and Dome enters DEGRADED. -/
  | functionFault (fn : Nat)
  /-- SYS_START (R114): Moves Dome from READY to RUN, starting the autostart functions. -/
  | sysStart (c : Cmd)
  /-- SYS_STOP (R114): Moves Dome from RUN to READY, stopping the BASIC functions. -/
  | sysStop (c : Cmd)
  /-- SYS_DEVICE_RESET (R68): Answers OK and schedules DEVRST 10 ms later. -/
  | sysDeviceReset (c : Cmd)
  /-- SYS_POWER_CYCLE (R68): Answers OK and releases PWR_HOLD 10 ms later. -/
  | sysPowerCycle (c : Cmd)
  /-- SYS_KEEP_AWAKE (R119): Sets or releases the session's key-off hold. -/
  | sysKeepAwake (c : Cmd)
  /-- SYS_SHUTDOWN_NOW (R119): Starts step 2 of key-off at once with the given target. -/
  | sysShutdownNow (c : Cmd)
  /-- DI_EDGE (R122): A debounced digital input changes state; the edge is stamped and entered in the FIFO. -/
  | diEdge (n : Nat) (level : Bool) (ua : Sample)
  /-- DIN_FIFO_HI_READ (R123): A read of DIN_FIFO_HI returns and removes the head edge entry. -/
  | dinFifoHiRead (ini : Initiator)
  /-- DI_WIRE_BREAK (R124): A WB input below 0.5 mA for DEB enters BREAK. -/
  | diWireBreak (n : Nat) (ua : Sample)
  /-- DI_BREAK_CLEAR (R124): A WB input's current returns above 0.5 mA and the channel leaves BREAK. -/
  | diBreakClear (ua : Reading)
  /-- FIELD_SUPPLY_CHANGE (R125): A DI group's field supply crosses LOW or MISSING. -/
  | fieldSupplyChange (g : Nat) (mv : Nat)
  /-- DIN_READ_EDGES (R141): Returns buffered edge entries and the loss count. -/
  | dinReadEdges (c : Cmd)
  /-- AIN_FAULT_ENTER (R129): A channel fault condition persists for FLTT × 10 ms and the entry becomes invalid; clearing is timed alike. -/
  | ainFaultEnter (kind : Nat) (n : Nat) (on : Bool)
  /-- AIN_4MA_TRIP (R129): A 4–20 mA input above 25 mA for 1 ms disconnects its shunt. -/
  | ain4maTrip (n : Nat)
  /-- AIN_4MA_RECONNECT (R129): The shunt is reconnected 1 s after a trip. -/
  | ain4maReconnect (n : Nat)
  /-- SUPPLY_TRIP (R130): A sensor supply in current limit for 20 ms turns off, latching after the third consecutive trip. -/
  | supplyTrip (i : Nat)
  /-- SUPPLY_RETRY (R130): A tripped, unlatched sensor supply retries after 1 s. -/
  | supplyRetry (i : Nat)
  /-- SUPPLY_TRIP_COUNT_RESET (R130): The trip count returns to zero after 60 s without a trip. -/
  | supplyTripCountReset (i : Nat)
  /-- AIN_SUP_RESTART_WRITE (R130): A write of 1s to AIN_SUP_RESTART turns latched supplies on again. -/
  | ainSupRestartWrite (ini : Initiator) (v : Word)
  /-- AIN_SUP_RESTART (R141): Restarts the sensor supplies in the mask. -/
  | ainSupRestart (c : Cmd)
  /-- AIN_BRIDGE_TARE (R141): Averages the requested bridge codes and stores the mean as TARE. -/
  | ainBridgeTare (c : Cmd)
  /-- ACU_WINDOW_END (R137): At the end of each 10 ms window the acoustic impact-rate entries are computed. -/
  | acuWindowEnd
  /-- SENT_FRAME (R138): A SENT frame is checked and, if accepted, written to its signal-bus entry. -/
  | sentFrame (ch : Nat) (f : SentRx)
  /-- SENT_TIMEOUT (R139): A SENT period with no accepted frame counts as a rejected frame and may fault the channel. -/
  | sentTimeout (ch : Nat)
  /-- SENT_SLOW_MESSAGE (R139): A completed slow-channel message is CRC-checked and stored. -/
  | sentSlowMessage (ch : Nat) (id : Nat) (ty : Nat) (data : Nat) (crc : Nat)
  /-- SNT_SLOW_TABLE (R141): Returns the slow-channel table of a SENT channel. -/
  | sntSlowTable (c : Cmd)
  /-- CST_SAMPLE (R146): At a sample boundary Coelostat reads its inputs, forms J, updates freeze, accumulates and writes every path. -/
  | cstSample
  /-- CST_HOLD_END (R154): After H samples of HOLD, ACCUM begins. -/
  | cstHoldEnd
  /-- CST_BLOCK_END (R152): After N samples the block ends; estimates are formed and step decisions made. -/
  | cstBlockEnd
  /-- CST_LPT_SAMPLE (R148): Every 100 ms the fuel and throughput signals are read and fuel per tonne updated. -/
  | cstLptSample
  /-- CST_OVR_WRITE (R160): A host write to CST_OVR in EXPERT sets or releases overrides and starts HOLD. -/
  | cstOvrWrite (ini : Initiator) (v : Word)
  /-- CST_SET_MODE (R157): Sets the Coelostat mode, effective at the next block end. -/
  | cstSetMode (c : Cmd)
  /-- CST_OVERRIDE (R160): Sets or releases the override of one MF. -/
  | cstOverride (c : Cmd)
  /-- CST_ACCEPT (R164): Applies a standing advice to an MF and starts HOLD. -/
  | cstAccept (c : Cmd)
  /-- CST_WEIGHTS (R164): Replaces the term weights, discarding the block and starting HOLD. -/
  | cstWeights (c : Cmd)
  /-- CST_READ_MF (R164): Returns the centre, estimates and suggestion of one MF. -/
  | cstReadMf (c : Cmd)
  /-- YPL_SAMPLE (R174): At each 100 ms boundary Yield Plate forms the sample, scatters it, finalises a footprint, allocates cells and publishes. -/
  | yplSample
  /-- YPL_INVERSE_READY (R173): The inverse taps for a new kernel or λ are computed and INV_READY set. -/
  | yplInverseReady
  /-- YPL_CAL_COMPUTE_DONE (R177): After the last calibration event, the kernel is computed and accepted or rejected. -/
  | yplCalComputeDone
  /-- YPL_CAL_TIMEOUT (R177): A calibration without E events after 3,600 s ends with TIMEOUT. -/
  | yplCalTimeout
  /-- YPL_TILE_LOADED (R184): A spilled tile becomes resident and the waiting footprint proceeds. -/
  | yplTileLoaded
  /-- YPL_CHECKPOINT (R185): Every CKPT seconds the dirty tiles, footprints and balance are written to eMMC as one set. -/
  | yplCheckpoint
  /-- YPL_CLOSING_END (R189): 255 samples after FIELD_CLOSE the last footprint is final, a checkpoint is written and the field is CLOSED. -/
  | yplClosingEnd
  /-- YPL_FIELD_CTRL_OPEN (R189): A write of CMD 1 to YPL_FIELD_CTRL in EXPERT opens a new field. -/
  | yplFieldCtrlOpen (ini : Initiator)
  /-- YPL_FIELD_CTRL_RESUME (R190): A write of CMD 2 to YPL_FIELD_CTRL in EXPERT resumes a stored field. -/
  | yplFieldCtrlResume (ini : Initiator)
  /-- YPL_FIELD_CTRL_CLOSE (R189): A write of CMD 3 to YPL_FIELD_CTRL in EXPERT enters CLOSING. -/
  | yplFieldCtrlClose (ini : Initiator)
  /-- YPL_FIELD_OPEN (R189): Opens a new field or resumes a stored one at the next sample boundary. -/
  | yplFieldOpen (c : Cmd)
  /-- YPL_FIELD_CLOSE (R189): Enters CLOSING for the open field. -/
  | yplFieldClose (c : Cmd)
  /-- YPL_CAL_KERNEL (R176): Starts or aborts the collection of fill and flush events. -/
  | yplCalKernel (c : Cmd)
  /-- YPL_KERNEL_SET (R172): Sets and normalises the kernel and λ and strobes UG10. -/
  | yplKernelSet (c : Cmd)
  /-- YPL_KERNEL_GET (R194): Returns the kernel, inverse, λ and truncation. -/
  | yplKernelGet (c : Cmd)
  /-- YPL_TILE_READ (R194): Opens a data ring streaming the non-empty cells of a tile. -/
  | yplTileRead (c : Cmd)
  /-- YPL_EXPORT (R191): Builds the ISO 11783-10 export of a CLOSED field. -/
  | yplExport (c : Cmd)
  /-- YPL_EXPORT_READ (R194): Opens a data ring streaming the export files. -/
  | yplExportRead (c : Cmd)
  /-- YPL_WEIGH (R194): Marks the start of a weighing or calibrates the flow gain from a weighed mass. -/
  | yplWeigh (c : Cmd)
  /-- MER_ST_I_WRITE (R210): A write of MER_ST_I sets the slot integrator at the next tick boundary. -/
  | merStIWrite (ini : Initiator) (m : Nat) (v : Word)
  /-- MER_SETPOINT (R212): Writes up to five slot setpoints, all effective at one boundary. -/
  | merSetpoint (c : Cmd)
  /-- MER_SET_GAINS (R212): Writes a slot's coefficients and strobes UG1. -/
  | merSetGains (c : Cmd)
  /-- MER_INT_SET (R212): Sets a slot's integrator as a write of MER_ST_I. -/
  | merIntSet (c : Cmd)
  /-- MER_READ_SLOT (R212): Returns a slot's setpoint and state words. -/
  | merReadSlot (c : Cmd)
  /-- ADR_EVT_DUR_WRITE (R225): A write of ADR_EVT_DUR arms the channel's event triple for the next UG3 strobe. -/
  | adrEvtDurWrite (ini : Initiator) (n : Nat) (v : Word)
  /-- ADR_EVENT_START (R226): TB reaches a queued event's start; trim, profile and band are latched and the event is arbitrated for the bank. -/
  | adrEventStart (n : Nat)
  /-- ADR_BOOST_END (R215): The current reaches I_BOOST and the event passes to PEAK. -/
  | adrBoostEnd (n : Nat)
  /-- ADR_BOOST_TIMEOUT (R215): t_BOOST_MAX expires and the event passes to PEAK with BOOST_TMO. -/
  | adrBoostTimeout (n : Nat)
  /-- ADR_BANK_ILIM (R245): The bank high-side current reaches 25 A in BOOST and the owner's BOOST ends. -/
  | adrBankIlim (k : Nat)
  /-- ADR_PEAK_END (R215): t_PEAK expires; the owner releases the bank and the transition to HOLD begins. -/
  | adrPeakEnd (n : Nat)
  /-- ADR_HOLD_REACHED (R215): The current falls to I_HOLD + HYST/2 and HOLD begins. -/
  | adrHoldReached (n : Nat)
  /-- ADR_EVENT_END (R226): The effective duration expires and the event enters DECAY. -/
  | adrEventEnd (n : Nat)
  /-- ADR_DECAY_END (R215): The current falls below 50 mA; the record closes with motion results. -/
  | adrDecayEnd (n : Nat)
  /-- ADR_DECAY_TIMEOUT (R215): After 5 ms of DECAY the recirculation opens and DECAY_TMO is set. -/
  | adrDecayTimeout (n : Nat)
  /-- ADR_CLOSE_WINDOW_END (R250): The closing-detection window of CWIN × 10 µs ends. -/
  | adrCloseWindowEnd (n : Nat)
  /-- ADR_DEFER_TIMEOUT (R242): A waiting event reaches DEFER_MAX and is dropped with cause COLLIDE. -/
  | adrDeferTimeout (n : Nat)
  /-- ADR_SHORT (R234): A channel detects a short, turns off and may latch. -/
  | adrShort (n : Nat)
  /-- ADR_SHORT_RETRY (R234): A continuous-mode channel resumes 100 ms after an unlatched short. -/
  | adrShortRetry (n : Nat)
  /-- ADR_OPEN (R233): A continuous channel below OPEN_TH for 10 ms sets OPEN, or clears it after 10 ms above. -/
  | adrOpen (n : Nat) (on : Bool)
  /-- ADR_DITHER_PERIOD (R229): A proportional channel starts a dither period and takes up profile and band. -/
  | adrDitherPeriod (n : Nat)
  /-- ADR_TEMP_ESTIMATE_EXPIRY (R232): A coil-temperature estimate becomes unavailable 60 s after its last measurement. -/
  | adrTempEstimateExpiry (n : Nat)
  /-- ADR_CH_CMD_WRITE (R229): A write of ADR_CH_CMD sets the proportional command, or starts or ends an ON/OFF event. -/
  | adrChCmdWrite (ini : Initiator) (n : Nat) (v : Word)
  /-- ADR_FAULT_WRITE (R234): A write of 1 to a bit of ADR_FAULT0 or ADR_FAULT1 clears that channel's latch. -/
  | adrFaultWrite (ini : Initiator) (w : Nat) (v : Word)
  /-- ADR_BOOST_SPILL (R222): VBST rises above the spill threshold and fast decays are forced slow. -/
  | adrBoostSpill (mv : Nat)
  /-- ADR_EVENT (R237): Writes up to three timed events, applied at the end of the tick. -/
  | adrEvent (c : Cmd)
  /-- ADR_SET_CURRENT (R237): Sets a proportional channel's command. -/
  | adrSetCurrent (c : Cmd)
  /-- ADR_SWITCH (R237): Switches an ON/OFF channel. -/
  | adrSwitch (c : Cmd)
  /-- ADR_CH_CLEAR (R237): Clears channel latches and SCCNT. -/
  | adrChClear (c : Cmd)
  /-- ADR_READ_CH (R237): Returns a channel's status and last record. -/
  | adrReadCh (c : Cmd)
  /-- ADR_BOOST_SET (R237): Sets and stores the boost target. -/
  | adrBoostSet (c : Cmd)
  /-- ADR_BANK_SET (R256): Sets and stores a bank's enable and collision policy. -/
  | adrBankSet (c : Cmd)
  /-- ADR_BANK_READ (R256): Returns a bank's status and counters. -/
  | adrBankRead (c : Cmd)
  /-- ADR_READ_MOT (R256): Returns a channel's motion results. -/
  | adrReadMot (c : Cmd)
  /-- PSW_PWM_PERIOD (R260): A PWM channel begins a period with the duty and compensation in force. -/
  | pswPwmPeriod (n : Nat)
  /-- PSW_INRUSH_END (R263): A channel's inrush window ends and the steady limit applies. -/
  | pswInrushEnd (n : Nat)
  /-- PSW_OC_TRIP (R264): A current above the threshold for 5 µs turns the channel off and enters back-off or latch. -/
  | pswOcTrip (ma : Reading)
  /-- PSW_RETRY (R265): A back-off expires and the channel retries with its inrush window. -/
  | pswRetry (n : Nat)
  /-- PSW_RCNT_RESET (R265): 1 s continuously ON without a trip resets RCNT. -/
  | pswRcntReset (n : Nat)
  /-- PSW_THERMAL_TRIP (R266): The junction reaches 175 °C and the channel latches with TH. -/
  | pswThermalTrip (n : Nat) (tj : Int)
  /-- PSW_UNDERVOLTAGE (R268): A group supply below UV_OFF turns its channels off. -/
  | pswUndervoltage (g : Nat) (mv : Nat)
  /-- PSW_UV_RESTART (R270): A group supply above UV_ON for 10 ms reaches its restart instant. -/
  | pswUvRestart (g : Nat) (mv : Sample)
  /-- PSW_STAGGER_TURN_ON (R270): The next channel of a restart turns on STAG ms after the previous one. -/
  | pswStaggerTurnOn (g : Nat)
  /-- PSW_BUDGET_SHED (R272): After ten consecutive budget excesses one channel is shed. -/
  | pswBudgetShed (g : Nat)
  /-- PSW_OPEN_LOAD (R276): On-state samples below OL_TH for OL_T set OPEN; OL_T above clears it. -/
  | pswOpenLoad (n : Nat) (ma : Nat)
  /-- PSW_HOLDOFF_END (R274): The 1 s hold-off of an inductive channel without FWD ends and the waiting turn-on proceeds. -/
  | pswHoldoffEnd (n : Nat)
  /-- PSW_LATCHED_WRITE (R265): A write of 1 to a bit of PSW_LATCHED clears OCL or TH. -/
  | pswLatchedWrite (ini : Initiator) (v : Word)
  /-- PSW_SWITCH (R279): Sets a channel's mode and duty at the next UG4 strobe. -/
  | pswSwitch (c : Cmd)
  /-- PSW_CH_CLEAR (R279): Clears OCL, TH or budget sheds of the channels in the mask. -/
  | pswChClear (c : Cmd)
  /-- PSW_READ_CH (R279): Returns a channel's status-page words. -/
  | pswReadCh (c : Cmd)
  /-- PSW_GROUP_SET (R279): Sets and stores a group's enable, thresholds, budget and stagger. -/
  | pswGroupSet (c : Cmd)
  /-- TRN_MS_BOUNDARY (R289): Every millisecond the sequencer closes the loops, writes the NCO words and acts on UG7 changes and AUTO starts. -/
  | trnMsBoundary (ms : List TrnMs) (fe : List (Nat × Nat))
  /-- TRN_EPOCH (R296): At a measurement epoch the accumulators are latched and the epoch's records formed. -/
  | trnEpoch (es : List TrnEp)
  /-- TRN_ACQ_REQ_WRITE (R292): A write of TRN_ACQ_REQ queues an acquisition request. -/
  | trnAcqReqWrite (ini : Initiator) (e : Nat) (v : Word)
  /-- TRN_SWEEP_END (R293): An acquisition sweep and its verify sets complete and the result is entered. -/
  | trnSweepEnd (e : Nat) (r : TrnSweep)
  /-- TRN_ACQ_RES_C_READ (R293): A read of TRN_ACQ_RES_C removes the head result entry. -/
  | trnAcqResCRead (ini : Initiator) (e : Nat)
  /-- TRN_PULLIN_END (R288): The FLL-only pull-in time ends and the PLL closes. -/
  | trnPullinEnd (n : Nat)
  /-- TRN_CARR_LOCK (R290): The carrier-lock indicator sets or clears after its hold time. -/
  | trnCarrLock (n : Nat) (on : Bool)
  /-- TRN_LOST (R288): C/N0 below CN0_LOST for 500 ms moves the channel to LOST. -/
  | trnLost (n : Nat)
  /-- TRN_COAST_END (R288): A LOST channel without restored power after COAST returns to IDLE. -/
  | trnCoastEnd (n : Nat)
  /-- TRN_HANDOVER_PASS (R295): A handover pass completes and the target accepts a position or repeats. -/
  | trnHandoverPass (n : Nat) (pw : List Nat)
  /-- TRN_HANDOVER_TIMEOUT (R295): A handover without acceptance after HO_TMO fails and the channel returns to IDLE. -/
  | trnHandoverTimeout (n : Nat)
  /-- TRN_NAV_UNIT (R299): A navigation unit is complete and its record with check status is written. -/
  | trnNavUnit (n : Nat) (u : TrnNav)
  /-- TRN_ANT_FAULT (R282): An antenna feed crosses its open or short threshold. -/
  | trnAntFault (a : Nat) (ma : Nat)
  /-- TRN_ANT_RETRY (R282): A shorted antenna feed retries after 1 s. -/
  | trnAntRetry (a : Nat) (ma : Nat)
  /-- TRN_RXT_HI_WRITE (R298): A write of TRN_RXT_HI applies the receiver time at the next epoch. -/
  | trnRxtHiWrite (ini : Initiator) (v : Word)
  /-- TRN_CHANNEL (R305): Assigns a host channel and strobes UG7. -/
  | trnChannel (c : Cmd)
  /-- TRN_ACQUIRE (R305): Queues an acquisition request. -/
  | trnAcquire (c : Cmd)
  /-- TRN_RAW_OPEN (R300): Opens a raw-data ring for a mask of record types. -/
  | trnRawOpen (c : Cmd)
  /-- TRN_RAW_CLOSE (R305): Closes a raw-data ring. -/
  | trnRawClose (c : Cmd)
  /-- TRN_READ_CH (R305): Returns a channel's status words. -/
  | trnReadCh (c : Cmd)
  /-- POS_SOLUTION (R307): The position service computes a GNSS solution for an epoch and updates quality, time and the filter. -/
  | posSolution (x : PosSol)
  /-- POS_OUTPUT (R312): Every 10 ms the complete solution is written to SIG 0x080 to 0x0BF. -/
  | posOutput
  /-- POS_RTCM_FRAME (R308): An RTCM 3 frame from an enabled source is checked and used. -/
  | posRtcmFrame (src : Nat) (p : List Byte)
  /-- POS_CORR_AGE_EXPIRY (R309): Corrections reach AGE_MAX and quality falls to 2. -/
  | posCorrAgeExpiry
  /-- POS_DR_EXPIRY (R311): Dead reckoning reaches POS_DR_MAX and quality becomes 0. -/
  | posDrExpiry
  /-- POS_DISCIPLINE (R319): Once per second the service sets the TB trim from drift and bias. -/
  | posDiscipline
  /-- POS_PPS (R320): The PPS output rises at a whole GPS second. -/
  | posPps
  /-- POS_PPS_END (R320): The PPS output falls after PPS_W ms. -/
  | posPpsEnd
  /-- SENTRY_BURST (R323): Each second in BURST the receiver tracks for 100 ms, runs the motion test and stores a set. -/
  | sentryBurst (hits : List SentryHit)
  /-- SENTRY_SNAPSHOT (R324): Every interval in SNAPSHOT one 4 ms snapshot is captured and stored. -/
  | sentrySnapshot (p : List Byte)
  /-- POS_RTCM (R327): Feeds RTCM 3 bytes to the service. -/
  | posRtcm (c : Cmd)
  /-- POS_RTCM_SRC (R327): Selects the RTCM sources. -/
  | posRtcmSrc (c : Cmd)
  /-- POS_ORIGIN (R327): Sets the local origin. -/
  | posOrigin (c : Cmd)
  /-- POS_SENTRY_SET (R327): Sets and stores the sentry settings. -/
  | posSentrySet (c : Cmd)
  /-- POS_SENTRY_READ (R327): Opens a ring streaming the sentry store. -/
  | posSentryRead (c : Cmd)
  /-- POS_SNAP_SOLVE (R325): Computes coarse-time fixes from stored snapshots. -/
  | posSnapSolve (c : Cmd)
  /-- POS_SENTRY_CLEAR (R327): Clears the sentry store. -/
  | posSentryClear (c : Cmd)
  /-- CAM_SEGMENT (R330): An AVTP segment of an enabled stream is checked and assembled into its frame. -/
  | camSegment (port : Nat) (x : CamSeg)
  /-- CAM_FRAME_CLOSE_TIMEOUT (R331): A frame in assembly closes CLOSE_MS after its first segment. -/
  | camFrameCloseTimeout (port : Nat)
  /-- CAM_STREAM_LOST (R333): A stream with no accepted segment for 500 ms becomes LOST. -/
  | camStreamLost (port : Nat)
  /-- CAM_ISP_COMPLETE (R346): The ISP completes a frame's outputs and the descriptor is published. -/
  | camIspComplete (ctx : Nat)
  /-- CAM_ENC_AU_COMPLETE (R344): The encoder completes an access unit and writes it to the bitstream buffer. -/
  | camEncAuComplete (e : Nat) (au : List Byte)
  /-- CAM_LOAD_UPDATE (R338): ISP occupancy over the last second is updated and OVERLOAD set or cleared. -/
  | camLoadUpdate (load : Nat)
  /-- CAM_TBL_DATA_ACCESS (R340): An access to CAM_TBL_DATA reaches the pending table entry and advances the index. -/
  | camTblDataAccess (ini : Initiator) (w : Option Word)
  /-- CAM_CTX_REL_WRITE (R342): A write of CAM_CTX_REL frees the named buffers. -/
  | camCtxRelWrite (ini : Initiator) (ctx : Nat) (v : Word)
  /-- CAM_ENC_CMD_WRITE (R343): A write of CAM_ENC_CMD.IDR forces an IDR. -/
  | camEncCmdWrite (ini : Initiator) (e : Nat) (v : Word)
  /-- CAM_ENC_RD_WRITE (R344): A write of CAM_ENC_RD releases bitstream space. -/
  | camEncRdWrite (ini : Initiator) (e : Nat) (v : Word)
  /-- CAM_RING_OPEN (R346): Opens a descriptor ring for a context. -/
  | camRingOpen (c : Cmd)
  /-- CAM_ENC_OPEN (R346): Opens a descriptor ring for an encoder channel. -/
  | camEncOpen (c : Cmd)
  /-- CAM_BUFFERS (R350): Returns the DRAM addresses of a context's buffers. -/
  | camBuffers (c : Cmd)
  /-- CAM_RELEASE (R342): Releases held buffers or bitstream space. -/
  | camRelease (c : Cmd)
  /-- CAM_TABLE_SET (R350): Writes a gamma or LSC table and strobes UG8. -/
  | camTableSet (c : Cmd)
  /-- CAM_M2M_SUBMIT (R350): Submits a frame from memory to a context. -/
  | camM2mSubmit (c : Cmd) (mem : List Byte)
  /-- CAM_ENC_IDR (R343): Forces an IDR on an encoder channel. -/
  | camEncIdr (c : Cmd)
  /-- AST_LIST_PART (R354): A list part arrives; a complete list is parsed, timed and accepted or discarded. -/
  | astListPart (x : AstRx)
  /-- AST_PART_TIMEOUT (R354): A list not complete 10 ms after its first part is discarded as INCOMPLETE. -/
  | astPartTimeout (k : Nat)
  /-- AST_SUB_GO_WRITE (R352): A write of AST_SUB_GO submits a host list from DRAM. -/
  | astSubGoWrite (ini : Initiator) (v : Word) (mem : List Byte)
  /-- AST_EGO_SAMPLE (R359): At 400 Hz the odometry estimator samples speed and yaw rate. -/
  | astEgoSample
  /-- AST_FUSION_CYCLE (R368): At a cycle boundary pending lists are associated, tracks updated, born or deleted and the cycle published. -/
  | astFusionCycle (us : Nat)
  /-- AST_SOURCE_LOST (R357): A source without an accepted list for 3 frame periods becomes LOST. -/
  | astSourceLost (k : Nat)
  /-- AST_RING_OPEN (R371): Opens a track output ring. -/
  | astRingOpen (c : Cmd)
  /-- AST_RING_CLOSE (R374): Closes a track output ring. -/
  | astRingClose (c : Cmd)
  /-- AST_LIST (R374): Submits a host list part for a TRANS 2 source. -/
  | astList (c : Cmd)
  /-- AST_READ_TRACK (R374): Returns one track record. -/
  | astReadTrack (c : Cmd)
  /-- AST_CLEAR (R372): Deletes every track at the next boundary. -/
  | astClear (c : Cmd)
  /-- SAF_CYCLE (R376): Every 1 ms the island evaluates inputs, speeds, connections and triggers and decides its state. -/
  | safCycle (x : SafIn)
  /-- SAF_DISCREPANCY (R378): A dual-channel pair disagrees for longer than DISC and raises fault SI. -/
  | safDiscrepancy (i : Nat)
  /-- SAF_SPEED_DISCREPANCY (R380): A monitor's inputs disagree beyond tolerance for longer than DISC and raise fault SS. -/
  | safSpeedDiscrepancy (m : Nat)
  /-- SAF_TEST_PULSE (R379): A test-pulse output switches off for W and its fed inputs are checked. -/
  | safTestPulse (k : Nat) (x : SafTp)
  /-- SAF_STANDSTILL (R380): Both inputs of a monitor below v_ss for t_ss declare standstill. -/
  | safStandstill (m : Nat)
  /-- SAF_T_MAX_EXPIRY (R384): SS1 reaches t_max and the island enters STO with cause T_MAX. -/
  | safTMaxExpiry
  /-- SAF_SO_TEST (R386): Once per second an on safe output is tested with off-pulses and read back. -/
  | safSoTest (n : Nat) (ok : Bool)
  /-- SAF_EDM_TIMEOUT (R388): An EDM not in its expected state within EDM_T raises fault SO. -/
  | safEdmTimeout (n : Nat)
  /-- SAF_RESET_INPUT (R389): A RESET press of 100 ms to 2 s ends and the island checks the reset conditions. -/
  | safResetInput (i : Nat)
  /-- SAFETY_RESET (R390): 10 ms after STO for a clock or line fault, the island asserts SAFRST. -/
  | safetyReset
  /-- SAF_SELF_TEST_DONE (R392): The island's memory, CRC and line tests complete after POR or BOR. -/
  | safSelfTestDone (ok : Bool) (addr : Nat) (dip : Nat) (image : Bool)
  /-- SAF_READY_CHECK (R392): At Dome READY the island compares the routing registers with its parameter set and enters STO. -/
  | safReadyCheck
  /-- SAF_SEAL_CHANGE (R409): A switch value differing from its start value for three cycles holds STO with cause SEAL. -/
  | safSealChange (obj : Nat)
  /-- SAF_STOP_REQ (R396): Requests an SS1 with cause HOST. -/
  | safStopReq (c : Cmd)
  /-- SAF_READ_PARAMS (R396): Returns the active safety parameter set. -/
  | safReadParams (c : Cmd)
  /-- SAF_FAULT_LOG (R396): Returns the newest island faults. -/
  | safFaultLog (c : Cmd)
  /-- SAF_PARAM_WRITE (R411): Writes a safety parameter set to the inactive set. -/
  | safParamWrite (c : Cmd)
  /-- JASPER_FRAME_RX (R400): A Jasper frame on a consumed connection's binding is checked and accepted, discarded or failed. -/
  | jasperFrameRx (n : Nat) (p : List Byte)
  /-- JASPER_WATCHDOG (R400): No valid frame within WD ms fails the connection. -/
  | jasperWatchdog (n : Nat)
  /-- JASPER_PRODUCE (R403): Every PERIOD ms a produced connection sends a frame. -/
  | jasperProduce (n : Nat)
  /-- CAN_FRAME_RX (R418): A valid received frame is offered to the island, Astrolabe, the position service, imports and message objects. -/
  | canFrameRx (n : Nat) (x : CanRx)
  /-- CAN_TX_COMPLETE (R425): A transmission ends as sent, lost arbitration or error, and is retried unless one-shot. -/
  | canTxComplete (n : Nat) (sof : Nat) (res : Nat)
  /-- CAN_BUS_ERROR (R426): A bus error changes TEC or REC and may move the controller to PASSIVE or BUSOFF. -/
  | canBusError (n : Nat) (dt : Nat) (dr : Nat) (lec : Nat)
  /-- CAN_RECOVERY_START (R426): BOFF_T × 10 ms after bus-off with RECOV 0, recovery starts. -/
  | canRecoveryStart (n : Nat)
  /-- CAN_RECOVERY_DONE (R426): After 128 sequences of 11 recessive bits the controller is ACTIVE. -/
  | canRecoveryDone (n : Nat)
  /-- CAN_IMPORT_TIMEOUT (R420): An import entry without a matching frame for TMO ms becomes invalid. -/
  | canImportTimeout (i : Nat)
  /-- CAN_CLAIM_TIMEOUT (R427): 250 ms after its claim without a winning contender, the controller holds CLAIMED. -/
  | canClaimTimeout (n : Nat)
  /-- CAN_TXQ_CTRL_WRITE (R422): A write of CAN_TXQ_CTRL enqueues the staged frame. -/
  | canTxqCtrlWrite (ini : Initiator) (n : Nat) (v : Word)
  /-- CAN_CTRL_RECOVER_WRITE (R426): A write of 1 to CAN_CTRL.RECOVER starts recovery from BUSOFF. -/
  | canCtrlRecoverWrite (ini : Initiator) (n : Nat)
  /-- LIN_SLOT (R429): A LIN schedule entry begins and the header is sent. -/
  | linSlot (k : Nat)
  /-- LIN_RESPONSE_RX (R429): A LIN response is complete and checked. -/
  | linResponseRx (k : Nat) (p : List Byte)
  /-- LIN_RESPONSE_TIMEOUT (R429): A subscribed response does not arrive in time and LIN_NORESP rises. -/
  | linResponseTimeout (k : Nat)
  /-- CAN_SEND (R422): Enqueues a frame on the host transmit queue. -/
  | canSend (c : Cmd)
  /-- CAN_RING_OPEN (R421): Opens a data ring for a controller or LIN channel. -/
  | canRingOpen (c : Cmd)
  /-- CAN_RECOVER (R426): Starts recovery of the controllers in the mask. -/
  | canRecover (c : Cmd)
  /-- CAN_SLEEP (R428): Puts the controllers in the mask to sleep. -/
  | canSleep (c : Cmd)
  /-- CAN_EXPORT_SET (R424): Sets an export entry's value. -/
  | canExportSet (c : Cmd)
  /-- LIN_SLEEP (R429): Sends the go-to-sleep frame and stops the schedule. -/
  | linSleep (c : Cmd)
  /-- ETH_FRAME_RX (R438): An Ethernet frame at ingress is policed, switched or delivered to camera, endpoint or island. -/
  | ethFrameRx (x : EthRx)
  /-- ETH_LINK_CHANGE (R435): A port's link comes up or goes down. -/
  | ethLinkChange (k : Nat) (x : EthLink)
  /-- ETH_PTP_SYNC (R444): A Sync from the grandmaster updates the gPTP relation and the time difference. -/
  | ethPtpSync (gm : Nat) (g : Nat)
  /-- ETH_SYNC_TIMEOUT (R444): No Sync for three intervals clears SYNCED. -/
  | ethSyncTimeout
  /-- ETH_SYNC_SEND (R443): As grandmaster the module sends a Sync every 2^-SYNC_LOG s. -/
  | ethSyncSend (best : Bool)
  /-- ETH_SERVO_TRIM (R442): Once per second the 802.1AS servo writes the TB trim. -/
  | ethServoTrim
  /-- ETH_GCL_GO_WRITE (R440): A write of ETH_GCL_GO schedules the pending gate list of a port. -/
  | ethGclGoWrite (ini : Initiator) (v : Word)
  /-- ETH_GCL_SWITCH (R440): At the scheduled cycle start the pending gate list becomes operating. -/
  | ethGclSwitch (k : Nat)
  /-- ETH_GCL_DATA_ACCESS (R440): An access to ETH_GCL_DATA reaches the pending list entry and advances the index. -/
  | ethGclDataAccess (ini : Initiator) (w : Option Word)
  /-- ETH_PTP_G_LO_READ (R444): A read of ETH_PTP_G_LO latches the other relation words. -/
  | ethPtpGLoRead (ini : Initiator)
  /-- SER_FRAME_END (R447): An RS-485 frame ends after its silence and is checked and written to its ring. -/
  | serFrameEnd (n : Nat) (x : SerRx)
  /-- ETH_TIME_GET (R449): Returns the gPTP relation and trim. -/
  | ethTimeGet (c : Cmd)
  /-- ETH_GCL_SET (R449): Writes and schedules a port's gate list. -/
  | ethGclSet (c : Cmd)
  /-- ETH_TRIM_SET (R449): Sets the TB trim when SRC is 0. -/
  | ethTrimSet (c : Cmd)
  /-- ETH_SER_OPEN (R447): Opens a data ring for an RS-485 port. -/
  | ethSerOpen (c : Cmd)
  /-- ETH_SER_SEND (R447): Transmits up to 256 bytes on an RS-485 port. -/
  | ethSerSend (c : Cmd)
  /-- PAIR_BEACON_RX (R454): A beacon or grant on the link or CAN is checked and answered with a grant or taken as a lease. -/
  | pairBeaconRx (can : Bool) (p : List Byte) (ack : Option Nat)
  /-- PAIR_CAN_BEACON (R453): Every 5 ms a unit sends its CAN beacon. -/
  | pairCanBeacon
  /-- PAIR_LEASE_EXPIRY (R455): A lease expires and the unit decides whether it still acts. -/
  | pairLeaseExpiry
  /-- PAIR_GUARD_END (R454): A grantor's guard ends and it may act under Peer dead or Partition. -/
  | pairGuardEnd
  /-- PAIR_ALIVE_CHANGE (R452): The peer's PAIR_ALIVE line holds a new state for t_alive. -/
  | pairAliveChange (mv : Nat) (since : Nat)
  /-- PAIR_PEER_DEAD_END (R455): t_lease_C after the peer leaves DEAD the Peer dead authority ends. -/
  | pairPeerDeadEnd
  /-- PAIR_PARTITION_TIMEOUT (R455): A PRIMARY without a HOLD beacon for t_part acts under Partition. -/
  | pairPartitionTimeout
  /-- PAIR_SOLO_TIMEOUT (R455): Peer DEAD for t_solo without a grant makes the acting unit SOLO. -/
  | pairSoloTimeout
  /-- PAIR_COPY_RX (R459): The standby receives a state copy, checks it and applies its deltas. -/
  | pairCopyRx (x : PairCopy)
  /-- PAIR_GATE_CONFIRM (R456): After the gate closes, the governed stages are confirmed off or STUCK is set. -/
  | pairGateConfirm (off : Bool)
  /-- PAIR_REVERT_HOLD_EXPIRY (R463): A PRIMARY HEALTHY in STANDBY for REVERT_HOLD s sets REVERT_REQ. -/
  | pairRevertHoldExpiry
  /-- PAIR_SWAP (R464): Hands acting over to the peer through a RELEASE beacon. -/
  | pairSwap (c : Cmd)
  /-- PAIR_REVERT (R463): Suspends or re-arms the automatic return. -/
  | pairRevert (c : Cmd)
  /-- FLT_HEARTBEAT (R469): Every t_hop a unit sends a heartbeat to its parent and children. -/
  | fltHeartbeat
  /-- FLT_PARENT_LOST (R469): Nothing from the parent for 3 × t_hop makes it LOST and the next endpoint is tried. -/
  | fltParentLost
  /-- FLT_HANDSHAKE (R470): A DTLS handshake completes or fails. -/
  | fltHandshake (x : FltHs)
  /-- FLT_HANDSHAKE_RETRY (R470): A failed handshake is retried after t_hop. -/
  | fltHandshakeRetry
  /-- FLT_KEY_UPDATE (R470): Every 24 h an association performs a KeyUpdate. -/
  | fltKeyUpdate
  /-- FLT_HEARTBEAT_RX (R469): A heartbeat from parent or child is received. -/
  | fltHeartbeatRx (h : FltHdr)
  /-- FLT_COVERAGE_SEND (R471): Every COV_PER s changed coverage tiles are sent up. -/
  | fltCoverageSend
  /-- FLT_COVERAGE_RX (R471): A received coverage tile is ORed into the fleet coverage of its field. -/
  | fltCoverageRx (h : FltHdr) (x : FltTile)
  /-- FLT_RTCM_RX (R472): RTCM frames from the parent are forwarded to children and the position service. -/
  | fltRtcmRx (h : FltHdr) (p : List Byte)
  /-- FLT_RDV_SEND (R473): Every RDV_PER × 100 ms the unit sends its rendezvous record. -/
  | fltRdvSend
  /-- FLT_RDV_RX (R473): A received rendezvous record is delivered to the rendezvous ring. -/
  | fltRdvRx (h : FltHdr) (group : Nat) (p : List Byte)
  /-- FLT_BROADCAST_RX (R475): A broadcast operation is received and forwarded down. -/
  | fltBroadcastRx (h : FltHdr) (op : FltOpHdr)
  /-- FLT_BARRIER_RX (R476): A barrier is received, forwarded and arrived at when AUTO is set. -/
  | fltBarrierRx (h : FltHdr) (op : FltOpHdr) (tag : Nat) (auto : Bool)
  /-- FLT_MARKER_RX (R477): A snapshot or epoch-reset marker makes the unit take its local snapshot and forward the marker. -/
  | fltMarkerRx (h : FltHdr) (op : FltOpHdr) (reset : Bool)
  /-- FLT_REPORT_RX (R475): A child's report arrives and is collected, or discarded if late. -/
  | fltReportRx (h : FltHdr) (r : FltRep)
  /-- FLT_REPORT_DEADLINE (R475): The report deadline of a level expires and the unit sends its report with missing units counted. -/
  | fltReportDeadline
  /-- FLT_CA_SET (R479): Sets the fleet CA certificate. -/
  | fltCaSet (c : Cmd)
  /-- FLT_ARRIVE (R476): Arrives at a running barrier. -/
  | fltArrive (c : Cmd)
  /-- FLT_RDV_OPEN (R479): Opens the rendezvous ring. -/
  | fltRdvOpen (c : Cmd)
  /-- FLT_TILE_UPLOAD (R479): Uploads the cells of a CLOSED field. -/
  | fltTileUpload (c : Cmd)
  /-- FLT_SENTRY_UPLOAD (R479): Uploads the sentry store. -/
  | fltSentryUpload (c : Cmd)
  /-- REC_EVENT_POST (R482): A posted event forms a record, merges into the open one, or is lost, and enters staging by severity. -/
  | recEventPost
  /-- REC_SNAPSHOT_READ (R483): Within 1 ms of forming a record Dome reads its class's registers into the snapshot words. -/
  | recSnapshotRead
  /-- REC_OPEN_TIMEOUT (R484): A record open for 60 s closes. -/
  | recOpenTimeout
  /-- REC_COMMIT (R486): A closed staged record is programmed to flash and verified. -/
  | recCommit (ok : Bool)
  /-- REC_ERASE_DONE (R486): A sector erase of the flash ring completes. -/
  | recEraseDone
  /-- REC_FREEZE_TIMEOUT (R488): A session's freeze lapses after FRZ_MAX s. -/
  | recFreezeTimeout (k : Nat)
  /-- REC_ALARM_TOKEN (R490): An alarm token refills and a queued alarm is sent to the fleet. -/
  | recAlarmToken
  /-- REC_ALARM_SUMMARY (R490): At the end of a 10 s interval with alarms a summary is sent. -/
  | recAlarmSummary
  /-- REC_READ (R491): Opens a ring streaming records from a sequence number. -/
  | recRead (c : Cmd)
  /-- REC_FREEZE (R488): Holds or releases the session's freeze of ordinary commits. -/
  | recFreeze (c : Cmd)
  /-- REC_FLUSH (R492): Closes the open record and commits staging. -/
  | recFlush (c : Cmd)
  /-- REC_POST (R492): Posts a host event to the recorder. -/
  | recPost (c : Cmd)
  /-- REC_CLASS_SET (R483): Sets a trigger class's snapshot addresses. -/
  | recClassSet (c : Cmd)
  /-- REC_CLASS_GET (R492): Returns a trigger class's snapshot addresses. -/
  | recClassGet (c : Cmd)
  /-- REC_CATALOGUE (R492): Returns a function's event codes. -/
  | recCatalogue (c : Cmd)
  /-- PNL_CMD_UPDATE (R495): A write of PNL_CMD.UPDATE starts a panel update, full when FULL is set. -/
  | pnlCmdUpdate (ini : Initiator) (v : Word) (loop : Nat)
  /-- PNL_LINE_DONE (R495): A panel line has been driven; the next line starts or the update completes. -/
  | pnlLineDone
  /-- PNL_AUTO_UPDATE (R494): Dome starts an update after a rewrite once PNL_MIN_S has passed. -/
  | pnlAutoUpdate (loop : Nat)
  /-- PNL_CRACK_CHECK (R498): Every 60 s while blinking the crack loop is measured and a break enters CRACKED. -/
  | pnlCrackCheck (loop : Nat)
  /-- PNL_BLINK_TOGGLE (R499): A blink rectangle's half-period ends and its lines are rewritten from the other buffer. -/
  | pnlBlinkToggle (q : Nat)
  /-- PNL_FB_DATA_ACCESS (R494): An access to PNL_FB_DATA reaches a frame-buffer word and advances the position. -/
  | pnlFbDataAccess (ini : Initiator) (w : Option Word)
  /-- PNL_TEXT (R500): Writes text into the integrator area. -/
  | pnlText (c : Cmd)
  /-- PNL_BITMAP (R500): Writes pixel lines into the integrator area. -/
  | pnlBitmap (c : Cmd)
  /-- PNL_BLINK (R499): Sets a blink rectangle. -/
  | pnlBlink (c : Cmd)
  /-- PNL_UPDATE (R500): Runs a panel update and reports the lines driven. -/
  | pnlUpdate (c : Cmd) (loop : Nat)
  /-- UPD_BEGIN (R504): Starts or takes over a firmware transfer and moves Dome to UPDATE. -/
  | updBegin (c : Cmd)
  /-- UPD_BLOCK (R505): Writes the next container block, erasing sectors and reading back. -/
  | updBlock (c : Cmd) (fails : Nat)
  /-- UPD_END (R508): Verifies the stored container and clears the marker on success. -/
  | updEnd (c : Cmd)
  /-- UPD_ACTIVATE (R513): Answers and performs DEVRST 10 ms later to start the new firmware. -/
  | updActivate (c : Cmd)
  /-- UPD_ABORT (R509): Ends an update before its first block. -/
  | updAbort (c : Cmd)
  /-- UPD_KEYOFF_WAIT_EXPIRY (R510): 300 s without an UPD command lets a waiting key-off proceed. -/
  | updKeyoffWaitExpiry
  /-- PRM_COMPACTION_DONE (R519): Compaction of the store to the other bank completes and the old bank is erased. -/
  | prmCompactionDone
  /-- PRM_CAL_EXPORT (R526): Opens a ring streaming the calibration set. -/
  | prmCalExport (c : Cmd)
  /-- PRM_CAL_WRITE (R521): Writes a new calibration set. -/
  | prmCalWrite (c : Cmd)
  /-- PRM_CONFIG_EXPORT (R522): Opens a ring streaming the configuration file. -/
  | prmConfigExport (c : Cmd)
  /-- PRM_CONFIG_IMPORT (R523): Checks and stores an imported configuration file as one transaction. -/
  | prmConfigImport (c : Cmd)
  /-- PRM_SET (R526): Sets a system item of the store, effective at the next device-level reset. -/
  | prmSet (c : Cmd)
  /-- PLL_LOCK (R106): After a start of the core domains the TCXO has stabilised and the root PLL has locked, and CLK_CTL and CLK_TB start on one edge with tick 0 and TB 0. -/
  | pllLock
  /-- ETH_SWITCH_RELOAD (R434): After any start other than a POR, the Ethernet switch has reloaded its configuration from the AON copy and begins forwarding within 50 ms. -/
  | ethSwitchReload
  /-- AON_POWER_LOSS (R93): With VBAT removed and no VBAT_AON, the AON domain's 2 s hold-up runs out, class K contents are lost and SENTRY ends. -/
  | aonPowerLoss
  /-- PWR_HOLD_RELEASE (R68): 10 ms after answering SYS_POWER_CYCLE the module releases PWR_HOLD and turns its core domains off for PWR_PC_OFF. -/
  | pwrHoldRelease
  /-- AIN_CONVERSION (R127): An analog channel's conversion in its 25 µs frame slot ends, and the filtered, scaled value is written to SIG 0x040+n with its fault conditions evaluated. -/
  | ainConversion (n : Nat) (x : Nat)
  /-- BRIDGE_CODE (R132): A bridge delta-sigma converter delivers a code at its output rate, which is scaled and written to SIG 0x058+k or faults the bridge. -/
  | bridgeCode (k : Nat) (code : Int)
  /-- SPEED_EDGE (R135): A counted speed-input edge is stamped in TB, and for a quadrature pair it updates the position count or counts a double transition in AIN_SPD_QERR. -/
  | speedEdge (j : Nat) (up : Bool) (both : Bool) (stamp : Nat)
  /-- ACU_IMPACT (R136): An acoustic channel's envelope reaches its threshold while armed, so an impact is counted and the dead time starts. -/
  | acuImpact (a : Nat) (xs : List Int)
  /-- ADR_REGULATION_DECISION (R216): At a channel current sample, the hysteresis regulator turns the low side off or on, and the sample serves resistance measurement and motion detection. -/
  | adrRegulationDecision (n : Nat) (x : Nat)
  /-- BOOST_CONVERTER_SWITCH (R219): VBST crosses a boost-rail threshold: the converter switches on below target − 0.5 V and off at target, the rail becomes unavailable below 20 V, or fast decay is allowed again 1 V below the spill threshold. -/
  | boostConverterSwitch (mv : Nat) (mj : Nat)
  /-- POS_INERTIAL_SAMPLE (R310): An inertial sample arrives and the error-state Kalman filter propagates at 1 kHz, with odometry and steering updates at 100 Hz and dead-reckoning time counted. -/
  | posInertialSample (x : PosEst)
  /-- ISP_STRIPE_COMPLETE (R337): The ISP completes a stripe in TMS or INLINE+M2M mode and chooses the next context with a ready stripe by round robin, or applies a pending mode change at the stripe boundary. -/
  | ispStripeComplete (inl : Nat) (stripe : Bool)
  /-- ETH_GATE_INTERVAL (R439): A gate control list interval ends and the port's gate mask changes to the next entry, repeating every CYCLE. -/
  | ethGateInterval (k : Nat)
  /-- SER_TRANSMIT_DONE (R447): An RS-485 port finishes sending its frame, stops driving the line and clears BUSY. -/
  | serTransmitDone (n : Nat)
  /-- USB_VBUS_OVERCURRENT (R447): A USB port's VBUS current exceeds its trip level and the module shuts the VBUS supply off. -/
  | usbVbusOvercurrent (u : Nat) (ma : Nat)
  /-- PAIR_LINK_CHANGE (R457): The PAIR link goes down or comes up, changing LINK in PAIR_STATUS, stopping or resuming the state copy and affecting HEALTHY. -/
  | pairLinkChange (up : Bool)
  /-- CLASS_C_COMMAND_DONE (R49): A class C command's operation completes (up to 5 s after acceptance) and its final response is published, ending the BUSY answers of R51. -/
  | classCCommandDone (fn : Nat)
deriving DecidableEq, Repr, Inhabited

end Sys2Proof
end

