-- ==== Sys2Proof/Decode.lean ====
section
/-!
DEFINITION. The reading of a table word. The block decodes no instruction words: no row of spec/opcode_table.json gives
bits, its commands being register accesses, mailbox commands and events of the hardware.
-/
namespace Sys2Proof

/-- The command a word of the table spells: no row gives bits, so no word spells one. -/
def decodeTableWord (_nbits _w : Nat) : Option Instr := none

end Sys2Proof
end

