-- ==== Sys2Proof/Config.lean ====
section
/-!
DEFINITION. What the spec leaves to the unit or leaves open: opaque constants that no proof can look into.
-/
namespace Sys2Proof.Config

/-- The form-fit-function level of the unit, and the level of the units as LEVEL [15:0] shows it: numbered from 1, level 0 never used (R2). -/
opaque fffLevelRaw : BitVec 16
def fffLevel : Nat := max 1 fffLevelRaw.toNat

/-- The serial number of the unit, read at `PRM_SERIAL_LO` and `PRM_SERIAL_HI` (chapter 25). -/
opaque serial : BitVec 64

/-- The 16-byte salt of the module (R58). -/
opaque salt : BitVec 128

/-- The 32-byte random challenge of the n-th open (R58): a fresh free value for each n. -/
opaque challenge : Nat → BitVec 256

/-- The vendor's event code of an event kind, less one (R561: the codes are assigned by the vendor). -/
opaque eventCodeRaw : Nat → BitVec 16

/-- The vendor's severity of an event kind that no rule names (R561, REC_CATALOGUE). -/
opaque eventSeverityRaw : Nat → BitVec 4

/-- Interface revision of a function, GET_INFO byte 1 (R45). -/
opaque interfaceRevision : Nat → Byte

/-- Sub-image version of a function, GET_INFO bytes 4 to 7 (R45). -/
opaque subImageVersion : Nat → Word

/-- Capability bits of a function, GET_INFO bytes 12 to 15 (R45). -/
opaque capability : Nat → Word

/-- Whether the mean of tared codes that is no whole number is rounded up (R141 states no rounding). -/
opaque roundMeanUp : Int → Nat → Bool

/-- Whether the entry of the sine table at angle 2π·num/den, num/den in lowest terms, is rounded up (R150 states no rounding). -/
opaque sin15Up : Nat → Nat → Bool

/-- The gradient of a machine function that dithers with amplitude 0 (R152 divides by it). -/
opaque cstGradNoAmp : Int → Nat → Int

/-- Fuel per tonne at a throughput sum of 0 (R148 divides by it). -/
opaque fuelNoThroughput : Int → Nat

/-- Whether a quotient that is no whole number is rounded up where the spec states no rounding. -/
opaque roundUp : Int → Nat → Bool

/-- A quotient by zero that the spec does not exclude. -/
opaque divByZero : Int → Int

/-- How much denser than R179 asks the lattice of a footprint is. -/
opaque latticeDensity : Nat → Nat

/-- Where the points of a footprint's lattice lie between its lines, in 1/1024 (R179 states the spacing alone). -/
opaque latticePhase : Nat → Nat

/-- The crop that entered `n` samples before the first sample of a calibration window (R177). -/
opaque cropBefore : Int → Nat → Int

/-- TASKDATA.XML of an exported field (R191 names its content, not its characters): of the field ID, the grid type, the
grid's south and west edges and the cell sizes north and east in 10^-16 degree, its rows and columns, and the options. -/
opaque taskData : Nat → Nat → Int × Int → Int × Int → Nat × Nat → Nat → List Byte

/-- Factory path resistance R_PATH of a channel in mΩ (R232). -/
opaque pathResistance : Nat → Int

/-- The antenna-open threshold of the unit in mA, 2 to 8 (R556). -/
opaque antOpenMa : Nat

/-- The antenna-short threshold of the unit in mA, 130 to 180 (R556). -/
opaque antShortMa : Nat

/-- The receiver time of an epoch at which neither `TRN_RXT` nor any transmit time is known (R298). -/
opaque rxTimeUnset : Nat → Nat

/-- Whether a signal value of the direction input means reverse (R310 says only that it gives the sign). -/
opaque odoReverse : Word → Bool

/-- East and north in mm of a position from an origin, each latitude and longitude in 10^-7 degree (R313 states no
projection). -/
opaque posEast : Int → Int → Int → Int → Int
opaque posNorth : Int → Int → Int → Int → Int

/-- The Doppler rate of a satellite that the last navigation state gives the sentry list, in 2^-16 mHz per AON count (R321). -/
opaque sentryRate : Nat → Nat → Int

/-- The bytes of a sentry unit's header: AON time, channel count or index, flags (R322 names them without places). -/
opaque sentryHeader : Nat → Nat → Nat → List Byte

/-- The bytes of a set's entry: SV, SIG, code phase, Doppler, C/N0 (R322 names them without places). -/
opaque sentryEntry : Nat → Nat → Nat → Int → Nat → List Byte

/-- The age in seconds of the ephemerides' reference time at the AON time of a snapshot, in the n-th solution (R325). -/
opaque snapEphAge : Nat → Nat → Nat

/-- What a coarse-time fix of a snapshot finds, in the n-th solution (R325): whether satellites suffice, and bytes 2 to 23 of
the answer. -/
opaque snapEnough : Nat → Nat → Bool
opaque snapFix : Nat → Nat → BitVec 176

/-- Size of the CAM partition of DRAM in bytes (R342; the lock class MEMPART sizes it). -/
opaque camPartition : Nat

/-- DRAM addresses of a context's buffers (context, output, index) and of an encoder channel's bitstream buffer. -/
opaque camBufAddr : Nat → Nat → Nat → Nat
opaque camBitsAddr : Nat → Nat

/-- The ISP between its statistics taps (R335): from the context words, the tables, the image after stage 1 (width, height, Bayer
order, pixels) to luma after stage 10, to the AWB sums and count after stage 3, and to the scaled display image as R, G, B.
The spec names the operations of stages 2 to 10 without their exact arithmetic. -/
opaque camLuma : List Word → List (Nat × Nat) → Nat → Nat → Nat → List Nat → List (BitVec 12)
opaque camAwb : List Word → List (Nat × Nat) → Nat → Nat → Nat → List Nat → BitVec 224
opaque camDisp : List Word → List (Nat × Nat) → Nat → Nat → Nat → List Nat → List (Byte × Byte × Byte)

/-- Full-range 8-bit luma of a 12-bit value (R341 names BT.709 full range; the rounding is open). -/
opaque camY8 : BitVec 12 → Byte

/-- The displacement in cm that a speed (cm/s) and a yaw rate (0.01°/s) give in a time (s), in the frame at its start (R359,
R361 say that motion is integrated, not how). -/
opaque poseStep : Rat → Rat → Rat → Rat × Rat

/-- Whether a solver run exhausts its bid budget (R364), by run; the bids it then has made; and which of the detections without
a pair bids next, by run and bid. -/
opaque solverCapped : Nat → Bool
opaque solverBids : Nat → Nat
opaque solverNext : Nat → Nat → Nat

/-- The rounding of an output that the spec gives as a real number: whether it is rounded up. -/
opaque roundRat : Rat → Bool

/-- The covariance and the class score of a track resumed from a partner's summary (R372 names neither). -/
opaque resumeCov : Nat → Nat → Rat
opaque resumeScore : Rat

/-- TB units without a CAN beacon after which the pair's CAN path counts as down (R465 names CANP, not its rule). -/
opaque pairCanTimeout : Nat

/-- The bits of a transmitted byte that no export entry covers, in a byte that one covers in part and in a LIN response: bus, object
or frame, byte (R424 names only the bytes of a TX object that none covers). -/
opaque busFill : Nat → Nat → Nat → Byte

/-- REC after a frame received without error while REC stands above 127 (ISO 11898-1 gives 119 to 127), by controller and REC. -/
opaque canRecAfter : Nat → Nat → Nat

/-- Answer bytes of ETH_SER_OPEN's ring records beyond those R449 names: their places (port, TB, length, CRC_ERR, data). -/
opaque serRecord : Nat → Nat → Nat → Bool → List Byte → List Byte

/-- The VENDOR key, set at manufacture, and the unit's OEM key (R58, R62). -/
opaque vendorKey : BitVec 256
opaque oemKey : BitVec 256

/-- SVN_MIN as delivered (R503). -/
opaque svnMin : Nat

/-- The factory calibration set and its vendor signature, of which 12,288 and 64 bytes count (R520), and whether the signature of a set
as exported verifies. -/
opaque calSet : List Byte
opaque calSign : List Byte
opaque calVerifies : List Byte → Bool

/-- KiB free in the active bank after the n-th transaction, and after a compaction (R519; the sizes of records are not stated). -/
opaque prmFree : Nat → Nat
opaque prmFreeCompact : Nat → Nat

/-- Whether a transaction that a reset interrupts within its 50 ms had been committed, by its number (R518, R527). -/
opaque prmCommitted : Nat → Bool

/-- Whether a record of a transaction of the parameter store fails its read-back once (chapter 25, `PRM_ERRS`). -/
opaque prmReadBackFails : Nat → Bool

/-- Whether the eMMC write of the n-th checkpoint of Yield Plate fails (R194). -/
opaque yplCkptFails : Nat → Bool

/-- Where Dome places a ring in shared SRAM, and the session windows, in 4 KiB units (R38). -/
opaque ringPlace : Nat → Nat → BitVec 11
opaque winPlace : BitVec 11

/-- The VBUS overcurrent trip of a USB port in mA, 600 to 1,000 (chapter 27). -/
opaque usbTripMa : Nat → Nat

/-- The pixels of a character's line in the 8 × 12 font (R494), and the 50 characters of a row of the panel from what it shows: row,
data. -/
opaque panelFont : Byte → Nat → Byte
opaque panelRow : Nat → List Nat → List Byte

/-- The class table as delivered (R483): the addresses of a trigger class; those a rule would refuse and any past the eighth do not
count. -/
opaque classTable : Nat → List Word

/-- A function's event catalogue as REC_CATALOGUE sends it, 8 bytes per code (R561). -/
opaque catalogue : Nat → List Byte

/-- The bytes of a rendezvous record (R473 names its content, not its layout): the words of SIG 0x080, 0x081, 0x083, 0x089 and of
FILL_SIG, the GPS time of week in ms, the track records. -/
opaque rdvRecord : List Word → Nat → List (List Byte) → List Byte

/-- The units that a child without a report stands for, by operation and child (R475: "its units count as missing"). -/
opaque fltMissing : Nat → Nat → Nat

/-- Whether a DER certificate is an ECDSA P-256 one (R470, R479). -/
opaque certP256 : List Byte → Bool

/-- Whether a signature by one of the two vendor keys verifies over a SHA-256 (R503). -/
opaque ecdsaOk : Nat → List Byte → List Byte → Bool

/-- The version of the container as delivered (R515), and the SHA-256 of the island image as delivered. -/
opaque containerVersion : Word
opaque islandSha : List Byte

/-- Whether an installed island image accepts a format version of the parameter set (R412). -/
opaque islandAccepts : List Byte → Nat → Bool

/-- Whether a low pulse of 100 µs to 1 ms on RESET_N, of this length in µs, resets at this time (R115). -/
opaque resetnPulse : Nat → Nat → Bool

/-- CLK_CTL cycles of the free-running root PLL in a CLK_FAB period of the model's time, after a loss of the TCXO or of lock (R107). -/
opaque lostCycles : Nat → Nat

/-- The rate of the AON domain's internal oscillator above 97 % of 32,768 Hz, in thousandths, of which 0 to 60 count (R107: ±3 %). -/
opaque rcPermille : Nat

end Sys2Proof.Config
end

