-- ==== Sys2Proof/Machine/Bits.lean ====
section
/-!
DEFINITION. Bit fields, signed readings, byte order, saturating arithmetic and CRC-32C, shared by every family.
-/
namespace Sys2Proof.Machine

/-- Bits `hi` down to `lo` of a word. -/
def fld (w : Word) (hi lo : Nat) : Nat := (w.toNat >>> lo) % 2 ^ (hi + 1 - lo)

/-- Bit `b` of a word. -/
def bit (w : Word) (b : Nat) : Bool := w.getLsbD b

/-- Bits `hi` down to `lo` of a word, read as two's complement. -/
def sfld (w : Word) (hi lo : Nat) : Int :=
  let n := fld w hi lo
  if n < 2 ^ (hi - lo) then (n : Int) else (n : Int) - (2 ^ (hi + 1 - lo) : Nat)

/-- `w` with bits `hi` down to `lo` replaced by `v` (modulo the field's width). -/
def setFld (w : Word) (hi lo v : Nat) : Word :=
  let m : Word := word ((2 ^ (hi + 1 - lo) - 1) <<< lo)
  (w &&& ~~~m) ||| (word (v <<< lo) &&& m)

/-- `w` with bit `b` set or cleared. -/
def setBit (w : Word) (b : Nat) (v : Bool) : Word := setFld w b b (if v then 1 else 0)

/-- The word holding an integer modulo 2^32. -/
def iword (i : Int) : Word := BitVec.ofInt 32 i

/-- One as a number if the condition holds, else zero. -/
def b2n (b : Bool) : Nat := if b then 1 else 0

/-- An integer clipped to the range from `lo` to `hi`. -/
def clampI (lo hi x : Int) : Int := if x < lo then lo else if hi < x then hi else x

/-- A number clipped to the range from `lo` to `hi`. -/
def clampN (lo hi x : Nat) : Nat := if x < lo then lo else if hi < x then hi else x

/-- An integer saturated to a signed 32-bit value. -/
def sat32 (x : Int) : Int := clampI (-2147483648) 2147483647 x

/-- The quotient rounded toward minus infinity by a power of two: an arithmetic right shift. -/
def asr (x : Int) (n : Nat) : Int := x / ((2 ^ n : Nat) : Int)

/-- Quotient rounded to nearest, halves away from zero; a zero divisor gives 0. -/
def divRound (a b : Int) : Int :=
  if b = 0 then 0
  else
    let n := a.natAbs
    let d := b.natAbs
    let q : Int := ((2 * n + d) / (2 * d) : Nat)
    if (a < 0) = (b < 0) then q else -q

/-- The bytes of a number, least significant first. -/
def leBytes : Nat → Nat → List Byte
  | 0, _ => []
  | n + 1, v => byte v :: leBytes n (v / 256)

/-- The bytes of a number, most significant first. -/
def beBytes (n v : Nat) : List Byte := (leBytes n v).reverse

/-- The number a list of bytes spells, least significant first. -/
def leNat : List Byte → Nat
  | [] => 0
  | b :: bs => b.toNat + 256 * leNat bs

/-- The number a list of bytes spells, most significant first. -/
def beNat (bs : List Byte) : Nat := leNat bs.reverse

/-- Byte `i` of a payload, 0 past its end. -/
def u8 (p : List Byte) (i : Nat) : Nat := (p.getD i 0#8).toNat

/-- The 16-bit field at byte `i` of a payload. -/
def u16 (p : List Byte) (i : Nat) : Nat := u8 p i + 256 * u8 p (i + 1)

/-- The 32-bit field at byte `i` of a payload. -/
def u32 (p : List Byte) (i : Nat) : Nat := u16 p i + 65536 * u16 p (i + 2)

/-- The 64-bit field at byte `i` of a payload. -/
def u64 (p : List Byte) (i : Nat) : Nat := u32 p i + 4294967296 * u32 p (i + 4)

/-- The register word at byte `i` of a payload. -/
def w32 (p : List Byte) (i : Nat) : Word := word (u32 p i)

/-- The signed 16-bit field at byte `i` of a payload. -/
def i16 (p : List Byte) (i : Nat) : Int := (BitVec.ofNat 16 (u16 p i)).toInt

/-- The signed 32-bit field at byte `i` of a payload. -/
def i32 (p : List Byte) (i : Nat) : Int := (w32 p i).toInt

/-- Bytes `i` to `i + n - 1` of a payload. -/
def slice (p : List Byte) (i n : Nat) : List Byte := (p.drop i).take n

/-- The four bytes of a register word, least significant first. -/
def wBytes (w : Word) : List Byte := leBytes 4 w.toNat

/-- A list of bytes padded with zeros, or cut, to length `n`. -/
def padTo (n : Nat) (p : List Byte) : List Byte := (p ++ List.replicate n 0#8).take n

/-- Replaces element `i` of a list by a function of it; no change past the end. -/
def updAt {α : Type} (l : List α) (i : Nat) (f : α → α) : List α := l.modify i f

/-- Whether bit `i` of a number is set. -/
def nbit (m i : Nat) : Bool := m.testBit i

/-- The number whose bit `i` is the value of `p i`, for i below `n`. -/
def maskOf (n : Nat) (p : Nat → Bool) : Nat := (List.range n).foldl (fun a i => if p i then a + 2 ^ i else a) 0

/-- One bit of a reflected CRC with the reflected polynomial `poly`. -/
def crcBit (poly : BitVec 32) (c : BitVec 32) : BitVec 32 :=
  if c.getLsbD 0 then (c >>> 1) ^^^ poly else c >>> 1

/-- One byte of a reflected CRC. -/
def crcByte (poly : BitVec 32) (c : BitVec 32) (b : Byte) : BitVec 32 :=
  let x := c ^^^ b.zeroExtend 32
  crcBit poly (crcBit poly (crcBit poly (crcBit poly (crcBit poly (crcBit poly (crcBit poly (crcBit poly x)))))))

/-- CRC-32C of R41: polynomial 0x1EDC6F41 reflected, initial value and final XOR 0xFFFFFFFF. -/
def crc32c (p : List Byte) : Word := p.foldl (crcByte 0x82F63B78#32) 0xFFFFFFFF#32 ^^^ 0xFFFFFFFF#32

/-- One bit of the CRC-24Q. -/
def crc24Bit (c : Nat) : Nat :=
  let d := 2 * c
  if d.testBit 24 then (d ^^^ 0x1864CFB) % 16777216 else d

/-- CRC-24Q of a list of bytes (R308). -/
def crc24q (p : List Byte) : Nat :=
  p.foldl (fun c b =>
    let x := c ^^^ (b.toNat * 65536)
    crc24Bit (crc24Bit (crc24Bit (crc24Bit (crc24Bit (crc24Bit (crc24Bit (crc24Bit x)))))))) 0

end Sys2Proof.Machine
end

