-- ==== Sys2Proof/Machine/Fix.lean ====
section
/-!
DEFINITION. Exact fixed-point arithmetic for rules given in real numbers: quotients whose rounding is open, square root,
sine, cosine and arctangent, the discrete Fourier transform of 512 points, and lists in order.
-/
namespace Sys2Proof.Machine

/-- A quotient whose rounding the spec leaves open: exact where it is whole, else the whole number below or above; a
quotient by zero is a free value. -/
def divFree (a : Int) (b : Int) : Int :=
  let n := if b < 0 then -a else a
  let d := b.natAbs
  if d = 0 then Config.divByZero a
  else if n % (d : Int) = 0 then n / d
  else n / d + (if Config.roundUp n d then 1 else 0)

/-- The largest of the numbers below `2 ^ k + r` in steps of halves whose square does not exceed `n`. -/
def isqrtAux (n : Nat) : Nat → Nat → Nat
  | 0, r => if (r + 1) * (r + 1) ≤ n then r + 1 else r
  | k + 1, r => isqrtAux n k (if (r + 2 ^ (k + 1)) * (r + 2 ^ (k + 1)) ≤ n then r + 2 ^ (k + 1) else r)

/-- The whole part of a square root, for arguments below 2^512. -/
def isqrt (n : Nat) : Nat := isqrtAux n 255 0

/-- arctangent of y/x scaled by 2^128 for 0 ≤ y ≤ x, by Euler's series: `n` further terms of which `t` is the next. -/
def atanTerms (y2 d : Nat) : Nat → Nat → Nat → Nat
  | 0, _, t => t
  | n + 1, j, t => t + atanTerms y2 d n (j + 1) (t * (2 * (j + 1)) * y2 / ((2 * j + 3) * d))

/-- π scaled by 2^128. -/
def pi128 : Nat := 1069028584064966747859680373161870783301

/-- arctangent of y/x scaled by 2^128, x above 0. -/
def atan128 (y x : Nat) : Nat :=
  let core (y x : Nat) : Nat := if y = 0 then 0 else
    let d := x * x + y * y
    atanTerms (y * y) d 140 0 (x * y * 2 ^ 128 / d)
  if y ≤ x then core y x else pi128 / 2 - core x y

/-- The terms of the sine or cosine series at scale 2^64: `t` the present term, `k` the number of its next factor. -/
def trigTerms (x2 : Int) : Nat → Nat → Int → Int
  | 0, _, t => t
  | n + 1, k, t => t + trigTerms x2 n (k + 2) (-(t * x2) / ((2 ^ 128 * (k * (k + 1)) : Nat) : Int))

/-- Sine at scale 2^64 of an angle in radians at scale 2^64. -/
def sin64 (x : Int) : Int := trigTerms (x * x) 40 2 x

/-- Cosine at scale 2^64 of an angle in radians at scale 2^64. -/
def cos64 (x : Int) : Int := trigTerms (x * x) 40 1 (2 ^ 64 : Nat)

/-- The angle `a/n` of a half turn, in radians at scale 2^64, brought into the first turn. -/
def rad64 (a : Int) (n : Nat) : Int := (a % ((2 * n : Nat) : Int)) * pi128 / ((n * 2 ^ 64 : Nat) : Int)

/-- The cosine and sine of 2πm/512 at scale 2^64. -/
def twiddle : Array (Int × Int) := ((List.range 512).map (fun (m : Nat) => (cos64 (rad64 (m : Int) 256), sin64 (rad64 (m : Int) 256)))).toArray

/-- The discrete Fourier transform of 512 complex numbers; the result carries a further scale of 2^64. `sgn` is -1 for
the forward transform and 1 for the inverse, which is not divided by 512 here. -/
def dft512 (sgn : Int) (xs : Array (Int × Int)) : Array (Int × Int) :=
  ((List.range 512).map (fun k => (List.range 512).foldl (fun (a : Int × Int) n =>
    let x := xs.getD n (0, 0)
    let w := twiddle.getD (k * n % 512) (0, 0)
    (a.1 + x.1 * w.1 - sgn * x.2 * w.2, a.2 + x.2 * w.1 + sgn * x.1 * w.2)) (0, 0))).toArray

/-- Real numbers as complex ones. -/
def reals (xs : List Int) : Array (Int × Int) := (xs.map (fun x => (x, 0))).toArray

/-- The index of the element whose key is largest, the lowest of equals. -/
def argMax (key : Int → Int) (xs : List Int) : Nat :=
  let r := xs.foldl (fun (a : Nat × Nat × Int) x =>
    if a.1 = 0 || a.2.2 < key x then (a.1 + 1, a.1, key x) else (a.1 + 1, a.2.1, a.2.2)) (0, 0, 0)
  r.2.1

/-- The sum of a list of integers. -/
def isum (xs : List Int) : Int := xs.foldl (fun a x => a + x) 0

/-- Taps scaled to the sum 65,536, the rounding residual added to tap `n0` (R172, R173). -/
def scale16 (xs : List Int) (n0 : Nat) : List Int :=
  let t := isum xs
  let ys := xs.map (fun x => divFree (x * 65536) t)
  updAt ys n0 (fun y => y + 65536 - isum ys)

/-- Puts an element into an ordered list, behind its equals. -/
def insertBy {α : Type} (lt : α → α → Bool) (x : α) : List α → List α
  | [] => [x]
  | y :: ys => if lt x y then x :: y :: ys else y :: insertBy lt x ys

/-- A list in order. -/
def sortBy {α : Type} (lt : α → α → Bool) (xs : List α) : List α := xs.foldl (fun a x => insertBy lt x a) []

end Sys2Proof.Machine
end

