-- ==== Sys2Proof/Machine/RegMap.lean ====
section
/-!
DEFINITION. The register map of the expert register space: one row for each register array of the maps of
chapters 01 to 25 (offset, stride, count, type, reset value, writable bits, retention class, update group,
protections), the populated pages of R74 and the counters of R89. R69 gives the blocks.
Names follow the spec's registers; the bank window of chapter 10 is the block ADB.
-/
namespace Sys2Proof.Machine

/-- The plain register types of R72. A guard (RWG) and a lock class (RWL) are separate columns of a row. -/
inductive RegType where
  | rw | ro | wo | w1c | w1s | rc | rws | snap
deriving DecidableEq, Repr

/-- The retention classes of chapter 00: parameter store, always-on, volatile logic, volatile function state. -/
inductive Ret where
  | p | k | d | f
deriving DecidableEq, Repr

/-- The access domains of R69. -/
inductive Domain where
  | fab | ctl | gns | psd | aon
deriving DecidableEq, Repr

/-- One row of a register map. `ug` is the update group, 16 for none; `lock` the bit of `SYS_BOOTLOCK`, 6 for none. -/
structure RegRow where
  off    : Nat
  stride : Nat
  count  : Nat
  ty     : RegType
  reset  : Nat
  mask   : Nat
  ret    : Ret
  ug     : Nat  := 16
  guard  : Bool := false
  lock   : Nat  := 6
  host   : Bool := false
deriving DecidableEq, Repr

/-- One run of equal pages of R74: the first page, how many pages, p and the populated count N. -/
structure PageRow where
  first : Nat
  pages : Nat
  p     : Nat
  n     : Nat
deriving DecidableEq, Repr

/-- One block of R69. `fn` is the function whose EXPERT ownership opens it to host writes (R65, R71); none
where host software writes only the registers marked H. -/
structure Block where
  base   : Nat
  span   : Nat
  d      : Nat
  domain : Domain
  fn     : Option Nat
  rows   : List RegRow
  pages  : List PageRow
deriving DecidableEq, Repr

/-- The registers of SYS (R69; 03_register_fabric.md, 04_power_clocks_reset.md). -/
def rowsSYS : List RegRow :=
  [
    { off := 0x0, stride := 4, count := 1, ty := .ro, reset := 0x53590001, mask := 0x0, ret := .d },
    { off := 0x4, stride := 4, count := 1, ty := .ro, reset := 0, mask := 0x0, ret := .p },
    { off := 0x8, stride := 4, count := 1, ty := .ro, reset := 0, mask := 0x0, ret := .d },
    { off := 0xC, stride := 4, count := 1, ty := .w1c, reset := 0x1, mask := 0x33F, ret := .k, host := true },
    { off := 0x10, stride := 4, count := 1, ty := .ro, reset := 0, mask := 0x0, ret := .k },
    { off := 0x14, stride := 4, count := 1, ty := .ro, reset := 0, mask := 0x0, ret := .k },
    { off := 0x18, stride := 4, count := 1, ty := .rw, reset := 0, mask := 0x3, ret := .d, lock := 2 },
    { off := 0x1C, stride := 4, count := 1, ty := .ro, reset := 0, mask := 0x0, ret := .d },
    { off := 0x20, stride := 4, count := 1, ty := .rw, reset := 0x10064, mask := 0x103FF, ret := .d, lock := 4 },
    { off := 0x24, stride := 4, count := 1, ty := .ro, reset := 0, mask := 0x0, ret := .k },
    { off := 0x28, stride := 4, count := 1, ty := .ro, reset := 0, mask := 0x0, ret := .k },
    { off := 0x2C, stride := 4, count := 1, ty := .ro, reset := 0, mask := 0x0, ret := .k },
    { off := 0x30, stride := 4, count := 1, ty := .ro, reset := 0, mask := 0x0, ret := .d },
    { off := 0x34, stride := 4, count := 1, ty := .snap, reset := 0, mask := 0x0, ret := .d },
    { off := 0x38, stride := 4, count := 1, ty := .snap, reset := 0, mask := 0x0, ret := .d },
    { off := 0x3C, stride := 4, count := 1, ty := .snap, reset := 0, mask := 0x0, ret := .d },
    { off := 0x40, stride := 4, count := 1, ty := .w1s, reset := 0, mask := 0x3F, ret := .d } ]

/-- The populated pages of SYS. -/
def pagesSYS : List PageRow :=
  [ { first := 0x0, pages := 1, p := 5, n := 17 } ]

/-- The registers of FAB (R69; 03_register_fabric.md). -/
def rowsFAB : List RegRow :=
  [
    { off := 0x0, stride := 4, count := 1, ty := .ro, reset := 0x46410001, mask := 0x0, ret := .d },
    { off := 0x4, stride := 4, count := 1, ty := .wo, reset := 0, mask := 0xFFFF, ret := .d, host := true },
    { off := 0x8, stride := 4, count := 1, ty := .ro, reset := 0, mask := 0x0, ret := .d },
    { off := 0xC, stride := 4, count := 1, ty := .wo, reset := 0, mask := 0x1, ret := .d, host := true },
    { off := 0x10, stride := 4, count := 1, ty := .ro, reset := 0, mask := 0x0, ret := .d },
    { off := 0x14, stride := 4, count := 1, ty := .ro, reset := 0, mask := 0x0, ret := .d },
    { off := 0x18, stride := 4, count := 1, ty := .ro, reset := 0, mask := 0x0, ret := .d },
    { off := 0x1C, stride := 4, count := 1, ty := .rw, reset := 0x64, mask := 0xFFFF, ret := .d, host := true },
    { off := 0x20, stride := 4, count := 1, ty := .ro, reset := 0, mask := 0x0, ret := .d },
    { off := 0x24, stride := 4, count := 1, ty := .ro, reset := 0, mask := 0x0, ret := .d },
    { off := 0x28, stride := 4, count := 1, ty := .ro, reset := 0, mask := 0x0, ret := .d },
    { off := 0x2C, stride := 4, count := 1, ty := .ro, reset := 0, mask := 0x0, ret := .d },
    { off := 0x30, stride := 4, count := 1, ty := .ro, reset := 0, mask := 0x0, ret := .d },
    { off := 0x34, stride := 4, count := 1, ty := .ro, reset := 0, mask := 0x0, ret := .d },
    { off := 0x38, stride := 4, count := 1, ty := .ro, reset := 0, mask := 0x0, ret := .d },
    { off := 0x3C, stride := 4, count := 1, ty := .ro, reset := 0, mask := 0x0, ret := .d },
    { off := 0x40, stride := 4, count := 1, ty := .snap, reset := 0, mask := 0x0, ret := .d },
    { off := 0x44, stride := 4, count := 1, ty := .snap, reset := 0, mask := 0x0, ret := .d },
    { off := 0x48, stride := 4, count := 1, ty := .snap, reset := 0, mask := 0x0, ret := .d },
    { off := 0x4C, stride := 4, count := 1, ty := .snap, reset := 0, mask := 0x0, ret := .d },
    { off := 0x50, stride := 4, count := 1, ty := .snap, reset := 0, mask := 0x0, ret := .d },
    { off := 0x54, stride := 4, count := 1, ty := .snap, reset := 0, mask := 0x0, ret := .d },
    { off := 0x58, stride := 4, count := 1, ty := .ro, reset := 0xF, mask := 0x0, ret := .d },
    { off := 0x100, stride := 16, count := 2, ty := .rw, reset := 0x1, mask := 0x1F, ret := .d },
    { off := 0x104, stride := 16, count := 16, ty := .rw, reset := 0, mask := 0xFFFFFFFF, ret := .d },
    { off := 0x108, stride := 16, count := 16, ty := .rw, reset := 0, mask := 0xFFFFFFFF, ret := .d },
    { off := 0x10C, stride := 16, count := 16, ty := .rw, reset := 0, mask := 0xFFFFFFFF, ret := .d },
    { off := 0x120, stride := 16, count := 3, ty := .rw, reset := 0x4, mask := 0x1F, ret := .d },
    { off := 0x150, stride := 16, count := 1, ty := .rw, reset := 0x1, mask := 0x1F, ret := .d },
    { off := 0x160, stride := 16, count := 1, ty := .rw, reset := 0x2, mask := 0x1F, ret := .d },
    { off := 0x170, stride := 16, count := 8, ty := .rw, reset := 0x1, mask := 0x1F, ret := .d },
    { off := 0x1F0, stride := 16, count := 1, ty := .rw, reset := 0x8, mask := 0x1F, ret := .d },
    { off := 0x1000, stride := 4, count := 384, ty := .ro, reset := 0, mask := 0x0, ret := .d },
    { off := 0x1600, stride := 4, count := 64, ty := .rw, reset := 0, mask := 0xFFFFFFFF, ret := .d, host := true },
    { off := 0x1700, stride := 4, count := 64, ty := .ro, reset := 0, mask := 0x0, ret := .d },
    { off := 0x1800, stride := 4, count := 16, ty := .ro, reset := 0, mask := 0x0, ret := .d },
    { off := 0x2000, stride := 4, count := 512, ty := .ro, reset := 0, mask := 0x0, ret := .d } ]

/-- The populated pages of FAB. -/
def pagesFAB : List PageRow :=
  [ { first := 0x0, pages := 1, p := 5, n := 23 },
    { first := 0x100, pages := 1, p := 6, n := 64 },
    { first := 0x1000, pages := 8, p := 6, n := 64 },
    { first := 0x1800, pages := 1, p := 4, n := 16 },
    { first := 0x2000, pages := 8, p := 6, n := 64 } ]

/-- The registers of MBX (R69; 02_mailbox_and_sessions.md). -/
def rowsMBX : List RegRow :=
  [
    { off := 0x0, stride := 4, count := 1, ty := .ro, reset := 0x4D420001, mask := 0x0, ret := .d },
    { off := 0x4, stride := 4, count := 1, ty := .ro, reset := 0, mask := 0x0, ret := .d },
    { off := 0x8, stride := 4, count := 1, ty := .rc, reset := 0xFF, mask := 0x0, ret := .d },
    { off := 0xC, stride := 4, count := 1, ty := .ro, reset := 0, mask := 0x0, ret := .d },
    { off := 0x10, stride := 4, count := 1, ty := .ro, reset := 0, mask := 0x0, ret := .d },
    { off := 0x14, stride := 4, count := 1, ty := .rw, reset := 0x64, mask := 0xFFFF, ret := .d, host := true },
    { off := 0x18, stride := 4, count := 1, ty := .ro, reset := 0, mask := 0x0, ret := .d },
    { off := 0x1C, stride := 4, count := 1, ty := .ro, reset := 0, mask := 0x0, ret := .d },
    { off := 0x20, stride := 4, count := 1, ty := .ro, reset := 0, mask := 0x0, ret := .d },
    { off := 0x24, stride := 4, count := 1, ty := .ro, reset := 0, mask := 0x0, ret := .d },
    { off := 0x28, stride := 4, count := 1, ty := .ro, reset := 0, mask := 0x0, ret := .d },
    { off := 0x2C, stride := 4, count := 1, ty := .ro, reset := 0, mask := 0x0, ret := .d },
    { off := 0x30, stride := 4, count := 1, ty := .ro, reset := 0, mask := 0x0, ret := .d },
    { off := 0x34, stride := 4, count := 1, ty := .snap, reset := 0, mask := 0x0, ret := .d },
    { off := 0x38, stride := 4, count := 1, ty := .snap, reset := 0, mask := 0x0, ret := .d },
    { off := 0x3C, stride := 4, count := 1, ty := .snap, reset := 0, mask := 0x0, ret := .d },
    { off := 0x40, stride := 4, count := 1, ty := .snap, reset := 0, mask := 0x0, ret := .d },
    { off := 0x44, stride := 4, count := 1, ty := .snap, reset := 0, mask := 0x0, ret := .d },
    { off := 0x48, stride := 4, count := 1, ty := .snap, reset := 0, mask := 0x0, ret := .d },
    { off := 0x100, stride := 4, count := 4, ty := .w1c, reset := 0, mask := 0xFFFFFFFF, ret := .d, host := true },
    { off := 0x110, stride := 4, count := 4, ty := .rw, reset := 0, mask := 0xFFFFFFFF, ret := .d, host := true },
    { off := 0x1000, stride := 16, count := 128, ty := .ro, reset := 0, mask := 0x0, ret := .d },
    { off := 0x1004, stride := 16, count := 128, ty := .ro, reset := 0, mask := 0x0, ret := .d },
    { off := 0x1008, stride := 16, count := 128, ty := .rw, reset := 0, mask := 0xFFFFFFFF, ret := .d, host := true },
    { off := 0x100C, stride := 16, count := 128, ty := .rw, reset := 0, mask := 0xFFFFFFFF, ret := .d, host := true } ]

/-- The populated pages of MBX. -/
def pagesMBX : List PageRow :=
  [ { first := 0x0, pages := 1, p := 5, n := 19 },
    { first := 0x100, pages := 1, p := 3, n := 8 },
    { first := 0x1000, pages := 8, p := 6, n := 64 } ]

/-- The registers of TB (R69; 01_architecture.md). -/
def rowsTB : List RegRow :=
  [
    { off := 0x0, stride := 4, count := 1, ty := .ro, reset := 0x54420001, mask := 0x0, ret := .d },
    { off := 0x4, stride := 4, count := 1, ty := .ro, reset := 0, mask := 0x0, ret := .d },
    { off := 0x8, stride := 4, count := 1, ty := .ro, reset := 0, mask := 0x0, ret := .d },
    { off := 0xC, stride := 4, count := 1, ty := .ro, reset := 0, mask := 0x0, ret := .d },
    { off := 0x10, stride := 4, count := 1, ty := .ro, reset := 0, mask := 0x0, ret := .d },
    { off := 0x14, stride := 4, count := 1, ty := .ro, reset := 0, mask := 0x0, ret := .d },
    { off := 0x18, stride := 4, count := 1, ty := .ro, reset := 0, mask := 0x0, ret := .d },
    { off := 0x1C, stride := 4, count := 1, ty := .ro, reset := 0, mask := 0x0, ret := .d } ]

/-- The populated pages of TB. -/
def pagesTB : List PageRow :=
  [ { first := 0x0, pages := 1, p := 3, n := 8 } ]

/-- The registers of MER (R69; 08_control_engine.md). -/
def rowsMER : List RegRow :=
  [
    { off := 0x0, stride := 4, count := 1, ty := .ro, reset := 0x4D450001, mask := 0x0, ret := .d },
    { off := 0x4, stride := 4, count := 1, ty := .rw, reset := 0, mask := 0x1, ret := .d },
    { off := 0x8, stride := 4, count := 1, ty := .ro, reset := 0, mask := 0x0, ret := .f },
    { off := 0xC, stride := 4, count := 1, ty := .w1c, reset := 0, mask := 0xFFFFFFFF, ret := .f },
    { off := 0x10, stride := 4, count := 1, ty := .w1c, reset := 0, mask := 0xFFFFFFFF, ret := .f },
    { off := 0x14, stride := 4, count := 1, ty := .ro, reset := 0, mask := 0x0, ret := .f },
    { off := 0x18, stride := 4, count := 1, ty := .ro, reset := 0, mask := 0x0, ret := .f },
    { off := 0x1C, stride := 4, count := 1, ty := .ro, reset := 0, mask := 0x0, ret := .d },
    { off := 0x20, stride := 4, count := 1, ty := .ro, reset := 0, mask := 0x0, ret := .d },
    { off := 0x24, stride := 4, count := 1, ty := .ro, reset := 0, mask := 0x0, ret := .d },
    { off := 0x28, stride := 4, count := 1, ty := .ro, reset := 0, mask := 0x0, ret := .d },
    { off := 0x2C, stride := 4, count := 1, ty := .snap, reset := 0, mask := 0x0, ret := .d },
    { off := 0x30, stride := 4, count := 1, ty := .snap, reset := 0, mask := 0x0, ret := .d },
    { off := 0x34, stride := 4, count := 1, ty := .snap, reset := 0, mask := 0x0, ret := .d },
    { off := 0x38, stride := 4, count := 1, ty := .snap, reset := 0, mask := 0x0, ret := .d },
    { off := 0x1000, stride := 64, count := 64, ty := .rws, reset := 0, mask := 0x1FFFFFF, ret := .d, ug := 1 },
    { off := 0x1004, stride := 64, count := 64, ty := .rws, reset := 0x38000, mask := 0x7FFFFFF, ret := .d, ug := 1 },
    { off := 0x1008, stride := 64, count := 64, ty := .rws, reset := 0, mask := 0x1FF, ret := .d, ug := 1 },
    { off := 0x100C, stride := 64, count := 64, ty := .rws, reset := 0, mask := 0xFFFFFFFF, ret := .d, ug := 2 },
    { off := 0x1010, stride := 64, count := 64, ty := .rws, reset := 0, mask := 0xFFFFFFFF, ret := .d, ug := 1 },
    { off := 0x1014, stride := 64, count := 64, ty := .rws, reset := 0, mask := 0xFFFFFFFF, ret := .d, ug := 1 },
    { off := 0x1018, stride := 64, count := 64, ty := .rws, reset := 0, mask := 0xFFFFFFFF, ret := .d, ug := 1 },
    { off := 0x101C, stride := 64, count := 64, ty := .rws, reset := 0, mask := 0xFFFFFFFF, ret := .d, ug := 1 },
    { off := 0x1020, stride := 64, count := 64, ty := .rws, reset := 0, mask := 0xFFFFFFFF, ret := .d, ug := 1 },
    { off := 0x1024, stride := 64, count := 64, ty := .rws, reset := 0, mask := 0x1FFFFFF, ret := .d, ug := 1 },
    { off := 0x1028, stride := 64, count := 64, ty := .rws, reset := 0, mask := 0x7FFFFFFF, ret := .d, ug := 1 },
    { off := 0x102C, stride := 64, count := 64, ty := .rws, reset := 0x80000000, mask := 0xFFFFFFFF, ret := .d, ug := 1 },
    { off := 0x1030, stride := 64, count := 64, ty := .rws, reset := 0x7FFFFFFF, mask := 0xFFFFFFFF, ret := .d, ug := 1 },
    { off := 0x1034, stride := 64, count := 64, ty := .rws, reset := 0, mask := 0x7FFFFFFF, ret := .d, ug := 1 },
    { off := 0x1038, stride := 64, count := 64, ty := .rws, reset := 0x5DC0, mask := 0xFFFF, ret := .d, ug := 1 },
    { off := 0x103C, stride := 64, count := 64, ty := .rws, reset := 0, mask := 0xFFFFFFFF, ret := .d, ug := 1 },
    { off := 0x2000, stride := 32, count := 64, ty := .rw, reset := 0, mask := 0xFFFFFFFF, ret := .f },
    { off := 0x2004, stride := 32, count := 64, ty := .ro, reset := 0, mask := 0x0, ret := .f },
    { off := 0x2008, stride := 32, count := 64, ty := .ro, reset := 0, mask := 0x0, ret := .f },
    { off := 0x200C, stride := 32, count := 64, ty := .ro, reset := 0, mask := 0x0, ret := .f },
    { off := 0x2010, stride := 32, count := 64, ty := .ro, reset := 0, mask := 0x0, ret := .f },
    { off := 0x2014, stride := 32, count := 64, ty := .ro, reset := 0, mask := 0x0, ret := .f },
    { off := 0x2018, stride := 32, count := 64, ty := .ro, reset := 0, mask := 0x0, ret := .f },
    { off := 0x201C, stride := 32, count := 64, ty := .ro, reset := 0, mask := 0x0, ret := .f },
    { off := 0x3000, stride := 8, count := 64, ty := .rw, reset := 0, mask := 0xFFFFFFFF, ret := .d, lock := 1 } ] ++ [
    { off := 0x3004, stride := 8, count := 64, ty := .rw, reset := 0, mask := 0xFFFFFFFF, ret := .d, lock := 1 } ]

/-- The populated pages of MER. -/
def pagesMER : List PageRow :=
  [ { first := 0x0, pages := 1, p := 4, n := 15 },
    { first := 0x1000, pages := 16, p := 6, n := 64 },
    { first := 0x2000, pages := 8, p := 6, n := 64 },
    { first := 0x3000, pages := 2, p := 6, n := 64 } ]

/-- The registers of ADR (R69; 09_actuator_waveforms.md). -/
def rowsADR : List RegRow :=
  [
    { off := 0x0, stride := 4, count := 1, ty := .ro, reset := 0x41440001, mask := 0x0, ret := .d },
    { off := 0x4, stride := 4, count := 1, ty := .rw, reset := 0, mask := 0x1, ret := .d },
    { off := 0x8, stride := 4, count := 1, ty := .w1c, reset := 0, mask := 0xFFFFFFFF, ret := .f },
    { off := 0xC, stride := 4, count := 1, ty := .w1c, reset := 0, mask := 0xFFFF, ret := .f },
    { off := 0x10, stride := 4, count := 1, ty := .ro, reset := 0, mask := 0x0, ret := .f },
    { off := 0x14, stride := 4, count := 1, ty := .ro, reset := 0, mask := 0x0, ret := .f },
    { off := 0x18, stride := 4, count := 1, ty := .ro, reset := 0, mask := 0x0, ret := .d },
    { off := 0x1C, stride := 4, count := 1, ty := .ro, reset := 0, mask := 0x0, ret := .d },
    { off := 0x20, stride := 4, count := 1, ty := .ro, reset := 0, mask := 0x0, ret := .d },
    { off := 0x24, stride := 4, count := 1, ty := .ro, reset := 0, mask := 0x0, ret := .d },
    { off := 0x28, stride := 4, count := 1, ty := .ro, reset := 0, mask := 0x0, ret := .d },
    { off := 0x2C, stride := 4, count := 1, ty := .ro, reset := 0, mask := 0x0, ret := .d },
    { off := 0x30, stride := 4, count := 1, ty := .snap, reset := 0, mask := 0x0, ret := .d },
    { off := 0x34, stride := 4, count := 1, ty := .snap, reset := 0, mask := 0x0, ret := .d },
    { off := 0x38, stride := 4, count := 1, ty := .snap, reset := 0, mask := 0x0, ret := .d },
    { off := 0x3C, stride := 4, count := 1, ty := .snap, reset := 0, mask := 0x0, ret := .d },
    { off := 0x40, stride := 4, count := 1, ty := .snap, reset := 0, mask := 0x0, ret := .d },
    { off := 0x44, stride := 4, count := 1, ty := .snap, reset := 0, mask := 0x0, ret := .d },
    { off := 0x1000, stride := 64, count := 48, ty := .rws, reset := 0x600, mask := 0x1FFF, ret := .d, ug := 3 },
    { off := 0x1004, stride := 64, count := 48, ty := .rw, reset := 0, mask := 0x1FFFF, ret := .f },
    { off := 0x1008, stride := 64, count := 48, ty := .rw, reset := 0, mask := 0xFFFFFFFF, ret := .f },
    { off := 0x100C, stride := 64, count := 48, ty := .rws, reset := 0x7D00000, mask := 0xFFFFFFFF, ret := .d, ug := 3 },
    { off := 0x1010, stride := 64, count := 48, ty := .rws, reset := 0x6401D0, mask := 0xFFFF01FF, ret := .d, ug := 3 },
    { off := 0x1014, stride := 64, count := 48, ty := .rws, reset := 0, mask := 0xFFFFFFFF, ret := .f, ug := 3 },
    { off := 0x1018, stride := 64, count := 48, ty := .rws, reset := 0, mask := 0xFFFFFFFF, ret := .f, ug := 3 },
    { off := 0x101C, stride := 64, count := 48, ty := .rws, reset := 0, mask := 0xFFFFFF, ret := .f, ug := 3 },
    { off := 0x1020, stride := 64, count := 48, ty := .ro, reset := 0x6, mask := 0x0, ret := .f },
    { off := 0x1024, stride := 64, count := 48, ty := .ro, reset := 0xFFFF0000, mask := 0x0, ret := .f },
    { off := 0x1028, stride := 64, count := 48, ty := .ro, reset := 0, mask := 0x0, ret := .f },
    { off := 0x102C, stride := 64, count := 48, ty := .ro, reset := 0, mask := 0x0, ret := .f },
    { off := 0x1030, stride := 64, count := 48, ty := .ro, reset := 0, mask := 0x0, ret := .f },
    { off := 0x1034, stride := 64, count := 48, ty := .ro, reset := 0, mask := 0x0, ret := .d },
    { off := 0x1038, stride := 64, count := 48, ty := .rws, reset := 0, mask := 0x3FFFFFFF, ret := .d, ug := 3 },
    { off := 0x103C, stride := 64, count := 48, ty := .ro, reset := 0xFFFFFFFF, mask := 0x0, ret := .f },
    { off := 0x4000, stride := 16, count := 768, ty := .rws, reset := 0, mask := 0xFFFFFFFF, ret := .d, ug := 3 },
    { off := 0x4004, stride := 16, count := 768, ty := .rws, reset := 0x3A98, mask := 0xFFFFFFFF, ret := .d, ug := 3 },
    { off := 0x4008, stride := 16, count := 768, ty := .rws, reset := 0, mask := 0xFFFFFFFF, ret := .d, ug := 3 },
    { off := 0x400C, stride := 16, count := 768, ty := .rws, reset := 0x640, mask := 0x3FFFFF7, ret := .d, ug := 3 } ]

/-- The populated pages of ADR. -/
def pagesADR : List PageRow :=
  [ { first := 0x0, pages := 1, p := 5, n := 18 },
    { first := 0x1000, pages := 12, p := 6, n := 64 },
    { first := 0x4000, pages := 48, p := 6, n := 64 } ]

/-- The registers of ADB (R69; 09_actuator_waveforms.md, 10_actuator_banks_and_motion.md). -/
def rowsADB : List RegRow :=
  [
    { off := 0x0, stride := 4, count := 1, ty := .rws, reset := 0xBB80, mask := 0xFFFF, ret := .d, ug := 3, guard := true },
    { off := 0x4, stride := 4, count := 1, ty := .rws, reset := 0x431, mask := 0xFF1, ret := .d, ug := 3, guard := true },
    { off := 0x8, stride := 4, count := 1, ty := .ro, reset := 0, mask := 0x0, ret := .f },
    { off := 0xC, stride := 4, count := 1, ty := .ro, reset := 0, mask := 0x0, ret := .d },
    { off := 0x10, stride := 4, count := 1, ty := .ro, reset := 0, mask := 0x0, ret := .d },
    { off := 0x14, stride := 4, count := 1, ty := .ro, reset := 0, mask := 0x0, ret := .d },
    { off := 0x18, stride := 4, count := 1, ty := .snap, reset := 0, mask := 0x0, ret := .d },
    { off := 0x1C, stride := 4, count := 1, ty := .snap, reset := 0, mask := 0x0, ret := .d },
    { off := 0x20, stride := 4, count := 1, ty := .snap, reset := 0, mask := 0x0, ret := .d },
    { off := 0x100, stride := 16, count := 12, ty := .rws, reset := 0x271000, mask := 0xFFFF03, ret := .d, ug := 3 },
    { off := 0x104, stride := 16, count := 12, ty := .rws, reset := 0, mask := 0x1, ret := .d, ug := 3, guard := true },
    { off := 0x108, stride := 16, count := 12, ty := .ro, reset := 0, mask := 0x0, ret := .d },
    { off := 0x10C, stride := 16, count := 12, ty := .ro, reset := 0, mask := 0x0, ret := .d },
    { off := 0x1C0, stride := 4, count := 1, ty := .rw, reset := 0xFFF, mask := 0xFFF, ret := .d, lock := 1 },
    { off := 0x1C4, stride := 4, count := 1, ty := .ro, reset := 0, mask := 0x0, ret := .d },
    { off := 0x1C8, stride := 4, count := 1, ty := .ro, reset := 0, mask := 0x0, ret := .d },
    { off := 0x200, stride := 4, count := 48, ty := .ro, reset := 0, mask := 0x0, ret := .f },
    { off := 0x300, stride := 4, count := 12, ty := .snap, reset := 0, mask := 0x0, ret := .d },
    { off := 0x330, stride := 4, count := 12, ty := .snap, reset := 0, mask := 0x0, ret := .d },
    { off := 0x360, stride := 4, count := 1, ty := .snap, reset := 0, mask := 0x0, ret := .d },
    { off := 0x364, stride := 4, count := 1, ty := .snap, reset := 0, mask := 0x0, ret := .d },
    { off := 0x1000, stride := 4, count := 12, ty := .ro, reset := 0x70, mask := 0x0, ret := .f } ]

/-- The populated pages of ADB. -/
def pagesADB : List PageRow :=
  [ { first := 0x0, pages := 1, p := 4, n := 9 },
    { first := 0x100, pages := 1, p := 6, n := 51 },
    { first := 0x200, pages := 1, p := 6, n := 48 },
    { first := 0x300, pages := 1, p := 5, n := 26 },
    { first := 0x1000, pages := 1, p := 4, n := 12 } ]

/-- The registers of PSW (R69; 11_load_switches.md). -/
def rowsPSW : List RegRow :=
  [
    { off := 0x0, stride := 4, count := 1, ty := .ro, reset := 0x50530001, mask := 0x0, ret := .d },
    { off := 0x4, stride := 4, count := 1, ty := .rw, reset := 0, mask := 0x1, ret := .d },
    { off := 0x8, stride := 4, count := 1, ty := .w1c, reset := 0, mask := 0xFFFFFFFF, ret := .f },
    { off := 0xC, stride := 4, count := 1, ty := .ro, reset := 0, mask := 0x0, ret := .f },
    { off := 0x10, stride := 4, count := 1, ty := .ro, reset := 0, mask := 0x0, ret := .d },
    { off := 0x14, stride := 4, count := 1, ty := .ro, reset := 0, mask := 0x0, ret := .d },
    { off := 0x18, stride := 4, count := 1, ty := .ro, reset := 0, mask := 0x0, ret := .d },
    { off := 0x1C, stride := 4, count := 1, ty := .ro, reset := 0, mask := 0x0, ret := .d },
    { off := 0x20, stride := 4, count := 1, ty := .ro, reset := 0, mask := 0x0, ret := .d },
    { off := 0x24, stride := 4, count := 1, ty := .ro, reset := 0, mask := 0x0, ret := .d },
    { off := 0x28, stride := 4, count := 1, ty := .snap, reset := 0, mask := 0x0, ret := .d },
    { off := 0x2C, stride := 4, count := 1, ty := .snap, reset := 0, mask := 0x0, ret := .d },
    { off := 0x30, stride := 4, count := 1, ty := .snap, reset := 0, mask := 0x0, ret := .d },
    { off := 0x34, stride := 4, count := 1, ty := .snap, reset := 0, mask := 0x0, ret := .d },
    { off := 0x38, stride := 4, count := 1, ty := .snap, reset := 0, mask := 0x0, ret := .d },
    { off := 0x3C, stride := 4, count := 1, ty := .snap, reset := 0, mask := 0x0, ret := .d },
    { off := 0x40, stride := 4, count := 1, ty := .rw, reset := 0xF, mask := 0xF, ret := .d, lock := 1 },
    { off := 0x100, stride := 16, count := 16, ty := .rws, reset := 0xA3FA00, mask := 0x3FFFFFFF, ret := .d, ug := 4 },
    { off := 0x104, stride := 16, count := 16, ty := .rws, reset := 0x5DC00000, mask := 0xFFFF3FFF, ret := .d, ug := 4 },
    { off := 0x108, stride := 16, count := 8, ty := .rws, reset := 0x9C402EE0, mask := 0xFFFFFFFF, ret := .d, ug := 4, guard := true },
    { off := 0x10C, stride := 16, count := 16, ty := .rws, reset := 0x1140A0A, mask := 0x1FFFFFF, ret := .d, ug := 4 },
    { off := 0x188, stride := 16, count := 8, ty := .rws, reset := 0xEA6055F0, mask := 0xFFFFFFFF, ret := .d, ug := 4, guard := true },
    { off := 0x200, stride := 16, count := 16, ty := .ro, reset := 0, mask := 0x0, ret := .f },
    { off := 0x204, stride := 16, count := 16, ty := .ro, reset := 0, mask := 0x0, ret := .f },
    { off := 0x208, stride := 16, count := 16, ty := .ro, reset := 0, mask := 0x0, ret := .f },
    { off := 0x20C, stride := 16, count := 16, ty := .ro, reset := 0, mask := 0x0, ret := .f },
    { off := 0x300, stride := 16, count := 4, ty := .rws, reset := 0, mask := 0x1, ret := .d, ug := 4, guard := true },
    { off := 0x304, stride := 16, count := 4, ty := .rws, reset := 0x23281F40, mask := 0xFFFFFFFF, ret := .d, ug := 4 },
    { off := 0x308, stride := 16, count := 4, ty := .rws, reset := 0, mask := 0xFFFFF, ret := .d, ug := 4, guard := true },
    { off := 0x30C, stride := 16, count := 4, ty := .ro, reset := 0, mask := 0x0, ret := .f } ]

/-- The populated pages of PSW. -/
def pagesPSW : List PageRow :=
  [ { first := 0x0, pages := 1, p := 5, n := 17 },
    { first := 0x100, pages := 1, p := 6, n := 64 },
    { first := 0x200, pages := 1, p := 6, n := 64 },
    { first := 0x300, pages := 1, p := 4, n := 16 } ]

/-- The registers of DIN (R69; 05_field_inputs.md). -/
def rowsDIN : List RegRow :=
  [
    { off := 0x0, stride := 4, count := 1, ty := .ro, reset := 0x44490001, mask := 0x0, ret := .d },
    { off := 0x4, stride := 4, count := 1, ty := .ro, reset := 0, mask := 0x0, ret := .f },
    { off := 0x8, stride := 4, count := 1, ty := .ro, reset := 0, mask := 0x0, ret := .f },
    { off := 0xC, stride := 4, count := 1, ty := .ro, reset := 0, mask := 0x0, ret := .f },
    { off := 0x10, stride := 4, count := 1, ty := .ro, reset := 0, mask := 0x0, ret := .f },
    { off := 0x14, stride := 4, count := 1, ty := .ro, reset := 0xF00, mask := 0x0, ret := .f },
    { off := 0x18, stride := 4, count := 1, ty := .rw, reset := 0, mask := 0xFFFFFFFF, ret := .k },
    { off := 0x1C, stride := 4, count := 1, ty := .rw, reset := 0, mask := 0xFF, ret := .k },
    { off := 0x20, stride := 4, count := 1, ty := .ro, reset := 0, mask := 0x0, ret := .d },
    { off := 0x24, stride := 4, count := 1, ty := .ro, reset := 0, mask := 0x0, ret := .d },
    { off := 0x28, stride := 4, count := 1, ty := .ro, reset := 0, mask := 0x0, ret := .d },
    { off := 0x2C, stride := 4, count := 1, ty := .snap, reset := 0, mask := 0x0, ret := .d },
    { off := 0x30, stride := 4, count := 1, ty := .snap, reset := 0, mask := 0x0, ret := .d },
    { off := 0x34, stride := 4, count := 1, ty := .snap, reset := 0, mask := 0x0, ret := .d },
    { off := 0x38, stride := 4, count := 1, ty := .ro, reset := 0, mask := 0x0, ret := .f },
    { off := 0x3C, stride := 4, count := 1, ty := .ro, reset := 0, mask := 0x0, ret := .f },
    { off := 0x40, stride := 4, count := 1, ty := .rc, reset := 0, mask := 0x0, ret := .f },
    { off := 0x100, stride := 4, count := 40, ty := .rws, reset := 0x303E8, mask := 0xFFFFF, ret := .f, ug := 5 } ]

/-- The populated pages of DIN. -/
def pagesDIN : List PageRow :=
  [ { first := 0x0, pages := 1, p := 5, n := 17 },
    { first := 0x100, pages := 1, p := 6, n := 40 } ]

/-- The registers of AIN (R69; 05_field_inputs.md). -/
def rowsAIN : List RegRow :=
  [
    { off := 0x0, stride := 4, count := 1, ty := .ro, reset := 0x41490001, mask := 0x0, ret := .d },
    { off := 0x4, stride := 4, count := 1, ty := .rw, reset := 0, mask := 0x7, ret := .d },
    { off := 0x8, stride := 4, count := 1, ty := .ro, reset := 0, mask := 0x0, ret := .d },
    { off := 0xC, stride := 4, count := 1, ty := .wo, reset := 0, mask := 0x7, ret := .d },
    { off := 0x10, stride := 4, count := 1, ty := .ro, reset := 0, mask := 0x0, ret := .f },
    { off := 0x14, stride := 4, count := 1, ty := .ro, reset := 0, mask := 0x0, ret := .d },
    { off := 0x18, stride := 4, count := 1, ty := .ro, reset := 0, mask := 0x0, ret := .d },
    { off := 0x1C, stride := 4, count := 1, ty := .ro, reset := 0, mask := 0x0, ret := .d },
    { off := 0x20, stride := 4, count := 1, ty := .ro, reset := 0, mask := 0x0, ret := .d },
    { off := 0x24, stride := 4, count := 1, ty := .snap, reset := 0, mask := 0x0, ret := .d },
    { off := 0x28, stride := 4, count := 1, ty := .snap, reset := 0, mask := 0x0, ret := .d },
    { off := 0x2C, stride := 4, count := 1, ty := .snap, reset := 0, mask := 0x0, ret := .d },
    { off := 0x30, stride := 4, count := 1, ty := .snap, reset := 0, mask := 0x0, ret := .d },
    { off := 0x100, stride := 4, count := 24, ty := .rws, reset := 0, mask := 0xFFFFFFF7, ret := .f, ug := 5 },
    { off := 0x200, stride := 4, count := 24, ty := .rws, reset := 0x1, mask := 0xFFFFFFFF, ret := .f, ug := 5 },
    { off := 0x300, stride := 4, count := 24, ty := .rws, reset := 0, mask := 0xFFFF, ret := .f, ug := 5 },
    { off := 0x400, stride := 4, count := 24, ty := .rws, reset := 0xFFFF0000, mask := 0xFFFFFFFF, ret := .f, ug := 5 },
    { off := 0x500, stride := 4, count := 24, ty := .ro, reset := 0, mask := 0x0, ret := .f },
    { off := 0x600, stride := 16, count := 4, ty := .rws, reset := 0, mask := 0xBF77, ret := .f, ug := 5 },
    { off := 0x604, stride := 16, count := 4, ty := .rws, reset := 0, mask := 0xFFFFFFFF, ret := .f, ug := 5 },
    { off := 0x608, stride := 16, count := 4, ty := .rws, reset := 0x1, mask := 0xFFFFFFFF, ret := .f, ug := 5 },
    { off := 0x60C, stride := 16, count := 4, ty := .ro, reset := 0, mask := 0x0, ret := .f },
    { off := 0x700, stride := 16, count := 12, ty := .rws, reset := 0, mask := 0x1FF, ret := .f, ug := 5 },
    { off := 0x704, stride := 16, count := 12, ty := .rws, reset := 0x1, mask := 0xFFFFFFFF, ret := .f, ug := 5 },
    { off := 0x708, stride := 16, count := 12, ty := .ro, reset := 0, mask := 0x0, ret := .f },
    { off := 0x70C, stride := 16, count := 12, ty := .ro, reset := 0, mask := 0x0, ret := .f },
    { off := 0x800, stride := 16, count := 8, ty := .rws, reset := 0, mask := 0xFFFFFFFF, ret := .f, ug := 5 },
    { off := 0x804, stride := 16, count := 8, ty := .rws, reset := 0x320, mask := 0x7FF, ret := .f, ug := 5 },
    { off := 0x808, stride := 16, count := 8, ty := .ro, reset := 0, mask := 0x0, ret := .f },
    { off := 0x80C, stride := 16, count := 8, ty := .ro, reset := 0, mask := 0x0, ret := .d },
    { off := 0x900, stride := 4, count := 8, ty := .snap, reset := 0, mask := 0x0, ret := .d } ]

/-- The populated pages of AIN. -/
def pagesAIN : List PageRow :=
  [ { first := 0x0, pages := 1, p := 4, n := 13 },
    { first := 0x100, pages := 5, p := 5, n := 24 },
    { first := 0x600, pages := 1, p := 4, n := 16 },
    { first := 0x700, pages := 1, p := 6, n := 48 },
    { first := 0x800, pages := 1, p := 5, n := 32 },
    { first := 0x900, pages := 1, p := 3, n := 8 } ]

/-- The registers of SNT (R69; 05_field_inputs.md). -/
def rowsSNT : List RegRow :=
  [
    { off := 0x0, stride := 4, count := 1, ty := .ro, reset := 0x534E0001, mask := 0x0, ret := .d },
    { off := 0x4, stride := 4, count := 1, ty := .ro, reset := 0, mask := 0x0, ret := .d },
    { off := 0x8, stride := 4, count := 1, ty := .ro, reset := 0, mask := 0x0, ret := .d },
    { off := 0xC, stride := 4, count := 1, ty := .ro, reset := 0, mask := 0x0, ret := .d },
    { off := 0x10, stride := 4, count := 1, ty := .ro, reset := 0, mask := 0x0, ret := .d },
    { off := 0x14, stride := 4, count := 1, ty := .snap, reset := 0, mask := 0x0, ret := .d },
    { off := 0x18, stride := 4, count := 1, ty := .snap, reset := 0, mask := 0x0, ret := .d },
    { off := 0x1C, stride := 4, count := 1, ty := .snap, reset := 0, mask := 0x0, ret := .d },
    { off := 0x20, stride := 4, count := 1, ty := .snap, reset := 0, mask := 0x0, ret := .d },
    { off := 0x100, stride := 16, count := 16, ty := .rws, reset := 0, mask := 0x7FFFFF, ret := .f, ug := 5 },
    { off := 0x104, stride := 16, count := 16, ty := .ro, reset := 0, mask := 0x0, ret := .f },
    { off := 0x108, stride := 16, count := 16, ty := .ro, reset := 0, mask := 0x0, ret := .f },
    { off := 0x10C, stride := 16, count := 16, ty := .ro, reset := 0, mask := 0x0, ret := .d },
    { off := 0x200, stride := 8, count := 16, ty := .ro, reset := 0, mask := 0x0, ret := .f },
    { off := 0x204, stride := 8, count := 16, ty := .ro, reset := 0, mask := 0x0, ret := .f } ]

/-- The populated pages of SNT. -/
def pagesSNT : List PageRow :=
  [ { first := 0x0, pages := 1, p := 4, n := 9 },
    { first := 0x100, pages := 1, p := 6, n := 64 },
    { first := 0x200, pages := 1, p := 5, n := 32 } ]

/-- The registers of PWR (R69; 04_power_clocks_reset.md). -/
def rowsPWR : List RegRow :=
  [
    { off := 0x0, stride := 4, count := 1, ty := .ro, reset := 0x50570001, mask := 0x0, ret := .k },
    { off := 0x4, stride := 4, count := 1, ty := .ro, reset := 0x3, mask := 0x0, ret := .k },
    { off := 0x8, stride := 4, count := 1, ty := .rw, reset := 0xA1800, mask := 0x3FFFF03, ret := .k },
    { off := 0xC, stride := 4, count := 1, ty := .rw, reset := 0x1, mask := 0x7E, ret := .k },
    { off := 0x10, stride := 4, count := 1, ty := .w1c, reset := 0, mask := 0xFF, ret := .k, host := true },
    { off := 0x14, stride := 4, count := 1, ty := .rw, reset := 0, mask := 0xFFFFFFFF, ret := .k },
    { off := 0x18, stride := 4, count := 1, ty := .rw, reset := 0x4650, mask := 0xFFFF, ret := .k },
    { off := 0x1C, stride := 4, count := 1, ty := .ro, reset := 0, mask := 0x0, ret := .k },
    { off := 0x20, stride := 4, count := 1, ty := .ro, reset := 0, mask := 0x0, ret := .k },
    { off := 0x24, stride := 4, count := 1, ty := .ro, reset := 0, mask := 0x0, ret := .k },
    { off := 0x28, stride := 4, count := 1, ty := .rw, reset := 0x3E8, mask := 0x3FFF, ret := .k },
    { off := 0x2C, stride := 4, count := 1, ty := .ro, reset := 0, mask := 0x0, ret := .k },
    { off := 0x100, stride := 16, count := 10, ty := .ro, reset := 0, mask := 0x0, ret := .k },
    { off := 0x104, stride := 16, count := 10, ty := .ro, reset := 0, mask := 0x0, ret := .k },
    { off := 0x108, stride := 16, count := 10, ty := .ro, reset := 0, mask := 0x0, ret := .k },
    { off := 0x10C, stride := 16, count := 10, ty := .snap, reset := 0, mask := 0x0, ret := .d } ]

/-- The populated pages of PWR. -/
def pagesPWR : List PageRow :=
  [ { first := 0x0, pages := 1, p := 4, n := 12 },
    { first := 0x100, pages := 1, p := 6, n := 40 } ]

/-- The registers of CST (R69; 06_crop_process_optimizer.md). -/
def rowsCST : List RegRow :=
  [
    { off := 0x0, stride := 4, count := 1, ty := .ro, reset := 0x43530001, mask := 0x0, ret := .d },
    { off := 0x4, stride := 4, count := 1, ty := .rw, reset := 0, mask := 0x33, ret := .d },
    { off := 0x8, stride := 4, count := 1, ty := .rw, reset := 0x3207D0, mask := 0x3FFF3FFF, ret := .d },
    { off := 0xC, stride := 4, count := 1, ty := .rw, reset := 0x400, mask := 0xFFFFFFFF, ret := .d },
    { off := 0x10, stride := 4, count := 1, ty := .ro, reset := 0, mask := 0x0, ret := .f },
    { off := 0x14, stride := 4, count := 1, ty := .ro, reset := 0, mask := 0x0, ret := .f },
    { off := 0x18, stride := 4, count := 1, ty := .ro, reset := 0, mask := 0x0, ret := .d },
    { off := 0x1C, stride := 4, count := 1, ty := .ro, reset := 0, mask := 0x0, ret := .d },
    { off := 0x20, stride := 4, count := 1, ty := .ro, reset := 0, mask := 0x0, ret := .d },
    { off := 0x24, stride := 4, count := 1, ty := .ro, reset := 0, mask := 0x0, ret := .d },
    { off := 0x28, stride := 4, count := 1, ty := .ro, reset := 0, mask := 0x0, ret := .d },
    { off := 0x2C, stride := 4, count := 1, ty := .ro, reset := 0, mask := 0x0, ret := .f },
    { off := 0x30, stride := 4, count := 1, ty := .rw, reset := 0, mask := 0x1FF01FF, ret := .d },
    { off := 0x34, stride := 4, count := 1, ty := .rw, reset := 0x3E8, mask := 0xFFFFFFFF, ret := .d },
    { off := 0x38, stride := 4, count := 1, ty := .ro, reset := 0, mask := 0x0, ret := .f },
    { off := 0x3C, stride := 4, count := 1, ty := .ro, reset := 0, mask := 0x0, ret := .f },
    { off := 0x40, stride := 4, count := 1, ty := .ro, reset := 0, mask := 0x0, ret := .f },
    { off := 0x44, stride := 4, count := 1, ty := .rw, reset := 0, mask := 0xFFFFFFFF, ret := .d },
    { off := 0x48, stride := 4, count := 1, ty := .ro, reset := 0, mask := 0x0, ret := .f },
    { off := 0x4C, stride := 4, count := 1, ty := .snap, reset := 0, mask := 0x0, ret := .d },
    { off := 0x50, stride := 4, count := 1, ty := .snap, reset := 0, mask := 0x0, ret := .d },
    { off := 0x54, stride := 4, count := 1, ty := .snap, reset := 0, mask := 0x0, ret := .d },
    { off := 0x58, stride := 4, count := 1, ty := .snap, reset := 0, mask := 0x0, ret := .d },
    { off := 0x5C, stride := 4, count := 1, ty := .snap, reset := 0, mask := 0x0, ret := .d },
    { off := 0x100, stride := 16, count := 8, ty := .rw, reset := 0, mask := 0x1FF1FF, ret := .d },
    { off := 0x104, stride := 16, count := 8, ty := .rw, reset := 0, mask := 0xFFFFFFFF, ret := .d },
    { off := 0x108, stride := 16, count := 8, ty := .rw, reset := 0, mask := 0xFFFFFFFF, ret := .d },
    { off := 0x10C, stride := 16, count := 8, ty := .ro, reset := 0, mask := 0x0, ret := .f },
    { off := 0x200, stride := 8, count := 8, ty := .rw, reset := 0, mask := 0xFFFF, ret := .d },
    { off := 0x204, stride := 8, count := 8, ty := .rw, reset := 0, mask := 0xFFFFFFFF, ret := .d },
    { off := 0x400, stride := 4, count := 32, ty := .rw, reset := 0, mask := 0x1FF01FF, ret := .d },
    { off := 0x480, stride := 4, count := 32, ty := .rw, reset := 0, mask := 0x3FF, ret := .d },
    { off := 0x500, stride := 4, count := 32, ty := .rw, reset := 0, mask := 0xFFFFFFFF, ret := .d },
    { off := 0x580, stride := 4, count := 32, ty := .rw, reset := 0, mask := 0xFFFFFFFF, ret := .d },
    { off := 0x600, stride := 4, count := 32, ty := .rw, reset := 0, mask := 0xFFFFFFFF, ret := .d },
    { off := 0x680, stride := 4, count := 32, ty := .rw, reset := 0, mask := 0xFFFFFFFF, ret := .d },
    { off := 0x700, stride := 4, count := 32, ty := .rw, reset := 0, mask := 0xFFFFFFFF, ret := .d },
    { off := 0x780, stride := 4, count := 32, ty := .ro, reset := 0, mask := 0x0, ret := .d },
    { off := 0x800, stride := 4, count := 32, ty := .ro, reset := 0, mask := 0x0, ret := .f },
    { off := 0x880, stride := 4, count := 32, ty := .ro, reset := 0, mask := 0x0, ret := .f } ] ++ [
    { off := 0x900, stride := 4, count := 32, ty := .ro, reset := 0, mask := 0x0, ret := .f },
    { off := 0x980, stride := 4, count := 32, ty := .ro, reset := 0, mask := 0x0, ret := .f },
    { off := 0xA00, stride := 4, count := 32, ty := .rw, reset := 0, mask := 0xFFFFFFFF, ret := .d } ]

/-- The populated pages of CST. -/
def pagesCST : List PageRow :=
  [ { first := 0x0, pages := 1, p := 5, n := 24 },
    { first := 0x100, pages := 1, p := 5, n := 32 },
    { first := 0x200, pages := 1, p := 4, n := 16 },
    { first := 0x400, pages := 6, p := 6, n := 64 },
    { first := 0xA00, pages := 1, p := 5, n := 32 } ]

/-- The registers of YPL (R69; 07_yield_plate.md). -/
def rowsYPL : List RegRow :=
  [
    { off := 0x0, stride := 4, count := 1, ty := .ro, reset := 0x59500001, mask := 0x0, ret := .d },
    { off := 0x4, stride := 4, count := 1, ty := .wo, reset := 0, mask := 0x3, ret := .d },
    { off := 0x8, stride := 4, count := 1, ty := .ro, reset := 0, mask := 0x0, ret := .f },
    { off := 0xC, stride := 4, count := 1, ty := .rw, reset := 0, mask := 0xFFFFFFFF, ret := .d },
    { off := 0x10, stride := 4, count := 1, ty := .rw, reset := 0, mask := 0xFFFFFFFF, ret := .d },
    { off := 0x14, stride := 4, count := 1, ty := .rw, reset := 0, mask := 0xFFFFFFFF, ret := .d },
    { off := 0x18, stride := 4, count := 1, ty := .rw, reset := 0, mask := 0x7, ret := .d },
    { off := 0x1C, stride := 4, count := 1, ty := .ro, reset := 0, mask := 0x0, ret := .f },
    { off := 0x20, stride := 4, count := 1, ty := .ro, reset := 0, mask := 0x0, ret := .d },
    { off := 0x24, stride := 4, count := 1, ty := .ro, reset := 0, mask := 0x0, ret := .d },
    { off := 0x28, stride := 4, count := 1, ty := .ro, reset := 0, mask := 0x0, ret := .d },
    { off := 0x2C, stride := 4, count := 1, ty := .ro, reset := 0, mask := 0x0, ret := .d },
    { off := 0x30, stride := 4, count := 1, ty := .ro, reset := 0, mask := 0x0, ret := .d },
    { off := 0x34, stride := 4, count := 1, ty := .ro, reset := 0, mask := 0x0, ret := .d },
    { off := 0x38, stride := 4, count := 1, ty := .snap, reset := 0, mask := 0x0, ret := .d },
    { off := 0x3C, stride := 4, count := 1, ty := .snap, reset := 0, mask := 0x0, ret := .d },
    { off := 0x40, stride := 4, count := 1, ty := .snap, reset := 0, mask := 0x0, ret := .d },
    { off := 0x44, stride := 4, count := 1, ty := .snap, reset := 0, mask := 0x0, ret := .d },
    { off := 0x48, stride := 4, count := 1, ty := .snap, reset := 0, mask := 0x0, ret := .d },
    { off := 0x4C, stride := 4, count := 1, ty := .snap, reset := 0, mask := 0x0, ret := .d },
    { off := 0x100, stride := 4, count := 1, ty := .rws, reset := 0, mask := 0xFFFF, ret := .d, ug := 10 },
    { off := 0x104, stride := 4, count := 1, ty := .rws, reset := 0x10000, mask := 0xFFFFFFFF, ret := .d, ug := 10 },
    { off := 0x108, stride := 4, count := 1, ty := .rws, reset := 0, mask := 0x7FFFFF, ret := .d, ug := 10 },
    { off := 0x10C, stride := 4, count := 1, ty := .rws, reset := 0x5DC, mask := 0xFFFF, ret := .d, ug := 10 },
    { off := 0x110, stride := 4, count := 1, ty := .rws, reset := 0, mask := 0x3FFFF, ret := .d, ug := 10 },
    { off := 0x114, stride := 4, count := 1, ty := .rws, reset := 0, mask := 0xFFFFFFFF, ret := .d, ug := 10 },
    { off := 0x118, stride := 4, count := 1, ty := .rws, reset := 0x400, mask := 0x7FFF, ret := .d, ug := 10 },
    { off := 0x11C, stride := 4, count := 1, ty := .rws, reset := 0, mask := 0x1FF01FF, ret := .d, ug := 10 },
    { off := 0x120, stride := 4, count := 1, ty := .rws, reset := 0, mask := 0x1FF01FF, ret := .d, ug := 10 },
    { off := 0x124, stride := 4, count := 1, ty := .rws, reset := 0, mask := 0xFFFFFFFF, ret := .d, ug := 10 },
    { off := 0x128, stride := 4, count := 1, ty := .rws, reset := 0, mask := 0xFFFFFFFF, ret := .d, ug := 10 },
    { off := 0x12C, stride := 4, count := 1, ty := .rws, reset := 0x802, mask := 0xF1F, ret := .d, ug := 10 },
    { off := 0x130, stride := 4, count := 1, ty := .rws, reset := 0x28F, mask := 0xFFFF, ret := .d, ug := 10 },
    { off := 0x134, stride := 4, count := 1, ty := .rws, reset := 0x3E8, mask := 0xFFFFF, ret := .d, ug := 10 },
    { off := 0x138, stride := 4, count := 1, ty := .rws, reset := 0x2710, mask := 0xFFFFFFFF, ret := .d, ug := 10 },
    { off := 0x13C, stride := 4, count := 1, ty := .rws, reset := 0x3C, mask := 0x3FF, ret := .d, ug := 10 },
    { off := 0x200, stride := 4, count := 1, ty := .rws, reset := 0x5DC, mask := 0xFFFF, ret := .d, ug := 10 },
    { off := 0x204, stride := 4, count := 15, ty := .rws, reset := 0, mask := 0xFFFF, ret := .d, ug := 10 },
    { off := 0x240, stride := 4, count := 8, ty := .rws, reset := 0x2EE05AA, mask := 0xFFFFFFFF, ret := .d, ug := 10 },
    { off := 0x400, stride := 4, count := 120, ty := .rws, reset := 0, mask := 0xFFFFFFFF, ret := .d, ug := 10 } ] ++ [
    { off := 0x5E0, stride := 4, count := 1, ty := .rws, reset := 0x10000, mask := 0xFFFFFFFF, ret := .d, ug := 10 },
    { off := 0x5E4, stride := 4, count := 135, ty := .rws, reset := 0, mask := 0xFFFFFFFF, ret := .d, ug := 10 },
    { off := 0x800, stride := 4, count := 120, ty := .ro, reset := 0, mask := 0x0, ret := .d },
    { off := 0x9E0, stride := 4, count := 1, ty := .ro, reset := 0x10000, mask := 0x0, ret := .d },
    { off := 0x9E4, stride := 4, count := 135, ty := .ro, reset := 0, mask := 0x0, ret := .d },
    { off := 0xC00, stride := 4, count := 1, ty := .ro, reset := 0, mask := 0x0, ret := .f },
    { off := 0xC04, stride := 4, count := 1, ty := .ro, reset := 0, mask := 0x0, ret := .f },
    { off := 0xC08, stride := 4, count := 1, ty := .ro, reset := 0, mask := 0x0, ret := .f },
    { off := 0xC0C, stride := 4, count := 1, ty := .ro, reset := 0, mask := 0x0, ret := .f },
    { off := 0xC10, stride := 4, count := 1, ty := .ro, reset := 0, mask := 0x0, ret := .f },
    { off := 0xC14, stride := 4, count := 1, ty := .ro, reset := 0, mask := 0x0, ret := .f },
    { off := 0xC18, stride := 4, count := 1, ty := .ro, reset := 0, mask := 0x0, ret := .f },
    { off := 0xC1C, stride := 4, count := 1, ty := .ro, reset := 0, mask := 0x0, ret := .f },
    { off := 0xC20, stride := 4, count := 1, ty := .ro, reset := 0, mask := 0x0, ret := .f },
    { off := 0xC24, stride := 4, count := 1, ty := .ro, reset := 0, mask := 0x0, ret := .f },
    { off := 0xC28, stride := 4, count := 1, ty := .ro, reset := 0, mask := 0x0, ret := .f },
    { off := 0xC2C, stride := 4, count := 1, ty := .ro, reset := 0, mask := 0x0, ret := .d },
    { off := 0xC30, stride := 4, count := 1, ty := .ro, reset := 0, mask := 0x0, ret := .d },
    { off := 0xC34, stride := 4, count := 1, ty := .ro, reset := 0x780078, mask := 0x0, ret := .d },
    { off := 0xC38, stride := 4, count := 1, ty := .ro, reset := 0, mask := 0x0, ret := .d } ]

/-- The populated pages of YPL. -/
def pagesYPL : List PageRow :=
  [ { first := 0x0, pages := 1, p := 5, n := 20 },
    { first := 0x100, pages := 1, p := 4, n := 16 },
    { first := 0x200, pages := 1, p := 5, n := 24 },
    { first := 0x400, pages := 4, p := 6, n := 64 },
    { first := 0x800, pages := 4, p := 6, n := 64 },
    { first := 0xC00, pages := 1, p := 4, n := 15 } ]

/-- The registers of TRN (R69; 12_gnss_baseband.md). -/
def rowsTRN : List RegRow :=
  [
    { off := 0x0, stride := 4, count := 1, ty := .ro, reset := 0x54520001, mask := 0x0, ret := .d },
    { off := 0x4, stride := 4, count := 1, ty := .rw, reset := 0x2, mask := 0x3, ret := .d },
    { off := 0x8, stride := 4, count := 1, ty := .rw, reset := 0x3, mask := 0x7, ret := .d },
    { off := 0xC, stride := 4, count := 1, ty := .rw, reset := 0x80, mask := 0xFF, ret := .d },
    { off := 0x10, stride := 4, count := 1, ty := .rw, reset := 0, mask := 0x3F, ret := .d },
    { off := 0x14, stride := 4, count := 1, ty := .ro, reset := 0, mask := 0x0, ret := .d },
    { off := 0x18, stride := 4, count := 1, ty := .ro, reset := 0, mask := 0x0, ret := .d },
    { off := 0x1C, stride := 4, count := 1, ty := .ro, reset := 0, mask := 0x0, ret := .d },
    { off := 0x20, stride := 4, count := 1, ty := .ro, reset := 0, mask := 0x0, ret := .d },
    { off := 0x24, stride := 4, count := 1, ty := .ro, reset := 0, mask := 0x0, ret := .d },
    { off := 0x28, stride := 4, count := 1, ty := .snap, reset := 0, mask := 0x0, ret := .d },
    { off := 0x2C, stride := 4, count := 1, ty := .snap, reset := 0, mask := 0x0, ret := .d },
    { off := 0x30, stride := 4, count := 1, ty := .snap, reset := 0, mask := 0x0, ret := .d },
    { off := 0x34, stride := 4, count := 1, ty := .snap, reset := 0, mask := 0x0, ret := .d },
    { off := 0x38, stride := 4, count := 1, ty := .snap, reset := 0, mask := 0x0, ret := .d },
    { off := 0x3C, stride := 4, count := 1, ty := .rw, reset := 0, mask := 0xFFFFFFFF, ret := .f },
    { off := 0x40, stride := 4, count := 1, ty := .rw, reset := 0, mask := 0xFFFFFFFF, ret := .f },
    { off := 0x100, stride := 4, count := 4, ty := .ro, reset := 0, mask := 0x0, ret := .f },
    { off := 0x200, stride := 32, count := 2, ty := .wo, reset := 0, mask := 0x3FFFFF, ret := .d },
    { off := 0x204, stride := 32, count := 2, ty := .rw, reset := 0x17700000, mask := 0x1FFFFFFF, ret := .d },
    { off := 0x208, stride := 32, count := 2, ty := .rw, reset := 0xC00, mask := 0xFFFF, ret := .d },
    { off := 0x20C, stride := 32, count := 2, ty := .ro, reset := 0, mask := 0x0, ret := .f },
    { off := 0x210, stride := 32, count := 2, ty := .ro, reset := 0, mask := 0x0, ret := .f },
    { off := 0x214, stride := 32, count := 2, ty := .ro, reset := 0, mask := 0x0, ret := .f },
    { off := 0x218, stride := 32, count := 2, ty := .rc, reset := 0, mask := 0x0, ret := .f },
    { off := 0x21C, stride := 32, count := 2, ty := .ro, reset := 0, mask := 0x0, ret := .f },
    { off := 0x1000, stride := 32, count := 128, ty := .rws, reset := 0, mask := 0x1FFFFF, ret := .d, ug := 7 },
    { off := 0x1004, stride := 32, count := 128, ty := .rws, reset := 0x19643C, mask := 0x7FFFFFF, ret := .d, ug := 7 },
    { off := 0x1008, stride := 32, count := 128, ty := .rws, reset := 0x13A7, mask := 0x1FFF, ret := .d, ug := 7 },
    { off := 0x100C, stride := 32, count := 128, ty := .rws, reset := 0, mask := 0xFFFFFFFF, ret := .d, ug := 7 },
    { off := 0x1010, stride := 32, count := 128, ty := .rws, reset := 0, mask := 0xFFFFFFFF, ret := .d, ug := 7 },
    { off := 0x1014, stride := 32, count := 128, ty := .rws, reset := 0x3E8320FA, mask := 0xFFFFFFFF, ret := .d, ug := 7 },
    { off := 0x1018, stride := 32, count := 128, ty := .rws, reset := 0x326408, mask := 0xFFFF1F, ret := .d, ug := 7 },
    { off := 0x101C, stride := 32, count := 128, ty := .rw, reset := 0, mask := 0xFFFFFFFF, ret := .f },
    { off := 0x2000, stride := 32, count := 128, ty := .ro, reset := 0, mask := 0x0, ret := .f },
    { off := 0x2004, stride := 32, count := 128, ty := .ro, reset := 0, mask := 0x0, ret := .f },
    { off := 0x2008, stride := 32, count := 128, ty := .ro, reset := 0, mask := 0x0, ret := .f },
    { off := 0x200C, stride := 32, count := 128, ty := .ro, reset := 0, mask := 0x0, ret := .f },
    { off := 0x2010, stride := 32, count := 128, ty := .ro, reset := 0, mask := 0x0, ret := .f },
    { off := 0x2014, stride := 32, count := 128, ty := .ro, reset := 0, mask := 0x0, ret := .f } ] ++ [
    { off := 0x2018, stride := 32, count := 128, ty := .ro, reset := 0, mask := 0x0, ret := .f },
    { off := 0x201C, stride := 32, count := 128, ty := .ro, reset := 0, mask := 0x0, ret := .f } ]

/-- The populated pages of TRN. -/
def pagesTRN : List PageRow :=
  [ { first := 0x0, pages := 1, p := 5, n := 17 },
    { first := 0x100, pages := 1, p := 2, n := 4 },
    { first := 0x200, pages := 1, p := 4, n := 16 },
    { first := 0x1000, pages := 16, p := 6, n := 64 },
    { first := 0x2000, pages := 16, p := 6, n := 64 } ]

/-- The registers of POS (R69; 13_position_and_sentry.md). -/
def rowsPOS : List RegRow :=
  [
    { off := 0x0, stride := 4, count := 1, ty := .ro, reset := 0x504F0001, mask := 0x0, ret := .d },
    { off := 0x4, stride := 4, count := 1, ty := .ro, reset := 0, mask := 0x0, ret := .f },
    { off := 0x8, stride := 4, count := 1, ty := .ro, reset := 0, mask := 0x0, ret := .d },
    { off := 0xC, stride := 4, count := 1, ty := .ro, reset := 0, mask := 0x0, ret := .d },
    { off := 0x10, stride := 4, count := 1, ty := .ro, reset := 0, mask := 0x0, ret := .d },
    { off := 0x14, stride := 4, count := 1, ty := .ro, reset := 0, mask := 0x0, ret := .d },
    { off := 0x18, stride := 4, count := 1, ty := .ro, reset := 0, mask := 0x0, ret := .d },
    { off := 0x1C, stride := 4, count := 1, ty := .snap, reset := 0, mask := 0x0, ret := .d },
    { off := 0x20, stride := 4, count := 1, ty := .snap, reset := 0, mask := 0x0, ret := .d },
    { off := 0x24, stride := 4, count := 1, ty := .snap, reset := 0, mask := 0x0, ret := .d },
    { off := 0x28, stride := 4, count := 1, ty := .snap, reset := 0, mask := 0x0, ret := .d },
    { off := 0x2C, stride := 4, count := 1, ty := .snap, reset := 0, mask := 0x0, ret := .d },
    { off := 0x30, stride := 4, count := 1, ty := .ro, reset := 0, mask := 0x0, ret := .f },
    { off := 0x34, stride := 4, count := 1, ty := .ro, reset := 0, mask := 0x0, ret := .f },
    { off := 0x38, stride := 4, count := 1, ty := .ro, reset := 0, mask := 0x0, ret := .f },
    { off := 0x100, stride := 4, count := 1, ty := .rw, reset := 0xF23, mask := 0x1FFF, ret := .d },
    { off := 0x104, stride := 4, count := 1, ty := .rw, reset := 0, mask := 0xFFFFFFFF, ret := .d },
    { off := 0x108, stride := 4, count := 1, ty := .rw, reset := 0, mask := 0x1FFFFF, ret := .d },
    { off := 0x10C, stride := 4, count := 1, ty := .rw, reset := 0, mask := 0xFFFFFFFF, ret := .d },
    { off := 0x110, stride := 4, count := 1, ty := .rw, reset := 0, mask := 0x3FF01FF, ret := .d },
    { off := 0x114, stride := 4, count := 1, ty := .rw, reset := 0, mask := 0xFFFFFFFF, ret := .d },
    { off := 0x118, stride := 4, count := 1, ty := .rw, reset := 0, mask := 0xFFFF03FF, ret := .d },
    { off := 0x11C, stride := 4, count := 1, ty := .rw, reset := 0x1E0A1E05, mask := 0xFF1FFF3F, ret := .d },
    { off := 0x120, stride := 4, count := 1, ty := .rw, reset := 0x1E, mask := 0x3FF, ret := .d },
    { off := 0x124, stride := 4, count := 1, ty := .rw, reset := 0, mask := 0xFFFFFFFF, ret := .d },
    { off := 0x128, stride := 4, count := 1, ty := .rw, reset := 0, mask := 0xFFFFFFFF, ret := .d },
    { off := 0x200, stride := 4, count := 1, ty := .rw, reset := 0x3C3230, mask := 0xFFFFFF7, ret := .k },
    { off := 0x204, stride := 4, count := 1, ty := .rw, reset := 0xE10, mask := 0x1FFFF, ret := .k },
    { off := 0x208, stride := 4, count := 1, ty := .ro, reset := 0, mask := 0x0, ret := .k } ]

/-- The populated pages of POS. -/
def pagesPOS : List PageRow :=
  [ { first := 0x0, pages := 1, p := 4, n := 15 },
    { first := 0x100, pages := 1, p := 4, n := 11 },
    { first := 0x200, pages := 1, p := 2, n := 3 } ]

/-- The registers of AST (R69; 15_object_fusion.md). -/
def rowsAST : List RegRow :=
  [
    { off := 0x0, stride := 4, count := 1, ty := .ro, reset := 0x41530001, mask := 0x0, ret := .d },
    { off := 0x4, stride := 4, count := 1, ty := .rw, reset := 0, mask := 0x1, ret := .d },
    { off := 0x8, stride := 4, count := 1, ty := .rws, reset := 0x6414, mask := 0x1FFFF, ret := .d, ug := 9 },
    { off := 0xC, stride := 4, count := 1, ty := .rws, reset := 0x12780DD1, mask := 0xFFFFFFFF, ret := .d, ug := 9 },
    { off := 0x10, stride := 4, count := 1, ty := .rws, reset := 0x40100, mask := 0xFFFFF, ret := .d, ug := 9 },
    { off := 0x14, stride := 4, count := 1, ty := .rws, reset := 0x1923, mask := 0xFFFF, ret := .d, ug := 9 },
    { off := 0x18, stride := 4, count := 1, ty := .rws, reset := 0xC80064, mask := 0xFFFFFFFF, ret := .d, ug := 9 },
    { off := 0x1C, stride := 4, count := 1, ty := .rws, reset := 0x1F4, mask := 0xFFFF, ret := .d, ug := 9 },
    { off := 0x20, stride := 4, count := 1, ty := .ro, reset := 0, mask := 0x0, ret := .f },
    { off := 0x24, stride := 4, count := 1, ty := .ro, reset := 0, mask := 0x0, ret := .d },
    { off := 0x28, stride := 4, count := 1, ty := .ro, reset := 0, mask := 0x0, ret := .d },
    { off := 0x2C, stride := 4, count := 1, ty := .ro, reset := 0, mask := 0x0, ret := .d },
    { off := 0x30, stride := 4, count := 1, ty := .ro, reset := 0, mask := 0x0, ret := .d },
    { off := 0x34, stride := 4, count := 1, ty := .ro, reset := 0, mask := 0x0, ret := .d },
    { off := 0x38, stride := 4, count := 1, ty := .ro, reset := 0, mask := 0x0, ret := .d },
    { off := 0x3C, stride := 4, count := 1, ty := .ro, reset := 0, mask := 0x0, ret := .d },
    { off := 0x40, stride := 4, count := 1, ty := .ro, reset := 0, mask := 0x0, ret := .d },
    { off := 0x44, stride := 4, count := 1, ty := .ro, reset := 0, mask := 0x0, ret := .d },
    { off := 0x48, stride := 4, count := 1, ty := .snap, reset := 0, mask := 0x0, ret := .d },
    { off := 0x4C, stride := 4, count := 1, ty := .snap, reset := 0, mask := 0x0, ret := .d },
    { off := 0x50, stride := 4, count := 1, ty := .snap, reset := 0, mask := 0x0, ret := .d },
    { off := 0x54, stride := 4, count := 1, ty := .snap, reset := 0, mask := 0x0, ret := .d },
    { off := 0x58, stride := 4, count := 1, ty := .snap, reset := 0, mask := 0x0, ret := .d },
    { off := 0x5C, stride := 4, count := 1, ty := .snap, reset := 0, mask := 0x0, ret := .d },
    { off := 0x60, stride := 4, count := 1, ty := .snap, reset := 0, mask := 0x0, ret := .d },
    { off := 0x64, stride := 4, count := 1, ty := .snap, reset := 0, mask := 0x0, ret := .d },
    { off := 0x68, stride := 4, count := 1, ty := .snap, reset := 0, mask := 0x0, ret := .d },
    { off := 0x6C, stride := 4, count := 1, ty := .ro, reset := 0, mask := 0x0, ret := .f },
    { off := 0x70, stride := 4, count := 1, ty := .rw, reset := 0, mask := 0xFFFFFFFF, ret := .d },
    { off := 0x74, stride := 4, count := 1, ty := .rw, reset := 0, mask := 0xFFFFFFFF, ret := .d },
    { off := 0x78, stride := 4, count := 1, ty := .wo, reset := 0, mask := 0xF, ret := .d },
    { off := 0x100, stride := 32, count := 16, ty := .rws, reset := 0, mask := 0x7FF, ret := .d, ug := 9 },
    { off := 0x104, stride := 32, count := 16, ty := .rws, reset := 0, mask := 0xFFFF, ret := .d, ug := 9 },
    { off := 0x108, stride := 32, count := 16, ty := .rws, reset := 0, mask := 0x9FFFFFFF, ret := .d, ug := 9 },
    { off := 0x10C, stride := 32, count := 16, ty := .rws, reset := 0, mask := 0xFFFFFFFF, ret := .d, ug := 9 },
    { off := 0x110, stride := 32, count := 16, ty := .rws, reset := 0, mask := 0xFFFFFFFF, ret := .d, ug := 9 },
    { off := 0x114, stride := 32, count := 16, ty := .rws, reset := 0x3201F4, mask := 0xFFFFFFFF, ret := .d, ug := 9 },
    { off := 0x118, stride := 32, count := 16, ty := .ro, reset := 0, mask := 0x0, ret := .f },
    { off := 0x11C, stride := 32, count := 16, ty := .ro, reset := 0, mask := 0x0, ret := .f },
    { off := 0x300, stride := 4, count := 1, ty := .rws, reset := 0x8C0089, mask := 0x3FF01FF, ret := .d, ug := 9 } ] ++ [
    { off := 0x304, stride := 4, count := 1, ty := .ro, reset := 0, mask := 0x0, ret := .f },
    { off := 0x308, stride := 4, count := 1, ty := .ro, reset := 0, mask := 0x0, ret := .d },
    { off := 0x30C, stride := 4, count := 1, ty := .snap, reset := 0, mask := 0x0, ret := .d } ]

/-- The populated pages of AST. -/
def pagesAST : List PageRow :=
  [ { first := 0x0, pages := 1, p := 5, n := 31 },
    { first := 0x100, pages := 1, p := 6, n := 64 },
    { first := 0x200, pages := 1, p := 6, n := 64 },
    { first := 0x300, pages := 1, p := 2, n := 4 } ]

/-- The registers of CAM (R69; 14_camera_pipeline.md). -/
def rowsCAM : List RegRow :=
  [
    { off := 0x0, stride := 4, count := 1, ty := .ro, reset := 0x43410001, mask := 0x0, ret := .d },
    { off := 0x4, stride := 4, count := 1, ty := .rw, reset := 0, mask := 0x1, ret := .d },
    { off := 0x8, stride := 4, count := 1, ty := .rws, reset := 0x1, mask := 0x3F, ret := .d, ug := 8 },
    { off := 0xC, stride := 4, count := 1, ty := .ro, reset := 0, mask := 0x0, ret := .f },
    { off := 0x10, stride := 4, count := 1, ty := .ro, reset := 0, mask := 0x0, ret := .d },
    { off := 0x14, stride := 4, count := 1, ty := .ro, reset := 0, mask := 0x0, ret := .d },
    { off := 0x18, stride := 4, count := 1, ty := .ro, reset := 0, mask := 0x0, ret := .d },
    { off := 0x1C, stride := 4, count := 1, ty := .ro, reset := 0, mask := 0x0, ret := .d },
    { off := 0x20, stride := 4, count := 1, ty := .ro, reset := 0, mask := 0x0, ret := .d },
    { off := 0x24, stride := 4, count := 1, ty := .ro, reset := 0, mask := 0x0, ret := .d },
    { off := 0x28, stride := 4, count := 1, ty := .snap, reset := 0, mask := 0x0, ret := .d },
    { off := 0x2C, stride := 4, count := 1, ty := .snap, reset := 0, mask := 0x0, ret := .d },
    { off := 0x30, stride := 4, count := 1, ty := .snap, reset := 0, mask := 0x0, ret := .d },
    { off := 0x34, stride := 4, count := 1, ty := .snap, reset := 0, mask := 0x0, ret := .d },
    { off := 0x38, stride := 4, count := 1, ty := .snap, reset := 0, mask := 0x0, ret := .d },
    { off := 0x3C, stride := 4, count := 1, ty := .snap, reset := 0, mask := 0x0, ret := .d },
    { off := 0x40, stride := 4, count := 1, ty := .rw, reset := 0, mask := 0x3FF000F, ret := .d },
    { off := 0x44, stride := 4, count := 1, ty := .rw, reset := 0, mask := 0xFFF, ret := .d, ug := 8 },
    { off := 0x100, stride := 32, count := 6, ty := .rws, reset := 0, mask := 0xFFFFFFFF, ret := .d, ug := 8 },
    { off := 0x104, stride := 32, count := 6, ty := .rws, reset := 0, mask := 0xFFFFFFFF, ret := .d, ug := 8 },
    { off := 0x108, stride := 32, count := 6, ty := .rws, reset := 0x3200, mask := 0xFF1F, ret := .d, ug := 8 },
    { off := 0x10C, stride := 32, count := 6, ty := .rws, reset := 0x4B00780, mask := 0xFFF0FFF, ret := .d, ug := 8 },
    { off := 0x110, stride := 32, count := 6, ty := .ro, reset := 0, mask := 0x0, ret := .f },
    { off := 0x114, stride := 32, count := 6, ty := .ro, reset := 0, mask := 0x0, ret := .d },
    { off := 0x118, stride := 32, count := 6, ty := .ro, reset := 0, mask := 0x0, ret := .d },
    { off := 0x11C, stride := 32, count := 6, ty := .ro, reset := 0, mask := 0x0, ret := .d },
    { off := 0x200, stride := 64, count := 8, ty := .rws, reset := 0x5000, mask := 0x7FFFF, ret := .d, ug := 8 },
    { off := 0x204, stride := 64, count := 8, ty := .rws, reset := 0x4B00780, mask := 0xFFF0FFF, ret := .d, ug := 8 },
    { off := 0x208, stride := 64, count := 8, ty := .rws, reset := 0x3C0000, mask := 0xFFF0FFF, ret := .d, ug := 8 },
    { off := 0x20C, stride := 64, count := 8, ty := .rws, reset := 0x4380780, mask := 0xFFF0FFF, ret := .d, ug := 8 },
    { off := 0x210, stride := 64, count := 8, ty := .rws, reset := 0x100, mask := 0xFFF, ret := .d, ug := 8 },
    { off := 0x214, stride := 64, count := 8, ty := .rws, reset := 0x10001000, mask := 0xFFFFFFFF, ret := .d, ug := 8 },
    { off := 0x218, stride := 64, count := 8, ty := .rws, reset := 0x10001000, mask := 0xFFFFFFFF, ret := .d, ug := 8 },
    { off := 0x21C, stride := 64, count := 8, ty := .rws, reset := 0x1000, mask := 0xFFFFFFFF, ret := .d, ug := 8 },
    { off := 0x220, stride := 64, count := 8, ty := .rws, reset := 0, mask := 0xFFFFFFFF, ret := .d, ug := 8 },
    { off := 0x224, stride := 64, count := 8, ty := .rws, reset := 0x1000, mask := 0xFFFFFFFF, ret := .d, ug := 8 },
    { off := 0x228, stride := 64, count := 8, ty := .rws, reset := 0, mask := 0xFFFFFFFF, ret := .d, ug := 8 },
    { off := 0x22C, stride := 64, count := 8, ty := .rws, reset := 0x1000, mask := 0xFFFF, ret := .d, ug := 8 },
    { off := 0x230, stride := 64, count := 8, ty := .rws, reset := 0xE000100, mask := 0xFFF0FFF, ret := .d, ug := 8 },
    { off := 0x234, stride := 64, count := 8, ty := .rws, reset := 0x42, mask := 0xFF, ret := .d, ug := 8 } ] ++ [
    { off := 0x238, stride := 64, count := 8, ty := .wo, reset := 0, mask := 0xFFFFFF, ret := .d },
    { off := 0x23C, stride := 64, count := 8, ty := .ro, reset := 0, mask := 0x0, ret := .f },
    { off := 0x400, stride := 32, count := 2, ty := .rws, reset := 0x1E00, mask := 0xFF03, ret := .d, ug := 8 },
    { off := 0x404, stride := 32, count := 2, ty := .rws, reset := 0x2EE01F40, mask := 0xFFFFFFFF, ret := .d, ug := 8 },
    { off := 0x408, stride := 32, count := 2, ty := .rws, reset := 0x2D12, mask := 0x3F3F, ret := .d, ug := 8 },
    { off := 0x40C, stride := 32, count := 2, ty := .wo, reset := 0, mask := 0x1, ret := .d },
    { off := 0x410, stride := 32, count := 2, ty := .ro, reset := 0, mask := 0x0, ret := .f },
    { off := 0x414, stride := 32, count := 2, ty := .rw, reset := 0, mask := 0x7FFFFF, ret := .f },
    { off := 0x418, stride := 32, count := 2, ty := .ro, reset := 0, mask := 0x0, ret := .d },
    { off := 0x41C, stride := 32, count := 2, ty := .ro, reset := 0, mask := 0x0, ret := .d } ]

/-- The populated pages of CAM. -/
def pagesCAM : List PageRow :=
  [ { first := 0x0, pages := 1, p := 5, n := 18 },
    { first := 0x100, pages := 1, p := 6, n := 48 },
    { first := 0x200, pages := 1, p := 6, n := 64 },
    { first := 0x300, pages := 1, p := 6, n := 64 },
    { first := 0x400, pages := 1, p := 4, n := 16 } ]

/-- The registers of CAN (R69; 18_can_fd.md). -/
def rowsCAN : List RegRow :=
  [
    { off := 0x0, stride := 4, count := 1, ty := .ro, reset := 0x434E0001, mask := 0x0, ret := .d },
    { off := 0x4, stride := 4, count := 1, ty := .rw, reset := 0x648, mask := 0x7FFFF, ret := .d },
    { off := 0x8, stride := 4, count := 1, ty := .rw, reset := 0x2040FE2, mask := 0x7FFFFFF, ret := .d },
    { off := 0xC, stride := 4, count := 1, ty := .rw, reset := 0x28223E1, mask := 0x3FFFFFF, ret := .d },
    { off := 0x10, stride := 4, count := 1, ty := .ro, reset := 0, mask := 0x0, ret := .f },
    { off := 0x14, stride := 4, count := 1, ty := .rw, reset := 0, mask := 0x1FF, ret := .k },
    { off := 0x18, stride := 4, count := 1, ty := .rw, reset := 0, mask := 0x1FFFFFFF, ret := .k },
    { off := 0x1C, stride := 4, count := 1, ty := .rw, reset := 0, mask := 0x1FFFFFFF, ret := .k },
    { off := 0x20, stride := 4, count := 1, ty := .rw, reset := 0, mask := 0xFFFFFFFF, ret := .k },
    { off := 0x24, stride := 4, count := 1, ty := .rw, reset := 0, mask := 0xFFFFFFFF, ret := .k },
    { off := 0x28, stride := 4, count := 1, ty := .rw, reset := 0, mask := 0xFFFFFFFF, ret := .d },
    { off := 0x2C, stride := 4, count := 1, ty := .rw, reset := 0, mask := 0xFFFFFFFF, ret := .d },
    { off := 0x30, stride := 4, count := 1, ty := .rw, reset := 0xFD80FE00, mask := 0xFFFFFF01, ret := .d },
    { off := 0x34, stride := 4, count := 1, ty := .ro, reset := 0xFE00, mask := 0x0, ret := .f },
    { off := 0x38, stride := 4, count := 1, ty := .ro, reset := 0, mask := 0x0, ret := .d },
    { off := 0x3C, stride := 4, count := 1, ty := .ro, reset := 0, mask := 0x0, ret := .d },
    { off := 0x40, stride := 4, count := 1, ty := .ro, reset := 0, mask := 0x0, ret := .d },
    { off := 0x44, stride := 4, count := 1, ty := .ro, reset := 0, mask := 0x0, ret := .d },
    { off := 0x48, stride := 4, count := 1, ty := .ro, reset := 0, mask := 0x0, ret := .d },
    { off := 0x4C, stride := 4, count := 1, ty := .ro, reset := 0, mask := 0x0, ret := .d },
    { off := 0x50, stride := 4, count := 1, ty := .ro, reset := 0, mask := 0x0, ret := .d },
    { off := 0x54, stride := 4, count := 1, ty := .ro, reset := 0, mask := 0x0, ret := .d },
    { off := 0x58, stride := 4, count := 1, ty := .ro, reset := 0, mask := 0x0, ret := .d },
    { off := 0x5C, stride := 4, count := 1, ty := .snap, reset := 0, mask := 0x0, ret := .d },
    { off := 0x60, stride := 4, count := 1, ty := .snap, reset := 0, mask := 0x0, ret := .d },
    { off := 0x64, stride := 4, count := 1, ty := .snap, reset := 0, mask := 0x0, ret := .d },
    { off := 0x68, stride := 4, count := 1, ty := .snap, reset := 0, mask := 0x0, ret := .d },
    { off := 0x6C, stride := 4, count := 1, ty := .snap, reset := 0, mask := 0x0, ret := .d },
    { off := 0x70, stride := 4, count := 1, ty := .snap, reset := 0, mask := 0x0, ret := .d },
    { off := 0x74, stride := 4, count := 1, ty := .snap, reset := 0, mask := 0x0, ret := .d },
    { off := 0x78, stride := 4, count := 1, ty := .snap, reset := 0, mask := 0x0, ret := .d },
    { off := 0x7C, stride := 4, count := 1, ty := .snap, reset := 0, mask := 0x0, ret := .d },
    { off := 0x100, stride := 24, count := 4, ty := .rws, reset := 0, mask := 0x8FFFFFFF, ret := .d, ug := 6 },
    { off := 0x104, stride := 24, count := 4, ty := .rws, reset := 0, mask := 0x3FFFFFFF, ret := .d, ug := 6 },
    { off := 0x108, stride := 24, count := 4, ty := .rws, reset := 0x1FFFFFFF, mask := 0x1FFFFFFF, ret := .d, ug := 6 },
    { off := 0x10C, stride := 24, count := 4, ty := .rws, reset := 0x1, mask := 0xFFFFFFFF, ret := .d, ug := 6 },
    { off := 0x110, stride := 24, count := 4, ty := .rws, reset := 0, mask := 0xFFFFFFFF, ret := .d, ug := 6 },
    { off := 0x114, stride := 24, count := 4, ty := .rws, reset := 0, mask := 0xFFFF, ret := .d, ug := 6 },
    { off := 0x160, stride := 24, count := 4, ty := .rws, reset := 0, mask := 0x7FFFFFFF, ret := .d, ug := 6 },
    { off := 0x164, stride := 24, count := 4, ty := .rws, reset := 0, mask := 0x80003FFF, ret := .d, ug := 6 } ] ++ [
    { off := 0x168, stride := 24, count := 4, ty := .rws, reset := 0x1, mask := 0xFFFFFFFF, ret := .d, ug := 6 },
    { off := 0x16C, stride := 24, count := 4, ty := .rws, reset := 0, mask := 0xFFFFFFFF, ret := .d, ug := 6 },
    { off := 0x170, stride := 24, count := 4, ty := .rw, reset := 0, mask := 0xFFFFFFFF, ret := .f },
    { off := 0x174, stride := 24, count := 4, ty := .ro, reset := 0, mask := 0x0, ret := .f },
    { off := 0x200, stride := 16, count := 64, ty := .rws, reset := 0, mask := 0xFFFFFFFF, ret := .d, ug := 6 },
    { off := 0x204, stride := 16, count := 64, ty := .rws, reset := 0x1FFFFFFF, mask := 0x1FFFFFFF, ret := .d, ug := 6 },
    { off := 0x208, stride := 16, count := 64, ty := .rws, reset := 0, mask := 0xFFFFFFFF, ret := .d, ug := 6 },
    { off := 0x20C, stride := 16, count := 64, ty := .ro, reset := 0, mask := 0x0, ret := .f },
    { off := 0x600, stride := 4, count := 1, ty := .rw, reset := 0, mask := 0x1FFFFFFF, ret := .f },
    { off := 0x604, stride := 4, count := 16, ty := .rw, reset := 0, mask := 0xFFFFFFFF, ret := .f },
    { off := 0x644, stride := 4, count := 1, ty := .wo, reset := 0, mask := 0xFF, ret := .f },
    { off := 0x648, stride := 4, count := 1, ty := .ro, reset := 0, mask := 0x0, ret := .f },
    { off := 0x700, stride := 4, count := 1, ty := .rw, reset := 0x4B00, mask := 0xFFFF, ret := .d },
    { off := 0x704, stride := 4, count := 1, ty := .ro, reset := 0, mask := 0x0, ret := .f },
    { off := 0x708, stride := 4, count := 1, ty := .ro, reset := 0, mask := 0x0, ret := .d },
    { off := 0x70C, stride := 4, count := 1, ty := .ro, reset := 0, mask := 0x0, ret := .d },
    { off := 0x710, stride := 4, count := 1, ty := .ro, reset := 0, mask := 0x0, ret := .d },
    { off := 0x714, stride := 4, count := 32, ty := .rws, reset := 0, mask := 0x800FFFFF, ret := .d, ug := 6 } ]

/-- The populated pages of CAN. -/
def pagesCAN : List PageRow :=
  [ { first := 0x0, pages := 1, p := 6, n := 32 },
    { first := 0x100, pages := 1, p := 6, n := 48 },
    { first := 0x200, pages := 4, p := 6, n := 64 },
    { first := 0x600, pages := 1, p := 5, n := 19 },
    { first := 0x700, pages := 1, p := 6, n := 37 } ]

/-- The registers of ETH (R69; 19_ethernet_and_time.md). -/
def rowsETH : List RegRow :=
  [
    { off := 0x0, stride := 4, count := 1, ty := .ro, reset := 0x45540001, mask := 0x0, ret := .d },
    { off := 0x4, stride := 4, count := 1, ty := .rw, reset := 0x640000, mask := 0xFFFF0003, ret := .k },
    { off := 0x8, stride := 4, count := 1, ty := .ro, reset := 0, mask := 0x0, ret := .f },
    { off := 0xC, stride := 4, count := 1, ty := .rw, reset := 0, mask := 0xFFFFFFFF, ret := .d },
    { off := 0x10, stride := 4, count := 1, ty := .ro, reset := 0, mask := 0x0, ret := .f },
    { off := 0x14, stride := 4, count := 1, ty := .ro, reset := 0, mask := 0x0, ret := .f },
    { off := 0x18, stride := 4, count := 1, ty := .ro, reset := 0, mask := 0x0, ret := .f },
    { off := 0x1C, stride := 4, count := 1, ty := .ro, reset := 0, mask := 0x0, ret := .f },
    { off := 0x20, stride := 4, count := 1, ty := .ro, reset := 0, mask := 0x0, ret := .f },
    { off := 0x24, stride := 4, count := 1, ty := .ro, reset := 0, mask := 0x0, ret := .f },
    { off := 0x28, stride := 4, count := 1, ty := .ro, reset := 0, mask := 0x0, ret := .f },
    { off := 0x2C, stride := 4, count := 1, ty := .ro, reset := 0, mask := 0x0, ret := .f },
    { off := 0x30, stride := 4, count := 1, ty := .rw, reset := 0x3F8F6, mask := 0x17FFFF, ret := .k },
    { off := 0x34, stride := 4, count := 1, ty := .rw, reset := 0xC0A86402, mask := 0xFFFFFFFF, ret := .k },
    { off := 0x38, stride := 4, count := 1, ty := .rw, reset := 0xFFFFFF00, mask := 0xFFFFFFFF, ret := .k },
    { off := 0x3C, stride := 4, count := 1, ty := .rw, reset := 0, mask := 0xFFFFFFFF, ret := .k },
    { off := 0x40, stride := 4, count := 1, ty := .rw, reset := 0, mask := 0x7FFF, ret := .k },
    { off := 0x44, stride := 4, count := 1, ty := .ro, reset := 0, mask := 0x0, ret := .d },
    { off := 0x48, stride := 4, count := 1, ty := .ro, reset := 0, mask := 0x0, ret := .d },
    { off := 0x4C, stride := 4, count := 1, ty := .ro, reset := 0, mask := 0x0, ret := .d },
    { off := 0x50, stride := 4, count := 1, ty := .ro, reset := 0, mask := 0x0, ret := .d },
    { off := 0x54, stride := 4, count := 1, ty := .snap, reset := 0, mask := 0x0, ret := .d },
    { off := 0x58, stride := 4, count := 1, ty := .snap, reset := 0, mask := 0x0, ret := .d },
    { off := 0x5C, stride := 4, count := 1, ty := .snap, reset := 0, mask := 0x0, ret := .d },
    { off := 0x60, stride := 4, count := 1, ty := .snap, reset := 0, mask := 0x0, ret := .d },
    { off := 0x100, stride := 16, count := 16, ty := .rw, reset := 0x4005, mask := 0x7FFF, ret := .k },
    { off := 0x104, stride := 16, count := 16, ty := .ro, reset := 0, mask := 0x0, ret := .f },
    { off := 0x108, stride := 16, count := 16, ty := .ro, reset := 0, mask := 0x0, ret := .d },
    { off := 0x10C, stride := 16, count := 16, ty := .ro, reset := 0, mask := 0x0, ret := .d },
    { off := 0x200, stride := 16, count := 32, ty := .rw, reset := 0, mask := 0xFFFFFFFF, ret := .k },
    { off := 0x204, stride := 16, count := 32, ty := .rw, reset := 0, mask := 0xFFFFFFFF, ret := .k },
    { off := 0x208, stride := 16, count := 32, ty := .rw, reset := 0, mask := 0x8FFFFFFF, ret := .k },
    { off := 0x20C, stride := 16, count := 32, ty := .ro, reset := 0, mask := 0x0, ret := .d },
    { off := 0x400, stride := 4, count := 1, ty := .rw, reset := 0, mask := 0x3F0F, ret := .d },
    { off := 0x404, stride := 4, count := 1, ty := .rw, reset := 0, mask := 0xFFFFFFFF, ret := .k },
    { off := 0x408, stride := 4, count := 1, ty := .rw, reset := 0, mask := 0xFFFFFFFF, ret := .k },
    { off := 0x40C, stride := 4, count := 1, ty := .rw, reset := 0, mask := 0xFFFFFFFF, ret := .k },
    { off := 0x410, stride := 4, count := 1, ty := .rw, reset := 0xC350, mask := 0x3FFFFFF, ret := .k },
    { off := 0x414, stride := 4, count := 1, ty := .rw, reset := 0x1, mask := 0xFF, ret := .k },
    { off := 0x418, stride := 4, count := 1, ty := .wo, reset := 0, mask := 0xF, ret := .d } ] ++ [
    { off := 0x41C, stride := 4, count := 1, ty := .ro, reset := 0, mask := 0x0, ret := .f },
    { off := 0x420, stride := 4, count := 1, ty := .ro, reset := 0, mask := 0x0, ret := .d },
    { off := 0x500, stride := 16, count := 10, ty := .rw, reset := 0x9600, mask := 0x3FFFFFFF, ret := .d },
    { off := 0x504, stride := 16, count := 10, ty := .ro, reset := 0, mask := 0x0, ret := .f },
    { off := 0x508, stride := 16, count := 10, ty := .ro, reset := 0, mask := 0x0, ret := .d },
    { off := 0x50C, stride := 16, count := 10, ty := .ro, reset := 0, mask := 0x0, ret := .d } ]

/-- The populated pages of ETH. -/
def pagesETH : List PageRow :=
  [ { first := 0x0, pages := 1, p := 5, n := 25 },
    { first := 0x100, pages := 1, p := 6, n := 64 },
    { first := 0x200, pages := 1, p := 6, n := 64 },
    { first := 0x300, pages := 1, p := 6, n := 64 },
    { first := 0x400, pages := 1, p := 4, n := 9 },
    { first := 0x500, pages := 1, p := 6, n := 40 } ]

/-- The registers of SAF (R69; 16_safe_stop.md, 17_safety_layer_and_seal.md). -/
def rowsSAF : List RegRow :=
  [
    { off := 0x0, stride := 4, count := 1, ty := .ro, reset := 0x53460001, mask := 0x0, ret := .d },
    { off := 0x4, stride := 4, count := 1, ty := .ro, reset := 0, mask := 0x0, ret := .d },
    { off := 0x8, stride := 4, count := 1, ty := .ro, reset := 0, mask := 0x0, ret := .d },
    { off := 0xC, stride := 4, count := 1, ty := .ro, reset := 0, mask := 0x0, ret := .d },
    { off := 0x10, stride := 4, count := 1, ty := .ro, reset := 0, mask := 0x0, ret := .d },
    { off := 0x14, stride := 4, count := 1, ty := .ro, reset := 0, mask := 0x0, ret := .d },
    { off := 0x18, stride := 4, count := 1, ty := .ro, reset := 0, mask := 0x0, ret := .d },
    { off := 0x1C, stride := 4, count := 1, ty := .ro, reset := 0, mask := 0x0, ret := .d },
    { off := 0x20, stride := 4, count := 1, ty := .ro, reset := 0, mask := 0x0, ret := .d },
    { off := 0x24, stride := 4, count := 1, ty := .ro, reset := 0, mask := 0x0, ret := .d },
    { off := 0x28, stride := 4, count := 1, ty := .ro, reset := 0, mask := 0x0, ret := .d },
    { off := 0x2C, stride := 4, count := 1, ty := .ro, reset := 0, mask := 0x0, ret := .d },
    { off := 0x30, stride := 4, count := 1, ty := .ro, reset := 0, mask := 0x0, ret := .d },
    { off := 0x34, stride := 4, count := 1, ty := .ro, reset := 0, mask := 0x0, ret := .d },
    { off := 0x38, stride := 4, count := 1, ty := .ro, reset := 0, mask := 0x0, ret := .d },
    { off := 0x3C, stride := 4, count := 1, ty := .ro, reset := 0, mask := 0x0, ret := .d },
    { off := 0x40, stride := 4, count := 1, ty := .snap, reset := 0, mask := 0x0, ret := .d },
    { off := 0x44, stride := 4, count := 1, ty := .snap, reset := 0, mask := 0x0, ret := .d },
    { off := 0x48, stride := 4, count := 1, ty := .snap, reset := 0, mask := 0x0, ret := .d },
    { off := 0x4C, stride := 4, count := 1, ty := .snap, reset := 0, mask := 0x0, ret := .d },
    { off := 0x100, stride := 16, count := 4, ty := .ro, reset := 0, mask := 0x0, ret := .d },
    { off := 0x104, stride := 16, count := 4, ty := .ro, reset := 0, mask := 0x0, ret := .d },
    { off := 0x108, stride := 16, count := 4, ty := .ro, reset := 0, mask := 0x0, ret := .d },
    { off := 0x10C, stride := 16, count := 4, ty := .ro, reset := 0, mask := 0x0, ret := .d },
    { off := 0x200, stride := 4, count := 16, ty := .ro, reset := 0, mask := 0x0, ret := .d },
    { off := 0x300, stride := 4, count := 32, ty := .ro, reset := 0, mask := 0x0, ret := .d } ]

/-- The populated pages of SAF. -/
def pagesSAF : List PageRow :=
  [ { first := 0x0, pages := 1, p := 5, n := 20 },
    { first := 0x100, pages := 1, p := 4, n := 16 },
    { first := 0x200, pages := 1, p := 4, n := 16 },
    { first := 0x300, pages := 1, p := 5, n := 32 } ]

/-- The registers of PAIR (R69; 20_redundant_pair.md). -/
def rowsPAIR : List RegRow :=
  [
    { off := 0x0, stride := 4, count := 1, ty := .ro, reset := 0x50410001, mask := 0x0, ret := .d },
    { off := 0x4, stride := 4, count := 1, ty := .rw, reset := 0xA00, mask := 0x1FFF03, ret := .p },
    { off := 0x8, stride := 4, count := 1, ty := .rw, reset := 0x110, mask := 0x3FFFFFFF, ret := .p },
    { off := 0xC, stride := 4, count := 1, ty := .ro, reset := 0, mask := 0x0, ret := .d },
    { off := 0x10, stride := 4, count := 1, ty := .ro, reset := 0, mask := 0x0, ret := .d },
    { off := 0x14, stride := 4, count := 1, ty := .ro, reset := 0xFFFFFFFF, mask := 0x0, ret := .d },
    { off := 0x18, stride := 4, count := 1, ty := .ro, reset := 0, mask := 0x0, ret := .d },
    { off := 0x1C, stride := 4, count := 1, ty := .ro, reset := 0, mask := 0x0, ret := .d },
    { off := 0x20, stride := 4, count := 1, ty := .ro, reset := 0, mask := 0x0, ret := .d },
    { off := 0x24, stride := 4, count := 1, ty := .ro, reset := 0, mask := 0x0, ret := .d },
    { off := 0x28, stride := 4, count := 1, ty := .ro, reset := 0, mask := 0x0, ret := .d },
    { off := 0x2C, stride := 4, count := 1, ty := .ro, reset := 0, mask := 0x0, ret := .d },
    { off := 0x30, stride := 4, count := 1, ty := .snap, reset := 0, mask := 0x0, ret := .d },
    { off := 0x34, stride := 4, count := 1, ty := .snap, reset := 0, mask := 0x0, ret := .d },
    { off := 0x38, stride := 4, count := 1, ty := .snap, reset := 0, mask := 0x0, ret := .d },
    { off := 0x3C, stride := 4, count := 1, ty := .snap, reset := 0, mask := 0x0, ret := .d },
    { off := 0x40, stride := 4, count := 1, ty := .snap, reset := 0, mask := 0x0, ret := .d },
    { off := 0x44, stride := 4, count := 1, ty := .ro, reset := 0, mask := 0x0, ret := .d },
    { off := 0x48, stride := 4, count := 1, ty := .ro, reset := 0, mask := 0x0, ret := .d } ]

/-- The populated pages of PAIR. -/
def pagesPAIR : List PageRow :=
  [ { first := 0x0, pages := 1, p := 5, n := 19 } ]

/-- The registers of REC (R69; 22_event_recorder.md). -/
def rowsREC : List RegRow :=
  [
    { off := 0x0, stride := 4, count := 1, ty := .ro, reset := 0x52450001, mask := 0x0, ret := .d },
    { off := 0x4, stride := 4, count := 1, ty := .rw, reset := 0xA9, mask := 0x3FFF, ret := .d },
    { off := 0x8, stride := 4, count := 1, ty := .ro, reset := 0x8000000, mask := 0x0, ret := .d },
    { off := 0xC, stride := 4, count := 1, ty := .ro, reset := 0x1, mask := 0x0, ret := .k },
    { off := 0x10, stride := 4, count := 1, ty := .ro, reset := 0, mask := 0x0, ret := .k },
    { off := 0x14, stride := 4, count := 1, ty := .ro, reset := 0, mask := 0x0, ret := .k },
    { off := 0x18, stride := 4, count := 1, ty := .ro, reset := 0, mask := 0x0, ret := .k },
    { off := 0x1C, stride := 4, count := 1, ty := .ro, reset := 0, mask := 0x0, ret := .k },
    { off := 0x20, stride := 4, count := 1, ty := .ro, reset := 0, mask := 0x0, ret := .k },
    { off := 0x24, stride := 4, count := 1, ty := .ro, reset := 0, mask := 0x0, ret := .d },
    { off := 0x28, stride := 4, count := 1, ty := .ro, reset := 0, mask := 0x0, ret := .d },
    { off := 0x2C, stride := 4, count := 1, ty := .ro, reset := 0, mask := 0x0, ret := .d },
    { off := 0x30, stride := 4, count := 1, ty := .ro, reset := 0, mask := 0x0, ret := .d },
    { off := 0x34, stride := 4, count := 1, ty := .ro, reset := 0, mask := 0x0, ret := .d },
    { off := 0x38, stride := 4, count := 1, ty := .ro, reset := 0, mask := 0x0, ret := .d },
    { off := 0x3C, stride := 4, count := 1, ty := .snap, reset := 0, mask := 0x0, ret := .d },
    { off := 0x40, stride := 4, count := 1, ty := .snap, reset := 0, mask := 0x0, ret := .d },
    { off := 0x44, stride := 4, count := 1, ty := .snap, reset := 0, mask := 0x0, ret := .d },
    { off := 0x48, stride := 4, count := 1, ty := .snap, reset := 0, mask := 0x0, ret := .d },
    { off := 0x4C, stride := 4, count := 1, ty := .snap, reset := 0, mask := 0x0, ret := .d },
    { off := 0x50, stride := 4, count := 1, ty := .snap, reset := 0, mask := 0x0, ret := .d },
    { off := 0x54, stride := 4, count := 1, ty := .snap, reset := 0, mask := 0x0, ret := .d },
    { off := 0x58, stride := 4, count := 1, ty := .snap, reset := 0, mask := 0x0, ret := .d },
    { off := 0x5C, stride := 4, count := 1, ty := .snap, reset := 0, mask := 0x0, ret := .d },
    { off := 0x60, stride := 4, count := 1, ty := .snap, reset := 0, mask := 0x0, ret := .d },
    { off := 0x64, stride := 4, count := 1, ty := .ro, reset := 0, mask := 0x0, ret := .f } ]

/-- The populated pages of REC. -/
def pagesREC : List PageRow :=
  [ { first := 0x0, pages := 1, p := 5, n := 26 } ]

/-- The registers of PNL (R69; 23_status_panel.md). -/
def rowsPNL : List RegRow :=
  [
    { off := 0x0, stride := 4, count := 1, ty := .ro, reset := 0x504E0001, mask := 0x0, ret := .d },
    { off := 0x4, stride := 4, count := 1, ty := .rw, reset := 0, mask := 0x1, ret := .d },
    { off := 0x8, stride := 4, count := 1, ty := .wo, reset := 0, mask := 0x3, ret := .d },
    { off := 0xC, stride := 4, count := 1, ty := .ro, reset := 0, mask := 0x0, ret := .k },
    { off := 0x10, stride := 4, count := 1, ty := .ro, reset := 0, mask := 0x0, ret := .d },
    { off := 0x14, stride := 4, count := 1, ty := .rw, reset := 0x3C, mask := 0xFFF, ret := .d },
    { off := 0x18, stride := 4, count := 1, ty := .ro, reset := 0, mask := 0x0, ret := .d },
    { off := 0x1C, stride := 4, count := 1, ty := .ro, reset := 0, mask := 0x0, ret := .d },
    { off := 0x20, stride := 4, count := 1, ty := .ro, reset := 0, mask := 0x0, ret := .d },
    { off := 0x24, stride := 4, count := 1, ty := .ro, reset := 0, mask := 0x0, ret := .d },
    { off := 0x28, stride := 4, count := 1, ty := .snap, reset := 0, mask := 0x0, ret := .d },
    { off := 0x2C, stride := 4, count := 1, ty := .snap, reset := 0, mask := 0x0, ret := .d },
    { off := 0x30, stride := 4, count := 1, ty := .snap, reset := 0, mask := 0x0, ret := .d },
    { off := 0x34, stride := 4, count := 1, ty := .snap, reset := 0, mask := 0x0, ret := .d },
    { off := 0x38, stride := 4, count := 1, ty := .rw, reset := 0, mask := 0xF01FF01, ret := .d },
    { off := 0x3C, stride := 4, count := 1, ty := .rw, reset := 0, mask := 0xFFFFFFFF, ret := .d },
    { off := 0x100, stride := 8, count := 4, ty := .rw, reset := 0, mask := 0x800F3F3F, ret := .k },
    { off := 0x104, stride := 8, count := 4, ty := .rw, reset := 0, mask := 0x1FF01FF, ret := .k } ]

/-- The populated pages of PNL. -/
def pagesPNL : List PageRow :=
  [ { first := 0x0, pages := 1, p := 4, n := 16 },
    { first := 0x100, pages := 1, p := 3, n := 8 } ]

/-- The registers of PRM (R69; 25_parameters_and_replacement.md). -/
def rowsPRM : List RegRow :=
  [
    { off := 0x0, stride := 4, count := 1, ty := .ro, reset := 0x504D0001, mask := 0x0, ret := .d },
    { off := 0x4, stride := 4, count := 1, ty := .ro, reset := 0, mask := 0x0, ret := .d },
    { off := 0x8, stride := 4, count := 1, ty := .ro, reset := 0, mask := 0x0, ret := .p },
    { off := 0xC, stride := 4, count := 1, ty := .ro, reset := 0, mask := 0x0, ret := .p },
    { off := 0x10, stride := 4, count := 1, ty := .ro, reset := 0, mask := 0x0, ret := .p },
    { off := 0x14, stride := 4, count := 1, ty := .ro, reset := 0, mask := 0x0, ret := .p },
    { off := 0x18, stride := 4, count := 1, ty := .ro, reset := 0, mask := 0x0, ret := .p },
    { off := 0x1C, stride := 4, count := 1, ty := .ro, reset := 0, mask := 0x0, ret := .d },
    { off := 0x20, stride := 4, count := 1, ty := .ro, reset := 0, mask := 0x0, ret := .d },
    { off := 0x24, stride := 4, count := 1, ty := .ro, reset := 0, mask := 0x0, ret := .d },
    { off := 0x28, stride := 4, count := 1, ty := .snap, reset := 0, mask := 0x0, ret := .d },
    { off := 0x2C, stride := 4, count := 1, ty := .snap, reset := 0, mask := 0x0, ret := .d },
    { off := 0x30, stride := 4, count := 1, ty := .snap, reset := 0, mask := 0x0, ret := .d } ]

/-- The populated pages of PRM. -/
def pagesPRM : List PageRow :=
  [ { first := 0x0, pages := 1, p := 4, n := 13 } ]

/-- The blocks of R69, in ascending order of their windows. Each CAN controller is a block of its own. -/
def blockList : List Block :=
  [ { base := 0xE0000000, span := 0x10000, d := 12, domain := .fab, fn := none, rows := rowsSYS, pages := pagesSYS },
    { base := 0xE0010000, span := 0x10000, d := 14, domain := .fab, fn := none, rows := rowsFAB, pages := pagesFAB },
    { base := 0xE0020000, span := 0x10000, d := 14, domain := .fab, fn := none, rows := rowsMBX, pages := pagesMBX },
    { base := 0xE0030000, span := 0x10000, d := 12, domain := .fab, fn := none, rows := rowsTB, pages := pagesTB },
    { base := 0xE0040000, span := 0x10000, d := 14, domain := .ctl, fn := some 2, rows := rowsMER, pages := pagesMER },
    { base := 0xE0080000, span := 0x10000, d := 16, domain := .ctl, fn := some 3, rows := rowsADR, pages := pagesADR },
    { base := 0xE0090000, span := 0x10000, d := 16, domain := .ctl, fn := some 3, rows := rowsADB, pages := pagesADB },
    { base := 0xE00A0000, span := 0x10000, d := 12, domain := .psd, fn := some 4, rows := rowsPSW, pages := pagesPSW },
    { base := 0xE00B0000, span := 0x10000, d := 12, domain := .ctl, fn := some 5, rows := rowsDIN, pages := pagesDIN },
    { base := 0xE00C0000, span := 0x10000, d := 12, domain := .ctl, fn := some 6, rows := rowsAIN, pages := pagesAIN },
    { base := 0xE00D0000, span := 0x10000, d := 12, domain := .ctl, fn := some 7, rows := rowsSNT, pages := pagesSNT },
    { base := 0xE00E0000, span := 0x10000, d := 12, domain := .aon, fn := none, rows := rowsPWR, pages := pagesPWR },
    { base := 0xE0100000, span := 0x10000, d := 12, domain := .fab, fn := some 8, rows := rowsCST, pages := pagesCST },
    { base := 0xE0120000, span := 0x10000, d := 14, domain := .fab, fn := some 9, rows := rowsYPL, pages := pagesYPL },
    { base := 0xE0140000, span := 0x10000, d := 14, domain := .gns, fn := some 10, rows := rowsTRN, pages := pagesTRN },
    { base := 0xE0160000, span := 0x10000, d := 12, domain := .fab, fn := some 11, rows := rowsPOS, pages := pagesPOS },
    { base := 0xE0180000, span := 0x10000, d := 12, domain := .fab, fn := some 12, rows := rowsAST, pages := pagesAST },
    { base := 0xE01C0000, span := 0x10000, d := 14, domain := .ctl, fn := some 13, rows := rowsCAM, pages := pagesCAM },
    { base := 0xE0240000, span := 0x10000, d := 14, domain := .fab, fn := some 15, rows := rowsETH, pages := pagesETH },
    { base := 0xE0260000, span := 0x10000, d := 12, domain := .psd, fn := none, rows := rowsSAF, pages := pagesSAF },
    { base := 0xE0270000, span := 0x10000, d := 12, domain := .fab, fn := none, rows := rowsPAIR, pages := pagesPAIR },
    { base := 0xE0280000, span := 0x10000, d := 12, domain := .fab, fn := none, rows := rowsREC, pages := pagesREC },
    { base := 0xE0290000, span := 0x10000, d := 12, domain := .fab, fn := some 20, rows := rowsPNL, pages := pagesPNL },
    { base := 0xE02A0000, span := 0x10000, d := 12, domain := .fab, fn := none, rows := rowsPRM, pages := pagesPRM } ]

/-- The block of CAN controller `n` (R69), 4 KiB each; page 0x700 exists only for controllers 0 to 3. -/
def canBlock (n : Nat) : Block :=
  { base := 0xE0200000 + 0x1000 * n, span := 0x1000, d := 12, domain := .ctl, fn := some 14,
    rows := if n < 4 then rowsCAN else rowsCAN.filter (fun r => r.off < 0x700),
    pages := if n < 4 then pagesCAN else pagesCAN.filter (fun q => q.first < 0x700) }

/-- The counters with a SNAP copy (R89): address of the copy, its stride, address of the counter, its stride, count. -/
def snapPairs : List (Nat × Nat × Nat × Nat × Nat) :=
  [
    (0xE0020034, 4, 0xE002001C, 4, 1),
    (0xE0020038, 4, 0xE0020020, 4, 1),
    (0xE002003C, 4, 0xE0020024, 4, 1),
    (0xE0020040, 4, 0xE0020028, 4, 1),
    (0xE0020044, 4, 0xE002002C, 4, 1),
    (0xE0020048, 4, 0xE0020030, 4, 1),
    (0xE0010040, 4, 0xE0010020, 4, 1),
    (0xE0010044, 4, 0xE0010024, 4, 1),
    (0xE0010048, 4, 0xE0010028, 4, 1),
    (0xE001004C, 4, 0xE001002C, 4, 1),
    (0xE0010050, 4, 0xE0010030, 4, 1),
    (0xE0010054, 4, 0xE0010034, 4, 1),
    (0xE0000034, 4, 0xE0000024, 4, 1),
    (0xE0000038, 4, 0xE0000028, 4, 1),
    (0xE000003C, 4, 0xE000002C, 4, 1),
    (0xE00B002C, 4, 0xE00B0020, 4, 1),
    (0xE00B0030, 4, 0xE00B0024, 4, 1),
    (0xE00B0034, 4, 0xE00B0028, 4, 1),
    (0xE00C0024, 4, 0xE00C0014, 4, 1),
    (0xE00C0028, 4, 0xE00C0018, 4, 1),
    (0xE00C002C, 4, 0xE00C001C, 4, 1),
    (0xE00C0030, 4, 0xE00C0020, 4, 1),
    (0xE00D0014, 4, 0xE00D0004, 4, 1),
    (0xE00D0018, 4, 0xE00D0008, 4, 1),
    (0xE00D001C, 4, 0xE00D000C, 4, 1),
    (0xE00D0020, 4, 0xE00D0010, 4, 1),
    (0xE010004C, 4, 0xE0100018, 4, 1),
    (0xE0100050, 4, 0xE010001C, 4, 1),
    (0xE0100054, 4, 0xE0100020, 4, 1),
    (0xE0100058, 4, 0xE0100024, 4, 1),
    (0xE010005C, 4, 0xE0100028, 4, 1),
    (0xE0120038, 4, 0xE0120020, 4, 1),
    (0xE012003C, 4, 0xE0120024, 4, 1),
    (0xE0120040, 4, 0xE0120028, 4, 1),
    (0xE0120044, 4, 0xE012002C, 4, 1),
    (0xE0120048, 4, 0xE0120030, 4, 1),
    (0xE012004C, 4, 0xE0120034, 4, 1),
    (0xE004002C, 4, 0xE004001C, 4, 1),
    (0xE0040030, 4, 0xE0040020, 4, 1),
    (0xE0040034, 4, 0xE0040024, 4, 1) ] ++ [
    (0xE0040038, 4, 0xE0040028, 4, 1),
    (0xE0080030, 4, 0xE0080018, 4, 1),
    (0xE0080034, 4, 0xE008001C, 4, 1),
    (0xE0080038, 4, 0xE0080020, 4, 1),
    (0xE008003C, 4, 0xE0080024, 4, 1),
    (0xE0080040, 4, 0xE0080028, 4, 1),
    (0xE0080044, 4, 0xE008002C, 4, 1),
    (0xE0090018, 4, 0xE009000C, 4, 1),
    (0xE009001C, 4, 0xE0090010, 4, 1),
    (0xE0090020, 4, 0xE0090014, 4, 1),
    (0xE00A0028, 4, 0xE00A0010, 4, 1),
    (0xE00A002C, 4, 0xE00A0014, 4, 1),
    (0xE00A0030, 4, 0xE00A0018, 4, 1),
    (0xE00A0034, 4, 0xE00A001C, 4, 1),
    (0xE00A0038, 4, 0xE00A0020, 4, 1),
    (0xE00A003C, 4, 0xE00A0024, 4, 1),
    (0xE0140028, 4, 0xE0140014, 4, 1),
    (0xE014002C, 4, 0xE0140018, 4, 1),
    (0xE0140030, 4, 0xE014001C, 4, 1),
    (0xE0140034, 4, 0xE0140020, 4, 1),
    (0xE0140038, 4, 0xE0140024, 4, 1),
    (0xE016001C, 4, 0xE0160008, 4, 1),
    (0xE0160020, 4, 0xE016000C, 4, 1),
    (0xE0160024, 4, 0xE0160010, 4, 1),
    (0xE0160028, 4, 0xE0160014, 4, 1),
    (0xE016002C, 4, 0xE0160018, 4, 1),
    (0xE01C0028, 4, 0xE01C0010, 4, 1),
    (0xE01C002C, 4, 0xE01C0014, 4, 1),
    (0xE01C0030, 4, 0xE01C0018, 4, 1),
    (0xE01C0034, 4, 0xE01C001C, 4, 1),
    (0xE01C0038, 4, 0xE01C0020, 4, 1),
    (0xE01C003C, 4, 0xE01C0024, 4, 1),
    (0xE0180048, 4, 0xE0180024, 4, 1),
    (0xE018004C, 4, 0xE0180028, 4, 1),
    (0xE0180050, 4, 0xE018002C, 4, 1),
    (0xE0180054, 4, 0xE0180030, 4, 1),
    (0xE0180058, 4, 0xE0180034, 4, 1),
    (0xE018005C, 4, 0xE0180038, 4, 1),
    (0xE0180060, 4, 0xE018003C, 4, 1),
    (0xE0180064, 4, 0xE0180040, 4, 1) ] ++ [
    (0xE0180068, 4, 0xE0180044, 4, 1),
    (0xE0260040, 4, 0xE0260030, 4, 1),
    (0xE0260044, 4, 0xE0260034, 4, 1),
    (0xE0260048, 4, 0xE0260038, 4, 1),
    (0xE026004C, 4, 0xE026003C, 4, 1),
    (0xE0240054, 4, 0xE0240044, 4, 1),
    (0xE0240058, 4, 0xE0240048, 4, 1),
    (0xE024005C, 4, 0xE024004C, 4, 1),
    (0xE0240060, 4, 0xE0240050, 4, 1),
    (0xE0270030, 4, 0xE027001C, 4, 1),
    (0xE0270034, 4, 0xE0270020, 4, 1),
    (0xE0270038, 4, 0xE0270024, 4, 1),
    (0xE027003C, 4, 0xE0270028, 4, 1),
    (0xE0270040, 4, 0xE027002C, 4, 1),
    (0xE028003C, 4, 0xE0280014, 4, 1),
    (0xE0280040, 4, 0xE0280018, 4, 1),
    (0xE0280044, 4, 0xE028001C, 4, 1),
    (0xE0280048, 4, 0xE0280020, 4, 1),
    (0xE028004C, 4, 0xE0280024, 4, 1),
    (0xE0280050, 4, 0xE0280028, 4, 1),
    (0xE0280054, 4, 0xE028002C, 4, 1),
    (0xE0280058, 4, 0xE0280030, 4, 1),
    (0xE028005C, 4, 0xE0280034, 4, 1),
    (0xE0280060, 4, 0xE0280038, 4, 1),
    (0xE0290028, 4, 0xE0290018, 4, 1),
    (0xE029002C, 4, 0xE029001C, 4, 1),
    (0xE0290030, 4, 0xE0290020, 4, 1),
    (0xE0290034, 4, 0xE0290024, 4, 1),
    (0xE02A0028, 4, 0xE02A001C, 4, 1),
    (0xE02A002C, 4, 0xE02A0020, 4, 1),
    (0xE02A0030, 4, 0xE02A0024, 4, 1),
    (0xE00E010C, 16, 0xE00E0100, 16, 10),
    (0xE00C0900, 4, 0xE00C080C, 16, 8),
    (0xE0090300, 4, 0xE0090108, 16, 12),
    (0xE0090330, 4, 0xE009010C, 16, 12),
    (0xE0090360, 4, 0xE00901C4, 4, 1),
    (0xE0090364, 4, 0xE00901C8, 4, 1),
    (0xE018030C, 4, 0xE0180308, 4, 1),
    (0xE020005C, 0x1000, 0xE0200038, 0x1000, 16),
    (0xE0200060, 0x1000, 0xE020003C, 0x1000, 16) ] ++ [
    (0xE0200064, 0x1000, 0xE0200040, 0x1000, 16),
    (0xE0200068, 0x1000, 0xE0200044, 0x1000, 16),
    (0xE020006C, 0x1000, 0xE0200048, 0x1000, 16),
    (0xE0200070, 0x1000, 0xE020004C, 0x1000, 16),
    (0xE0200074, 0x1000, 0xE0200050, 0x1000, 16),
    (0xE0200078, 0x1000, 0xE0200054, 0x1000, 16),
    (0xE020007C, 0x1000, 0xE0200058, 0x1000, 16) ]

end Sys2Proof.Machine
end

