-- ==== Sys2Proof/Machine/Parts/Core.lean ====
section
/-!
DEFINITION. The parts of State that belong to the clocks, the register fabric, the mailbox and the functions
(chapters 01 to 03).
-/
namespace Sys2Proof.Machine

/-- The clocks (R23 to R26, R34, R106). `now` counts CLK_FAB periods of 5 ns since the model's start and survives
every reset; TB, the tick count and the phase run only while `running`. `due` holds the TB of tick boundaries that
have come and whose work (R29) has not been done, oldest first; `lost` that the TCXO or the lock of the root PLL is lost (R107). -/
structure Clk where
  now       : Nat := 0
  running   : Bool := false
  tb        : Nat := 0
  tbFrac    : Nat := 0
  phase     : Nat := 0
  tickCount : Nat := 0
  tickStamp : Nat := 0
  due       : List Nat := []
  lost      : Bool := false
deriving DecidableEq, Repr, Inhabited

/-- The four latched words of one initiator (R26). -/
structure TbLatch where
  nowHi   : Word := 0#32
  countHi : Word := 0#32
  stampLo : Word := 0#32
  stampHi : Word := 0#32
deriving DecidableEq, Repr, Inhabited

/-- What the latest register access gave its initiator: data, a completed write, or a bus error (R70, R79, R80). -/
inductive BusResult where
  | none
  | data (w : Word)
  | done
  | error
deriving DecidableEq, Repr, Inhabited

/-- A guarded write held pending in the comparator (R82): address X, value V, the CLK_FAB time of its acceptance. -/
structure GuardPend where
  ini   : Initiator
  block : Nat
  addr  : Nat
  value : Word
  at_   : Nat
deriving DecidableEq, Repr, Inhabited

/-- The fabric's own state beyond its registers: latches of R26, the guard comparator, the last bus results, the TB of
each host-written signal's last write (R22), the mask of signal entries written since Meridian's last latch (R203), and the CLK_FAB edge
and initiator of the latest snapshot (R89). -/
structure Fabric where
  hostLatch : TbLatch := {}
  domeLatch : TbLatch := {}
  hostBus   : BusResult := .none
  domeBus   : BusResult := .none
  guards    : List GuardPend := []
  sigAt     : List (Nat × Nat) := []
  written   : Nat := 0
  snapBy    : Option (Nat × Initiator) := none
deriving DecidableEq, Repr, Inhabited

/-- The fields of a slot of the module before it is laid out in bytes (R41): flags bits 16 to 23, status and whole payload. -/
structure Slot where
  opcode  : Nat
  flags   : Nat
  session : Nat
  seq     : Nat
  status  : Nat
  payload : List Byte
deriving DecidableEq, Repr, Inhabited

/-- A slot that the module wrote into a ring (R35): its free-running index, its place (that index modulo the ring's number of slots),
its 64 bytes, and the TB of its latest sending as a datagram (R57). -/
structure RingSlot where
  ring   : Nat
  index  : Nat
  place  : Nat
  bytes  : List Byte
  sentAt : Nat
deriving DecidableEq, Repr, Inhabited

/-- What the host last wrote at a place of a command ring (R35). -/
structure HostPlace where
  ring  : Nat
  place : Nat
  slot  : HostSlot
deriving DecidableEq, Repr, Inhabited

/-- An extended response payload (R44): it lies at this offset of the session's window until the response ring passes the slot at
`index`. -/
structure ExtPayload where
  session : Nat
  index   : Nat
  offset  : Nat
  data    : List Byte
deriving DecidableEq, Repr, Inhabited

/-- One of the last 32 commands of a session (R52); no response while it still executes. -/
structure Kept where
  seq  : Nat
  crc  : Word
  resp : Option Slot
deriving DecidableEq, Repr, Inhabited

/-- A merged pending notification of one class (R53). -/
structure NotifPend where
  cls     : Nat
  count   : Nat
  content : List Byte
deriving DecidableEq, Repr, Inhabited

/-- A challenge sent by LINK_OPEN and not yet answered (R58). -/
structure Challenge where
  value : BitVec 256
  at_   : Nat
  key   : Nat
  role  : Nat
deriving DecidableEq, Repr, Inhabited

/-- Where the placement of a session's rings stands (R39, R40). -/
inductive Place where
  | none | claimed | bootstrap | awaitPlace | placed
deriving DecidableEq, Repr, Inhabited

/-- One session (R39 to R62). `claimAt` is the TB of an index reservation; `authIndex` the ring index after the
LINK_AUTH response, which the host's consumer index must pass (R40); `sawOpen` that a LINK_OPEN arrived (R39); `progWait` holds
PROGRESS notifications without a free slot (R54). -/
structure Session where
  place     : Place := .none
  claimAt   : Nat := 0
  authIndex : Nat := 0
  sawOpen   : Bool := false
  slotsLog2 : Nat := 4
  udp       : Option (Nat × Nat) := .none
  challenge : Option Challenge := .none
  isOpen    : Bool := false
  role      : Nat := 0
  key       : Nat := 0
  lastCmd   : Nat := 0
  mask      : Word := 0#32
  kept      : List Kept := []
  pend      : List NotifPend := []
  progWait  : List Slot := []
  holds     : List (Nat × Nat) := []
  respWait  : List Slot := []
  keepAwake : Option Nat := .none
  freezeAt  : Option Nat := .none
deriving DecidableEq, Repr, Inhabited

/-- An open data ring (R560). `transfer` rings close once the host has passed their last record; `waiting` holds the
records not yet written, `told` that its end has been notified. -/
structure DataRing where
  ring     : Nat
  fn       : Nat
  kind     : Nat
  param    : Nat
  session  : Nat
  log2     : Nat
  transfer : Bool
  ended    : Bool
  told     : Bool := false
  waiting  : List (List Byte)
  sent     : Nat
  skipped  : Nat
  lost     : Nat
deriving DecidableEq, Repr, Inhabited

/-- A source of opens (R60): 0 is the application cluster, 1 + address an IPv4 source. -/
structure AuthSource where
  src     : Nat
  fails   : Nat
  blocked : Option Nat
deriving DecidableEq, Repr, Inhabited

/-- The latest LINK_OPEN of a UDP source, kept for 10 s (R56). -/
structure OpenKept where
  ip   : Nat
  port : Nat
  seq  : Nat
  crc  : Word
  resp : Slot
  at_  : Nat
deriving DecidableEq, Repr, Inhabited

/-- A running class C command of a function (R49, R51): its opcode, sender and start, the TB of its latest PROGRESS
and the response its end will publish. -/
structure Running where
  fn       : Nat
  opcode   : Nat
  cmd      : Cmd
  since    : Nat
  progress : Nat
  status   : Nat
  payload  : List Byte
deriving DecidableEq, Repr, Inhabited

/-- A command handed to Dome and not yet carried out (R36, R50, R55): the CLK_FAB edge and the TB of its doorbell or datagram. -/
structure InboxCmd where
  opcode : Nat
  cmd    : Cmd
  edge   : Nat
  at_    : Nat
deriving DecidableEq, Repr, Inhabited

/-- IPv4 fragments under reassembly (R55): source, identification, TB of the first fragment, and the parts. -/
structure IpFrags where
  ip    : Nat
  ident : Nat
  at_   : Nat
  parts : List (Nat × List Byte)
deriving DecidableEq, Repr, Inhabited

/-- The mailbox beyond its registers (chapter 02). -/
structure Mailbox where
  sessions   : List Session := List.replicate 16 {}
  slots      : List RingSlot := []
  hostSlots  : List HostPlace := []
  windows    : List ExtPayload := []
  rings      : List DataRing := []
  inbox      : List InboxCmd := []
  running    : List Running := []
  sources    : List AuthSource := []
  openKept   : List OpenKept := []
  frags      : List IpFrags := []
  challenges : Nat := 0
  irqSince   : Option Nat := none
  irqHeld    : Bool := false
  irqRaised  : Nat := 0
deriving DecidableEq, Repr, Inhabited

/-- A function's state (R45). -/
inductive FnState where
  | stopped | configured | running | faulted | reinit | unused
deriving DecidableEq, Repr, Inhabited

/-- One function (R45, R63 to R66). `pending` and `applied` are CONFIGURE payloads; `transfer` a SET_EXPERT waiting
for the tick boundary after the tick count at its acceptance (R64); `reply` the session, opcode and command that wait for the end of a REINIT. -/
structure Fn where
  state    : FnState := .stopped
  owner    : Option Nat := none
  pending  : Option (List Byte) := none
  applied  : Option (List Byte) := none
  faults   : Nat := 0
  transfer : Option (Nat × Cmd) := none
  reply    : Option (Nat × Nat × Cmd) := none
deriving DecidableEq, Repr, Inhabited

/-- The kinds of plain messages the module sends out. -/
inductive OutKind where
  | can | lin | eth | ser | jasper | pairLink | pairCan | alarm | alarmSummary | pps | gptp | ntrip | tc10Sleep
deriving DecidableEq, Repr, Inhabited

/-- What one command sent out of the module: the mailbox interrupt (R37), a datagram of the mailbox or of a data ring (R55,
R57), plain bytes on a link named by kind and port, a state copy (R458),
an Ethernet frame leaving a switch port, or a fleet message with the sender's unit ID and epoch (R471). -/
inductive OutMsg where
  | irq
  | datagram (ip port : Nat) (p : List Byte)
  | bytes (kind : OutKind) (port : Nat) (p : List Byte)
  | copy (c : PairCopy)
  | frame (port : Nat) (x : EthRx)
  | fleet (dest : FltPeer) (unit epoch : Nat) (m : FltMsg)
deriving DecidableEq, Repr, Inhabited

end Sys2Proof.Machine
end

