-- ==== Sys2Proof/Machine/Parts/Adr.lean ====
section
/-!
DEFINITION. The state of the actuator drive (chapters 09, 10) beyond its registers: channels, events, motion detectors, banks
and the boost rail. Times are TB values (20 ns) where not said otherwise.
-/
namespace Sys2Proof.Machine

/-- A queued timed event (R225): its start and its duration in 10 ns. -/
structure AdrEv where
  start : Nat
  dur   : Nat
deriving DecidableEq, Repr, Inhabited

/-- Phases of R215. -/
inductive AdrPhase where
  | idle | boost | peak | trans | hold | decay
deriving DecidableEq, Repr, Inhabited

/-- A motion detector (R249, R250): the last samples, newest first; the present run, its turn time in 10 ns and its
extremes; the deepest shallow run; whether any run was long enough, any sample eligible, samples were withheld; the
accepted time and depth. -/
structure AdrMot where
  hist    : List Nat := []
  run     : Nat := 0
  turn    : Nat := 0
  top     : Nat := 0
  low     : Nat := 0
  shallow : Nat := 0
  seen    : Bool := false
  elig    : Bool := false
  gap     : Bool := false
  res     : Option (Nat × Nat) := none
deriving DecidableEq, Repr, Inhabited

/-- A running event: requested start (TB) and actual start, whether a duration ends it, effective and untrimmed duration, the latched
profile, band and parameter set, start of the phase, end of the event, and what its record will say; actual start, phase and
end in 10 ns. `recov` counts recovered energy in mV·mA·10 ns. `prop` marks the fast decay of a proportional channel after a
short, which is no event and closes no record. -/
structure AdrRun where
  req     : Nat := 0
  act     : Nat := 0
  timed   : Bool := false
  eff     : Nat := 0
  dur     : Nat := 0
  clip    : Bool := false
  prof    : Nat := 0
  band    : Nat := 0
  wI      : Word := 0#32
  wT      : Word := 0#32
  wH      : Word := 0#32
  wM      : Word := 0#32
  phAt    : Nat := 0
  endAt   : Nat := 0
  cause   : Nat := 0
  tBst    : Nat := 0xFFFF
  bstTmo  : Bool := false
  reached : Bool := false
  short   : Bool := false
  lowV    : Bool := false
  noBst   : Bool := false
  decTmo  : Bool := false
  spill   : Bool := false
  fast    : Bool := false
  prop    : Bool := false
  ipk     : Nat := 0
  recov   : Nat := 0
deriving DecidableEq, Repr, Inhabited

/-- A chop cycle (R232): on-time and off-time in 10 ns, sum and number of its samples. -/
structure AdrCycle where
  on   : Nat
  off  : Nat
  sum  : Nat
  cnt  : Nat
deriving DecidableEq, Repr, Inhabited

/-- A channel. `cfg` is the configuration word last applied; `armed` the triple of R225; `wait` an event that waits for
its bank (R242) with whether a duration ends it; `on`, `swAt` the low side and its last change; `cur` the latest current in
6.25 mA; `sum`, `cnt` the samples of the window of R218 and `sumN`, `cntN` those of the next one; `closing` the
closing window; `estNew` that no measurement of R232 has been taken since START; `bandOld` the band before the temperature update
at `bandAt` (R248); `trimOld` the trim before the one Meridian wrote in tick `trimTick` (R252); `dithAt`, `dithN` the origin of
the dither periods of a regulating proportional channel and the number of the present one, with its profile and band. `swAt`, `lastAt`,
`onAt`, `offAt`, `below`, `above` and `bandAt` count 10 ns. -/
structure AdrCh where
  cfg      : Word := 0x600#32
  armed    : Bool := false
  queue    : List AdrEv := []
  ph       : AdrPhase := .idle
  run      : AdrRun := {}
  wait     : Option (AdrEv × Bool) := none
  on       : Bool := false
  swAt     : Nat := 0
  cur      : Nat := 0
  sum      : Nat := 0
  cnt      : Nat := 0
  sumN     : Nat := 0
  cntN     : Nat := 0
  mean     : Int := 0
  lastAt   : Option Nat := none
  below    : Nat := 0
  above    : Nat := 0
  isOpen   : Bool := false
  sccnt    : Nat := 0
  latched  : Bool := false
  resumeAt : Option Nat := none
  okSince  : Nat := 0
  est      : Option Int := none
  estAt    : Nat := 0
  estNew   : Bool := true
  measAt   : Option Nat := none
  band     : Nat := 0
  bandOld  : Nat := 0
  bandAt   : Option Nat := none
  trimOld  : Word := 0#32
  trimTick : Option Nat := none
  tempFb   : Bool := false
  cycles   : List AdrCycle := []
  onAt     : Nat := 0
  offAt    : Nat := 0
  cycSum   : Nat := 0
  cycCnt   : Nat := 0
  cycOk    : Bool := false
  dithAt   : Option Nat := none
  dithN    : Nat := 0
  dProf    : Nat := 0
  dBand    : Nat := 0
  opening  : AdrMot := {}
  closer   : AdrMot := {}
  closing  : Bool := false
deriving DecidableEq, Repr, Inhabited

/-- A bank: its owner (R240), the actual start in 10 ns of a waiting event it has let in (R241), whether its high side may be on,
and whether it returns at the next tick (R253). -/
structure AdrBank where
  owner : Option Nat := none
  go    : Option Nat := none
  on    : Bool := false
  back  : Bool := false
deriving DecidableEq, Repr, Inhabited

/-- The actuator drive. `run` is `ADR_CTRL`.RUN in effect; `vbst` the boost rail in mV; `conv` the converter on;
`spilling` the condition of R222; `recov` the energy recovered in mV·mA·10 ns; `late` the events (channel, start, duration) of an
ADR_EVENT whose triples are written in the next tick (R237). -/
structure Adr where
  run      : Bool := false
  chs      : List AdrCh := List.replicate 48 {}
  banks    : List AdrBank := List.replicate 12 {}
  vbst     : Nat := 0
  conv     : Bool := false
  unavail  : Bool := true
  spilling : Bool := false
  recov    : Nat := 0
  late     : List (Nat × Nat × Nat) := []
deriving DecidableEq, Repr, Inhabited

end Sys2Proof.Machine
end

