-- ==== Sys2Proof/Machine/Parts/Ast.lean ====
section
/-!
DEFINITION. The state of Astrolabe (chapter 15) beyond its registers. Positions are in cm, velocities in cm/s, accelerations in
cm/s², angles in 0.01°; times are TB values.
-/
namespace Sys2Proof.Machine

/-- A detection of a list (R353). -/
structure AstDet where
  x    : Int
  y    : Int
  vx   : Int
  vy   : Int
  sx   : Nat
  sy   : Nat
  sv   : Nat
  len  : Nat
  wid  : Nat
  cls  : Nat
  conf : Nat
  vel  : Bool
  vrel : Bool
  stat : Bool
  size : Bool
  dt   : Int
deriving DecidableEq, Repr, Inhabited

/-- An accepted list (R354, R360): its source, detection TB, detections, and the speed and yaw rate of an EGO 2 source. -/
structure AstList where
  src  : Nat
  tb   : Int
  dets : List AstDet
  v    : Rat := 0
  w    : Rat := 0
deriving DecidableEq, Repr, Inhabited

/-- A list whose parts arrive (R353, R354): the stamp of its first part and each part's header bytes and detections. -/
structure AstPart where
  stamp : Nat
  hdr   : List Byte
  got   : List (Nat × List AstDet)
deriving DecidableEq, Repr, Inhabited

/-- A source (R355 to R357, R360): state, offset, run of candidates, the reference of the ORDER check, the arrival of the last
accepted list, an unfinished list, CAN bytes, and its last motion estimate with its TB. -/
structure AstSrc where
  st      : Nat := 0
  o       : Int := 0
  run     : List Int := []
  ref     : Option (Nat × Nat) := none
  lastAt  : Nat := 0
  part    : Option AstPart := none
  can     : Option (Nat × List Byte) := none
  est     : Option (Rat × Rat × Nat) := none
deriving DecidableEq, Repr, Inhabited

/-- A track (R362). `slot` is its place; `p` the covariance, row by row; lengths in 0.01 m; `hits`, `miss` the consecutive cycles;
`srcs` the sources that hit it this cycle. -/
structure AstTrack where
  slot : Nat
  id   : Nat
  x    : List Rat
  p    : List (List Rat)
  tb   : Int
  len  : Int := 0
  wid  : Int := 0
  cls  : List Rat := [0, 0, 0, 0, 0, 0, 0, 0]
  conf : Bool := false
  hits : Nat := 0
  miss : Nat := 0
  age  : Nat := 0
  last : Int := 0
  srcs : Nat := 0
deriving DecidableEq, Repr, Inhabited

/-- An ego-motion sample (R359): TB, pose (x, y in cm, heading in 0.01°), speed in cm/s, yaw rate in 0.01°/s, valid. -/
structure AstPose where
  tb  : Nat
  x   : Rat
  y   : Rat
  psi : Rat
  v   : Rat
  w   : Rat
  ok  : Bool
deriving DecidableEq, Repr, Inhabited

/-- Astrolabe. `cfg` holds the shadowed registers as they are in effect since the last boundary, `strobed` that UG9 came since;
`shown` the track records of the latest cycle; `solves` counts solver runs. -/
structure Ast where
  cfg     : List (Nat × Word) := []
  strobed : Bool := false
  running : Bool := false
  clear   : Bool := false
  srcs    : List AstSrc := List.replicate 16 {}
  lists   : List AstList := []
  tracks  : List AstTrack := []
  nextId  : Nat := 1
  lastT   : Nat := 0
  discAt  : Word := 0#32
  poses   : List AstPose := []
  sampled : Nat := 0
  shown   : List (Nat × List Byte) := []
  solves  : Nat := 0
deriving DecidableEq, Repr, Inhabited

end Sys2Proof.Machine
end

