-- ==== Sys2Proof/Machine/Parts/Cam.lean ====
section
/-!
DEFINITION. The state of the camera pipeline and of the vision accelerator (chapter 14) beyond the registers. Times are TB
values.
-/
namespace Sys2Proof.Machine

/-- Received pixels of one segment: line, first pixel, values at 12 bits. -/
structure CamPix where
  line  : Nat
  first : Nat
  px    : List Nat
deriving DecidableEq, Repr, Inhabited

/-- A frame from its first segment to its descriptor (R331 to R346). `stream` is 6 for memory; `closed` once assembly has ended;
`begun` once the ISP has taken it with its latched context words `use` and tables `tab`; `stripes` the stripes done and
`ready` that all are; `bufD`, `bufM`, `bufS` the buffers it writes; `inline_` a frame of the inline stream, with the lines waiting
in the buffer and whether it lost one. -/
structure CamFrame where
  uid     : Nat
  stream  : Nat
  ctx     : Option Nat := none
  num     : Nat
  sof     : Nat
  cap     : Option Nat := none
  first   : Nat
  w       : Nat
  h       : Nat
  bayer   : Nat
  segs    : List CamPix := []
  badCrc  : Nat := 0
  seqGap  : Bool := false
  dropped : Bool := false
  closed  : Bool := false
  begun   : Bool := false
  inline_ : Bool := false
  waiting : Nat := 0
  startAt : Nat := 0
  stripes : Nat := 0
  ready   : Bool := false
  use     : List Word := []
  tab     : List (Nat × Nat) := []
  bufD    : Option Nat := none
  bufM    : Option Nat := none
  bufS    : Option Nat := none
deriving DecidableEq, Repr, Inhabited

/-- A camera stream (R331, R333): its STATE, last sequence_num, the TB of its last accepted segment and the numbers of the frames it
has closed since it last began to receive. -/
structure CamStr where
  st     : Nat := 0
  seq    : Option Nat := none
  lastAt : Nat := 0
  closed : List Nat := []
deriving DecidableEq, Repr, Inhabited

/-- A buffer: 0 free, 1 in writing, 2 held (R342), and its content. -/
structure CamBuf where
  st   : Nat := 0
  data : List Byte := []
deriving DecidableEq, Repr, Inhabited

/-- A context: its buffers, frames published, tables in effect, whether it was enabled and its source at the last strobe. -/
structure CamCtx where
  d    : List CamBuf := []
  m    : List CamBuf := []
  s    : List CamBuf := []
  pub  : Nat := 0
  src  : Nat := 0
  en   : Bool := false
  tab  : List (Nat × Nat) := []
deriving DecidableEq, Repr, Inhabited

/-- The frame an encoder channel works on (R343). -/
structure EncJob where
  ctx : Nat
  num : Nat
  sof : Nat
  idr : Bool
deriving DecidableEq, Repr, Inhabited

/-- An encoder channel (R343, R344): its job, a forced IDR, frames since the last IDR, and the access units in its buffer. -/
structure CamEnc where
  job   : Option EncJob := none
  force : Bool := true
  gop   : Nat := 0
  aus   : List (Nat × List Byte) := []
deriving DecidableEq, Repr, Inhabited

/-- The camera pipeline. `isp` names the frame the ISP works on, `lastCtx` the context last served; `tblPend` the pending table
writes by (context, table, index). -/
structure Cam where
  strs    : List CamStr := List.replicate 6 {}
  frames  : List CamFrame := []
  uid     : Nat := 0
  isp     : Option Nat := none
  lastCtx : Nat := 7
  mode    : Nat := 1
  ctxs    : List CamCtx := List.replicate 8 {}
  encs    : List CamEnc := List.replicate 2 {}
  tblPend : List (Nat × Nat × Nat) := []
deriving DecidableEq, Repr, Inhabited

/-- The vision accelerator as its status shows it (R348): jobs running, completed, aborted, and its load. -/
structure Vxa where
  jobs : Nat := 0
  done : Nat := 0
  abrt : Nat := 0
  load : Nat := 0
deriving DecidableEq, Repr, Inhabited

end Sys2Proof.Machine
end

