-- ==== Sys2Proof/Machine/Parts/Can.lean ====
section
/-!
DEFINITION. The state of the CAN controllers and LIN channels (chapter 18) beyond their registers. Times are TB values.
-/
namespace Sys2Proof.Machine

/-- A frame that stands for transmission (R422). `src`: 0 island, 1 pair, 2 address claim, 3 TX object `obj`, 4 host queue. -/
structure CanTx where
  src   : Nat
  obj   : Nat := 0
  ident : Nat
  xtd   : Bool
  fdf   : Bool
  brs   : Bool
  sub   : Bool := false
  data  : List Byte
  at_   : Nat
deriving DecidableEq, Repr, Inhabited

/-- A controller: frames that stand, the error counters in full, bus-offs without a frame sent in between, the time of the
bus-off, the bit timing in use (R417), RUN as last seen, the send time of its claim and its view of other nodes' claims
(address, NAME), the frame errors while asleep, and that its sleep cleared RUN. -/
structure CanCtl where
  tx      : List CanTx := []
  tec     : Nat := 0
  rec_    : Nat := 0
  boffs   : Nat := 0
  boffAt  : Nat := 0
  nbt     : Word := 0x02040FE2#32
  dbt     : Word := 0x028223E1#32
  run     : Bool := false
  claimAt : Option Nat := none
  view    : List (Nat × Nat) := []
  wakeErr : Nat := 0
  again   : Bool := false
deriving DecidableEq, Repr, Inhabited

/-- A LIN channel: EN in force, the begin of the next entry, the entry in progress with the end of its header, asleep by
LIN_SLEEP or STANDBY. -/
structure LinCh where
  on    : Bool := false
  next  : Nat := 0
  last  : Option Nat := none
  entry : Option (Nat × Nat) := none
  sleep : Bool := false
deriving DecidableEq, Repr, Inhabited

/-- The bus interfaces. `strobes` counts UG6 strobes since START; `impAt` the last matching frame of each import entry, or when
its timeout began, `impOut` that it expired, `impCfg` its configuration word in effect; `seq` the sequence number of the
rings of each controller and LIN channel; `woke` the controllers (bits 0 to 15) and channels (16 to 19) that saw their wake;
`want` the controllers whose applied configuration sets RUN. -/
structure Can where
  ctls    : List CanCtl := List.replicate 16 {}
  lins    : List LinCh := List.replicate 4 {}
  strobes : Nat := 0
  impAt   : List Nat := List.replicate 64 0
  impOut  : List Bool := List.replicate 64 false
  impCfg  : List Word := List.replicate 64 0#32
  seq     : List Nat := List.replicate 20 0
  woke    : Nat := 0
  want    : Nat := 0
deriving DecidableEq, Repr, Inhabited

end Sys2Proof.Machine
end

