-- ==== Sys2Proof/Machine/Parts/Cst.lean ====
section
/-!
DEFINITION. The state of Coelostat (chapter 06) beyond its registers.
-/
namespace Sys2Proof.Machine

/-- Coelostat. `cfg` holds the configuration words in force (R154); `k` the index of the next sample, `lastTick` the
boundary last sampled; `pos` the sample within the block or hold, `hold` the length H; `iAcc`, `qAcc`, `sj`, `sjj` the
accumulators of R151; `frzRef` the signals at the start of the block or hold (R158); `advice` the block whose
suggestion stands for an MF; `publish` the values waiting for UG2; `finalWrite` the write after STOP (R161);
`lpt` the last 100 readings of R148. -/
structure Cst where
  cfg        : List (Nat × Word) := []
  k          : Nat := 0
  lastTick   : Option Nat := none
  lptTick    : Option Nat := none
  pos        : Nat := 0
  hold       : Nat := 0
  iAcc       : List Int := List.replicate 32 0
  qAcc       : List Int := List.replicate 32 0
  sj         : Int := 0
  sjj        : Int := 0
  frzRef     : List Int := List.replicate 8 0
  advice     : List (Option Nat) := List.replicate 32 none
  publish    : List (Nat × Word) := []
  finalWrite : Bool := false
  lpt        : List (Int × Int × Bool) := []
deriving DecidableEq, Repr, Inhabited

end Sys2Proof.Machine
end

