-- ==== Sys2Proof/Machine/Parts/Eth.lean ====
section
/-!
DEFINITION. The state of the Ethernet switch, the RS-485 and the USB ports (chapter 19) beyond the registers.
-/
namespace Sys2Proof.Machine

/-- A gate control list (R439): entry words (gate mask in bits 7 to 0, interval in bits 31 to 8), BASE, CYCLE, LEN and EN. -/
structure Gcl where
  entries : List Nat := List.replicate 64 0
  base    : Nat := 0
  cycle   : Nat := 50000
  len     : Nat := 1
  en      : Bool := false
deriving DecidableEq, Repr, Inhabited

/-- The gates of an external port (R439, R440): operating and pending list, a change scheduled for a TB, the mask in force, and the frames
that wait for their gate, oldest first. -/
structure EthPort where
  oper  : Gcl := {}
  pend  : Gcl := {}
  sched : Option (Nat × Gcl) := none
  gates : Nat := 255
  queue : List (Nat × EthRx) := []
deriving DecidableEq, Repr, Inhabited

/-- A learned address (R433). -/
structure EthMac where
  mac  : Nat
  vid  : Nat
  port : Nat
  at_  : Nat
deriving DecidableEq, Repr, Inhabited

/-- The switch. `force` holds the configuration words in force since the last APPLY (R434), `fwd` that it forwards, `ext` that the
external ports are enabled, `reload` the start of a reload from the AON copy; `buckets` the tokens of each filter in 1/50 bit with
the TB they were counted at (R438); `syncAt` the latest Sync sent; `serDue` the end of a transmission per RS-485 port; `vbus` the USB
supplies. -/
structure Eth where
  ports   : List EthPort := List.replicate 13 {}
  macs    : List EthMac := []
  force   : List (Nat × Word) := []
  fwd     : Bool := false
  ext     : Bool := false
  reload  : Option Nat := none
  buckets : List (Option (Nat × Nat)) := List.replicate 32 none
  syncAt  : Nat := 0
  serDue  : List (Option Nat) := List.replicate 10 none
  vbus    : List Bool := [true, true]
deriving DecidableEq, Repr, Inhabited

end Sys2Proof.Machine
end

