-- ==== Sys2Proof/Machine/Parts/Flt.lean ====
section
/-!
DEFINITION. The state of the fleet function (chapter 21), which has no registers.
-/
namespace Sys2Proof.Machine

/-- An accepted child (R468): unit ID, the address of its datagrams, the TB of its last KeyUpdate. -/
structure FltChild where
  unit  : Nat
  ip    : Nat
  port  : Nat
  keyAt : Nat
deriving DecidableEq, Repr, Inhabited

/-- A global operation that reports up (R475 to R477): kind (1 barrier, 2 snapshot, 3 epoch reset), number, its epoch, the barrier's
tag, whether the unit has its own result, the children still awaited, what has been collected, and the deadline as TB. -/
structure FltOp where
  kind    : Nat
  num     : Nat
  epoch   : Nat
  tag     : Nat := 0
  own     : Bool := false
  kids    : List Nat := []
  counted : Nat := 0
  missing : Nat := 0
  recs    : List (List Byte) := []
  due     : Nat := 0
deriving DecidableEq, Repr, Inhabited

/-- The fleet function. `st` is the parent state (0 none, 1 connecting, 2 up, 3 LOST), `ep` the endpoint in use, `retryAt` the TB of a
retry, `heard` of the parent's last message; `epoch` is class K; `snap` the latest local snapshot with its epoch, `snapDue` one that
waits for a pair-cycle boundary; `covSent` the field and the covered cells at the last coverage send. -/
structure Flt where
  st      : Nat := 0
  ep      : Nat := 0
  level   : Nat := 0
  heard   : Nat := 0
  keyAt   : Nat := 0
  retryAt : Option Nat := none
  kids    : List FltChild := []
  fails   : Nat := 0
  hbAt    : Nat := 0
  covAt   : Nat := 0
  covSent : Nat × List (Int × Int) := (0, [])
  rdvAt   : Nat := 0
  epoch   : Nat := 0
  lastOp  : Nat := 0
  ops     : List FltOp := []
  snap    : Option (Nat × List Byte) := none
  snapDue : Option Nat := none
deriving DecidableEq, Repr, Inhabited

end Sys2Proof.Machine
end

