-- ==== Sys2Proof/Machine/Parts/Gptp.lean ====
section
/-!
DEFINITION. The state of 802.1AS (R443 to R446) beyond the registers.
-/
namespace Sys2Proof.Machine

/-- A Sync as it was taken: grandmaster identity, its gPTP time and the TB of its arrival. -/
structure GptpSync where
  gm : Nat
  g  : Nat
  tb : Nat
deriving DecidableEq, Repr, Inhabited

/-- The relation between gPTP time and TB (R444): `g`, `tb` and `rate` (2^-40) hold it; `synced` is SYNCED; `last` the latest Sync;
`asCap` the ports that are asCapable; `exceeds` that |DIFF| stands above DIFF_LIM; `servoAt` the latest trim of the
servo, `servoRef` the Sync from which its second counts. -/
structure Gptp where
  g      : Nat := 0
  tb     : Nat := 0
  rate   : Int := 0
  synced : Bool := false
  last   : Option GptpSync := none
  asCap  : Nat := 0
  exceeds : Bool := false
  servoAt : Nat := 0
  servoRef : Option GptpSync := none
deriving DecidableEq, Repr, Inhabited

end Sys2Proof.Machine
end

