-- ==== Sys2Proof/Machine/Parts/Inputs.lean ====
section
/-!
DEFINITION. The state of the field inputs (chapter 05) beyond their registers.
-/
namespace Sys2Proof.Machine

/-- An analog channel (R127 to R129): filter state, the frame of its last conversion, the TB since which each of the
conditions 1 to 4 holds, or has ceased, which of them count, the 25 mA overload and the shunt. -/
structure AinCh where
  y        : Int := 0
  first    : Bool := true
  frame    : Option Nat := none
  condAt   : List (Option Nat) := [none, none, none, none]
  goneAt   : List (Option Nat) := [none, none, none, none]
  active   : List Bool := [false, false, false, false]
  overAt   : Option Nat := none
  shuntOff : Option Nat := none
deriving DecidableEq, Repr, Inhabited

/-- A speed input (R134, R135): edges not yet used (stamp and signed count), the last edge used, the last frequency and
the levels of a quadrature pair. -/
structure SpdCh where
  edges : List (Nat × Int) := []
  t0    : Option Nat := none
  f     : Int := 0
  a     : Bool := false
  b     : Bool := false
  open_ : Bool := false
deriving DecidableEq, Repr, Inhabited

/-- An acoustic input (R136, R137). -/
structure AcuCh where
  env      : Int := 0
  floor    : Int := 0
  dead     : Nat := 0
  armed    : Bool := true
  inImpact : Bool := false
  count    : Nat := 0
  windows  : List Nat := []
deriving DecidableEq, Repr, Inhabited

/-- A SENT channel (R138, R139): previous calibration, the stamp of the latest accepted frame, start of the running timeout period, the
slow-message table. -/
structure SentCh where
  prev   : Option Nat := none
  stamp  : Nat := 0
  since  : Nat := 0
  slow   : List (Nat × Nat × Nat × Nat) := []
deriving DecidableEq, Repr, Inhabited

/-- A sensor supply (R130): the end of its off time after a trip, the time of its last trip, and the start of a
current limit. -/
structure SupSt where
  off     : Option Nat := none
  lastAt  : Nat := 0
  limitAt : Option Nat := none
deriving DecidableEq, Repr, Inhabited

/-- An average in progress for AIN_BRIDGE_TARE (R133). -/
structure Tare where
  bridge : Nat
  want   : Nat
  got    : Nat
  sum    : Int
deriving DecidableEq, Repr, Inhabited

/-- The field inputs. `reest` holds the TB from which a digital channel's state is re-established without an edge (R124, R125); FIFO
and buffer entries are the 64-bit entries of R123. -/
structure Inputs where
  reest    : List (Option Nat) := List.replicate 40 none
  fifo     : List Nat := []
  buffer   : List Nat := []
  lostRead : Nat := 0
  ain      : List AinCh := List.replicate 24 {}
  discard  : List Nat := [0, 0, 0, 0]
  tare     : Option Tare := none
  spd      : List SpdCh := List.replicate 12 {}
  acu      : List AcuCh := List.replicate 8 {}
  acuTick  : Option Nat := none
  sent     : List SentCh := List.replicate 16 {}
  sup      : List SupSt := List.replicate 3 {}
deriving DecidableEq, Repr, Inhabited

end Sys2Proof.Machine
end

