-- ==== Sys2Proof/Machine/Parts/Mer.lean ====
section
/-!
DEFINITION. The state of Meridian (chapter 08) beyond its registers.
-/
namespace Sys2Proof.Machine

/-- The state of a slot (R210). `first` marks that the next evaluation takes the history; `inv` the condition of R204;
`stI` a write of `MER_ST_I` that waits for the tick boundary; `act` whether it ran at the last boundary; `fresh` the
FRESH record; `clip` 0 NONE, 1 HIGH, 2 LOW. -/
structure MerSlot where
  i16   : Int := 0
  v     : Int := 0
  yPrev : Int := 0
  ePrev : Int := 0
  uPrev : Int := 0
  clip  : Nat := 0
  rEff  : Int := 0
  ramp  : Bool := false
  fresh : Bool := false
  first : Bool := false
  inv   : Bool := false
  stI   : Option Int := none
  act   : Bool := false
deriving DecidableEq, Repr, Inhabited

/-- Meridian. `ramp` is the ramp demand as last sampled (R208); `late` the setpoints of a MER_SETPOINT that are written in the next tick
(R212). -/
structure Mer where
  run   : Bool := false
  ramp  : Bool := false
  slots : List MerSlot := List.replicate 64 {}
  late  : List (Nat × Word) := []
deriving DecidableEq, Repr, Inhabited

end Sys2Proof.Machine
end

