-- ==== Sys2Proof/Machine/Parts/Pair.lean ====
section
/-!
DEFINITION. The state of the redundant pair (chapter 20) beyond its registers. Times are TB values.
-/
namespace Sys2Proof.Machine

/-- A HOLD or REQ beacon that may draw a grant: its path, the low 16 bits of its cycle number, its send time. -/
structure PairSent where
  can : Bool
  cyc : Nat
  tb  : Nat
deriving DecidableEq, Repr, Inhabited

/-- The pair. `alive` its own PAIR_ALIVE output: low from a device-level reset until READY and from a shed at V_RST until its recovery (R113, R115, R452). `en`, `role` (true: SECONDARY), `canEn`, `canCtl` are in force since the last device-level reset (R451); `acting` and
`gate` of R455; `clash` the CONFLICT of R451 that ends acting and granting; `lease` its expiry with the cause shown (1, or 4
and 5 for one carried by RELEASE); `guard` the guard's end; `hold` the last HOLD beacon, `grant` the last grant received,
`linkAt` and `canAt` the last beacons, `readyAt` READY; `deadAt` since when the peer is DEAD, `leftDead` when it left;
`sent` own beacons; `copy` the latest complete copy since READY, `cells` the mapped deltas, `cellsId` their field, `seqIn` the last one and `resync` that the next copy's sequence is taken as it comes, `deltas`
own deltas not acknowledged and `seqOut` the last one; `healthyAt` since when HEALTHY in STANDBY; `offAt` when the gate closed,
`handover` the cause of a handover in progress; `swap` its command; `blind` that the fault of R457 was reported; `path` the content of the last PAIR_PATH; `canNext` the next CAN beacon. -/
structure Pair where
  alive     : Bool := false
  en        : Bool := false
  role      : Bool := false
  canEn     : Bool := false
  canCtl    : Nat := 0
  acting    : Bool := false
  gate      : Bool := false
  clash     : Bool := false
  shown     : Nat := 0
  cycle     : Nat := 0
  lease     : Option (Nat × Nat) := none
  guard     : Option Nat := none
  hold      : Option Nat := none
  grant     : Option Nat := none
  linkAt    : Option Nat := none
  canAt     : Option Nat := none
  readyAt   : Nat := 0
  deadAt    : Option Nat := none
  leftDead  : Option Nat := none
  peerRevert : Bool := false
  sent      : List PairSent := []
  copy      : Option PairCopy := none
  cells     : List PairDelta := []
  seqIn     : Nat := 0
  cellsId   : Option Nat := none
  resync    : Bool := true
  deltas    : List PairDelta := []
  seqOut    : Nat := 0
  healthyAt : Option Nat := none
  offAt     : Option Nat := none
  handover  : Nat := 0
  swap      : Option (Nat × Cmd) := none
  blind     : Bool := false
  path      : Nat × Nat × Nat := (0, 0, 0)
  canNext   : Nat := 0
deriving DecidableEq, Repr, Inhabited

end Sys2Proof.Machine
end

