-- ==== Sys2Proof/Machine/Parts/Pnl.lean ====
section
/-!
DEFINITION. The state of the status panel (chapter 23) beyond its registers.
-/
namespace Sys2Proof.Machine

/-- An image: lines of 50 bytes, pixel x at bit 7 − (x mod 8) of byte x div 8; a line not listed is white. -/
structure PnlImg where
  lines : List (Nat × List Byte) := []
deriving DecidableEq, Repr, Inhabited

/-- An update that runs (R495): a full refresh, its white pass, the lines still to drive (the first in progress), and how many it drives. -/
structure PnlRun where
  full  : Bool
  white : Bool
  lines : List Nat
  total : Nat
deriving DecidableEq, Repr, Inhabited

/-- A toggle of a blink rectangle (R499): to B or back to A, and the lines still to write, the first in progress. -/
structure PnlTog where
  rect  : Nat
  toB   : Bool
  lines : List Nat
deriving DecidableEq, Repr, Inhabited

/-- The panel. `glass` is what it physically shows; `shown` the displayed image with whether its CRC holds; `work` the work copy; `wait`
an update that waits for a toggle's line (its FULL and its loop reading); `cut` an update that a shed interrupted; `want` and
`urgent` Dome's update after a rewrite; `updAt` the start of Dome's latest update; `blinkOn` that a first update has completed;
`phase` for each rectangle whether B is due next and the start of its half-period; `crackAt` the latest measurement while blinking; `flash` the dirty flag in
NOR flash (R117, R495); `stepThree` an update of step 3 of key-off, which needs no RUN (R494). -/
structure Pnl where
  a       : PnlImg := {}
  b       : PnlImg := {}
  work    : PnlImg := {}
  shown   : PnlImg := {}
  shownOk : Bool := false
  glass   : PnlImg := {}
  run     : Option PnlRun := none
  togs    : List PnlTog := []
  wait    : Option (Bool × Nat) := none
  cut     : Bool := false
  want    : Bool := false
  urgent  : Bool := false
  updAt   : Option Nat := none
  blinkOn : Bool := false
  phase   : List (Bool × Nat) := List.replicate 4 (false, 0)
  crackAt : Nat := 0
  flash   : Bool := false
  stepThree : Bool := false
deriving DecidableEq, Repr, Inhabited

end Sys2Proof.Machine
end

