-- ==== Sys2Proof/Machine/Parts/Pos.lean ====
section
/-!
DEFINITION. The state of the position service and of the key-off sentry (chapter 13) beyond the registers. Times are TB
values unless they are named AON counts (1/32,768 s since key-off).
-/
namespace Sys2Proof.Machine

/-- A channel in the sentry list (R321, R323): its Doppler reference in mHz, the Doppler rate in 2^-16 mHz per AON count, and
the bursts in a row that missed it. -/
structure SentryCh where
  sv   : Nat
  sig  : Nat
  dref : Int
  rate : Int
  miss : Nat := 0
deriving DecidableEq, Repr, Inhabited

/-- A unit of the sentry store (R322): a measurement set with its AON time, NOTEST flag and entries, or a snapshot with its
AON time, index and samples. -/
inductive SentryUnit where
  | set (time : Nat) (notest : Bool) (hits : List SentryHit)
  | snap (time index : Nat) (samples : List Byte)
deriving DecidableEq, Repr, Inhabited

/-- The sentry program and its store, class K (R321 to R325). `keyOffAt` is the CLK_FAB time of key-off; `refAt` the AON count of
the last stationary burst; `next` the AON count of the next burst or snapshot; `wake` a sentry event that asks for a wake; `nav` the last navigation state before
key-off. -/
structure Sentry where
  on       : Bool := false
  mode     : Nat := 0
  keyOffAt : Nat := 0
  next     : Nat := 0
  chs      : List SentryCh := []
  refAt    : Nat := 0
  moving   : Nat := 0
  bursts   : Nat := 0
  snaps    : Nat := 0
  units    : List SentryUnit := []
  wake     : Bool := false
  nav      : PosEst := default
deriving DecidableEq, Repr, Inhabited

/-- The position service. `lastSol` is the TB of the latest solution epoch, `drSince` the start of dead reckoning, `odoAt` the latest
valid odometry, `steer` the latest valid steering angle with the wheelbase; `rejects`, `rejSince` the continuous rejections of R310; `corrAt` the arrival of the latest corrections;
`src`, `canCtl`, `canId` the sources of R308; `streams` the unfinished RTCM bytes of each source (0 to 15 sessions, 16 CAN,
17 fleet); `step` a time step that waits for its epoch; `ppsSec` the latest whole second, `ppsAt` the rise of a running pulse. -/
structure Pos where
  est      : PosEst := default
  tbSol    : Nat := 0
  quality  : Nat := 0
  hq       : Nat := 0
  heading  : Bool := false
  sats     : Nat := 0
  lastSol  : Nat := 0
  drSince  : Nat := 0
  samples  : Nat := 0
  odo      : Option Int := none
  odoAt    : Nat := 0
  steer    : Option (Int × Nat) := none
  rejects  : Nat := 0
  rejSince : Nat := 0
  corrAt   : Option Nat := none
  corrUse  : Bool := false
  refId    : Option Nat := none
  refPos   : Option Nat := none
  ambNew   : Nat := 0
  src      : Nat := 0
  canCtl   : Nat := 0
  canId    : Nat := 0
  streams  : List (Nat × List Byte) := []
  drift    : Int := 0
  step     : Option Int := none
  discAt   : Nat := 0
  outAt    : Nat := 0
  ppsSec   : Nat := 0
  ppsAt    : Option Nat := none
  sentry   : Sentry := {}
deriving DecidableEq, Repr, Inhabited

end Sys2Proof.Machine
end

