-- ==== Sys2Proof/Machine/Parts/Power.lean ====
section
/-!
DEFINITION. The state of supplies, power states and start-up (chapter 04, R550, R558) beyond the registers.
-/
namespace Sys2Proof.Machine

/-- Where a key-off sequence stands (R111): none, before step 2, from step 2 on. -/
inductive KeyOff where
  | none | delay | shutdown
deriving DecidableEq, Repr, Inhabited

/-- Supplies, power state and start-up. Times are CLK_FAB periods (`Clk.now`), which run through every reset; names that end in Tb
are TB values. `dipSince` the dips in progress (R97); `shed`, `fellAt`, `roseAt`, `holdup` of R101 to R103, with `confAt` the start of
the 1 ms of R103 that runs, `overShed` and `groupOver` of R550; `resetDue`, `cycleDue` the ends of the 10 ms of R68; `releasedAt` the release of PWR_HOLD while `PWR_PC_OFF` runs, `wakePend` a
wake that waits for its end, `woken` that a wake asserted PWR_HOLD, `vbatBack` that VBAT returned meanwhile (R94, R109); `coreOn` and
`aonOn` the supplied domains, `vbatOk` VBAT above V_RST and `lowAt` its latest fall below it (R93); `keyOff`, `keyTb`, `step2At`, `step3Done`, `target` the sequence of R111, `keyOffAt`
the instant from which AON counts run, `offAt` the entry into STANDBY, SENTRY or OFF and `offTb` its TB, `appSusp` the application cluster suspended;
`held` the state DEGRADED holds (R114); `wdogTimes` the watchdog resets of the last 600 s and `third` that the latest reset was the third of them; `porFirst` that INIT has not yet restored the
counters after a POR (R118); `borEvent`, `clockEvent` events due at READY (R103, R561); `fromSentry` a start after SENTRY (R325);
`xtalBad` the fallback of R107; the reactions of R558; the parts of a second and of a millijoule not yet counted. -/
structure Power where
  meas       : Measure := { mv := [24000, 24000, 24000, 24000, 24000, 24000, 24000, 24000, 24000, 24000], vbst := 0,
                            supMv := [0, 0, 0], diss := 0,
                            temps := [2500, 2500, 2500, 2500, 2500, 2500, 2500, 2500, 2500, 2500], supMa := [0, 0, 0], limit := 0,
                            pswMean := List.replicate 16 0, pswOn := List.replicate 16 0, pswCode := List.replicate 16 0,
                            pswTj := List.replicate 16 2500 }
  dipSince   : List (Option Nat) := List.replicate 10 .none
  shed       : Bool := false
  fellAt     : Option Nat := .none
  roseAt     : Option Nat := .none
  confAt     : Option Nat := .none
  holdup     : Bool := false
  overShed   : Bool := false
  groupOver  : List Bool := [false, false, false, false]
  resetDue   : Option Nat := .none
  cycleDue   : Option Nat := .none
  releasedAt : Option Nat := .none
  wakePend   : Bool := false
  woken      : Bool := false
  vbatBack   : Bool := false
  coreOn     : Bool := true
  aonOn      : Bool := true
  vbatOk     : Bool := true
  lowAt      : Nat := 0
  keyOff     : KeyOff := .none
  keyTb      : Nat := 0
  keyOffAt   : Nat := 0
  offAt      : Nat := 0
  offTb      : Nat := 0
  step2At    : Nat := 0
  step3Done  : Bool := false
  target     : Nat := 0
  appSusp    : Bool := false
  held       : Nat := 2
  wdogTimes  : List Nat := []
  third      : Bool := false
  porFirst   : Bool := true
  borEvent   : Bool := false
  clockEvent : Bool := false
  fromSentry : Bool := false
  xtalBad    : Bool := false
  tempWarn   : Bool := false
  vxaHalf    : Bool := false
  vxaHot     : Bool := false
  appLimit   : Bool := false
  boostHot   : Bool := false
  dramHot    : Bool := false
  opAccTb    : Nat := 0
  energyUj   : Nat := 0
  mirrorTb   : Nat := 0
deriving DecidableEq, Repr, Inhabited

end Sys2Proof.Machine
end

