-- ==== Sys2Proof/Machine/Parts/Prm.lean ====
section
/-!
DEFINITION. The parameter store (chapter 25) beyond its registers.
-/
namespace Sys2Proof.Machine

/-- The keys of a new unit: 0 VENDOR, 1 OEM, the others empty; a key with its highest role (R58). -/
def prmKeys : List (Option (Nat × BitVec 256)) :=
  some (3, Config.vendorKey) :: some (2, Config.oemKey) :: List.replicate 30 none

/-- What transactions change (R517): keys, profile (0 HARVEST, 1 PLANT), autostart mask, RWL register values, behaviour level,
SVN_MIN, the applied configuration of each function, the items stored outside CONFIGURE (keyed 256 × function + item), and the
counter mirror (operating seconds, power cycles, energy). -/
structure PrmStore where
  keys      : List (Option (Nat × BitVec 256)) := prmKeys
  profile   : Nat := 0
  autostart : Nat := 0
  rwl       : List (Nat × Word) := []
  level     : Nat := Config.fffLevel
  svn       : Nat := Config.svnMin
  configs   : List (Nat × List Byte) := []
  items     : List (Nat × List Byte) := []
  opSec     : Nat := 0
  cycles    : Nat := 0
  energy    : Nat := 0
deriving DecidableEq, Repr, Inhabited

/-- A calibration set as exported (R520, R526): the set, its serial number, its signature. -/
def calFile (set sign : List Byte) : List Byte :=
  padTo 12288 (set.take 12288) ++ leBytes 8 Config.serial.toNat ++ padTo 64 (sign.take 64)

/-- The store. `before` is its content before the latest transaction, which began at `txnAt` (CLK_FAB periods); `txns` counts transactions; `compactAt` the start
of a compaction; `cal` the region of the calibration set, `calUser` and `calBad` its state;
`bank`, `gen`, `free` (KiB); `importing` an import that runs; `pend` an imported file that waits for the next reset; `replayed` that
the latest transaction was discarded (R518). -/
structure Prm where
  store     : PrmStore := {}
  before    : Option PrmStore := none
  txns      : Nat := 0
  txnAt     : Nat := 0
  compactAt : Option Nat := none
  cal       : List Byte := calFile Config.calSet Config.calSign
  calUser   : Bool := false
  calBad    : Bool := false
  bank      : Bool := false
  gen       : Nat := 0
  free      : Nat := Config.prmFree 0 % 513
  importing : Bool := false
  pend      : Bool := false
  replayed  : Bool := false
deriving DecidableEq, Repr, Inhabited

end Sys2Proof.Machine
end

