-- ==== Sys2Proof/Machine/Parts/Psw.lean ====
section
/-!
DEFINITION. The state of the load switches (chapter 11) beyond their registers. Times are TB values.
-/
namespace Sys2Proof.Machine

/-- A load switch. `on` with `inr` while its inrush window lasts; `due` the end of a back-off, `pend` an attempt that is
blocked; `hold` a turn-on that waits for the 1 s hold-off, with whether it counts as a retry; `want` a turn-on due at
the next tick boundary; `olLow`, `olT`, `olAt` the side of OL_TH the last on-state samples lie on, for how long, and when the latest was
taken (R276); `gone` tripped or turned off in this millisecond; `perAt`, `per` the PWM period in progress,
`onTime` its on-time; `trips` the trips since START. -/
structure PswCh where
  cfg     : Word := 0x00A3FA00#32
  on      : Bool := false
  inr     : Bool := false
  inrAt   : Nat := 0
  onSince : Nat := 0
  onAt    : Nat := 0
  lastOff : Option Nat := none
  due     : Option Nat := none
  pend    : Bool := false
  rcnt    : Nat := 0
  ocl     : Bool := false
  th      : Bool := false
  shed    : Bool := false
  hold    : Option Bool := none
  want    : Bool := false
  gone    : Bool := false
  nofwd   : Bool := false
  isOpen  : Bool := false
  olLow   : Bool := false
  olT     : Nat := 0
  olAt    : Option Nat := none
  perAt   : Option Nat := none
  per     : Nat := 0
  onTime  : Nat := 0
  minOn   : Bool := false
  clip    : Bool := false
  tj      : Int := 2500
deriving DecidableEq, Repr, Inhabited

/-- A group: effective enable in force, a return due at the next tick boundary, under-voltage, the budget count, and the
channels that wait for their turn of a restart. -/
structure PswGrp where
  on     : Bool := false
  back   : Bool := false
  uv     : Bool := false
  excess : Nat := 0
  queue  : List Nat := []
  nextAt : Nat := 0
deriving DecidableEq, Repr, Inhabited

/-- The load switches. `live` says that the function runs and field outputs operate. -/
structure Psw where
  live : Bool := false
  chs  : List PswCh := List.replicate 16 {}
  grps : List PswGrp := List.replicate 4 {}
deriving DecidableEq, Repr, Inhabited

end Sys2Proof.Machine
end

