-- ==== Sys2Proof/Machine/Parts/Rec.lean ====
section
/-!
DEFINITION. The state of the event recorder (chapter 22) beyond its registers.
-/
namespace Sys2Proof.Machine

/-- An event in the 64-entry input FIFO (R482): code, source function ID (0x80 + session for REC_POST), severity, the
words REC_POST stores as snapshots, its TB (or AON count), operating seconds and power cycles, whether it came in SENTRY or OFF, and
the command that waits for its record. -/
structure Posted where
  code  : Nat
  src   : Nat
  sev   : Nat
  words : List Word := []
  tb    : Nat
  op    : Nat := 0
  cyc   : Nat := 0
  aon   : Bool := false
  reply : Option (Nat × Cmd) := none
deriving DecidableEq, Repr, Inhabited

/-- The 64-byte record of R481; `snapTodo` marks snapshot words not yet read (R483). -/
structure Record where
  code     : Nat
  src      : Nat
  sev      : Nat
  flags    : Nat
  opFirst  : Nat
  opLast   : Nat
  cycles   : Nat
  repeats  : Nat
  words    : List Word
  nwords   : Nat
  tb       : Nat
  seq      : Nat
  snapTodo : Bool
deriving DecidableEq, Repr, Inhabited

/-- A read in progress (R491): its ring, the next sequence, the newest at acceptance, records still wanted, whether staging follows, whether its last record
has been found. -/
structure RecRead where
  ring   : Nat
  next   : Nat
  last   : Nat
  left   : Option Nat
  staged : Bool
  ended  : Bool := false
deriving DecidableEq, Repr, Inhabited

/-- The recorder. `staging` is in ascending sequence; its last record is open while `isOpen`. `flash` holds the ring's records by
position, oldest first; `wpos` is the next position, `erasing` the sector being erased, `programming` that the first staged record is
being programmed. `flush` holds the sequences that a REC_FLUSH still commits with the count of those committed. `classes` are the
entries REC_CLASS_SET changed. `tokens`, `alarms` (severity, sequence, record) and the rest serve R490. -/
structure Recorder where
  fifo        : List Posted := []
  staging     : List Record := []
  isOpen      : Bool := false
  openSince   : Nat := 0
  cap         : Nat := 2048
  lossFlag    : Bool := false
  flash       : List (Nat × Record) := []
  wpos        : Nat := 0
  erasing     : Option Nat := none
  programming : Bool := false
  flush       : Option (List Nat × Nat) := none
  classes     : List (Nat × List Word) := []
  reads       : List RecRead := []
  tokens      : Nat := 10
  tokenAt     : Nat := 0
  alarms      : List (Nat × Nat × List Byte) := []
  sumAt       : Nat := 0
  offered     : Bool := false
  sentSev     : List Nat := [0, 0, 0, 0]
  suppSev     : List Nat := [0, 0, 0, 0]
  firstSeq    : Nat := 0
  lastSeq     : Nat := 0
deriving DecidableEq, Repr, Inhabited

end Sys2Proof.Machine
end

