-- ==== Sys2Proof/Machine/Parts/Saf.lean ====
section
/-!
DEFINITION. The state of the safety island (chapters 16, 17) beyond its mirror. `ms` counts island cycles, one millisecond each.
-/
namespace Sys2Proof.Machine

/-- A safe input (R378): its filtered level (closed), the cycles it has differed, and the start of a press. -/
structure SafSi where
  level : Bool := false
  diff  : Nat := 0
  press : Option Nat := none
deriving DecidableEq, Repr, Inhabited

/-- A pair of inputs (R378): since when its channels disagree, and whether it stays active until a reset. -/
structure SafPair where
  since : Option Nat := none
  hold  : Bool := false
deriving DecidableEq, Repr, Inhabited

/-- A speed monitor (R380, R384): disagreement and low speed since, standstill, and its speed at the trigger. -/
structure SafMon where
  bad : Option Nat := none
  low : Option Nat := none
  v0  : Nat := 0
  lim : Nat := 0
deriving DecidableEq, Repr, Inhabited

/-- A safe output (R386, R388): on, since when on or off for its EDM, and whether its last test failed. -/
structure SafSo where
  on    : Bool := false
  since : Option Nat := none
  bad   : Bool := false
deriving DecidableEq, Repr, Inhabited

/-- A Jasper connection (R400 to R403): STATE, KIND, last sequence, the CLK_FAB time of the last accepted frame and of corrupt
frames, the last control byte, frames in sequence since FAILED, repeats (of a produced one the sequence of its next frame), and
the next production in island time. -/
structure SafConn where
  st     : Nat := 0
  kind   : Nat := 0
  seq    : Nat := 0
  at_    : Nat := 0
  bad    : List Nat := []
  run    : Bool := true
  rst    : Option Bool := none
  good   : Bool := false
  rep    : Nat := 0
  next   : Nat := 0
deriving DecidableEq, Repr, Inhabited

/-- The safety island. `lines` holds the override lines that are present (R31): bits 0 to 11 the banks, 12 to 15 the
load-switch groups, 16 the boost supply. `ramp` is the ramp demand (R383). `st` is the island state (R376), `stop` the stop request (R383, R424), `faults` the latched
faults as (cause, object), `seen` the causes of the last cycle, `press` the inputs whose press ended with its length. `sealDiff` counts for each DIP
position, ADDR_H and ADDR_L the cycles in a row in which it differs (R409). `setA` and
`setB` are the sets in NOR, `writing` the one that is being written (R411; true for B), `par` the active one. `txq` holds frames queued for CAN: controller, identifier with format bit 31,
bytes, and since when. -/
structure Saf where
  lines    : Nat := 0
  ramp     : Bool := false
  st       : Nat := 0
  stop     : Bool := false
  cause    : Nat := 0
  fault    : Nat := 0
  resetReq : Bool := false
  ms       : Nat := 0
  cycleAt  : Nat := 0
  tested   : Bool := false
  checked  : Bool := false
  powered  : Bool := true
  setA     : List Byte := []
  setB     : List Byte := []
  par      : List Byte := []
  parOk    : Bool := false
  parB     : Bool := false
  param    : Bool := false
  sealed   : Bool := false
  addr     : Nat := 0
  dip      : Nat := 0
  sealDiff : List Nat := List.replicate 10 0
  writing  : Option Bool := none
  staged   : Option (List Byte) := none
  image    : List Byte := Config.islandSha
  updated  : Bool := false
  si       : List SafSi := List.replicate 16 {}
  pairs    : List SafPair := List.replicate 8 {}
  counts   : List (List Nat) := List.replicate 8 []
  mons     : List SafMon := List.replicate 4 {}
  sos      : List SafSo := List.replicate 4 {}
  tpBad    : Nat := 0
  tpWait   : Nat := 0
  ss1At    : Nat := 0
  faults   : List (Nat × Nat) := []
  seen     : List Nat := []
  press    : List (Nat × Nat) := []
  host     : Bool := false
  demand   : List Nat := []
  jreset   : Bool := false
  line     : Bool := false
  clock    : Bool := false
  safrst   : Option Nat := none
  conns    : List SafConn := List.replicate 32 {}
  txq      : List (Nat × Nat × List Byte × Nat) := []
  log      : List (Nat × Nat × Nat) := []
  stops    : Nat := 0
  stos     : Nat := 0
  viol     : Nat := 0
  nfault   : Nat := 0
  react    : Nat := 0
  reactMax : Nat := 0
deriving DecidableEq, Repr, Inhabited

end Sys2Proof.Machine
end

