-- ==== Sys2Proof/Machine/Parts/Trn.lean ====
section
/-!
DEFINITION. The state of Transit (chapter 12) beyond its registers. Times are TB values.
-/
namespace Sys2Proof.Machine

/-- States of R288. -/
inductive TrnSt where
  | idle | handover | pullin | track | lost
deriving DecidableEq, Repr, Inhabited

/-- A channel. `cfg`, `loop`, `space`, `lock` and `ho` are the configuration words it acts on, taken at a millisecond boundary (R285);
`dop` its Doppler in 2^-8 mHz; `pullMs` the wait of the pull-in;
`pll` the PLL closed; `lowAt` the time since which C/N0 is below CN0_LOST; `hist`, `ms`, `neg` the bit
synchroniser of R289, where `ms` numbers the dumps since the start and `bound` is a dump, modulo 100, with which a bit or a secondary
code began; `adj` a half cycle that the next
record adds and `halves` those added (R297); `hoAt`, `passes` the search of R295 with `hoDop` the prediction. -/
structure TrnCh where
  cfg     : Word := 0#32
  loop    : Word := 0#32
  space   : Word := 0#32
  lock    : Word := 0#32
  ho      : Word := 0#32
  st      : TrnSt := .idle
  since   : Nat := 0
  pullMs  : Nat := 100
  pll     : Bool := false
  dop     : Int := 0
  cp      : Nat := 0
  cn0     : Nat := 0
  code    : Bool := false
  carr    : Bool := false
  bitSync : Bool := false
  secSync : Bool := false
  halfAmb : Bool := false
  tow     : Bool := false
  lowAt   : Option Nat := none
  lockt   : Nat := 0
  slips   : Nat := 0
  slip    : Bool := false
  adj     : Bool := false
  halves  : Nat := 0
  hist    : List Nat := List.replicate 20 0
  ms      : Nat := 0
  bound   : Nat := 0
  neg     : Bool := false
  hoAt    : Option Nat := none
  passAt  : Nat := 0
  passes  : Nat := 0
  hoDop   : Int := 0
deriving DecidableEq, Repr, Inhabited

/-- An acquisition request (R292). -/
structure TrnReq where
  sig    : Nat
  ant    : Nat
  sv     : Nat
  nc     : Nat
  verify : Nat
  auto   : Option Nat
  centre : Int
  span   : Nat
  th     : Nat
  host   : Bool
deriving DecidableEq, Repr, Inhabited

/-- An entry of a result FIFO (R293). -/
structure TrnRes where
  req   : TrnReq
  pos   : Nat
  dop   : Int
  ratio : Nat
  found : Bool
  skip  : Bool
  tbRef : Nat
deriving DecidableEq, Repr, Inhabited

/-- An engine: its queue, the running sweep's start, its results, and an overflow. -/
structure TrnEng where
  queue   : List TrnReq := []
  startAt : Nat := 0
  results : List TrnRes := []
  ovf     : Bool := false
deriving DecidableEq, Repr, Inhabited

/-- An antenna feed (R282). -/
structure TrnAnt where
  open_   : Bool := false
  short   : Bool := false
  retryAt : Nat := 0
deriving DecidableEq, Repr, Inhabited

/-- Transit. `auto` lists the channels an AUTO start waits for, with engine; `rxt` the receiver time in force, `rxtNew` a write that waits for an epoch. -/
structure Trn where
  run       : Bool := false
  lastMs    : Nat := 0
  chs       : List TrnCh := List.replicate 128 {}
  engs      : List TrnEng := List.replicate 2 {}
  ants      : List TrnAnt := List.replicate 2 {}
  auto      : List (Nat × TrnRes) := []
  lastEpoch : Nat := 0
  rxt       : Nat := 0
  rxtSet    : Bool := false
  rxtNew    : Option Nat := none
deriving DecidableEq, Repr, Inhabited

end Sys2Proof.Machine
end

