-- ==== Sys2Proof/Machine/Parts/Upd.lean ====
section
/-!
DEFINITION. The state of the firmware update (chapter 24).
-/
namespace Sys2Proof.Machine

/-- A container with the key index and the signature it came with (R503). -/
structure UpdImage where
  data : List Byte
  key  : Nat
  sig  : List Byte
deriving DecidableEq, Repr, Inhabited

/-- The update (R502 to R515). `phase` is 0 IDLE, 1 RECEIVING, 2 VERIFIED, 3 FAILED; `owner` the owning session; `next` the expected
offset; `begun` that a block of this transfer has been accepted; `marker` the update marker; `stored` the container in NOR flash and
`run` the one that runs, none standing for the container as delivered; `prev` the Dome state before UPD_BEGIN; `lastCmd` the TB of the
latest UPD command, `keyGo` that a key-off waits no longer (R510). -/
structure Upd where
  phase   : Nat := 0
  owner   : Option Nat := none
  next    : Nat := 0
  size    : Nat := 0
  version : Nat := 0
  key     : Nat := 0
  svn     : Nat := 0
  sig     : List Byte := []
  begun   : Bool := false
  marker  : Bool := false
  stored  : Option UpdImage := none
  run     : Option UpdImage := none
  prev    : Nat := 2
  lastCmd : Nat := 0
  keyGo   : Bool := false
deriving DecidableEq, Repr, Inhabited

end Sys2Proof.Machine
end

