-- ==== Sys2Proof/Machine/Parts/Ypl.lean ====
section
/-!
DEFINITION. The state of Yield Plate (chapter 07) beyond its registers: readings, footprints, cells, tiles, fields,
calibration and export.
-/
namespace Sys2Proof.Machine

/-- A 50 ms reading (R166, R169, R170): whether usable, position and heading, header state, sections. -/
structure YplPose where
  usable : Bool := false
  lat    : Int := 0
  lon    : Int := 0
  hdg    : Int := 0
  work   : Bool := false
  mask   : Nat := 0
deriving DecidableEq, Repr, Inhabited

/-- A cell (R183): its index, dry mass in g, area in cm², moisture-weighted mass, pass ID, pass count, flags. -/
structure YplCell where
  i     : Int
  j     : Int
  mass  : Int := 0
  area  : Nat := 0
  moist : Int := 0
  pass  : Nat := 0
  count : Nat := 0
  flags : Nat := 0
deriving DecidableEq, Repr, Inhabited

/-- A cell of a footprint: its weight and the grams allocated to it so far (R182). -/
structure YplShare where
  i     : Int
  j     : Int
  w     : Nat
  area  : Nat
  dry   : Int := 0
  moist : Int := 0
deriving DecidableEq, Repr, Inhabited

/-- A footprint (R174, R182): its three totals in mg, its cells, its area in cm², whether it counts in the open field's
balance, the tiles it waits for, the flags it sets in its cells, the cells that carry OVL and its pass ID. -/
structure YplFp where
  wet     : Int := 0
  dry     : Int := 0
  moist   : Int := 0
  cells   : List YplShare := []
  area    : Nat := 0
  inField : Bool := false
  waits   : List (Int × Int) := []
  flags   : Nat := 0
  ovl     : List (Int × Int) := []
  pass    : Nat := 0
deriving DecidableEq, Repr, Inhabited

/-- A field (R178, R183 to R190): the grid in force, the cells of its tiles, the resident tiles with the most recently
written first, the spilled and the dirty ones, the balance in mg, the area in cm², and with a checkpoint the
provisional footprints, newest first, and its time in CLK_FAB periods. -/
structure YplField where
  id       : Nat
  lat      : Int
  lon      : Int
  crop     : Nat
  grid     : Word
  cells    : List YplCell := []
  resident : List (Int × Int) := []
  spilled  : List (Int × Int) := []
  dirty    : List (Int × Int) := []
  pass     : Nat := 0
  sensor   : Int := 0
  unattr   : Int := 0
  area     : Nat := 0
  fps      : List YplFp := []
  at_      : Nat := 0
deriving DecidableEq, Repr, Inhabited

/-- An opening that waits for the next sample boundary (R189): a new field, or the resume of a stored one. -/
inductive YplOpen where
  | fresh (id : Nat) (lat lon : Int) (crop : Nat)
  | resume (id : Nat)
deriving DecidableEq, Repr, Inhabited

/-- A collected calibration event (R176): whether a flush, its plateau, its 768 samples of flow. -/
structure YplWindow where
  flush : Bool
  p     : Int
  y     : List Int
deriving DecidableEq, Repr, Inhabited

/-- The shipped kernel: a pure delay of 12 s (R172). -/
def yplShipped : List Int := (List.range 256).map (fun n => if n = 120 then 65536 else 0)

/-- Yield Plate. `cfg` holds the input words in force, `doneCfg` those of the sample just ended; `flowSum`, `flowCnt` the readings of the running sample, `doneSum`,
`doneCnt` of the sample just ended; `fps` the last footprints, newest first; `inv` the inverse in use, `invNext` one
that waits for a boundary, `invSince` the time since which one is being computed. `stored` (fields), `cfgKernel` (the
applied kernel and λ) and `files` (the export area) are eMMC content, `ckpts` counts its checkpoints. `changed` lists the cells changed since the
pair last took them; `hist` the header state and the flow of the last samples, newest first, `calCnt` the samples since
the calibration began; `fleet` the cells covered through the fleet, by field ID. -/
structure Ypl where
  cfg       : List (Nat × Word) := []
  doneCfg   : List (Nat × Word) := []
  flowSum   : Int := 0
  flowCnt   : Nat := 0
  doneSum   : Int := 0
  doneCnt   : Nat := 0
  poses     : List YplPose := []
  moistR    : List (Int × Bool) := []
  hdr       : Bool := false
  hdrBad    : Nat := 0
  lastFlow  : Int := 0
  flowBad   : Nat := 0
  lastMoist : Int := 0
  moistBad  : Nat := 0
  worked    : Bool := false
  lastTick  : Option Nat := none
  fps       : List YplFp := []
  kernel    : List Int := yplShipped
  lambda    : Nat := 655
  inv       : List Int := yplShipped
  invNext   : Option (List Int) := none
  invSince  : Option Nat := none
  field     : Option YplField := none
  openReq   : Option YplOpen := none
  closeCnt  : Nat := 0
  ckptAt    : Nat := 0
  ckpts     : Nat := 0
  alarm     : Bool := false
  calWant   : Nat := 0
  calAt     : Nat := 0
  calCnt    : Nat := 0
  hist      : List (Bool × Int) := []
  windows   : List YplWindow := []
  weigh     : Option Int := none
  fleet     : List (Nat × Int × Int) := []
  changed   : List (Int × Int) := []
  stored    : List YplField := []
  cfgKernel : Option (List Int × Nat) := none
  files     : List (List Byte) := []
deriving DecidableEq, Repr, Inhabited

end Sys2Proof.Machine
end

