-- ==== Sys2Proof/Machine/RegNames.lean ====
section
/-!
DEFINITION. The addresses of the registers, by the names of the spec's register maps. An index is the index of the
spec's register array; for CAN the first argument is the controller, and import and export entries are indexed
within their controller (i = 4n + j, e = 4n + j).
-/
namespace Sys2Proof.Machine.R

def TB_ID : Nat := 0xE0030000
def TB_NOW_LO : Nat := 0xE0030004
def TB_NOW_HI : Nat := 0xE0030008
def TB_TICK_COUNT_LO : Nat := 0xE003000C
def TB_TICK_COUNT_HI : Nat := 0xE0030010
def TB_TICK_STAMP_LO : Nat := 0xE0030014
def TB_TICK_STAMP_HI : Nat := 0xE0030018
def TB_TICK_PHASE : Nat := 0xE003001C
def MBX_ID : Nat := 0xE0020000
def MBX_DOME_STATE : Nat := 0xE0020004
def MBX_CLAIM : Nat := 0xE0020008
def MBX_SESSIONS : Nat := 0xE002000C
def MBX_OWNER : Nat := 0xE0020010
def MBX_IRQ_HOLDOFF : Nat := 0xE0020014
def MBX_WIN_BASE : Nat := 0xE0020018
def MBX_CRC_ERR : Nat := 0xE002001C
def MBX_REPEAT : Nat := 0xE0020020
def MBX_OWN_ERR : Nat := 0xE0020024
def MBX_NOTIF_LOST : Nat := 0xE0020028
def MBX_AUTH_FAIL : Nat := 0xE002002C
def MBX_IDX_ERR : Nat := 0xE0020030
def MBX_CRC_ERR_S : Nat := 0xE0020034
def MBX_REPEAT_S : Nat := 0xE0020038
def MBX_OWN_ERR_S : Nat := 0xE002003C
def MBX_NOTIF_LOST_S : Nat := 0xE0020040
def MBX_AUTH_FAIL_S : Nat := 0xE0020044
def MBX_IDX_ERR_S : Nat := 0xE0020048
def MBX_IRQ_PEND (i : Nat) : Nat := 0xE0020100 + 0x4 * i
def MBX_IRQ_EN (i : Nat) : Nat := 0xE0020110 + 0x4 * i
def MBX_Q_BASE (i : Nat) : Nat := 0xE0021000 + 0x10 * i
def MBX_Q_CFG (i : Nat) : Nat := 0xE0021004 + 0x10 * i
def MBX_Q_PROD (i : Nat) : Nat := 0xE0021008 + 0x10 * i
def MBX_Q_CONS (i : Nat) : Nat := 0xE002100C + 0x10 * i
def SYS_BOOTLOCK : Nat := 0xE0000040
def FAB_ID : Nat := 0xE0010000
def FAB_UPD_STROBE : Nat := 0xE0010004
def FAB_UG_PEND : Nat := 0xE0010008
def FAB_SNAP : Nat := 0xE001000C
def FAB_SNAP_SEQ : Nat := 0xE0010010
def FAB_SNAP_TB_LO : Nat := 0xE0010014
def FAB_SNAP_TB_HI : Nat := 0xE0010018
def FAB_SIG_HOST_AGE : Nat := 0xE001001C
def FAB_GUARD_ERR : Nat := 0xE0010020
def FAB_LOCK_ERR : Nat := 0xE0010024
def FAB_STALL_ERR : Nat := 0xE0010028
def FAB_DECODE_ERR : Nat := 0xE001002C
def FAB_SIG_WR_ERR : Nat := 0xE0010030
def FAB_UG_LATE : Nat := 0xE0010034
def FAB_STALL_LAST : Nat := 0xE0010038
def FAB_GUARD_LAST : Nat := 0xE001003C
def FAB_GUARD_ERR_S : Nat := 0xE0010040
def FAB_LOCK_ERR_S : Nat := 0xE0010044
def FAB_STALL_ERR_S : Nat := 0xE0010048
def FAB_DECODE_ERR_S : Nat := 0xE001004C
def FAB_SIG_WR_ERR_S : Nat := 0xE0010050
def FAB_UG_LATE_S : Nat := 0xE0010054
def FAB_DOMAIN : Nat := 0xE0010058
def FAB_UG_CFG (i : Nat) : Nat := 0xE0010100 + 0x10 * i
def FAB_UG_CMP_LO (i : Nat) : Nat := 0xE0010104 + 0x10 * i
def FAB_UG_CMP_HI (i : Nat) : Nat := 0xE0010108 + 0x10 * i
def FAB_UG_PER (i : Nat) : Nat := 0xE001010C + 0x10 * i
def FAB_SIG (i : Nat) : Nat := 0xE0011000 + 0x4 * i
def FAB_SIG_VALID (i : Nat) : Nat := 0xE0011800 + 0x4 * i
def FAB_SIG_LAT (i : Nat) : Nat := 0xE0012000 + 0x4 * i
def SYS_ID : Nat := 0xE0000000
def SYS_FFF_LEVEL : Nat := 0xE0000004
def SYS_PROFILE : Nat := 0xE0000008
def SYS_RESET_CAUSE : Nat := 0xE000000C
def SYS_OP_SECONDS : Nat := 0xE0000010
def SYS_PWR_CYCLES : Nat := 0xE0000014
def SYS_CLK_CFG : Nat := 0xE0000018
def SYS_CLK_STATUS : Nat := 0xE000001C
def SYS_WDOG_CFG : Nat := 0xE0000020
def SYS_PLL_UNLOCKS : Nat := 0xE0000024
def SYS_WDOG_RESETS : Nat := 0xE0000028
def SYS_SAF_RESETS : Nat := 0xE000002C
def SYS_DEGRADED : Nat := 0xE0000030
def SYS_PLL_UNLOCKS_S : Nat := 0xE0000034
def SYS_WDOG_RESETS_S : Nat := 0xE0000038
def SYS_SAF_RESETS_S : Nat := 0xE000003C
def PWR_ID : Nat := 0xE00E0000
def PWR_STATE : Nat := 0xE00E0004
def PWR_KEYOFF_CFG : Nat := 0xE00E0008
def PWR_WAKE_EN : Nat := 0xE00E000C
def PWR_WAKE_CAUSE : Nat := 0xE00E0010
def PWR_TIMER : Nat := 0xE00E0014
def PWR_VWARN : Nat := 0xE00E0018
def PWR_SUP_STATUS : Nat := 0xE00E001C
def PWR_ENERGY_LO : Nat := 0xE00E0020
def PWR_ENERGY_HI : Nat := 0xE00E0024
def PWR_PC_OFF : Nat := 0xE00E0028
def PWR_HOLDUP_LAST : Nat := 0xE00E002C
def PWR_DIP_CNT (i : Nat) : Nat := 0xE00E0100 + 0x10 * i
def PWR_DIP_LAST (i : Nat) : Nat := 0xE00E0104 + 0x10 * i
def PWR_DIP_MAX (i : Nat) : Nat := 0xE00E0108 + 0x10 * i
def PWR_DIP_CNT_S (i : Nat) : Nat := 0xE00E010C + 0x10 * i
def DIN_ID : Nat := 0xE00B0000
def DIN_STATE0 : Nat := 0xE00B0004
def DIN_STATE1 : Nat := 0xE00B0008
def DIN_BREAK0 : Nat := 0xE00B000C
def DIN_BREAK1 : Nat := 0xE00B0010
def DIN_GRP_STATUS : Nat := 0xE00B0014
def DIN_WAKE_SEL0 : Nat := 0xE00B0018
def DIN_WAKE_SEL1 : Nat := 0xE00B001C
def DIN_EDGE_CNT : Nat := 0xE00B0020
def DIN_EDGE_LOST : Nat := 0xE00B0024
def DIN_BREAK_CNT : Nat := 0xE00B0028
def DIN_EDGE_CNT_S : Nat := 0xE00B002C
def DIN_EDGE_LOST_S : Nat := 0xE00B0030
def DIN_BREAK_CNT_S : Nat := 0xE00B0034
def DIN_FIFO_LEVEL : Nat := 0xE00B0038
def DIN_FIFO_LO : Nat := 0xE00B003C
def DIN_FIFO_HI : Nat := 0xE00B0040
def DIN_CFG (i : Nat) : Nat := 0xE00B0100 + 0x4 * i
def AIN_ID : Nat := 0xE00C0000
def AIN_SUP_CTRL : Nat := 0xE00C0004
def AIN_SUP_STATUS : Nat := 0xE00C0008
def AIN_SUP_RESTART : Nat := 0xE00C000C
def AIN_FRAME : Nat := 0xE00C0010
def AIN_4MA_TRIPS : Nat := 0xE00C0014
def AIN_RANGE_ERR : Nat := 0xE00C0018
def AIN_SPD_QERR : Nat := 0xE00C001C
def AIN_SUP_TRIPS : Nat := 0xE00C0020
def AIN_4MA_TRIPS_S : Nat := 0xE00C0024
def AIN_RANGE_ERR_S : Nat := 0xE00C0028
def AIN_SPD_QERR_S : Nat := 0xE00C002C
def AIN_SUP_TRIPS_S : Nat := 0xE00C0030
def AIN_CFG (i : Nat) : Nat := 0xE00C0100 + 0x4 * i
def AIN_GAIN (i : Nat) : Nat := 0xE00C0200 + 0x4 * i
def AIN_OFS (i : Nat) : Nat := 0xE00C0300 + 0x4 * i
def AIN_LIM (i : Nat) : Nat := 0xE00C0400 + 0x4 * i
def AIN_RAW (i : Nat) : Nat := 0xE00C0500 + 0x4 * i
def AIN_BRG_CFG (i : Nat) : Nat := 0xE00C0600 + 0x10 * i
def AIN_BRG_TARE (i : Nat) : Nat := 0xE00C0604 + 0x10 * i
def AIN_BRG_GAIN (i : Nat) : Nat := 0xE00C0608 + 0x10 * i
def AIN_BRG_RAW (i : Nat) : Nat := 0xE00C060C + 0x10 * i
def AIN_SPD_CFG (i : Nat) : Nat := 0xE00C0700 + 0x10 * i
def AIN_SPD_GAIN (i : Nat) : Nat := 0xE00C0704 + 0x10 * i
def AIN_SPD_FREQ (i : Nat) : Nat := 0xE00C0708 + 0x10 * i
def AIN_SPD_POS (i : Nat) : Nat := 0xE00C070C + 0x10 * i
def ACU_CFG (i : Nat) : Nat := 0xE00C0800 + 0x10 * i
def ACU_THR (i : Nat) : Nat := 0xE00C0804 + 0x10 * i
def ACU_FLOOR (i : Nat) : Nat := 0xE00C0808 + 0x10 * i
def ACU_TOTAL (i : Nat) : Nat := 0xE00C080C + 0x10 * i
def ACU_TOTAL_S (i : Nat) : Nat := 0xE00C0900 + 0x4 * i
def SNT_ID : Nat := 0xE00D0000
def SNT_CRC_ERR : Nat := 0xE00D0004
def SNT_FMT_ERR : Nat := 0xE00D0008
def SNT_TIMEOUTS : Nat := 0xE00D000C
def SNT_SLOW_CRC_ERR : Nat := 0xE00D0010
def SNT_CRC_ERR_S : Nat := 0xE00D0014
def SNT_FMT_ERR_S : Nat := 0xE00D0018
def SNT_TIMEOUTS_S : Nat := 0xE00D001C
def SNT_SLOW_CRC_ERR_S : Nat := 0xE00D0020
def SNT_CFG (i : Nat) : Nat := 0xE00D0100 + 0x10 * i
def SNT_FAST (i : Nat) : Nat := 0xE00D0104 + 0x10 * i
def SNT_STAT (i : Nat) : Nat := 0xE00D0108 + 0x10 * i
def SNT_FRAMES (i : Nat) : Nat := 0xE00D010C + 0x10 * i
def SNT_SLOW (i : Nat) : Nat := 0xE00D0200 + 0x8 * i
def SNT_SLOW_TB (i : Nat) : Nat := 0xE00D0204 + 0x8 * i
def CST_ID : Nat := 0xE0100000
def CST_CTRL : Nat := 0xE0100004
def CST_WIN : Nat := 0xE0100008
def CST_RMIN : Nat := 0xE010000C
def CST_STATUS : Nat := 0xE0100010
def CST_FRZ_CAUSE : Nat := 0xE0100014
def CST_BLOCKS : Nat := 0xE0100018
def CST_DISCARDED : Nat := 0xE010001C
def CST_STEPS : Nat := 0xE0100020
def CST_LOWCONF : Nat := 0xE0100024
def CST_SAT : Nat := 0xE0100028
def CST_J : Nat := 0xE010002C
def CST_LPT_CFG : Nat := 0xE0100030
def CST_LPT_MIN : Nat := 0xE0100034
def CST_FUEL_PER_T : Nat := 0xE0100038
def CST_VR_LO : Nat := 0xE010003C
def CST_VR_HI : Nat := 0xE0100040
def CST_OVR : Nat := 0xE0100044
def CST_DITHERED : Nat := 0xE0100048
def CST_BLOCKS_S : Nat := 0xE010004C
def CST_DISCARDED_S : Nat := 0xE0100050
def CST_STEPS_S : Nat := 0xE0100054
def CST_LOWCONF_S : Nat := 0xE0100058
def CST_SAT_S : Nat := 0xE010005C
def CST_TERM_CFG (i : Nat) : Nat := 0xE0100100 + 0x10 * i
def CST_TERM_W (i : Nat) : Nat := 0xE0100104 + 0x10 * i
def CST_TERM_REF (i : Nat) : Nat := 0xE0100108 + 0x10 * i
def CST_TERM_LAST (i : Nat) : Nat := 0xE010010C + 0x10 * i
def CST_FRZ_CFG (i : Nat) : Nat := 0xE0100200 + 0x8 * i
def CST_FRZ_THR (i : Nat) : Nat := 0xE0100204 + 0x8 * i
def CST_MF_PATH (i : Nat) : Nat := 0xE0100400 + 0x4 * i
def CST_MF_DLY (i : Nat) : Nat := 0xE0100480 + 0x4 * i
def CST_MF_LO (i : Nat) : Nat := 0xE0100500 + 0x4 * i
def CST_MF_HI (i : Nat) : Nat := 0xE0100580 + 0x4 * i
def CST_MF_STEP (i : Nat) : Nat := 0xE0100600 + 0x4 * i
def CST_MF_K (i : Nat) : Nat := 0xE0100680 + 0x4 * i
def CST_MF_INIT (i : Nat) : Nat := 0xE0100700 + 0x4 * i
def CST_MF_U (i : Nat) : Nat := 0xE0100780 + 0x4 * i
def CST_MF_G (i : Nat) : Nat := 0xE0100800 + 0x4 * i
def CST_MF_R (i : Nat) : Nat := 0xE0100880 + 0x4 * i
def CST_MF_DERR (i : Nat) : Nat := 0xE0100900 + 0x4 * i
def CST_MF_SUGG (i : Nat) : Nat := 0xE0100980 + 0x4 * i
def CST_MF_OVV (i : Nat) : Nat := 0xE0100A00 + 0x4 * i
def YPL_ID : Nat := 0xE0120000
def YPL_FIELD_CTRL : Nat := 0xE0120004
def YPL_STATUS : Nat := 0xE0120008
def YPL_FIELD_ID : Nat := 0xE012000C
def YPL_ORIGIN_LAT : Nat := 0xE0120010
def YPL_ORIGIN_LON : Nat := 0xE0120014
def YPL_CROP_SEL : Nat := 0xE0120018
def YPL_TILES : Nat := 0xE012001C
def YPL_FOOTPRINTS : Nat := 0xE0120020
def YPL_NOGROUND : Nat := 0xE0120024
def YPL_FLOW_GAPS : Nat := 0xE0120028
def YPL_POS_GAPS : Nat := 0xE012002C
def YPL_NORES : Nat := 0xE0120030
def YPL_MB_ALARMS : Nat := 0xE0120034
def YPL_FOOTPRINTS_S : Nat := 0xE0120038
def YPL_NOGROUND_S : Nat := 0xE012003C
def YPL_FLOW_GAPS_S : Nat := 0xE0120040
def YPL_POS_GAPS_S : Nat := 0xE0120044
def YPL_NORES_S : Nat := 0xE0120048
def YPL_MB_ALARMS_S : Nat := 0xE012004C
def YPL_FLOW_CFG : Nat := 0xE0120100
def YPL_FLOW_GAIN : Nat := 0xE0120104
def YPL_MOIST_CFG : Nat := 0xE0120108
def YPL_MOIST_DEF : Nat := 0xE012010C
def YPL_HDR_CFG : Nat := 0xE0120110
def YPL_HDR_THR : Nat := 0xE0120114
def YPL_SEC_CFG : Nat := 0xE0120118
def YPL_POS_SIG0 : Nat := 0xE012011C
def YPL_POS_SIG1 : Nat := 0xE0120120
def YPL_POS_QMIN : Nat := 0xE0120124
def YPL_OFFSET : Nat := 0xE0120128
def YPL_GRID : Nat := 0xE012012C
def YPL_LAMBDA : Nat := 0xE0120130
def YPL_MB_LIM : Nat := 0xE0120134
def YPL_MB_MIN : Nat := 0xE0120138
def YPL_CKPT : Nat := 0xE012013C
def YPL_SEC_W (i : Nat) : Nat := 0xE0120200 + 0x4 * i
def YPL_CROP (i : Nat) : Nat := 0xE0120240 + 0x4 * i
def YPL_KERNEL (i : Nat) : Nat := 0xE0120400 + 0x4 * i
def YPL_INV (i : Nat) : Nat := 0xE0120800 + 0x4 * i
def YPL_MB_SENSOR_LO : Nat := 0xE0120C00
def YPL_MB_SENSOR_HI : Nat := 0xE0120C04
def YPL_MB_TILES_LO : Nat := 0xE0120C08
def YPL_MB_TILES_HI : Nat := 0xE0120C0C
def YPL_MB_UNATTR_LO : Nat := 0xE0120C10
def YPL_MB_UNATTR_HI : Nat := 0xE0120C14
def YPL_MB_DIFF : Nat := 0xE0120C18
def YPL_MB_DIFF_FRAC : Nat := 0xE0120C1C
def YPL_MB_RESID : Nat := 0xE0120C20
def YPL_MB_RESID_FRAC : Nat := 0xE0120C24
def YPL_MB_ROUND : Nat := 0xE0120C28
def YPL_CAL_FIT : Nat := 0xE0120C2C
def YPL_CAL_TAIL : Nat := 0xE0120C30
def YPL_CAL_DELAY : Nat := 0xE0120C34
def YPL_INV_TRUNC : Nat := 0xE0120C38
def MER_ID : Nat := 0xE0040000
def MER_CTRL : Nat := 0xE0040004
def MER_STATUS : Nat := 0xE0040008
def MER_SAT0 : Nat := 0xE004000C
def MER_SAT1 : Nat := 0xE0040010
def MER_FBINV0 : Nat := 0xE0040014
def MER_FBINV1 : Nat := 0xE0040018
def MER_EVALS : Nat := 0xE004001C
def MER_SAT_CNT : Nat := 0xE0040020
def MER_INV_CNT : Nat := 0xE0040024
def MER_DEST_ERR : Nat := 0xE0040028
def MER_EVALS_S : Nat := 0xE004002C
def MER_SAT_CNT_S : Nat := 0xE0040030
def MER_INV_CNT_S : Nat := 0xE0040034
def MER_DEST_ERR_S : Nat := 0xE0040038
def MER_CFG (i : Nat) : Nat := 0xE0041000 + 0x40 * i
def MER_SIGSEL (i : Nat) : Nat := 0xE0041004 + 0x40 * i
def MER_DEST (i : Nat) : Nat := 0xE0041008 + 0x40 * i
def MER_SP (i : Nat) : Nat := 0xE004100C + 0x40 * i
def MER_KP (i : Nat) : Nat := 0xE0041010 + 0x40 * i
def MER_KI (i : Nat) : Nat := 0xE0041014 + 0x40 * i
def MER_KD (i : Nat) : Nat := 0xE0041018 + 0x40 * i
def MER_KFV (i : Nat) : Nat := 0xE004101C + 0x40 * i
def MER_KFA (i : Nat) : Nat := 0xE0041020 + 0x40 * i
def MER_SHIFT (i : Nat) : Nat := 0xE0041024 + 0x40 * i
def MER_IMAX (i : Nat) : Nat := 0xE0041028 + 0x40 * i
def MER_OMIN (i : Nat) : Nat := 0xE004102C + 0x40 * i
def MER_OMAX (i : Nat) : Nat := 0xE0041030 + 0x40 * i
def MER_RLIM (i : Nat) : Nat := 0xE0041034 + 0x40 * i
def MER_VNOM (i : Nat) : Nat := 0xE0041038 + 0x40 * i
def MER_IINIT (i : Nat) : Nat := 0xE004103C + 0x40 * i
def MER_ST_I (i : Nat) : Nat := 0xE0042000 + 0x20 * i
def MER_ST_IF (i : Nat) : Nat := 0xE0042004 + 0x20 * i
def MER_ST_U (i : Nat) : Nat := 0xE0042008 + 0x20 * i
def MER_ST_E (i : Nat) : Nat := 0xE004200C + 0x20 * i
def MER_ST_R (i : Nat) : Nat := 0xE0042010 + 0x20 * i
def MER_ST_V (i : Nat) : Nat := 0xE0042014 + 0x20 * i
def MER_ST_YP (i : Nat) : Nat := 0xE0042018 + 0x20 * i
def MER_ST_FLAGS (i : Nat) : Nat := 0xE004201C + 0x20 * i
def MER_SR_CFG (i : Nat) : Nat := 0xE0043000 + 0x8 * i
def MER_SR_TGT (i : Nat) : Nat := 0xE0043004 + 0x8 * i
def ADR_ID : Nat := 0xE0080000
def ADR_CTRL : Nat := 0xE0080004
def ADR_FAULT0 : Nat := 0xE0080008
def ADR_FAULT1 : Nat := 0xE008000C
def ADR_OPEN0 : Nat := 0xE0080010
def ADR_OPEN1 : Nat := 0xE0080014
def ADR_EVENTS : Nat := 0xE0080018
def ADR_EVT_DROPS : Nat := 0xE008001C
def ADR_OPEN_CNT : Nat := 0xE0080020
def ADR_SHORT_CNT : Nat := 0xE0080024
def ADR_BOOST_TMO : Nat := 0xE0080028
def ADR_RECOV_MJ : Nat := 0xE008002C
def ADR_EVENTS_S : Nat := 0xE0080030
def ADR_EVT_DROPS_S : Nat := 0xE0080034
def ADR_OPEN_CNT_S : Nat := 0xE0080038
def ADR_SHORT_CNT_S : Nat := 0xE008003C
def ADR_BOOST_TMO_S : Nat := 0xE0080040
def ADR_RECOV_MJ_S : Nat := 0xE0080044
def ADR_CH_CFG (i : Nat) : Nat := 0xE0081000 + 0x40 * i
def ADR_CH_CMD (i : Nat) : Nat := 0xE0081004 + 0x40 * i
def ADR_CH_TRIM (i : Nat) : Nat := 0xE0081008 + 0x40 * i
def ADR_CH_RCAL (i : Nat) : Nat := 0xE008100C + 0x40 * i
def ADR_CH_TSIG (i : Nat) : Nat := 0xE0081010 + 0x40 * i
def ADR_EVT_START_LO (i : Nat) : Nat := 0xE0081014 + 0x40 * i
def ADR_EVT_START_HI (i : Nat) : Nat := 0xE0081018 + 0x40 * i
def ADR_EVT_DUR (i : Nat) : Nat := 0xE008101C + 0x40 * i
def ADR_CH_STATUS (i : Nat) : Nat := 0xE0081020 + 0x40 * i
def ADR_CH_RMEAS (i : Nat) : Nat := 0xE0081024 + 0x40 * i
def ADR_EVT_LAST (i : Nat) : Nat := 0xE0081028 + 0x40 * i
def ADR_EVT_TB (i : Nat) : Nat := 0xE008102C + 0x40 * i
def ADR_EVT_EN (i : Nat) : Nat := 0xE0081030 + 0x40 * i
def ADR_CH_EVENTS (i : Nat) : Nat := 0xE0081034 + 0x40 * i
def ADR_MOT_CFG (i : Nat) : Nat := 0xE0081038 + 0x40 * i
def ADR_MOT_RES (i : Nat) : Nat := 0xE008103C + 0x40 * i
def ADR_PB_I (n p b : Nat) : Nat := 0xE0084000 + 0x100 * n + 0x40 * p + 0x10 * b
def ADR_PB_T (n p b : Nat) : Nat := 0xE0084004 + 0x100 * n + 0x40 * p + 0x10 * b
def ADR_PB_H (n p b : Nat) : Nat := 0xE0084008 + 0x100 * n + 0x40 * p + 0x10 * b
def ADR_PB_M (n p b : Nat) : Nat := 0xE008400C + 0x100 * n + 0x40 * p + 0x10 * b
def ADR_BST_TARGET : Nat := 0xE0090000
def ADR_BST_CFG : Nat := 0xE0090004
def ADR_BST_STATUS : Nat := 0xE0090008
def ADR_BST_E_OUT : Nat := 0xE009000C
def ADR_BST_LOWV : Nat := 0xE0090010
def ADR_BST_SPILL : Nat := 0xE0090014
def ADR_BST_E_OUT_S : Nat := 0xE0090018
def ADR_BST_LOWV_S : Nat := 0xE009001C
def ADR_BST_SPILL_S : Nat := 0xE0090020
def ADR_BANK_CFG (i : Nat) : Nat := 0xE0090100 + 0x10 * i
def ADR_BANK_EN (i : Nat) : Nat := 0xE0090104 + 0x10 * i
def ADR_BANK_COLLIDE (i : Nat) : Nat := 0xE0090108 + 0x10 * i
def ADR_BANK_DEFER (i : Nat) : Nat := 0xE009010C + 0x10 * i
def ADR_BANK_ROUTE : Nat := 0xE00901C0
def ADR_BANK_ILIM : Nat := 0xE00901C4
def ADR_MOT_MISS : Nat := 0xE00901C8
def ADR_MOT_Q (i : Nat) : Nat := 0xE0090200 + 0x4 * i
def ADR_BANK_COLLIDE_S (i : Nat) : Nat := 0xE0090300 + 0x4 * i
def ADR_BANK_DEFER_S (i : Nat) : Nat := 0xE0090330 + 0x4 * i
def ADR_BANK_ILIM_S : Nat := 0xE0090360
def ADR_MOT_MISS_S : Nat := 0xE0090364
def ADR_BANK_STATUS (i : Nat) : Nat := 0xE0091000 + 0x4 * i
def PSW_ID : Nat := 0xE00A0000
def PSW_CTRL : Nat := 0xE00A0004
def PSW_LATCHED : Nat := 0xE00A0008
def PSW_OPEN : Nat := 0xE00A000C
def PSW_OC_TRIPS : Nat := 0xE00A0010
def PSW_THERM_TRIPS : Nat := 0xE00A0014
def PSW_UV_OFFS : Nat := 0xE00A0018
def PSW_OPEN_CNT : Nat := 0xE00A001C
def PSW_BUDGET_SHEDS : Nat := 0xE00A0020
def PSW_NOFWD : Nat := 0xE00A0024
def PSW_OC_TRIPS_S : Nat := 0xE00A0028
def PSW_THERM_TRIPS_S : Nat := 0xE00A002C
def PSW_UV_OFFS_S : Nat := 0xE00A0030
def PSW_OPEN_CNT_S : Nat := 0xE00A0034
def PSW_BUDGET_SHEDS_S : Nat := 0xE00A0038
def PSW_NOFWD_S : Nat := 0xE00A003C
def PSW_GRP_ROUTE : Nat := 0xE00A0040
def PSW_CH_CFG (i : Nat) : Nat := 0xE00A0100 + 0x10 * i
def PSW_CH_DUTY (i : Nat) : Nat := 0xE00A0104 + 0x10 * i
def PSW_CH_LIM (i : Nat) : Nat := 0xE00A0108 + 0x10 * i
def PSW_CH_DIAG (i : Nat) : Nat := 0xE00A010C + 0x10 * i
def PSW_CH_STATUS (i : Nat) : Nat := 0xE00A0200 + 0x10 * i
def PSW_CH_I (i : Nat) : Nat := 0xE00A0204 + 0x10 * i
def PSW_CH_DUTY_EFF (i : Nat) : Nat := 0xE00A0208 + 0x10 * i
def PSW_CH_TRIP (i : Nat) : Nat := 0xE00A020C + 0x10 * i
def PSW_GRP_EN (i : Nat) : Nat := 0xE00A0300 + 0x10 * i
def PSW_GRP_UV (i : Nat) : Nat := 0xE00A0304 + 0x10 * i
def PSW_GRP_BUDGET (i : Nat) : Nat := 0xE00A0308 + 0x10 * i
def PSW_GRP_STATUS (i : Nat) : Nat := 0xE00A030C + 0x10 * i
def TRN_ID : Nat := 0xE0140000
def TRN_CTRL : Nat := 0xE0140004
def TRN_MEAS_CFG : Nat := 0xE0140008
def TRN_ALLOC : Nat := 0xE014000C
def TRN_FE_CFG : Nat := 0xE0140010
def TRN_EPOCHS : Nat := 0xE0140014
def TRN_RAW_LOST : Nat := 0xE0140018
def TRN_LOCK_LOSS : Nat := 0xE014001C
def TRN_ACQ_DONE : Nat := 0xE0140020
def TRN_NAV_ERR : Nat := 0xE0140024
def TRN_EPOCHS_S : Nat := 0xE0140028
def TRN_RAW_LOST_S : Nat := 0xE014002C
def TRN_LOCK_LOSS_S : Nat := 0xE0140030
def TRN_ACQ_DONE_S : Nat := 0xE0140034
def TRN_NAV_ERR_S : Nat := 0xE0140038
def TRN_RXT_LO : Nat := 0xE014003C
def TRN_RXT_HI : Nat := 0xE0140040
def TRN_FE_STATUS (i : Nat) : Nat := 0xE0140100 + 0x4 * i
def TRN_ACQ_REQ (i : Nat) : Nat := 0xE0140200 + 0x20 * i
def TRN_ACQ_DOP (i : Nat) : Nat := 0xE0140204 + 0x20 * i
def TRN_ACQ_TH (i : Nat) : Nat := 0xE0140208 + 0x20 * i
def TRN_ACQ_STATUS (i : Nat) : Nat := 0xE014020C + 0x20 * i
def TRN_ACQ_RES_A (i : Nat) : Nat := 0xE0140210 + 0x20 * i
def TRN_ACQ_RES_B (i : Nat) : Nat := 0xE0140214 + 0x20 * i
def TRN_ACQ_RES_C (i : Nat) : Nat := 0xE0140218 + 0x20 * i
def TRN_ACQ_TBREF (i : Nat) : Nat := 0xE014021C + 0x20 * i
def TRN_CH_CFG (i : Nat) : Nat := 0xE0141000 + 0x20 * i
def TRN_CH_LOOP (i : Nat) : Nat := 0xE0141004 + 0x20 * i
def TRN_CH_SPACE (i : Nat) : Nat := 0xE0141008 + 0x20 * i
def TRN_CH_INIT_CP (i : Nat) : Nat := 0xE014100C + 0x20 * i
def TRN_CH_INIT_DOP (i : Nat) : Nat := 0xE0141010 + 0x20 * i
def TRN_CH_LOCK (i : Nat) : Nat := 0xE0141014 + 0x20 * i
def TRN_CH_HO (i : Nat) : Nat := 0xE0141018 + 0x20 * i
def TRN_CH_AID (i : Nat) : Nat := 0xE014101C + 0x20 * i
def TRN_CH_STATUS (i : Nat) : Nat := 0xE0142000 + 0x20 * i
def TRN_CH_FCW_C (i : Nat) : Nat := 0xE0142004 + 0x20 * i
def TRN_CH_FCW_K (i : Nat) : Nat := 0xE0142008 + 0x20 * i
def TRN_CH_DOP (i : Nat) : Nat := 0xE014200C + 0x20 * i
def TRN_CH_CP (i : Nat) : Nat := 0xE0142010 + 0x20 * i
def TRN_CH_LOCKT (i : Nat) : Nat := 0xE0142014 + 0x20 * i
def TRN_CH_PROMPT (i : Nat) : Nat := 0xE0142018 + 0x20 * i
def TRN_CH_HO_STAT (i : Nat) : Nat := 0xE014201C + 0x20 * i
def POS_ID : Nat := 0xE0160000
def POS_STATUS : Nat := 0xE0160004
def POS_SOLS : Nat := 0xE0160008
def POS_RTCM_OK : Nat := 0xE016000C
def POS_RTCM_ERR : Nat := 0xE0160010
def POS_GATE_REJ : Nat := 0xE0160014
def POS_RESETS : Nat := 0xE0160018
def POS_SOLS_S : Nat := 0xE016001C
def POS_RTCM_OK_S : Nat := 0xE0160020
def POS_RTCM_ERR_S : Nat := 0xE0160024
def POS_GATE_REJ_S : Nat := 0xE0160028
def POS_RESETS_S : Nat := 0xE016002C
def POS_GPST_LO : Nat := 0xE0160030
def POS_GPST_HI : Nat := 0xE0160034
def POS_BIAS : Nat := 0xE0160038
def POS_CTRL : Nat := 0xE0160100
def POS_LEVER : Nat := 0xE0160104
def POS_LEVER_Z : Nat := 0xE0160108
def POS_BASE : Nat := 0xE016010C
def POS_ODO_CFG : Nat := 0xE0160110
def POS_ODO_SCALE : Nat := 0xE0160114
def POS_STEER_CFG : Nat := 0xE0160118
def POS_RTK_CFG : Nat := 0xE016011C
def POS_DR_MAX : Nat := 0xE0160120
def POS_ORIGIN_LAT : Nat := 0xE0160124
def POS_ORIGIN_LON : Nat := 0xE0160128
def POS_SENTRY_CFG : Nat := 0xE0160200
def POS_SENTRY_INT : Nat := 0xE0160204
def POS_SENTRY_STATUS : Nat := 0xE0160208
def CAM_ID : Nat := 0xE01C0000
def CAM_CTRL : Nat := 0xE01C0004
def CAM_MODE : Nat := 0xE01C0008
def CAM_STATUS : Nat := 0xE01C000C
def CAM_FRAMES : Nat := 0xE01C0010
def CAM_DROP : Nat := 0xE01C0014
def CAM_INCOMPLETE : Nat := 0xE01C0018
def CAM_LATE : Nat := 0xE01C001C
def CAM_NOBUF : Nat := 0xE01C0020
def CAM_RING_LOST : Nat := 0xE01C0024
def CAM_FRAMES_S : Nat := 0xE01C0028
def CAM_DROP_S : Nat := 0xE01C002C
def CAM_INCOMPLETE_S : Nat := 0xE01C0030
def CAM_LATE_S : Nat := 0xE01C0034
def CAM_NOBUF_S : Nat := 0xE01C0038
def CAM_RING_LOST_S : Nat := 0xE01C003C
def CAM_TBL_SEL : Nat := 0xE01C0040
def CAM_TBL_DATA : Nat := 0xE01C0044
def CAM_STR_ID_LO (i : Nat) : Nat := 0xE01C0100 + 0x20 * i
def CAM_STR_ID_HI (i : Nat) : Nat := 0xE01C0104 + 0x20 * i
def CAM_STR_CFG (i : Nat) : Nat := 0xE01C0108 + 0x20 * i
def CAM_STR_SIZE (i : Nat) : Nat := 0xE01C010C + 0x20 * i
def CAM_STR_STATUS (i : Nat) : Nat := 0xE01C0110 + 0x20 * i
def CAM_STR_FRAMES (i : Nat) : Nat := 0xE01C0114 + 0x20 * i
def CAM_STR_SEQ (i : Nat) : Nat := 0xE01C0118 + 0x20 * i
def CAM_STR_CRC (i : Nat) : Nat := 0xE01C011C + 0x20 * i
def CAM_CTX_CFG (i : Nat) : Nat := 0xE01C0200 + 0x40 * i
def CAM_CTX_DISP (i : Nat) : Nat := 0xE01C0204 + 0x40 * i
def CAM_CTX_CROP (i : Nat) : Nat := 0xE01C0208 + 0x40 * i
def CAM_CTX_CODE (i : Nat) : Nat := 0xE01C020C + 0x40 * i
def CAM_CTX_BLACK (i : Nat) : Nat := 0xE01C0210 + 0x40 * i
def CAM_CTX_WB0 (i : Nat) : Nat := 0xE01C0214 + 0x40 * i
def CAM_CTX_WB1 (i : Nat) : Nat := 0xE01C0218 + 0x40 * i
def CAM_CTX_CCM0 (i : Nat) : Nat := 0xE01C021C + 0x40 * i
def CAM_CTX_CCM1 (i : Nat) : Nat := 0xE01C0220 + 0x40 * i
def CAM_CTX_CCM2 (i : Nat) : Nat := 0xE01C0224 + 0x40 * i
def CAM_CTX_CCM3 (i : Nat) : Nat := 0xE01C0228 + 0x40 * i
def CAM_CTX_CCM4 (i : Nat) : Nat := 0xE01C022C + 0x40 * i
def CAM_CTX_AWBWIN (i : Nat) : Nat := 0xE01C0230 + 0x40 * i
def CAM_CTX_LATE (i : Nat) : Nat := 0xE01C0234 + 0x40 * i
def CAM_CTX_REL (i : Nat) : Nat := 0xE01C0238 + 0x40 * i
def CAM_CTX_STATUS (i : Nat) : Nat := 0xE01C023C + 0x40 * i
def CAM_ENC_CFG (i : Nat) : Nat := 0xE01C0400 + 0x20 * i
def CAM_ENC_RATE (i : Nat) : Nat := 0xE01C0404 + 0x20 * i
def CAM_ENC_QP (i : Nat) : Nat := 0xE01C0408 + 0x20 * i
def CAM_ENC_CMD (i : Nat) : Nat := 0xE01C040C + 0x20 * i
def CAM_ENC_WR (i : Nat) : Nat := 0xE01C0410 + 0x20 * i
def CAM_ENC_RD (i : Nat) : Nat := 0xE01C0414 + 0x20 * i
def CAM_ENC_AUS (i : Nat) : Nat := 0xE01C0418 + 0x20 * i
def CAM_ENC_SKIP (i : Nat) : Nat := 0xE01C041C + 0x20 * i
def AST_ID : Nat := 0xE0180000
def AST_CTRL : Nat := 0xE0180004
def AST_CYC_CFG : Nat := 0xE0180008
def AST_GATE : Nat := 0xE018000C
def AST_SOLVE_CFG : Nat := 0xE0180010
def AST_TRK_CFG : Nat := 0xE0180014
def AST_TRK_Q : Nat := 0xE0180018
def AST_TRK_LIM : Nat := 0xE018001C
def AST_STATUS : Nat := 0xE0180020
def AST_CYCLES : Nat := 0xE0180024
def AST_DETS : Nat := 0xE0180028
def AST_CONTRADICT : Nat := 0xE018002C
def AST_BIRTHS : Nat := 0xE0180030
def AST_DELETES : Nat := 0xE0180034
def AST_TRK_FULL : Nat := 0xE0180038
def AST_LIST_DISC : Nat := 0xE018003C
def AST_RING_LOST : Nat := 0xE0180040
def AST_CAP : Nat := 0xE0180044
def AST_CYCLES_S : Nat := 0xE0180048
def AST_DETS_S : Nat := 0xE018004C
def AST_CONTRADICT_S : Nat := 0xE0180050
def AST_BIRTHS_S : Nat := 0xE0180054
def AST_DELETES_S : Nat := 0xE0180058
def AST_TRK_FULL_S : Nat := 0xE018005C
def AST_LIST_DISC_S : Nat := 0xE0180060
def AST_RING_LOST_S : Nat := 0xE0180064
def AST_CAP_S : Nat := 0xE0180068
def AST_CYC_TIME : Nat := 0xE018006C
def AST_SUB_ADDR_LO : Nat := 0xE0180070
def AST_SUB_ADDR_HI : Nat := 0xE0180074
def AST_SUB_GO : Nat := 0xE0180078
def AST_SRC_CFG (i : Nat) : Nat := 0xE0180100 + 0x20 * i
def AST_SRC_ID (i : Nat) : Nat := 0xE0180104 + 0x20 * i
def AST_SRC_CAN (i : Nat) : Nat := 0xE0180108 + 0x20 * i
def AST_SRC_MOUNT (i : Nat) : Nat := 0xE018010C + 0x20 * i
def AST_SRC_MOUNT2 (i : Nat) : Nat := 0xE0180110 + 0x20 * i
def AST_SRC_PERIOD (i : Nat) : Nat := 0xE0180114 + 0x20 * i
def AST_SRC_STATUS (i : Nat) : Nat := 0xE0180118 + 0x20 * i
def AST_SRC_OFS (i : Nat) : Nat := 0xE018011C + 0x20 * i
def AST_EGO_CFG : Nat := 0xE0180300
def AST_EGO_STATUS : Nat := 0xE0180304
def AST_EGO_INV : Nat := 0xE0180308
def AST_EGO_INV_S : Nat := 0xE018030C
def SAF_ID : Nat := 0xE0260000
def SAF_STATE : Nat := 0xE0260004
def SAF_LINES : Nat := 0xE0260008
def SAF_SI : Nat := 0xE026000C
def SAF_TP : Nat := 0xE0260010
def SAF_SO : Nat := 0xE0260014
def SAF_SS : Nat := 0xE0260018
def SAF_SEAL : Nat := 0xE026001C
def SAF_PAR_CRC : Nat := 0xE0260020
def SAF_TIMERS : Nat := 0xE0260024
def SAF_SS1_T : Nat := 0xE0260028
def SAF_REACT : Nat := 0xE026002C
def SAF_STOPS : Nat := 0xE0260030
def SAF_STOS : Nat := 0xE0260034
def SAF_VIOL : Nat := 0xE0260038
def SAF_FAULTS : Nat := 0xE026003C
def SAF_STOPS_S : Nat := 0xE0260040
def SAF_STOS_S : Nat := 0xE0260044
def SAF_VIOL_S : Nat := 0xE0260048
def SAF_FAULTS_S : Nat := 0xE026004C
def SAF_MON_V (i : Nat) : Nat := 0xE0260100 + 0x10 * i
def SAF_MON_ENV (i : Nat) : Nat := 0xE0260104 + 0x10 * i
def SAF_MON_CFG (i : Nat) : Nat := 0xE0260108 + 0x10 * i
def SAF_MON_CFG2 (i : Nat) : Nat := 0xE026010C + 0x10 * i
def SAF_SI_CFG (i : Nat) : Nat := 0xE0260200 + 0x4 * i
def SAF_JSP_ST (i : Nat) : Nat := 0xE0260300 + 0x4 * i
def CAN_ID (n : Nat) : Nat := 0xE0200000 + 0x1000 * n
def CAN_CTRL (n : Nat) : Nat := 0xE0200004 + 0x1000 * n
def CAN_NBT (n : Nat) : Nat := 0xE0200008 + 0x1000 * n
def CAN_DBT (n : Nat) : Nat := 0xE020000C + 0x1000 * n
def CAN_STATUS (n : Nat) : Nat := 0xE0200010 + 0x1000 * n
def CAN_WAKE_CFG (n : Nat) : Nat := 0xE0200014 + 0x1000 * n
def CAN_WUF_ID (n : Nat) : Nat := 0xE0200018 + 0x1000 * n
def CAN_WUF_MASK (n : Nat) : Nat := 0xE020001C + 0x1000 * n
def CAN_WUF_DATA_LO (n : Nat) : Nat := 0xE0200020 + 0x1000 * n
def CAN_WUF_DATA_HI (n : Nat) : Nat := 0xE0200024 + 0x1000 * n
def CAN_CLAIM_NAME_LO (n : Nat) : Nat := 0xE0200028 + 0x1000 * n
def CAN_CLAIM_NAME_HI (n : Nat) : Nat := 0xE020002C + 0x1000 * n
def CAN_CLAIM_CFG (n : Nat) : Nat := 0xE0200030 + 0x1000 * n
def CAN_CLAIM_ST (n : Nat) : Nat := 0xE0200034 + 0x1000 * n
def CAN_RX_FRAMES (n : Nat) : Nat := 0xE0200038 + 0x1000 * n
def CAN_TX_FRAMES (n : Nat) : Nat := 0xE020003C + 0x1000 * n
def CAN_ERR_FRAMES (n : Nat) : Nat := 0xE0200040 + 0x1000 * n
def CAN_BUSOFFS (n : Nat) : Nat := 0xE0200044 + 0x1000 * n
def CAN_TX_DROP (n : Nat) : Nat := 0xE0200048 + 0x1000 * n
def CAN_RX_UNMATCHED (n : Nat) : Nat := 0xE020004C + 0x1000 * n
def CAN_TX_OVERRUN (n : Nat) : Nat := 0xE0200050 + 0x1000 * n
def CAN_RX_LOST (n : Nat) : Nat := 0xE0200054 + 0x1000 * n
def CAN_IMP_SHORT (n : Nat) : Nat := 0xE0200058 + 0x1000 * n
def CAN_RX_FRAMES_S (n : Nat) : Nat := 0xE020005C + 0x1000 * n
def CAN_TX_FRAMES_S (n : Nat) : Nat := 0xE0200060 + 0x1000 * n
def CAN_ERR_FRAMES_S (n : Nat) : Nat := 0xE0200064 + 0x1000 * n
def CAN_BUSOFFS_S (n : Nat) : Nat := 0xE0200068 + 0x1000 * n
def CAN_TX_DROP_S (n : Nat) : Nat := 0xE020006C + 0x1000 * n
def CAN_RX_UNMATCHED_S (n : Nat) : Nat := 0xE0200070 + 0x1000 * n
def CAN_TX_OVERRUN_S (n : Nat) : Nat := 0xE0200074 + 0x1000 * n
def CAN_RX_LOST_S (n : Nat) : Nat := 0xE0200078 + 0x1000 * n
def CAN_IMP_SHORT_S (n : Nat) : Nat := 0xE020007C + 0x1000 * n
def CAN_IMP_CFG (n j : Nat) : Nat := 0xE0200100 + 0x1000 * n + 0x18 * j
def CAN_IMP_ID (n j : Nat) : Nat := 0xE0200104 + 0x1000 * n + 0x18 * j
def CAN_IMP_MASK (n j : Nat) : Nat := 0xE0200108 + 0x1000 * n + 0x18 * j
def CAN_IMP_GAIN (n j : Nat) : Nat := 0xE020010C + 0x1000 * n + 0x18 * j
def CAN_IMP_OFS (n j : Nat) : Nat := 0xE0200110 + 0x1000 * n + 0x18 * j
def CAN_IMP_TMO (n j : Nat) : Nat := 0xE0200114 + 0x1000 * n + 0x18 * j
def CAN_EXP_CFG (n j : Nat) : Nat := 0xE0200160 + 0x1000 * n + 0x18 * j
def CAN_EXP_SIG (n j : Nat) : Nat := 0xE0200164 + 0x1000 * n + 0x18 * j
def CAN_EXP_GAIN (n j : Nat) : Nat := 0xE0200168 + 0x1000 * n + 0x18 * j
def CAN_EXP_OFS (n j : Nat) : Nat := 0xE020016C + 0x1000 * n + 0x18 * j
def CAN_EXP_VAL (n j : Nat) : Nat := 0xE0200170 + 0x1000 * n + 0x18 * j
def CAN_EXP_RAW (n j : Nat) : Nat := 0xE0200174 + 0x1000 * n + 0x18 * j
def CAN_OBJ_ID (n j : Nat) : Nat := 0xE0200200 + 0x1000 * n + 0x10 * j
def CAN_OBJ_MASK (n j : Nat) : Nat := 0xE0200204 + 0x1000 * n + 0x10 * j
def CAN_OBJ_CTRL (n j : Nat) : Nat := 0xE0200208 + 0x1000 * n + 0x10 * j
def CAN_OBJ_ST (n j : Nat) : Nat := 0xE020020C + 0x1000 * n + 0x10 * j
def CAN_TXQ_ID (n : Nat) : Nat := 0xE0200600 + 0x1000 * n
def CAN_TXQ_DATA (n j : Nat) : Nat := 0xE0200604 + 0x1000 * n + 0x4 * j
def CAN_TXQ_CTRL (n : Nat) : Nat := 0xE0200644 + 0x1000 * n
def CAN_TXQ_LEVEL (n : Nat) : Nat := 0xE0200648 + 0x1000 * n
def LIN_CFG (n : Nat) : Nat := 0xE0200700 + 0x1000 * n
def LIN_STATUS (n : Nat) : Nat := 0xE0200704 + 0x1000 * n
def LIN_NORESP (n : Nat) : Nat := 0xE0200708 + 0x1000 * n
def LIN_CHKERR (n : Nat) : Nat := 0xE020070C + 0x1000 * n
def LIN_BITERR (n : Nat) : Nat := 0xE0200710 + 0x1000 * n
def LIN_SCHED (n j : Nat) : Nat := 0xE0200714 + 0x1000 * n + 0x4 * j
def ETH_ID : Nat := 0xE0240000
def ETH_TIME_CFG : Nat := 0xE0240004
def ETH_TIME_STATUS : Nat := 0xE0240008
def ETH_TRIM : Nat := 0xE024000C
def ETH_PTP_G_LO : Nat := 0xE0240010
def ETH_PTP_G_HI : Nat := 0xE0240014
def ETH_PTP_TB_LO : Nat := 0xE0240018
def ETH_PTP_TB_HI : Nat := 0xE024001C
def ETH_PTP_RATE : Nat := 0xE0240020
def ETH_PTP_GM_LO : Nat := 0xE0240024
def ETH_PTP_GM_HI : Nat := 0xE0240028
def ETH_TIME_DIFF : Nat := 0xE024002C
def ETH_PTP_CFG : Nat := 0xE0240030
def ETH_IP_ADDR : Nat := 0xE0240034
def ETH_IP_MASK : Nat := 0xE0240038
def ETH_IP_GW : Nat := 0xE024003C
def ETH_IP_VLAN : Nat := 0xE0240040
def ETH_KMP_DROP : Nat := 0xE0240044
def ETH_POL_DROP : Nat := 0xE0240048
def ETH_FCS_ERR : Nat := 0xE024004C
def ETH_TIME_JUMPS : Nat := 0xE0240050
def ETH_KMP_DROP_S : Nat := 0xE0240054
def ETH_POL_DROP_S : Nat := 0xE0240058
def ETH_FCS_ERR_S : Nat := 0xE024005C
def ETH_TIME_JUMPS_S : Nat := 0xE0240060
def ETH_PORT_CFG (i : Nat) : Nat := 0xE0240100 + 0x10 * i
def ETH_PORT_STATUS (i : Nat) : Nat := 0xE0240104 + 0x10 * i
def ETH_PORT_RX (i : Nat) : Nat := 0xE0240108 + 0x10 * i
def ETH_PORT_TX (i : Nat) : Nat := 0xE024010C + 0x10 * i
def ETH_SF_KEY (i : Nat) : Nat := 0xE0240200 + 0x10 * i
def ETH_SF_MAC (i : Nat) : Nat := 0xE0240204 + 0x10 * i
def ETH_SF_METER (i : Nat) : Nat := 0xE0240208 + 0x10 * i
def ETH_SF_DROP (i : Nat) : Nat := 0xE024020C + 0x10 * i
def ETH_GCL_SEL : Nat := 0xE0240400
def ETH_GCL_DATA : Nat := 0xE0240404
def ETH_GCL_BASE_LO : Nat := 0xE0240408
def ETH_GCL_BASE_HI : Nat := 0xE024040C
def ETH_GCL_CYCLE : Nat := 0xE0240410
def ETH_GCL_LEN : Nat := 0xE0240414
def ETH_GCL_GO : Nat := 0xE0240418
def ETH_GCL_STATUS : Nat := 0xE024041C
def ETH_GCL_ERR : Nat := 0xE0240420
def ETH_SER_CFG (i : Nat) : Nat := 0xE0240500 + 0x10 * i
def ETH_SER_STATUS (i : Nat) : Nat := 0xE0240504 + 0x10 * i
def ETH_SER_FRAMES (i : Nat) : Nat := 0xE0240508 + 0x10 * i
def ETH_SER_ERR (i : Nat) : Nat := 0xE024050C + 0x10 * i
def PAIR_ID : Nat := 0xE0270000
def PAIR_CFG : Nat := 0xE0270004
def PAIR_CAN_ID : Nat := 0xE0270008
def PAIR_STATUS : Nat := 0xE027000C
def PAIR_COPY_SEQ : Nat := 0xE0270010
def PAIR_COPY_AGE : Nat := 0xE0270014
def PAIR_COPY_LEN : Nat := 0xE0270018
def PAIR_TAKEOVERS : Nat := 0xE027001C
def PAIR_COPY_MISS : Nat := 0xE0270020
def PAIR_LEASE_LAPSE : Nat := 0xE0270024
def PAIR_LINK_DOWN : Nat := 0xE0270028
def PAIR_CAN_MISS : Nat := 0xE027002C
def PAIR_TAKEOVERS_S : Nat := 0xE0270030
def PAIR_COPY_MISS_S : Nat := 0xE0270034
def PAIR_LEASE_LAPSE_S : Nat := 0xE0270038
def PAIR_LINK_DOWN_S : Nat := 0xE027003C
def PAIR_CAN_MISS_S : Nat := 0xE0270040
def PAIR_LAST_TB_LO : Nat := 0xE0270044
def PAIR_LAST_TB_HI : Nat := 0xE0270048
def REC_ID : Nat := 0xE0280000
def REC_CFG : Nat := 0xE0280004
def REC_STATUS : Nat := 0xE0280008
def REC_SEQ_NEXT : Nat := 0xE028000C
def REC_SEQ_OLDEST : Nat := 0xE0280010
def REC_LOST_INFO : Nat := 0xE0280014
def REC_LOST_WARN : Nat := 0xE0280018
def REC_LOST_FAULT : Nat := 0xE028001C
def REC_LOST_SAFETY : Nat := 0xE0280020
def REC_REPEATS : Nat := 0xE0280024
def REC_COMMITS : Nat := 0xE0280028
def REC_FRZ_OVF : Nat := 0xE028002C
def REC_ALARM_SENT : Nat := 0xE0280030
def REC_ALARM_SUPP : Nat := 0xE0280034
def REC_FLASH_ERR : Nat := 0xE0280038
def REC_LOST_INFO_S : Nat := 0xE028003C
def REC_LOST_WARN_S : Nat := 0xE0280040
def REC_LOST_FAULT_S : Nat := 0xE0280044
def REC_LOST_SAFETY_S : Nat := 0xE0280048
def REC_REPEATS_S : Nat := 0xE028004C
def REC_COMMITS_S : Nat := 0xE0280050
def REC_FRZ_OVF_S : Nat := 0xE0280054
def REC_ALARM_SENT_S : Nat := 0xE0280058
def REC_ALARM_SUPP_S : Nat := 0xE028005C
def REC_FLASH_ERR_S : Nat := 0xE0280060
def REC_LAST : Nat := 0xE0280064
def PNL_ID : Nat := 0xE0290000
def PNL_CTRL : Nat := 0xE0290004
def PNL_CMD : Nat := 0xE0290008
def PNL_STATUS : Nat := 0xE029000C
def PNL_CRACK_R : Nat := 0xE0290010
def PNL_MIN_S : Nat := 0xE0290014
def PNL_UPDATES : Nat := 0xE0290018
def PNL_LINES : Nat := 0xE029001C
def PNL_FULLS : Nat := 0xE0290020
def PNL_CRACKS : Nat := 0xE0290024
def PNL_UPDATES_S : Nat := 0xE0290028
def PNL_LINES_S : Nat := 0xE029002C
def PNL_FULLS_S : Nat := 0xE0290030
def PNL_CRACKS_S : Nat := 0xE0290034
def PNL_FB_SEL : Nat := 0xE0290038
def PNL_FB_DATA : Nat := 0xE029003C
def PNL_BLINK_X (i : Nat) : Nat := 0xE0290100 + 0x8 * i
def PNL_BLINK_Y (i : Nat) : Nat := 0xE0290104 + 0x8 * i
def PRM_ID : Nat := 0xE02A0000
def PRM_STATUS : Nat := 0xE02A0004
def PRM_GEN : Nat := 0xE02A0008
def PRM_BEHAV_LEVEL : Nat := 0xE02A000C
def PRM_SERIAL_LO : Nat := 0xE02A0010
def PRM_SERIAL_HI : Nat := 0xE02A0014
def PRM_CAL_CRC : Nat := 0xE02A0018
def PRM_WRITES : Nat := 0xE02A001C
def PRM_COMPACTS : Nat := 0xE02A0020
def PRM_ERRS : Nat := 0xE02A0024
def PRM_WRITES_S : Nat := 0xE02A0028
def PRM_COMPACTS_S : Nat := 0xE02A002C
def PRM_ERRS_S : Nat := 0xE02A0030

end Sys2Proof.Machine.R
end

