-- ==== Sys2Proof/Machine/RegStore.lean ====
section
/-!
DEFINITION. The store of the registers: a list of (address, value) pairs in which the first entry of an address counts,
an unlisted address holding its Reset value. Its canonical form has strictly rising addresses and no entry equal to
the Reset value; `Regs.norm` gives that form, once at the end of each command.
-/
namespace Sys2Proof.Machine

/-- Whether a register of the row stands at offset `o` of the block's map. -/
def RegRow.has (r : RegRow) (o : Nat) : Bool :=
  r.off ≤ o && (o - r.off) % r.stride == 0 && (o - r.off) / r.stride < r.count

/-- The block whose window holds address `a` (R69). -/
def blockAt (a : Nat) : Option Block :=
  if 0xE0200000 ≤ a && a < 0xE0210000 then some (canBlock ((a - 0xE0200000) / 0x1000))
  else blockList.find? (fun b => b.base ≤ a && a < b.base + b.span)

/-- The row of the register at offset `o` of a block. -/
def Block.row (b : Block) (o : Nat) : Option RegRow := b.rows.find? (fun r => r.has o)

/-- The row of the register whose own address is `a`. -/
def rowAt (a : Nat) : Option RegRow := (blockAt a).bind (fun b => b.row (a - b.base))

/-- The Reset value of the register at its own address `a`; the values that belong to the unit come from Config. -/
def regReset (a : Nat) : Word :=
  if a = R.SYS_FFF_LEVEL || a = R.PRM_BEHAV_LEVEL then word Config.fffLevel
  else if a = R.PRM_SERIAL_LO then Config.serial.extractLsb' 0 32
  else if a = R.PRM_SERIAL_HI then Config.serial.extractLsb' 32 32
  else
    match rowAt a with
    | some r => word r.reset
    | none => 0#32

/-- The register values that differ from their Reset values. -/
abbrev Regs := List (Nat × Word)

/-- The value held at address `a`. -/
def Regs.get (r : Regs) (a : Nat) : Word :=
  match r.lookup a with
  | some v => v
  | none => regReset a

/-- The store with `v` at address `a`. -/
def Regs.set (r : Regs) (a : Nat) (v : Word) : Regs := (a, v) :: r

/-- Inserts one entry into a store in canonical form, keeping the form. -/
def Regs.put (a : Nat) (v : Word) : Regs → Regs
  | [] => if v = regReset a then [] else [(a, v)]
  | (b, w) :: t =>
    if a < b then (if v = regReset a then (b, w) :: t else (a, v) :: (b, w) :: t)
    else if a = b then (if v = regReset a then t else (a, v) :: t)
    else (b, w) :: Regs.put a v t

/-- The canonical form of a store. -/
def Regs.norm (r : Regs) : Regs := r.foldr (fun e acc => Regs.put e.1 e.2 acc) []

/-- Whether addresses rise strictly, all above `lo`, and no entry equals its Reset value. -/
def Regs.wfFrom (lo : Nat) : Regs → Bool
  | [] => true
  | (a, v) :: t => decide (lo ≤ a) && decide (v ≠ regReset a) && Regs.wfFrom (a + 1) t

/-- Whether a store is in canonical form. -/
def Regs.wf (r : Regs) : Bool := Regs.wfFrom 0 r

/-- Keeps the entries whose address satisfies `p`; every other register takes its Reset value. -/
def Regs.keep (r : Regs) (p : Nat → Bool) : Regs := r.norm.filter (fun e => p e.1)

/-- Copies `n` words from `src` to `dst` in one step (R19): the words that stand in the store are moved, every other
word of the target range takes its Reset value. -/
def Regs.copy (r : Regs) (src dst n : Nat) : Regs :=
  let c := r.norm
  let moved := (c.filter (fun e => src ≤ e.1 && e.1 < src + 4 * n)).map (fun e => (e.1 - src + dst, e.2))
  moved ++ c.filter (fun e => !(dst ≤ e.1 && e.1 < dst + 4 * n))

/-- Retention class of the register at its own address (chapter 00); an address of no register is volatile. -/
def retAt (a : Nat) : Ret :=
  match rowAt a with
  | some r => r.ret
  | none => .d

/-- The writable bits of the register at its own address. -/
def maskAt (a : Nat) : Word :=
  match rowAt a with
  | some r => word r.mask
  | none => 0#32

/-- What an address reaches by partial decode (R70, R73, R74). -/
inductive Target where
  | noWindow
  | hole (b : Block)
  | reg (b : Block) (addr : Nat) (row : RegRow)
deriving DecidableEq, Repr

/-- Partial decode (R73, R74): the offset modulo 2^D, its page, and the word index modulo 2^p below N. -/
def decodeAddr (a : Nat) : Target :=
  match blockAt a with
  | none => .noWindow
  | some b =>
    let o := (a - b.base) % 2 ^ b.d
    let page := o / 256
    match b.pages.find? (fun q => q.first / 256 ≤ page && page < q.first / 256 + q.pages) with
    | none => .hole b
    | some q =>
      let i := (o % 256 / 4) % 2 ^ q.p
      if i < q.n then
        let off := page * 256 + 4 * i
        match b.row off with
        | some r => .reg b (b.base + off) r
        | none => .hole b
      else .hole b

/-- Whether a block holds RWG registers, and so has guard companions (R81). -/
def Block.guarded (b : Block) : Bool := b.rows.any (fun r => r.guard)

/-- The guarded register whose companion stands at address `a` (R81): offset bit 11 set, the address without it an
RWG register. -/
def companionOf (a : Nat) : Option (Block × Nat × RegRow) :=
  match blockAt a with
  | none => none
  | some b =>
    let o := (a - b.base) % 2 ^ b.d
    if b.guarded && o.testBit 11 then
      match decodeAddr (b.base + (o - 0x800)) with
      | .reg _ x r => if r.guard then some (b, x, r) else none
      | _ => none
    else none

end Sys2Proof.Machine
end

