-- ==== Sys2Proof/Machine/State.lean ====
section
/-!
DEFINITION. State: every register, queue, buffer, timer and mode the spec gives the module, the queue of waiting
commands, the reasons a step can stop, and the state after a power-on reset.
-/
namespace Sys2Proof.Machine

/-- The reasons a command could stop the machine with a fault. No command of the table raises one: the spec gives
every command an effect, a bus error and a rejected command being effects on State. -/
inductive Fault where
  /-- Raised by no command; it stands so that the type is not empty. Safe: nothing reaches it. -/
  | none
deriving DecidableEq, Repr

/-- The reasons a command could be refused. -/
inductive Refusal where
  /-- Raised by an arm of exec that has no meaning yet, with the row's mnemonic. Safe: the machine stops there. -/
  | notModelled (mnemonic : String)
deriving DecidableEq, Repr

/-- The machine. -/
structure State where
  /-- The commands that wait, first in first out. -/
  pending : List Instr := []
  clk     : Clk := {}
  /-- Register values that differ from Reset (chapters 01 to 25, the register maps). -/
  regs    : Regs := []
  /-- Pending shadow values of RWS registers (R27, R72, R88). -/
  shadow  : Regs := []
  fab     : Fabric := {}
  mbx     : Mailbox := {}
  fns     : List Fn := List.replicate 24 {}
  pwr     : Power := {}
  almanac : Recorder := {}
  inp     : Inputs := {}
  cst     : Cst := {}
  ypl     : Ypl := {}
  saf     : Saf := {}
  adr     : Adr := {}
  psw     : Psw := {}
  mer     : Mer := {}
  trn     : Trn := {}
  pos     : Pos := {}
  gptp    : Gptp := {}
  cam     : Cam := {}
  vxa     : Vxa := {}
  ast     : Ast := {}
  pair    : Pair := {}
  can     : Can := {}
  prm     : Prm := {}
  eth     : Eth := {}
  pnl     : Pnl := {}
  flt     : Flt := {}
  upd     : Upd := {}
  /-- What the latest command sent out of the module. -/
  out     : List OutMsg := []
deriving DecidableEq, Repr, Inhabited

/-- The machine right after a power-on reset (R115, R117): every part as it stands when AON power was lost. -/
def State.reset : State := {}

end Sys2Proof.Machine
end

