-- ==== Sys2Proof/Machine/Clock.lean ====
section
/-!
DEFINITION. The passing of time (R23 to R25, R34, R441): one CLK_FAB period.
-/
namespace Sys2Proof.Machine

/-- The trim of TB in parts per billion, clipped to the range of TRIM_SEL (R441). -/
def trimPpb (r : Regs) : Int :=
  let lim : Int := match fld (r.get R.SYS_CLK_CFG) 1 0 with
    | 0 => 2000
    | 1 => 10000
    | 2 => 100000
    | _ => 0
  clampI (-lim) lim (r.get R.ETH_TRIM).toInt

/-- The clocks stand until the PLL has locked (R106); TB and the tick start again from zero (R24, R25). -/
def Clk.stop (k : Clk) : Clk := { now := k.now }

/-- CLK_CTL cycles in the CLK_FAB period of the model's time: two, or a free number while the root PLL runs free (R107). -/
def Clk.cycles (k : Clk) : Nat := if k.lost then Config.lostCycles k.now % 20000 else 2

/-- The clocks one CLK_FAB period (5 ns) later. TB gains an eighth of a unit for each CLK_CTL cycle, corrected by the trim; the tick
phase gains the cycles and starts again at each boundary, whose TB is queued for CONTROL_TICK. -/
def Clk.advance (k : Clk) (ppb : Int) : Clk :=
  if !k.running then { k with now := k.now + 1 }
  else
    let f := k.tbFrac + k.cycles * (1000000000 + ppb).toNat
    let tb := k.tb + f / 8000000000
    let ph := k.phase + k.cycles
    { k with
      now := k.now + 1, tb := tb, tbFrac := f % 8000000000, phase := ph % 20000,
      due := if 20000 ≤ ph then k.due ++ [tb] else k.due }

end Sys2Proof.Machine
end

