-- ==== Sys2Proof/Machine/Ops.lean ====
section
/-!
DEFINITION. The named operations on State that every family uses: running a command, registers and shadows, signals,
events, rings, notifications and mailbox answers.
-/
namespace Sys2Proof.Machine

/-- Carries out an instantaneous command: its effect `f` leaves time and the queue of waiting commands alone, and the
register store returns to its canonical form. -/
def State.run (f : State → State) (s : State) : Host.Outcome State Fault Refusal :=
  let t := f { s with out := [] }
  .next { t with clk := s.clk, pending := s.pending, regs := t.regs.norm }

/-- Carries out a command that may reset the device: where its effect `f` leaves the clocks standing, TB and the tick start again
from zero (R24, R25); else time goes on. -/
def State.runReset (f : State → State) (s : State) : Host.Outcome State Fault Refusal :=
  let t := f { s with out := [] }
  .next { t with clk := if t.clk.running then s.clk else s.clk.stop, pending := s.pending, regs := t.regs.norm }

/-- Carries out a command that acts at a boundary of the clocks: they stand as `k` says while and after it acts. -/
def State.runAt (k : Clk) (f : State → State) (s : State) : Host.Outcome State Fault Refusal :=
  let t := f { s with out := [], clk := k }
  .next { t with clk := k, pending := s.pending, regs := t.regs.norm }

/-! ### What a command reaches -/

/-- The parts of the state that belong to one function or unit alone, and the shadow values of the RWS registers. -/
inductive Part where
  | shadow | pwr | inp | cst | ypl | saf | adr | psw | mer | trn | pos | gptp | cam | vxa | ast | pair | can | prm | eth | pnl | flt | upd
deriving DecidableEq, Repr

/-- The registers a window holds: its first address and its length (R69). -/
abbrev Win := Nat × Nat

/-- The window of SYS (R69). -/
def Win.sys : Win := (0xE0000000, 0x10000)

/-- The window of FAB (R69). -/
def Win.fab : Win := (0xE0010000, 0x10000)

/-- The window of MBX (R69). -/
def Win.mbx : Win := (0xE0020000, 0x10000)

/-- The window of TB (R69). -/
def Win.tb : Win := (0xE0030000, 0x10000)

/-- The window of MER (R69). -/
def Win.mer : Win := (0xE0040000, 0x10000)

/-- The window of ADR (R69). -/
def Win.adr : Win := (0xE0080000, 0x10000)

/-- The window of the bank registers of chapter 10 (R69). -/
def Win.adb : Win := (0xE0090000, 0x10000)

/-- The window of PSW (R69). -/
def Win.psw : Win := (0xE00A0000, 0x10000)

/-- The window of DIN (R69). -/
def Win.din : Win := (0xE00B0000, 0x10000)

/-- The window of AIN (R69). -/
def Win.ain : Win := (0xE00C0000, 0x10000)

/-- The window of SNT (R69). -/
def Win.snt : Win := (0xE00D0000, 0x10000)

/-- The window of PWR (R69). -/
def Win.pwr : Win := (0xE00E0000, 0x10000)

/-- The window of CST (R69). -/
def Win.cst : Win := (0xE0100000, 0x10000)

/-- The window of YPL (R69). -/
def Win.ypl : Win := (0xE0120000, 0x10000)

/-- The window of TRN (R69). -/
def Win.trn : Win := (0xE0140000, 0x10000)

/-- The window of POS (R69). -/
def Win.pos : Win := (0xE0160000, 0x10000)

/-- The window of AST (R69). -/
def Win.ast : Win := (0xE0180000, 0x10000)

/-- The window of CAM (R69). -/
def Win.cam : Win := (0xE01C0000, 0x10000)

/-- The window of the 16 CAN controllers and LIN (R69). -/
def Win.can : Win := (0xE0200000, 0x10000)

/-- The window of ETH (R69). -/
def Win.eth : Win := (0xE0240000, 0x10000)

/-- The window of SAF (R69). -/
def Win.saf : Win := (0xE0260000, 0x10000)

/-- The window of PAIR (R69). -/
def Win.pair : Win := (0xE0270000, 0x10000)

/-- The window of REC (R69). -/
def Win.rec_ : Win := (0xE0280000, 0x10000)

/-- The window of PNL (R69). -/
def Win.pnl : Win := (0xE0290000, 0x10000)

/-- The window of PRM (R69). -/
def Win.prm : Win := (0xE02A0000, 0x10000)

/-- Whether address `a` is that of a SNAP copy (R89). -/
def snapAddr (a : Nat) : Bool :=
  snapPairs.any (fun p => p.1 ≤ a && a < p.1 + p.2.1 * p.2.2.2.2 && (a - p.1) % p.2.1 == 0)

/-- What a command may change (R13): parts of the state, windows of registers, and the SNAP copies. Every command may
also reach what functions share: the signal bus and fabric, the mailbox and sessions, the functions' states, the
recorder, and what leaves the module. -/
structure Foot where
  parts : List Part := []
  wins  : List Win := []
  snaps : Bool := false
deriving DecidableEq, Repr

/-- Whether window `w` holds address `a`. -/
def Win.has (w : Win) (a : Nat) : Bool := decide (w.1 ≤ a) && decide (a < w.1 + w.2)

/-- Whether a command of footprint `F` may write the register at address `a`. -/
def Foot.holds (F : Foot) (a : Nat) : Bool :=
  Win.fab.has a || Win.mbx.has a || Win.rec_.has a || F.wins.any (fun w => w.has a) || (F.snaps && snapAddr a)

/-- A footprint with further parts and windows. -/
def Foot.and (F : Foot) (parts : List Part) (wins : List Win) : Foot :=
  { F with parts := F.parts ++ parts, wins := F.wins ++ wins }

/-- The footprint of a command of the field inputs. -/
def Foot.inputs : Foot := { parts := [.inp], wins := [.din, .ain, .snt] }

/-- The footprint of a command of Actuator Drive. -/
def Foot.adr : Foot := { parts := [.adr], wins := [.adr, .adb] }

/-- The footprint of a command of the load switches. -/
def Foot.psw : Foot := { parts := [.psw], wins := [.psw] }

/-- The footprint of a command of object fusion. -/
def Foot.ast : Foot := { parts := [.ast], wins := [.ast] }

/-- The footprint of a command of the cameras. -/
def Foot.cam : Foot := { parts := [.cam], wins := [.cam] }

/-- The footprint of a command of CAN and LIN. -/
def Foot.can : Foot := { parts := [.can], wins := [.can] }

/-- The footprint of a command of Coelostat. -/
def Foot.cst : Foot := { parts := [.cst], wins := [.cst] }

/-- The footprint of a command of the Ethernet switch. -/
def Foot.eth : Foot := { parts := [.eth, .gptp], wins := [.eth] }

/-- The footprint of a command of the fleet link. -/
def Foot.flt : Foot := { parts := [.flt], wins := [] }

/-- The footprint of a command of the safety island. -/
def Foot.saf : Foot := { parts := [.saf], wins := [.saf] }

/-- The footprint of a command of Meridian. -/
def Foot.mer : Foot := { parts := [.mer], wins := [.mer] }

/-- The footprint of a command of the redundant pair. -/
def Foot.pair : Foot := { parts := [.pair], wins := [.pair] }

/-- The footprint of a command of the panel. -/
def Foot.pnl : Foot := { parts := [.pnl], wins := [.pnl] }

/-- The footprint of a command of Position. -/
def Foot.pos : Foot := { parts := [.pos], wins := [.pos] }

/-- The footprint of a command of the parameter store. -/
def Foot.prm : Foot := { parts := [.prm], wins := [.prm] }

/-- The footprint of what functions share, and nothing else. -/
def Foot.shared : Foot := { parts := [], wins := [] }

/-- The footprint of a command of Transit. -/
def Foot.trn : Foot := { parts := [.trn], wins := [.trn] }

/-- The footprint of a command of the update service. -/
def Foot.upd : Foot := { parts := [.upd], wins := [] }

/-- The footprint of a command of Yield Plate. -/
def Foot.ypl : Foot := { parts := [.ypl], wins := [.ypl] }

/-- The footprint of a command of power, clocks and reset. -/
def Foot.pwr : Foot := { parts := [.pwr], wins := [.pwr, .sys] }

/-- `t` where the footprint allows it, `s` elsewhere. -/
def Foot.merge (F : Foot) (s t : State) : State :=
  let on (p : Part) : Bool := F.parts.contains p
  { s with
    regs := t.regs.filter (fun e => F.holds e.1) ++ s.regs.filter (fun e => !F.holds e.1)
    fab := t.fab, mbx := t.mbx, fns := t.fns, almanac := t.almanac, out := t.out
    shadow := if on .shadow then t.shadow else s.shadow
    pwr := if on .pwr then t.pwr else s.pwr
    inp := if on .inp then t.inp else s.inp
    cst := if on .cst then t.cst else s.cst
    ypl := if on .ypl then t.ypl else s.ypl
    saf := if on .saf then t.saf else s.saf
    adr := if on .adr then t.adr else s.adr
    psw := if on .psw then t.psw else s.psw
    mer := if on .mer then t.mer else s.mer
    trn := if on .trn then t.trn else s.trn
    pos := if on .pos then t.pos else s.pos
    gptp := if on .gptp then t.gptp else s.gptp
    cam := if on .cam then t.cam else s.cam
    vxa := if on .vxa then t.vxa else s.vxa
    ast := if on .ast then t.ast else s.ast
    pair := if on .pair then t.pair else s.pair
    can := if on .can then t.can else s.can
    prm := if on .prm then t.prm else s.prm
    eth := if on .eth then t.eth else s.eth
    pnl := if on .pnl then t.pnl else s.pnl
    flt := if on .flt then t.flt else s.flt
    upd := if on .upd then t.upd else s.upd }

/-- Carries out an instantaneous command of footprint `F`: its effect `f` reaches nothing outside the footprint (R13) and
leaves time and the queue of waiting commands alone. -/
def State.runIn (F : Foot) (f : State → State) (s : State) : Host.Outcome State Fault Refusal :=
  let t := F.merge s (f { s with out := [] })
  .next { t with regs := t.regs.norm }

/-! ### Registers -/

/-- The value in effect of the register at its own address. -/
def State.rd (s : State) (a : Nat) : Word := s.regs.get a

/-- The register at address `a` takes value `v`. -/
def State.wr (s : State) (a : Nat) (v : Word) : State := { s with regs := s.regs.set a v }

/-- A field of a register in effect. -/
def State.fd (s : State) (a hi lo : Nat) : Nat := fld (s.rd a) hi lo

/-- A bit of a register in effect. -/
def State.bt (s : State) (a b : Nat) : Bool := bit (s.rd a) b

/-- A field of a register takes value `v`. -/
def State.wf_ (s : State) (a hi lo v : Nat) : State := s.wr a (setFld (s.rd a) hi lo v)

/-- A bit of a register takes value `v`. -/
def State.wb (s : State) (a b : Nat) (v : Bool) : State := s.wr a (setBit (s.rd a) b v)

/-- A 32-bit counter rises by `n`; it wraps (DESIGN CHOICE, log entry 4). -/
def State.addCnt (s : State) (a n : Nat) : State := s.wr a (s.rd a + word n)

/-- A 32-bit counter rises by one. -/
def State.inc (s : State) (a : Nat) : State := s.addCnt a 1

/-- Sets the bits of `m` in a register. -/
def State.orW (s : State) (a : Nat) (m : Word) : State := s.wr a (s.rd a ||| m)

/-- Clears the bits of `m` in a register. -/
def State.andNotW (s : State) (a : Nat) (m : Word) : State := s.wr a (s.rd a &&& ~~~m)

/-- The 64-bit value of a LO and HI register pair. -/
def State.rd64 (s : State) (lo hi : Nat) : Nat := (s.rd lo).toNat + 4294967296 * (s.rd hi).toNat

/-- Writes a 64-bit value to a LO and HI register pair. -/
def State.wr64 (s : State) (lo hi v : Nat) : State := (s.wr lo (word v)).wr hi (word (v / 4294967296))

/-- Writes a list of values to registers `stride` bytes apart. -/
def State.wrList (s : State) (a stride : Nat) : List Word → State
  | [] => s
  | v :: vs => (s.wr a v).wrList (a + stride) stride vs

/-- The value a read of an RWS register returns: the pending shadow value, else the value in effect (R72). -/
def State.shadowRd (s : State) (a : Nat) : Word :=
  match s.shadow.lookup a with
  | some v => v
  | none => s.rd a

/-- Whether configuration words lie in the fields of their registers: a set bit outside them is a value outside the
ranges of the map (R163, R193, R211, R236, R349, R373; log entry 124). -/
def inMap (es : List (Nat × Word)) : Bool := es.all (fun e => e.2 &&& maskAt e.1 == e.2)

/-- Writes the shadow of an RWS register of group `g`, its fields alone (R8), and sets its pending bit (R27, R88). -/
def State.shadowWr (s : State) (a g : Nat) (v : Word) : State :=
  ({ s with shadow := (a, v &&& maskAt a) :: s.shadow.filter (fun e => e.1 != a) } : State).wb R.FAB_UG_PEND g true

/-- The update group of the register at its own address, 16 for none. -/
def ugAt (a : Nat) : Nat :=
  match rowAt a with
  | some r => r.ug
  | none => 16

/-- All pending shadow values of group `g` take effect together and the pending bit clears (R27, R88). -/
def State.applyShadow (s : State) (g : Nat) : State :=
  let mine := s.shadow.filter (fun e => ugAt e.1 == g)
  let t := mine.foldl (fun (t : State) e => t.wr e.1 e.2) { s with shadow := s.shadow.filter (fun e => ugAt e.1 != g) }
  t.wb R.FAB_UG_PEND g false

/-! ### Time -/

/-- TB units in one millisecond. -/
def tbMs (n : Nat) : Nat := 50000 * n

/-- CLK_FAB periods in one millisecond. -/
def fabMs (n : Nat) : Nat := 200000 * n

/-- Whether TB has reached `t`. -/
def State.tbReached (s : State) (t : Nat) : Bool := t ≤ s.clk.tb

/-- Whether at least `d` TB units have passed since `t`. -/
def State.tbPast (s : State) (t d : Nat) : Bool := t + d ≤ s.clk.tb

/-- The chosen source writes the trim of TB (R441, R442); `ETH_TIME_STATUS`.TRIM shows the trim in use in 0.01 ppm. -/
def State.setTrim (s : State) (ppb : Int) : State :=
  let t := s.wr R.ETH_TRIM (iword ppb)
  t.wf_ R.ETH_TIME_STATUS 31 16 ((iword (divRound (trimPpb t.regs) 10)).toNat % 65536)

/-! ### The signal bus -/

/-- The live value of signal entry `n`. -/
def State.sig (s : State) (n : Nat) : Word := s.rd (R.FAB_SIG n)

/-- The live value of a signal entry as a signed number. -/
def State.sigI (s : State) (n : Nat) : Int := (s.sig n).toInt

/-- Whether signal entry `n` is valid (R21). -/
def State.sigOk (s : State) (n : Nat) : Bool := s.bt (R.FAB_SIG_VALID (n / 32)) (n % 32)

/-- The producer's valid write of signal entry `n` (R17, R21); the write counts for the FRESH record of R203. -/
def State.setSig (s : State) (n : Nat) (v : Word) : State :=
  let t := (s.wr (R.FAB_SIG n) v).wb (R.FAB_SIG_VALID (n / 32)) (n % 32) true
  { t with fab := { t.fab with written := t.fab.written ||| 2 ^ n } }

/-- Signal entry `n` becomes invalid and reads as zero (R21). -/
def State.dropSig (s : State) (n : Nat) : State :=
  (s.wr (R.FAB_SIG n) 0#32).wb (R.FAB_SIG_VALID (n / 32)) (n % 32) false

/-- Signal entries `lo` to `lo + n - 1` become invalid. -/
def State.dropSigs (s : State) (lo n : Nat) : State :=
  (List.range n).foldl (fun (t : State) i => t.dropSig (lo + i)) s

/-- The latched copy of signal entry `n` (R19). -/
def State.lat (s : State) (n : Nat) : Word := s.rd (R.FAB_SIG_LAT n)

/-! ### Functions -/

/-- The function with ID `f` (R10). -/
def State.fn (s : State) (f : Nat) : Fn := s.fns.getD f {}

/-- Changes the function with ID `f`. -/
def State.setFn (s : State) (f : Nat) (g : Fn → Fn) : State := { s with fns := updAt s.fns f g }

/-- Whether function `f` is RUNNING. LINK, SYS, SAF, PAIR, REC, UPD and PRM are so unless FAULTED or in REINIT (R45). -/
def State.isRunning (s : State) (f : Nat) : Bool := (s.fn f).state == .running

/-- Whether function `f` is in EXPERT (R63). -/
def State.expert (s : State) (f : Nat) : Bool := (s.fn f).owner.isSome

/-- The Dome state, `MBX_DOME_STATE` (R114). -/
def State.dome (s : State) : Nat := s.fd R.MBX_DOME_STATE 2 0

/-- Whether the running profile is PLANT (R6). -/
def State.plant (s : State) : Bool := s.bt R.SYS_PROFILE 0

/-- `SYS_PROFILE` as it reads now (R4, R5, R7): the Reset value until INIT has read the profile, then the running profile, and as PENDING
the one that the parameter store holds. -/
def State.sysProfile (s : State) : Word :=
  if 2 ≤ s.dome && s.dome ≤ 5 then setBit (s.rd R.SYS_PROFILE) 8 (s.prm.store.profile % 2 == 1) else s.rd R.SYS_PROFILE

/-- Power state, `PWR_STATE`.STATE (R108). -/
def State.power (s : State) : Nat := s.fd R.PWR_STATE 1 0

/-- Whether field outputs may operate: the module in RUN (R108), Dome in READY, RUN or DEGRADED (R16), and no shed (R101, R550). -/
def State.fieldOn (s : State) : Bool :=
  s.power == 3 && (s.dome == 2 || s.dome == 3 || s.dome == 4) && !s.pwr.shed && !s.pwr.overShed

/-- The pair gate (R455): open where the unit acts, and on a unit that is in no pair (DEDUCED, log entry 9). -/
def State.pairGate (s : State) : Bool := !s.pair.en || s.pair.gate

/-- Whether the unit stands by in a pair, and so holds its functions (R460). -/
def State.pairHeld (s : State) : Bool := s.pair.en && !s.pair.acting

/-! ### Accesses of the register fabric -/

/-- Whether a domain is up (R80, R108): the fabric and what runs on its clocks while the core domains have power and the root PLL runs;
AON as long as it has power. An access needs the fabric. -/
def State.domainUp (s : State) (d : Domain) : Bool := s.pwr.coreOn && s.clk.running && (d != .aon || s.pwr.aonOn)

/-- A guard count (R82). -/
def State.guardErr (s : State) (a cause : Nat) : State :=
  (s.inc R.FAB_GUARD_ERR).wr R.FAB_GUARD_LAST (word (a / 4 * 4 + cause))

/-- The guarded value that an initiator holds pending in a block. -/
def State.guardOf (s : State) (ini : Initiator) (blk : Nat) : Option GuardPend :=
  s.fab.guards.find? (fun g => g.ini == ini && g.block == blk)

/-- Drops the guarded value of an initiator and block. -/
def State.guardDrop (s : State) (ini : Initiator) (blk : Nat) : State :=
  { s with fab := { s.fab with guards := s.fab.guards.filter (fun g => !(g.ini == ini && g.block == blk)) } }

/-- A pending value without its companion is discarded at the 256th cycle, cause 1 (R82). -/
def State.guardExpire (s : State) (ini : Initiator) (blk : Nat) : State :=
  match s.guardOf ini blk with
  | some g => if g.at_ + 256 ≤ s.clk.now then (s.guardDrop ini blk).guardErr g.addr 1 else s
  | none => s

/-- Any other write by the same initiator to the block discards the pending value, cause 3 (R82). -/
def State.guardInterrupt (s : State) (ini : Initiator) (blk : Nat) : State :=
  match s.guardOf ini blk with
  | some g => (s.guardDrop ini blk).guardErr g.addr 3
  | none => s

/-- A write of `ini` reaches the block at `blk`: a value it holds pending there is discarded (R82). -/
def State.reached (s : State) (ini : Initiator) (blk : Nat) : State := (s.guardExpire ini blk).guardInterrupt ini blk

/-- A bus error (R70, R80). -/
def State.busError (s : State) (ini : Initiator) : State :=
  let t := s.inc R.FAB_DECODE_ERR
  match ini with
  | .host => { t with fab := { t.fab with hostBus := .error } }
  | .dome => { t with fab := { t.fab with domeBus := .error } }

/-- A completed write. -/
def State.busDone (s : State) (ini : Initiator) : State :=
  match ini with
  | .host => { s with fab := { s.fab with hostBus := .done } }
  | .dome => { s with fab := { s.fab with domeBus := .done } }

/-- The data a read gives its initiator. -/
def State.busData (s : State) (ini : Initiator) (w : Word) : State :=
  match ini with
  | .host => { s with fab := { s.fab with hostBus := .data w } }
  | .dome => { s with fab := { s.fab with domeBus := .data w } }

/-- A direct write by `ini` of a register of function `f` in window `w` of domain `d`, whose effect is `g` (R80, R82, R91): a host write in
BASIC is discarded and counted (R65). -/
def State.owned (s : State) (ini : Initiator) (f : Nat) (w : Win) (d : Domain) (g : State → State) : State :=
  if !s.domainUp d then s.busError ini
  else
    let t := s.reached ini w.1
    (if ini = .host && !t.expert f then t.inc R.MBX_OWN_ERR else g t).busDone ini

/-- A direct read by `ini` of a register of domain `d`: its value, and what the read does besides. -/
def State.fetched (s : State) (ini : Initiator) (d : Domain) (v : Word) (g : State → State) : State :=
  if !s.domainUp d then s.busError ini else g (s.busData ini v)

/-! ### Events -/

/-- The module's own events (R561). `other` events are those no table names. -/
inductive Ev where
  | supplyDip | holdupRecovered | holdupBor | overVoltage | temperature | startInfo | startFault | clockLoss
  | domeFault | domeChange | fnFaulted | returnBasic | authFail | pswTrip | pswBudget | pswLatch | adrLatched
  | panelCrack | massBalance | timeDiff | pairActing | pairStuck | pairNoCopy | pairBlind | prmDiscarded | safety (n : Nat)
  | other (n : Nat)
deriving DecidableEq, Repr

/-- The number by which Config names an event kind. -/
def Ev.num : Ev → Nat
  | .supplyDip => 0 | .holdupRecovered => 1 | .holdupBor => 2 | .overVoltage => 3 | .temperature => 4
  | .startInfo => 5 | .startFault => 6 | .clockLoss => 7 | .domeFault => 8 | .domeChange => 9 | .fnFaulted => 10
  | .returnBasic => 11 | .authFail => 12 | .pswTrip => 13 | .pswBudget => 14 | .pswLatch => 15 | .adrLatched => 16
  | .panelCrack => 17 | .massBalance => 18 | .timeDiff => 19 | .pairActing => 20 | .pairStuck => 21
  | .pairNoCopy => 22 | .prmDiscarded => 23 | .pairBlind => 24 | .safety n => 1000 + n | .other n => 100000 + n

/-- The severity of an event (R561): 0 INFO, 1 WARN, 2 FAULT, 3 SAFETY. -/
def Ev.sev : Ev → Nat
  | .supplyDip | .holdupRecovered | .overVoltage | .temperature | .authFail | .pswTrip | .pswBudget | .massBalance
  | .timeDiff | .prmDiscarded => 1
  | .holdupBor | .startFault | .clockLoss | .domeFault | .fnFaulted | .pswLatch | .adrLatched | .panelCrack
  | .pairStuck | .pairNoCopy | .pairBlind => 2
  | .startInfo | .domeChange | .returnBasic | .pairActing => 0
  | .safety _ => 3
  | .other n => (Config.eventSeverityRaw (100000 + n)).toNat % 4

/-- The vendor's event code of an event: any 16-bit code but 0x0000, which is never used (R481, R561). -/
def Ev.code (e : Ev) : Nat := (Config.eventCodeRaw e.num).toNat % 65535 + 1

/-- The loss counter of a severity (R487). -/
def lossReg (sev : Nat) : Nat :=
  match sev with
  | 0 => R.REC_LOST_INFO
  | 1 => R.REC_LOST_WARN
  | 2 => R.REC_LOST_FAULT
  | _ => R.REC_LOST_SAFETY

/-! ### Sessions, rings and notifications -/

/-- Session `k`. -/
def State.ses (s : State) (k : Nat) : Session := s.mbx.sessions.getD k {}

/-- Changes session `k`. -/
def State.setSes (s : State) (k : Nat) (g : Session → Session) : State :=
  { s with mbx := { s.mbx with sessions := updAt s.mbx.sessions k g } }

/-- Number of slots of ring `n`, from `MBX_Q_CFG`. -/
def State.ringSize (s : State) (n : Nat) : Nat := 2 ^ s.fd (R.MBX_Q_CFG n) 3 0

/-- Slots in use in ring `n`: (producer - consumer) mod 2^32 (R35, R36). -/
def State.ringUsed (s : State) (n : Nat) : Nat := (s.rd (R.MBX_Q_PROD n) - s.rd (R.MBX_Q_CONS n)).toNat

/-- Whether ring `n` is enabled and has a free slot. -/
def State.ringRoom (s : State) (n : Nat) : Bool := s.bt (R.MBX_Q_CFG n) 15 && s.ringUsed n < s.ringSize n

/-- The mailbox interrupt for a pending bit just set (R37): raised at once, or held until the hold-off ends. -/
def State.raiseIrq (s : State) : State :=
  let us := s.fd R.MBX_IRQ_HOLDOFF 15 0
  if us = 0 then { s with out := s.out ++ [.irq], mbx := { s.mbx with irqRaised := s.mbx.irqRaised + 1 } }
  else
    match s.mbx.irqSince with
    | some _ => { s with mbx := { s.mbx with irqHeld := true } }
    | none => { s with out := s.out ++ [.irq],
                       mbx := { s.mbx with irqRaised := s.mbx.irqRaised + 1, irqSince := some s.clk.tb } }

/-- The module advances the producer index of ring `n` by one and signals it (R35, R37). -/
def State.advanceProd (s : State) (n : Nat) : State :=
  let t := (s.inc (R.MBX_Q_PROD n)).wb (R.MBX_IRQ_PEND (n / 32)) (n % 32) true
  if t.bt (R.MBX_IRQ_EN (n / 32)) (n % 32) then t.raiseIrq else t

/-- Words 0 to 2 of a slot's header (R41), for a length field of `len`. -/
def Slot.head (x : Slot) (len : Nat) : List Byte :=
  leBytes 2 x.opcode ++ [byte x.flags, byte x.session] ++ leBytes 2 x.seq ++ leBytes 2 len ++ leBytes 2 x.status ++ leBytes 2 0

/-- A header and what its CRC covers of the payload, with the CRC in word 3 (R41, R55). -/
def Slot.sealed (x : Slot) (inline : List Byte) : List Byte :=
  let h := x.head inline.length
  h ++ wBytes (crc32c (h ++ leBytes 4 0 ++ inline)) ++ inline

/-- Whether a slot's payload lies in the session window (R43). -/
def Slot.ext (x : Slot) : Bool := nbit x.flags 0

/-- The descriptor of an extended payload at an offset of the window (R43). -/
def extDescriptor (off : Nat) (p : List Byte) : List Byte :=
  leBytes 4 off ++ leBytes 4 p.length ++ wBytes (crc32c p) ++ leBytes 4 0

/-- The 64 bytes of a slot in a ring (R41, R43); `off` is the place of an extended payload. -/
def Slot.bytes (x : Slot) (off : Nat) : List Byte :=
  padTo 64 (x.sealed (if x.ext then extDescriptor off x.payload else x.payload))

/-- The datagram that carries a slot (R55): the header and the whole payload. -/
def Slot.datagram (x : Slot) : List Byte := x.sealed x.payload

/-- The lowest 64-byte aligned offset in the module-to-host half of session `k`'s window where `len` bytes lie apart from every payload
that still stands there (R44; which offset is taken is DESIGN CHOICE, log entry 116). -/
def State.extPlace (s : State) (k len : Nat) : Option Nat :=
  let mine := s.mbx.windows.filter (fun w => w.session == k)
  ((List.range 1024).map (fun i => 65536 + 64 * i)).find? (fun o =>
    decide (o + len ≤ 131072) && mine.all (fun w => decide (o + len ≤ w.offset) || decide (w.offset + w.data.length ≤ o)))

/-- The module writes 64 bytes into ring `n` and then advances the producer index (R35). -/
def State.publishBytes (s : State) (n : Nat) (b : List Byte) : State :=
  let i := (s.rd (R.MBX_Q_PROD n)).toNat
  ({ s with mbx := { s.mbx with slots := s.mbx.slots ++
    [{ ring := n, index := i, place := i % s.ringSize n, bytes := b, sentAt := s.clk.tb }] } } : State).advanceProd n

/-- The module writes a slot into ring `n` (R35), its extended payload into the window of the slot's session first (R44). -/
def State.publish (s : State) (n : Nat) (x : Slot) : State :=
  let off := (s.extPlace x.session x.payload.length).getD 65536
  let w : ExtPayload := { session := x.session, index := (s.rd (R.MBX_Q_PROD n)).toNat, offset := off, data := x.payload }
  let t := if x.ext then { s with mbx := { s.mbx with windows := s.mbx.windows ++ [w] } } else s
  t.publishBytes n (x.bytes off)

/-- Whether response ring Q(16+q) can take a slot now: a free slot, and room in the window for an extended payload (R36, R44). -/
def State.respRoom (s : State) (q : Nat) (x : Slot) : Bool :=
  s.ringRoom (16 + q) && (!x.ext || (s.extPlace x.session x.payload.length).isSome)

/-- A notification slot (R53): COUNT in bytes 0 to 1, content from byte 4. -/
def notifSlot (k cls count : Nat) (content : List Byte) : Slot :=
  { opcode := cls, flags := 4, session := k, seq := 0, status := 0,
    payload := leBytes 2 count ++ leBytes 2 0 ++ content }

/-- Whether session `k` can take a notification slot now: room in its ring, or a UDP session. -/
def State.notifRoom (s : State) (k : Nat) : Bool :=
  (s.ses k).udp.isSome || s.ringRoom (32 + k)

/-- Sends a slot to session `k` on ring `n`, or as a datagram to its UDP source (R56). -/
def State.sendSlot (s : State) (k n : Nat) (x : Slot) : State :=
  match (s.ses k).udp with
  | some (ip, port) => { s with out := s.out ++ [.datagram ip port x.datagram] }
  | none => s.publish n x

/-- One notification of class `cls` for session `k` (R53, R54): sent when the class's 10 ms hold-off has passed and
there is room, else merged into the pending one; a 257th class is lost. -/
def State.notifySes (s : State) (k cls : Nat) (content : List Byte) : State :=
  let x := s.ses k
  let held := match x.holds.lookup cls with
    | some t => decide (s.clk.tb < t + tbMs 10)
    | none => false
  match x.pend.find? (fun p => p.cls == cls) with
  | some _ => s.setSes k (fun x => { x with pend := x.pend.map (fun p =>
      if p.cls = cls then { p with count := min 65535 (p.count + 1), content := content } else p) })
  | none =>
    if !held && s.notifRoom k then
      (s.sendSlot k (32 + k) (notifSlot k cls 1 content)).setSes k (fun x =>
        { x with holds := (cls, s.clk.tb) :: x.holds.filter (fun h => h.1 != cls) })
    else if x.pend.length < 256 then
      s.setSes k (fun x => { x with pend := x.pend ++ [{ cls := cls, count := 1, content := content }] })
    else s.inc R.MBX_NOTIF_LOST

/-- Posts a notification to every open session whose mask has the function's bit (R53). The class is the opcode:
function ID and notification code. -/
def State.notify (s : State) (f code : Nat) (content : List Byte) : State :=
  (List.range 16).foldl (fun (t : State) k =>
    let x := t.ses k
    if x.isOpen && bit x.mask f then t.notifySes k (256 * f + code) content else t) s

/-- A recorder loss of one severity: its counter, the LOSS flag of the next record and notification REC_LOSS (R487). -/
def State.recLoss (s : State) (sev : Nat) : State :=
  let t := (s.inc (lossReg sev))
  let t := if t.mbx.sessions.any (fun x => x.freezeAt.isSome) then t.inc R.REC_FRZ_OVF else t
  ({ t with almanac := { t.almanac with lossFlag := true } } : State).notify 0x13 0x81
    (leBytes 4 sev ++ wBytes (t.rd (lossReg sev)))

/-- Counts of the AON domain's 32,768 Hz in `d` CLK_FAB periods: of its crystal, or of its internal oscillator (R107). -/
def State.aonTicks (s : State) (d : Nat) : Nat :=
  if s.pwr.xtalBad then d * 32768 * (970 + Config.rcPermille % 61) / 200000000000 else d * 32768 / 200000000

/-- The time an event carries (R481): TB, or counts of 1/32,768 s since key-off in SENTRY and OFF. -/
def State.evTime (s : State) : Nat :=
  if s.power < 2 then s.aonTicks (s.clk.now - s.pwr.keyOffAt) else s.clk.tb

/-- Puts an event into the recorder's input FIFO (R30, R482); a full FIFO loses it. A FAULT or SAFETY event raises
its function's count of fault records (R45). -/
def State.postRaw (s : State) (code src sev : Nat) (words : List Word) : State :=
  let s := if 2 ≤ sev && src < 24 then
      s.setFn src (fun f => { f with faults := min 0xFFFFFFFF (f.faults + 1) }) else s
  if s.almanac.fifo.length < 64 then
    { s with almanac := { s.almanac with fifo := s.almanac.fifo ++
      [{ code := code, src := src, sev := sev, words := words, tb := s.evTime, op := (s.rd R.SYS_OP_SECONDS).toNat,
         cyc := (s.rd R.SYS_PWR_CYCLES).toNat, aon := s.power < 2 }] } }
  else s.recLoss sev

/-- Function `f` posts event `e` (R10, R30, R561). -/
def State.post (s : State) (f : Nat) (e : Ev) : State := s.postRaw e.code f e.sev []

/-! ### The parameter store -/

/-- One committed transaction of the parameter store (R518, R519). Below 16 KiB free a compaction starts. A record that fails its
read-back, which the flash decides, is counted and notified (R526). -/
def State.prmTxn (s : State) (g : PrmStore → PrmStore) : State :=
  let p := s.prm
  let free := Config.prmFree (p.txns + 1) % 513
  let full := decide (free < 16) && p.compactAt.isNone
  let t := { s with prm := { p with store := g p.store, before := some p.store, txns := p.txns + 1, txnAt := s.clk.now,
                                    free := free, compactAt := if full then some s.clk.now else p.compactAt } }
  let t := ((t.inc R.PRM_WRITES).wf_ R.PRM_STATUS 31 16 free).wb R.PRM_STATUS 1 (t.prm.compactAt.isSome || t.prm.importing)
  if Config.prmReadBackFails (p.txns + 1) then (t.inc R.PRM_ERRS).notify 0x16 0x80 [2#8] else t

/-- The store keeps the applied configuration of function `f` (R517). -/
def PrmStore.setConfig (x : PrmStore) (f : Nat) (p : List Byte) : PrmStore :=
  { x with configs := (f, p) :: x.configs.filter (fun e => e.1 != f) }

/-- The store keeps an item of a function, `key` being 256 × function + item (R517). -/
def PrmStore.setItem (x : PrmStore) (key : Nat) (p : List Byte) : PrmStore :=
  { x with items := (key, p) :: x.items.filter (fun e => e.1 != key) }

/-- A command stores an item as applied configuration (R517). -/
def State.prmItem (s : State) (key : Nat) (p : List Byte) : State := s.prmTxn (fun x => x.setItem key p)

/-- A payload with the bytes from offset `o` replaced. -/
def patchBytes (o : Nat) (v p : List Byte) : List Byte :=
  if o + v.length ≤ p.length then p.take o ++ v ++ p.drop (o + v.length) else p

/-- The Reset values of registers, as the words of a payload. -/
def resetWords (l : List Nat) : List Byte := l.flatMap (fun a => wBytes (regReset a))

/-- Replaces bytes of the applied configuration of function `f` from offset `o`: what a command stores as applied
configuration (R517). `none_` is the payload of Reset values that stands where none has been applied (R45); the function's state does not
change by it (DEDUCED, log entry 121). -/
def State.patchApplied (s : State) (f o : Nat) (v none_ : List Byte) : State :=
  let old := (s.fn f).applied.getD []
  let p := patchBytes o v (if old.isEmpty then none_ else old)
  (s.setFn f (fun x => { x with applied := some p })).prmTxn (fun x => x.setConfig f p)

/-! ### Mailbox answers -/

/-- Status codes of chapter 02. -/
def stOK : Nat := 0
def stBUSY : Nat := 1
def stBAD_OPCODE : Nat := 2
def stBAD_LENGTH : Nat := 3
def stBAD_PARAM : Nat := 4
def stNOT_PERMITTED : Nat := 5
def stWRONG_STATE : Nat := 6
def stEXPERT_OWNED : Nat := 7
def stINTERNAL_TIMEOUT : Nat := 8
def stSAFETY_BLOCKED : Nat := 9
def stNO_SESSION : Nat := 10
def stAUTH_FAIL : Nat := 11
def stNO_RESOURCE : Nat := 12
def stCRC_ERROR : Nat := 13
def stUPDATE_IN_PROGRESS : Nat := 14
def stFAULTED : Nat := 15

/-- What a command's body answers: a status and payload now, or later (class C and deferred answers); or the body has answered. -/
inductive Reply where
  | now (status : Nat) (payload : List Byte)
  | later
  | done
deriving DecidableEq, Repr

/-- The response slot of a command (R41, R44): RESP, and EXT where the payload exceeds the inline area of a ring slot. -/
def respSlot (c : Cmd) (k op status : Nat) (payload : List Byte) : Slot :=
  let ext := match c.origin with
    | .ring _ => decide (48 < payload.length)
    | .udp _ _ => false
  { opcode := op, flags := 2 + b2n ext, session := k, seq := c.seq, status := status, payload := payload }

/-- Sends a response: on ring Q(16+s) of the command ring it came by, once it has room, or as a datagram (R36, R56). -/
def State.sendResp (s : State) (c : Cmd) (x : Slot) : State :=
  match c.origin with
  | .udp ip port => { s with out := s.out ++ [.datagram ip port x.datagram] }
  | .ring q =>
    if (s.ses q).respWait.isEmpty && s.respRoom q x then s.publish (16 + q) x
    else if s.bt (R.MBX_Q_CFG (16 + q)) 15 then s.setSes q (fun y => { y with respWait := y.respWait ++ [x] })
    else s

/-- Keeps a command of session `k` among its last 32 (R52), in the place of an entry of the same sequence. -/
def State.keep (s : State) (k : Nat) (c : Cmd) (r : Option Slot) : State :=
  s.setSes k (fun y =>
    let l := y.kept.filter (fun e => e.seq != c.seq) ++ [{ seq := c.seq, crc := c.crc, resp := r }]
    { y with kept := l.drop (l.length - 32) })

/-- Answers a command of session `k` and keeps the response for repeats (R52). -/
def State.answer (s : State) (k op : Nat) (c : Cmd) (status : Nat) (payload : List Byte) : State :=
  let x := respSlot c k op status payload
  (s.sendResp c x).keep k c (some x)

/-- Whether an entry of Dome's inbox is the command `c` of opcode `op`. -/
def InboxCmd.is (e : InboxCmd) (op : Nat) (c : Cmd) : Bool := e.opcode == op && e.cmd == c

/-- Takes a command out of Dome's inbox. -/
def State.takeInbox (s : State) (op : Nat) (c : Cmd) : State :=
  { s with mbx := { s.mbx with inbox := s.mbx.inbox.eraseP (fun e => e.is op c) } }

/-- The TB at which a command reached Dome. -/
def State.arrivedAt (s : State) (op : Nat) (c : Cmd) : Nat :=
  match s.mbx.inbox.find? (fun e => e.is op c) with
  | some e => e.at_
  | none => s.clk.tb

/-- Whether a command may start (R50): no command of its own ring or source and none to its function waits ahead of it, and, except
for GET_INFO and GET_STATUS, no SET_EXPERT or REINIT of its function that another session sent is still to be answered; a REINIT
and a SET_EXPERT wait for their own session's as well (DEDUCED, log entry 117). -/
def State.turn (s : State) (op : Nat) (c : Cmd) : Bool :=
  let x := s.fn (op / 256)
  let open_ := (x.reply.map (fun r => r.2.2)).toList ++ (x.transfer.map (fun t => t.2)).toList
  (s.mbx.inbox.takeWhile (fun e => !e.is op c)).all (fun e => e.cmd.origin != c.origin && e.opcode / 256 != op / 256) &&
    (op % 256 < 2 || open_.all (fun d => d.origin == c.origin && !(op % 256 == 0x0E || op % 256 == 0x0F)))

/-- The session a command belongs to: the ring's own (R42), or the session its UDP source opened (R56). -/
def State.sessionOf (s : State) (c : Cmd) : Option Nat :=
  match c.origin with
  | .ring q => if q < 16 then some q else none
  | .udp ip port =>
    if c.session < 16 && (s.ses c.session).udp = some (ip, port) then some c.session else none

/-- Whether a class C command of function `f` runs (R51). -/
def State.busy (s : State) (f : Nat) : Bool := s.mbx.running.any (fun r => r.fn == f)

/-- Functions that answer START and STOP with NOT_PERMITTED and report RUNNING (R45). -/
def serviceFn (f : Nat) : Bool :=
  f == 0 || f == 1 || f == 0x10 || f == 0x11 || f == 0x13 || f == 0x15 || f == 0x16

/-- The commands that a unit standing by in a pair answers WRONG_STATE (R460), as function and command byte. -/
def pairBarred (f b : Nat) : Bool :=
  (f == 2 && (b == 0x10 || b == 0x12)) || (f == 3 && (b == 0x10 || b == 0x11 || b == 0x12)) || (f == 4 && b == 0x10) ||
  (f == 8 && (b == 0x10 || b == 0x11 || b == 0x12)) || (f == 14 && b == 0x14)

/-- The commands the Beryl loader answers in RECOVERY (R512), as function and command byte. -/
def loaderCmd (f b : Nat) : Bool :=
  (f == 0 && (b == 0x00 || b == 0x10 || b == 0x11 || b == 0x12 || b == 0x13)) ||
  (f == 1 && (b == 0x00 || b == 0x01 || b == 0x10 || b == 0x11)) || f == 0x15

/-- The common bars a command passes before its own checks, in the order log entry 7 gives; none bars it. `b` is the
command byte. A reserved function ID is refused first (R11). -/
def State.bar (s : State) (f b role k : Nat) : Option Nat :=
  let x := s.fn f
  let status := b == 0x00 || b == 0x01
  if 0x18 ≤ f then some stBAD_OPCODE
  else if s.dome == 5 && !(f == 0 || f == 0x15 || status) then some stUPDATE_IN_PROGRESS
  else if s.dome == 6 && !loaderCmd f b then some stWRONG_STATE
  else if (s.ses k).role < role then some stNOT_PERMITTED
  else if x.state == .unused && !status then some stWRONG_STATE
  else if s.pairHeld && pairBarred f b then some stWRONG_STATE
  else if x.owner.isSome && !status
      && !((b == 0x0F || b == 0x0E) && x.owner == some k) && !(b == 0x0E && 2 ≤ (s.ses k).role) then
    some stEXPERT_OWNED
  else if s.busy f && !status then some stBUSY
  else if s.dome == 4 && x.state == .faulted && !status && b != 0x0E then some stFAULTED
  else none

/-- A command whose sequence matches a kept entry (R52): the kept response again, BUSY while it executes, or BAD_PARAM where
the header CRC differs. -/
def State.repeated (s : State) (k op : Nat) (c : Cmd) (e : Kept) : State :=
  let s := s.setSes k (fun y => { y with lastCmd := s.clk.tb })
  if e.crc != c.crc then s.sendResp c (respSlot c k op stBAD_PARAM [])
  else
    let s := s.inc R.MBX_REPEAT
    match e.resp with
    | some r => s.sendResp c { r with flags := r.flags ||| 16 }
    | none =>
      let r := respSlot c k op stBUSY []
      s.sendResp c { r with flags := r.flags ||| 16 }

/-- A command of session `k` is taken from Dome's inbox and counts as the session's latest activity (R56, R62). -/
def State.enter (s : State) (f op k : Nat) (c : Cmd) : State :=
  let t := (s.takeInbox op c).setSes k (fun y => { y with lastCmd := s.clk.tb })
  if f = 0x15 then { t with upd := { t.upd with lastCmd := t.clk.tb } } else t

/-- What a command's body gives becomes its response (R36, R52): sent now, kept as executing, or already sent. -/
def State.respond (k op : Nat) (c : Cmd) : Reply × State → State
  | (.now st p, t) => t.answer k op c st p
  | (.later, t) => t.keep k c none
  | (.done, t) => t

/-- Carries out a mailbox command of function `f`, command byte `b`, minimum role `role`: no service in BOOT and INIT
(R48), sessions (R56, R59), repeats (R52), the common bars, then its body. -/
def State.command (s : State) (f b role : Nat) (c : Cmd) (body : Nat → State → Reply × State) : State :=
  let op := 256 * f + b
  if 2 ≤ s.dome && !s.turn op c then s
  else if s.dome < 2 then
    match c.origin with
    | .ring _ => s
    | .udp _ _ => s.takeInbox op c
  else
    let t := s.takeInbox op c
    match s.sessionOf c with
    | none => t.sendResp c (respSlot c c.session op stNO_SESSION [])
    | some k =>
      match (s.ses k).kept.find? (fun e => e.seq == c.seq) with
      | some e => t.repeated k op c e
      | none =>
        if !(s.ses k).isOpen then t.sendResp c (respSlot c k op stNO_SESSION [])
        else
          match s.bar f b role k with
          | some st => (s.enter f op k c).answer k op c st []
          | none => State.respond k op c (body k (s.enter f op k c))

/-- A body that answers a status without changing anything. -/
def refuse (st : Nat) (s : State) : Reply × State := (.now st [], s)

/-- A body that answers OK with a payload. -/
def okWith (p : List Byte) (s : State) : Reply × State := (.now stOK p, s)

/-- Starts a class C operation whose end (CLASS_C_COMMAND_DONE) answers `st` and `p` (R49, R51). -/
def State.classC (s : State) (f op : Nat) (c : Cmd) (st : Nat) (p : List Byte) : Reply × State :=
  (.later, { s with mbx := { s.mbx with running := s.mbx.running ++
    [{ fn := f, opcode := op, cmd := c, since := s.clk.tb, progress := s.clk.tb, status := st, payload := p }] } })

/-! ### Data rings -/

/-- The lowest free data ring, Q48 to Q127. -/
def State.freeRing (s : State) : Option Nat :=
  ((List.range 80).map (fun i => 48 + i)).find? (fun n => !s.mbx.rings.any (fun r => r.ring == n))

/-- The open data ring `n`. -/
def State.ring? (s : State) (n : Nat) : Option DataRing := s.mbx.rings.find? (fun r => r.ring == n)

/-- Changes the open data ring `n`. -/
def State.setRing (s : State) (n : Nat) (g : DataRing → DataRing) : State :=
  { s with mbx := { s.mbx with rings := s.mbx.rings.map (fun r => if r.ring = n then g r else r) } }

/-- A datagram of data-ring slots (R57): the ring's number, the index of the first slot, and 1 to 16 slots of 64 bytes. -/
def dataGram (n first : Nat) (slots : List (List Byte)) : List Byte := [byte n, 0#8, 0#8, 0#8] ++ leBytes 4 first ++ slots.flatten

/-- Writes waiting records of ring `n` while it has room (R35, R57). -/
def State.pump (s : State) (n : Nat) : Nat → State
  | 0 => s
  | fuel + 1 =>
    match s.ring? n with
    | none => s
    | some r =>
      match r.waiting with
      | [] => s
      | p :: rest =>
        if s.ringRoom n then
          let i := (s.rd (R.MBX_Q_PROD n)).toNat
          let t := s.setRing n (fun r => { r with waiting := rest, sent := r.sent + 1 })
          let t := match (t.ses r.session).udp with
            | some (ip, port) => { t with out := t.out ++ [OutMsg.datagram ip port (dataGram n i [padTo 64 p])] }
            | none => t
          (t.publishBytes n (padTo 64 p)).pump n fuel
        else s

/-- Bytes of shared SRAM that a ring of 2^n slots takes, in whole 4 KiB units (R38). -/
def ringBytes (log2 : Nat) : Nat := (64 * 2 ^ log2 + 4095) / 4096 * 4096

/-- Whether shared SRAM (8 MiB, of which the session windows take 2 MiB) holds further rings of these sizes (R61; DEDUCED). -/
def State.sramFits (s : State) (more : List Nat) : Bool :=
  let used := (List.range 128).foldl (fun a n =>
    let w := s.rd (R.MBX_Q_CFG n)
    if bit w 15 then a + ringBytes (fld w 3 0) else a) 0
  decide (used + more.foldl (fun a k => a + ringBytes k) 0 ≤ 6291456)

/-- A transfer of Yield Plate whose last slot has been written ends with YPL_STREAM_DONE (R194). -/
def State.transferNote (s : State) (n : Nat) : State :=
  match s.ring? n with
  | some r =>
    if r.fn = 9 && r.transfer && r.ended && r.waiting.isEmpty && !r.told then
      (s.setRing n (fun r => { r with told := true })).notify 9 0x84 [byte n, 0#8]
    else s
  | none => s

/-- Opens a data ring for function `f` (R560): BAD_PARAM outside 4 to 10, NO_RESOURCE without a free ring, else the
ring, configured and enabled. -/
def State.openRing (s : State) (k f kind param log2 : Nat) (transfer : Bool) (recs : List (List Byte)) :
    Except Nat (Nat × State) :=
  if log2 < 4 || 10 < log2 then .error stBAD_PARAM
  else
    match s.freeRing with
    | none => .error stNO_RESOURCE
    | some n =>
      if !s.sramFits [log2] then .error stNO_RESOURCE else
      let s := s.wr (R.MBX_Q_BASE n) (word (4096 * (Config.ringPlace n log2).toNat))
      let t := ((s.wr (R.MBX_Q_CFG n) (word (log2 + 256 * k + 4096 + 32768))).wr (R.MBX_Q_PROD n) 0#32).wr
        (R.MBX_Q_CONS n) 0#32
      let r : DataRing := { ring := n, fn := f, kind := kind, param := param, session := k, log2 := log2,
                            transfer := transfer, ended := transfer, waiting := recs, sent := 0, skipped := 0,
                            lost := 0 }
      let t := { t with mbx := { t.mbx with rings := t.mbx.rings ++ [r] } }
      .ok (n, (t.pump n (2 ^ log2)).transferNote n)

/-- Closes data ring `n`: its configuration clears and its slots are released (R560). A transfer of Yield Plate that had not ended is
reported as aborted (R194). -/
def State.closeRing (s : State) (n : Nat) : State :=
  let s := match s.ring? n with
    | some r => if r.fn = 9 && r.transfer && !r.told then s.notify 9 0x84 [byte n, 1#8] else s
    | none => s
  { (s.wr (R.MBX_Q_CFG n) 0#32).wr (R.MBX_Q_BASE n) 0#32 with
    mbx := { s.mbx with rings := s.mbx.rings.filter (fun r => r.ring != n),
                        slots := s.mbx.slots.filter (fun x => x.ring != n) } }

/-- Appends a record to an open stream ring, or drops it where the ring is full; answers whether it was taken. -/
def State.stream (s : State) (n : Nat) (p : List Byte) : Bool × State :=
  match s.ring? n with
  | none => (false, s)
  | some r =>
    if r.waiting.isEmpty && s.ringRoom n then
      (true, ((s.setRing n (fun r => { r with waiting := [p] })).pump n 1))
    else (false, s.setRing n (fun r => { r with lost := r.lost + 1 }))

/-- Offers a record to every open ring of function `f` whose kind is `kind` and whose parameter satisfies `want`; `mk`
forms it from the ring's sequence number, which counts every record offered. Answers how many rings dropped it. -/
def State.offer (s : State) (f kind : Nat) (want : Nat → Bool) (mk : Nat → List Byte) : Nat × State :=
  (s.mbx.rings.filter (fun r => r.fn == f && r.kind == kind && want r.param)).foldl
    (fun (a : Nat × State) r =>
      let x := a.2.stream r.ring (mk (r.sent + r.lost))
      (a.1 + (if x.1 then 0 else 1), x.2)) (0, s)

/-- Answers the ring number of a newly opened ring. -/
def ringReply (s : State) : Except Nat (Nat × State) → Reply × State
  | .error e => (.now e [], s)
  | .ok (n, t) => (.now stOK [byte n], t)

/-- The slots of one export file (R194): 48 bytes to a slot. -/
def fileSlots (num : Nat) (lastFile : Bool) : Nat → Nat → List Byte → List (List Byte)
  | 0, _, _ => []
  | n + 1, off, d =>
    let a := d.take 48
    let last := decide (d.length ≤ 48)
    (leBytes 4 num ++ leBytes 4 off ++ leBytes 2 a.length ++ [byte (b2n last + 2 * b2n (last && lastFile))] ++
      leBytes 5 0 ++ padTo 48 a) :: (if last then [] else fileSlots num lastFile n (off + 48) (d.drop 48))

/-- The slots of all files of an export: a file without bytes has none (R194: a length of 1 to 48), and the last one that
has some carries last of export. -/
def exportSlots (fs : List (List Byte)) : List (List Byte) :=
  let l := (fs.zip (List.range fs.length)).filter (fun e => !e.1.isEmpty)
  let top := (l.map (fun e => e.2)).foldl max 0
  l.flatMap (fun e => fileSlots e.2 (e.2 == top) (e.1.length / 48 + 1) 0 e.1)

end Sys2Proof.Machine
end

