-- ==== Sys2Proof/Machine/ActuatorDrive.lean ====
section
/-!
DEFINITION. The actuator drive (chapters 09, 10): channels, events, current regulation, temperature, diagnostics, shared
banks, armature motion, the boost rail and its commands.
-/
namespace Sys2Proof.Machine

/-- Function ID of the actuator drive. -/
def fADR : Nat := 3

/-- Changes the state of the actuator drive. -/
def State.setAdr (s : State) (f : Adr → Adr) : State := { s with adr := f s.adr }

/-- Channel `n`. -/
def State.ch (s : State) (n : Nat) : AdrCh := s.adr.chs.getD n {}

/-- Changes channel `n`. -/
def State.setCh (s : State) (n : Nat) (f : AdrCh → AdrCh) : State :=
  s.setAdr (fun a => { a with chs := updAt a.chs n f })

/-- Changes the running event of channel `n`. -/
def State.setRun (s : State) (n : Nat) (f : AdrRun → AdrRun) : State := s.setCh n (fun c => { c with run := f c.run })

/-- Bank `k`. -/
def State.bank (s : State) (k : Nat) : AdrBank := s.adr.banks.getD k {}

/-- Changes bank `k`. -/
def State.setBank (s : State) (k : Nat) (f : AdrBank → AdrBank) : State :=
  s.setAdr (fun a => { a with banks := updAt a.banks k f })

/-- TB in 10 ns units. -/
def State.tb2 (s : State) : Nat := 2 * s.clk.tb + s.clk.tbFrac / 4000000000

/-- Whether the tick is in its first 30 µs (R212, R237), in cycles of CLK_CTL. -/
def State.tickEarly (s : State) : Bool := s.clk.phase < 12000

/-! ### Configuration in force -/

/-- Mode of channel `n` (R224): 0 TIMED EVENT, 1 PROPORTIONAL, 2 ON/OFF. -/
def State.adrMode (s : State) (n : Nat) : Nat := s.fd (R.ADR_CH_CFG n) 2 1

/-- Whether channel `n` is enabled. -/
def State.adrEn (s : State) (n : Nat) : Bool := s.bt (R.ADR_CH_CFG n) 0

/-- Profile selected for channel `n`. -/
def State.adrProf (s : State) (n : Nat) : Nat := s.fd (R.ADR_CH_CFG n) 4 3

/-- OPEN_TH of channel `n`, 20 to 500 mA (R233). -/
def State.adrOpenTh (s : State) (n : Nat) : Nat := clampN 20 500 (s.fd (R.ADR_CH_TSIG n) 31 16)

/-- A motion setting word of channel `n`. -/
def State.adrMot (s : State) (n : Nat) : Word := s.rd (R.ADR_MOT_CFG n)

/-- DMIN, at least 1. -/
def State.adrDmin (s : State) (n : Nat) : Nat := max 1 (fld (s.adrMot n) 13 10)

/-- Whether override line `i` is present (R31). -/
def State.line (s : State) (i : Nat) : Bool := nbit s.saf.lines i

/-- The effective enable of bank `k` (R253), behind the pair gate (R455). -/
def State.bankEff (s : State) (k : Nat) : Bool := s.bt (R.ADR_BANK_EN k) 0 && s.line k && s.pairGate

/-- Whether the high side of bank `k` may be on (R239): effective enable, no shed, field outputs operating. -/
def State.bankMay (s : State) (k : Nat) : Bool := s.bankEff k && s.fieldOn

/-- The current command of a proportional channel, 0 to 3,000 mA (R229). -/
def State.adrCmd (s : State) (n : Nat) : Nat := min 3000 (s.fd (R.ADR_CH_CMD n) 15 0)

/-- Whether a proportional channel is regulating. -/
def State.adrProp (s : State) (n : Nat) : Bool :=
  let c := s.ch n
  s.adr.run && s.adrMode n == 1 && s.adrEn n && (s.bank (n / 4)).on && !c.latched && c.resumeAt.isNone && c.ph == .idle && s.adrCmd n != 0

/-- The channel of bank `k` that receives every sample (R246): the owner while it is in BOOST or PEAK. -/
def State.bankSampler (s : State) (k : Nat) : Option Nat :=
  (s.bank k).owner.filter (fun i => (s.ch (4 * k + i)).ph == .boost || (s.ch (4 * k + i)).ph == .peak)

/-- The bits of a field in clipped form: 0, or `lo` to `hi`. -/
def zeroOr (lo hi v : Nat) : Nat := if v = 0 then 0 else clampN lo hi v

/-- HYST of a set, 25 to 1,000 mA. -/
def adrHyst (m : Word) : Nat := clampN 25 1000 (fld m 15 4)

/-! ### The boost rail -/

/-- The boost target in mV (R219). -/
def State.bstTarget (s : State) : Nat := clampN 24000 65000 (s.fd R.ADR_BST_TARGET 15 0)

/-- Whether the boost converter may run (R220). -/
def State.bstMay (s : State) : Bool :=
  s.adr.run && s.bt R.ADR_BST_CFG 0 && s.line 16 && s.pairGate && !s.pwr.shed && !s.pwr.overShed && !s.pwr.boostHot

/-- LOWM in mV (R221). -/
def State.bstLowm (s : State) : Nat := 1000 * clampN 1 15 (s.fd R.ADR_BST_CFG 11 8)

/-- The spill threshold in mV (R222). -/
def State.bstSpillAt (s : State) : Nat := min (s.bstTarget + 1000 * clampN 1 8 (s.fd R.ADR_BST_CFG 7 4)) 67000

/-- Shows the boost rail's status. -/
def State.bstShow (s : State) : State :=
  let low := s.adr.vbst + s.bstLowm < s.bstTarget
  s.wr R.ADR_BST_STATUS (word (b2n s.adr.conv + 2 * b2n low + 4 * b2n s.adr.spilling + 8 * b2n (!s.line 16) +
    16 * b2n (s.pwr.shed || s.pwr.overShed) + 32 * b2n (!s.bstMay) + 64 * b2n s.adr.unavail +
    65536 * min 65535 (s.adr.vbst / 10)))

/-- Notification ADR_BOOST (R237). -/
def State.bstNotify (s : State) (m : Nat) : State :=
  s.notify fADR 0x82 ([byte m, 0#8, 0#8, 0#8] ++ leBytes 4 s.adr.vbst)

/-- A fast decay of channel `n` goes on slowly (R222); a closing window that another channel keeps from its samples has a gap. -/
def State.adrSlow (s : State) (n : Nat) : State :=
  let c := s.ch n
  if (c.ph == .trans || c.ph == .decay) && c.run.fast then
    let other := (s.bankSampler (n / 4)).isSome && s.bankSampler (n / 4) != some (n % 4)
    s.setCh n (fun c => { c with
      run := { c.run with fast := false, spill := true }, closer := { c.closer with gap := c.closer.gap || (c.closing && other) } })
  else s

/-- VBST has risen above the spill threshold (R222). -/
def State.bstSpill (s : State) : State :=
  let t := (s.setAdr (fun a => { a with spilling := true })).inc R.ADR_BST_SPILL
  ((List.range 48).foldl (fun (s : State) n => s.adrSlow n) t).bstNotify 2

/-- The converter's conditions and thresholds (R219 to R222) at the present rail voltage. -/
def State.bstSync (s : State) : State :=
  let may := s.bstMay
  let v := s.adr.vbst
  let conv := if !may || s.bstTarget ≤ v then false else if v + 500 < s.bstTarget then true else s.adr.conv
  let un := !may || decide (v < 20000)
  let sp := s.adr.spilling && decide (s.bstSpillAt < v + 1000)
  let t := s.setAdr (fun a => { a with conv := conv, unavail := un, spilling := sp })
  let t := if un && !s.adr.unavail then t.bstNotify 4 else t
  (if !s.adr.spilling && decide (s.bstSpillAt < v) then t.bstSpill else t).bstShow

/-! ### Coil temperature and bands -/

/-- T of channel `n` in 0.01 °C and whether it fell back to the base temperature (R231). -/
def State.adrTemp (s : State) (n : Nat) : Int × Bool :=
  let base := s.sigI 0x1D0
  match s.fd (R.ADR_CH_CFG n) 6 5 with
  | 0 => match (s.ch n).est with
    | some t => (t, false)
    | none => (base, true)
  | 1 =>
    let e := s.fd (R.ADR_CH_TSIG n) 8 0
    if s.sigOk e then (s.sigI e, false) else (base, true)
  | _ => (base, false)

/-- The band of a temperature with its hysteresis (R231). -/
def adrBandOf (old : Nat) (t : Int) : Nat :=
  let up := if 8000 ≤ t then 3 else if 4000 ≤ t then 2 else if 0 ≤ t then 1 else 0
  let down := if 7800 < t then 3 else if 3800 < t then 2 else if -200 < t then 1 else 0
  if old < up then up else min old down

/-- The band of channel `n` follows its temperature source, updated at `at_` (10 ns); a start on that very edge still takes the band
before (R248). -/
def State.adrBand (s : State) (n at_ : Nat) : State :=
  let r := s.adrTemp n
  let b := if 2 ≤ s.fd (R.ADR_CH_CFG n) 6 5 then s.fd (R.ADR_CH_CFG n) 8 7 else adrBandOf (s.ch n).band r.1
  s.setCh n (fun c =>
    if b = c.band || c.bandAt = some at_ then { c with band := b, tempFb := r.2 }
    else { c with band := b, bandOld := c.band, bandAt := some at_, tempFb := r.2 })

/-- A strobe of UG3 has applied channel `n`'s words: a band source it changed counts for a start on the same edge (R248), and without R_REF
there is no estimate (R232). -/
def State.adrBandSet (s : State) (n : Nat) : State :=
  let lost := s.fd (R.ADR_CH_RCAL n) 15 0 = 0 && (s.ch n).est.isSome
  let s := if lost then s.setCh n (fun c => { c with est := none, estNew := true }) else s
  if lost || fld (s.ch n).cfg 8 5 != fld (s.rd (R.ADR_CH_CFG n)) 8 5 then (s.adrBand n s.tb2).setCh n (fun c => { c with bandAt := none })
  else s

/-- The band an event of channel `n` takes that starts at `act` (R248). -/
def State.adrBandAt (s : State) (n act : Nat) : Nat :=
  match (s.ch n).bandAt with
  | some t => if act ≤ t then (s.ch n).bandOld else (s.ch n).band
  | none => (s.ch n).band

/-- The trim an event of channel `n` latches (R226, R252): one Meridian wrote in this tick serves later ticks. -/
def State.adrTrim (s : State) (n : Nat) : Int :=
  if (s.ch n).trimTick = some s.clk.tickCount then (s.ch n).trimOld.toInt else (s.rd (R.ADR_CH_TRIM n)).toInt

/-! ### Status words -/

/-- STATE of `ADR_CH_STATUS`. -/
def State.adrState (s : State) (n : Nat) : Nat :=
  let c := s.ch n
  if c.latched then 5
  else
    match c.ph with
    | .boost => 1
    | .peak => 2
    | .trans => 3
    | .hold => 3
    | .decay => 4
    | .idle => if !s.adr.run || !s.adrEn n || !(s.bank (n / 4)).on then 6 else if s.adrProp n then 3 else 0

/-- The source of a bank's high side (R239): 0 OFF, 1 BATT, 2 BOOST. -/
def State.bankSrc (s : State) (k : Nat) : Nat :=
  let ns := (List.range 4).map (fun i => 4 * k + i)
  if !(s.bank k).on then 0
  else if ns.any (fun n => (s.ch n).ph == .boost) then 2
  else if ns.any (fun n => (s.ch n).ph != .idle || s.adrProp n) then 1
  else 0

/-- Shows the status of bank `k`. -/
def State.bankShow (s : State) (k : Nat) : State :=
  s.wr (R.ADR_BANK_STATUS k) (word (s.bankSrc k + 4 * b2n (!s.line k) + 8 * b2n (s.bankEff k) +
    16 * ((s.bank k).owner.getD 7) + 128 * maskOf 4 (fun i => (s.ch (4 * k + i)).wait.isSome)))

/-- Whether the entry of channel `n` is invalid (R218). -/
def State.adrNoSig (s : State) (n : Nat) : Bool :=
  !s.adr.run || !s.adrEn n || (s.ch n).latched || ((s.ch n).isOpen && s.adrMode n != 0)

/-- Shows the status of channel `n`, its fault and open bits, the validity of its entry, and its bank. -/
def State.adrShow (s : State) (n : Nat) : State :=
  let c := s.ch n
  let r := s.adrTemp n
  let s := if s.adrNoSig n && s.sigOk n then s.dropSig n else s
  let s := s.wr (R.ADR_CH_STATUS n) (word (s.adrState n + 8 * c.queue.length + 64 * c.band + 256 * b2n c.isOpen +
    512 * min 15 c.sccnt + 8192 * b2n (c.ph != .idle && c.run.noBst) + 16384 * b2n c.tempFb +
    65536 * (iword (clampI (-32768) 32767 r.1)).toNat))
  let s := (s.wb (R.ADR_FAULT0 + 4 * (n / 32)) (n % 32) c.latched).wb (R.ADR_OPEN0 + 4 * (n / 32)) (n % 32) c.isOpen
  s.bankShow (n / 4)

/-- Shows the status of all channels. -/
def State.adrShowAll (s : State) : State :=
  ((List.range 48).foldl (fun (s : State) n => s.adrShow n) s).bstShow

/-! ### Records -/

/-- Notification ADR_FAULT (R237). -/
def State.adrFaultNote (s : State) (n m set : Nat) : State := s.notify fADR 0x80 [byte n, byte m, byte set, 0#8]

/-- Notification ADR_EVT_DROP with its counter (R228). -/
def State.adrDropNote (s : State) (n cause req : Nat) : State :=
  let t := if cause = 3 then s.inc (R.ADR_BANK_COLLIDE (n / 4)) else s
  (t.inc R.ADR_EVT_DROPS).notify fADR 0x81 ([byte n, byte cause, 0#8, 0#8] ++ leBytes 4 req)

/-- The motion result of one detector (R251): time, confidence, WHY, MISS. -/
def AdrMot.result (m : AdrMot) (en : Bool) (bad : Bool) (dmin : Nat) : Nat × Nat × Nat × Bool :=
  let conf (d : Nat) : Nat := min 255 (32 * d / dmin)
  if !en then (0xFFFF, 0, 0, false)
  else if bad then (0xFFFF, 0, 5, true)
  else
    match m.res with
    | some (t, d) => (min 0xFFFE t, conf d, 0, false)
    | none =>
      if m.gap then (0xFFFF, 0, 3, true)
      else if !m.elig then (0xFFFF, 0, 4, true)
      else if m.seen then (0xFFFF, conf m.shallow, 2, true)
      else (0xFFFF, 0, 1, true)

/-- A record closes: motion results (R251, R252). -/
def State.adrMotion (s : State) (n : Nat) (ran : Bool) (r : AdrRun) : State :=
  let w := s.adrMot n
  if !bit w 0 && !bit w 1 then s
  else
    let c := s.ch n
    let bad := !ran || r.cause != 0 || r.short
    let o := c.opening.result (bit w 0) bad (s.adrDmin n)
    let k := c.closer.result (bit w 1) bad (s.adrDmin n)
    let wait := min 255 ((r.act - 2 * r.req) / 100)
    let s := (s.wr (R.ADR_MOT_RES n) (word (o.1 + 65536 * k.1))).wr (R.ADR_MOT_Q n)
      (word (o.2.1 + 256 * k.2.1 + 65536 * o.2.2.1 + 524288 * k.2.2.1 + 4194304 * b2n o.2.2.2 + 8388608 * b2n k.2.2.2 +
        16777216 * wait))
    let s := s.addCnt R.ADR_MOT_MISS (b2n o.2.2.2 + b2n k.2.2.2)
    let s := if o.2.2.2 || k.2.2.2 then
        s.notify fADR 0x83 [byte n, byte (b2n o.2.2.2 + 2 * b2n k.2.2.2), byte o.2.2.1, byte k.2.2.1]
      else s
    let okO := o.1 != 0xFFFF
    let okC := k.1 != 0xFFFF
    match fld w 3 2 with
    | 1 => if okO then s.setSig n (word o.1) else s
    | 2 => if okC then s.setSig n (word k.1) else s
    | 3 => if okO && okC then s.setSig n (iword ((r.eff : Int) + k.1 - o.1)) else s
    | _ => s

/-- The record of a dropped event (R228). -/
def State.adrDrop (s : State) (n req cause : Nat) : State :=
  let s := ((s.wr (R.ADR_EVT_LAST n) (word (cause + 65536 * 0xFFFF))).wr (R.ADR_EVT_TB n) (word req)).wr (R.ADR_EVT_EN n) 0#32
  (s.adrMotion n false {}).adrDropNote n cause req

/-- OPEN of a channel changes (R233). -/
def State.adrSetOpen (s : State) (n : Nat) (v : Bool) : State :=
  let old := (s.ch n).isOpen
  let s := s.setCh n (fun c => { c with isOpen := v })
  if v then ((s.inc R.ADR_OPEN_CNT).adrFaultNote n 1 1)
  else if old then s.adrFaultNote n 1 0
  else s

/-- The closing window of channel `n` ends: an open run counts as ended (R250). -/
def State.adrWinEnd (s : State) (n : Nat) : State :=
  let dmin := s.adrDmin n
  let hold := max 1 (fld (s.adrMot n) 9 7)
  s.setCh n (fun c =>
    let m := c.closer
    { c with
      closing := false,
      closer := if c.closing && m.res.isNone && !m.gap && hold ≤ m.run then
          (if dmin ≤ m.top - m.low then { m with res := some (m.turn - c.run.endAt, m.top - m.low), seen := true, run := 0 }
           else { m with shallow := max m.shallow (m.top - m.low), seen := true, run := 0 })
        else m })

/-- What the running event recovered enters `ADR_RECOV_MJ` (R223). -/
def State.adrRecov (s : State) (n : Nat) : State :=
  let t := s.setAdr (fun a => { a with recov := a.recov + (s.ch n).run.recov })
  t.wr R.ADR_RECOV_MJ (word (t.adr.recov / 100000000000))

/-- The record of the running event closes (R228, R233, R234). -/
def State.adrRecord (s : State) (n : Nat) : State :=
  let s := s.adrWinEnd n
  let c := s.ch n
  let r := c.run
  let opn := !r.reached
  let uj := min 65535 (r.recov / 100000000)
  let last := r.cause + 8 * b2n r.bstTmo + 16 * b2n opn + 32 * b2n r.short + 64 * b2n r.lowV + 128 * b2n r.noBst +
    256 * b2n r.clip + 512 * b2n r.decTmo + 1024 * b2n r.spill + 2048 * r.band + 8192 * r.prof + 65536 * r.tBst
  let s := ((s.wr (R.ADR_EVT_LAST n) (word last)).wr (R.ADR_EVT_TB n) (word r.req)).wr (R.ADR_EVT_EN n)
    (word (min 65535 r.ipk + 65536 * uj))
  let s := if r.cause = 0 then s.inc R.ADR_EVENTS else s.adrDropNote n r.cause r.req
  let s := s.adrMotion n true r
  let s := if opn || (s.ch n).isOpen then s.adrSetOpen n opn else s
  s.setCh n (fun c => { c with sccnt := if r.short then c.sccnt else 0 })

/-- The running event of channel `n`, or the fast decay of a proportional channel, is over and the channel is idle. -/
def State.adrClose (s : State) (n : Nat) : State :=
  let t := s.adrRecov n
  (if (s.ch n).run.prop then t else t.adrRecord n).setCh n (fun c => { c with
    ph := .idle, run := {}, on := false, closing := false, cycles := [], cycOk := false, below := 0, above := 0 })

/-! ### Coil resistance -/

/-- A measurement of R232 at the end of an interval regulated from BATT: 8 complete cycles, at most one per 10 ms. -/
def State.adrMeasure (s : State) (n : Nat) : State :=
  let c := s.ch n
  let due := match c.measAt with
    | some t => s.tbPast t (tbMs 10)
    | none => true
  let s := s.setCh n (fun c => { c with cycles := [], cycOk := false })
  if !due || c.cycles.length < 8 then s
  else
    let ton := c.cycles.foldl (fun a e => a + e.on) 0
    let all := c.cycles.foldl (fun a e => a + e.on + e.off) 0
    let sum := c.cycles.foldl (fun a e => a + e.sum) 0
    let cnt := c.cycles.foldl (fun a e => a + e.cnt) 0
    let vb := (s.pwr.meas.mv.getD 0 0)
    let rm := divFree (vb * ton * 1000 * 4 * cnt : Nat) (all * 25 * sum : Nat) - Config.pathResistance n
    let s := s.wr (R.ADR_CH_RMEAS n) (iword (clampI 0 65535 rm))
    let s := s.setCh n (fun c => { c with measAt := some s.clk.tb })
    let rref : Int := s.fd (R.ADR_CH_RCAL n) 15 0
    if rref = 0 then s
    else
      let tn := sfld (s.rd (R.ADR_CH_RCAL n)) 31 16 + (rm - rref) * 25445 / rref
      (s.setCh n (fun c => { c with
        est := some (match c.est, c.estNew with
          | some t, false => t + asr (tn - t) 2
          | _, _ => tn),
        estNew := false, estAt := s.clk.tb })).adrBand n s.tb2

/-! ### Starting events -/

/-- Whether another channel of the bank holds it through its closing window (R250, CGUARD). -/
def State.bankGuarded (s : State) (n : Nat) : Bool :=
  s.bt (R.ADR_BANK_CFG (n / 4)) 1 &&
  (List.range 4).any (fun i => 4 * (n / 4) + i != n && (s.ch (4 * (n / 4) + i)).closing &&
    !(s.ch (4 * (n / 4) + i)).run.fast && (s.ch (4 * (n / 4) + i)).closer.res.isNone)

/-- Whether the bank of channel `n` is free for it (R240). -/
def State.bankFree (s : State) (n : Nat) : Bool := (s.bank (n / 4)).owner.isNone && !s.bankGuarded n

/-- The phase an event of channel `n` begins in, with its set (R215, R221): BOOST, PEAK or HOLD. -/
def State.adrFirst (s : State) (wI wT : Word) : AdrPhase :=
  if fld wI 15 0 != 0 && !s.adr.unavail then .boost
  else if fld wT 31 16 != 0 then .peak
  else .hold

/-- The energy of the fast-decay interval of channel `n` since its last sample, at the current `x` (R223, R247): none while the bank's
source is BOOST. -/
def State.adrFlow (s : State) (n x : Nat) : Nat :=
  let c := s.ch n
  match c.lastAt with
  | some t => if (c.ph == .trans || c.ph == .decay) && c.run.fast && s.bankSrc (n / 4) != 2 then s.adr.vbst * (x * 25 / 4) * (s.tb2 - t) else 0
  | none => 0

/-- An owner begins to take every sample: the other channels' sampled intervals end here (R223, R246, R247), and their closing windows
have a gap (R250). -/
def State.adrGaps (s : State) (n : Nat) : State :=
  (List.range 4).foldl (fun (s : State) i =>
    let m := 4 * (n / 4) + i
    if m = n then s
    else
      let e := s.adrFlow m (s.ch m).cur
      s.setCh m (fun c => { c with
        lastAt := none, run := { c.run with recov := c.run.recov + e },
        closer := if c.closing && !c.run.fast && c.closer.res.isNone then { c.closer with gap := true, hist := [], run := 0 }
          else c.closer })) s

/-- An event begins at `act` in 10 ns (R226, R240): trim, profile, band and set are latched. -/
def State.adrBegin (s : State) (n : Nat) (e : AdrEv) (timed : Bool) (act : Nat) : State :=
  let p := s.adrProf n
  let b := s.adrBandAt n act
  let wI := s.rd (R.ADR_PB_I n p b)
  let wT := s.rd (R.ADR_PB_T n p b)
  let trim : Int := if timed then s.adrTrim n else 0
  let want : Int := (e.dur : Int) + trim
  let eff := (clampI 1 0xFFFFFF want).toNat
  let ph := s.adrFirst wI wT
  let low := ph == .boost && decide (s.adr.vbst + s.bstLowm < s.bstTarget)
  let r : AdrRun := { req := e.start, act := act, timed := timed, eff := eff, dur := e.dur,
                      clip := timed && decide (want ≠ (eff : Int)), prof := p, band := b, wI := wI, wT := wT,
                      wH := s.rd (R.ADR_PB_H n p b), wM := s.rd (R.ADR_PB_M n p b), phAt := act, lowV := low,
                      noBst := fld wI 15 0 != 0 && s.adr.unavail }
  let s := if ph = .hold then s else s.adrGaps n
  let s := s.setCh n (fun c => { c with
    ph := ph, run := r, wait := none, on := true, swAt := act, opening := {}, closer := {}, closing := false, cycles := [],
    cycOk := false, onAt := act, cycSum := 0, cycCnt := 0, lastAt := none, below := 0, above := 0 })
  let s := if low then (s.inc R.ADR_BST_LOWV).bstNotify 1 else s
  let s := s.inc (R.ADR_CH_EVENTS n)
  if ph = .hold then s else s.setBank (n / 4) (fun k => { k with owner := some (n % 4) })

/-- An event about to start is arbitrated for its bank (R240, R242). -/
def State.adrArbitrate (s : State) (n : Nat) (e : AdrEv) (timed : Bool) : State :=
  let b := s.adrBandAt n (2 * e.start)
  let wI := s.rd (R.ADR_PB_I n (s.adrProf n) b)
  let wT := s.rd (R.ADR_PB_T n (s.adrProf n) b)
  if s.adrFirst wI wT = .hold || s.bankFree n then s.adrBegin n e timed (2 * e.start)
  else if s.bt (R.ADR_BANK_CFG (n / 4)) 0 then s.adrDrop n e.start 3
  else s.setCh n (fun c => { c with wait := some (e, timed) })

/-- The waiting events of bank `k`, by requested start, then channel (R241). -/
def State.bankWaiters (s : State) (k : Nat) : List (Nat × AdrEv × Bool) :=
  sortBy (fun a b => decide (a.2.1.start < b.2.1.start))
    ((List.range 4).filterMap (fun i => ((s.ch (4 * k + i)).wait).map (fun w => (4 * k + i, w.1, w.2))))

/-- DEFER_MAX of bank `k` in 10 ns. -/
def State.deferMax (s : State) (k : Nat) : Nat := s.fd (R.ADR_BANK_CFG k) 23 8

/-- The first waiting event of bank `k` is let in: the bank is its, and it starts t_defer_go (100 ns) later (R241, R243). One whose wait
reaches DEFER_MAX by then is dropped (R242). -/
def State.bankNext (s : State) (k : Nat) : State :=
  match s.bankWaiters k with
  | [] => s
  | w :: _ =>
    if !s.bankFree w.1 then s
    else if 2 * w.2.1.start + s.deferMax k ≤ s.tb2 + 10 then (s.setCh w.1 (fun c => { c with wait := none })).adrDrop w.1 w.2.1.start 3
    else s.setBank k (fun b => { b with owner := some (w.1 % 4), go := some (s.tb2 + 10) })

/-- Bank `k` has no owner: its waiting events have their turn; up to four may be dropped before one is let in. -/
def State.bankWake (s : State) (k : Nat) : State :=
  (List.range 4).foldl (fun (s : State) _ => if (s.bank k).owner.isNone then s.bankNext k else s) s

/-- The owner of bank `k` releases it. -/
def State.bankRelease (s : State) (k : Nat) : State := (s.setBank k (fun b => { b with owner := none, go := none })).bankWake k

/-- The actual start of a waiting event has come (R243): it begins, and lets the bank go where it needs none. -/
def State.bankGo (s : State) (k : Nat) : State :=
  match (s.bank k).go, (s.bank k).owner with
  | some t, some i =>
    let n := 4 * k + i
    match (s.ch n).wait with
    | some w =>
      if s.tb2 < t then s
      else
        let s := s.setBank k (fun b => { b with go := none })
        let s := (s.adrBegin n w.1 w.2 t).inc (R.ADR_BANK_DEFER k)
        (if (s.ch n).ph = .hold then s.bankRelease k else s).adrShow n
    | none => s
  | _, _ => s

/-- Time has passed: the waiting events whose actual start has come begin. -/
def State.adrGo (s : State) : State :=
  if s.adr.banks.all (fun b => b.go.isNone) then s
  else
    let t := (List.range 12).foldl (fun (s : State) k => s.bankGo k) s
    { t with clk := s.clk, pending := s.pending, regs := t.regs.norm }

/-- Channel `n` leaves BOOST and PEAK: opening detection ends (R249) and its bank is released. -/
def State.adrLeave (s : State) (n : Nat) : State :=
  if (s.bank (n / 4)).owner = some (n % 4) then
    let dmin := s.adrDmin n
    let hold := max 1 (fld (s.adrMot n) 6 4)
    let s := s.setCh n (fun c =>
      let m := c.opening
      { c with opening := if m.res.isNone && hold ≤ m.run then
          (if dmin ≤ m.top - m.low then { m with res := some (m.turn - c.run.act, m.top - m.low), seen := true, run := 0 }
           else { m with shallow := max m.shallow (m.top - m.low), seen := true, run := 0 })
        else { m with run := 0 } })
    s.bankRelease (n / 4)
  else s

/-- HOLD begins (R215): its chop cycles count anew (R232). -/
def State.adrHold (s : State) (n : Nat) : State :=
  s.setCh n (fun c => { c with
    ph := .hold, lastAt := none, below := 0, above := 0, cycles := [], cycOk := false, run := { c.run with phAt := s.tb2 } })

/-- The transition to HOLD, skipped where the current is already there (R215). -/
def State.adrToTrans (s : State) (n : Nat) : State :=
  let now := s.tb2
  let c := s.ch n
  let s := if 25 * (2 * c.cur) ≤ 4 * (2 * min 3000 (fld c.run.wH 15 0) + adrHyst c.run.wM) then s.adrHold n
    else s.setCh n (fun c => { c with
      ph := .trans, on := false, swAt := now, offAt := now, lastAt := none,
      run := { c.run with phAt := now, fast := bit c.run.wM 1 && !s.adr.spilling,
                          spill := c.run.spill || (bit c.run.wM 1 && s.adr.spilling) } })
  s.adrLeave n

/-- BOOST ends and PEAK begins, or is skipped (R215). -/
def State.adrToPeak (s : State) (n : Nat) : State :=
  if fld (s.ch n).run.wT 31 16 = 0 then s.adrToTrans n
  else s.setCh n (fun c => { c with ph := .peak, run := { c.run with phAt := s.tb2 } })

/-- The event ends and DECAY begins (R215), with the cause of its record; `fast` forces the fast path. -/
def State.adrToDecay (s : State) (n cause : Nat) (fast : Bool) : State :=
  let c := s.ch n
  match c.ph with
  | .idle => s
  | .decay => s.setRun n (fun r => { r with
      cause := if r.cause = 0 then cause else r.cause, fast := r.fast || (fast && !s.adr.spilling),
      spill := r.spill || (fast && s.adr.spilling) })
  | _ =>
    let s := if c.ph = .hold then s.adrMeasure n else s
    let want := fast || bit c.run.wM 0
    let f := want && !s.adr.spilling
    let now := s.tb2
    let win := bit (s.adrMot n) 1 && cause == 0 && !c.run.short
    let other := (s.bankSampler (n / 4)).isSome && s.bankSampler (n / 4) != some (n % 4)
    let s := s.setCh n (fun c => { c with
      ph := .decay, on := false, swAt := now, lastAt := none, below := 0, above := 0,
      closing := win, closer := { gap := win && !f && other },
      run := { c.run with phAt := now, endAt := now, cause := cause, fast := f,
                          spill := c.run.spill || (want && s.adr.spilling) } })
    if c.ph = .boost || c.ph = .peak then s.adrLeave n else s

/-- A waiting event is dropped; a bank that had let it in goes to the next. -/
def State.adrUnwait (s : State) (n cause : Nat) : State :=
  match (s.ch n).wait with
  | none => s
  | some w =>
    let t := (s.setCh n (fun c => { c with wait := none })).adrDrop n w.1.start cause
    if (s.bank (n / 4)).go.isSome && (s.bank (n / 4)).owner == some (n % 4) then t.bankRelease (n / 4) else t

/-- The queue is flushed (R228). -/
def State.adrFlush (s : State) (n cause : Nat) : State :=
  let q := (s.ch n).queue
  q.foldl (fun (s : State) e => s.adrDrop n e.start cause) (s.setCh n (fun c => { c with queue := [] }))

/-- A new start on a channel (R227): an event in DECAY closes first, and with it a closing window that held the bank against waiting
events (R241, R250); one that still runs drops the new one. -/
def State.adrStart (s : State) (n : Nat) (e : AdrEv) (timed : Bool) : State :=
  match (s.ch n).ph with
  | .idle => s.adrArbitrate n e timed
  | .decay => ((s.adrClose n).bankWake (n / 4)).adrArbitrate n e timed
  | _ => s.adrDrop n e.start 2

/-- A rising ON of an ON/OFF channel (R230), where the channel may run. -/
def State.adrOn (s : State) (n : Nat) : State :=
  let c := s.ch n
  if s.adr.run && s.adrMode n = 2 && s.adrEn n && (s.bank (n / 4)).on && !c.latched && c.resumeAt.isNone && c.wait.isNone then
    s.adrStart n { start := s.clk.tb, dur := 0 } false
  else s

/-- A falling ON (R230, R244). -/
def State.adrOff (s : State) (n : Nat) : State :=
  if s.adrMode n = 2 then (s.adrUnwait n 3).adrToDecay n 0 false else s

/-! ### Enables, override and shed -/

/-- Bank `k` goes off (R235, R244, R253): by a shed its events end at once with cause SHED and the queues stay; else
they decay fast with cause OFF and the queues are flushed. -/
def State.bankOff (s : State) (k : Nat) : State :=
  let shed := s.pwr.shed || s.pwr.overShed
  let s := s.setBank k (fun b => { b with on := false, back := false, owner := none, go := none })
  let s := (List.range 4).foldl (fun (s : State) i => s.adrUnwait (4 * k + i) (if shed then 4 else 5)) s
  (List.range 4).foldl (fun (s : State) i =>
    let n := 4 * k + i
    let s := if (s.ch n).ph = .idle then s
      else if shed then (s.setRun n (fun r => { r with cause := 4 })).adrClose n
      else s.adrToDecay n 5 true
    let s := if shed then s else s.adrFlush n 5
    s.setCh n (fun c => { c with dithAt := none, cycles := [], cycOk := false, on := false })) s

/-- The enables of all banks and of the boost converter follow their conditions (R220, R253). -/
def State.adrEnables (s : State) : State :=
  let t := (List.range 12).foldl (fun (s : State) k =>
    let may := s.bankMay k
    let b := s.bank k
    if b.on && !may then s.bankOff k
    else if !b.on && may != b.back then s.setBank k (fun b => { b with back := may })
    else s) s
  t.bstSync.adrShowAll

/-! ### Continuous modes -/

/-- The dither frequency of a set in Hz (R229). -/
def adrDithF (m : Word) : Nat := zeroOr 20 500 (fld m 25 16)

/-- The dither frequency in force on channel `n`. -/
def State.dithF (s : State) (n : Nat) : Nat := adrDithF (s.rd (R.ADR_PB_M n (s.ch n).dProf (s.ch n).dBand))

/-- How far channel `n` is from the origin of its dither periods at TB `tb`, in periods times 50,000,000 (a second of TB). -/
def State.dithPos (s : State) (n : Nat) : Nat := s.dithF n * (s.clk.tb - (s.ch n).dithAt.getD s.clk.tb)

/-- Whether the present dither period of channel `n` is over: period j begins j/DITH_F after the origin (R229). Without dither there is no
period, and profile and band are taken up when the command comes. -/
def State.dithDue (s : State) (n : Nat) : Bool :=
  s.dithF n == 0 || 50000000 * ((s.ch n).dithN + 1) ≤ s.dithPos n

/-- A dither period of channel `n` begins (R229, R232, R248): profile and band are taken up; where they change the frequency, the periods
count from this one. -/
def State.adrPeriod (s : State) (n : Nat) : State :=
  let s := s.adrMeasure n
  let f := s.dithF n
  let j := s.dithPos n / 50000000
  let b := s.adrBandAt n s.tb2
  let g := adrDithF (s.rd (R.ADR_PB_M n (s.adrProf n) b))
  s.setCh n (fun c => { c with
    dProf := s.adrProf n, dBand := b,
    dithAt := if g = f then c.dithAt else if f = 0 then some s.clk.tb else c.dithAt.map (fun t => t + 50000000 * j / f),
    dithN := if g = f then j else 0 })

/-- Proportional regulation of channel `n` begins or ends with its conditions (R229): the dither periods count from its beginning. -/
def State.adrPropSync (s : State) (n : Nat) : State :=
  let clear (c : AdrCh) : AdrCh := { c with cycles := [], cycOk := false, below := 0, above := 0, lastAt := none }
  if s.adrProp n then
    if (s.ch n).dithAt.isSome then s
    else
      let b := s.adrBandAt n s.tb2
      s.setCh n (fun c => clear { c with dithAt := some s.clk.tb, dithN := 0, dProf := s.adrProf n, dBand := b })
  else if (s.ch n).dithAt.isSome then (s.adrMeasure n).setCh n (fun c => clear { c with dithAt := none, on := (c.ph != .idle) && c.on })
  else s

/-- The continuous channels of bank `k` run while its high side is on (R235, R253): proportional channels at their commands, ON/OFF channels
whose ON is set with new events in channel order. -/
def State.bankStart (s : State) (k : Nat) : State :=
  (List.range 4).foldl (fun (s : State) i =>
    let n := 4 * k + i
    let s := s.adrPropSync n
    if s.bt (R.ADR_CH_CMD n) 16 then s.adrOn n else s) s

/-- The high side of a returned bank comes on at a tick boundary (R253). -/
def State.bankReturn (s : State) (k : Nat) : State :=
  if (s.bank k).back && s.bankMay k then (s.setBank k (fun b => { b with on := true, back := false })).bankStart k else s

/-- The regulation target of a proportional channel in mA (R229). -/
def State.adrTarget (s : State) (n : Nat) : Int :=
  let c := s.ch n
  let amp : Int := min 1000 (fld (s.rd (R.ADR_PB_H n c.dProf c.dBand)) 31 16)
  let m := s.rd (R.ADR_PB_M n c.dProf c.dBand)
  let x : Int := min (50000000 : Nat) (s.dithPos n - 50000000 * c.dithN : Nat)
  let dith : Int :=
    if s.dithF n = 0 then 0
    else if bit m 2 then
      if x < 25000000 then -amp + 4 * amp * x / 50000000 else amp - 4 * amp * (x - 25000000) / 50000000
    else if x < 25000000 then amp else -amp
  clampI 0 3000 ((s.adrCmd n : Int) + dith)

/-- A new command of channel `n` (R229, R230): the write of `ADR_CH_CMD` by host, Dome or Meridian. -/
def State.adrCommand (s : State) (n : Nat) (v : Word) : State :=
  let old := s.rd (R.ADR_CH_CMD n)
  let s := s.wr (R.ADR_CH_CMD n) (v &&& 0x0001FFFF#32)
  let s := if bit v 16 && !bit old 16 then s.adrOn n else if !bit v 16 && bit old 16 then s.adrOff n else s
  (s.adrPropSync n).adrShow n

/-! ### Update group 3 and the tick -/

/-- An armed triple enters the queue at the UG3 strobe (R225); on a unit that stands by none does (R460). -/
def State.adrEnqueue (s : State) (n : Nat) : State :=
  let c := s.ch n
  if !c.armed then s
  else
    let s := s.setCh n (fun c => { c with armed := false })
    if s.pairHeld then s else
    let e : AdrEv := { start := s.rd64 (R.ADR_EVT_START_LO n) (R.ADR_EVT_START_HI n),
                       dur := clampN 1 0xFFFFFF (s.fd (R.ADR_EVT_DUR n) 23 0) }
    let hit (x : AdrEv) : Bool := decide (2 * e.start < 2 * x.start + x.dur)
    let running := c.ph != .idle && c.run.timed && hit { start := c.run.req, dur := c.run.dur }
    let waiting := match c.wait with
      | some w => hit w.1
      | none => false
    if c.latched then s.adrDrop n e.start 7
    else if !s.adrEn n || s.adrMode n != 0 || !s.adr.run then s.adrDrop n e.start 5
    else if e.start < s.clk.tb + 50 then s.adrDrop n e.start 1
    else if running || waiting || c.queue.any hit then s.adrDrop n e.start 2
    else if 4 ≤ c.queue.length then s.adrDrop n e.start 6
    else s.setCh n (fun c => { c with queue := sortBy (fun a b => decide (a.start < b.start)) (c.queue ++ [e]) })

/-- A field of a profile register or of a channel register as applied (R236): an out-of-range value is clipped into its range. -/
def adrClip (a : Nat) (v : Word) : Word :=
  if R.ADR_CH_CFG 0 ≤ a && a < R.ADR_CH_CFG 0 + 0x40 * 48 then
    match (a - R.ADR_CH_CFG 0) % 0x40 with
    | 0x0 => setFld (setFld (setFld v 2 1 (min 2 (fld v 2 1))) 6 5 (min 2 (fld v 6 5))) 12 9 (max 1 (fld v 12 9))
    | 0x10 => setFld v 31 16 (clampN 20 500 (fld v 31 16))
    | 0x1C => setFld v 23 0 (max 1 (fld v 23 0))
    | 0x38 =>
      let v := if bit v 0 || bit v 1 then setFld v 13 10 (max 1 (fld v 13 10)) else v
      if bit v 1 then setFld v 27 20 (max 1 (fld v 27 20)) else v
    | _ => v
  else if R.ADR_PB_I 0 0 0 ≤ a && a < R.ADR_PB_I 0 0 0 + 0x100 * 48 then
    match (a - R.ADR_PB_I 0 0 0) % 0x10 with
    | 0x0 => setFld (setFld v 15 0 (zeroOr 1000 20000 (fld v 15 0))) 31 16 (min 20000 (fld v 31 16))
    | 0x4 => setFld v 15 0 (max 100 (fld v 15 0))
    | 0x8 => setFld (setFld v 15 0 (min 3000 (fld v 15 0))) 31 16 (min 1000 (fld v 31 16))
    | _ => setFld (setFld v 15 4 (clampN 25 1000 (fld v 15 4))) 25 16 (zeroOr 20 500 (fld v 25 16))
  else if a = R.ADR_BST_TARGET then setFld v 15 0 (clampN 24000 65000 (fld v 15 0))
  else if a = R.ADR_BST_CFG then setFld (setFld v 7 4 (clampN 1 8 (fld v 7 4))) 11 8 (max 1 (fld v 11 8))
  else v

/-- The channels whose MODE or EN a strobe of UG3 has changed (R224). -/
def State.adrChanged (s : State) : List Nat :=
  (List.range 48).filter (fun n => fld (s.ch n).cfg 2 0 != fld (s.rd (R.ADR_CH_CFG n)) 2 0)

/-- Waiting events of some channels are dropped first, so that none of them starts when an owner among them ends; then their events end and
their queues are flushed (R224, R235, R244). -/
def State.adrHalt (s : State) (ns : List Nat) : State :=
  let s := ns.foldl (fun (s : State) n => s.adrUnwait n 5) s
  ns.foldl (fun (s : State) n => (s.adrToDecay n 5 false).adrFlush n 5) s

/-- A channel starts in the mode a strobe of UG3 gave it (R224): an event that decays ends at once where the new mode runs (R227). -/
def State.adrNewMode (s : State) (n : Nat) : State :=
  let s := if s.adrMode n = 1 && s.adrEn n && s.adrCmd n != 0 && (s.ch n).ph = .decay && (s.bank (n / 4)).on then s.adrClose n else s
  let s := s.adrPropSync n
  if s.bt (R.ADR_CH_CMD n) 16 then s.adrOn n else s

/-- After a strobe of UG3, in the order of R241: bank enables (R253) and the boost target; changes of MODE and EN (R224); bands (R248);
armed triples; new starts. -/
def State.adrAfterUg3 (s : State) : State :=
  let ch := s.adrChanged
  let s := (s.adrEnables).adrHalt ch
  let s := (List.range 48).foldl (fun (s : State) n =>
    (s.adrBandSet n).setCh n (fun c => { c with
      cfg := s.rd (R.ADR_CH_CFG n), resumeAt := if ch.contains n then none else c.resumeAt })) s
  let s := (List.range 48).foldl (fun (s : State) n => s.adrEnqueue n) s
  (ch.foldl (fun (s : State) n => s.adrNewMode n) s).adrShowAll

/-- `ADR_CTRL`.RUN takes effect at a tick boundary (R235): a start lets the continuous channels run, a stop ends events with cause OFF. -/
def State.adrRunSync (s : State) : State :=
  let want := s.bt R.ADR_CTRL 0
  if want = s.adr.run then s
  else if want then
    let s := (s.setAdr (fun a => { a with run := true, chs := a.chs.map (fun c => { c with estNew := true }) })).adrEnables
    ((List.range 12).foldl (fun (s : State) k => if (s.bank k).on then s.bankStart k else s) s).adrShowAll
  else
    let s := (s.adrHalt (List.range 48)).setAdr (fun a => { a with run := false })
    ((List.range 48).foldl (fun (s : State) n => s.adrPropSync n) s).adrEnables

/-- Current entry of channel `n` for the tick just ended (R218, R246); the samples after the window are the next one's. -/
def State.adrSigTick (s : State) (n : Nat) : State :=
  let c := s.ch n
  let m := if c.cnt = 0 then c.mean else divFree (25 * c.sum : Nat) (4 * c.cnt : Nat)
  let s := s.setCh n (fun c => { c with sum := c.sumN, cnt := c.cntN, sumN := 0, cntN := 0, mean := m })
  if s.adrNoSig n then (if s.sigOk n then s.dropSig n else s)
  else if fld (s.adrMot n) 3 2 = 0 then s.setSig n (iword m)
  else s

/-- The triples of one event are written (R225, R237). -/
def State.adrTriple (s : State) (e : Nat × Nat × Nat) : State :=
  (((s.shadowWr (R.ADR_EVT_START_LO e.1) 3 (word e.2.1)).shadowWr (R.ADR_EVT_START_HI e.1) 3
    (word (e.2.1 / 4294967296))).shadowWr (R.ADR_EVT_DUR e.1) 3 (word e.2.2)).setCh e.1 (fun c => { c with armed := true })

/-- The work of the actuator drive at a tick boundary, ahead of the latch (R218, R231, R234, R253). -/
def State.adrTick (s : State) : State :=
  let s := s.adrRunSync
  let s := (List.range 48).foldl (fun (s : State) n => (s.adrSigTick n).adrBand n (2 * s.clk.tickStamp)) s
  let s := (s.adr.late.foldl (fun (s : State) e => s.adrTriple e) s).setAdr (fun a => { a with late := [] })
  let s := (List.range 12).foldl (fun (s : State) k => s.bankReturn k) s
  let s := (List.range 48).foldl (fun (s : State) n =>
    let c := s.ch n
    if c.sccnt != 0 && s.adrMode n != 0 && !c.latched && c.resumeAt.isNone && s.tbPast c.okSince (tbMs 10) then
      s.setCh n (fun c => { c with sccnt := 0 })
    else s) s
  let s := if s.clk.tickCount % 20000 = 0 then
      (List.range 48).foldl (fun (s : State) n =>
        if (s.ch n).measAt.isSome then s.wf_ (R.ADR_CH_RMEAS n) 31 16 (min 65535 (s.fd (R.ADR_CH_RMEAS n) 31 16 + 1)) else s) s
    else s
  s.adrShowAll

/-! ### The current samples -/

/-- One sample for an opening detector (R249). -/
def AdrMot.dip (m : AdrMot) (x t span hold dmin act2 : Nat) : AdrMot :=
  if m.res.isSome then m
  else
    let h := (x :: m.hist).take (span + 1)
    let m := { m with hist := h }
    if h.length ≤ span then m
    else
      let old := h.getD span 0
      let m := { m with elig := true }
      if x ≤ old then
        let m := if m.run = 0 then { m with turn := t, top := old, low := x } else m
        { m with run := m.run + 1, low := min m.low x }
      else if hold ≤ m.run then
        let d := m.top - m.low
        if dmin ≤ d then { m with res := some (m.turn - act2, d), seen := true, run := 0 }
        else { m with shallow := max m.shallow d, seen := true, run := 0 }
      else { m with run := 0 }

/-- One sample for a closing detector (R250), the mirror; after a gap nothing is found. -/
def AdrMot.bump (m : AdrMot) (x t span hold dmin end2 : Nat) : AdrMot :=
  if m.res.isSome || m.gap then m
  else
    let h := (x :: m.hist).take (span + 1)
    let m := { m with hist := h }
    if h.length ≤ span then m
    else
      let old := h.getD span 0
      let m := { m with elig := true }
      if old ≤ x then
        let m := if m.run = 0 then { m with turn := t, low := old, top := x } else m
        { m with run := m.run + 1, top := max m.top x }
      else if hold ≤ m.run then
        let d := m.top - m.low
        if dmin ≤ d then { m with res := some (m.turn - end2, d), seen := true, run := 0 }
        else { m with shallow := max m.shallow d, seen := true, run := 0 }
      else { m with run := 0 }

/-- The closing window of channel `n` ends, and CGUARD lets the bank go (R250). -/
def State.adrCloseWindow (s : State) (n : Nat) : State :=
  if (s.ch n).closing then (s.adrWinEnd n).bankWake (n / 4) else s

/-- A short of channel `n` (R234): its event ends by the fast path; the current of a proportional channel decays by it too. -/
def State.adrShort (s : State) (n : Nat) : State :=
  let s := (s.inc R.ADR_SHORT_CNT).setCh n (fun c => { c with
    sccnt := c.sccnt + 1, on := false, run := { c.run with short := true }, dithAt := none })
  let s := if (s.ch n).ph = .idle then
      s.setCh n (fun c => { c with
        ph := .decay, swAt := s.tb2, lastAt := none, closer := {},
        run := { act := s.tb2, phAt := s.tb2, endAt := s.tb2, short := true, prop := true, fast := !s.adr.spilling,
                 spill := s.adr.spilling } })
    else s.adrToDecay n 0 true
  let s := s.adrFaultNote n 2 1
  let lim := max 1 (s.fd (R.ADR_CH_CFG n) 12 9)
  if lim ≤ (s.ch n).sccnt then
    let s := s.setCh n (fun c => { c with latched := true })
    let s := (s.adrUnwait n 7).adrFlush n 7
    (s.post fADR .adrLatched).adrFaultNote n 4 1
  else if s.adrMode n != 0 then s.setCh n (fun c => { c with resumeAt := some (s.clk.tb + tbMs 100) })
  else s

/-- Whether a current of 22,000 mA or more is a new short (R234): on a channel that is driven or decays, and not in the decay a short has
begun. -/
def State.adrShorted (s : State) (n : Nat) : Bool :=
  ((s.ch n).ph != .idle || s.adrProp n) && !(s.ch n).run.short

/-- The hysteresis of R216 at a sample, in units of 6.25 mA: whether the low side changes. -/
def AdrCh.chop (c : AdrCh) (x : Nat) (set hyst : Int) (now : Nat) : Bool :=
  let i2 : Int := 25 * (2 * x : Nat)
  if now < c.swAt + 200 then false
  else if c.on then decide (4 * (2 * set + hyst) ≤ i2)
  else decide (i2 ≤ 4 * (2 * set - hyst))

/-- The low side changes; complete chop cycles of an interval regulated from BATT are kept (R232). -/
def State.adrSwitch (s : State) (n : Nat) (measured : Bool) : State :=
  let now := s.tb2
  s.setCh n (fun c =>
    if c.on then { c with on := false, swAt := now, offAt := now, opening := { c.opening with hist := [] } }
    else
      let cyc : AdrCycle := { on := c.offAt - c.onAt, off := now - c.offAt, sum := c.cycSum, cnt := c.cycCnt }
      { c with
        on := true, swAt := now, onAt := now, cycSum := 0, cycCnt := 0, cycOk := measured,
        cycles := if c.cycOk && measured then (cyc :: c.cycles).take 8 else c.cycles })

/-- What a current sample `x` of channel `n` leaves in its measurements (R218, R223, R232, R233, R249, R250); `measured` where the channel
receives samples. -/
def State.adrSample (s : State) (n x : Nat) (measured : Bool) : State :=
  let now := s.tb2
  let w := s.adrMot n
  let span := 2 ^ fld w 29 28
  let next := 2490 ≤ s.clk.tb - s.clk.tickStamp
  let e := s.adrFlow n x
  let th := s.adrOpenTh n
  let dmin := s.adrDmin n
  s.setCh n (fun c => { c with
    cur := x, lastAt := if measured then some now else none,
    cycOk := c.cycOk && measured, cycles := if measured then c.cycles else [],
    sum := if measured && !next then c.sum + x else c.sum, cnt := if measured && !next then c.cnt + 1 else c.cnt,
    sumN := if measured && next then c.sumN + x else c.sumN, cntN := if measured && next then c.cntN + 1 else c.cntN,
    cycSum := c.cycSum + x, cycCnt := c.cycCnt + 1,
    run := { c.run with
      ipk := if measured && c.ph != .idle then max c.run.ipk (x * 25 / 4) else c.run.ipk,
      reached := c.run.reached || (measured && decide (4 * th ≤ 25 * x)),
      recov := if measured then c.run.recov + e else c.run.recov },
    opening := if bit w 0 && (c.ph == .boost || c.ph == .peak) && c.on && measured && decide (c.run.act + 100 * fld w 19 14 ≤ now) then
        c.opening.dip x now span (max 1 (fld w 6 4)) dmin c.run.act
      else c.opening,
    closer := if c.closing && c.ph == .decay && measured && !c.run.fast then
        c.closer.bump x now span (max 1 (fld w 9 7)) dmin c.run.endAt
      else c.closer })

/-- The timer of continuous open detection (R233) after `dt` more of the interval; it stands while no samples come (R246). -/
def State.adrOpenTimer (s : State) (n x dt : Nat) : State :=
  let c := s.ch n
  let th := s.adrOpenTh n
  let prop := s.adrProp n
  let target : Int := if prop then s.adrTarget n else if c.ph == .hold then (min 3000 (fld c.run.wH 15 0) : Int) else 0
  if s.adrMode n != 0 && (prop || c.ph == .hold) then
    if 25 * x < 4 * th then
      s.setCh n (fun c => { c with above := 0, below := if (2 * th : Int) ≤ target then c.below + dt else 0 })
    else s.setCh n (fun c => { c with below := 0, above := c.above + dt })
  else s

/-- ADR_REGULATION_DECISION (R216, R217, R246): a current sample `x` of channel `n` in units of 6.25 mA. A channel that receives no samples
decides on its comparator and measures nothing; a stopped drive still measures the decays it ended with (R223). -/
def execAdrRegulationDecision (n x : Nat) (s : State) : Host.Outcome State Fault Refusal :=
  s.runIn .adr (fun s =>
    if !(n < 48 && (s.adr.run || (s.ch n).ph != .idle)) then s
    else
      let k := n / 4
      let own := s.bankSampler k
      let measured := own.isNone || own == some (n % 4)
      let last := (s.ch n).lastAt
      let s := s.adrSample n x measured
      if 3520 ≤ x && s.adrShorted n then (s.adrShort n).adrShow n
      else
        let s := if measured then s.adrOpenTimer n x (s.tb2 - last.getD s.tb2) else s
        let c := s.ch n
        let chop := match c.ph with
          | .peak => c.chop x (min 20000 (fld c.run.wI 31 16)) (adrHyst c.run.wM) s.tb2
          | .hold => c.chop x (min 3000 (fld c.run.wH 15 0)) (adrHyst c.run.wM) s.tb2
          | .idle => s.adrProp n && c.chop x (s.adrTarget n) (adrHyst (s.rd (R.ADR_PB_M n c.dProf c.dBand))) s.tb2
          | _ => false
        let s := if chop then s.adrSwitch n (measured && s.bankSrc k == 1) else s
        let s := if c.closing && c.closer.res.isSome then s.bankWake k else s
        s.adrShow n)

/-! ### Events of the sequencer -/

/-- An event of channel `n`'s sequencer, then its status. -/
def State.adrDo (s : State) (n : Nat) (g : State → State) : State := if n < 48 then (g s).adrShow n else s

/-- A write of `ADR_EVT_DUR`: into the shadow, and the event is armed (R225). -/
def State.adrEvtDur (n : Nat) (v : Word) (s : State) : State :=
  if n < 48 then (s.shadowWr (R.ADR_EVT_DUR n) 3 (v &&& 0xFFFFFF#32)).setCh n (fun c => { c with armed := true }) else s

/-- ADR_EVT_DUR_WRITE (R225): arms the triple. -/
def execAdrEvtDurWrite (ini : Initiator) (n : Nat) (v : Word) (s : State) : Host.Outcome State Fault Refusal :=
  s.runIn (Foot.adr.and [.shadow] []) (fun s => s.owned ini fADR .adr .ctl (fun s => s.adrEvtDur n v))

/-- ADR_EVENT_START (R226 to R228, R244): the start of the first queued event has come. -/
def execAdrEventStart (n : Nat) (s : State) : Host.Outcome State Fault Refusal :=
  s.runIn .adr (fun s => s.adrDo n (fun s =>
    match (s.ch n).queue with
    | [] => s
    | e :: q =>
      if s.clk.tb < e.start then s
      else
        let s := s.setCh n (fun c => { c with queue := q })
        if s.pwr.shed || s.pwr.overShed || ((s.bank (n / 4)).back && s.bankEff (n / 4)) then s.adrDrop n e.start 1
        else if !(s.bank (n / 4)).on then s.adrDrop n e.start 5
        else if (s.ch n).wait.isSome then s.adrDrop n e.start 2
        else s.adrStart n e true))

/-- ADR_BOOST_END (R215, R234): the current reaches I_BOOST; within 2 µs of the start it marks a shorted coil. -/
def execAdrBoostEnd (n : Nat) (s : State) : Host.Outcome State Fault Refusal :=
  s.runIn .adr (fun s => s.adrDo n (fun s =>
    let r := (s.ch n).run
    if (s.ch n).ph != .boost then s
    else if s.tb2 < r.phAt + 200 then s.adrShort n
    else
      let i := 4 * min 20000 (fld r.wI 15 0) / 25
      let s := s.setCh n (fun c => { c with cur := max c.cur i, run := { r with tBst := min 0xFFFE (s.tb2 - r.phAt), reached := true } })
      s.adrToPeak n))

/-- A BOOST that ends without reaching I_BOOST (R215). -/
def State.adrBstTmo (s : State) (n : Nat) : State :=
  ((s.inc R.ADR_BOOST_TMO).setRun n (fun r => { r with bstTmo := true, tBst := 0xFFFF })).adrToPeak n

/-- ADR_BOOST_TIMEOUT (R215). -/
def execAdrBoostTimeout (n : Nat) (s : State) : Host.Outcome State Fault Refusal :=
  s.runIn .adr (fun s => s.adrDo n (fun s =>
    let r := (s.ch n).run
    if (s.ch n).ph = .boost && r.phAt + max 100 (fld r.wT 15 0) ≤ s.tb2 then s.adrBstTmo n else s))

/-- ADR_BANK_ILIM (R245). -/
def execAdrBankIlim (k : Nat) (s : State) : Host.Outcome State Fault Refusal :=
  s.runIn .adr (fun s =>
    match (s.bank k).owner with
    | some i =>
      let n := 4 * k + i
      if (s.ch n).ph = .boost then ((s.inc R.ADR_BANK_ILIM).adrBstTmo n).adrShow n else s
    | none => s)

/-- ADR_PEAK_END (R215). -/
def execAdrPeakEnd (n : Nat) (s : State) : Host.Outcome State Fault Refusal :=
  s.runIn .adr (fun s => s.adrDo n (fun s =>
    let r := (s.ch n).run
    if (s.ch n).ph = .peak && r.phAt + fld r.wT 31 16 ≤ s.tb2 then s.adrToTrans n else s))

/-- ADR_HOLD_REACHED (R215). -/
def execAdrHoldReached (n : Nat) (s : State) : Host.Outcome State Fault Refusal :=
  s.runIn .adr (fun s => s.adrDo n (fun s =>
    if (s.ch n).ph = .trans then s.adrHold n else s))

/-- ADR_EVENT_END (R226): the effective duration has passed. -/
def execAdrEventEnd (n : Nat) (s : State) : Host.Outcome State Fault Refusal :=
  s.runIn .adr (fun s => s.adrDo n (fun s =>
    let c := s.ch n
    if c.ph != .idle && c.ph != .decay && c.run.timed && c.run.act + c.run.eff ≤ s.tb2 then s.adrToDecay n 0 false
    else s))

/-- ADR_DECAY_END (R215): the current is below 50 mA. -/
def execAdrDecayEnd (n : Nat) (s : State) : Host.Outcome State Fault Refusal :=
  s.runIn .adr (fun s => s.adrDo n (fun s => if (s.ch n).ph = .decay then ((s.adrClose n).bankWake (n / 4)).adrPropSync n else s))

/-- ADR_DECAY_TIMEOUT (R215): after 5 ms of DECAY the rest of the current takes the fast path, unless VBST forbids it (R222); the
record closes at its end, with that energy in it (R223). -/
def execAdrDecayTimeout (n : Nat) (s : State) : Host.Outcome State Fault Refusal :=
  s.runIn .adr (fun s => s.adrDo n (fun s =>
    if (s.ch n).ph = .decay && (s.ch n).run.phAt + 2 * tbMs 5 ≤ s.tb2 && !(s.ch n).run.decTmo then
      ((s.adrCloseWindow n).adrToDecay n 0 true).setRun n (fun r => { r with decTmo := true })
    else s))

/-- ADR_CLOSE_WINDOW_END (R250). -/
def execAdrCloseWindowEnd (n : Nat) (s : State) : Host.Outcome State Fault Refusal :=
  s.runIn .adr (fun s => s.adrDo n (fun s =>
    if (s.ch n).run.endAt + 1000 * max 1 (fld (s.adrMot n) 27 20) ≤ s.tb2 then s.adrCloseWindow n else s))

/-- ADR_DEFER_TIMEOUT (R242). -/
def execAdrDeferTimeout (n : Nat) (s : State) : Host.Outcome State Fault Refusal :=
  s.runIn .adr (fun s => s.adrDo n (fun s =>
    match (s.ch n).wait with
    | some w => if 2 * w.1.start + s.deferMax (n / 4) ≤ s.tb2 then s.adrUnwait n 3 else s
    | none => s))

/-- ADR_SHORT (R234). -/
def execAdrShort (n : Nat) (s : State) : Host.Outcome State Fault Refusal :=
  s.runIn .adr (fun s => s.adrDo n (fun s => if s.adrShorted n then s.adrShort n else s))

/-- ADR_SHORT_RETRY (R234): a continuous channel resumes 100 ms after its short. -/
def execAdrShortRetry (n : Nat) (s : State) : Host.Outcome State Fault Refusal :=
  s.runIn .adr (fun s => s.adrDo n (fun s =>
    match (s.ch n).resumeAt with
    | none => s
    | some t =>
      if s.clk.tb < t then s
      else
        let s := if (s.ch n).run.prop then s.adrClose n else s
        let s := (s.setCh n (fun c => { c with resumeAt := none, okSince := s.clk.tb })).adrPropSync n
        if s.bt (R.ADR_CH_CMD n) 16 then s.adrOn n else s))

/-- ADR_OPEN (R233): a continuous channel was below OPEN_TH for 10 ms, or above it for 10 ms. -/
def execAdrOpen (n : Nat) (on : Bool) (s : State) : Host.Outcome State Fault Refusal :=
  s.runIn .adr (fun s => s.adrDo n (fun s =>
    let c := s.ch n
    if s.adrMode n = 0 then s
    else if on && !c.isOpen && 2 * tbMs 10 ≤ c.below then (s.adrSetOpen n true).setCh n (fun c => { c with below := 0 })
    else if !on && c.isOpen && 2 * tbMs 10 ≤ c.above then (s.adrSetOpen n false).setCh n (fun c => { c with above := 0 })
    else s))

/-- ADR_DITHER_PERIOD (R229). -/
def execAdrDitherPeriod (n : Nat) (s : State) : Host.Outcome State Fault Refusal :=
  s.runIn .adr (fun s => s.adrDo n (fun s =>
    if (s.ch n).dithAt.isSome && s.dithDue n then s.adrPeriod n else s))

/-- ADR_TEMP_ESTIMATE_EXPIRY (R232): 60 s after the last measurement. -/
def execAdrTempEstimateExpiry (n : Nat) (s : State) : Host.Outcome State Fault Refusal :=
  s.runIn .adr (fun s => s.adrDo n (fun s =>
    if (s.ch n).est.isSome && s.tbPast (s.ch n).estAt (tbMs 60000) then
      (s.setCh n (fun c => { c with est := none, estNew := true })).adrBand n s.tb2
    else s))

/-- ADR_CH_CMD_WRITE (R229, R230). -/
def execAdrChCmdWrite (ini : Initiator) (n : Nat) (v : Word) (s : State) : Host.Outcome State Fault Refusal :=
  s.runIn .adr (fun s => s.owned ini fADR .adr .ctl (fun s => if n < 48 then s.adrCommand n v else s))

/-- The latch of channel `n` clears (R234). -/
def State.adrUnlatch (s : State) (n : Nat) : State :=
  if (s.ch n).latched then
    let s := (s.setCh n (fun c => { c with latched := false, okSince := s.clk.tb })).adrFaultNote n 4 0
    (s.adrPropSync n).adrShow n
  else s

/-- A write of 1s to `ADR_FAULT0` or 1 clears those latches. -/
def State.adrFaultClear (w : Nat) (v : Word) (s : State) : State :=
  (List.range 32).foldl (fun (s : State) i => if bit v i && 32 * w + i < 48 then s.adrUnlatch (32 * w + i) else s) s

/-- ADR_FAULT_WRITE (R234): writing 1 clears a latch. -/
def execAdrFaultWrite (ini : Initiator) (w : Nat) (v : Word) (s : State) : Host.Outcome State Fault Refusal :=
  s.runIn .adr (fun s => s.owned ini fADR .adr .ctl (fun s => s.adrFaultClear w v))

/-- ADR_BOOST_SPILL (R222): the rail stands at `mv`; above the spill threshold fast decays are forced slow. -/
def execAdrBoostSpill (mv : Nat) (s : State) : Host.Outcome State Fault Refusal :=
  s.runIn .adr (fun s =>
    (s.setAdr (fun a => { a with vbst := mv })).bstSync)

/-- BOOST_CONVERTER_SWITCH (R219, R221, R222, R223): the rail stands at `mv`; `mj` is the energy the converter has
delivered since the last such event. -/
def execBoostConverterSwitch (mv mj : Nat) (s : State) : Host.Outcome State Fault Refusal :=
  s.runIn .adr (fun s => ((s.setAdr (fun a => { a with vbst := mv })).addCnt R.ADR_BST_E_OUT mj).bstSync)

/-! ### Commands -/

/-- Whether an enabled Meridian slot drives channel `n` with PARAM `p` (R205). -/
def State.adrDriven (s : State) (n p : Nat) : Bool :=
  (List.range 64).any (fun m =>
    let d := s.rd (R.MER_DEST m)
    s.bt (R.MER_CFG m) 0 && fld d 1 0 == 1 && fld d 2 2 == p && fld d 8 3 == n)

/-- ADR_EVENT (R237): triples written as by R225 in the first 30 µs of a tick, of the next one where those have passed, and applied
at its end; SAFETY_BLOCKED where a bank's line is removed (R47). -/
def execAdrEvent (c : Cmd) (s : State) : Host.Outcome State Fault Refusal :=
  s.runIn (Foot.adr.and [.shadow] []) (fun s => s.command fADR 0x10 0 c (fun _ s =>
    let p := c.payload
    let k := u8 p 0
    let es := (List.range k).map (fun i => (u8 p (4 + 16 * i), u64 p (8 + 16 * i), u32 p (16 + 16 * i)))
    if k < 1 || 3 < k then refuse stBAD_PARAM s
    else if p.length != 4 + 16 * k then refuse stBAD_LENGTH s
    else if es.any (fun e => 48 ≤ e.1 || s.adrMode e.1 != 0 || e.2.2 = 0 || 0xFFFFFF < e.2.2) then refuse stBAD_PARAM s
    else if es.any (fun e => !s.line (e.1 / 4)) then refuse stSAFETY_BLOCKED s
    else if s.tickEarly then (.now stOK [], es.foldl (fun (s : State) e => s.adrTriple e) s)
    else (.now stOK [], s.setAdr (fun a => { a with late := a.late ++ es }))))

/-- ADR_SET_CURRENT (R237); a current on a bank whose line is removed is SAFETY_BLOCKED (R47). -/
def execAdrSetCurrent (c : Cmd) (s : State) : Host.Outcome State Fault Refusal :=
  s.runIn .adr (fun s => s.command fADR 0x11 0 c (fun _ s =>
    let p := c.payload
    let n := u8 p 0
    if p.length != 8 then refuse stBAD_LENGTH s
    else if 48 ≤ n || 3000 < u32 p 4 then refuse stBAD_PARAM s
    else if s.adrDriven n 0 then refuse stNOT_PERMITTED s
    else if u32 p 4 != 0 && !s.line (n / 4) then refuse stSAFETY_BLOCKED s
    else (.now stOK [], s.adrCommand n (setFld (s.rd (R.ADR_CH_CMD n)) 15 0 (u32 p 4)))))

/-- ADR_SWITCH (R237); ON on a bank whose line is removed is SAFETY_BLOCKED (R47). -/
def execAdrSwitch (c : Cmd) (s : State) : Host.Outcome State Fault Refusal :=
  s.runIn .adr (fun s => s.command fADR 0x12 0 c (fun _ s =>
    let p := c.payload
    let n := u8 p 0
    if p.length != 2 then refuse stBAD_LENGTH s
    else if 48 ≤ n || 1 < u8 p 1 then refuse stBAD_PARAM s
    else if u8 p 1 = 1 && !s.line (n / 4) then refuse stSAFETY_BLOCKED s
    else (.now stOK [], s.adrCommand n (setBit (s.rd (R.ADR_CH_CMD n)) 16 (u8 p 1 = 1)))))

/-- ADR_CH_CLEAR (R234, R237). -/
def execAdrChClear (c : Cmd) (s : State) : Host.Outcome State Fault Refusal :=
  s.runIn .adr (fun s => s.command fADR 0x13 1 c (fun _ s =>
    if c.payload.length != 8 then refuse stBAD_LENGTH s
    else if 2 ^ 48 ≤ u64 c.payload 0 then refuse stBAD_PARAM s
    else (.now stOK [], (List.range 48).foldl (fun (s : State) n =>
      if nbit (u64 c.payload 0) n then ((s.adrUnlatch n).setCh n (fun c => { c with sccnt := 0 })).adrShow n else s) s)))

/-- ADR_READ_CH (R237). -/
def execAdrReadCh (c : Cmd) (s : State) : Host.Outcome State Fault Refusal :=
  s.runIn .adr (fun s => s.command fADR 0x14 0 c (fun _ s =>
    let n := u8 c.payload 0
    if c.payload.length != 1 then refuse stBAD_LENGTH s
    else if 48 ≤ n then refuse stBAD_PARAM s
    else okWith (wBytes (s.rd (R.ADR_CH_STATUS n)) ++ wBytes (s.rd (R.ADR_CH_RMEAS n)) ++ wBytes (s.rd (R.ADR_EVT_LAST n)) ++
      wBytes (s.rd (R.ADR_EVT_TB n)) ++ wBytes (s.rd (R.ADR_EVT_EN n))) s))

/-- The CONFIGURE payload of Reset values that names no channel (R45, R236). -/
def adrNoConfig : List Byte :=
  leBytes 8 0 ++ resetWords ([R.ADR_BST_TARGET, R.ADR_BST_CFG] ++ (List.range 12).flatMap (fun k => [R.ADR_BANK_CFG k, R.ADR_BANK_EN k]))

/-- ADR_BOOST_SET (R219, R237): the target is written through its guard pair and takes effect at a tick boundary. -/
def execAdrBoostSet (c : Cmd) (s : State) : Host.Outcome State Fault Refusal :=
  s.runIn (Foot.adr.and [.prm, .shadow] [.prm]) (fun s => s.command fADR 0x15 1 c (fun _ s =>
    let v := u32 c.payload 0
    if c.payload.length != 4 then refuse stBAD_LENGTH s
    else if v < 24000 || 65000 < v then refuse stBAD_PARAM s
    else (.now stOK [], (s.shadowWr R.ADR_BST_TARGET 3 (word v)).patchApplied fADR 8 (leBytes 4 v) adrNoConfig)))

/-- The offset of the bank part in a CONFIGURE payload (R236, R255). -/
def adrBankPart (p : List Byte) : Nat := 16 + 272 * ((List.range 48).filter (fun n => nbit (u64 p 0) n)).length

/-- ADR_BANK_SET (R255, R256). -/
def execAdrBankSet (c : Cmd) (s : State) : Host.Outcome State Fault Refusal :=
  s.runIn (Foot.adr.and [.prm, .shadow] [.prm]) (fun s => s.command fADR 0x16 1 c (fun _ s =>
    let p := c.payload
    let k := u8 p 0
    let f := u8 p 1
    if p.length != 4 then refuse stBAD_LENGTH s
    else if 12 ≤ k || 7 < f then refuse stBAD_PARAM s
    else if f % 2 = 1 && !s.line k then refuse stSAFETY_BLOCKED s
    else
      let cfg := word (f / 2 % 4 + 256 * u16 p 2)
      let t := (s.shadowWr (R.ADR_BANK_CFG k) 3 cfg).shadowWr (R.ADR_BANK_EN k) 3 (word (f % 2))
      let o := adrBankPart ((s.fn fADR).applied.getD [])
      (.now stOK [], t.patchApplied fADR (o + 8 * k) (wBytes cfg ++ leBytes 4 (f % 2)) adrNoConfig)))

/-- ADR_BANK_READ (R256). -/
def execAdrBankRead (c : Cmd) (s : State) : Host.Outcome State Fault Refusal :=
  s.runIn .adr (fun s => s.command fADR 0x17 0 c (fun _ s =>
    let k := u8 c.payload 0
    if c.payload.length != 1 then refuse stBAD_LENGTH s
    else if 12 ≤ k then refuse stBAD_PARAM s
    else okWith (wBytes (s.rd (R.ADR_BANK_STATUS k)) ++ wBytes (s.rd (R.ADR_BANK_COLLIDE k)) ++
      wBytes (s.rd (R.ADR_BANK_DEFER k)) ++ (List.range 4).flatMap (fun i => wBytes (s.rd (R.ADR_MOT_Q (4 * k + i))))) s))

/-- ADR_READ_MOT (R256). -/
def execAdrReadMot (c : Cmd) (s : State) : Host.Outcome State Fault Refusal :=
  s.runIn .adr (fun s => s.command fADR 0x18 0 c (fun _ s =>
    let n := u8 c.payload 0
    if c.payload.length != 1 then refuse stBAD_LENGTH s
    else if 48 ≤ n then refuse stBAD_PARAM s
    else okWith (wBytes (s.rd (R.ADR_MOT_RES n)) ++ wBytes (s.rd (R.ADR_MOT_Q n)) ++ wBytes (s.rd (R.ADR_EVT_TB n))) s))

/-! ### Meridian, status, configuration, start and stop -/

/-- A destination write of Meridian (R205): none where the channel is not in the mode its PARAM requires. A trim serves events that begin
after this tick (R252). -/
def State.adrMerWrite (s : State) (n p : Nat) (u : Int) : Option State :=
  if 48 ≤ n then none
  else if p = 0 then
    if s.adrMode n = 1 then some (s.adrCommand n (setFld (s.rd (R.ADR_CH_CMD n)) 15 0 (clampI 0 65535 u).toNat)) else none
  else if s.adrMode n = 0 then
    some ((s.setCh n (fun c => { c with
      trimOld := if c.trimTick = some s.clk.tickCount then c.trimOld else s.rd (R.ADR_CH_TRIM n),
      trimTick := some s.clk.tickCount })).wr (R.ADR_CH_TRIM n) (iword u))
  else none

/-- Whether channel `n` is off as a destination (R206). -/
def State.adrDestOff (s : State) (n : Nat) : Bool := !(s.line (n / 4)) || !s.pairGate || s.pwr.shed || s.pwr.overShed || !s.adr.run

/-- ADR_GET_STATUS after the common bytes (R237). -/
def State.adrStatus (s : State) : List Byte :=
  wBytes (s.rd R.ADR_FAULT0) ++ leBytes 2 (s.rd R.ADR_FAULT1).toNat ++ wBytes (s.rd R.ADR_OPEN0) ++
  leBytes 2 (s.rd R.ADR_OPEN1).toNat ++ wBytes (s.rd R.ADR_BST_STATUS) ++ wBytes (s.rd R.ADR_EVENTS) ++
  wBytes (s.rd R.ADR_EVT_DROPS)

/-- The registers of one channel's configuration in the order of R236. -/
def adrChRegs (n : Nat) : List Nat :=
  [R.ADR_CH_CFG n, R.ADR_CH_RCAL n, R.ADR_CH_TSIG n, R.ADR_MOT_CFG n] ++
  (List.range 4).flatMap (fun p => (List.range 4).flatMap (fun b =>
    [R.ADR_PB_I n p b, R.ADR_PB_T n p b, R.ADR_PB_H n p b, R.ADR_PB_M n p b]))

/-- The configuration words of a CONFIGURE payload with their registers (R236, R255). -/
def adrCfgWords (p : List Byte) : List (Nat × Word) :=
  let chs := (List.range 48).filter (fun n => nbit (u64 p 0) n)
  let o := adrBankPart p
  [(R.ADR_BST_TARGET, w32 p 8), (R.ADR_BST_CFG, w32 p 12)] ++
  (chs.zip (List.range 48)).flatMap (fun e =>
    ((adrChRegs e.1).zip (List.range 68)).map (fun r => (r.1, w32 p (16 + 272 * e.2 + 4 * r.2)))) ++
  (List.range 12).flatMap (fun k => [(R.ADR_BANK_CFG k, w32 p (o + 8 * k)), (R.ADR_BANK_EN k, w32 p (o + 8 * k + 4))])

/-- Whether a profile set lies in its ranges (R236). -/
def adrSetOk (i t h m : Word) : Bool :=
  let ib := fld i 15 0
  let ip := fld i 31 16
  let hy := fld m 15 4
  let df := fld m 25 16
  (ib == 0 || (1000 ≤ ib && ib ≤ 20000)) && ip ≤ 20000 && (ib == 0 || ip ≤ ib) && 100 ≤ fld t 15 0
    && fld h 15 0 ≤ 3000 && fld h 31 16 ≤ 1000 && 25 ≤ hy && hy ≤ 1000 && 2 * fld h 15 0 + hy ≤ 6000
    && (df == 0 || (20 ≤ df && df ≤ 500))

/-- CONFIGURE of ADR (R236, R255): the status it answers. -/
def State.adrCfgCheck (s : State) (p : List Byte) : Nat :=
  let chs := (List.range 48).filter (fun n => nbit (u64 p 0) n)
  let o := adrBankPart p
  if p.length != o + 96 then stBAD_LENGTH
  else
    let chOk (j : Nat) : Bool :=
      let b := 16 + 272 * j
      let cfg := w32 p b
      let th := fld (w32 p (b + 8)) 31 16
      let mot := w32 p (b + 12)
      fld cfg 2 1 ≤ 2 && fld cfg 6 5 ≤ 2 && 1 ≤ fld cfg 12 9 && 20 ≤ th && th ≤ 500
        && !(bit mot 1 && (fld mot 13 10 == 0 || fld mot 27 20 == 0))
        && (List.range 16).all (fun q => adrSetOk (w32 p (b + 16 + 16 * q)) (w32 p (b + 20 + 16 * q))
          (w32 p (b + 24 + 16 * q)) (w32 p (b + 28 + 16 * q)))
    let tgt := fld (w32 p 8) 15 0
    let bc := w32 p 12
    if !(decide (u64 p 0 < 2 ^ 48) && decide (24000 ≤ tgt) && decide (tgt ≤ 65000) && decide (1 ≤ fld bc 7 4)
        && decide (fld bc 7 4 ≤ 8) && decide (1 ≤ fld bc 11 8) && (List.range chs.length).all chOk
        && inMap (adrCfgWords p)) then stBAD_PARAM
    else if (List.range 12).any (fun k => u32 p (o + 8 * k + 4) % 2 = 1 && !s.line k) then stSAFETY_BLOCKED
    else stOK

/-- APPLY of ADR (R236): shadows, guard pairs, one strobe of UG3. -/
def State.adrApply (s : State) (p : List Byte) : State :=
  let t := (adrCfgWords p).foldl (fun (t : State) e => t.shadowWr e.1 3 e.2) s
  (t.applyShadow 3).adrAfterUg3

/-- START of ADR: RUN, effective at the next tick boundary. -/
def State.adrStartFn (s : State) : State := s.wb R.ADR_CTRL 0 true

/-- STOP of ADR (R235). -/
def State.adrStopFn (s : State) : State := s.wb R.ADR_CTRL 0 false

/-- REINIT of ADR (R235): as STOP; temperature estimates and latches are lost. -/
def State.adrReinit (s : State) : State :=
  let t := ((s.wb R.ADR_CTRL 0 false).adrRunSync).dropSigs 0 48
  ((List.range 48).foldl (fun (s : State) n =>
    let s := if (s.ch n).ph = .idle then s else s.adrClose n
    s.setCh n (fun c => { ({} : AdrCh) with cfg := c.cfg })) (t.setAdr (fun a => { a with late := [] }))).adrShowAll

end Sys2Proof.Machine
end

