-- ==== Sys2Proof/Machine/TimeRelation.lean ====
section
/-!
DEFINITION. The relation between gPTP time and TB (R444, R445).
-/
namespace Sys2Proof.Machine

/-- gPTP time at a TB value (R444), to the nearest ns. -/
def Gptp.at_ (k : Gptp) (tb : Nat) : Int :=
  (k.g : Int) + divRound (((tb : Int) - (k.tb : Int)) * 20 * (1099511627776 + k.rate)) 1099511627776

/-- TB at a gPTP time (R444): the quotient is rounded down. -/
def Gptp.inv (k : Gptp) (g : Int) : Int :=
  (k.tb : Int) + (g - (k.g : Int)) * 1099511627776 / (20 * (1099511627776 + k.rate))

/-- The relation of a port is valid (R444): asCapable and SYNCED. -/
def State.gptpValid (s : State) (port : Nat) : Bool := s.gptp.synced && nbit s.gptp.asCap port

/-- A 32-bit avtp_timestamp near the gPTP time of an arrival, as TB (R445). -/
def State.avtpTb (s : State) (arrival ts : Nat) : Int :=
  let g := s.gptp.at_ arrival
  let d := (BitVec.ofInt 32 ((ts : Int) - g)).toInt
  s.gptp.inv (g + d)

end Sys2Proof.Machine
end

