-- ==== Sys2Proof/Machine/Camera.lean ====
section
/-!
DEFINITION. The camera pipeline (chapter 14): ingress and assembly of frames, sharing of the ISP, outputs and buffers,
statistics, encoder channels, descriptors, commands, and the interface of the vision accelerator.
-/
namespace Sys2Proof.Machine

/-- Function IDs of the camera pipeline and the vision accelerator. -/
def fCAM : Nat := 13
def fVXA : Nat := 23

/-- Changes the camera state. -/
def State.setCam (s : State) (f : Cam → Cam) : State := { s with cam := f s.cam }

/-- Stream `i`, and a change of it. -/
def State.camStr (s : State) (i : Nat) : CamStr := s.cam.strs.getD i {}
def State.setCamStr (s : State) (i : Nat) (f : CamStr → CamStr) : State :=
  s.setCam (fun c => { c with strs := updAt c.strs i f })

/-- Context `c`, and a change of it. -/
def State.camCtx (s : State) (c : Nat) : CamCtx := s.cam.ctxs.getD c {}
def State.setCamCtx (s : State) (c : Nat) (f : CamCtx → CamCtx) : State :=
  s.setCam (fun x => { x with ctxs := updAt x.ctxs c f })

/-- Encoder channel `e`, and a change of it. -/
def State.camEnc (s : State) (e : Nat) : CamEnc := s.cam.encs.getD e {}
def State.setCamEnc (s : State) (e : Nat) (f : CamEnc → CamEnc) : State :=
  s.setCam (fun x => { x with encs := updAt x.encs e f })

/-- Changes the frame `uid`. -/
def State.setFrame (s : State) (uid : Nat) (f : CamFrame → CamFrame) : State :=
  s.setCam (fun c => { c with frames := c.frames.map (fun x => if x.uid = uid then f x else x) })

/-- The frame `uid`. -/
def State.frame? (s : State) (uid : Nat) : Option CamFrame := s.cam.frames.find? (fun x => x.uid == uid)

/-- The frame in assembly of stream `i`. -/
def State.camCur (s : State) (i : Nat) : Option CamFrame :=
  s.cam.frames.find? (fun x => x.stream == i && !x.closed)

/-- Whether the pipeline runs. -/
def State.camRuns (s : State) : Bool := s.bt R.CAM_CTRL 0

/-- The context configuration in effect. -/
def State.camCfg (s : State) (c : Nat) : Word := s.rd (R.CAM_CTX_CFG c)

/-- The enabled context whose source is stream `i` (R336). -/
def State.camOwner (s : State) (i : Nat) : Option Nat :=
  (List.range 8).find? (fun c => bit (s.camCfg c) 0 && fld (s.camCfg c) 3 1 == i)

/-- Whether stream `i` is processed in line (R337). -/
def State.camInline (s : State) (i : Nat) : Bool := s.cam.mode == 2 && s.fd R.CAM_MODE 5 3 == i

/-! ### Status words -/

/-- Free buffers among a list. -/
def camFree (l : List CamBuf) : Nat := (l.filter (fun b => b.st == 0)).length

/-- Shows the status words of streams, contexts and the mode. -/
def State.camShow (s : State) : State :=
  let s := (List.range 6).foldl (fun (s : State) i =>
    let wait := (s.cam.frames.filter (fun f => f.stream == i && !f.inline_ && !f.dropped)).length
    let t := s.wf_ (R.CAM_STR_STATUS i) 1 0 (s.camStr i).st
    t.wf_ (R.CAM_STR_STATUS i) 4 2 (min 7 wait)) s
  let s := (List.range 8).foldl (fun (s : State) c =>
    let x := s.camCtx c
    let busy := s.cam.frames.any (fun f => f.begun && f.ctx == some c)
    let st := if !bit (s.camCfg c) 0 then 0 else if busy then 2 else 1
    s.wr (R.CAM_CTX_STATUS c) (word (st + 4 * camFree x.d + 32 * camFree x.m + 256 * camFree x.s))) s
  s.wf_ R.CAM_STATUS 12 11 s.cam.mode

/-- A stream changes its STATE (R333); to or from LOST it sends CAM_STREAM. -/
def State.camState (s : State) (i st : Nat) : State :=
  let old := (s.camStr i).st
  let t := s.setCamStr i (fun x => { x with st := st })
  if old != st && (old = 3 || st = 3) then t.notify fCAM 0x80 [byte i, byte st] else t

/-! ### Frames -/

/-- Pixels of packed bytes at 12 bits (R330). -/
def camUnpack (depth : Nat) : Nat → List Byte → List Nat
  | 0, _ => []
  | n + 1, p =>
    if depth = 0 then
      if p.length < 5 then []
      else (List.range 4).map (fun k => 4 * (4 * u8 p k + (u8 p 4 >>> (2 * k)) % 4)) ++ camUnpack depth n (p.drop 5)
    else
      if p.length < 3 then []
      else [16 * u8 p 0 + u8 p 2 % 16, 16 * u8 p 1 + u8 p 2 / 16] ++ camUnpack depth n (p.drop 3)

/-- Bytes that a number of pixels take. -/
def camPacked (depth n : Nat) : Nat := if depth = 0 then n / 4 * 5 else n / 2 * 3

/-- One bit of the segment CRC. -/
def crc16Bit (c : Nat) : Nat :=
  if c.testBit 15 then ((2 * c) ^^^ 0x1021) % 65536 else 2 * c

/-- CRC-16 of R330: polynomial 0x1021, initial value 0xFFFF. -/
def crc16x (p : List Byte) : Nat :=
  p.foldl (fun c b =>
    crc16Bit (crc16Bit (crc16Bit (crc16Bit (crc16Bit (crc16Bit (crc16Bit (crc16Bit (c ^^^ (b.toNat * 256)))))))))) 0xFFFF

/-- The pixel a frame received at a place: the latest segment that holds it. -/
def CamFrame.px? (f : CamFrame) (y x : Nat) : Option Nat :=
  f.segs.reverse.findSome? (fun g => if g.line = y && g.first ≤ x then g.px[x - g.first]? else none)

/-- Whether a frame received every pixel of a line. -/
def CamFrame.lineFull (f : CamFrame) (y : Nat) : Bool := (List.range f.w).all (fun x => (f.px? y x).isSome)

/-- Lines with filled pixels (R331, R346). -/
def CamFrame.badLines (f : CamFrame) : Nat := ((List.range f.h).filter (fun y => !f.lineFull y)).length

/-- Whether any pixel is filled. -/
def CamFrame.incomplete (f : CamFrame) : Bool := f.badLines != 0

/-- The lines of a frame from line `y`, filled as R331 says: `a` is the line two above, `b` the line above. -/
def CamFrame.lines (f : CamFrame) (black : Nat) : Nat → Nat → List Nat → List Nat → List (List Nat)
  | 0, _, _, _ => []
  | n + 1, y, a, b =>
    let l := (List.range f.w).map (fun x => (f.px? y x).getD (if y < 2 then black else a.getD x 0))
    l :: f.lines black n (y + 1) b l

/-- The raw image of a frame, line after line. -/
def CamFrame.image (f : CamFrame) (black : Nat) : List (List Nat) := f.lines black f.h 0 [] []

/-- A dropped frame leaves the pipeline. -/
def State.dropFrame (s : State) (uid : Nat) : State :=
  s.setCam (fun c => { c with frames := c.frames.filter (fun x => x.uid != uid) })

/-- Closes the frame in assembly (R331): counted; without a context or a slot it is gone. -/
def State.camClose (s : State) (f : CamFrame) : State :=
  let s := (s.inc (R.CAM_STR_FRAMES f.stream)).setCamStr f.stream (fun x => { x with closed := f.num :: x.closed })
  if f.dropped then s.dropFrame f.uid
  else if (s.camOwner f.stream).isNone then s.dropFrame f.uid
  else
    let s := s.setFrame f.uid (fun x => { x with closed := true })
    if f.incomplete then s.inc R.CAM_INCOMPLETE else s

/-! ### Sharing the ISP -/

/-- The tables of a context as a list of (index, value): gamma, then LSC from 1,024. -/
def camTab (l : List (Nat × Nat)) (i : Nat) : Nat :=
  match l.lookup i with
  | some v => v
  | none => 0

/-- Takes a free buffer of a list: its number and the list with it in writing. -/
def camTake (l : List CamBuf) : Option Nat × List CamBuf :=
  match ((List.range l.length).find? (fun i => (l.getD i {}).st == 0)) with
  | some i => (some i, updAt l i (fun b => { b with st := 1 }))
  | none => (none, l)

/-- Frame `uid` begins in context `c` (R339, R340, R342): configuration and tables latched, a buffer for each output. -/
def State.camBegin (s : State) (uid c : Nat) : State :=
  let w := s.camCfg c
  let x := s.camCtx c
  let d := if bit w 4 then camTake x.d else (none, x.d)
  let m := if bit w 6 then camTake x.m else (none, x.m)
  let st := if bit w 7 then camTake x.s else (none, x.s)
  let lost := b2n (bit w 4 && d.1.isNone) + b2n (bit w 6 && m.1.isNone) + b2n (bit w 7 && st.1.isNone)
  let s := (s.setCamCtx c (fun y => { y with d := d.2, m := m.2, s := st.2 })).addCnt R.CAM_NOBUF lost
  s.setFrame uid (fun f => { f with
    ctx := some c, begun := true, startAt := s.clk.tb, use := (List.range 14).map (fun i => s.rd (R.CAM_CTX_CFG c + 4 * i)),
    tab := x.tab, bufD := d.1, bufM := m.1, bufS := st.1 })

/-- Lines of a stripe. -/
def State.camStripe (s : State) : Nat := if s.bt R.CAM_MODE 2 then 128 else 64

/-- Whether the next stripe of a frame is ready (R337): its last line has arrived or its frame has closed. -/
def State.camReady (s : State) (f : CamFrame) : Bool :=
  let last := min f.h (s.camStripe * (f.stripes + 1)) - 1
  !f.ready && (f.closed || (f.px? last (f.w - 1)).isSome)

/-- The context a frame belongs to or would be processed by. -/
def State.camFor (s : State) (f : CamFrame) : Option Nat := if f.begun || f.stream = 6 then f.ctx else s.camOwner f.stream

/-- The frame a context would work on next, of those not processed in line: its oldest that is not ready. -/
def State.camNext (s : State) (c : Nat) : Option CamFrame :=
  let l := s.cam.frames.filter (fun f => !f.dropped && !f.inline_ && !f.ready && s.camFor f == some c)
  (sortBy (fun (a b : CamFrame) => decide (a.sof < b.sof)) l).head?

/-- A pending change of MODE takes effect at an idle frame boundary, or from TMS to TMS or INLINE+M2M at a stripe boundary
(R340). -/
def State.camModeChange (s : State) : State :=
  let new := s.fd R.CAM_MODE 1 0
  let idle := s.cam.isp.isNone && !s.cam.frames.any (fun f => f.begun)
  let stripe := s.cam.isp.isNone && s.cam.mode = 1 && (new = 1 || new = 2)
  if s.cam.mode != new && new < 3 && (idle || stripe) then s.setCam (fun c => { c with mode := new }) else s

/-- The ISP, when free, takes its next work (R337). -/
def State.camPick (s : State) : State :=
  let s := s.camModeChange
  if s.cam.isp.isSome then s
  else if s.cam.mode = 0 then
    let l := (List.range 8).filterMap (fun c =>
      match s.camNext c with
      | some f => if f.closed && (f.begun || s.camRuns) then some (c, f) else none
      | none => none)
    match l with
    | [] => s
    | x :: xs =>
      let b := xs.foldl (fun (a y : Nat × CamFrame) => if y.2.sof < a.2.sof then y else a) x
      let s := if b.2.begun then s else s.camBegin b.2.uid b.1
      s.setCam (fun c => { c with isp := some b.2.uid, lastCtx := b.1 })
  else
    let order := (List.range 8).map (fun i => (s.cam.lastCtx + 1 + i) % 8)
    match order.findSome? (fun c =>
      match s.camNext c with
      | some f => if s.camReady f && (f.begun || s.camRuns) then some (c, f) else none
      | none => none) with
    | none => s
    | some b =>
      let s := if b.2.begun then s else s.camBegin b.2.uid b.1
      s.setCam (fun c => { c with isp := some b.2.uid, lastCtx := b.1 })

/-! ### Ingress -/

/-- A frame of stream `i` starts with a segment (R331, R332, R334): a slot of the raw store unless it is processed in line. -/
def State.camStart (s : State) (i num : Nat) (x : CamSeg) (gap : Bool) : State :=
  let z := s.rd (R.CAM_STR_SIZE i)
  let inl := s.camInline i
  let mine := s.cam.frames.filter (fun f => f.stream == i && !f.inline_)
  let wait := (sortBy (fun (a b : CamFrame) => decide (a.sof < b.sof)) (mine.filter (fun f => f.closed && !f.begun))).head?
  let full := !inl && 3 ≤ mine.length
  let s := if full then s.inc R.CAM_DROP else s
  let s := match full, wait with
    | true, some o => s.dropFrame o.uid
    | _, _ => s
  let f : CamFrame :=
    { uid := s.cam.uid, stream := i, num := num, sof := x.at_, first := s.clk.tb, w := fld z 11 0, h := fld z 27 16,
      cap := if x.tv && s.gptpValid i then some (s.avtpTb x.at_ x.ts).toNat else none,
      bayer := s.fd (R.CAM_STR_CFG i) 4 3, seqGap := gap, dropped := full && wait.isNone, inline_ := inl }
  let s := s.setCam (fun c => { c with uid := c.uid + 1, frames := c.frames ++ [f] })
  match inl, s.camOwner i with
  | true, some c => if s.camRuns then s.camBegin f.uid c else s
  | _, _ => s

/-- A segment counted as discarded (R330, R331). -/
def State.camDisc (s : State) (i : Nat) : State :=
  s.wf_ (R.CAM_STR_STATUS i) 31 16 (min 65535 (s.fd (R.CAM_STR_STATUS i) 31 16 + 1))

/-- The pixels of a segment enter the frame in assembly; in line, a frame with 16 unprocessed lines loses them (R337). -/
def State.camAdd (s : State) (f : CamFrame) (g : CamPix) : State :=
  let ends := g.first + g.px.length = f.w
  if f.inline_ && 16 ≤ f.waiting then s
  else s.setFrame f.uid (fun f => { f with
    segs := f.segs ++ [g], waiting := if f.inline_ && ends then f.waiting + 1 else f.waiting })

/-- A video segment of stream `port` (R329 to R334). -/
def State.camSegment (s : State) (port : Nat) (x : CamSeg) : State :=
  let cfg := s.rd (R.CAM_STR_CFG port)
  let z := s.rd (R.CAM_STR_SIZE port)
  if !(s.camRuns && bit cfg 0 && x.sid == s.rd64 (R.CAM_STR_ID_LO port) (R.CAM_STR_ID_HI port)) then s
  else
    let gap := match (s.camStr port).seq with
      | some q => x.seq % 256 != (q + 1) % 256
      | none => false
    let s := s.setCamStr port (fun y => { y with seq := some (x.seq % 256) })
    let s := if gap then s.inc (R.CAM_STR_SEQ port) else s
    let s := match gap, s.camCur port with
      | true, some f => s.setFrame f.uid (fun f => { f with seqGap := true })
      | _, _ => s
    let num := beNat (slice x.data 0 4)
    let line := beNat (slice x.data 4 2)
    let first := beNat (slice x.data 6 2)
    let n := beNat (slice x.data 8 2)
    let depth := fld cfg 1 1
    let body := x.data.drop 12
    if x.data.length < 12 || n < 4 || n % 4 != 0 || first % 4 != 0 || fld z 11 0 < first + n || fld z 27 16 ≤ line ||
        x.len != 12 + camPacked depth n || body.length < camPacked depth n then (s.camDisc port).camShow
    else if bit cfg 2 && crc16x (x.data.take 10 ++ body.take (camPacked depth n)) != beNat (slice x.data 10 2) then
      let s := s.inc (R.CAM_STR_CRC port)
      match s.camCur port with
      | some f => (if f.num = num then s.setFrame f.uid (fun f => { f with badCrc := f.badCrc + 1 }) else s).camShow
      | none => s.camShow
    else
      let cur := s.camCur port
      let same := match cur with
        | some f => f.num == num
        | none => false
      if !same && (s.camStr port).closed.contains num then (s.camDisc port).camShow
      else
        let s := match same, cur with
          | false, some f => s.camClose f
          | _, _ => s
        let s := s.setCamStr port (fun y => { y with lastAt := s.clk.tb })
        let s := if (s.camStr port).st = 2 then s else s.camState port 2
        let s := if same then s else s.camStart port num x (gap && cur.isNone)
        match s.camCur port with
        | none => s.camPick.camShow
        | some f =>
          let s := s.camAdd f { line := line, first := first, px := (camUnpack depth n body).take n }
          let f := match s.frame? f.uid with
            | some g => g
            | none => f
          let s := if line + 1 = f.h && first + n = f.w then s.camClose f else s
          s.camPick.camShow

/-- CAM_SEGMENT (R329 to R334). -/
def execCamSegment (port : Nat) (x : CamSeg) (s : State) : Host.Outcome State Fault Refusal :=
  s.runIn .cam (fun s => s.camSegment port x)

/-- CAM_FRAME_CLOSE_TIMEOUT (R331). -/
def execCamFrameCloseTimeout (port : Nat) (s : State) : Host.Outcome State Fault Refusal :=
  s.runIn .cam (fun s =>
    match s.camCur port with
    | none => s
    | some f =>
      if s.tbPast f.first (tbMs (s.fd (R.CAM_STR_CFG port) 15 8)) then (s.camClose f).camPick.camShow else s)

/-- CAM_STREAM_LOST (R333). -/
def execCamStreamLost (port : Nat) (s : State) : Host.Outcome State Fault Refusal :=
  s.runIn .cam (fun s =>
    if (s.camStr port).st = 2 && s.tbPast (s.camStr port).lastAt (tbMs 500) then
      let s := match s.camCur port with
        | some f => s.camClose f
        | none => s
      let s := s.setCamStr port (fun y => { y with seq := none, closed := [] })
      (s.camState port 3).camPick.camShow
    else s)

/-! ### Outputs -/

/-- A word of the context configuration a frame was latched with. -/
def CamFrame.cfg (f : CamFrame) (i : Nat) : Word := f.use.getD i 0#32

/-- The colour of a Bayer pixel: 0 red, 1 green, 2 blue (orders RGGB, GRBG, GBRG, BGGR). -/
def bayerColour (order y x : Nat) : Nat :=
  let p := 2 * (y % 2) + x % 2
  match order with
  | 0 => [0, 1, 1, 2].getD p 1
  | 1 => [1, 0, 2, 1].getD p 1
  | 2 => [1, 2, 0, 1].getD p 1
  | _ => [2, 1, 1, 0].getD p 1

/-- The AE sums of one zone (R345): R, G, B after stage 1 and the count at 4,095 before it. -/
def camZone (order black : Nat) (img : List (List Nat)) (x0 y0 zw zh : Nat) : Nat × Nat × Nat × Nat :=
  (List.range zh).foldl (fun a j =>
    let l := img.getD (y0 + j) []
    (List.range zw).foldl (fun (a : Nat × Nat × Nat × Nat) i =>
      let v := l.getD (x0 + i) 0
      let b := v - black
      let sat := a.2.2.2 + b2n (v == 4095)
      match bayerColour order (y0 + j) (x0 + i) with
      | 0 => (a.1 + b, a.2.1, a.2.2.1, sat)
      | 1 => (a.1, a.2.1 + b, a.2.2.1, sat)
      | _ => (a.1, a.2.1, a.2.2.1 + b, sat)) a) (0, 0, 0, 0)

/-- The AE grid in row order. -/
def camAe (order black w h : Nat) (img : List (List Nat)) : List Byte :=
  (List.range 16).flatMap (fun r => (List.range 16).flatMap (fun c =>
    let z := camZone order black img (c * (w / 16)) (r * (h / 16)) (w / 16) (h / 16)
    leBytes 4 z.1 ++ leBytes 4 z.2.1 ++ leBytes 4 z.2.2.1 ++ leBytes 4 z.2.2.2))

/-- Luma at a place of an image given line after line. -/
def lumaAt (w : Nat) (l : Array Nat) (y x : Nat) : Nat := l.getD (y * w + x) 0

/-- The histogram of Y [11:4] (R345). -/
def camHist (l : List Nat) : List Byte :=
  (List.range 256).flatMap (fun b => leBytes 4 (l.filter (fun v => v / 16 == b)).length)

/-- The focus sums of 4 × 4 zones (R345). Differences reach the next pixel inside the image. -/
def camFocus (w h : Nat) (l : Array Nat) : List Byte :=
  (List.range 4).flatMap (fun r => (List.range 4).flatMap (fun c =>
    let zw := w / 4
    let zh := h / 4
    leBytes 8 ((List.range zh).foldl (fun a j => (List.range zw).foldl (fun a i =>
      let y := r * zh + j
      let x := c * zw + i
      let v : Int := (lumaAt w l y x : Nat)
      let dx := if x + 1 < w then ((lumaAt w l y (x + 1) : Nat) - v).natAbs else 0
      let dy := if y + 1 < h then ((lumaAt w l (y + 1) x : Nat) - v).natAbs else 0
      a + dx + dy) a) 0)))

/-- One pyramid level from the one below (R341). -/
def camHalf (w h : Nat) (l : Array Nat) : Array Nat :=
  ((List.range (h / 2)).flatMap (fun y => (List.range (w / 2)).map (fun x =>
    (lumaAt w l (2 * y) (2 * x) + lumaAt w l (2 * y) (2 * x + 1) + lumaAt w l (2 * y + 1) (2 * x) +
      lumaAt w l (2 * y + 1) (2 * x + 1) + 2) >>> 2))).toArray

/-- The luminance image with `n` pyramid levels, each level beginning at a 64-byte boundary. -/
def camPyramid : Nat → Nat → Nat → Array Nat → List Byte
  | 0, _, _, l => l.toList.map (fun v => byte v)
  | n + 1, w, h, l =>
    let p := l.toList.map (fun v => byte v)
    padTo ((p.length + 63) / 64 * 64) p ++ camPyramid n (w / 2) (h / 2) (camHalf w h l)

/-- The display image in its format (R341). -/
def camPack (rgb565 : Bool) (l : List (Byte × Byte × Byte)) : List Byte :=
  if rgb565 then l.flatMap (fun p => leBytes 2 (p.1.toNat / 8 * 2048 + p.2.1.toNat / 4 * 32 + p.2.2.toNat / 8))
  else l.flatMap (fun p => [p.1, p.2.1, p.2.2])

/-- The statistics buffer of a frame (R345). -/
def CamFrame.stats (f : CamFrame) (c : Nat) : List Byte :=
  let black := fld (f.cfg 4) 11 0
  let img := f.image black
  let s1 := img.flatten.map (fun v => v - black)
  let y := (Config.camLuma f.use f.tab f.w f.h f.bayer s1).map (fun v => v.toNat)
  let a : BitVec 224 := Config.camAwb f.use f.tab f.w f.h f.bayer s1
  padTo 64 ([byte c, byte f.stream, 0#8, 0#8] ++ leBytes 4 f.num ++ leBytes 8 f.sof ++ leBytes 2 (f.w / 16) ++
    leBytes 2 (f.h / 16)) ++ camAe f.bayer black f.w f.h img ++
    padTo 32 (leBytes 28 a.toNat) ++
    camHist y ++ camFocus f.w f.h y.toArray

/-- The luminance image of a frame with its pyramid (R341). -/
def CamFrame.mv (f : CamFrame) : List Byte :=
  let black := fld (f.cfg 4) 11 0
  let s1 := (f.image black).flatten.map (fun v => v - black)
  let y := (Config.camLuma f.use f.tab f.w f.h f.bayer s1).map (fun v => (Config.camY8 v).toNat)
  camPyramid (fld (f.cfg 0) 12 10) f.w f.h y.toArray

/-- The display image of a frame (R341). -/
def CamFrame.disp (f : CamFrame) : List Byte :=
  let black := fld (f.cfg 4) 11 0
  let s1 := (f.image black).flatten.map (fun v => v - black)
  camPack (bit (f.cfg 0) 8) (Config.camDisp f.use f.tab f.w f.h f.bayer s1)

/-- A buffer in writing is published: held with its content where a descriptor names it, else free. -/
def camPut (l : List CamBuf) (i : Option Nat) (held : Bool) (p : List Byte) : List CamBuf :=
  match i with
  | none => l
  | some i => updAt l i (fun _ => if held then { st := 2, data := p } else {})

/-- A frame reaches its encoder channel (R343). Answers the channel fed. -/
def State.camEncode (s : State) (f : CamFrame) (c : Nat) : Option Nat × State :=
  let e := fld (f.cfg 0) 9 9
  if !bit (f.cfg 0) 5 || !s.bt (R.CAM_ENC_CFG e) 0 then (none, s)
  else
    let x := s.camEnc e
    if x.job.isSome then (none, s.inc (R.CAM_ENC_SKIP e))
    else
      let g := s.fd (R.CAM_ENC_CFG e) 15 8
      let idr := x.force || (g != 0 && g ≤ x.gop)
      (some e, s.setCamEnc e (fun y => { y with
        job := some { ctx := c, num := f.num, sof := f.sof, idr := idr }, force := false,
        gop := if idr then 1 else y.gop + 1 }))

/-- The index byte of a buffer. -/
def bufByte (i : Option Nat) : Byte :=
  match i with
  | some n => byte n
  | none => 0xFF#8

/-- Frame `f` of context `c` completes (R339, R342, R345, R346): outputs written, descriptor published. -/
def State.camDone (s : State) (f : CamFrame) (c : Nat) : State :=
  let late := s.tbPast f.sof (tbMs (fld (f.cfg 13) 7 0) + 1)
  let s := if late then s.inc R.CAM_LATE else s
  let en := s.camEncode f c
  let s := en.2
  let bad := f.badLines
  let pub := (s.camCtx c).pub + 1
  let body := [1#8, byte c, byte f.stream, byte (b2n (bad != 0) + 2 * b2n (f.badCrc != 0) + 4 * b2n late + 8 * b2n f.seqGap +
      16 * b2n f.cap.isSome)] ++ leBytes 4 f.num ++ leBytes 8 f.sof ++ leBytes 8 (f.cap.getD 0) ++
    [bufByte f.bufD, bufByte f.bufM, bufByte f.bufS, bufByte en.1] ++ leBytes 2 bad ++ leBytes 2 f.badCrc ++
    leBytes 4 (min 0xFFFFFFFF (f.startAt - f.sof)) ++ leBytes 4 (min 0xFFFFFFFF (s.clk.tb - f.sof)) ++
    leBytes 4 pub ++ leBytes 16 0
  let rings := (s.mbx.rings.filter (fun r => r.fn == fCAM && r.kind == 1 && r.param == c)).length
  let o := s.offer fCAM 1 (fun p => p == c) (fun q => body ++ leBytes 4 q)
  let s := o.2.addCnt R.CAM_RING_LOST o.1
  let held := decide (o.1 < rings)
  let s := if held then s.inc R.CAM_FRAMES else s
  let s := s.setCamCtx c (fun x => { x with
    pub := if held then pub else x.pub,
    d := camPut x.d f.bufD held f.disp, m := camPut x.m f.bufM held f.mv, s := camPut x.s f.bufS held (f.stats c) })
  s.dropFrame f.uid

/-- CAM_ISP_COMPLETE (R337, R339, R346): the outputs of a frame of context `ctx` are complete. -/
def execCamIspComplete (ctx : Nat) (s : State) : Host.Outcome State Fault Refusal :=
  s.runIn .cam (fun s =>
    match s.cam.frames.find? (fun f => f.begun && f.ctx == some ctx &&
        (f.ready || (s.cam.mode == 0 && s.cam.isp == some f.uid) || (f.inline_ && f.closed && f.waiting == 0))) with
    | none => s
    | some f =>
      let s := s.camDone f ctx
      let s := if s.cam.isp = some f.uid then s.setCam (fun c => { c with isp := none }) else s
      s.camPick.camShow)

/-- ISP_STRIPE_COMPLETE (R337, R340): `inl` lines of the inline stream are processed, and the stripe in progress completes. -/
def execIspStripeComplete (inl : Nat) (stripe : Bool) (s : State) : Host.Outcome State Fault Refusal :=
  s.runIn .cam (fun s =>
    if s.cam.mode = 0 then s
    else
      let s := s.setCam (fun c => { c with frames := c.frames.map (fun f =>
        if f.inline_ && f.begun then { f with waiting := f.waiting - inl } else f) })
      let s := match stripe, s.cam.isp with
        | true, some u =>
          let h := s.camStripe
          (s.setFrame u (fun f => { f with stripes := f.stripes + 1, ready := decide (f.h ≤ h * (f.stripes + 1)) })).setCam
            (fun c => { c with isp := none })
        | _, _ => s
      s.camPick.camShow)

/-- CAM_LOAD_UPDATE (R338): occupancy of the last second; OVERLOAD at 1,000. -/
def execCamLoadUpdate (load : Nat) (s : State) : Host.Outcome State Fault Refusal :=
  s.runIn .cam (fun s =>
    let exceeds := decide (1000 ≤ load)
    let was := s.bt R.CAM_STATUS 10
    let s := (s.wf_ R.CAM_STATUS 9 0 load).wb R.CAM_STATUS 10 exceeds
    if exceeds = was then s else s.notify fCAM 0x81 ([byte (b2n exceeds), 0#8] ++ leBytes 2 load))

/-! ### Encoder -/

/-- Size of a bitstream buffer (R344). -/
def encSize : Nat := 8388608

/-- CAM_ENC_AU_COMPLETE (R343, R344, R346): the access unit enters the bitstream buffer, or is dropped where it would pass RD. -/
def execCamEncAuComplete (e : Nat) (au : List Byte) (s : State) : Host.Outcome State Fault Refusal :=
  s.runIn .cam (fun s =>
    match (s.camEnc e).job with
    | none => s
    | some j =>
      let wrp := s.fd (R.CAM_ENC_WR e) 22 0
      let rdp := s.fd (R.CAM_ENC_RD e) 22 0
      let n := au.length
      let at_ := if encSize < wrp + n then 0 else wrp
      let room := if wrp < rdp then at_ = wrp && wrp + n < rdp
        else if at_ = wrp then wrp + n < encSize || rdp != 0 || wrp = rdp
        else n < rdp || wrp = rdp
      let s := s.setCamEnc e (fun y => { y with job := none })
      if !room || encSize < n then (s.inc (R.CAM_ENC_SKIP e)).setCamEnc e (fun y => { y with force := true })
      else
        let s := (s.wr (R.CAM_ENC_WR e) (word ((at_ + n) % encSize))).inc (R.CAM_ENC_AUS e)
        let s := s.setCamEnc e (fun y => { y with
          aus := y.aus.filter (fun a => a.1 + a.2.length ≤ at_ || at_ + n ≤ a.1) ++ [(at_, au)] })
        let body := [2#8, byte e, byte j.ctx, byte (b2n j.idr)] ++ leBytes 4 j.num ++ leBytes 8 j.sof ++ leBytes 4 at_ ++
          leBytes 4 n ++ leBytes 12 0 ++ leBytes 4 (min 0xFFFFFFFF (s.clk.tb - j.sof)) ++ wBytes (s.rd (R.CAM_ENC_AUS e)) ++
          leBytes 16 0
        let o := s.offer fCAM 2 (fun p => p == e) (fun q => body ++ leBytes 4 q)
        o.2.addCnt R.CAM_RING_LOST o.1)

/-- A write of `CAM_ENC_CMD`. -/
def State.camEncCmd (e : Nat) (v : Word) (s : State) : State :=
  if bit v 0 then s.setCamEnc e (fun y => { y with force := true }) else s

/-- CAM_ENC_CMD_WRITE (R343). -/
def execCamEncCmdWrite (ini : Initiator) (e : Nat) (v : Word) (s : State) : Host.Outcome State Fault Refusal :=
  s.runIn .cam (fun s => s.owned ini fCAM .cam .ctl (fun s => s.camEncCmd e v))

/-- CAM_ENC_RD_WRITE (R344). -/
def execCamEncRdWrite (ini : Initiator) (e : Nat) (v : Word) (s : State) : Host.Outcome State Fault Refusal :=
  s.runIn .cam (fun s => s.owned ini fCAM .cam .ctl (fun s => s.wr (R.CAM_ENC_RD e) (word (fld v 22 0))))

/-! ### Tables and buffers -/

/-- Number of entries of a table (R340). -/
def camTblSize (t : Nat) : Nat := if t = 0 then 65 else 884

/-- The key of a table entry among a context's entries. -/
def camKey (t i : Nat) : Nat := 1024 * t + i

/-- A table entry of the pending copy of context `c`. -/
def State.camTblGet (s : State) (c t i : Nat) : Nat :=
  match s.cam.tblPend.find? (fun e => e.1 == c && e.2.1 == camKey t i) with
  | some e => e.2.2
  | none => camTab (s.camCtx c).tab (camKey t i)

/-- Writes a table entry into the pending copy (R340). -/
def State.camTblPut (s : State) (c t i v : Nat) : State :=
  (s.setCam (fun x => { x with
    tblPend := (c, camKey t i, v) :: x.tblPend.filter (fun e => !(e.1 == c && e.2.1 == camKey t i)) })).wb R.FAB_UG_PEND 8 true

/-- The table entry that `CAM_TBL_SEL` selects. -/
def State.camTblRead (s : State) : Word :=
  let q := s.rd R.CAM_TBL_SEL
  word (s.camTblGet (fld q 2 0) (fld q 3 3) (fld q 25 16))

/-- The index advances on each data access. -/
def State.camTblNext (s : State) : State :=
  s.wf_ R.CAM_TBL_SEL 25 16 ((s.fd R.CAM_TBL_SEL 25 16 + 1) % 1024)

/-- A write of the selected table entry. -/
def State.camTblWrite (s : State) (v : Word) : State :=
  let q := s.rd R.CAM_TBL_SEL
  if fld q 25 16 < camTblSize (fld q 3 3) then s.camTblPut (fld q 2 0) (fld q 3 3) (fld q 25 16) (fld v 11 0) else s

/-- CAM_TBL_DATA_ACCESS (R340): a read (no word) or a write of the entry, and the index advances. -/
def execCamTblDataAccess (ini : Initiator) (w : Option Word) (s : State) : Host.Outcome State Fault Refusal :=
  s.runIn .cam (fun s =>
    match w with
    | none => s.fetched ini .ctl s.camTblRead State.camTblNext
    | some v => s.owned ini fCAM .cam .ctl (fun s => (s.camTblWrite v).camTblNext))

/-- A changed SRC ends a frame in assembly without a descriptor (R340): closed and gone, with the buffers it was writing free. -/
def State.camAbandon (s : State) (f : CamFrame) : State :=
  let put (l : List CamBuf) (i : Option Nat) : List CamBuf := camPut l i false []
  let s := s.setCamCtx (f.ctx.getD 8) (fun x => { x with d := put x.d f.bufD, m := put x.m f.bufM, s := put x.s f.bufS })
  let s := if s.cam.isp = some f.uid then s.setCam (fun c => { c with isp := none }) else s
  s.camClose { f with dropped := true }

/-- A UG8 strobe (R340): tables, streams and contexts take their new values; a changed source closes the frame in assembly
without a descriptor. -/
def State.camAfterUg8 (s : State) : State :=
  let s := s.cam.tblPend.foldl (fun (s : State) e =>
    s.setCamCtx e.1 (fun x => { x with tab := (e.2.1, e.2.2) :: x.tab.filter (fun k => k.1 != e.2.1) })) s
  let s := s.setCam (fun c => { c with tblPend := [] })
  let s := (List.range 8).foldl (fun (s : State) c =>
    let w := s.camCfg c
    let x := s.camCtx c
    let s := if x.en && x.src != fld w 3 1 then
        match s.camCur x.src with
        | some f => if (s.camFor f).getD c = c then s.camAbandon f else s
        | none => s
      else s
    s.setCamCtx c (fun y => { y with en := bit w 0, src := fld w 3 1 })) s
  let s := (List.range 6).foldl (fun (s : State) i =>
    let en := s.bt (R.CAM_STR_CFG i) 0 && s.camRuns
    if !en then s.setCamStr i (fun _ => ({} : CamStr))
    else if (s.camStr i).st = 0 then s.setCamStr i (fun _ => { st := 1 }) else s) s
  s.camPick.camShow

/-- Frees buffers of an output of context `c` named by a mask (R342): held ones only. -/
def State.camRel (s : State) (c kind mask : Nat) : State :=
  let f (l : List CamBuf) : List CamBuf :=
    (List.range l.length).map (fun i =>
      let b := l.getD i {}
      if nbit mask i && b.st == 2 then {} else b)
  s.setCamCtx c (fun x =>
    match kind with
    | 0 => { x with d := f x.d }
    | 1 => { x with m := f x.m }
    | _ => { x with s := f x.s })

/-- A write of `CAM_CTX_REL`. -/
def State.camRelWrite (ctx : Nat) (v : Word) (s : State) : State :=
  (((s.camRel ctx 0 (fld v 7 0)).camRel ctx 1 (fld v 15 8)).camRel ctx 2 (fld v 23 16)).camShow

/-- CAM_CTX_REL_WRITE (R342). -/
def execCamCtxRelWrite (ini : Initiator) (ctx : Nat) (v : Word) (s : State) : Host.Outcome State Fault Refusal :=
  s.runIn .cam (fun s => s.owned ini fCAM .cam .ctl (fun s => s.camRelWrite ctx v))

/-! ### Commands -/

/-- Whether a command came over UDP (R346). -/
def overUdp (c : Cmd) : Bool :=
  match c.origin with
  | .udp _ _ => true
  | .ring _ => false

/-- CAM_RING_OPEN (R346, R560). -/
def execCamRingOpen (c : Cmd) (s : State) : Host.Outcome State Fault Refusal :=
  s.runIn .cam (fun s => s.command fCAM 0x10 0 c (fun k s =>
    if c.payload.length != 2 then refuse stBAD_LENGTH s
    else if overUdp c then refuse stNOT_PERMITTED s
    else if 8 ≤ u8 c.payload 0 then refuse stBAD_PARAM s
    else ringReply s (s.openRing k fCAM 1 (u8 c.payload 0) (u8 c.payload 1) false [])))

/-- CAM_ENC_OPEN (R346, R350, R560). -/
def execCamEncOpen (c : Cmd) (s : State) : Host.Outcome State Fault Refusal :=
  s.runIn .cam (fun s => s.command fCAM 0x11 0 c (fun k s =>
    let e := u8 c.payload 0
    if c.payload.length != 2 then refuse stBAD_LENGTH s
    else if overUdp c then refuse stNOT_PERMITTED s
    else if 2 ≤ e then refuse stBAD_PARAM s
    else
      match s.openRing k fCAM 2 e (u8 c.payload 1) false [] with
      | .error x => refuse x s
      | .ok (n, t) => (.now stOK ([byte n, 0#8, 0#8, 0#8] ++ leBytes 8 (Config.camBitsAddr e)), t)))

/-- CAM_BUFFERS (R350). -/
def execCamBuffers (c : Cmd) (s : State) : Host.Outcome State Fault Refusal :=
  s.runIn .cam (fun s => s.command fCAM 0x12 0 c (fun _ s =>
    let x := u8 c.payload 0
    let o := u8 c.payload 1
    if c.payload.length != 2 then refuse stBAD_LENGTH s
    else if 8 ≤ x || 3 ≤ o then refuse stBAD_PARAM s
    else
      let y := s.camCtx x
      let n := (if o = 0 then y.d else if o = 1 then y.m else y.s).length
      okWith ([byte n] ++ leBytes 7 0 ++ (List.range n).flatMap (fun i => leBytes 8 (Config.camBufAddr x o i))) s))

/-- CAM_RELEASE (R342, R344, R350). -/
def execCamRelease (c : Cmd) (s : State) : Host.Outcome State Fault Refusal :=
  s.runIn .cam (fun s => s.command fCAM 0x13 0 c (fun _ s =>
    let p := c.payload
    let x := u8 p 0
    let k := u8 p 1
    if p.length != 8 then refuse stBAD_LENGTH s
    else if 3 < k || (k < 3 && 8 ≤ x) || (k = 3 && (2 ≤ x || encSize ≤ u32 p 4)) then refuse stBAD_PARAM s
    else if k = 3 then okWith [] (s.wr (R.CAM_ENC_RD x) (w32 p 4))
    else okWith [] (s.camRel x k (u32 p 4)).camShow))

/-- CAM_TABLE_SET (R340, R350). -/
def execCamTableSet (c : Cmd) (s : State) : Host.Outcome State Fault Refusal :=
  s.runIn (Foot.cam.and [.prm, .shadow] [.prm]) (fun s => s.command fCAM 0x14 1 c (fun _ s =>
    let p := c.payload
    let x := u8 p 0
    let t := u8 p 1
    if p.length < 4 then refuse stBAD_LENGTH s
    else if 8 ≤ x || 2 ≤ t then refuse stBAD_PARAM s
    else if p.length != 4 + 2 * camTblSize t then refuse stBAD_LENGTH s
    else if (List.range (camTblSize t)).any (fun i => 4095 < u16 p (4 + 2 * i)) then refuse stBAD_PARAM s
    else
      let s := (List.range (camTblSize t)).foldl (fun (s : State) i => s.camTblPut x t i (u16 p (4 + 2 * i))) s
      okWith [] (((s.applyShadow 8).camAfterUg8).prmItem (256 * fCAM + 2 * x + t) (p.drop 4))))

/-- CAM_M2M_SUBMIT (R336, R350): `mem` is what stands in DRAM from the given address. -/
def execCamM2mSubmit (c : Cmd) (mem : List Byte) (s : State) : Host.Outcome State Fault Refusal :=
  s.runIn .cam (fun s => s.command fCAM 0x15 0 c (fun _ s =>
    let p := c.payload
    let x := u8 p 0
    let cfg := s.camCfg x
    let w := u16 p 4
    let h := u16 p 6
    let depth := u8 p 1 % 2
    if p.length != 20 then refuse stBAD_LENGTH s
    else if 8 ≤ x || 7 < u8 p 1 || !bit cfg 0 || fld cfg 3 1 != 6 || w < 64 || 1920 < w || h < 64 || 1200 < h || w % 4 != 0 then
      refuse stBAD_PARAM s
    else if !s.isRunning fCAM then refuse stWRONG_STATE s
    else if 4 ≤ (s.cam.frames.filter (fun f => f.stream == 6 && !f.begun)).length then refuse stNO_RESOURCE s
    else
      let px := camUnpack depth (w * h / 2 + 1) mem
      let segs := (List.range h).map (fun y => ({ line := y, first := 0, px := (px.drop (y * w)).take w } : CamPix))
      let f : CamFrame :=
        { uid := s.cam.uid, stream := 6, ctx := some x, num := u32 p 16, sof := s.clk.tb, first := s.clk.tb, w := w, h := h,
          bayer := u8 p 1 / 2, segs := segs, closed := true }
      okWith [] (s.setCam (fun y => { y with uid := y.uid + 1, frames := y.frames ++ [f] })).camPick.camShow))

/-- CAM_ENC_IDR (R343, R350). -/
def execCamEncIdr (c : Cmd) (s : State) : Host.Outcome State Fault Refusal :=
  s.runIn .cam (fun s => s.command fCAM 0x16 0 c (fun _ s =>
    if c.payload.length != 1 then refuse stBAD_LENGTH s
    else if 2 ≤ u8 c.payload 0 then refuse stBAD_PARAM s
    else okWith [] (s.setCamEnc (u8 c.payload 0) (fun y => { y with force := true }))))

/-! ### Status, configuration, start and stop -/

/-- CAM_GET_STATUS after the common bytes (R350). -/
def State.camStatus (s : State) : List Byte :=
  (List.range 6).map (fun i => byte (s.camStr i).st) ++ leBytes 2 (s.fd R.CAM_STATUS 9 0) ++ wBytes (s.rd R.CAM_FRAMES) ++
    wBytes (s.rd R.CAM_DROP) ++ wBytes (s.rd R.CAM_LATE)

/-- The registers of a CONFIGURE payload with its words (R349). -/
def camCfgWords (p : List Byte) : List (Nat × Word) :=
  [(R.CAM_MODE, w32 p 0)] ++
  (List.range 6).flatMap (fun i => (List.range 4).map (fun j => (R.CAM_STR_ID_LO i + 4 * j, w32 p (4 + 32 * i + 4 * j)))) ++
  (List.range 8).flatMap (fun c => (List.range 14).map (fun j => (R.CAM_CTX_CFG c + 4 * j, w32 p (196 + 84 * c + 4 * j)))) ++
  (List.range 2).flatMap (fun e => (List.range 3).map (fun j => (R.CAM_ENC_CFG e + 4 * j, w32 p (868 + 32 * e + 4 * j))))

/-- Whether the words of a context are in range (R336, R341, R349). -/
def camCtxOk (p : List Byte) (c : Nat) : Bool :=
  let w (j : Nat) : Word := w32 p (196 + 84 * c + 4 * j)
  let src := fld (w 0) 3 1
  let z := if src < 6 then w32 p (4 + 32 * src + 12) else word (1200 * 65536 + 1920)
  let sw := fld z 11 0
  let sh := fld z 27 16
  let dw := fld (w 1) 11 0
  let dh := fld (w 1) 27 16
  let cw := fld (w 3) 11 0
  let ch := fld (w 3) 27 16
  let cx := fld (w 2) 11 0
  let cy := fld (w 2) 27 16
  let en := bit (w 0) 0
  src ≤ 6 && fld (w 0) 12 10 ≤ 4 && 2 ≤ fld (w 0) 15 13 && 1 ≤ fld (w 13) 7 0 &&
  (!(en && bit (w 0) 4) || (64 ≤ dw && dw ≤ sw && 64 ≤ dh && dh ≤ sh)) &&
  (!(en && bit (w 0) 5) || (0 < cw && 0 < ch && cw % 8 == 0 && ch % 8 == 0 && cw ≤ 1920 && ch ≤ 1080 && cx % 2 == 0 &&
    cy % 2 == 0 && cx + cw ≤ sw && cy + ch ≤ sh))

/-- CONFIGURE of CAM (R336, R349). -/
def camCfgCheck (p : List Byte) : Nat :=
  let cfg (c : Nat) : Word := w32 p (196 + 84 * c)
  let clash := (List.range 8).any (fun a => (List.range a).any (fun b =>
    bit (cfg a) 0 && bit (cfg b) 0 &&
    ((fld (cfg a) 3 1 < 6 && fld (cfg a) 3 1 == fld (cfg b) 3 1) ||
     (bit (cfg a) 5 && bit (cfg b) 5 && bit (cfg a) 9 == bit (cfg b) 9))))
  let strOk := (List.range 6).all (fun i =>
    let c := w32 p (4 + 32 * i + 8)
    let z := w32 p (4 + 32 * i + 12)
    10 ≤ fld c 15 8 && 64 ≤ fld z 11 0 && fld z 11 0 ≤ 1920 && 64 ≤ fld z 27 16 && fld z 27 16 ≤ 1200)
  let encOk := (List.range 2).all (fun e =>
    let r := w32 p (868 + 32 * e + 4)
    let q := w32 p (868 + 32 * e + 8)
    500 ≤ fld r 15 0 && fld r 15 0 ≤ 20000 && 10 ≤ fld q 5 0 && fld q 5 0 ≤ 51 && 10 ≤ fld q 13 8 && fld q 13 8 ≤ 51)
  if p.length != 932 then stBAD_LENGTH
  else if !inMap (camCfgWords p) || 2 < fld (w32 p 0) 1 0 || 5 < fld (w32 p 0) 5 3 || !strOk || !encOk || clash ||
      !(List.range 8).all (fun c => camCtxOk p c) then stBAD_PARAM
  else stOK

/-- Bytes of the buffers a CONFIGURE payload asks for (R342): each buffer for the largest output of its kind. -/
def camBytes (p : List Byte) : Nat :=
  (List.range 8).foldl (fun a c =>
    let w := w32 p (196 + 84 * c)
    let n := fld w 15 13
    if !bit w 0 then a
    else a + n * (6912000 * b2n (bit w 4) + 3069032 * b2n (bit w 6) + 5344 * b2n (bit w 7))) 0

/-- Whether the partition can hold the buffers; APPLY answers NO_RESOURCE where not (R342). -/
def camApplyOk (p : List Byte) : Bool := camBytes p ≤ Config.camPartition

/-- The buffers of an output after APPLY. -/
def camResize (on : Bool) (n : Nat) (l : List CamBuf) : List CamBuf :=
  if on then (l ++ List.replicate n ({} : CamBuf)).take n else []

/-- APPLY of CAM (R342, R349): buffers allocated, UG8 strobed once. -/
def State.camApply (s : State) (p : List Byte) : State :=
  let t := (camCfgWords p).foldl (fun (t : State) e => t.shadowWr e.1 8 (e.2 &&& maskAt e.1)) s
  let t := (List.range 8).foldl (fun (t : State) c =>
    let w := w32 p (196 + 84 * c)
    let n := fld w 15 13
    t.setCamCtx c (fun x => { x with
      d := camResize (bit w 0 && bit w 4) n x.d, m := camResize (bit w 0 && bit w 6) n x.m,
      s := camResize (bit w 0 && bit w 7) n x.s })) t
  (t.applyShadow 8).camAfterUg8

/-- START of CAM: RUN set, an IDR on each channel (R343). -/
def State.camStartFn (s : State) : State :=
  let t := s.wb R.CAM_CTRL 0 true
  let t := t.setCam (fun c => { c with encs := c.encs.map (fun e => { e with force := true }) })
  t.camAfterUg8

/-- STOP of CAM (R347). -/
def State.camStopFn (s : State) : State :=
  let t := s.wb R.CAM_CTRL 0 false
  let waiting := (t.cam.frames.filter (fun f => f.closed && !f.begun)).length
  let t := t.addCnt R.CAM_DROP waiting
  let t := t.setCam (fun c => { c with
    frames := (c.frames.filter (fun f => f.begun)).map (fun f => { f with closed := true }),
    strs := List.replicate 6 {} })
  t.camShow

/-- REINIT of CAM and the return to BASIC (R347): every buffer is freed. -/
def State.camReinit (s : State) : State :=
  let t := s.camStopFn
  let t := t.setCam (fun c => { ({} : Cam) with
    uid := c.uid, mode := t.fd R.CAM_MODE 1 0,
    ctxs := c.ctxs.map (fun x => { x with
      d := x.d.map (fun _ => ({} : CamBuf)), m := x.m.map (fun _ => ({} : CamBuf)), s := x.s.map (fun _ => ({} : CamBuf)), pub := 0 }) })
  let t := (List.range 2).foldl (fun (t : State) e => (t.wr (R.CAM_ENC_WR e) 0#32).wr (R.CAM_ENC_RD e) 0#32) t
  let t := (List.range 6).foldl (fun (t : State) i => t.wr (R.CAM_STR_STATUS i) 0#32) t
  (t.wf_ R.CAM_STATUS 10 0 0).camShow

/-- The next frame of each encoder channel is an IDR: the return of the PHYs (R347). -/
def State.camPhyReturn (s : State) : State :=
  s.setCam (fun c => { c with encs := c.encs.map (fun e => { e with force := true }) })

/-- A shed at V_RST (R347): the PHYs go off and the frames in assembly close. -/
def State.camShed (s : State) : State :=
  ((List.range 6).foldl (fun (s : State) i =>
    match s.camCur i with
    | some f => s.camClose f
    | none => s) s).camPick.camShow

/-! ### The vision accelerator -/

/-- VXA_GET_STATUS after the common bytes (R348). -/
def State.vxaStatus (s : State) : List Byte :=
  leBytes 4 s.vxa.done ++ leBytes 4 s.vxa.abrt ++ leBytes 2 s.vxa.load ++ leBytes 2 ((s.sig 0x1D2).toNat % 65536) ++
    [byte (b2n s.pwr.vxaHalf), 0#8, 0#8, 0#8]

/-- Every running job of the accelerator is aborted and counted (R348). -/
def State.vxaAbort (s : State) : State :=
  { s with vxa := { s.vxa with jobs := 0, abrt := s.vxa.abrt + s.vxa.jobs, load := 0 } }

end Sys2Proof.Machine
end

