-- ==== Sys2Proof/Machine/CanQueue.lean ====
section
/-!
DEFINITION. The frames that stand for transmission on a CAN controller (R422), shared by the bus functions and the pair.
-/
namespace Sys2Proof.Machine

/-- Controller `n`. -/
def State.canCtl (s : State) (n : Nat) : CanCtl := s.can.ctls.getD n {}

/-- Changes controller `n`. -/
def State.setCtl (s : State) (n : Nat) (f : CanCtl → CanCtl) : State :=
  { s with can := { s.can with ctls := updAt s.can.ctls n f } }

/-- STATE of controller `n`: 0 OFF, 1 ACTIVE, 2 PASSIVE, 3 BUSOFF, 4 RECOVERING, 5 SLEEP (R426). -/
def State.canState (s : State) (n : Nat) : Nat := s.fd (R.CAN_STATUS n) 2 0

/-- A frame is put among those that stand on controller `n`, where it runs and is not bus-off. -/
def State.canPush (s : State) (n : Nat) (x : CanTx) : State :=
  if s.canState n == 1 || s.canState n == 2 || s.canState n == 4 then s.setCtl n (fun k => { k with tx := k.tx ++ [x] })
  else s

end Sys2Proof.Machine
end

