-- ==== Sys2Proof/Machine/Coelostat.lean ====
section
/-!
DEFINITION. Coelostat (chapter 06): samples, cost, dither, demodulation, blocks, freeze, override and its commands.
-/
namespace Sys2Proof.Machine

/-- Function ID of Coelostat. -/
def fCST : Nat := 8

/-- Changes the state of Coelostat. -/
def State.setCst (s : State) (f : Cst → Cst) : State := { s with cst := f s.cst }

/-- Phases of R154. -/
def phIDLE : Nat := 0
def phHOLD : Nat := 1
def phACCUM : Nat := 2
def phFROZEN : Nat := 3

/-- The configuration registers of Coelostat that take effect when a block starts (R154). -/
def cstCfgRegs : List Nat :=
  [R.CST_CTRL, R.CST_WIN, R.CST_RMIN, R.CST_LPT_CFG, R.CST_LPT_MIN] ++
  (List.range 8).flatMap (fun t => [R.CST_TERM_CFG t, R.CST_TERM_W t, R.CST_TERM_REF t]) ++
  (List.range 8).flatMap (fun f => [R.CST_FRZ_CFG f, R.CST_FRZ_THR f]) ++
  (List.range 32).flatMap (fun i => [R.CST_MF_PATH i, R.CST_MF_DLY i, R.CST_MF_LO i, R.CST_MF_HI i,
    R.CST_MF_STEP i, R.CST_MF_K i])

/-- A configuration word in force; before any configuration came into force, the register itself. -/
def State.cstW (s : State) (a : Nat) : Word :=
  match s.cst.cfg.lookup a with
  | some v => v
  | none => s.rd a

/-- A field of a configuration word in force. -/
def State.cstF (s : State) (a hi lo : Nat) : Nat := fld (s.cstW a) hi lo

/-- Block length N, 200 to 10,000 (R149). -/
def State.cstN (s : State) : Nat := clampN 200 10000 (s.cstF R.CST_WIN 13 0)

/-- Amplitude of MF `i`; 0 without dither (R145). -/
def State.cstAmp (s : State) (i : Nat) : Nat :=
  if s.cstF (R.CST_MF_PATH i) 8 8 = 1 then s.cstF (R.CST_MF_STEP i) 31 16 else 0

/-- Centre value of MF `i`. -/
def State.cstU (s : State) (i : Nat) : Int := (s.rd (R.CST_MF_U i)).toInt

/-- A value of MF `i` clipped to the room its dither leaves (R145). -/
def State.cstClip (s : State) (i : Nat) (v : Int) : Int :=
  clampI ((s.cstW (R.CST_MF_LO i)).toInt + s.cstAmp i) ((s.cstW (R.CST_MF_HI i)).toInt - s.cstAmp i) v

/-- Sets the centre value of MF `i`. -/
def State.setU (s : State) (i : Nat) (v : Int) : State := s.wr (R.CST_MF_U i) (iword v)

/-- Whether MF `i` is used: its path has a TYPE (R143). -/
def State.cstUsed (s : State) (i : Nat) : Bool := s.cstF (R.CST_MF_PATH i) 1 0 != 0

/-- Whether MF `i` is overridden (R160). -/
def State.cstOvr (s : State) (i : Nat) : Bool := s.bt R.CST_OVR i

/-- The MFs whose DITH bit is set and that are used. -/
def State.cstDith (s : State) : List Nat :=
  (List.range 32).filter (fun i => s.cstUsed i && s.cstF (R.CST_MF_PATH i) 8 8 == 1)

/-- Whether a set of cycle counts breaks a rule of R149 other than the first. -/
def ditherConflict (n : Nat) (ms : List Nat) : Bool :=
  ms.any (fun m => 1000 * m < 2 * n || 5 * n < 100 * m) || !decide ms.Nodup ||
  ms.any (fun m => ms.any (fun j => ms.any (fun k => j != k && (m == j + k || m + k == j)) || m == 2 * j))

/-- The MFs that dither: the eight lowest of the set, those overridden left out (R149, R160). -/
def State.cstActive (s : State) : List Nat := (s.cstDith.take 8).filter (fun i => !s.cstOvr i)

/-- Cycles per block of MF `i`. -/
def State.cstM (s : State) (i : Nat) : Nat := s.cstF (R.CST_MF_PATH i) 24 16

/-- Whether the dithering set breaks R149. -/
def State.cstConflict (s : State) : Bool := ditherConflict s.cstN ((s.cstDith.take 8).map (fun i => s.cstM i))

/-- The entry of the module's 16-bit sine table at angle 2π·num/den (R150): 32,767 times the sine, one of the two neighbours of what is no
whole number, which one is a free value. An angle has one entry, however it is written. -/
def sin15 (num : Int) (den : Nat) : Int :=
  let r := (num % (den : Int)).toNat
  let a := r / Nat.gcd r den
  let b := den / Nat.gcd r den
  if 2 * a % b = 0 then 0
  else if 4 * a = b then 32767
  else if 4 * a = 3 * b then -32767
  else 32767 * sin64 (rad64 (2 * a : Nat) b) / (2 ^ 64 : Nat) + (if Config.sin15Up a b then 1 else 0)

/-- The cosine reference of R151: the sine a quarter turn on. -/
def cos15 (num : Int) (den : Nat) : Int := sin15 (4 * num + den) (4 * den)

/-- d_i of R150 at sample `k`, not gated. -/
def State.cstDither (s : State) (i k : Nat) : Int :=
  ((s.cstAmp i : Int) * sin15 (s.cstM i * (k % s.cstN) : Nat) s.cstN).tdiv 32768

/-- The length of HOLD: the longest delay of the dithering MFs plus SETTLE (R154). -/
def State.cstHoldLen (s : State) : Nat :=
  s.cstActive.foldl (fun a i => max a (s.cstF (R.CST_MF_DLY i) 9 0)) 0 + min 10000 (s.cstF R.CST_WIN 29 16)

/-- Phase shown in `CST_STATUS`. -/
def State.cstPhase (s : State) : Nat := s.fd R.CST_STATUS 1 0

/-- Shows phase, position, overflow, conflict and the dithered mask. -/
def State.cstShow (s : State) (ph : Nat) : State :=
  let st := setFld (s.rd R.CST_STATUS) 1 0 ph
  let st := setFld st 18 5 s.cst.pos
  let st := setBit st 2 (decide (8 < s.cstDith.length))
  let st := setBit st 3 s.cstConflict
  (s.wr R.CST_STATUS st).wr R.CST_DITHERED (word (maskOf 32 (fun i => s.cstActive.contains i)))

/-- Configuration comes into force; every centre is clipped into its range at once (R145, R154). -/
def State.cstTake (s : State) : State :=
  let t := s.setCst (fun c => { c with cfg := cstCfgRegs.map (fun a => (a, s.rd a)) })
  (List.range 32).foldl (fun (t : State) i => if t.cstUsed i then t.setU i (t.cstClip i (t.cstU i)) else t) t

/-- DERR of R152 in 1/16 sample: −atan(Q/I)·N/(2π·M), truncated; 0 when I = 0. -/
def cstDerr (i q : Int) (n m : Nat) : Int :=
  if i = 0 || m = 0 then 0
  else
    let a := atan128 q.natAbs i.natAbs
    let v : Int := ((a * 16 * n / (2 * pi128 * m) : Nat) : Int)
    if (q < 0) = (i < 0) then -v else v

/-- G_i of R152; with AMP 0 the quotient is not stated. -/
def cstGrad (i : Int) (amp n : Nat) : Int :=
  if amp = 0 then Config.cstGradNoAmp i n else (4 * i).tdiv (amp * n : Nat)

/-- R155 for one MF: low confidence, or a suggestion and in ACT a step; answers whether u_i changed. -/
def State.cstDecide (s : State) (i : Nat) (g : Int) (r : Nat) (blk : Nat) : State × Bool :=
  if r < (s.cstW R.CST_RMIN).toNat then
    (((s.wb (R.CST_MF_DERR i) 16 true).inc R.CST_LOWCONF), false)
  else
    let s := s.wb (R.CST_MF_DERR i) 16 false
    let kw := s.cstW (R.CST_MF_K i)
    let d := -((sfld kw 26 0 * g).tdiv ((2 ^ (fld kw 31 27 + 16) : Nat) : Int))
    let st : Int := s.cstF (R.CST_MF_STEP i) 15 0
    let u := s.cstU i
    let sugg := s.cstClip i (u + clampI (-st) st d)
    let s := s.wr (R.CST_MF_SUGG i) (iword sugg)
    match s.fd R.CST_CTRL 1 0 with
    | 1 =>
      let s := s.setCst (fun c => { c with advice := updAt c.advice i (fun _ => some blk) })
      (s.notify fCST 0x80 ([byte i, 0#8, 0#8, 0#8] ++ wBytes (iword u) ++ wBytes (iword sugg) ++
        wBytes (s.rd (R.CST_MF_G i)) ++ wBytes (s.rd (R.CST_MF_R i)) ++ leBytes 4 blk), false)
    | 2 =>
      if sugg = u then (s, false)
      else
        let s := (s.setU i sugg).inc R.CST_STEPS
        (s.notify fCST 0x82 ([byte i, 0#8, 0#8, 0#8] ++ wBytes (iword u) ++ wBytes (iword sugg) ++ leBytes 4 blk), true)
    | _ => (s, false)

/-- Whether a block has taken its N samples and waits for its end. -/
def State.cstFull (s : State) : Bool := s.cstPhase = phACCUM && s.cstN ≤ s.cst.pos

/-- What the end of a block gives (R152, R155, R157): its estimates and step decisions, and whether a step was taken. -/
def State.cstBlockResult (s : State) : State × Bool :=
  let n := s.cstN
  let act := s.cstActive
  let s := s.inc R.CST_BLOCKS
  let blk := (s.rd R.CST_BLOCKS).toNat
  let s := s.setCst (fun c => { c with advice := List.replicate 32 none })
  let grad (i : Nat) : Int := cstGrad (s.cst.iAcc.getD i 0) (s.cstAmp i) n
  let expl := act.foldl (fun (a : Int) i => a + grad i * grad i * (s.cstAmp i * s.cstAmp i : Nat)) 0
  let vr : Int := max 1 ((s.cst.sjj - s.cst.sj * s.cst.sj / n) / n - expl / (2 ^ 33 : Nat))
  let s := s.wr64 R.CST_VR_LO R.CST_VR_HI vr.toNat
  let rr (i : Nat) : Nat :=
    (256 * (grad i * grad i).toNat * (s.cstAmp i * s.cstAmp i) * n) / (2 ^ 33 * vr.toNat)
  let s := act.foldl (fun (s : State) i =>
    let s := s.wr (R.CST_MF_G i) (iword (sat32 (grad i)))
    let s := s.wr (R.CST_MF_R i) (word (min 0xFFFFFFFF (rr i)))
    let d := cstDerr (s.cst.iAcc.getD i 0) (s.cst.qAcc.getD i 0) n (s.cstM i)
    (s.wf_ (R.CST_MF_DERR i) 15 0 (iword (clampI (-32768) 32767 d)).toNat).wb (R.CST_MF_DERR i) 18 true) s
  act.foldl (fun (acc : State × Bool) i =>
    let y := acc.1.cstDecide i (grad i) (rr i) blk
    (y.1, acc.2 || y.2)) (s, false)

/-- A block in progress is discarded and counted (R154); one that has its N samples has ended and gives its result. -/
def State.cstDiscard (s : State) : State :=
  if s.cstFull then s.cstBlockResult.1 else if s.cstPhase = phACCUM then s.inc R.CST_DISCARDED else s

/-- Clears the accumulators (R151). -/
def State.cstClear (s : State) : State :=
  s.setCst (fun c => { c with iAcc := List.replicate 32 0, qAcc := List.replicate 32 0, sj := 0, sjj := 0 })

/-- HOLD begins, or IDLE where nothing dithers (R154), with no block in progress. -/
def State.cstHoldNow (s : State) : State :=
  let t := s.cstClear
  let t := t.setCst (fun c => { c with pos := 0, hold := t.cstHoldLen })
  t.cstShow (if t.cstActive.isEmpty then phIDLE else phHOLD)

/-- Enters HOLD (R154): the block in progress is discarded. -/
def State.cstHold (s : State) : State := s.cstDiscard.cstHoldNow

/-- A block starts: configuration comes into force (R154); none starts while the set conflicts (R149). -/
def State.cstBlockStart (s : State) : State :=
  let t := (s.cstTake).cstClear
  let t := t.setCst (fun c => { c with pos := 0 })
  if t.cstActive.isEmpty || t.cstConflict then t.cstShow phIDLE else t.cstShow phACCUM

/-- The end of a block after N samples (R152 to R155, R157): its result, then ACCUM again, or HOLD where a step was taken. -/
def State.cstBlockEnd (s : State) : State :=
  if !s.cstFull then s
  else
    let r := s.cstBlockResult
    if r.2 then r.1.cstHoldNow else r.1.cstBlockStart

/-- A saturation discards the block in progress and the next block starts (R147, R151, R154). -/
def State.cstSpoil (s : State) : State := (s.inc R.CST_DISCARDED).cstBlockStart

/-- The end of HOLD after H samples (R154). -/
def State.cstHoldEnd (s : State) : State :=
  if s.cstPhase = phHOLD && s.cst.hold ≤ s.cst.pos then s.cstBlockStart else s

/-- The cost of R147: each term, its saturated display, the saturated sum and whether it saturated. -/
def State.cstCost (s : State) : State × Int × Bool :=
  let term (t : Nat) : Int :=
    let c := s.cstW (R.CST_TERM_CFG t)
    if fld c 14 12 = 0 then 0
    else
      let v := s.sigI (fld c 8 0)
      let x := if bit c 15 then ((v - (s.cstW (R.CST_TERM_REF t)).toInt).natAbs : Int) else v
      asr (x * (s.cstW (R.CST_TERM_W t)).toInt) (fld c 20 16)
  let sum := (List.range 8).foldl (fun (a : Int) t => a + term t) 0
  let j := sat32 sum
  let s := (List.range 8).foldl (fun (s : State) t => s.wr (R.CST_TERM_LAST t) (iword (sat32 (term t)))) s
  let s := (s.wr R.CST_J (iword j)).wb R.CST_STATUS 4 (sum != j)
  (if sum != j then s.inc R.CST_SAT else s, j, sum != j)

/-- Whether freeze entry `f` is active (R158). -/
def State.frzActive (s : State) (f : Nat) : Bool :=
  let c := s.cstW (R.CST_FRZ_CFG f)
  let thr := (s.cstW (R.CST_FRZ_THR f)).toInt
  let v := s.sigI (fld c 8 0)
  if fld c 11 9 = 0 then false
  else if !s.sigOk (fld c 8 0) && !bit c 15 then true
  else
    match fld c 11 9 with
    | 1 => decide (v < thr)
    | 2 => decide (thr < v)
    | 3 => decide (thr < ((v - s.cst.frzRef.getD f 0).natAbs : Int))
    | 4 => v != 0
    | _ => false

/-- Whether a cost term's signal is invalid (R159). -/
def State.cstTermInvalid (s : State) : Bool :=
  (List.range 8).any (fun t =>
    let c := s.cstW (R.CST_TERM_CFG t)
    fld c 14 12 != 0 && !s.sigOk (fld c 8 0))

/-- The references of CMP 3 are taken (R158): the signals at the start of a block or HOLD. -/
def State.cstRefs (s : State) : State :=
  s.setCst (fun c => { c with frzRef := (List.range 8).map (fun f => s.sigI (s.cstF (R.CST_FRZ_CFG f) 8 0)) })

/-- The update of freeze at a sample (R158, R159); the HOLD that follows a freeze starts at this sample. -/
def State.cstFreeze (s : State) : State :=
  let mask := maskOf 8 (fun f => s.frzActive f) + (if s.cstTermInvalid then 256 else 0)
  let old := s.fd R.CST_FRZ_CAUSE 8 0
  let s := s.wr R.CST_FRZ_CAUSE (word mask)
  let s := if mask != old then s.notify fCST 0x81 (leBytes 4 mask ++ wBytes (s.rd R.CST_BLOCKS)) else s
  if mask != 0 then
    if s.cstPhase = phFROZEN then s
    else
      let t := (s.cstDiscard).cstClear
      (t.setCst (fun c => { c with pos := 0 })).cstShow phFROZEN
  else if s.cstPhase = phFROZEN then s.cstHold.cstRefs
  else s

/-- A 64-bit saturating accumulation, with whether it saturated (R151). -/
def acc64 (a x : Int) : Int × Bool :=
  let v := a + x
  let w := clampI (-9223372036854775808) 9223372036854775807 v
  (w, v != w)

/-- R151 for one sample. A saturation discards the block and sets the SAT flag of the MF. -/
def State.cstAccum (s : State) (j : Int) (k : Nat) : State :=
  let n := s.cstN
  let r := s.cstActive.foldl (fun (acc : State × Bool) i =>
    let num : Int := (s.cstM i : Int) * ((k : Int) - (s.cstF (R.CST_MF_DLY i) 9 0 : Int))
    let a := acc64 (acc.1.cst.iAcc.getD i 0) (j * sin15 num n)
    let b := acc64 (acc.1.cst.qAcc.getD i 0) (j * cos15 num n)
    let t := acc.1.setCst (fun c => { c with iAcc := updAt c.iAcc i (fun _ => a.1), qAcc := updAt c.qAcc i (fun _ => b.1) })
    (if a.2 || b.2 then t.wb (R.CST_MF_DERR i) 17 true else t, acc.2 || a.2 || b.2)) (s, false)
  let lim : Int := (2 ^ 95 : Nat)
  let sj := s.cst.sj + j
  let sjj := s.cst.sjj + j * j
  let exceeds := sj < -lim || lim ≤ sj || lim ≤ sjj
  let t := r.1.setCst (fun c => { c with sj := clampI (-lim) (lim - 1) sj, sjj := min (lim - 1) sjj, pos := c.pos + 1 })
  if r.2 || exceeds then t.cstSpoil else t

/-- The write of one used MF's path: the shadow of its setpoint or duty, and its signal at UG2 (R143, R146). -/
def State.cstPath (s : State) (i : Nat) (v : Int) (pub : Bool) : State :=
  let p := s.cstW (R.CST_MF_PATH i)
  let t := match fld p 1 0 with
    | 1 => s.shadowWr (R.MER_SP (fld p 7 2)) 2 (iword v)
    | 2 =>
      let a := R.PSW_CH_DUTY (fld p 7 2)
      if s.fd (R.PSW_CH_CFG (fld p 7 2)) 1 0 = 2 then s.shadowWr a 4 (setFld (s.shadowRd a) 13 0 (clampI 0 10000 v).toNat)
      else s
    | _ => s
  if pub && fld p 1 0 != 0 then
    (t.setCst (fun c => { c with publish := c.publish.filter (fun e => e.1 != i) ++ [(i, iword v)] })).wb
      R.FAB_UG_PEND 2 true
  else t

/-- The published values of Coelostat take effect at the UG2 strobe (R29, R146). -/
def State.cstPublish (s : State) : State :=
  let t := if s.isRunning fCST then
      s.cst.publish.foldl (fun (t : State) e => t.setSig (0xE0 + e.1) e.2) s
    else s
  t.setCst (fun c => { c with publish := [] })

/-- Ticks per sample (R146); SAMPLE 3, which only EXPERT can write, samples as SAMPLE 2 (DESIGN CHOICE, log entry 123). -/
def State.cstTicks (s : State) : Nat := 2000 * 10 ^ min 2 (s.cstF R.CST_CTRL 5 4)

/-- CST_SAMPLE (R146): the sample at the latest tick boundary; after STOP, the last write of u_i (R161). -/
def execCstSample (s : State) : Host.Outcome State Fault Refusal :=
  s.runIn (Foot.cst.and [.pos, .shadow] [.mer]) (fun s =>
    if s.pairHeld || s.clk.tickCount % s.cstTicks != 0 || s.cst.lastTick == some s.clk.tickCount then s
    else if s.cst.finalWrite && !s.isRunning fCST then
      let t := (List.range 32).foldl (fun (t : State) i =>
        if t.cstUsed i then
          t.cstPath i (if t.cstOvr i then (t.rd (R.CST_MF_OVV i)).toInt else t.cstU i) false
        else t) s
      t.setCst (fun c => { c with finalWrite := false, lastTick := some s.clk.tickCount })
    else if !s.isRunning fCST then s
    else
      let k := s.cst.k
      let s := (s.cstBlockEnd).cstHoldEnd
      let s := if s.cstPhase = phIDLE then
          let t := s.cstTake
          if t.cstActive.isEmpty || t.cstConflict then t.cstShow phIDLE else t.cstHold
        else s
      let s := if (s.cstPhase = phHOLD || s.cstPhase = phACCUM) && s.cst.pos = 0 then s.cstRefs else s
      let cost := s.cstCost
      let s := cost.1
      let wasFrozen := s.cstPhase = phFROZEN
      let s := s.cstFreeze
      let gated := wasFrozen && s.cstPhase = phFROZEN
      let s := if s.cstPhase = phACCUM then
          if cost.2.2 then s.cstSpoil
          else s.cstAccum cost.2.1 k
        else if s.cstPhase = phHOLD then s.setCst (fun c => { c with pos := c.pos + 1 })
        else s
      let act := if gated then [] else s.cstActive
      let s := (List.range 32).foldl (fun (t : State) i =>
        if !t.cstUsed i then t
        else if t.cstOvr i then t.cstPath i (t.rd (R.CST_MF_OVV i)).toInt true
        else t.cstPath i (t.cstU i + (if act.contains i then t.cstDither i k else 0)) true) s
      let s := s.setCst (fun c => { c with k := k + 1, lastTick := some s.clk.tickCount })
      s.cstShow s.cstPhase)

/-- CST_HOLD_END (R154). -/
def execCstHoldEnd (s : State) : Host.Outcome State Fault Refusal :=
  s.runIn (Foot.cst.and [.pos] []) (fun s => if s.isRunning fCST then s.cstHoldEnd else s)

/-- CST_BLOCK_END (R152 to R157). -/
def execCstBlockEnd (s : State) : Host.Outcome State Fault Refusal :=
  s.runIn (Foot.cst.and [.pos] []) (fun s => if s.isRunning fCST then s.cstBlockEnd else s)

/-- Fuel per tonne of 100 readings (R148); with a throughput sum of 0 the quotient is not stated. A negative quotient shows as 0, and one
beyond the 31 bits of ML is cut to them (DESIGN CHOICE, log entry 123). -/
def fuelPerT (sf st : Int) : Nat :=
  if st = 0 then Config.fuelNoThroughput sf else (sf * 2500 / (9 * st)).toNat

/-- CST_LPT_SAMPLE (R148): every 100 ms, at boundaries whose count is a multiple of 2,000. -/
def execCstLptSample (s : State) : Host.Outcome State Fault Refusal :=
  s.runIn .cst (fun s =>
    if !s.isRunning fCST || s.clk.tickCount % 2000 != 0 || s.cst.lptTick == some s.clk.tickCount then s
    else
      let cfg := s.cstW R.CST_LPT_CFG
      let fs := fld cfg 8 0
      let ts := fld cfg 24 16
      let l := ((s.sigI fs, s.sigI ts, s.sigOk fs && s.sigOk ts) :: s.cst.lpt).take 100
      let s := s.setCst (fun c => { c with lpt := l, lptTick := some s.clk.tickCount })
      let sf := l.foldl (fun (a : Int) e => a + e.1) 0
      let st := l.foldl (fun (a : Int) e => a + e.2.1) 0
      if l.length = 100 && l.all (fun e => e.2.2) && ((s.cstW R.CST_LPT_MIN).toNat * 100 : Nat) ≤ st then
        s.wr R.CST_FUEL_PER_T (setBit (word (fuelPerT sf st)) 31 true)
      else s.wb R.CST_FUEL_PER_T 31 false)

/-- Overrides change from the register's value to `new` (R160): a released MF takes its operator value, clipped; each
transition starts HOLD. -/
def State.cstSetOvr (s : State) (new : Word) : State :=
  let old := s.rd R.CST_OVR
  if old = new then s
  else
    let s := s.wr R.CST_OVR new
    let s := (List.range 32).foldl (fun (s : State) i =>
      if bit old i && !bit new i then s.setU i (s.cstClip i (s.rd (R.CST_MF_OVV i)).toInt) else s) s
    if s.isRunning fCST then (if s.cstPhase = phFROZEN then s.cstShow phFROZEN else s.cstHold) else s

/-- CST_OVR_WRITE (R160): a host write in EXPERT; in BASIC it is discarded (R65). -/
def execCstOvrWrite (ini : Initiator) (v : Word) (s : State) : Host.Outcome State Fault Refusal :=
  s.runIn (Foot.cst.and [.pos] []) (fun s => s.owned ini fCST .cst .fab (fun s => s.cstSetOvr v))

/-- CST_SET_MODE (R157, R164). -/
def execCstSetMode (c : Cmd) (s : State) : Host.Outcome State Fault Refusal :=
  s.runIn .cst (fun s => s.command fCST 0x10 0 c (fun _ s =>
    if c.payload.length != 1 then refuse stBAD_LENGTH s
    else if 2 < u8 c.payload 0 then refuse stBAD_PARAM s
    else (.now stOK [], s.wf_ R.CST_CTRL 1 0 (u8 c.payload 0))))

/-- CST_OVERRIDE (R160, R164). -/
def execCstOverride (c : Cmd) (s : State) : Host.Outcome State Fault Refusal :=
  s.runIn (Foot.cst.and [.pos] []) (fun s => s.command fCST 0x11 0 c (fun _ s =>
    let p := c.payload
    let i := u8 p 0
    if p.length != 8 then refuse stBAD_LENGTH s
    else if 32 ≤ i || 1 < u8 p 1 || !s.cstUsed i then refuse stBAD_PARAM s
    else if u8 p 1 = 1 then
      let t := s.wr (R.CST_MF_OVV i) (w32 p 4)
      (.now stOK [], t.cstSetOvr (setBit (t.rd R.CST_OVR) i true))
    else (.now stOK [], s.cstSetOvr (setBit (s.rd R.CST_OVR) i false))))

/-- CST_ACCEPT (R157, R164): applies a standing advice and starts HOLD. -/
def execCstAccept (c : Cmd) (s : State) : Host.Outcome State Fault Refusal :=
  s.runIn (Foot.cst.and [.pos] []) (fun s => s.command fCST 0x12 0 c (fun _ s =>
    let p := c.payload
    let i := u8 p 0
    if p.length != 8 then refuse stBAD_LENGTH s
    else if 32 ≤ i then refuse stBAD_PARAM s
    else if s.cst.advice.getD i none != some (u32 p 4) then refuse stWRONG_STATE s
    else
      let t := s.setU i (s.cstClip i (s.rd (R.CST_MF_SUGG i)).toInt)
      let t := t.setCst (fun d => { d with advice := updAt d.advice i (fun _ => none) })
      (.now stOK [], if t.isRunning fCST && t.cstPhase != phFROZEN then t.cstHold else t)))

/-- CST_WEIGHTS (R164): replaces the term weights; the block is discarded, HOLD. -/
def execCstWeights (c : Cmd) (s : State) : Host.Outcome State Fault Refusal :=
  s.runIn (Foot.cst.and [.pos] []) (fun s => s.command fCST 0x13 0 c (fun _ s =>
    if c.payload.length != 32 then refuse stBAD_LENGTH s
    else
      let t := (List.range 8).foldl (fun (t : State) k => t.wr (R.CST_TERM_W k) (w32 c.payload (4 * k))) s
      (.now stOK [], if t.isRunning fCST then
          let t := t.cstTake
          if t.cstPhase = phFROZEN then t.cstShow phFROZEN else t.cstHold
        else t)))

/-- CST_READ_MF (R164). -/
def execCstReadMf (c : Cmd) (s : State) : Host.Outcome State Fault Refusal :=
  s.runIn .cst (fun s => s.command fCST 0x14 0 c (fun _ s =>
    let i := u8 c.payload 0
    if c.payload.length != 1 then refuse stBAD_LENGTH s
    else if 32 ≤ i then refuse stBAD_PARAM s
    else okWith (wBytes (s.rd (R.CST_MF_U i)) ++ wBytes (s.rd (R.CST_MF_G i)) ++ wBytes (s.rd (R.CST_MF_R i)) ++
      wBytes (s.rd (R.CST_MF_DERR i)) ++ wBytes (s.rd (R.CST_MF_SUGG i)) ++ wBytes (s.rd R.CST_BLOCKS)) s))

/-! ### Status, configuration, start and stop -/

/-- CST_GET_STATUS after the common bytes (R164). -/
def State.cstStatus (s : State) : List Byte :=
  [byte (s.fd R.CST_CTRL 1 0), byte s.cstPhase] ++ leBytes 2 (s.fd R.CST_FRZ_CAUSE 8 0) ++ wBytes (s.rd R.CST_J) ++
  wBytes (s.rd R.CST_FUEL_PER_T) ++ wBytes (s.rd R.CST_DITHERED) ++ wBytes (s.rd R.CST_OVR) ++ wBytes (s.rd R.CST_BLOCKS)

/-- The configuration words of a CONFIGURE payload with their registers (R163). -/
def cstCfgWords (p : List Byte) : List (Nat × Word) :=
  [(R.CST_CTRL, w32 p 0), (R.CST_WIN, w32 p 4), (R.CST_RMIN, w32 p 8), (R.CST_LPT_CFG, w32 p 12),
   (R.CST_LPT_MIN, w32 p 16)] ++
  (List.range 8).flatMap (fun t => [(R.CST_TERM_CFG t, w32 p (20 + 16 * t)), (R.CST_TERM_W t, w32 p (24 + 16 * t)),
    (R.CST_TERM_REF t, w32 p (28 + 16 * t))]) ++
  (List.range 8).flatMap (fun f => [(R.CST_FRZ_CFG f, w32 p (148 + 8 * f)), (R.CST_FRZ_THR f, w32 p (152 + 8 * f))]) ++
  (List.range 32).flatMap (fun i => [(R.CST_MF_PATH i, w32 p (212 + 28 * i)), (R.CST_MF_DLY i, w32 p (216 + 28 * i)),
    (R.CST_MF_LO i, w32 p (220 + 28 * i)), (R.CST_MF_HI i, w32 p (224 + 28 * i)),
    (R.CST_MF_STEP i, w32 p (228 + 28 * i)), (R.CST_MF_K i, w32 p (232 + 28 * i)), (R.CST_MF_INIT i, w32 p (236 + 28 * i))])

/-- Whether a configuration word names an entry PLANT forbids (R162). -/
def plantSig (n : Nat) : Bool := 0x80 ≤ n && n ≤ 0xDF

/-- CONFIGURE of CST (R143, R145, R149, R162, R163): the status it answers. -/
def State.cstCfgCheck (s : State) (p : List Byte) : Nat :=
  if p.length != 1108 then stBAD_LENGTH
  else
    let w (i o : Nat) : Word := w32 p (212 + 28 * i + o)
    let used := (List.range 32).filter (fun i => fld (w i 0) 1 0 != 0)
    let dith := used.filter (fun i => bit (w i 0) 8)
    let n := fld (w32 p 4) 13 0
    let amp (i : Nat) : Int := if bit (w i 0) 8 then fld (w i 16) 31 16 else 0
    let paths := used.filterMap (fun i => if fld (w i 0) 1 0 < 3 then some (fld (w i 0) 7 0) else none)
    let sample := fld (w32 p 0) 5 4
    let sigs := ((List.range 8).filter (fun t => fld (w32 p (20 + 16 * t)) 14 12 != 0)).map
        (fun t => fld (w32 p (20 + 16 * t)) 8 0) ++
      ((List.range 8).filter (fun f => fld (w32 p (148 + 8 * f)) 11 9 != 0)).map (fun f => fld (w32 p (148 + 8 * f)) 8 0) ++
      [fld (w32 p 12) 8 0, fld (w32 p 12) 24 16]
    let ok := fldIn2 (w32 p 0) 1 0 0 2 && decide (sample < 2 || (sample = 2 && s.plant = true))
      && decide (200 ≤ n) && decide (n ≤ 10000) && fldIn2 (w32 p 4) 29 16 0 10000
      && (List.range 8).all (fun t => fldIn2 (w32 p (20 + 16 * t)) 14 12 0 6)
      && (List.range 8).all (fun f => fldIn2 (w32 p (148 + 8 * f)) 11 9 0 4 && fldIn2 (w32 p (148 + 8 * f)) 14 12 0 5)
      && (List.range 32).all (fun i => fldIn2 (w i 4) 9 0 0 600)
      && (List.range 32).all (fun i => decide ((w i 8).toInt + amp i ≤ (w i 12).toInt - amp i) && fldIn2 (w i 0) 24 16 1 500)
      && decide paths.Nodup
      && used.all (fun i => match fld (w i 0) 1 0 with
          | 1 => !s.bt (R.MER_SR_CFG (fld (w i 0) 7 2)) 0
          | 2 => decide (fld (w i 0) 7 2 < 16) && s.fd (R.PSW_CH_CFG (fld (w i 0) 7 2)) 1 0 == 2
          | _ => true)
      && decide (dith.length ≤ 8) && !ditherConflict n (dith.map (fun i => fld (w i 0) 24 16))
      && !(s.plant && sigs.any plantSig) && inMap (cstCfgWords p)
    if ok then stOK else stBAD_PARAM
where
  /-- Whether a field lies in a range. -/
  fldIn2 (w : Word) (hi lo a b : Nat) : Bool := a ≤ fld w hi lo && fld w hi lo ≤ b

/-- APPLY of CST (R161): in STOPPED and CONFIGURED the centres take INIT, in RUNNING they are kept; block discarded,
HOLD. -/
def State.cstApply (s : State) (p : List Byte) : State :=
  let t := (cstCfgWords p).foldl (fun (t : State) e => t.wr e.1 e.2) s
  if s.isRunning fCST then
    let t := (t.cstDiscard).cstTake
    if t.cstPhase = phFROZEN then t.cstShow phFROZEN else (t.cstShow phIDLE).cstHold
  else
    let t := t.setCst (fun c => { c with cfg := cstCfgRegs.map (fun a => (a, t.rd a)) })
    (List.range 32).foldl (fun (t : State) i =>
      if t.cstUsed i then t.setU i (t.cstClip i (t.rd (R.CST_MF_INIT i)).toInt) else t) t

/-- START of CST (R154, R164): sample index 0, HOLD where an MF dithers. -/
def State.cstStart (s : State) (p : List Byte) : State :=
  let s := if p.length = 1 then s.wf_ R.CST_CTRL 1 0 (u8 p 0) else s
  let s := s.cstTake
  let s := s.setCst (fun c => { c with
    k := 0, lastTick := none, lptTick := none, pos := 0, lpt := [], finalWrite := false,
    advice := List.replicate 32 none, publish := [] })
  let s := (List.range 32).foldl (fun (s : State) i => s.wr (R.CST_MF_DERR i) 0#32) s
  (s.cstShow phIDLE).cstHold

/-- STOP of CST (R161): IDLE, its entries invalid, one more write of u_i at the next sample. -/
def State.cstStop (s : State) : State :=
  let t := (s.cstDiscard).setCst (fun c => { c with finalWrite := true, publish := [], pos := 0 })
  (t.cstShow phIDLE).dropSigs 0xE0 32

/-- REINIT of CST (R161): paths keep their last values, the centres are kept, the estimates lost. -/
def State.cstReinit (s : State) : State :=
  { s.dropSigs 0xE0 32 with cst := {} }

end Sys2Proof.Machine
end

