-- ==== Sys2Proof/Machine/Fusion.lean ====
section
/-!
DEFINITION. Astrolabe object fusion (chapter 15): lists and source time, vehicle motion, tracks, the assignment solver, the
fusion cycle and commands.
-/
namespace Sys2Proof.Machine

/-- Function ID of Astrolabe. -/
def fAST : Nat := 12

/-- Changes the state of Astrolabe. -/
def State.setAst (s : State) (f : Ast → Ast) : State := { s with ast := f s.ast }

/-- Source `k`, and a change of it. -/
def State.astSrc (s : State) (k : Nat) : AstSrc := s.ast.srcs.getD k {}
def State.setAstSrc (s : State) (k : Nat) (f : AstSrc → AstSrc) : State :=
  s.setAst (fun a => { a with srcs := updAt a.srcs k f })

/-- The registers of UG9. -/
def astRegs : List Nat :=
  [R.AST_CYC_CFG, R.AST_GATE, R.AST_SOLVE_CFG, R.AST_TRK_CFG, R.AST_TRK_Q, R.AST_TRK_LIM, R.AST_EGO_CFG] ++
  (List.range 16).flatMap (fun k => (List.range 6).map (fun j => R.AST_SRC_CFG k + 4 * j))

/-- A shadowed register as it is in effect since the last boundary (R368). -/
def State.astW (s : State) (a : Nat) : Word :=
  match s.ast.cfg.lookup a with
  | some w => w
  | none => s.rd a

/-- A field of such a register. -/
def State.astF (s : State) (a hi lo : Nat) : Nat := fld (s.astW a) hi lo

/-- Whether Astrolabe runs. -/
def State.astRuns (s : State) : Bool := s.bt R.AST_CTRL 0

/-- A source's frame period in TB (R356). -/
def State.astPeriod (s : State) (k : Nat) : Nat := 5000 * s.astF (R.AST_SRC_PERIOD k) 15 0

/-! ### Sources -/

/-- A source enters a state (R357), with its status word; a change sends AST_SOURCE. -/
def State.astState (s : State) (k st : Nat) : State :=
  let old := (s.astSrc k).st
  let s := s.setAstSrc k (fun x => { x with st := st })
  let s := (s.wf_ (R.AST_SRC_STATUS k) 2 0 st).wf_ (R.AST_SRC_STATUS k) 4 3 (min 3 (s.astSrc k).run.length)
  if old = st then s else s.notify fAST 0x80 [byte k, byte st, byte (s.fd (R.AST_SRC_STATUS k) 9 6)]

/-- A list of source `k` is discarded (R354). -/
def State.astDisc (s : State) (k cause : Nat) : State :=
  (s.inc R.AST_LIST_DISC).wf_ (R.AST_SRC_STATUS k) 9 6 cause

/-- Shows the offset of a source (R355). -/
def State.astOfs (s : State) (k : Nat) : State := s.wr (R.AST_SRC_OFS k) (iword (s.astSrc k).o)

/-- A source begins anew in WAIT or stands OFF (R357, R372). -/
def State.astSrcReset (s : State) (k : Nat) (on : Bool) : State :=
  let s := s.setAstSrc k (fun x => { ({} : AstSrc) with st := x.st })
  (s.astState k (if on then 1 else 0)).astOfs k

/-! ### Angles and matrices -/

/-- An angle of 0.01° as radians at scale 2^64, within one turn. -/
def angle64 (a : Rat) : Int := rad64 (a.num) (18000 * a.den)

/-- Cosine and sine of an angle in 0.01°. -/
def cosR (a : Rat) : Rat := (cos64 (angle64 a) : Rat) / (2 ^ 64 : Nat)
def sinR (a : Rat) : Rat := (sin64 (angle64 a) : Rat) / (2 ^ 64 : Nat)

/-- Radians of an angle in 0.01°, and back. -/
def piR : Rat := (pi128 : Rat) / (2 ^ 128 : Nat)
def toRad (a : Rat) : Rat := a * piR / 18000
def toDeg (a : Rat) : Rat := a * 18000 / piR

/-- Rotation of a plane vector by an angle in 0.01°. -/
def rotR (a : Rat) (v : Rat × Rat) : Rat × Rat :=
  (cosR a * v.1 - sinR a * v.2, sinR a * v.1 + cosR a * v.2)

/-- Matrices by rows. -/
abbrev Mat := List (List Rat)

/-- An entry, a row times a column, products, sums, transposes. -/
def Mat.at_ (m : Mat) (i j : Nat) : Rat := (m.getD i []).getD j 0
def dotR (a b : List Rat) : Rat := ((a.zip b).map (fun x => x.1 * x.2)).foldl (fun p q => p + q) 0
def Mat.tr (m : Mat) (cols : Nat) : Mat := (List.range cols).map (fun j => m.map (fun r => r.getD j 0))
def Mat.mul (a b : Mat) (cols : Nat) : Mat := a.map (fun r => (b.tr cols).map (fun c => dotR r c))
def Mat.add (a b : Mat) : Mat := (a.zip b).map (fun x => (x.1.zip x.2).map (fun y => y.1 + y.2))
def Mat.sub (a b : Mat) : Mat := (a.zip b).map (fun x => (x.1.zip x.2).map (fun y => y.1 - y.2))
def Mat.vec (a : Mat) (v : List Rat) : List Rat := a.map (fun r => dotR r v)

/-- One column of Gauss-Jordan elimination on an augmented matrix; none where every pivot is zero. -/
def Mat.elim (m : Mat) (k : Nat) : Option Mat :=
  match (List.range m.length).find? (fun i => k ≤ i && m.at_ i k != 0) with
  | none => none
  | some i =>
    let row := m.getD i []
    let p := row.getD k 0
    let row := row.map (fun x => x / p)
    let sw := updAt (updAt m i (fun _ => m.getD k [])) k (fun _ => row)
    some ((List.range sw.length).map (fun j =>
      let r := sw.getD j []
      if j = k then r else (r.zip row).map (fun y => y.1 - (r.getD k 0) * y.2)))

/-- The inverse of an `n` × `n` matrix. -/
def Mat.inv (m : Mat) (n : Nat) : Option Mat :=
  let aug : Mat := (List.range n).map (fun i =>
    (m.getD i []) ++ (List.range n).map (fun j => if i = j then 1 else 0))
  ((List.range n).foldl (fun (a : Option Mat) k => a.bind (fun x => x.elim k)) (some aug)).map
    (fun a => a.map (fun r => r.drop n))

/-- The identity. -/
def Mat.one (n : Nat) : Mat := (List.range n).map (fun i => (List.range n).map (fun j => if i = j then 1 else 0))

/-- A real number as an integer: exact where whole, else the one below or above. -/
def ratInt (r : Rat) : Int := if r.den = 1 then r.num else r.floor + (if Config.roundRat r then 1 else 0)

/-- A real number to the nearest integer, halves away from zero. -/
def ratRound (r : Rat) : Int := divRound r.num r.den

/-- A square root at scale 2^-32, rounded down. -/
def ratSqrt (r : Rat) : Rat := (isqrt (r.num.toNat * 2 ^ 64 / r.den) : Rat) / (2 ^ 32 : Nat)

/-! ### Vehicle motion -/

/-- The pose at a time by linear interpolation between samples (R359), clamped to the history; oldest sample first. -/
def poseAt (l : List AstPose) (t : Int) : Rat × Rat × Rat :=
  match l with
  | [] => (0, 0, 0)
  | [a] => (a.x, a.y, a.psi)
  | a :: b :: rest =>
    if t ≤ a.tb then (a.x, a.y, a.psi)
    else if t ≤ b.tb then
      let f : Rat := ((t - a.tb : Int) : Rat) / ((b.tb - a.tb : Nat) : Rat)
      (a.x + f * (b.x - a.x), a.y + f * (b.y - a.y), a.psi + f * (b.psi - a.psi))
    else poseAt (b :: rest) t

/-- The motion from one time to another by odometry, in the frame at the first: displacement and turn. -/
def State.odoMotion (s : State) (ta tb : Int) : (Rat × Rat) × Rat :=
  let a := poseAt s.ast.poses ta
  let b := poseAt s.ast.poses tb
  (rotR (-a.2.2) (b.1 - a.1, b.2.1 - a.2.1), b.2.2 - a.2.2)

/-- The motion of the track frame (R359): none with FRAME 1. -/
def State.trackMotion (s : State) (ta tb : Int) : (Rat × Rat) × Rat :=
  if bit (s.astW R.AST_EGO_CFG) 25 then ((0, 0), 0) else s.odoMotion ta tb

/-- Speed (cm/s) and yaw rate (0.01°/s) of odometry at a time: the sample then in force. -/
def State.odoRates (s : State) (t : Int) : Rat × Rat :=
  match (s.ast.poses.filter (fun p => (p.tb : Int) ≤ t)).getLast? with
  | some p => (p.v, p.w)
  | none => (0, 0)

/-- Whether an interval contains an invalid sample (R359). -/
def State.egoInv (s : State) (ta tb : Int) : Bool :=
  s.ast.poses.any (fun p => !p.ok && ta < (p.tb : Int) && (p.tb : Int) ≤ tb)

/-- AST_EGO_SAMPLE (R359): within 20 µs after each boundary whose count is a multiple of 50. -/
def execAstEgoSample (s : State) : Host.Outcome State Fault Refusal :=
  s.runIn .ast (fun s =>
    let k := s.clk.tickCount / 50
    if !s.astRuns || k ≤ s.ast.sampled || s.clk.tickCount % 50 != 0 || 8000 < s.clk.phase then s
    else
      let cfg := s.astW R.AST_EGO_CFG
      let sp := fld cfg 8 0
      let yw := fld cfg 24 16
      let ok := s.sigOk sp && s.sigOk yw
      let v : Rat := if ok then (s.sigI sp : Rat) / 10 else 0
      let w : Rat := if ok then (s.sigI yw : Rat) else 0
      let t := s.clk.tb
      let last := match s.ast.poses.getLast? with
        | some p => p
        | none => { tb := t, x := 0, y := 0, psi := 0, v := v, w := w, ok := true }
      let dt : Rat := ((t - last.tb : Nat) : Rat) / 50000000
      let d := Config.poseStep v w dt
      let r := rotR last.psi d
      let p : AstPose := { tb := t, x := last.x + r.1, y := last.y + r.2, psi := last.psi + w * dt, v := v, w := w, ok := ok }
      let s := s.setAst (fun a => { a with
        sampled := k, poses := (a.poses.filter (fun q => t ≤ q.tb + 50000000)) ++ [p] })
      let s := if ok then s else s.inc R.AST_EGO_INV
      s.wr R.AST_EGO_STATUS (word ((iword (ratInt v)).toNat % 65536 + 65536 * ((iword (ratInt w)).toNat % 65536))))

/-! ### Detections -/

/-- Step 1 of R361: position, velocity and position covariance of a detection in the vehicle frame. -/
def State.astMount (s : State) (k : Nat) (d : AstDet) : (Rat × Rat) × (Rat × Rat) × Mat :=
  let m := s.astW (R.AST_SRC_MOUNT k)
  let a : Rat := (sfld (s.astW (R.AST_SRC_MOUNT2 k)) 15 0 : Int)
  let p := rotR a ((d.x : Rat), (d.y : Rat))
  let v := rotR a ((d.vx : Rat), (d.vy : Rat))
  let r : Mat := [[cosR a, -sinR a], [sinR a, cosR a]]
  let q : Mat := [[((d.sx * d.sx : Nat) : Rat), 0], [0, ((d.sy * d.sy : Nat) : Rat)]]
  ((p.1 + (sfld m 15 0 : Int), p.2 + (sfld m 31 16 : Int)), v, (r.mul q 2).mul (r.tr 2) 2)

/-- A measurement ready for association: position, velocity where it has one, their covariance, the detection. -/
structure AstMeas where
  z   : List Rat
  r   : Mat
  det : AstDet
deriving DecidableEq, Repr, Inhabited

/-- R361: mounting, deskew and ground velocity of a detection of list `l`. -/
def State.astTransform (s : State) (l : AstList) (d : AstDet) : AstMeas :=
  let ego := s.astF (R.AST_SRC_CFG l.src) 6 5
  let m := s.astMount l.src d
  let dt := 500 * d.dt
  let mo : (Rat × Rat) × Rat :=
    match ego with
    | 0 => ((0, 0), 0)
    | 1 => s.odoMotion l.tb (l.tb + dt)
    | _ =>
      let h : Rat := (dt : Rat) / 50000000
      (Config.poseStep l.v (toDeg l.w) h, toDeg l.w * h)
  let p := rotR mo.2 m.1
  let p := (p.1 + mo.1.1, p.2 + mo.1.2)
  let v := rotR mo.2 m.2.1
  let r : Mat := [[cosR mo.2, -sinR mo.2], [sinR mo.2, cosR mo.2]]
  let c := (r.mul m.2.2 2).mul (r.tr 2) 2
  let rates : Rat × Rat := if ego = 1 then ((s.odoRates l.tb).1, toRad (s.odoRates l.tb).2) else (l.v, l.w)
  let vel := d.vel && !(d.vrel && ego == 0)
  let v := if d.vrel && ego != 0 then (v.1 + rates.1 - rates.2 * p.2, v.2 + rates.2 * p.1) else v
  let sv : Rat := ((d.sv * d.sv : Nat) : Rat)
  if vel then
    { z := [p.1, p.2, v.1, v.2], det := d,
      r := [[c.at_ 0 0, c.at_ 0 1, 0, 0], [c.at_ 1 0, c.at_ 1 1, 0, 0], [0, 0, sv, 0], [0, 0, 0, sv]] }
  else { z := [p.1, p.2], r := c, det := d }

/-- R360: the speed and yaw rate (rad/s) that a list's static detections give, where their RMS residual is small enough. -/
def State.astEstimate (s : State) (k : Nat) (ds : List AstDet) : Option (Rat × Rat) :=
  let ms := (ds.filter (fun d => d.stat && d.vel && d.vrel)).map (fun d => s.astMount k d)
  if ms.length < 3 then none
  else
    let n : Rat := (ms.length : Nat)
    let sum (f : (Rat × Rat) × (Rat × Rat) × Mat → Rat) : Rat := (ms.map f).foldl (fun a b => a + b) 0
    let sy := sum (fun m => m.1.2)
    let sq := sum (fun m => m.1.1 * m.1.1 + m.1.2 * m.1.2)
    let su := sum (fun m => m.2.1.1)
    let sz := sum (fun m => m.2.1.1 * m.1.2 - m.2.1.2 * m.1.1)
    let det := n * sq - sy * sy
    if det = 0 then none
    else
      let a := (su * sq - sy * sz) / det
      let w := (n * sz - sy * su) / det
      let res := sum (fun m =>
        let e := m.2.1.1 - a - w * m.1.2
        let f := m.2.1.2 + w * m.1.1
        e * e + f * f)
      let lim : Rat := (s.astF (R.AST_SRC_PERIOD k) 31 16 : Nat)
      if res ≤ lim * lim * (2 * n) then some (-a, w) else none

/-! ### Lists -/

/-- A detection from its 24 bytes (R353). -/
def astDet (p : List Byte) : AstDet :=
  { x := i16 p 0, y := i16 p 2, vx := i16 p 4, vy := i16 p 6, sx := u16 p 8, sy := u16 p 10, sv := u16 p 12, len := u8 p 14,
    wid := u8 p 15, cls := if 7 < u8 p 16 then 0 else u8 p 16, conf := u8 p 17, vel := nbit (u8 p 18) 0,
    vrel := nbit (u8 p 18) 1, stat := nbit (u8 p 18) 2, size := nbit (u8 p 18) 3, dt := i16 p 20 }

/-- Bytes of a part: header and detections. -/
def astPartLen (p : List Byte) : Nat := 24 + 24 * u8 p 17

/-- Whether a part is well formed (R353, R354): version, counts, length, CRC. -/
def astPartOk (p : List Byte) : Bool :=
  24 ≤ p.length && u8 p 0 == 1 && 1 ≤ u8 p 1 / 16 && u8 p 1 / 16 ≤ 9 && u8 p 1 % 16 < u8 p 1 / 16 && u16 p 14 ≤ 512 &&
  u8 p 17 ≤ 60 && p.length == astPartLen p && crc32c (p.take 20 ++ p.drop 24) == w32 p 20

/-- The detections of a part. -/
def astPartDets (p : List Byte) : List AstDet := (List.range (u8 p 17)).map (fun j => astDet (p.drop (24 + 24 * j)))

/-- The raw time of a list (R355), none where the 802.1AS relation is invalid. -/
def State.astRaw (s : State) (k time : Nat) : Option Int :=
  let c := s.astW (R.AST_SRC_CFG k)
  if fld c 4 3 != 0 then some ((time / 20 : Nat) : Int)
  else
    let ok := if fld c 2 1 = 0 then s.gptpValid (fld c 10 7) else s.gptp.synced
    if ok then some (s.gptp.inv time) else none

/-- Whether a list follows the reference in order (R354): sequence modulo 2^16, and source time. -/
def astOrder (ref : Option (Nat × Nat)) (seq time : Nat) : Bool :=
  match ref with
  | none => true
  | some r => (seq + 65536 - r.1) % 65536 != 0 && (seq + 65536 - r.1) % 65536 < 32768 && r.2 < time

/-- A list that the time checks let pass is accepted (R354 to R356, R360). Its detections are timed with the offset that it has moved:
the 30 ms step of the chapter's example leaves about 28 ms (15/16 of it) in the first list. -/
def State.astAccept (s : State) (k A seq time : Nat) (raw o : Int) (free filt : Bool) (ds : List AstDet) : Nat × State :=
  let x := s.astSrc k
  let ofs := if filt then x.o + asr (o - x.o) 4 else x.o
  let tb := if s.astF (R.AST_SRC_CFG k) 4 3 = 1 then raw + ofs else raw
  if !free && !astOrder x.ref seq time then (3, s.astDisc k 3)
  else if (A : Int) + 50000 < tb then (7, s.astDisc k 7)
  else
    let e := if s.astF (R.AST_SRC_CFG k) 6 5 = 2 then s.astEstimate k ds else none
    let est := match e with
      | some y => some (y.1, y.2, s.clk.tb)
      | none => x.est
    let use : Rat × Rat × Bool := match est with
      | some y => if s.tbPast y.2.2 50000000 then (0, 0, true) else (y.1, y.2.1, false)
      | none => (0, 0, true)
    let s := s.setAstSrc k (fun x => { x with
      ref := some (seq, time), lastAt := s.clk.tb, est := est, run := [],
      o := ofs })
    let n := s.fd (R.AST_SRC_STATUS k) 31 16
    let s := s.wf_ (R.AST_SRC_STATUS k) 31 16 (min 65535 (n + 1))
    let s := if s.astF (R.AST_SRC_CFG k) 6 5 = 2 then s.wb (R.AST_SRC_STATUS k) 5 use.2.2 else s
    let s := s.setAst (fun a => { a with lists := a.lists ++
      [{ src := k, tb := tb, dets := ds, v := use.1, w := use.2.1 }] })
    (0, (s.astState k 2).astOfs k)

/-- A complete list (R354 to R356): `A` its arrival stamp. Answers the cause, 0 for accepted. -/
def State.astList (s : State) (k A seq time : Nat) (ds : List AstDet) : Nat × State :=
  match s.astRaw k time with
  | none => (5, s.astDisc k 5)
  | some raw =>
    let nom := 5000 * s.astF (R.AST_SRC_MOUNT2 k) 31 16
    let o : Int := (A : Int) - raw - nom
    let per := s.astPeriod k
    let x := s.astSrc k
    let jump := decide (per < (o - x.o).natAbs)
    match x.st with
    | 1 =>
      let s := (s.setAstSrc k (fun x => { x with o := o, lastAt := s.clk.tb })).astState k 2
      s.astAccept k A seq time raw o true true ds
    | 3 =>
      match x.run with
      | f :: rest =>
        if (o - f).natAbs ≤ per then
          if rest.length = 0 then
            let s := s.setAstSrc k (fun x => { x with run := x.run ++ [o] })
            (4, ((s.astDisc k 4).astState k 3))
          else
            let mean := (isum (x.run ++ [o])) / 3
            let s := (s.setAstSrc k (fun x => { x with o := mean, run := [] })).astState k 2
            let s := s.setAstSrc k (fun x => { x with ref := some (seq, time) })
            s.astAccept k A seq time raw o true false ds
        else
          let s := s.setAstSrc k (fun x => { x with run := [o] })
          (4, ((s.astDisc k 4).astState k 3))
      | [] =>
        let s := s.setAstSrc k (fun x => { x with run := [o] })
        (4, ((s.astDisc k 4).astState k 3))
    | _ =>
      if jump then
        let s := s.setAstSrc k (fun x => { x with run := [o] })
        (4, ((s.astDisc k 4).astState k 3))
      else s.astAccept k A seq time raw o false true ds

/-- One part of a list of source `k` (R353, R354). -/
def State.astPart (s : State) (k stamp : Nat) (p : List Byte) : Nat × State :=
  let x := s.astSrc k
  if !bit (s.astW (R.AST_SRC_CFG k)) 0 || !(s.astRuns && s.isRunning fAST) || x.st = 0 then
    (8, (s.astDisc k 8).setAstSrc k (fun x => { x with part := none }))
  else if !astPartOk p then (1, (s.astDisc k 1).setAstSrc k (fun x => { x with part := none }))
  else
    let same (q : AstPart) : Bool := u16 q.hdr 12 == u16 p 12 && !s.tbPast q.stamp (tbMs 10)
    let s := match x.part with
      | some q => if same q then s else s.astDisc k 2
      | none => s
    let q : AstPart := match x.part with
      | some q => if same q then q else { stamp := stamp, hdr := p.take 24, got := [] }
      | none => { stamp := stamp, hdr := p.take 24, got := [] }
    let parts := u8 p 1 / 16
    let agree := u8 q.hdr 1 / 16 == parts && u16 q.hdr 14 == u16 p 14 && u64 q.hdr 4 == u64 p 4
    let got := (u8 p 1 % 16, astPartDets p) :: q.got.filter (fun g => g.1 != u8 p 1 % 16)
    if !agree then (1, (s.astDisc k 1).setAstSrc k (fun x => { x with part := none }))
    else if got.length < parts then (0, s.setAstSrc k (fun x => { x with part := some { q with got := got } }))
    else
      let ds := (List.range parts).flatMap (fun i =>
        match got.lookup i with
        | some d => d
        | none => [])
      let s := s.setAstSrc k (fun x => { x with part := none })
      if ds.length != u16 p 14 then (1, s.astDisc k 1)
      else s.astList k q.stamp (u16 p 12) (u64 p 4) ds

/-- Whether a datagram or frame is bound to source `k` (R352). -/
def State.astBound (s : State) (x : AstRx) (k : Nat) : Bool :=
  let c := s.astW (R.AST_SRC_CFG k)
  let b := s.astW (R.AST_SRC_CAN k)
  let ext := if bit b 31 then 2147483648 else 0
  bit c 0 && fld c 10 7 == x.link &&
  (if x.can then fld c 2 1 == 1 && (x.ident == ext + fld b 28 0 || x.ident == ext + fld b 28 0 + 1)
   else fld c 2 1 == 0 && u16 x.data 2 == s.astF (R.AST_SRC_ID k) 15 0)

/-- The source a datagram or frame belongs to; none leaves it to the switch or the CAN receive path. -/
def State.astMatch (s : State) (x : AstRx) : Option Nat := (List.range 16).find? (fun k => s.astBound x k)

/-- What arrives for a source over UDP or CAN (R352, R353). -/
def State.astRx (s : State) (x : AstRx) : State :=
  match s.astMatch x with
  | none => s
  | some k =>
    if !x.can then (s.astPart k x.stamp x.data).2
    else
      let b := s.astW (R.AST_SRC_CAN k)
      let first := x.ident % 2147483648 == fld b 28 0
      let cur := if first then some (x.stamp, x.data)
        else match (s.astSrc k).can with
          | some c => some (c.1, c.2 ++ x.data)
          | none => none
      match cur with
      | none => s
      | some c =>
        if 24 ≤ c.2.length && astPartLen c.2 ≤ c.2.length then
          let s := s.setAstSrc k (fun y => { y with can := some (c.1, []) })
          (s.astPart k c.1 (c.2.take (astPartLen c.2))).2
        else s.setAstSrc k (fun y => { y with can := some c })

/-- AST_LIST_PART (R352 to R356). -/
def execAstListPart (x : AstRx) (s : State) : Host.Outcome State Fault Refusal := s.runIn .ast (fun s => s.astRx x)

/-- AST_PART_TIMEOUT (R354). -/
def execAstPartTimeout (k : Nat) (s : State) : Host.Outcome State Fault Refusal :=
  s.runIn .ast (fun s =>
    match (s.astSrc k).part with
    | none => s
    | some p =>
      if s.tbPast p.stamp (tbMs 10) then (s.astDisc k 2).setAstSrc k (fun x => { x with part := none, can := none }) else s)

/-- A write of `AST_SUB_GO` (R352). -/
def State.astSubGo (v : Word) (mem : List Byte) (s : State) : State :=
  let k := fld v 3 0
  if s.bt R.AST_STATUS 21 then s.inc R.AST_LIST_DISC
  else if s.astF (R.AST_SRC_CFG k) 2 1 != 2 then s.astDisc k 8
  else (s.astPart k s.clk.tb (mem.take (astPartLen mem))).2

/-- AST_SUB_GO_WRITE (R352): `mem` is what stands in DRAM at `AST_SUB_ADDR`. -/
def execAstSubGoWrite (ini : Initiator) (v : Word) (mem : List Byte) (s : State) : Host.Outcome State Fault Refusal :=
  s.runIn .ast (fun s => s.owned ini fAST .ast .fab (fun s => s.astSubGo v mem))

/-- AST_SOURCE_LOST (R357): no accepted list for three frame periods. -/
def execAstSourceLost (k : Nat) (s : State) : Host.Outcome State Fault Refusal :=
  s.runIn .ast (fun s =>
    if (s.astSrc k).st = 2 && s.tbPast (s.astSrc k).lastAt (3 * s.astPeriod k) then s.astState k 4 else s)

/-! ### Tracks -/

/-- The constant-acceleration transition over a time in s. -/
def caF (h : Rat) : Mat :=
  [[1, 0, h, 0, h * h / 2, 0], [0, 1, 0, h, 0, h * h / 2], [0, 0, 1, 0, h, 0], [0, 0, 0, 1, 0, h],
   [0, 0, 0, 0, 1, 0], [0, 0, 0, 0, 0, 1]]

/-- White-jerk process noise of spectral density `q` over a time. -/
def caQ (q h : Rat) : Mat :=
  let a := q * h * h * h * h * h / 20
  let b := q * h * h * h * h / 8
  let c := q * h * h * h / 6
  let d := q * h * h * h / 3
  let e := q * h * h / 2
  let f := q * h
  [[a, 0, b, 0, c, 0], [0, a, 0, b, 0, c], [b, 0, d, 0, e, 0], [0, b, 0, d, 0, e], [c, 0, e, 0, f, 0], [0, c, 0, e, 0, f]]

/-- Prediction of a track to a time (R362). -/
def State.astPredict (s : State) (t : AstTrack) (tb : Int) : AstTrack :=
  if t.tb = tb then t
  else
    let h : Rat := ((tb - t.tb : Int) : Rat) / 50000000
    let q : Rat := (s.astF R.AST_TRK_Q 15 0 : Nat)
    let f := caF h
    let x := f.vec t.x
    let p := (f.mul t.p 6).mul (f.tr 6) 6
    let p := if t.tb < tb then p.add (caQ (100 * q) h) else p
    let m := s.trackMotion t.tb tb
    let c := cosR (-m.2)
    let n := sinR (-m.2)
    let r : Mat := [[c, -n, 0, 0, 0, 0], [n, c, 0, 0, 0, 0], [0, 0, c, -n, 0, 0], [0, 0, n, c, 0, 0],
                    [0, 0, 0, 0, c, -n], [0, 0, 0, 0, n, c]]
    let x := r.vec ([x.getD 0 0 - m.1.1, x.getD 1 0 - m.1.2] ++ x.drop 2)
    { t with x := x, p := (r.mul p 6).mul (r.tr 6) 6, tb := tb }

/-- The innovation of a measurement on a track, and the inverse of S (R363). -/
def astInnov (t : AstTrack) (m : AstMeas) : List Rat × Option Mat :=
  let n := m.z.length
  let nu := (m.z.zip t.x).map (fun a => a.1 - a.2)
  let hph : Mat := (t.p.take n).map (fun r => r.take n)
  (nu, (hph.add m.r).inv n)

/-- The squared Mahalanobis distance, none where S has no inverse. -/
def astDist (t : AstTrack) (m : AstMeas) : Option Rat :=
  let i := astInnov t m
  i.2.map (fun s => dotR i.1 (s.vec i.1))

/-- The gate of a measurement in Q8 (R363). -/
def State.astGate (s : State) (m : AstMeas) : Nat :=
  if m.z.length = 4 then s.astF R.AST_GATE 31 16 else s.astF R.AST_GATE 15 0

/-- The cost of a pair, none where it is forbidden (R363). -/
def State.astCost (s : State) (t : AstTrack) (m : AstMeas) : Option Nat :=
  match astDist t m with
  | none => none
  | some d => if (s.astGate m : Rat) < 256 * d then none else some (min 65535 (ratRound (256 * d)).toNat)

/-- One bid of a detection (R364): its best column, ties to the lower slot and birth last; the increment over the second best
plus ε. `cols` are the allowed (slot, cost), `g` the birth cost, `pr` the prices. Answers the slot bid for, none for birth, and
the new price. -/
def astBid (cols : List (Nat × Nat)) (g : Nat) (pr : List (Nat × Int)) (eps : Int) : Option (Nat × Int) :=
  let price (j : Nat) : Int := (pr.lookup j).getD 0
  let vals := cols.map (fun c => (c.1, -(c.2 : Int) - price c.1))
  let best := vals.foldl (fun (a : Option (Nat × Int)) v =>
    match a with
    | none => some v
    | some b => if b.2 < v.2 || (b.2 = v.2 && v.1 < b.1) then some v else some b) none
  match best with
  | none => none
  | some b =>
    let birth : Int := -(g : Int)
    if b.2 < birth then none
    else
      let second := (vals.filter (fun v => v.1 != b.1)).foldl (fun (a : Int) v => max a v.2) birth
      some (b.1, price b.1 + (b.2 - second) + eps)

/-- One phase of the auction (R364): `left` are the detections without a pair, `pairs` the assignment found so far (detection, slot).
Answers the pairs, the bids left in the budget, and whether the phase came to its end. -/
def astAuction (cols : Nat → List (Nat × Nat)) (g : Nat → Nat) (eps : Int) (run : Nat) :
    Nat → List Nat → List (Nat × Nat) → List (Nat × Int) → List (Nat × Nat) × Nat × Bool
  | 0, left, pairs, _ => (pairs, 0, left.isEmpty)
  | fuel + 1, left, pairs, pr =>
    match left with
    | [] => (pairs, fuel + 1, true)
    | _ :: _ =>
      let i := left.getD (Config.solverNext run fuel % left.length) 0
      let rest := left.filter (fun j => j != i)
      match astBid (cols i) (g i) pr eps with
      | none => astAuction cols g eps run fuel rest pairs pr
      | some (j, p) =>
        let out := (pairs.filter (fun q => q.2 == j)).map (fun q => q.1)
        astAuction cols g eps run fuel (rest ++ out) ((i, j) :: pairs.filter (fun q => q.2 != j))
          ((j, p) :: pr.filter (fun q => q.1 != j))

/-- The ε of each phase (R364): from 4,096, divided by 4, down to `f`. -/
def astEps (f : Nat) : Nat → Nat → List Nat
  | 0, _ => [f]
  | n + 1, e => if e ≤ f then [f] else e :: astEps f n (e / 4)

/-- The phases in order (R364), each from zero prices (log entry 79), on one budget of bids: the pairs of the phase that ends last or that
the budget ends, and whether the budget ended it. -/
def astPhases (cols : Nat → List (Nat × Nat)) (g : Nat → Nat) (run n : Nat) : Nat → List Nat → List (Nat × Nat) × Bool
  | _, [] => ([], false)
  | fuel, e :: es =>
    let r := astAuction cols g (e : Nat) run fuel (List.range n) [] []
    if !r.2.2 then (r.1, true) else if es.isEmpty then (r.1, false) else astPhases cols g run n r.2.1 es

/-- The solver on the measurements of a list (R364): pairs of measurement index and slot, and whether it was capped. -/
def State.astSolve (s : State) (ms : List AstMeas) : List (Nat × Nat) × Bool :=
  let n := ms.length
  let ts := s.ast.tracks
  let costs := ms.map (fun m => ts.filterMap (fun t => (s.astCost t m).map (fun c => (t.slot, c))))
  let f := max 1 (s.astF R.AST_SOLVE_CFG 15 0 / (n + 1))
  let run := s.ast.solves
  let fuel := if Config.solverCapped run then Config.solverBids run else 7 * ((ts.length + 1) * 131072 + n)
  astPhases (fun i => costs.getD i []) (fun i => (ms[i]?.map s.astGate).getD 0) run n fuel (astEps f 6 4096)

/-- The update of a track by its measurement (R365). -/
def astUpdate (t : AstTrack) (m : AstMeas) (src : Nat) : AstTrack :=
  let n := m.z.length
  let i := astInnov t m
  match i.2 with
  | none => t
  | some si =>
    let pht : Mat := t.p.map (fun r => r.take n)
    let k := pht.mul si n
    let x := (t.x.zip (k.vec i.1)).map (fun a => a.1 + a.2)
    let kh : Mat := k.map (fun r => r ++ List.replicate (6 - n) 0)
    let p := ((Mat.one 6).sub kh).mul t.p 6
    let d := m.det
    { t with
      x := x, p := p,
      len := if d.size then t.len + asr (10 * d.len - t.len) 2 else t.len,
      wid := if d.size then t.wid + asr (10 * d.wid - t.wid) 2 else t.wid,
      cls := (List.range 8).map (fun c => t.cls.getD c 0 * 7 / 8 + (if c = d.cls then (d.conf : Rat) else 0)),
      last := t.tb, srcs := t.srcs ||| 2 ^ src }

/-- The track that an unassigned detection starts (R366). -/
def astBirth (slot id : Nat) (tb : Int) (src : Nat) (m : AstMeas) : AstTrack :=
  let d := m.det
  let v := if m.z.length = 4 then m.z.drop 2 else [0, 0]
  let pv : Rat := if m.z.length = 4 then m.r.at_ 2 2 else 1000000
  let p : Mat := [[m.r.at_ 0 0, m.r.at_ 0 1, 0, 0, 0, 0], [m.r.at_ 1 0, m.r.at_ 1 1, 0, 0, 0, 0], [0, 0, pv, 0, 0, 0],
                  [0, 0, 0, pv, 0, 0], [0, 0, 0, 0, 250000, 0], [0, 0, 0, 0, 0, 250000]]
  { slot := slot, id := id, x := m.z.take 2 ++ v ++ [0, 0], p := p, tb := tb,
    len := if d.size then 10 * d.len else 0, wid := if d.size then 10 * d.wid else 0,
    cls := (List.range 8).map (fun c => if c = d.cls then (d.conf : Rat) else 0), last := tb, srcs := 2 ^ src }

/-- The next free ID from `n` on: 1 to 0xFFFF in a ring. -/
def astNextId (used : List Nat) : Nat → Nat → Nat
  | 0, n => n
  | fuel + 1, n => if used.contains n then astNextId used fuel (if n = 0xFFFF then 1 else n + 1) else n

/-- An unassigned detection of list `l` (R366): near miss, and a birth where fewer than 256 tracks exist. -/
def State.astUnassigned (s : State) (l : AstList) (before : List AstTrack) (m : AstMeas) : State :=
  let g : Rat := (s.astGate m : Nat)
  let near : Rat := g * (s.astF R.AST_SOLVE_CFG 19 16 : Nat)
  let ds := before.filterMap (fun t => astDist t m)
  let small := ds.foldl (fun (a : Option Rat) d => match a with
    | none => some d
    | some b => some (if d < b then d else b)) none
  let miss := match small with
    | some d => decide (g < 256 * d) && decide (256 * d ≤ near)
    | none => false
  let s := if miss then s.inc R.AST_CONTRADICT else s
  if 256 ≤ s.ast.tracks.length then s.inc R.AST_TRK_FULL
  else
    let used := s.ast.tracks.map (fun t => t.id)
    let id := astNextId used 256 s.ast.nextId
    let slot := ((List.range 256).find? (fun i => !s.ast.tracks.any (fun t => t.slot == i))).getD 0
    (s.setAst (fun a => { a with
      tracks := a.tracks ++ [astBirth slot id l.tb l.src m], nextId := if id = 0xFFFF then 1 else id + 1 })).inc R.AST_BIRTHS

/-- One list of a cycle (R368): predict, transform, cost, solve, update, births. Answers whether its run was capped. -/
def State.astFuse (s : State) (l : AstList) : Bool × State :=
  let s := s.setAst (fun a => { a with tracks := a.tracks.map (fun t => s.astPredict t l.tb) })
  let ms := l.dets.map (fun d => s.astTransform l d)
  let r := s.astSolve ms
  let before := s.ast.tracks
  let s := s.setAst (fun a => { a with
    solves := a.solves + 1,
    tracks := a.tracks.map (fun t =>
      match r.1.find? (fun q => q.2 == t.slot) with
      | some q => match ms[q.1]? with
        | some m => astUpdate t m l.src
        | none => t
      | none => t) })
  let s := if r.2 then s.inc R.AST_CAP else s
  let un := (List.range ms.length).filter (fun i => !r.1.any (fun q => q.1 == i))
  let s := un.foldl (fun (s : State) i =>
    match ms[i]? with
    | some m => s.astUnassigned l before m
    | none => s) s
  let ego1 := s.astF (R.AST_SRC_CFG l.src) 6 5 = 1
  let ts := l.dets.map (fun d => l.tb + 500 * d.dt)
  let lo := ts.foldl (fun a b => min a b) l.tb
  let hi := ts.foldl (fun a b => max a b) l.tb
  let s := if ego1 then s.wb (R.AST_SRC_STATUS l.src) 5 (s.egoInv lo hi) else s
  ((r.2), s.addCnt R.AST_DETS ms.length)

/-- Hit and miss counts, confirmation and deletion at the end of a cycle (R367). -/
def State.astCount (s : State) : State :=
  let c := s.astW R.AST_TRK_CFG
  let pmax : Rat := (s.astF R.AST_TRK_LIM 15 0 : Nat)
  let range : Rat := (100 * s.astF R.AST_TRK_Q 31 16 : Nat)
  let ts := s.ast.tracks.map (fun t =>
    let hit := t.srcs != 0
    let h := if hit then t.hits + 1 else 0
    let m := if hit then 0 else t.miss + 1
    { t with hits := h, miss := m, age := t.age + 1, conf := t.conf || fld c 3 0 ≤ h })
  let gone (t : AstTrack) : Bool :=
    (!t.conf && decide (fld c 7 4 ≤ t.miss)) || (t.conf && decide (fld c 15 8 ≤ t.miss)) ||
    decide (pmax * pmax < Mat.at_ t.p 0 0) || decide (pmax * pmax < Mat.at_ t.p 1 1) ||
    decide (range < t.x.getD 0 0) || decide (t.x.getD 0 0 < -range) ||
    decide (range < t.x.getD 1 0) || decide (t.x.getD 1 0 < -range)
  (s.setAst (fun a => { a with tracks := ts.filter (fun t => !gone t) })).addCnt R.AST_DELETES (ts.filter gone).length

/-- A signed 16-bit field of a real number, saturating. -/
def r16 (r : Rat) : List Byte := leBytes 2 ((iword (clampI (-32768) 32767 (ratInt r))).toNat % 65536)

/-- An unsigned 16-bit field of a standard deviation in cm, times a factor, saturating. -/
def sig16 (f p : Rat) : List Byte := leBytes 2 (min 65535 (ratInt (f * ratSqrt p)).toNat)

/-- The reported class and its confidence (R365). -/
def AstTrack.classOut (t : AstTrack) : Nat × Nat :=
  let best := (List.range 8).foldl (fun (a : Nat) c => if t.cls.getD a 0 < t.cls.getD c 0 then c else a) 0
  let sum := t.cls.foldl (fun a b => a + b) 0
  (best, if sum = 0 then 0 else (ratInt (t.cls.getD best 0 * 255 / sum)).toNat)

/-- Bytes 0 to 59 of a track record (R371). -/
def astRecord (egoInv : Bool) (t : AstTrack) : List Byte :=
  let c := t.classOut
  let x (i : Nat) : Rat := t.x.getD i 0
  [2#8, byte c.1, byte (b2n t.conf + 2 * b2n (t.conf && t.srcs == 0) + 4 * b2n egoInv), byte c.2] ++ leBytes 2 t.id ++
    leBytes 2 t.srcs ++ wBytes (iword (ratInt (10 * x 0))) ++ wBytes (iword (ratInt (10 * x 1))) ++
    r16 (x 2) ++ r16 (x 3) ++ r16 (x 4) ++ r16 (x 5) ++ sig16 10 (Mat.at_ t.p 0 0) ++ sig16 10 (Mat.at_ t.p 1 1) ++
    sig16 1 (Mat.at_ t.p 2 2) ++ sig16 1 (Mat.at_ t.p 3 3) ++ leBytes 2 (clampI 0 65535 t.len).toNat ++
    leBytes 2 (clampI 0 65535 t.wid).toNat ++ leBytes 4 t.age ++ leBytes 4 t.miss ++
    leBytes 8 (t.last % ((2 ^ 64 : Nat) : Int)).toNat ++ leBytes 8 0

/-- Offers a record to the rings of a choice (0 confirmed only, 1 all); dropped ones are counted (R371). -/
def State.astOffer (s : State) (all : Nat) (body : List Byte) : State :=
  let o := s.offer fAST 1 (fun p => p == all) (fun q => body ++ leBytes 4 q)
  o.2.addCnt R.AST_RING_LOST o.1

/-- The shadowed registers take effect (R368): changed sources enter WAIT, disabled ones OFF. -/
def State.astLatch (s : State) : State :=
  let old (a : Nat) : Word := s.astW a
  let changed := (List.range 16).filter (fun k =>
    (List.range 6).any (fun j => old (R.AST_SRC_CFG k + 4 * j) != s.rd (R.AST_SRC_CFG k + 4 * j)))
  let t := s.setAst (fun a => { a with cfg := astRegs.map (fun r => (r, s.rd r)), strobed := false })
  (List.range 16).foldl (fun (t : State) k =>
    let on := t.bt (R.AST_SRC_CFG k) 0 && t.astRuns
    if !on then (if (t.astSrc k).st = 0 then t else t.astSrcReset k false)
    else if changed.contains k || (t.astSrc k).st = 0 then t.astSrcReset k true else t) t

/-- Astrolabe begins to run (R357, R372): no tracks, IDs from 1, every enabled source in WAIT. -/
def State.astBegin (s : State) : State :=
  let t := s.setAst (fun a => { a with
    tracks := [], nextId := 1, lists := [], poses := [], sampled := s.clk.tickCount / 50, lastT := s.clk.tb, running := true,
    clear := false, discAt := s.rd R.AST_LIST_DISC })
  let t := t.astLatch
  (List.range 16).foldl (fun (t : State) k => t.astSrcReset k (t.bt (R.AST_SRC_CFG k) 0)) t

/-- Publication of a cycle at boundary `T` (R371). -/
def State.astPublish (s : State) (T dets lists us : Nat) (egoInv cap ovf : Bool) : State :=
  let valid := maskOf 16 (fun k => (s.astSrc k).st == 2)
  let ts := sortBy (fun (a b : AstTrack) => decide (a.id < b.id)) s.ast.tracks
  let conf := ts.filter (fun t => t.conf)
  let rates := if bit (s.astW R.AST_EGO_CFG) 25 then ((0 : Rat), (0 : Rat)) else s.odoRates T
  let disc := s.rd R.AST_LIST_DISC - s.ast.discAt
  let head (n : Nat) : List Byte :=
    [1#8, 0#8, byte (b2n egoInv + 2 * b2n cap + 4 * b2n ovf), 0#8] ++ leBytes 2 n ++ leBytes 2 valid ++ leBytes 8 T ++
      leBytes 2 dets ++ leBytes 2 lists ++ leBytes 2 (min 65535 disc.toNat) ++ leBytes 2 0 ++ wBytes (s.rd R.AST_CYCLES) ++
      leBytes 4 us ++ r16 rates.1 ++ r16 rates.2 ++ leBytes 24 0
  let s := conf.foldl (fun (s : State) t => s.astOffer 0 (astRecord egoInv t)) (s.astOffer 0 (head conf.length))
  let s := ts.foldl (fun (s : State) t => s.astOffer 1 (astRecord egoInv t)) (s.astOffer 1 (head ts.length))
  let s := s.setAst (fun a => { a with
    shown := ts.map (fun t => (t.id, astRecord egoInv t)), discAt := s.rd R.AST_LIST_DISC })
  let s := s.wr R.AST_CYC_TIME (word (us + 65536 * max us (s.fd R.AST_CYC_TIME 31 16)))
  let s := s.wr R.AST_STATUS (word (ts.length + 512 * conf.length + 262144 * b2n cap + 524288 * b2n egoInv + 1048576 * b2n ovf))
  if cap || ovf || egoInv then
    s.notify fAST 0x81 ([byte (b2n cap + 2 * b2n ovf + 4 * b2n egoInv), 0#8, 0#8, 0#8] ++ wBytes (s.rd R.AST_CYCLES))
  else s

/-- Takes lists while the cycle's detections stay at 512 or fewer (R368): those taken and those that wait. -/
def astTake : Nat → List AstList → List AstList × List AstList
  | _, [] => ([], [])
  | n, l :: ls =>
    if n + l.dets.length ≤ 512 then
      let r := astTake (n + l.dets.length) ls
      (l :: r.1, r.2)
    else ([], l :: ls)

/-- AST_FUSION_CYCLE (R362 to R368, R371, R372): the work of the latest cycle boundary; `us` the time it took. -/
def execAstFusionCycle (us : Nat) (s : State) : Host.Outcome State Fault Refusal :=
  s.runIn .ast (fun s =>
    let per0 := 50000 * max 1 (s.astF R.AST_CYC_CFG 7 0)
    let T := s.clk.tb / per0 * per0
    if T ≤ s.ast.lastT || !(s.ast.running || s.astRuns) then s
    else
      let s := s.setAst (fun a => { a with lastT := T })
      let s := if s.ast.strobed then s.astLatch else s
      let s := if s.astRuns && !s.ast.running then s.astBegin else s
      let stop := !s.astRuns
      let s := if stop || s.ast.clear then
          (s.addCnt R.AST_DELETES s.ast.tracks.length).setAst (fun a => { a with tracks := [], clear := false })
        else s
      let s := s.setAst (fun a => { a with running := !stop })
      if stop then (s.setAst (fun a => { a with lists := [], shown := [] })).wr R.AST_STATUS 0#32
      else
        let s := s.inc R.AST_CYCLES
        let s := s.setAst (fun a => { a with tracks := a.tracks.map (fun t => { t with srcs := 0 }) })
        let due := sortBy (fun (a b : AstList) => decide (a.tb < b.tb) || (a.tb == b.tb && decide (a.src < b.src)))
          (s.ast.lists.filter (fun l => l.tb ≤ (T : Int)))
        let later := s.ast.lists.filter (fun l => !(l.tb ≤ (T : Int)))
        let maxAge : Int := (50000 * s.astF R.AST_CYC_CFG 15 8 : Nat)
        let late := due.filter (fun l => l.tb < (T : Int) - maxAge)
        let s := late.foldl (fun (s : State) l => s.astDisc l.src 6) s
        let take := astTake 0 (due.filter (fun l => !(l.tb < (T : Int) - maxAge)))
        let ovf := !take.2.isEmpty
        let s := s.setAst (fun a => { a with lists := take.2 ++ later })
        let r := take.1.foldl (fun (a : Bool × State) l =>
          let x := a.2.astFuse l
          (a.1 || x.1, x.2)) (false, s)
        let s := r.2
        let frame := !bit (s.astW R.AST_EGO_CFG) 25
        let first := s.ast.tracks.foldl (fun (a : Int) t => min a t.tb) (T - per0 : Nat)
        let inv := frame && s.egoInv first T
        let s := s.setAst (fun a => { a with tracks := a.tracks.map (fun t => s.astPredict t T) })
        let dets := take.1.foldl (fun a l => a + l.dets.length) 0
        (s.astCount).astPublish T dets take.1.length us inv r.1 ovf)

/-! ### Commands -/

/-- AST_RING_OPEN (R371, R374, R560). -/
def execAstRingOpen (c : Cmd) (s : State) : Host.Outcome State Fault Refusal :=
  s.runIn .ast (fun s => s.command fAST 0x10 0 c (fun k s =>
    if c.payload.length != 2 then refuse stBAD_LENGTH s
    else if 1 < u8 c.payload 1 then refuse stBAD_PARAM s
    else ringReply s (s.openRing k fAST 1 (u8 c.payload 1) (u8 c.payload 0) false [])))

/-- AST_RING_CLOSE (R374). -/
def execAstRingClose (c : Cmd) (s : State) : Host.Outcome State Fault Refusal :=
  s.runIn .ast (fun s => s.command fAST 0x11 0 c (fun k s =>
    let n := u8 c.payload 0
    if c.payload.length != 1 then refuse stBAD_LENGTH s
    else
      match s.ring? n with
      | some r => if r.fn = fAST && r.session = k then (.now stOK [], s.closeRing n) else refuse stBAD_PARAM s
      | none => refuse stBAD_PARAM s))

/-- AST_LIST (R352, R374). -/
def execAstList (c : Cmd) (s : State) : Host.Outcome State Fault Refusal :=
  s.runIn .ast (fun s => s.command fAST 0x12 0 c (fun _ s =>
    let p := c.payload
    let k := u8 p 0
    if p.length < 28 then refuse stBAD_LENGTH s
    else if 16 ≤ k || s.astF (R.AST_SRC_CFG k) 2 1 != 2 then refuse stBAD_PARAM s
    else
      let r := s.astPart k s.clk.tb (p.drop 4)
      okWith [byte r.1] r.2))

/-- AST_READ_TRACK (R374). -/
def execAstReadTrack (c : Cmd) (s : State) : Host.Outcome State Fault Refusal :=
  s.runIn .ast (fun s => s.command fAST 0x13 0 c (fun _ s =>
    if c.payload.length != 2 then refuse stBAD_LENGTH s
    else
      match s.ast.shown.lookup (u16 c.payload 0) with
      | some r => okWith (padTo 64 r) s
      | none => refuse stBAD_PARAM s))

/-- AST_CLEAR (R372, R374). -/
def execAstClear (c : Cmd) (s : State) : Host.Outcome State Fault Refusal :=
  s.runIn .ast (fun s => s.command fAST 0x14 1 c (fun _ s =>
    if !c.payload.isEmpty then refuse stBAD_LENGTH s
    else okWith [] (s.setAst (fun a => { a with clear := true }))))

/-! ### Status, configuration, start and stop -/

/-- AST_GET_STATUS after the common bytes (R374). -/
def State.astStatus (s : State) : List Byte :=
  leBytes 2 (s.fd R.AST_STATUS 8 0) ++ leBytes 2 (s.fd R.AST_STATUS 17 9) ++
    (List.range 16).map (fun k => byte (s.astSrc k).st) ++ wBytes (s.rd R.AST_CYCLES) ++ wBytes (s.rd R.AST_CONTRADICT)

/-- The registers of a CONFIGURE payload with its words (R373). -/
def astCfgWords (p : List Byte) : List (Nat × Word) :=
  (List.range 6).map (fun i => (R.AST_CYC_CFG + 4 * i, w32 p (4 * i))) ++
  (List.range 16).flatMap (fun k => (List.range 6).map (fun j => (R.AST_SRC_CFG k + 4 * j, w32 p (24 + 24 * k + 4 * j)))) ++
  [(R.AST_EGO_CFG, w32 p 408)]

/-- CONFIGURE of AST (R358, R372, R373); `plant` the profile. -/
def astCfgCheck (plant : Bool) (p : List Byte) : Nat :=
  let c (k : Nat) : Word := w32 p (24 + 24 * k)
  let w (k j : Nat) : Word := w32 p (24 + 24 * k + 4 * j)
  let cyc := w32 p 0
  let sol := w32 p 8
  let trk := w32 p 12
  let trq := w32 p 16
  let ego := w32 p 408
  let clash := (List.range 16).any (fun a => (List.range a).any (fun b =>
    bit (c a) 0 && bit (c b) 0 && fld (c a) 2 1 == fld (c b) 2 1 && fld (c a) 10 7 == fld (c b) 10 7 &&
    ((fld (c a) 2 1 == 0 && fld (w a 1) 15 0 == fld (w b 1) 15 0) ||
     (fld (c a) 2 1 == 1 && bit (w a 2) 31 == bit (w b 2) 31 &&
      (fld (w a 2) 28 0 == fld (w b 2) 28 0 || fld (w a 2) 28 0 + 1 == fld (w b 2) 28 0 ||
       fld (w a 2) 28 0 == fld (w b 2) 28 0 + 1)))))
  let srcOk := (List.range 16).all (fun k =>
    fld (c k) 2 1 ≤ 2 && fld (c k) 4 3 ≤ 2 && fld (c k) 6 5 ≤ 2 && (fld (c k) 2 1 != 0 || fld (c k) 10 7 ≤ 12) &&
    (sfld (w k 4) 15 0).natAbs ≤ 18000 && 1 ≤ fld (w k 5) 15 0)
  let odo := ((List.range 16).filter (fun k => fld (c k) 6 5 == 1)).length
  let pos (n : Nat) : Bool := 0x80 ≤ n && n ≤ 0xDF
  if p.length != 412 then stBAD_LENGTH
  else if !inMap (astCfgWords p) || fld cyc 7 0 < 20 || 200 < fld cyc 7 0 || fld cyc 15 8 < 10 || fld sol 15 0 = 0 || fld sol 19 16 = 0 ||
      fld trk 3 0 = 0 || fld trk 7 4 = 0 || fld trk 15 8 = 0 || fld trq 31 16 < 10 || 500 < fld trq 31 16 || !srcOk || clash ||
      4 < odo || (plant && (pos (fld ego 8 0) || pos (fld ego 24 16))) then stBAD_PARAM
  else stOK

/-- A UG9 strobe (R368): taken at the next boundary, or at START. -/
def State.astAfterUg9 (s : State) : State := s.setAst (fun a => { a with strobed := true })

/-- APPLY of AST (R373). -/
def State.astApply (s : State) (p : List Byte) : State :=
  let t := (astCfgWords p).foldl (fun (t : State) e => t.shadowWr e.1 9 (e.2 &&& maskAt e.1)) s
  (t.applyShadow 9).astAfterUg9

/-- START of AST (R357, R372). -/
def State.astStart (s : State) : State := (s.wb R.AST_CTRL 0 true).astBegin

/-- STOP of AST (R372): sources OFF; the tracks go at the next boundary. -/
def State.astStop (s : State) : State :=
  (List.range 16).foldl (fun (t : State) k => t.astSrcReset k false) (s.wb R.AST_CTRL 0 false)

/-- REINIT of AST and the return to BASIC (R372). -/
def State.astReinit (s : State) : State :=
  let t := s.astStop
  let t := t.setAst (fun _ => { ({} : Ast) with solves := s.ast.solves, lastT := s.ast.lastT, discAt := s.rd R.AST_LIST_DISC })
  let t := (List.range 16).foldl (fun (t : State) k => t.wr (R.AST_SRC_STATUS k) 0#32) t
  ((t.wr R.AST_STATUS 0#32).wr R.AST_CYC_TIME 0#32).wr R.AST_EGO_STATUS 0#32

/-- A track resumed at a takeover from the summary of R461: identity, class, position and velocity in cm and cm/s, and size in
0.01 m. -/
def astResume (slot id cls : Nat) (x y vx vy len wid : Int) (tb : Nat) : AstTrack :=
  { slot := slot, id := id, x := [x, y, vx, vy, 0, 0], tb := tb, len := len, wid := wid, conf := true, last := tb,
    cls := (List.range 8).map (fun c => if c = cls then Config.resumeScore else 0),
    p := (List.range 6).map (fun i => (List.range 6).map (fun j => Config.resumeCov i j)) }

end Sys2Proof.Machine
end

