-- ==== Sys2Proof/Machine/LoadSwitches.lean ====
section
/-!
DEFINITION. The protected load switches (chapter 11, R550): modes, PWM, inrush, trips and retries, thermal latch,
under-voltage, budget, override, open load and the commands.
-/
namespace Sys2Proof.Machine

/-- Function ID of the load switches. -/
def fPSW : Nat := 4

/-- Changes the state of the load switches. -/
def State.setPsw (s : State) (f : Psw → Psw) : State := { s with psw := f s.psw }

/-- Load switch `n`. -/
def State.sw (s : State) (n : Nat) : PswCh := s.psw.chs.getD n {}

/-- Changes load switch `n`. -/
def State.setSw (s : State) (n : Nat) (f : PswCh → PswCh) : State :=
  s.setPsw (fun p => { p with chs := updAt p.chs n f })

/-- Group `g`. -/
def State.grp (s : State) (g : Nat) : PswGrp := s.psw.grps.getD g {}

/-- Changes group `g`. -/
def State.setGrp (s : State) (g : Nat) (f : PswGrp → PswGrp) : State :=
  s.setPsw (fun p => { p with grps := updAt p.grps g f })

/-- The channels of group `g`. -/
def grpChs (g : Nat) : List Nat := (List.range 4).map (fun i => 4 * g + i)

/-- Mode of channel `n` (R259); MODE 3 acts as OFF. -/
def State.pswMode (s : State) (n : Nat) : Nat :=
  let m := s.fd (R.PSW_CH_CFG n) 1 0
  if m = 3 then 0 else m

/-- Whether PWM is refused on channel `n`: inductive without a free-wheel diode (R274). -/
def pswRefused (cfg : Word) : Bool := bit cfg 2 && !bit cfg 3

/-- The steady limit of channel `n` in mA, clipped to its class (R258). -/
def State.pswSteady (s : State) (n : Nat) : Nat := min (if n < 8 then 12000 else 22000) (s.fd (R.PSW_CH_LIM n) 15 0)

/-- The inrush limit of channel `n` in mA, clipped to its class (R258). -/
def State.pswInrush (s : State) (n : Nat) : Nat := min (if n < 8 then 40000 else 60000) (s.fd (R.PSW_CH_LIM n) 31 16)

/-- INR_T in ms, 1 to 200. -/
def State.pswInrT (s : State) (n : Nat) : Nat := clampN 1 200 (s.fd (R.PSW_CH_DIAG n) 23 16)

/-- The effective enable of group `g` (R273), behind the pair gate (R455). -/
def State.grpEff (s : State) (g : Nat) : Bool := s.bt (R.PSW_GRP_EN g) 0 && nbit s.saf.lines (12 + g) && s.pairGate

/-- Whether group `g` is under-voltage, shed or over-voltage (R268, R269, R550). -/
def State.grpUv (s : State) (g : Nat) : Bool :=
  (s.grp g).uv || s.pwr.shed || s.pwr.overShed || s.pwr.groupOver.getD g false

/-- STATE of channel `n` in `PSW_CH_STATUS`. -/
def State.pswState (s : State) (n : Nat) : Nat :=
  let c := s.sw n
  if c.ocl || c.th then 6
  else if c.shed then 7
  else if !(s.grpEff (n / 4)) && s.psw.live then 5
  else if c.on then (if c.inr then 1 else 2)
  else if s.pswMode n = 0 || !s.psw.live then 0
  else if s.grpUv (n / 4) then 4
  else if c.due.isSome || c.pend then 3
  else 0

/-- Shows the status of group `g`. -/
def State.grpShow (s : State) (g : Nat) : State :=
  s.wf_ (R.PSW_GRP_STATUS g) 15 0 (b2n (!nbit s.saf.lines (12 + g)) + 2 * b2n (s.grpEff g) + 4 * b2n (s.grpUv g))

/-- Whether the entry of channel `n` is invalid (R275): in every state but INRUSH, ON and UV, and while OPEN stands. -/
def State.pswNoSig (s : State) (n : Nat) : Bool := (s.sw n).isOpen || !(List.contains [1, 2, 4] (s.pswState n))

/-- Shows the status of channel `n`, its bits in the masks and the validity of its entry. -/
def State.pswShow (s : State) (n : Nat) : State :=
  let c := s.sw n
  let s := if s.pswNoSig n && s.sigOk (0x30 + n) then s.dropSig (0x30 + n) else s
  let s := s.wr (R.PSW_CH_STATUS n) (word (s.pswState n + 8 * b2n c.isOpen + 16 * b2n c.th + 32 * b2n c.ocl +
    64 * b2n c.nofwd + 128 * b2n c.clip + 256 * b2n c.minOn + 512 * min 15 c.rcnt + 8192 * b2n c.hold.isSome +
    65536 * (iword (clampI (-32768) 32767 c.tj)).toNat))
  ((s.wb R.PSW_LATCHED n c.ocl).wb R.PSW_LATCHED (16 + n) c.th).wb R.PSW_OPEN n c.isOpen

/-- Shows the status of all channels and groups. -/
def State.pswShowAll (s : State) : State :=
  (List.range 4).foldl (fun (s : State) g => s.grpShow g) ((List.range 16).foldl (fun (s : State) n => s.pswShow n) s)

/-- Notification PSW_FAULT (R279). -/
def State.pswFaultNote (s : State) (n m set : Nat) : State := s.notify fPSW 0x80 [byte n, byte m, byte set, 0#8]

/-- Notification PSW_GROUP (R279). -/
def State.pswGroupNote (s : State) (g m set : Nat) : State := s.notify fPSW 0x81 [byte g, byte m, byte set, 0#8]

/-! ### Turning on and off -/

/-- Channel `n` turns off; the turn-off counts for the hold-off of R274 and the budget of R272; a retry that waited for the hold-off stays
pending (R274); its entry stays valid in the state UV alone (R275). -/
def State.pswOff (s : State) (n : Nat) : State :=
  let s := s.setSw n (fun c => { c with
    on := false, inr := false, perAt := none, onTime := 0, want := false, hold := none, pend := c.pend || c.hold == some true, olAt := none,
    gone := c.gone || c.on, lastOff := if c.on then some s.clk.tb else c.lastOff })
  if s.pswNoSig n then s.dropSig (0x30 + n) else s

/-- Whether nothing holds channel `n` off but its own back-off (R267, R268, R273). -/
def State.pswFree (s : State) (n : Nat) : Bool :=
  let c := s.sw n
  s.psw.live && (s.grp (n / 4)).on && !s.grpUv (n / 4) && !c.ocl && !c.th && !c.shed && s.pswMode n != 0

/-- Channel `n` turns on with its inrush window (R263); an inductive one without a diode refuses PWM and waits 1 s
after its last turn-off (R274). `retry` counts under R265. -/
def State.pswOn (s : State) (n : Nat) (retry : Bool) : State :=
  let c := s.sw n
  let cfg := s.rd (R.PSW_CH_CFG n)
  if !s.pswFree n || c.on then (if retry then s.setSw n (fun c => { c with pend := true }) else s)
  else if pswRefused cfg && s.pswMode n = 2 then (s.inc R.PSW_NOFWD).setSw n (fun c => { c with nofwd := true })
  else
    let early := match c.lastOff with
      | some t => pswRefused cfg && decide (s.clk.tb < t + tbMs 1000)
      | none => false
    if early then (s.inc R.PSW_NOFWD).setSw n (fun c => { c with hold := some retry, due := none, pend := false })
    else s.setSw n (fun c => { c with
      on := true, inr := true, inrAt := s.clk.tb, onAt := s.clk.tb, nofwd := false, hold := none, want := false,
      due := none, pend := false, rcnt := if retry then min 15 (c.rcnt + 1) else c.rcnt, perAt := none })

/-- A restart instant of group `g` (R268, R270): its channels turn on in ascending order, STAG ms apart; one in back-off
keeps its back-off unless its attempt has fallen due. -/
def State.grpRestart (s : State) (g : Nat) : State :=
  let ns := (grpChs g).filter (fun n =>
    let c := s.sw n
    s.pswFree n && !c.on && (c.pend || c.due.isNone))
  let stag := s.fd (R.PSW_GRP_BUDGET g) 19 16
  if stag = 0 then ns.foldl (fun (s : State) n => s.pswOn n (s.sw n).pend) (s.setGrp g (fun x => { x with queue := [] }))
  else
    match ns with
    | [] => s.setGrp g (fun x => { x with queue := [] })
    | n :: r => (s.pswOn n (s.sw n).pend).setGrp g (fun x => { x with queue := r, nextAt := s.clk.tb + tbMs stag })

/-- The group's channels turn off for an under-voltage (R268); a back-off runs on. -/
def State.grpDown (s : State) (g : Nat) : State :=
  (grpChs g).foldl (fun (s : State) n => s.pswOff n) (s.setGrp g (fun x => { x with queue := [] }))

/-- Under-voltage of group `g` (R268). -/
def State.grpUvOn (s : State) (g : Nat) : State :=
  if (s.grp g).uv then s
  else ((s.setGrp g (fun x => { x with uv := true })).grpDown g |>.inc R.PSW_UV_OFFS).pswGroupNote g 1 1

/-- A shed at V_RST counts as under-voltage for every group (R269). -/
def State.pswShed (s : State) : State := ((List.range 4).foldl (fun (s : State) g => s.grpUvOn g) s).pswShowAll

/-- Whether the Dome and power states let load switches operate (R16, R108). -/
def State.pswDome (s : State) : Bool := s.power == 3 && (s.dome == 2 || s.dome == 3 || s.dome == 4)

/-- The function stops (R277): all channels are OFF. -/
def State.pswDown (s : State) : State :=
  (List.range 4).foldl (fun (s : State) g => s.grpDown g) (s.setPsw (fun p => { p with live := false }))

/-- Enables of groups and of the function follow their conditions at once when they fall (R16, R273). -/
def State.pswEnables (s : State) : State :=
  let s := if s.psw.live && !s.pswDome then s.pswDown else s
  let t := (List.range 4).foldl (fun (s : State) g =>
    let eff := s.grpEff g
    let x := s.grp g
    if x.on && !eff then ((s.setGrp g (fun x => { x with on := false, back := false })).grpDown g).pswGroupNote g 2 1
    else if !x.on && eff && !x.back then s.setGrp g (fun x => { x with back := true })
    else if !x.on && !eff && x.back then s.setGrp g (fun x => { x with back := false })
    else s) s
  t.pswShowAll

/-- A word as UG4 applies it: F is clipped into its range (R260), limits to the maxima of the channel's class (R258). -/
def pswClip (a : Nat) (v : Word) : Word :=
  if R.PSW_CH_CFG 0 ≤ a && a < R.PSW_CH_CFG 16 then
    match a % 16 with
    | 0 => setFld v 15 6 (clampN 100 1000 (fld v 15 6))
    | 8 =>
      let b : Bool := R.PSW_CH_CFG 8 ≤ a
      setFld (setFld v 15 0 (min (if b then 22000 else 12000) (fld v 15 0))) 31 16 (min (if b then 60000 else 40000) (fld v 31 16))
    | _ => v
  else v

/-- After a strobe of UG4: changes of MODE (R259), of group enables, and NOFWD of a PWM written in EXPERT (R274). -/
def State.pswAfterUg4 (s : State) : State :=
  let s := (List.range 16).foldl (fun (s : State) n =>
    let w := s.rd (R.PSW_CH_CFG n)
    let old := (s.sw n).cfg
    let was := if fld old 1 0 = 3 then 0 else fld old 1 0
    let s := s.setSw n (fun c => { c with cfg := w })
    let m := s.pswMode n
    if was = m && (m != 2 || pswRefused old = pswRefused w) then s
    else if m = 0 then (s.pswOff n).setSw n (fun c => { c with due := none, pend := false, nofwd := false })
    else if m = 2 && pswRefused w then
      ((s.pswOff n).setSw n (fun c => { c with nofwd := true })).inc R.PSW_NOFWD
    else if (s.sw n).on then s.setSw n (fun c => { c with perAt := none })
    else if (s.sw n).due.isSome then s
    else s.pswOn n false) s
  s.pswEnables

/-! ### The tick and the millisecond -/

/-- `PSW_CTRL`.RUN takes effect; enables return; cleared channels turn on: at a tick boundary (R265, R273, R277). -/
def State.pswTick (s : State) : State :=
  let want := s.bt R.PSW_CTRL 0 && s.pswDome
  let s := if s.psw.live && !want then s.pswDown else s
  let starts := want && !s.psw.live
  let s := s.setPsw (fun p => { p with live := want })
  let s := (List.range 4).foldl (fun (s : State) g =>
    if (s.grp g).back then
      let s := (s.setGrp g (fun x => { x with on := true, back := false })).pswGroupNote g 2 0
      s.grpRestart g
    else if starts && (s.grp g).on then s.grpRestart g
    else s) s
  let s := (List.range 16).foldl (fun (s : State) n =>
    if (s.sw n).want then (s.setSw n (fun c => { c with want := false })).pswOn n (s.sw n).pend else s) s
  s.pswShowAll

/-- The current of channel `n` for the budget: its mean clipped to its steady limit, 0 where it is off or turned off in
this millisecond (R272). -/
def State.pswShare (s : State) (n : Nat) : Nat :=
  let c := s.sw n
  if c.on && !c.gone then min (s.pswSteady n) (s.pwr.meas.pswMean.getD n 0) else 0

/-- The end of a millisecond (R266, R272, R275): budget, current entries, junction temperatures. -/
def State.pswMs (s : State) : State :=
  let s := (List.range 16).foldl (fun (s : State) n =>
    s.setSw n (fun c => { c with tj := s.pwr.meas.pswTj.getD n c.tj })) s
  let s := (List.range 4).foldl (fun (s : State) g =>
    let sum := (grpChs g).foldl (fun a n => a + s.pswShare n) 0
    let s := s.wf_ (R.PSW_GRP_STATUS g) 31 16 (min 65535 (sum / 10))
    let b := s.fd (R.PSW_GRP_BUDGET g) 15 0
    s.setGrp g (fun x => { x with excess := if b != 0 && b < sum then x.excess + 1 else 0 })) s
  let s := (List.range 16).foldl (fun (s : State) n =>
    let v := if s.bt (R.PSW_CH_CFG n) 5 then s.pwr.meas.pswOn.getD n 0 else s.pwr.meas.pswMean.getD n 0
    let s := s.setSw n (fun c => { c with gone := false })
    let s := s.wr (R.PSW_CH_I n) (word (min 65535 v + 65536 * (s.pwr.meas.pswCode.getD n 0 % 4096)))
    if s.pswNoSig n then s.dropSig (0x30 + n) else s.setSig (0x30 + n) (word v)) s
  s.pswShowAll

/-! ### Events -/

/-- Does `g` for channel `n` and shows its status. -/
def State.pswDo (s : State) (n : Nat) (g : State → State) : State := if n < 16 then (g s).pswShow n else s

/-- PSW_PWM_PERIOD (R260, R262): the first aligned instant after the period in progress. -/
def execPswPwmPeriod (n : Nat) (s : State) : Host.Outcome State Fault Refusal :=
  s.runIn .psw (fun s => s.pswDo n (fun s =>
    let c := s.sw n
    let cfg := s.rd (R.PSW_CH_CFG n)
    let p := 50000000 / clampN 100 1000 (fld cfg 15 6)
    let off := n % 4 * (p / 4)
    let free := match c.perAt with
      | some t => t + c.per
      | none => c.onAt
    if !c.on || s.pswMode n != 2 || s.clk.tb < off then s
    else
      let a := s.clk.tb - (s.clk.tb - off) % p
      if a < free then s
      else
        let d := min 10000 (s.fd (R.PSW_CH_DUTY n) 13 0)
        let vn := s.fd (R.PSW_CH_DUTY n) 31 16
        let e := 0x1C2 + n / 4
        let v := (s.sig e).toNat
        let r : Nat × Bool :=
          if !bit cfg 4 then (d, false)
          else if !s.sigOk e then (d, true)
          else if v = 0 then ((clampI 0 10000 (Config.divByZero ((d * vn * vn : Nat) : Int))).toNat, true)
          else
            let q := d * vn * vn / (v * v)
            (min 10000 q, decide (10000 < q))
        let t := r.1 * p / 10000
        let on := if t < 1000 then 0 else if p - t < 1000 then p else t
        (s.wr (R.PSW_CH_DUTY_EFF n) (word r.1)).setSw n (fun c => { c with
          perAt := some a, per := p, onTime := on, minOn := decide (t < 1000), clip := r.2 })))

/-- An overcurrent trip of channel `n` (R264, R265, R271). -/
def State.pswTrip (s : State) (n : Nat) (cause : Nat) : State :=
  let s := (s.inc R.PSW_OC_TRIPS).post fPSW .pswTrip
  let s := s.wr (R.PSW_CH_TRIP n) (word (cause + 65536 * min 65535 (s.fd (R.PSW_CH_TRIP n) 31 16 + 1)))
  let s := (s.pswOff n).pswFaultNote n 8 1
  let r := (s.sw n).rcnt
  if r = s.fd (R.PSW_CH_CFG n) 19 16 then
    ((s.setSw n (fun c => { c with ocl := true, due := none, pend := false })).post fPSW .pswLatch).pswFaultNote n 2 1
  else
    let bo := max 1 (s.fd (R.PSW_CH_CFG n) 27 20)
    s.setSw n (fun c => { c with due := some (s.clk.tb + tbMs (min 60000 (bo * 10 * 2 ^ r))), pend := false })

/-- The threshold channel `n` trips on, and the cause of the trip (R263, R264): the inrush limit inside the window, the steady limit from its
end. A crossing whose 5 µs begin no later than the window's end is one at the instant it ends. -/
def State.pswThreshold (s : State) (n : Nat) : Nat × Nat :=
  let c := s.sw n
  if !c.inr then (s.pswSteady n, if s.clk.tb ≤ c.onSince + 250 then 3 else 1)
  else if s.tbPast c.inrAt (tbMs (s.pswInrT n)) then (s.pswSteady n, 3)
  else (s.pswInrush n, 2)

/-- PSW_OC_TRIP (R264): the current of a channel has stood at `ma` mA or more for 5 µs. -/
def execPswOcTrip (ma : Reading) (s : State) : Host.Outcome State Fault Refusal :=
  s.runIn .psw (fun s => s.pswDo ma.n (fun s =>
    if (s.sw ma.n).on && (s.pswThreshold ma.n).1 < ma.val then s.pswTrip ma.n (s.pswThreshold ma.n).2 else s))

/-- PSW_INRUSH_END (R263). -/
def execPswInrushEnd (n : Nat) (s : State) : Host.Outcome State Fault Refusal :=
  s.runIn .psw (fun s => s.pswDo n (fun s =>
    let c := s.sw n
    if c.on && c.inr && s.tbPast c.inrAt (tbMs (s.pswInrT n)) then
      s.setSw n (fun c => { c with inr := false, onSince := s.clk.tb })
    else s))

/-- PSW_RETRY (R265, R267, R268): a back-off expires; a blocked attempt stays pending. -/
def execPswRetry (n : Nat) (s : State) : Host.Outcome State Fault Refusal :=
  s.runIn .psw (fun s => s.pswDo n (fun s =>
    match (s.sw n).due with
    | none => s
    | some t =>
      if s.clk.tb < t then s
      else
        let s := s.setSw n (fun c => { c with due := none })
        s.pswOn n true))

/-- PSW_RCNT_RESET (R265). -/
def execPswRcntReset (n : Nat) (s : State) : Host.Outcome State Fault Refusal :=
  s.runIn .psw (fun s => s.pswDo n (fun s =>
    let c := s.sw n
    if c.on && !c.inr && s.tbPast c.onSince (tbMs 1000) then s.setSw n (fun c => { c with rcnt := 0 }) else s))

/-- PSW_THERMAL_TRIP (R266): the junction is at or above 175 °C. -/
def execPswThermalTrip (n : Nat) (tj : Int) (s : State) : Host.Outcome State Fault Refusal :=
  s.runIn .psw (fun s => s.pswDo n (fun s =>
    let s := s.setSw n (fun c => { c with tj := tj })
    if tj < 17500 || (s.sw n).th then s
    else
      let s := (s.pswOff n).setSw n (fun c => { c with th := true })
      let s := s.wr (R.PSW_CH_TRIP n) (word (4 + 65536 * min 65535 (s.fd (R.PSW_CH_TRIP n) 31 16 + 1)))
      ((s.inc R.PSW_THERM_TRIPS).post fPSW .pswLatch).pswFaultNote n 4 1))

/-- PSW_UNDERVOLTAGE (R268): the group supply stands at `mv`. -/
def execPswUndervoltage (g mv : Nat) (s : State) : Host.Outcome State Fault Refusal :=
  s.runIn .psw (fun s =>
    if g < 4 && mv < clampN 8000 18000 (s.fd (R.PSW_GRP_UV g) 15 0) then (s.grpUvOn g).pswShowAll else s)

/-- UV_ON of group `g` in mV (R268). -/
def State.grpUvOnMv (s : State) (g : Nat) : Nat :=
  clampN (clampN 8000 18000 (s.fd (R.PSW_GRP_UV g) 15 0) + 500) 20000 (s.fd (R.PSW_GRP_UV g) 31 16)

/-- PSW_UV_RESTART (R268, R270): the supply of group `g` has stood above `mv` in mV without a break since its TB. -/
def execPswUvRestart (g : Nat) (mv : Sample) (s : State) : Host.Outcome State Fault Refusal :=
  s.runIn .psw (fun s =>
    if g < 4 && (s.grp g).uv && s.grpUvOnMv g ≤ mv.val && s.tbPast mv.tb (tbMs 10) && !s.pwr.shed && !s.pwr.overShed then
      let s := (s.setGrp g (fun x => { x with uv := false })).pswGroupNote g 1 0
      (s.grpRestart g).pswShowAll
    else s)

/-- PSW_GROUP_OVERVOLTAGE (R550): above 38.0 V the group's channels turn off; below 37.0 V they restart. -/
def execPswGroupOvervoltage (g mv : Nat) (s : State) : Host.Outcome State Fault Refusal :=
  s.runIn (Foot.psw.and [.pwr] []) (fun s =>
    let exceeds := s.pwr.groupOver.getD g false
    let set (s : State) (v : Bool) : State :=
      { s with pwr := { s.pwr with groupOver := updAt s.pwr.groupOver g (fun _ => v) } }
    if 38000 < mv && !exceeds then ((set s true).grpDown g |>.post fPSW .overVoltage).pswShowAll
    else if mv < 37000 && exceeds then ((set s false).grpRestart g).pswShowAll
    else s)

/-- PSW_STAGGER_TURN_ON (R270). -/
def execPswStaggerTurnOn (g : Nat) (s : State) : Host.Outcome State Fault Refusal :=
  s.runIn .psw (fun s =>
    match (s.grp g).queue with
    | [] => s
    | n :: r =>
      if s.clk.tb < (s.grp g).nextAt then s
      else
        let stag := s.fd (R.PSW_GRP_BUDGET g) 19 16
        ((s.pswOn n (s.sw n).pend).setGrp g (fun x => { x with queue := r, nextAt := x.nextAt + tbMs stag })).pswShowAll)

/-- PSW_BUDGET_SHED (R272): after ten consecutive excesses the channel with the highest PRIO, then index, is shed. -/
def execPswBudgetShed (g : Nat) (s : State) : Host.Outcome State Fault Refusal :=
  s.runIn .psw (fun s =>
    if (s.grp g).excess < 10 then s
    else
      let s := s.setGrp g (fun x => { x with excess := 0 })
      let pick := (grpChs g).foldl (fun (a : Option Nat) n =>
        if !(s.sw n).on then a
        else match a with
          | none => some n
          | some m => if s.fd (R.PSW_CH_CFG m) 29 28 ≤ s.fd (R.PSW_CH_CFG n) 29 28 then some n else some m) none
      match pick with
      | none => s
      | some n =>
        let s := (s.pswOff n).setSw n (fun c => { c with shed := true })
        let s := s.wf_ (R.PSW_CH_TRIP n) 2 0 5
        (((s.inc R.PSW_BUDGET_SHEDS).post fPSW .pswBudget).pswGroupNote g 4 1).pswShowAll)

/-- The time an on-state sample of channel `n` adds to the timer of R276: what has passed since the sample before, without the PWM periods
between them, which had none. -/
def State.pswOlStep (s : State) (n : Nat) : Nat :=
  match (s.sw n).olAt with
  | none => 0
  | some t =>
    let p := 50000000 / clampN 100 1000 (s.fd (R.PSW_CH_CFG n) 15 6)
    let off := n % 4 * (p / 4)
    let j (x : Nat) : Nat := (x + p - off) / p
    s.clk.tb - t - (if s.pswMode n = 2 then (j s.clk.tb - j t - 1) * p else 0)

/-- OPEN of channel `n` changes (R275, R276). -/
def State.pswSetOpen (s : State) (n : Nat) (v : Bool) : State :=
  let s := s.setSw n (fun c => { c with isOpen := v })
  if v then ((s.inc R.PSW_OPEN_CNT).dropSig (0x30 + n)).pswFaultNote n 1 1 else s.pswFaultNote n 1 0

/-- PSW_OPEN_LOAD (R276): an on-state sample of `ma`; samples that stay below OL_TH for OL_T set OPEN, and at or above it clear it. -/
def execPswOpenLoad (n ma : Nat) (s : State) : Host.Outcome State Fault Refusal :=
  s.runIn .psw (fun s => s.pswDo n (fun s =>
    let d := s.rd (R.PSW_CH_DIAG n)
    if !bit d 24 || !(s.sw n).on then s
    else
      let low := decide (ma < 10 * clampN 5 200 (fld d 7 0))
      let dt := s.pswOlStep n
      let s := s.setSw n (fun c => { c with
        olLow := low, olAt := some s.clk.tb, olT := if c.olLow = low then c.olT + dt else 0 })
      if (s.sw n).isOpen != low && tbMs (10 * max 1 (fld d 15 8)) ≤ (s.sw n).olT then s.pswSetOpen n low else s))

/-- PSW_HOLDOFF_END (R274). -/
def execPswHoldoffEnd (n : Nat) (s : State) : Host.Outcome State Fault Refusal :=
  s.runIn .psw (fun s => s.pswDo n (fun s =>
    match (s.sw n).hold, (s.sw n).lastOff with
    | some r, some t =>
      if s.clk.tb < t + tbMs 1000 then s else (s.setSw n (fun c => { c with hold := none })).pswOn n r
    | _, _ => s))

/-- OCL of channel `n` clears (R265). -/
def State.pswClearOcl (s : State) (n : Nat) : State :=
  if (s.sw n).ocl then
    (s.setSw n (fun c => { c with ocl := false, rcnt := 0, want := true })).pswFaultNote n 2 0
  else s

/-- TH of channel `n` clears below 150 °C (R266, R267): a pending attempt is made at once. -/
def State.pswClearTh (s : State) (n : Nat) : State :=
  if (s.sw n).th && (s.sw n).tj < 15000 then
    let s := (s.setSw n (fun c => { c with th := false })).pswFaultNote n 4 0
    if (s.sw n).pend then s.pswOn n true
    else s.setSw n (fun c => { c with want := true })
  else s

/-- A write of 1s to `PSW_LATCHED` clears those latches. -/
def State.pswUnlatch (v : Word) (s : State) : State :=
  (List.range 16).foldl (fun (s : State) n =>
    let s := if bit v n then s.pswClearOcl n else s
    (if bit v (16 + n) then s.pswClearTh n else s).pswShow n) s

/-- PSW_LATCHED_WRITE (R265, R266): writing 1 clears OCL or TH. -/
def execPswLatchedWrite (ini : Initiator) (v : Word) (s : State) : Host.Outcome State Fault Refusal :=
  s.runIn .psw (fun s => s.owned ini fPSW .psw .psd (fun s => s.pswUnlatch v))

/-! ### Commands -/

/-- Whether an enabled Meridian slot drives load switch `n` (R205). -/
def State.pswDriven (s : State) (n : Nat) : Bool :=
  (List.range 64).any (fun m =>
    let d := s.rd (R.MER_DEST m)
    s.bt (R.MER_CFG m) 0 && fld d 1 0 == 2 && fld d 8 3 == n)

/-- PSW_SWITCH (R47, R279): mode and duty, applied at the next UG4 strobe. -/
def execPswSwitch (c : Cmd) (s : State) : Host.Outcome State Fault Refusal :=
  s.runIn (Foot.psw.and [.shadow] []) (fun s => s.command fPSW 0x10 0 c (fun _ s =>
    let p := c.payload
    let n := u8 p 0
    let m := u8 p 1
    let used := s.isRunning 8 && (List.range 32).any (fun i =>
      let w := s.rd (R.CST_MF_PATH i)
      fld w 1 0 == 2 && fld w 7 2 == n)
    if p.length != 4 then refuse stBAD_LENGTH s
    else if 16 ≤ n || 2 < m || 10000 < u16 p 2 then refuse stBAD_PARAM s
    else if m = 2 && pswRefused (s.rd (R.PSW_CH_CFG n)) then refuse stBAD_PARAM s
    else if s.pswDriven n || used then refuse stNOT_PERMITTED s
    else if m != 0 && !nbit s.saf.lines (12 + n / 4) then refuse stSAFETY_BLOCKED s
    else
      let t := s.shadowWr (R.PSW_CH_CFG n) 4 (setFld (s.shadowRd (R.PSW_CH_CFG n)) 1 0 m)
      (.now stOK [], t.shadowWr (R.PSW_CH_DUTY n) 4 (setFld (t.shadowRd (R.PSW_CH_DUTY n)) 13 0 (u16 p 2)))))

/-- PSW_CH_CLEAR (R265, R266, R272, R279): answers the channels whose TH stayed set. -/
def execPswChClear (c : Cmd) (s : State) : Host.Outcome State Fault Refusal :=
  s.runIn .psw (fun s => s.command fPSW 0x11 1 c (fun _ s =>
    let p := c.payload
    if p.length != 3 then refuse stBAD_LENGTH s
    else if 7 < u8 p 2 then refuse stBAD_PARAM s
    else
      let t := (List.range 16).foldl (fun (s : State) n =>
        if !nbit (u16 p 0) n then s
        else
          let s := if nbit (u8 p 2) 0 then s.pswClearOcl n else s
          let s := if nbit (u8 p 2) 1 then s.pswClearTh n else s
          let s := if nbit (u8 p 2) 2 && (s.sw n).shed then
              (s.setSw n (fun c => { c with shed := false, want := true })).pswGroupNote (n / 4) 4 0
            else s
          s.pswShow n) s
      let left := maskOf 16 (fun n => nbit (u16 p 0) n && nbit (u8 p 2) 1 && (t.sw n).th)
      (.now stOK (leBytes 2 left), t)))

/-- PSW_READ_CH (R279). -/
def execPswReadCh (c : Cmd) (s : State) : Host.Outcome State Fault Refusal :=
  s.runIn .psw (fun s => s.command fPSW 0x12 0 c (fun _ s =>
    let n := u8 c.payload 0
    if c.payload.length != 1 then refuse stBAD_LENGTH s
    else if 16 ≤ n then refuse stBAD_PARAM s
    else okWith (wBytes (s.rd (R.PSW_CH_STATUS n)) ++ wBytes (s.rd (R.PSW_CH_I n)) ++ wBytes (s.rd (R.PSW_CH_DUTY_EFF n)) ++
      wBytes (s.rd (R.PSW_CH_TRIP n))) s))

/-- Whether group thresholds lie in their ranges (R268). -/
def grpUvOk (off on : Nat) : Bool := 8000 ≤ off && off ≤ 18000 && off + 500 ≤ on && on ≤ 20000

/-- The registers of the CONFIGURE payload in their order (R278). -/
def pswCfgRegs : List Nat :=
  (List.range 16).flatMap (fun n => [R.PSW_CH_CFG n, R.PSW_CH_DUTY n, R.PSW_CH_LIM n, R.PSW_CH_DIAG n]) ++
  (List.range 4).flatMap (fun g => [R.PSW_GRP_EN g, R.PSW_GRP_UV g, R.PSW_GRP_BUDGET g])

/-- PSW_GROUP_SET (R278, R279). -/
def execPswGroupSet (c : Cmd) (s : State) : Host.Outcome State Fault Refusal :=
  s.runIn (Foot.psw.and [.prm, .shadow] [.prm]) (fun s => s.command fPSW 0x13 1 c (fun _ s =>
    let p := c.payload
    let g := u8 p 0
    if p.length != 12 then refuse stBAD_LENGTH s
    else if 4 ≤ g || 1 < u8 p 1 || !grpUvOk (u16 p 4) (u16 p 6) || 15 < u8 p 10 then refuse stBAD_PARAM s
    else if u8 p 1 = 1 && !nbit s.saf.lines (12 + g) then refuse stSAFETY_BLOCKED s
    else
      let uv := word (u16 p 4 + 65536 * u16 p 6)
      let b := word (u16 p 8 + 65536 * u8 p 10)
      let t := ((s.shadowWr (R.PSW_GRP_EN g) 4 (word (u8 p 1))).shadowWr (R.PSW_GRP_UV g) 4 uv).shadowWr (R.PSW_GRP_BUDGET g) 4 b
      (.now stOK [], t.patchApplied fPSW (256 + 12 * g) (leBytes 4 (u8 p 1) ++ wBytes uv ++ wBytes b) (resetWords pswCfgRegs))))

/-! ### Meridian, status, configuration, start and stop -/

/-- A destination write of Meridian (R205, R261): none where the channel is not in PWM. -/
def State.pswMerWrite (s : State) (n : Nat) (u : Int) : Option State :=
  if n < 16 && s.pswMode n == 2 then
    let a := R.PSW_CH_DUTY n
    some (s.shadowWr a 4 (setFld (s.shadowRd a) 13 0 (clampI 0 10000 u).toNat))
  else none

/-- Whether load switch `n` is off as a destination (R206). -/
def State.pswDestOff (s : State) (n : Nat) : Bool :=
  !nbit s.saf.lines (12 + n / 4) || !s.pairGate || s.pwr.shed || s.pwr.overShed || !s.psw.live

/-- PSW_GET_STATUS after the common bytes (R279). -/
def State.pswStatus (s : State) : List Byte :=
  leBytes 2 (maskOf 16 (fun n => (s.sw n).on)) ++ leBytes 2 (s.rd R.PSW_OPEN).toNat ++ wBytes (s.rd R.PSW_LATCHED) ++
  [byte (maskOf 4 (fun g => !nbit s.saf.lines (12 + g)) + 16 * maskOf 4 (fun g => s.grpUv g)), 0#8, 0#8, 0#8] ++
  wBytes (s.rd R.PSW_OC_TRIPS)

/-- The configuration words of a CONFIGURE payload with their registers (R278). -/
def pswCfgWords (p : List Byte) : List (Nat × Word) :=
  (List.range 16).flatMap (fun n => [(R.PSW_CH_CFG n, w32 p (16 * n)), (R.PSW_CH_DUTY n, w32 p (16 * n + 4)),
    (R.PSW_CH_LIM n, w32 p (16 * n + 8)), (R.PSW_CH_DIAG n, w32 p (16 * n + 12))]) ++
  (List.range 4).flatMap (fun g => [(R.PSW_GRP_EN g, w32 p (256 + 12 * g)), (R.PSW_GRP_UV g, w32 p (260 + 12 * g)),
    (R.PSW_GRP_BUDGET g, w32 p (264 + 12 * g))])

/-- CONFIGURE of PSW (R258 to R260, R274, R278): the status it answers. -/
def State.pswCfgCheck (s : State) (p : List Byte) : Nat :=
  if p.length != 304 then stBAD_LENGTH
  else
    let chOk (n : Nat) : Bool :=
      let c := w32 p (16 * n)
      let l := w32 p (16 * n + 8)
      let d := w32 p (16 * n + 12)
      fld c 1 0 ≤ 2 && 100 ≤ fld c 15 6 && fld c 15 6 ≤ 1000 && 1 ≤ fld c 27 20 && !(fld c 1 0 == 2 && pswRefused c)
        && fld (w32 p (16 * n + 4)) 13 0 ≤ 10000
        && fld l 15 0 ≤ (if n < 8 then 12000 else 22000) && fld l 31 16 ≤ (if n < 8 then 40000 else 60000)
        && 5 ≤ fld d 7 0 && fld d 7 0 ≤ 200 && 1 ≤ fld d 15 8 && 1 ≤ fld d 23 16 && fld d 23 16 ≤ 200
    let gOk (g : Nat) : Bool :=
      let u := w32 p (260 + 12 * g)
      grpUvOk (fld u 15 0) (fld u 31 16)
    if !((List.range 16).all chOk && (List.range 4).all gOk) then stBAD_PARAM
    else if (List.range 4).any (fun g => u32 p (256 + 12 * g) % 2 = 1 && !nbit s.saf.lines (12 + g)) then stSAFETY_BLOCKED
    else stOK

/-- APPLY of PSW (R278): guard pairs and one strobe of UG4. -/
def State.pswApply (s : State) (p : List Byte) : State :=
  let t := (pswCfgWords p).foldl (fun (t : State) e => t.shadowWr e.1 4 e.2) s
  (t.applyShadow 4).pswAfterUg4

/-- START of PSW (R277): RUN, effective at the next tick boundary; trip counts since START begin anew. -/
def State.pswStart (s : State) : State :=
  (List.range 16).foldl (fun (s : State) n => s.wf_ (R.PSW_CH_TRIP n) 31 16 0) (s.wb R.PSW_CTRL 0 true)

/-- STOP of PSW (R277). -/
def State.pswStop (s : State) : State := s.wb R.PSW_CTRL 0 false

/-- REINIT of PSW (R266, R277): channels off, latches, RCNT and back-off cleared, but TH at 150 °C or above. -/
def State.pswReinit (s : State) : State :=
  ((List.range 16).foldl (fun (s : State) n =>
    (s.pswOff n).setSw n (fun c => { ({} : PswCh) with cfg := c.cfg, tj := c.tj, th := c.th && decide (15000 ≤ c.tj), lastOff := c.lastOff }))
    ((s.wb R.PSW_CTRL 0 false).setPsw (fun p => { p with live := false }))).pswShowAll

end Sys2Proof.Machine
end

