-- ==== Sys2Proof/Machine/Meridian.lean ====
section
/-!
DEFINITION. Meridian (chapter 08): the schedule of the slots, the control law, destinations, safety ramp, commands.
-/
namespace Sys2Proof.Machine

/-- Function ID of Meridian. -/
def fMER : Nat := 2

/-- Changes the state of Meridian. -/
def State.setMer (s : State) (f : Mer → Mer) : State := { s with mer := f s.mer }

/-- Slot `m`. -/
def State.slot (s : State) (m : Nat) : MerSlot := s.mer.slots.getD m {}

/-- Changes slot `m`. -/
def State.setSlot (s : State) (m : Nat) (f : MerSlot → MerSlot) : State :=
  s.setMer (fun x => { x with slots := updAt x.slots m f })

/-- A product kept in 64 bits (R200). -/
def wrap64 (x : Int) : Int := (BitVec.ofInt 64 x).toInt

/-- A 64-bit saturating sum. -/
def add64 (a b : Int) : Int := clampI (-9223372036854775808) 9223372036854775807 (a + b)

/-- Whether slot `m` is due at tick count `c` (R197): an N above 11 acts as 11, PH modulo 2^N. -/
def merDue (cfg : Word) (c : Nat) : Bool :=
  let n := min 11 (fld cfg 4 1)
  c % 2 ^ n == fld cfg 15 5 % 2 ^ n

/-- The destination of a slot that other slots must not share: DEST 1 to 3 with PARAM and INDEX (R207). -/
def merDestKey (d : Word) : Nat := if fld d 1 0 = 0 then 0 else if fld d 1 0 = 1 then fld d 8 0 else fld d 8 0 &&& 0x1FB

/-- Whether the destination of slot `m` is off (R206). -/
def State.merDoff (s : State) (m : Nat) : Bool :=
  let d := s.rd (R.MER_DEST m)
  match fld d 1 0 with
  | 1 => s.adrDestOff (fld d 8 3)
  | 2 => s.pswDestOff (fld d 8 3)
  | 3 => !s.isRunning 0x0E
  | _ => false

/-- The write of a slot's destination (R205); none where the stage refuses it. -/
def State.merDest (s : State) (m : Nat) (u : Int) : Option State :=
  let d := s.rd (R.MER_DEST m)
  let i := fld d 8 3
  match fld d 1 0 with
  | 1 => s.adrMerWrite i (fld d 2 2) u
  | 2 => s.pswMerWrite i u
  | 3 => if fld (s.rd (R.CAN_EXP_CFG (i / 4) (i % 4))) 30 29 = 0 then some (s.wr (R.CAN_EXP_VAL (i / 4) (i % 4)) (iword u))
    else none
  | _ => some s

/-- The output of slot `m`: its entry and its destination; a refused write is counted. -/
def State.merOut (s : State) (m : Nat) (u : Int) : State :=
  let s := s.setSig (0x100 + m) (iword u)
  match s.merDest m u with
  | some t => t
  | none => s.inc R.MER_DEST_ERR

/-- The ramp value of a safety-ramp slot at a due evaluation (R208). -/
def merRamp (r tgt step : Int) : Int := if tgt < r then max tgt (r - step) else min tgt (r + step)

/-- Limits of the integrator state: ±IMAX in 1/65,536. -/
def clampI16 (imax : Nat) (x : Int) : Int := clampI (-(imax * 65536 : Nat)) ((imax * 65536 : Nat)) x

/-- What one evaluation of the control law gives (R200). -/
structure MerEval where
  u     : Int
  i16   : Int
  v     : Int
  e     : Int
  clip  : Nat
  flags : Nat
deriving DecidableEq, Repr, Inhabited

/-- The inputs of the control law: setpoint, feedback, supply, acceleration, the validity of the last two, and doff. -/
structure MerIn where
  r   : Int
  y   : Int
  vs  : Int
  a   : Int
  okV : Bool
  okA : Bool
  off : Bool
deriving DecidableEq, Repr, Inhabited

/-- The registers of a slot the control law reads. -/
structure MerPar where
  cfg   : Word
  kp    : Int
  ki    : Int
  kd    : Int
  kfv   : Int
  kfa   : Int
  shift : Word
  imax  : Nat
  omin  : Int
  omax  : Int
  rlim  : Int
  vnom  : Int
deriving DecidableEq, Repr, Inhabited

/-- The parameters of slot `m` in force. -/
def State.merPar (s : State) (m : Nat) : MerPar :=
  { cfg := s.rd (R.MER_CFG m), kp := (s.rd (R.MER_KP m)).toInt, ki := (s.rd (R.MER_KI m)).toInt,
    kd := (s.rd (R.MER_KD m)).toInt, kfv := (s.rd (R.MER_KFV m)).toInt, kfa := (s.rd (R.MER_KFA m)).toInt,
    shift := s.rd (R.MER_SHIFT m), imax := s.fd (R.MER_IMAX m) 30 0, omin := (s.rd (R.MER_OMIN m)).toInt,
    omax := (s.rd (R.MER_OMAX m)).toInt, rlim := s.fd (R.MER_RLIM m) 30 0, vnom := s.fd (R.MER_VNOM m) 15 0 }

/-- A value clamped to limits; where they cross the upper one wins. -/
def clampHi (lo hi x : Int) : Int := min hi (max lo x)

/-- The control law of R200 for a slot whose history is `x`. -/
def merLaw (p : MerPar) (x : MerSlot) (i : MerIn) : MerEval :=
  let e := sat32 (i.r - i.y)
  let esat := e != i.r - i.y
  let dI0 := sat32 (asr (wrap64 (p.ki * e)) (fld p.shift 9 5))
  let dI := if i.off || (x.clip = 1 && 0 < dI0) || (x.clip = 2 && dI0 < 0) then 0 else dI0
  let i16 := clampI16 p.imax (x.i16 + dI)
  let d := if bit p.cfg 17 then e - x.ePrev else -(i.y - x.yPrev)
  let v := x.v + asr (d - x.v) (fld p.cfg 21 18)
  let terms : List Int :=
    [asr (wrap64 (p.kp * e)) (fld p.shift 4 0), asr i16 16, asr (wrap64 (p.kd * v)) (fld p.shift 14 10)] ++
    (if bit p.cfg 23 && i.okV then [asr (wrap64 (p.kfv * (p.vnom - i.vs))) (fld p.shift 19 15)] else []) ++
    (if bit p.cfg 24 && i.okA then [asr (wrap64 (p.kfa * i.a)) (fld p.shift 24 20)] else [])
  let acc := terms.foldl (fun (a : Int × Bool) t => (add64 a.1 t, a.2 || add64 a.1 t != a.1 + t)) (0, false)
  let raw := sat32 acc.1
  let osat := raw != acc.1
  let u1 := if 0 < p.rlim then clampI (x.uPrev - p.rlim) (x.uPrev + p.rlim) raw else raw
  let u := clampHi p.omin p.omax u1
  let clip := if u < raw then 1 else if raw < u then 2 else 0
  { u := u, i16 := i16, v := v, e := e, clip := clip,
    flags := b2n osat + 2 * b2n acc.2 + 4 * b2n esat + 8 * b2n (clip == 1) + 16 * b2n (clip == 2) + 32 * b2n (u1 != raw) }

/-- Shows a slot's state words. -/
def State.merShow (s : State) (m : Nat) (e r : Int) (flags : Nat) : State :=
  let x := s.slot m
  let s := (s.wr (R.MER_ST_I m) (iword (sat32 (asr x.i16 16)))).wr (R.MER_ST_IF m) (iword (x.i16 % 65536))
  let s := (s.wr (R.MER_ST_U m) (iword x.uPrev)).wr (R.MER_ST_E m) (iword e)
  let s := (s.wr (R.MER_ST_R m) (iword r)).wr (R.MER_ST_V m) (iword (sat32 x.v))
  (s.wr (R.MER_ST_YP m) (iword x.yPrev)).wr (R.MER_ST_FLAGS m) (word flags)

/-- Shows a slot's integrator state. -/
def State.merShowI (s : State) (m : Nat) : State :=
  (s.wr (R.MER_ST_I m) (iword (sat32 (asr (s.slot m).i16 16)))).wr (R.MER_ST_IF m) (iword ((s.slot m).i16 % 65536))

/-- A slot's feedback becomes invalid or valid (R204). -/
def State.merInv (s : State) (m : Nat) (v : Bool) : State :=
  if (s.slot m).inv = v then s
  else
    let s := (s.setSlot m (fun x => { x with inv := v })).wb (R.MER_FBINV0 + 4 * (m / 32)) (m % 32) v
    let s := if v then s.inc R.MER_INV_CNT else s
    s.notify fMER 0x81 [byte m, byte (b2n v), 0#8, 0#8]

/-- One evaluation of slot `m` (R200, R203, R204, R208) on the inputs latched in `l`. -/
def State.merEval (s l : State) (m : Nat) : State :=
  let s := s.inc R.MER_EVALS
  let p := s.merPar m
  let sel := s.rd (R.MER_SIGSEL m)
  let fb := fld sel 8 0
  let sr := s.rd (R.MER_SR_CFG m)
  let sp := (s.rd (R.MER_SP m)).toInt
  let ramping := bit sr 0 && s.mer.ramp
  let x := s.slot m
  let r := if ramping then merRamp (if x.ramp then x.rEff else sp) (s.rd (R.MER_SR_TGT m)).toInt (fld sr 31 1) else sp
  let was := x.inv
  let stale := !x.fresh
  let off := s.merDoff m
  let base := 128 * b2n off + 256 * b2n ramping
  let s := s.setSlot m (fun x => { x with ramp := ramping, rEff := r, fresh := false })
  if !l.sigOk fb then
    let s := s.merInv m true
    let e := (s.rd (R.MER_ST_E m)).toInt
    let s := s.merShow m e r (base + 64)
    if bit p.cfg 22 then
      let t := match s.merDest m 0 with
        | some t => t
        | none => s.inc R.MER_DEST_ERR
      t.dropSig (0x100 + m)
    else s.merOut m x.uPrev
  else
    let s := s.merInv m false
    let firstNow := x.first || was
    if bit p.cfg 16 && !firstNow && stale then
      let s := s.merShow m (s.rd (R.MER_ST_E m)).toInt r (base + 512)
      s.merOut m x.uPrev
    else
      let y := (l.lat fb).toInt
      let e := sat32 (r - y)
      let h := if firstNow then { x with yPrev := y, ePrev := e, v := 0 } else x
      let i : MerIn := { r := r, y := y, vs := (l.lat (fld sel 17 9)).toInt, a := (l.lat (fld sel 26 18)).toInt,
                         okV := l.sigOk (fld sel 17 9), okA := l.sigOk (fld sel 26 18), off := off }
      let o := merLaw p h i
      let s := s.setSlot m (fun x => { x with
        i16 := o.i16, v := o.v, yPrev := y, ePrev := o.e, uPrev := o.u, clip := o.clip, first := false })
      let s := s.merShow m o.e r (base + o.flags)
      let s := if o.flags % 8 != 0 then
          ((s.wb (R.MER_SAT0 + 4 * (m / 32)) (m % 32) true).inc R.MER_SAT_CNT).notify fMER 0x80
            [byte m, byte (o.flags % 8), 0#8, 0#8]
        else s
      s.merOut m o.u

/-- A slot starts (R210). -/
def State.merSlotStart (s : State) (m : Nat) : State :=
  let p := s.merPar m
  let ii := (s.rd (R.MER_IINIT m)).toInt
  s.setSlot m (fun x => { x with
    i16 := clampI16 p.imax (ii * 65536), uPrev := clampHi p.omin p.omax ii, v := 0, clip := 0, first := true, act := true,
    ramp := false, fresh := false })

/-- A slot stops (R210): 0 to its destination, its entry invalid. -/
def State.merSlotStop (s : State) (m : Nat) : State :=
  let s := s.setSlot m (fun x => { x with act := false })
  let s := match s.merDest m 0 with
    | some t => t
    | none => s
  (s.dropSig (0x100 + m)).merInv m false

/-- Whether two enabled slots share a destination (R207). -/
def State.merConflict (s : State) : Bool :=
  let ks := ((List.range 64).filter (fun m => s.bt (R.MER_CFG m) 0 && s.fd (R.MER_DEST m) 1 0 != 0)).map
    (fun m => merDestKey (s.rd (R.MER_DEST m)))
  !decide ks.Nodup

/-- The run of Meridian at a tick boundary, after the latch (R198 to R210); a unit that stands by evaluates nothing (R460). -/
def State.merTick (s : State) : State :=
  let domeOk := s.dome == 2 || s.dome == 3 || s.dome == 4
  let run := s.bt R.MER_CTRL 0 && s.isRunning fMER && domeOk
  let w := s.fab.written
  let s : State := { s with fab := { s.fab with written := 0 } }
  let s := (s.mer.late.foldl (fun (s : State) e => s.shadowWr (R.MER_SP e.1) 2 e.2) s).setMer (fun x => { x with late := [] })
  let ramp := s.saf.ramp && run
  let srs := maskOf 64 (fun m => s.bt (R.MER_SR_CFG m) 0)
  let s := if ramp != s.mer.ramp then
      s.notify fMER 0x82 ([byte (b2n ramp), 0#8, 0#8, 0#8] ++ leBytes 8 srs)
    else s
  let s := s.setMer (fun x => { x with run := run, ramp := ramp })
  let s := (List.range 64).foldl (fun (s : State) m =>
    let en := run && s.bt (R.MER_CFG m) 0
    let fb := s.fd (R.MER_SIGSEL m) 8 0
    let x0 := s.slot m
    let s := s.setSlot m (fun x => { x with
      fresh := x.fresh || nbit w fb,
      i16 := match x.stI with
        | some v => v * 65536
        | none => x.i16,
      clip := if x.stI.isSome then 0 else x.clip, stI := none })
    let s := if x0.stI.isSome then s.merShowI m else s
    if en && !(s.slot m).act then (s.merSlotStart m).merShowI m
    else if !en && (s.slot m).act then s.merSlotStop m
    else s) s
  let due := (List.range 64).filter (fun m =>
    run && !s.pairHeld && s.bt (R.MER_CFG m) 0 && merDue (s.rd (R.MER_CFG m)) s.clk.tickCount)
  let l := s
  let t := due.foldl (fun (t : State) m => t.merEval l m) s
  let st := b2n run + 2 * due.length + 256 * b2n t.merConflict + 512 * b2n ramp
  let last := if due.isEmpty then t.fd R.MER_STATUS 31 16 else 160 + 46 * due.length
  t.wr R.MER_STATUS (word (st + 65536 * last))

/-! ### Commands -/

/-- MER_ST_I_WRITE (R210): effective at the next tick boundary. -/
def execMerStIWrite (ini : Initiator) (m : Nat) (v : Word) (s : State) : Host.Outcome State Fault Refusal :=
  s.runIn .mer (fun s => s.owned ini fMER .mer .ctl (fun s => s.setSlot m (fun x => { x with stI := some v.toInt })))

/-- MER_SETPOINT (R212): up to five setpoints, written in the first 30 µs of a tick, of the next one where those have passed, and all
applied at one boundary. -/
def execMerSetpoint (c : Cmd) (s : State) : Host.Outcome State Fault Refusal :=
  s.runIn (Foot.mer.and [.shadow] []) (fun s => s.command fMER 0x10 0 c (fun _ s =>
    let p := c.payload
    let k := u8 p 0
    let es := (List.range k).map (fun i => (u8 p (4 + 8 * i), w32 p (8 + 8 * i)))
    let path (m : Nat) : Bool := s.isRunning fCST && (List.range 32).any (fun i =>
      let w := s.rd (R.CST_MF_PATH i)
      fld w 1 0 == 1 && fld w 7 2 == m)
    if k < 1 || 5 < k then refuse stBAD_PARAM s
    else if p.length != 4 + 8 * k then refuse stBAD_LENGTH s
    else if es.any (fun e => 64 ≤ e.1) then refuse stBAD_PARAM s
    else if es.any (fun e => path e.1) then refuse stNOT_PERMITTED s
    else if s.tickEarly then (.now stOK [], es.foldl (fun (s : State) e => s.shadowWr (R.MER_SP e.1) 2 e.2) s)
    else (.now stOK [], s.setMer (fun x => { x with late := x.late ++ es }))))

/-- MER_SET_GAINS (R212). -/
def execMerSetGains (c : Cmd) (s : State) : Host.Outcome State Fault Refusal :=
  s.runIn (Foot.mer.and [.shadow] []) (fun s => s.command fMER 0x11 1 c (fun _ s =>
    let p := c.payload
    let m := u8 p 0
    if p.length != 28 then refuse stBAD_LENGTH s
    else if 64 ≤ m then refuse stBAD_PARAM s
    else
      let rs := [R.MER_KP m, R.MER_KI m, R.MER_KD m, R.MER_KFV m, R.MER_KFA m, R.MER_SHIFT m]
      let t := (rs.zip (List.range 6)).foldl (fun (t : State) e => t.shadowWr e.1 1 (w32 p (4 + 4 * e.2))) s
      (.now stOK [], t.applyShadow 1)))

/-- MER_INT_SET (R210, R212). -/
def execMerIntSet (c : Cmd) (s : State) : Host.Outcome State Fault Refusal :=
  s.runIn .mer (fun s => s.command fMER 0x12 1 c (fun _ s =>
    let p := c.payload
    let m := u8 p 0
    if p.length != 8 then refuse stBAD_LENGTH s
    else if 64 ≤ m || s.fd (R.MER_IMAX m) 30 0 < (i32 p 4).natAbs then refuse stBAD_PARAM s
    else (.now stOK [], s.setSlot m (fun x => { x with stI := some (i32 p 4) }))))

/-- MER_READ_SLOT (R212). -/
def execMerReadSlot (c : Cmd) (s : State) : Host.Outcome State Fault Refusal :=
  s.runIn .mer (fun s => s.command fMER 0x13 0 c (fun _ s =>
    let m := u8 c.payload 0
    if c.payload.length != 1 then refuse stBAD_LENGTH s
    else if 64 ≤ m then refuse stBAD_PARAM s
    else okWith (wBytes (s.rd (R.MER_SP m)) ++ (List.range 8).flatMap (fun i => wBytes (s.rd (R.MER_ST_I m + 4 * i)))) s))

/-! ### Status, configuration, start and stop -/

/-- MER_GET_STATUS after the common bytes (R212). -/
def State.merStatus (s : State) : List Byte :=
  leBytes 8 (maskOf 64 (fun m => s.bt (R.MER_CFG m) 0)) ++ wBytes (s.rd R.MER_SAT0) ++ wBytes (s.rd R.MER_SAT1) ++
  wBytes (s.rd R.MER_FBINV0) ++ wBytes (s.rd R.MER_FBINV1) ++
  [byte (s.fd R.MER_STATUS 7 1), byte (s.fd R.MER_STATUS 9 9 + 2 * s.fd R.MER_STATUS 8 8), 0#8, 0#8] ++
  wBytes (s.rd R.MER_EVALS)

/-- The slots of a CONFIGURE payload's mask. -/
def merMask (p : List Byte) : List Nat := (List.range 64).filter (fun m => nbit (u64 p 0) m)

/-- The 64 bytes of slot `m` in a payload; none where its bit is clear. -/
def merBlock (p : List Byte) (m : Nat) : Option (List Byte) :=
  if nbit (u64 p 0) m then some (slice p (8 + 64 * ((merMask p).filter (fun k => k < m)).length) 64) else none

/-- The pending configuration after a CONFIGURE (R211): slots not in the new mask keep their pending one. -/
def merMerge (old new : List Byte) : List Byte :=
  let bs := (List.range 64).map (fun m => (merBlock new m).orElse (fun _ => merBlock old m))
  leBytes 8 (maskOf 64 (fun m => (bs.getD m none).isSome)) ++ bs.flatMap (fun b => b.getD [])

/-- The words of slot `m` a CONFIGURE would leave: its own, the pending ones, or those in force. -/
def State.merWord (s : State) (p : List Byte) (m o : Nat) : Word :=
  match merBlock p m with
  | some b => w32 b (4 * o)
  | none =>
    match ((s.fn fMER).pending).bind (fun q => merBlock q m) with
    | some b => w32 b (4 * o)
    | none => s.rd (R.MER_CFG m + 4 * o)

/-- The configuration words of a CONFIGURE payload with their registers and groups (R211). -/
def merCfgWords (p : List Byte) : List (Nat × Nat × Word) :=
  (merMask p).flatMap (fun m =>
    match merBlock p m with
    | none => []
    | some b => (List.range 16).map (fun o => (R.MER_CFG m + 4 * o, if o = 3 then 2 else 1, w32 b (4 * o))))

/-- CONFIGURE of MER (R197, R205, R207, R209, R211): the status it answers. -/
def State.merCfgCheck (s : State) (p : List Byte) : Nat :=
  if p.length < 8 || p.length != 8 + 64 * (merMask p).length then stBAD_LENGTH
  else
    let ok (m : Nat) : Bool :=
      let c := s.merWord p m 0
      let d := s.merWord p m 2
      let n := fld c 4 1
      n ≤ 11 && fld c 15 5 < 2 ^ n && (s.merWord p m 11).toInt ≤ (s.merWord p m 12).toInt
        && fld d 8 3 < (match fld d 1 0 with
          | 1 => 48
          | 2 => 16
          | _ => 64)
        && !(s.bt (R.MER_SR_CFG m) 0 && d &&& 0x1FF#32 != s.rd (R.MER_DEST m))
    let keys := ((List.range 64).filter (fun m => bit (s.merWord p m 0) 0 && fld (s.merWord p m 2) 1 0 != 0)).map
      (fun m => merDestKey (s.merWord p m 2))
    if (merMask p).all ok && decide keys.Nodup && inMap ((merCfgWords p).map (fun e => (e.1, e.2.2))) then stOK else stBAD_PARAM

/-- APPLY of MER (R211): shadows, one strobe of UG1 and one of UG2. -/
def State.merApply (s : State) (p : List Byte) : State :=
  let t := (merCfgWords p).foldl (fun (t : State) e => t.shadowWr e.1 e.2.1 e.2.2) s
  ((t.applyShadow 1).applyShadow 2).cstPublish

/-- START of MER. -/
def State.merStart (s : State) : State := s.wb R.MER_CTRL 0 true

/-- STOP of MER (R210). -/
def State.merStop (s : State) : State := s.wb R.MER_CTRL 0 false

/-- REINIT of MER (R210): as STOP; the slot states are lost. -/
def State.merReinit (s : State) : State :=
  let t := (List.range 64).foldl (fun (s : State) m => if (s.slot m).act then s.merSlotStop m else s) (s.wb R.MER_CTRL 0 false)
  t.setMer (fun _ => {})

/-- Takeover in a redundant pair (R210): I16 and u_prev from the copy, v = 0, history at the first evaluation. -/
def State.merTakeover (s : State) (m : Nat) (i16 u : Int) : State :=
  s.setSlot m (fun x => { x with i16 := i16, uPrev := u, v := 0, first := true, clip := 0, act := true, stI := none })

end Sys2Proof.Machine
end

