-- ==== Sys2Proof/Machine/YieldPlate.lean ====
section
/-!
DEFINITION. Yield Plate (chapter 07): readings, the 10 Hz sample, deconvolution, kernel identification, footprints, cells,
tiles, checkpoints, fields, mass balance, export and its commands.
-/
namespace Sys2Proof.Machine

/-- Function ID of Yield Plate. -/
def fYPL : Nat := 9

/-- Changes the state of Yield Plate. -/
def State.setYpl (s : State) (f : Ypl → Ypl) : State := { s with ypl := f s.ypl }

/-- Field state of R189: 0 CLOSED, 1 OPEN, 2 CLOSING. -/
def State.yplField (s : State) : Nat := s.fd R.YPL_STATUS 1 0

/-! ### Readings -/

/-- The input words that take effect at a sample boundary (R189). -/
def yplInputRegs : List Nat :=
  [R.YPL_FLOW_CFG, R.YPL_FLOW_GAIN, R.YPL_MOIST_CFG, R.YPL_MOIST_DEF, R.YPL_HDR_CFG, R.YPL_HDR_THR, R.YPL_SEC_CFG,
   R.YPL_POS_SIG0, R.YPL_POS_SIG1, R.YPL_POS_QMIN, R.YPL_OFFSET] ++
  (List.range 16).map (fun k => R.YPL_SEC_W k) ++ (List.range 8).map (fun c => R.YPL_CROP c)

/-- An input word in force. -/
def State.yplW (s : State) (a : Nat) : Word :=
  match s.ypl.cfg.lookup a with
  | some v => v
  | none => s.rd a

/-- A field of an input word in force. -/
def State.yplF (s : State) (a hi lo : Nat) : Nat := fld (s.yplW a) hi lo

/-- An input word of the sample just ended (R189): the words in force until its closing boundary. -/
def State.yplDoneW (s : State) (a : Nat) : Word :=
  match s.ypl.doneCfg.lookup a with
  | some v => v
  | none => s.yplW a

/-- A field of an input word of the sample just ended. -/
def State.yplDoneF (s : State) (a hi lo : Nat) : Nat := fld (s.yplDoneW a) hi lo

/-- The selected crop's word for the sample just ended. -/
def State.yplCrop (s : State) : Word := s.yplDoneW (R.YPL_CROP (s.fd R.YPL_CROP_SEL 2 0))

/-- The 1 ms flow reading (R166, R167). -/
def State.yplFlowRead (s : State) : State :=
  let n := s.yplF R.YPL_FLOW_CFG 8 0
  if s.sigOk n then s.setYpl (fun y => { y with flowSum := y.flowSum + s.sigI n, flowCnt := y.flowCnt + 1 }) else s

/-- The 50 ms reading of position, heading, quality, header and sections (R166, R169, R170). -/
def State.yplPoseRead (s : State) : State :=
  let h := s.yplW R.YPL_HDR_CFG
  let hn := fld h 8 0
  let thr := (s.yplW R.YPL_HDR_THR).toInt
  let now : Bool := match fld h 11 9 with
    | 1 => decide (s.sigI hn < thr)
    | 2 => decide (thr < s.sigI hn)
    | 4 => s.sigI hn != 0
    | _ => false
  let bad := if s.sigOk hn then 0 else s.ypl.hdrBad + 1
  let work := if s.sigOk hn then now else s.ypl.hdr && bad ≤ 2 * fld h 17 12
  let cnt := clampN 1 16 (s.yplF R.YPL_SEC_CFG 14 10)
  let all := 2 ^ cnt - 1
  let mask := if s.yplF R.YPL_SEC_CFG 9 9 = 1 then (s.sig (s.yplF R.YPL_SEC_CFG 8 0)).toNat &&& all else all
  let la := s.yplF R.YPL_POS_SIG0 8 0
  let lo := s.yplF R.YPL_POS_SIG0 24 16
  let hd := s.yplF R.YPL_POS_SIG1 8 0
  let q := s.yplF R.YPL_POS_SIG1 24 16
  let ok := s.sigOk la && s.sigOk lo && s.sigOk hd && s.sigOk q && decide ((s.yplW R.YPL_POS_QMIN).toInt ≤ s.sigI q)
  let p : YplPose := { usable := ok, lat := s.sigI la, lon := s.sigI lo, hdg := s.sigI hd, work := work, mask := mask }
  s.setYpl (fun y => { y with poses := (p :: y.poses).take 3, hdr := work, hdrBad := bad })

/-- The readings of Yield Plate at the latest tick boundary (R166): called by the tick sequence. Input settings take
effect at sample boundaries (R189). -/
def State.yplTick (s : State) : State :=
  if !s.isRunning fYPL then s
  else
    let c := s.clk.tickCount
    let s := if c % 2000 = 0 then
        let t := s.setYpl (fun y => { y with
          doneSum := y.flowSum, doneCnt := y.flowCnt, flowSum := 0, flowCnt := 0, doneCfg := y.cfg,
          cfg := yplInputRegs.map (fun a => (a, s.rd a)) })
        let n := t.yplF R.YPL_MOIST_CFG 8 0
        t.setYpl (fun y => { y with moistR := ((t.sigI n, t.sigOk n) :: y.moistR).take 128 })
      else s
    let s := if c % 20 = 0 then s.yplFlowRead else s
    if c % 1000 = 0 then s.yplPoseRead else s

/-! ### Kernel and inverse -/

/-- The taps in the kernel registers. -/
def State.yplTaps (s : State) : List Int := (List.range 256).map (fun n => (s.rd (R.YPL_KERNEL n)).toInt)

/-- Writes taps to the registers from `a`. -/
def State.yplWrTaps (s : State) (a : Nat) (l : List Int) : State := s.wrList a 4 (l.map (fun x => iword x))

/-- The kernel and λ of the registers are applied: normalised, or rejected with KERNEL_BAD (R172); the inverse is due
(R173) unless INV_READY says that theirs is the one computed last. -/
def State.yplApplyKernel (s : State) : State :=
  let h := s.yplTaps
  let l := s.fd R.YPL_LAMBDA 15 0
  if isum h ≤ 0 then ((s.yplWrTaps (R.YPL_KERNEL 0) s.ypl.kernel).wb R.YPL_STATUS 5 true).wf_ R.YPL_LAMBDA 15 0 s.ypl.lambda
  else
    let k := scale16 h (argMax (fun x => x) h)
    let t := (s.yplWrTaps (R.YPL_KERNEL 0) k).wb R.YPL_STATUS 5 false
    if k = s.ypl.kernel && l = s.ypl.lambda && s.fd R.YPL_STATUS 4 4 = 1 then t
    else
      (t.wb R.YPL_STATUS 4 false).setYpl (fun y => { y with kernel := k, lambda := l, invSince := some s.clk.tb })

/-- After a strobe of UG10. -/
def State.yplAfterUg10 (s : State) : State := s.yplApplyKernel

/-- The inverse taps before normalisation, and the ppm not used (R173). -/
def yplInverse (h : List Int) (l : Nat) : List Int × Int :=
  let hf := dft512 (-1) (reals (h ++ List.replicate 256 0))
  let g := hf.map (fun z =>
    let den := z.1 * z.1 + z.2 * z.2 + (l : Int) * (2 ^ 144 : Nat)
    if den = 0 then (Config.divByZero z.1, Config.divByZero z.2)
    else (z.1 * (2 ^ 144 : Nat) / den, -z.2 * (2 ^ 144 : Nat) / den))
  let gc := ((dft512 1 g).map (fun z => z.1)).toList
  let taps := (List.range 256).map (fun n => gc.getD ((512 - n) % 512) 0)
  let unused := isum (((gc.drop 1).take 256).map (fun x => (x.natAbs : Int)))
  let all := isum (gc.map (fun x => (x.natAbs : Int)))
  (taps, divFree (1000000 * unused) all)

/-- The largest tap's index by magnitude (R173, R174). -/
def yplN0 (g : List Int) : Nat := argMax (fun x => (x.natAbs : Int)) g

/-- YPL_INVERSE_READY (R173). -/
def execYplInverseReady (s : State) : Host.Outcome State Fault Refusal :=
  s.runIn .ypl (fun s =>
    match s.ypl.invSince with
    | none => s
    | some _ =>
      let r := yplInverse s.ypl.kernel s.ypl.lambda
      let g := scale16 r.1 (yplN0 r.1)
      let t := ((s.yplWrTaps (R.YPL_INV 0) g).wr R.YPL_INV_TRUNC (iword r.2)).wb R.YPL_STATUS 4 true
      t.setYpl (fun y => { y with invSince := none, invNext := some g }))

/-! ### Footprints on the ground -/

/-- The local tangent plane of an origin (R178): the length of 10^-7 degree east and north in 2^-20 mm at scale 2^40,
with the radii of WGS 84. -/
def yplPlane (lat : Int) : Int × Int :=
  let phi := rad64 lat 1800000000
  let sn := sin64 phi
  let w2 : Nat := (2 ^ 64 - 669437999014 * (sn * sn) / (100000000000000 * 2 ^ 64 : Nat)).toNat
  let w := isqrt (w2 * 2 ^ 64)
  let a : Nat := 6378137000 * 2 ^ 20
  let n : Int := ((a * 2 ^ 64 / w : Nat) : Int)
  let m : Int := ((a * (100000000000000 - 669437999014) * 2 ^ 128 / (100000000000000 * w2 * w) : Nat) : Int)
  (pi128 * n * cos64 phi / (1800000000 * 2 ^ 152 : Nat), pi128 * m / (1800000000 * 2 ^ 88 : Nat))

/-- A point of the plane, in 2^-20 mm: east and north. -/
abbrev YplPt := Int × Int

/-- The antenna's position on the plane of a field. -/
def yplEN (f : YplField) (p : YplPose) : YplPt :=
  let k := yplPlane f.lat
  ((p.lon - f.lon) * k.1 / (2 ^ 40 : Nat), (p.lat - f.lat) * k.2 / (2 ^ 40 : Nat))

/-- Whether a point lies within 30 km of the origin (R178). -/
def yplNear (p : YplPt) : Bool := decide (p.1 * p.1 + p.2 * p.2 ≤ ((30000000 * 2 ^ 20) ^ 2 : Nat))

/-- A sub-strip (R179, R181): the ends of the cutting bar before and after, and whether it moved forward. -/
structure YplStrip where
  l0 : YplPt
  r0 : YplPt
  l1 : YplPt
  r1 : YplPt
  moved : Bool
deriving DecidableEq, Repr, Inhabited

/-- The working width in mm at a reading (R169). -/
def State.yplWidth (s : State) (p : YplPose) : Nat :=
  if p.work then (List.range 16).foldl (fun a k =>
    if nbit p.mask k then a + s.yplDoneF (R.YPL_SEC_W k) 15 0 else a) 0
  else 0

/-- The centre of the cutting bar and the offset to its right end (R179). -/
def State.yplBar (s : State) (f : YplField) (w : Nat) (p : YplPose) : YplPt × YplPt :=
  let a := rad64 p.hdg 18000
  let sn := sin64 a
  let cs := cos64 a
  let ax := sfld (s.yplDoneW R.YPL_OFFSET) 15 0
  let ay := sfld (s.yplDoneW R.YPL_OFFSET) 31 16
  let c := yplEN f p
  let u (x : Int) : Int := x / (2 ^ 44 : Nat)
  ((c.1 + u (ax * sn + ay * cs), c.2 + u (ax * cs - ay * sn)), (u (w * cs) / 2, -(u (w * sn)) / 2))

/-- The sub-strip between two 50 ms readings, with the sections active at the first; none has no ground (R170, R178). -/
def State.yplStrip (s : State) (f : YplField) (p q : YplPose) : Option YplStrip :=
  let w := s.yplWidth p
  if !p.usable || !q.usable || w = 0 || !yplNear (yplEN f p) || !yplNear (yplEN f q) then none
  else
    let b := s.yplBar f w p
    let e := s.yplBar f w q
    let a := rad64 q.hdg 18000
    let d := (e.1.1 - b.1.1) * sin64 a + (e.1.2 - b.1.2) * cos64 a
    some { l0 := (b.1.1 - b.2.1, b.1.2 - b.2.2), r0 := (b.1.1 + b.2.1, b.1.2 + b.2.2),
           l1 := (e.1.1 - e.2.1, e.1.2 - e.2.2), r1 := (e.1.1 + e.2.1, e.1.2 + e.2.2),
           moved := decide (((10 * 2 ^ 84 : Nat) : Int) ≤ d) }

/-- Twice the area of a sub-strip in (2^-20 mm)². -/
def YplStrip.area2 (t : YplStrip) : Nat :=
  if t.moved then
    let cr (p q : YplPt) : Int := p.1 * q.2 - p.2 * q.1
    (cr t.l0 t.r0 + cr t.r0 t.r1 + cr t.r1 t.l1 + cr t.l1 t.l0).natAbs
  else 0

/-- The length between two points. -/
def yplLen (p q : YplPt) : Nat := isqrt ((p.1 - q.1) * (p.1 - q.1) + (p.2 - q.2) * (p.2 - q.2)).toNat

/-- The cell edge in 2^-20 mm (R178). -/
def yplEdge (f : YplField) : Nat := 500 * 2 ^ 20 * clampN 1 8 (fld f.grid 3 0)

/-- The cells the lattice points of a sub-strip fall into, one entry a point, at a spacing of c/4 doubled `k` times or
denser (R179). `tag` tells the lattices apart. -/
def YplStrip.points (t : YplStrip) (f : YplField) (tag k : Nat) : List (Int × Int) :=
  let c := yplEdge f
  let sp := max 1 (c * 2 ^ k / (4 * (1 + Config.latticeDensity tag)))
  let cells (len : Nat) : Nat := max 1 ((len + sp - 1) / sp)
  let na := cells (max (yplLen t.l0 t.r0) (yplLen t.l1 t.r1))
  let nt := if t.moved then cells (max (yplLen t.l0 t.l1) (yplLen t.r0 t.r1)) else 1
  let pa := Config.latticePhase (2 * tag) % 1024
  let pt := Config.latticePhase (2 * tag + 1) % 1024
  let da : Int := ((1024 * na : Nat) : Int)
  let dt : Int := ((1024 * nt : Nat) : Int)
  (List.range na).flatMap (fun x => (List.range nt).map (fun y =>
    let a : Int := ((1024 * x + pa : Nat) : Int)
    let b : Int := if t.moved then ((1024 * y + pt : Nat) : Int) else dt
    let mix (l0 r0 l1 r1 : Int) : Int :=
      ((dt - b) * ((da - a) * l0 + a * r0) + b * ((da - a) * l1 + a * r1)) / (da * dt)
    (mix t.l0.1 t.r0.1 t.l1.1 t.r1.1 / (c : Int), mix t.l0.2 t.r0.2 t.l1.2 t.r1.2 / (c : Int))))

/-- How often each cell stands in a list of points. -/
def yplTally (ps : List (Int × Int)) : List ((Int × Int) × Nat) :=
  ps.foldl (fun a p =>
    match a.find? (fun e => e.1 == p) with
    | some _ => a.map (fun e => if e.1 = p then (e.1, e.2 + 1) else e)
    | none => a ++ [(p, 1)]) []

/-- The cell with an index. -/
def YplField.cell? (f : YplField) (p : Int × Int) : Option YplCell := f.cells.find? (fun c => c.i == p.1 && c.j == p.2)

/-- The area of a cell in cm² (R178). -/
def yplCellArea (f : YplField) : Nat := 2500 * clampN 1 8 (fld f.grid 3 0) * clampN 1 8 (fld f.grid 3 0)

/-- Whether a cell counts as covered: its area has reached COVER_MIN/16 of the cell area (R180). -/
def YplField.covered (f : YplField) (c : YplCell) : Bool := fld f.grid 11 8 * yplCellArea f ≤ 16 * c.area

/-- Whether a cell is covered under another pass ID, by this unit or through the fleet (R180). -/
def yplForeign (f : YplField) (fleet : List (Int × Int)) (p : Int × Int) : Bool :=
  fleet.contains p ||
  match f.cell? p with
  | some c => f.covered c && c.pass != f.pass && 0 < c.area
  | none => false

/-- The points kept of a sub-strip, and whether all lay in covered cells (R180). -/
def yplKeep (f : YplField) (fleet : List (Int × Int)) (ps : List (Int × Int)) : List (Int × Int) × Bool :=
  if fld f.grid 4 4 = 1 then
    let k := ps.filter (fun p => !yplForeign f fleet p)
    if k.isEmpty then (ps, true) else (k, false)
  else (ps, false)

/-- The tile of a cell (R178). -/
def yplTile (p : Int × Int) : Int × Int := (p.1 / 256, p.2 / 256)

/-- The order of cells in R182: tile row, tile column, cell index. -/
def yplBefore (a b : YplShare) : Bool :=
  let k (x : YplShare) : List Int := [x.j / 256, x.i / 256, (x.j % 256) * 256 + x.i % 256]
  decide (k a < k b)

/-- Footprint of two sub-strips at one lattice (R179 to R181): its cells with weights and areas, and the cells that
carry OVL. A sub-strip that did not move carries half of the weight. -/
def yplCells (f : YplField) (fleet : List (Int × Int)) (tag k : Nat) (a b : Option YplStrip) :
    List YplShare × List (Int × Int) :=
  let one (t : Option YplStrip) (tag : Nat) : List ((Int × Int) × Nat) × Nat × List (Int × Int) × Nat :=
    match t with
    | none => ([], 0, [], 0)
    | some t =>
      let ps := t.points f tag k
      let r := yplKeep f fleet ps
      (yplTally r.1, ps.length, if r.2 then r.1 else [], t.area2)
  let x := one a (2 * tag)
  let y := one b (2 * tag + 1)
  let still (t : Option YplStrip) : Bool := match t with
    | some t => !t.moved
    | none => false
  let half := still a || still b
  let wa := if half then 1 else x.2.2.2
  let wb := if half then 1 else y.2.2.2
  let put (l : List YplShare) (p : Int × Int) (w ar : Nat) : List YplShare :=
    if l.any (fun c => c.i == p.1 && c.j == p.2) then
      l.map (fun c => if c.i = p.1 && c.j = p.2 then { c with w := c.w + w, area := c.area + ar } else c)
    else l ++ [{ i := p.1, j := p.2, w := w, area := ar }]
  let ar (area2 cnt np : Nat) : Nat := (divFree (area2 * cnt : Nat) (2 * np * 100 * 2 ^ 40 : Nat)).toNat
  let l := x.1.foldl (fun l e => put l e.1 (wa * e.2 * max 1 y.2.1) (ar x.2.2.2 e.2 x.2.1)) []
  let l := y.1.foldl (fun l e => put l e.1 (wb * e.2 * max 1 x.2.1) (ar y.2.2.2 e.2 y.2.1)) l
  (l, x.2.2.1 ++ y.2.2.1)

/-- The lattice spacing doubles until a footprint touches at most 128 cells (R179). -/
def yplFit (f : YplField) (fleet : List (Int × Int)) (tag : Nat) (a b : Option YplStrip) :
    Nat → Nat → List YplShare × List (Int × Int)
  | 0, k => yplCells f fleet tag k a b
  | n + 1, k =>
    let r := yplCells f fleet tag k a b
    if r.1.length ≤ 128 then r else yplFit f fleet tag a b n (k + 1)

/-! ### Tiles and cells -/

/-- Resident tiles of the YPL partition as shipped, and spilled tiles of the eMMC (R184). -/
def yplResidentMax : Nat := 512
def yplSpillMax : Nat := 8192

/-- The tiles provisional footprints touch are pinned (R184). -/
def yplPinned (fps : List YplFp) (t : Int × Int) : Bool :=
  fps.any (fun p => p.inField && p.cells.any (fun c => yplTile (c.i, c.j) == t))

/-- Makes room for one tile: the least recently written unpinned tile is spilled; answers the notification kind where
none can be. `own` are the tiles of the footprint the room is for: that footprint is provisional too. -/
def YplField.room (f : YplField) (fps : List YplFp) (own : List (Int × Int)) : Except Nat YplField :=
  if f.resident.length < yplResidentMax then .ok f
  else
    match (f.resident.reverse).find? (fun t => !yplPinned fps t && !own.contains t) with
    | none => .error 0
    | some t =>
      if f.spilled.length < yplSpillMax then
        .ok { f with resident := f.resident.filter (fun x => x != t), spilled := t :: f.spilled }
      else .error 1

/-- The tiles of a footprint are brought in: resident ones stay, spilled ones are waited for, others are new. -/
def YplField.touch (f : YplField) (fps : List YplFp) (own : List (Int × Int)) :
    List (Int × Int) → Except Nat (YplField × List (Int × Int))
  | [] => .ok (f, [])
  | t :: ts =>
    if f.resident.contains t then f.touch fps own ts
    else if f.spilled.contains t then
      match f.touch fps own ts with
      | .error e => .error e
      | .ok (g, w) => .ok (g, t :: w)
    else
      match f.room fps own with
      | .error e => .error e
      | .ok g => ({ g with resident := t :: g.resident } : YplField).touch fps own ts

/-- A change of one cell: its tile becomes dirty and the most recently written; NEG follows the mass (R183, R184). -/
def YplField.bump (f : YplField) (p : Int × Int) (g : YplCell → YplCell) : YplField :=
  let t := yplTile p
  let fix (c : YplCell) : YplCell := { c with flags := (c.flags % 32) + (if c.mass < 0 then 32 else 0) }
  let cells := match f.cell? p with
    | some _ => f.cells.map (fun c => if c.i = p.1 && c.j = p.2 then fix (g c) else c)
    | none => f.cells ++ [fix (g { i := p.1, j := p.2 })]
  { f with
    cells := cells,
    dirty := if f.dirty.contains t then f.dirty else t :: f.dirty,
    resident := if f.resident.contains t then t :: f.resident.filter (fun x => x != t) else f.resident }

/-- Sets a flag bit of a cell. -/
def yplFlag (b : Nat) (v : Bool) (c : YplCell) : YplCell :=
  { c with flags := if v then c.flags ||| 2 ^ b else c.flags &&& (255 - 2 ^ b) }

/-- The largest-remainder allocation of `t` over weights (R182): ties go to the first in order. -/
def yplAlloc (t : Int) (ws : List Nat) : List Int :=
  let sum : Int := ((ws.foldl (fun a w => a + w) 0 : Nat) : Int)
  let base := ws.map (fun (w : Nat) => t * (w : Int) / sum)
  let rems := ws.map (fun (w : Nat) => t * (w : Int) % sum)
  let extra := t - isum base
  let idx := List.range ws.length
  idx.map (fun i =>
    let r := rems.getD i 0
    let rank := (idx.filter (fun j => decide (r < rems.getD j 0) || (rems.getD j 0 == r && decide (j < i)))).length
    base.getD i 0 + (if (rank : Int) < extra then 1 else 0))

/-- Writes the allocation of a footprint's totals to its cells (R182). -/
def State.yplAllocate (s : State) (n : Nat) : State :=
  match s.ypl.fps[n]?, s.ypl.field with
  | some p, some f =>
    if !p.inField || p.cells.isEmpty || !p.waits.isEmpty then s
    else
      let ws := p.cells.map (fun c => c.w)
      let d := yplAlloc (p.dry / 1000) ws
      let m := yplAlloc (p.moist / 1000) ws
      let cs := ((p.cells.zip d).zip m).map (fun e => { e.1.1 with dry := e.1.2, moist := e.2 : YplShare })
      let diff := ((p.cells.zip cs).filter (fun e => e.1.dry != e.2.dry || e.1.moist != e.2.moist))
      let f := diff.foldl (fun (f : YplField) e => f.bump (e.1.i, e.1.j) (fun c =>
        { c with mass := c.mass + e.2.dry - e.1.dry, moist := c.moist + e.2.moist - e.1.moist })) f
      let ch := (diff.map (fun e => (e.1.i, e.1.j))).filter (fun k => !s.ypl.changed.contains k)
      s.setYpl (fun y => { y with
        field := some f, fps := updAt y.fps n (fun q => { q with cells := cs }), changed := y.changed ++ ch })
  | _, _ => s

/-- Adds a footprint's area, pass and flags to its cells (R179, R183), once its tiles are resident (R184). -/
def State.yplCover (s : State) (p : YplFp) : State :=
  match s.ypl.field with
  | none => s
  | some f =>
    let f' := p.cells.foldl (fun (f : YplField) c => f.bump (c.i, c.j) (fun x =>
      let x := { x with
        area := x.area + c.area,
        count := if x.pass = p.pass then x.count else min 255 (x.count + 1), pass := p.pass }
      let x := yplFlag 0 true { x with flags := x.flags ||| p.flags }
      if p.ovl.contains (c.i, c.j) then yplFlag 1 true x else x)) f
    let ch := (p.cells.map (fun c => (c.i, c.j))).filter (fun k => !s.ypl.changed.contains k)
    s.setYpl (fun y => { y with
      field := some { f' with area := f'.area + p.area }, changed := y.changed ++ ch })

/-- PROV leaves the cells of a footprint that no other provisional one covers (R175). -/
def YplField.settle (f : YplField) (rest : List YplFp) (p : YplFp) (extra : Nat) : YplField :=
  p.cells.foldl (fun (f : YplField) c =>
    let still := rest.any (fun q => q.inField && q.cells.any (fun d => d.i == c.i && d.j == c.j))
    f.bump (c.i, c.j) (fun x => yplFlag 0 still { x with flags := x.flags ||| extra })) f

/-- Notification YPL_RESOURCE and its counter (R184). -/
def State.yplNoRes (s : State) (kind : Nat) : State :=
  ((s.inc R.YPL_NORES).wb R.YPL_STATUS 8 true).notify fYPL 0x83 [byte kind, 0#8, 0#8, 0#8]

/-- Shows the numbers of resident and spilled tiles. -/
def State.yplShowTiles (s : State) : State :=
  match s.ypl.field with
  | none => s.wr R.YPL_TILES 0#32
  | some f => s.wr R.YPL_TILES (word (f.resident.length % 8192 + 65536 * (f.spilled.length % 16384)))

/-! ### The sample -/

/-- The wet flow of the sample just ended (R167). -/
def State.yplFlow (s : State) : State × Int × Bool :=
  let c := s.yplDoneW R.YPL_FLOW_CFG
  if 50 ≤ s.ypl.doneCnt then
    let mean := if bit c 9 then divFree (s.ypl.doneSum * fld s.yplCrop 31 16) (1000 * s.ypl.doneCnt : Nat)
      else divFree s.ypl.doneSum s.ypl.doneCnt
    let y := asr (mean * (s.yplDoneW R.YPL_FLOW_GAIN).toNat) 16
    ((s.setYpl (fun p => { p with lastFlow := y, flowBad := 0 })).wb R.YPL_STATUS 6 false, y, false)
  else
    let n := s.ypl.flowBad + 1
    let t := ((s.inc R.YPL_FLOW_GAPS).setYpl (fun p => { p with flowBad := n })).wb R.YPL_STATUS 6 true
    (t, if n ≤ fld c 15 10 then s.ypl.lastFlow else 0, true)

/-- The moisture of the sample just ended (R168). -/
def State.yplMoist (s : State) : State × Int × Bool :=
  let c := s.yplDoneW R.YPL_MOIST_CFG
  let dflt : Int := clampI 0 5000 (s.yplDoneF R.YPL_MOIST_DEF 15 0)
  if !bit c 22 then (s, dflt, false)
  else
    let r := s.ypl.moistR.getD (fld c 15 9) (0, false)
    if r.2 then
      let m := clampI 0 5000 r.1
      (s.setYpl (fun y => { y with lastMoist := m, moistBad := 0 }), m, false)
    else
      let n := s.ypl.moistBad + 1
      let t := s.setYpl (fun y => { y with moistBad := n })
      if n ≤ fld c 21 16 then (t, s.ypl.lastMoist, false) else (t, dflt, true)

/-- The footprint of the sample just ended (R174, R178 to R181, R184). -/
def State.yplMake (s : State) (flags : Nat) : State :=
  let p0 := s.ypl.poses.getD 2 {}
  let p1 := s.ypl.poses.getD 1 {}
  let p2 := s.ypl.poses.getD 0 {}
  let gaps := b2n (!(p0.usable && p1.usable)) + b2n (!(p1.usable && p2.usable))
  let s := (s.addCnt R.YPL_POS_GAPS gaps).wb R.YPL_STATUS 7 (gaps != 0)
  let push (s : State) (p : YplFp) : State := s.setYpl (fun y => { y with fps := p :: y.fps })
  match s.ypl.field with
  | none => push s {}
  | some f =>
    if s.yplField != 1 then push s {}
    else
      let tag := s.clk.tickCount
      let r := yplFit f ((s.ypl.fleet.filter (fun e => e.1 == f.id)).map (fun e => e.2)) tag (s.yplStrip f p0 p1) (s.yplStrip f p1 p2) 40 0
      let cs := sortBy yplBefore (r.1.filter (fun c => c.w != 0))
      let ts := (cs.map (fun c => yplTile (c.i, c.j))).eraseDups
      match f.touch s.ypl.fps ts ts with
      | .error k => push (s.yplNoRes k) { inField := true, flags := flags }
      | .ok (g, w) =>
        let p : YplFp := { cells := cs, area := cs.foldl (fun a c => a + c.area) 0, inField := true, waits := w,
                           flags := flags, ovl := r.2, pass := f.pass }
        let t := s.setYpl (fun y => { y with field := some g })
        push (if w.isEmpty then t.yplCover p else t) p

/-- The contributions of a mass over the taps (R174). -/
def yplScatter (g : List Int) (z : Int) : List Int :=
  let n0 := yplN0 g
  let c := g.map (fun x => x * z / 65536)
  let others := isum c - c.getD n0 0
  updAt c n0 (fun _ => z - others)

/-- Scatters the masses of the sample over the footprints; the field's footprints count in M_sensor (R174, R187). -/
def State.yplSpread (s : State) (yw yd ym : Int) : State :=
  let cw := yplScatter s.ypl.inv (100 * yw)
  let cd := yplScatter s.ypl.inv (100 * yd)
  let cm := yplScatter s.ypl.inv (100 * ym)
  let fps := (s.ypl.fps.zip (List.range 256)).map (fun e => { e.1 with
    wet := e.1.wet + cw.getD e.2 0, dry := e.1.dry + cd.getD e.2 0, moist := e.1.moist + cm.getD e.2 0 : YplFp })
  let sens := isum ((s.ypl.fps.zip (List.range 256)).map (fun e => if e.1.inField then cd.getD e.2 0 else 0))
  s.setYpl (fun y => { y with
    fps := fps,
    field := y.field.map (fun f => { f with sensor := f.sensor + sens }) })

/-- The final footprint's entries 0x0C1, 0x0C2 and 0x0C4 (R171, R191). -/
def State.yplFinalSigs (s : State) (p : YplFp) : State :=
  let s := (s.setSig 0xC1 (iword (p.wet / 100))).setSig 0xC2 (iword (p.dry / 100))
  let std := fld s.yplCrop 15 0
  if p.cells.isEmpty || p.area = 0 then s.dropSig 0xC4
  else if 10000 ≤ std then s.setSig 0xC4 (iword (Config.divByZero (p.dry / 1000)))
  else s.setSig 0xC4 (iword (p.dry / 1000 * 1000000000 / (((10000 - std) * p.area : Nat) : Int)))

/-- Finalises the footprint whose 256th contribution has arrived (R174, R175, R182). -/
def State.yplFinal (s : State) : State :=
  match s.ypl.fps[255]? with
  | none => s
  | some _ =>
    let s := s.yplAllocate 255
    match s.ypl.fps[255]? with
    | none => s
    | some p =>
      let rest := s.ypl.fps.take 255
      let s := s.yplFinalSigs p
      let s := s.setYpl (fun y => { y with fps := rest })
      let s := s.inc R.YPL_FOOTPRINTS
      if p.cells.isEmpty then
        (s.inc R.YPL_NOGROUND).setYpl (fun y => { y with
          field := y.field.map (fun f => if p.inField then { f with unattr := f.unattr + p.dry } else f) })
      else
        s.setYpl (fun y => { y with
          fps := updAt y.fps 254 (fun q =>
            { q with dry := q.dry + p.dry % 1000, moist := q.moist + p.moist % 1000 }),
          field := y.field.map (fun f => if p.inField && p.waits.isEmpty then f.settle rest p 0 else f) })

/-- M_tiles in g. -/
def YplField.tiles (f : YplField) : Int := isum (f.cells.map (fun c => c.mass))

/-- M_round in mg: what the open footprints of the field hold beyond the grams allocated (R187). -/
def Ypl.round (y : Ypl) : Int :=
  isum (y.fps.map (fun p => if p.inField then p.dry - 1000 * isum (p.cells.map (fun c => c.dry)) else 0))

/-- The mass balance after a sample (R187, R188). -/
def State.yplBalance (s : State) : State :=
  match s.ypl.field with
  | none => s
  | some f =>
    let g (a b : Nat) (v : Int) (s : State) : State :=
      (s.wr a (iword v)).wr b (iword (v / (4294967296 : Nat)))
    let rnd := s.ypl.round
    let sensor := f.sensor / 1000
    let diff := sensor - f.tiles
    let resid := (f.sensor - 1000 * f.tiles - f.unattr - rnd).tdiv 1000
    let fr := if sensor = 0 then Config.divByZero (diff * 1000000) else (diff * 1000000).tdiv sensor
    let rfr := if sensor = 0 then Config.divByZero (resid * 1000000) else (resid * 1000000).tdiv sensor
    let s := g R.YPL_MB_SENSOR_LO R.YPL_MB_SENSOR_HI sensor s
    let s := g R.YPL_MB_TILES_LO R.YPL_MB_TILES_HI f.tiles s
    let s := g R.YPL_MB_UNATTR_LO R.YPL_MB_UNATTR_HI (f.unattr / 1000) s
    let s := (s.wr R.YPL_MB_DIFF (iword (sat32 diff))).wr R.YPL_MB_DIFF_FRAC (iword (sat32 fr))
    let s := (s.wr R.YPL_MB_RESID (iword (sat32 resid))).wr R.YPL_MB_RESID_FRAC (iword (sat32 rfr))
    let s := s.wr R.YPL_MB_ROUND (iword rnd)
    let s := (s.setSig 0xC7 (iword (f.tiles / 1000))).setSig 0xC8 (word (f.area / 10000))
    let s := (s.setSig 0xC9 (iword (sat32 resid))).setSig 0xCA (iword (sat32 rfr))
    let bad := (s.rd R.YPL_MB_MIN).toNat ≤ resid.natAbs && s.fd R.YPL_MB_LIM 19 0 ≤ rfr.natAbs
    let t := s.setYpl (fun y => { y with alarm := bad })
    if bad && !s.ypl.alarm then
      ((t.inc R.YPL_MB_ALARMS).post fYPL .massBalance).notify fYPL 0x82
        (wBytes (iword (sat32 resid)) ++ wBytes (iword (sat32 rfr)))
    else t

/-- The header state of the sample just ended, for the events of R176: at its first reading. -/
def State.yplWorked (s : State) : Bool := (s.ypl.poses.getD 2 {}).work

/-- The header state at the sample's second reading, the latest one inside it. -/
def State.yplWorkedMid (s : State) : Bool := (s.ypl.poses.getD 1 {}).work

/-- The pass ID advances each time the header starts to work (R183, R186): at either reading of the sample, from the
reading before. A header that starts at the second one has no ground before it, so all the ground is of the new pass. -/
def State.yplPass (s : State) : State :=
  let a := s.yplWorked
  let b := s.yplWorkedMid
  let t := s.setYpl (fun y => { y with
    worked := b,
    field := y.field.map (fun f =>
      if ((a && !y.worked) || (b && !a) || ((a || b) && f.pass = 0)) && s.yplField = 1 then
        { f with pass := if 0xFFFE ≤ f.pass then 1 else f.pass + 1 } else f) })
  match t.ypl.field with
  | none => t.wf_ R.YPL_STATUS 31 16 0
  | some f => t.wf_ R.YPL_STATUS 31 16 f.pass

/-- The last 768 samples are kept at all times; while a calibration collects, an event is a change since its start with
256 samples of one state before it and 512 of the other from it on (R176). -/
def State.yplCollect (s : State) (yw : Int) : State :=
  let h := ((s.yplWorked, yw) :: s.ypl.hist).take 768
  let s := s.setYpl (fun y => { y with hist := h, calCnt := y.calCnt + 1 })
  if s.fd R.YPL_STATUS 3 2 != 1 then s
  else
    let o := h.reverse
    let st := (o.getD 0 (false, 0)).1
    if 512 ≤ s.ypl.calCnt && h.length = 768 && (o.take 256).all (fun e => e.1 == st) && (o.drop 256).all (fun e => e.1 != st) then
      let ys := o.map (fun e => e.2)
      let p := if st then divFree (isum (ys.take 256)) 256 else divFree (isum (ys.drop 640)) 128
      if p < 2000 then s
      else
        let n := s.ypl.windows.length + 1
        let s := (s.setYpl (fun y => { y with windows := y.windows ++ [{ flush := st, p := p, y := ys }] })).wf_
          R.YPL_STATUS 13 9 n
        if s.ypl.calWant ≤ n then s.wf_ R.YPL_STATUS 3 2 2 else s
    else s

/-- Opens the field that waits (R189, R190): a resumed one goes on from its checkpoint, what its footprints held beyond
the grams in cells becomes unattributed mass, and the event names the lost interval in TB ticks. -/
def State.yplOpenNow (s : State) : State :=
  match s.ypl.openReq with
  | none => s
  | some (.fresh id lat lon crop) =>
    let f : YplField := { id := id, lat := lat, lon := lon, crop := crop, grid := s.rd R.YPL_GRID }
    (s.setYpl (fun y => { y with
      field := some f, openReq := none, ckptAt := s.clk.tb, alarm := false,
      worked := false, stored := y.stored.filter (fun g => g.id != id) })).wf_ R.YPL_STATUS 1 0 1
  | some (.resume id) =>
    match s.ypl.stored.find? (fun f => f.id == id) with
    | none => s.setYpl (fun y => { y with openReq := none })
    | some f =>
      let g := f.fps.foldl (fun (g : YplField) p =>
        if !p.inField then g
        else
          { (if p.waits.isEmpty then g.settle [] p 16 else g) with
            unattr := g.unattr + p.dry - 1000 * isum (p.cells.map (fun c => c.dry)) }) f
      let lost := (s.clk.now - f.at_) / 4
      let t := s.setYpl (fun y => { y with
        field := some { g with fps := [] }, openReq := none, ckptAt := s.clk.tb, alarm := false,
        worked := false })
      (t.postRaw (Ev.other 9).code fYPL (Ev.other 9).sev [word lost, word (lost / 4294967296)]).wf_ R.YPL_STATUS 1 0 1

/-- YPL_SAMPLE (R174): the work of the sample boundary reached by the latest tick. -/
def execYplSample (s : State) : Host.Outcome State Fault Refusal :=
  s.runIn .ypl (fun s =>
    if !s.isRunning fYPL || s.pairHeld || s.clk.tickCount % 2000 != 0 || s.ypl.lastTick == some s.clk.tickCount then s
    else if s.ypl.lastTick.isNone then
      (s.setYpl (fun y => { y with lastTick := some s.clk.tickCount })).yplOpenNow
    else
      let s := s.setYpl (fun y => { y with
        lastTick := some s.clk.tickCount, inv := y.invNext.getD y.inv, invNext := none })
      let a := s.yplFlow
      let b := a.1.yplMoist
      let yw := a.2.1
      let m := b.2.1
      let yd := (yw * (10000 - m)).tdiv 10000
      let s := b.1.yplPass
      let s := s.yplMake ((if b.2.2 then 4 else 0) + (if a.2.2 then 8 else 0))
      let s := s.yplSpread yw yd (yd * m)
      let s := s.setYpl (fun y => { y with weigh := y.weigh.map (fun w => w + 100 * yw) })
      let s := s.yplFinal
      let s := (List.range 255).foldl (fun (s : State) n => s.yplAllocate n) s
      let s := (s.setSig 0xC0 (iword yw)).setSig 0xC3 (iword m)
      let s := s.setSig 0xC5 (word (s.yplWidth (s.ypl.poses.getD 1 {})))
      let s := s.setSig 0xC6 (word (if s.yplWorkedMid then s.fd R.YPL_STATUS 31 16 else 0))
      let s := s.yplBalance
      let s := s.yplCollect yw
      let s := if s.yplField = 2 then s.setYpl (fun y => { y with closeCnt := y.closeCnt + 1 }) else s
      s.yplOpenNow.yplShowTiles)

/-- YPL_TILE_LOADED (R184): the first spilled tile a footprint waits for becomes resident, and the footprints that
waited for it alone reach their cells, the oldest first; where it cannot, they have no ground. -/
def execYplTileLoaded (s : State) : Host.Outcome State Fault Refusal :=
  s.runIn .ypl (fun s =>
    let s0 := s
    match s.ypl.field, s.ypl.fps.findSome? (fun p => p.waits.head?) with
    | some f, some t =>
      match f.room s.ypl.fps [t] with
      | .error k =>
        let s := s.yplNoRes k
        s.setYpl (fun y => { y with fps := y.fps.map (fun p =>
          if p.waits.contains t then { p with cells := [], area := 0, waits := [], ovl := [] } else p) })
      | .ok g =>
        let g := { g with resident := t :: g.resident, spilled := g.spilled.filter (fun x => x != t) }
        let s := s.setYpl (fun y => { y with
          field := some g,
          fps := y.fps.map (fun p => { p with waits := p.waits.filter (fun x => x != t) }) })
        let s := (s0.ypl.fps.filter (fun p => p.waits == [t])).reverse.foldl (fun s p => s.yplCover p) s
        ((List.range 256).foldl (fun (s : State) n => s.yplAllocate n) s).yplShowTiles
    | _, _ => s)

/-! ### Checkpoints and fields -/

/-- A checkpoint: dirty tiles, footprints and balance as one set (R185), with its time in CLK_FAB periods. -/
def State.yplCheckpoint (s : State) : State :=
  match s.ypl.field with
  | none => s
  | some f =>
    let c : YplField := { f with dirty := [], fps := s.ypl.fps, at_ := s.clk.now }
    s.setYpl (fun y => { y with
      stored := y.stored.filter (fun g => g.id != f.id) ++ [c], field := some { f with dirty := [] },
      ckptAt := s.clk.tb })

/-- YPL_CHECKPOINT (R185): due every S seconds while a field is open or closing. Where the eMMC write fails, which is
left open, the previous set stays in force and YPL_RESOURCE kind 2 is sent (R194). -/
def execYplCheckpoint (s : State) : Host.Outcome State Fault Refusal :=
  s.runIn .ypl (fun s =>
    if s.isRunning fYPL && s.ypl.field.isSome &&
        s.tbPast s.ypl.ckptAt (tbMs (1000 * clampN 10 600 (s.fd R.YPL_CKPT 9 0))) then
      let t := s.setYpl (fun y => { y with ckpts := y.ckpts + 1 })
      if Config.yplCkptFails s.ypl.ckpts then
        (t.setYpl (fun y => { y with ckptAt := s.clk.tb })).notify fYPL 0x83 [byte 2, 0#8, 0#8, 0#8]
      else t.yplCheckpoint
    else s)

/-- The field leaves OPEN and CLOSING; its entries become invalid (R171). -/
def State.yplDropField (s : State) : State :=
  let t := s.setYpl (fun y => { y with field := none, openReq := none, closeCnt := 0 })
  (((t.wf_ R.YPL_STATUS 1 0 0).wf_ R.YPL_STATUS 31 16 0).dropSigs 0xC7 4).yplShowTiles

/-- YPL_CLOSING_END (R189): 255 samples after FIELD_CLOSE. -/
def execYplClosingEnd (s : State) : Host.Outcome State Fault Refusal :=
  s.runIn .ypl (fun s =>
    match s.ypl.field with
    | none => s
    | some f =>
      if s.yplField = 2 && 255 ≤ s.ypl.closeCnt then
        let t := (s.yplCheckpoint).yplDropField
        t.notify fYPL 0x81 (leBytes 4 f.id ++ wBytes (iword (f.tiles / 1000)) ++ leBytes 4 (f.area / 10000) ++
          wBytes (s.rd R.YPL_MB_RESID))
      else s)

/-- Enters CLOSING. -/
def State.yplClose (s : State) : State :=
  (s.setYpl (fun y => { y with closeCnt := 0 })).wf_ R.YPL_STATUS 1 0 2

/-- Whether a field may be opened: RUNNING, CLOSED and none waiting (R189). -/
def State.yplMayOpen (s : State) : Bool := s.isRunning fYPL && s.yplField == 0 && s.ypl.openReq.isNone

/-- A write of YPL_FIELD_CTRL, in EXPERT alone (R189, R194): a host write in BASIC is discarded (R65). -/
def State.yplCtrl (s : State) (ini : Initiator) (g : State → State) : State :=
  s.owned ini fYPL .ypl .fab (fun s => if s.expert fYPL then g s else s)

/-- A write of `YPL_FIELD_CTRL`: 1 opens the field of the registers, 2 resumes it, 3 closes. -/
def State.yplCmd (cmd : Nat) (s : State) : State :=
  let id := (s.rd R.YPL_FIELD_ID).toNat
  let known := s.ypl.stored.any (fun f => f.id == id)
  match cmd with
  | 1 =>
    if s.yplMayOpen && !known then
      s.setYpl (fun y => { y with openReq := some (.fresh id (s.rd R.YPL_ORIGIN_LAT).toInt (s.rd R.YPL_ORIGIN_LON).toInt
        (s.fd R.YPL_CROP_SEL 2 0)) })
    else s
  | 2 => if s.yplMayOpen && known then s.setYpl (fun y => { y with openReq := some (.resume id) }) else s
  | 3 => if s.yplField = 1 then s.yplClose else s
  | _ => s

/-- YPL_FIELD_CTRL_OPEN (R189): opens a new field with the ID, origin and crop of the registers. -/
def execYplFieldCtrlOpen (ini : Initiator) (s : State) : Host.Outcome State Fault Refusal :=
  s.runIn .ypl (fun s => s.yplCtrl ini (fun s => s.yplCmd 1))

/-- YPL_FIELD_CTRL_RESUME (R190). -/
def execYplFieldCtrlResume (ini : Initiator) (s : State) : Host.Outcome State Fault Refusal :=
  s.runIn .ypl (fun s => s.yplCtrl ini (fun s => s.yplCmd 2))

/-- YPL_FIELD_CTRL_CLOSE (R189). -/
def execYplFieldCtrlClose (ini : Initiator) (s : State) : Host.Outcome State Fault Refusal :=
  s.runIn .ypl (fun s => s.yplCtrl ini (fun s => s.yplCmd 3))

/-- YPL_FIELD_OPEN (R189, R194). -/
def execYplFieldOpen (c : Cmd) (s : State) : Host.Outcome State Fault Refusal :=
  s.runIn .ypl (fun s => s.command fYPL 0x10 0 c (fun _ s =>
    let p := c.payload
    let id := u32 p 0
    let known := s.ypl.stored.any (fun f => f.id == id)
    if p.length != 16 then refuse stBAD_LENGTH s
    else if !s.yplMayOpen then refuse stWRONG_STATE s
    else if 2 < u8 p 13 || (u8 p 13 = 0 && known) || (u8 p 13 = 1 && !known) || (u8 p 13 != 1 && 7 < u8 p 12) then
      refuse stBAD_PARAM s
    else
      let q : Option (Int × Int × Nat) := if u8 p 13 = 1 then
          (s.ypl.stored.find? (fun f => f.id == id)).map (fun f => (f.lat, f.lon, f.crop))
        else some (i32 p 4, i32 p 8, u8 p 12)
      let o := q.getD (0, 0, 0)
      let t := (((s.wr R.YPL_FIELD_ID (word id)).wr R.YPL_ORIGIN_LAT (iword o.1)).wr R.YPL_ORIGIN_LON (iword o.2.1)).wf_
        R.YPL_CROP_SEL 2 0 o.2.2
      (.now stOK [], t.setYpl (fun y => { y with
        openReq := some (if u8 p 13 = 1 then .resume id else .fresh id o.1 o.2.1 o.2.2) }))))

/-- YPL_FIELD_CLOSE (R189, R194). -/
def execYplFieldClose (c : Cmd) (s : State) : Host.Outcome State Fault Refusal :=
  s.runIn .ypl (fun s => s.command fYPL 0x11 0 c (fun _ s =>
    if !c.payload.isEmpty then refuse stBAD_LENGTH s
    else if s.yplField != 1 then refuse stWRONG_STATE s
    else (.now stOK [], s.yplClose)))

/-! ### Kernel identification -/

/-- The calibration ends with a result: notification YPL_CAL_DONE (R177). -/
def State.yplCalEnd (s : State) (result : Nat) : State :=
  let t := ((s.wf_ R.YPL_STATUS 3 2 0).wf_ R.YPL_STATUS 13 9 0).setYpl (fun y => { y with
    windows := [], calWant := 0 })
  t.notify fYPL 0x80 ([byte result, 0#8, 0#8, 0#8] ++ wBytes (t.rd R.YPL_CAL_FIT) ++ wBytes (t.rd R.YPL_CAL_TAIL) ++
    wBytes (t.rd R.YPL_CAL_DELAY))

/-- The crop entering in sample `k` of a window (R176). -/
def YplWindow.x (w : YplWindow) (k : Nat) : Int := if (k < 256) = (w.flush = true) then w.p else 0

/-- The taps of R177 before normalisation, 512 of them. -/
def yplIdentify (ws : List YplWindow) : List Int :=
  let blocks := ws.flatMap (fun w => [0, 256].map (fun o =>
    (dft512 (-1) (reals ((List.range 512).map (fun k => w.x (o + k)))), dft512 (-1) (reals ((w.y.drop o).take 512)))))
  let sum (g : (Int × Int) → (Int × Int) → Int) (k : Nat) : Int :=
    blocks.foldl (fun a b => a + g (b.1.getD k (0, 0)) (b.2.getD k (0, 0))) 0
  let idx := List.range 512
  let sxx := idx.map (fun k => sum (fun x _ => x.1 * x.1 + x.2 * x.2) k)
  let top := sxx.foldl (fun a x => max a x) 0
  let h := idx.map (fun k =>
    let den := 1000000 * sxx.getD k 0 + top
    let re := sum (fun x y => x.1 * y.1 + x.2 * y.2) k
    let im := sum (fun x y => x.1 * y.2 - x.2 * y.1) k
    if den = 0 then (Config.divByZero re, Config.divByZero im)
    else (re * (1000000 * 2 ^ 80 : Nat) / den, im * (1000000 * 2 ^ 80 : Nat) / den))
  ((dft512 1 h.toArray).map (fun z => z.1)).toList

/-- The fit of R177 in ppm. -/
def yplFitPpm (ws : List YplWindow) (h : List Int) : Int :=
  let sums := ws.map (fun w =>
    let conv (n : Nat) : Int := isum ((h.zip (List.range 256)).map (fun e =>
      e.1 * (if e.2 ≤ n then w.x (n - e.2) else Config.cropBefore w.p (e.2 - n))))
    let es := (w.y.zip (List.range 768)).map (fun e => (e.1 * 65536 - conv e.2) * (e.1 * 65536 - conv e.2))
    (isum es, isum (w.y.map (fun y => y * y))))
  let e := isum (sums.map (fun x => x.1))
  let y := isum (sums.map (fun x => x.2))
  if y = 0 then Config.divByZero e else (isqrt (e * (10 ^ 12 : Nat) / (y * (2 ^ 32 : Nat))).toNat : Int)

/-- YPL_CAL_COMPUTE_DONE (R177). -/
def execYplCalComputeDone (s : State) : Host.Outcome State Fault Refusal :=
  s.runIn (Foot.ypl.and [.prm, .shadow] [.prm]) (fun s =>
    if s.fd R.YPL_STATUS 3 2 != 2 then s
    else
      let h := yplIdentify s.ypl.windows
      let ab (l : List Int) : Int := isum (l.map (fun x => (x.natAbs : Int)))
      let tail := divFree (1000000 * ab (h.drop 256)) (ab h)
      let h := h.take 256
      let big := argMax (fun x => x) h
      let k := scale16 h big
      let fit := yplFitPpm s.ypl.windows k
      let top := h.getD big 0
      let dead := ((List.range 256).find? (fun n => decide (top ≤ 100 * h.getD n 0))).getD 0
      let cen := divFree (isum ((k.zip (List.range 256)).map (fun e => e.1 * e.2))) 65536
      let s := (s.wr R.YPL_CAL_FIT (iword fit)).wr R.YPL_CAL_TAIL (iword tail)
      let s := s.wr R.YPL_CAL_DELAY (setFld (word dead) 31 16 (iword cen).toNat)
      if 50000 < tail then s.yplCalEnd 1
      else if isum h ≤ 0 then (s.wb R.YPL_STATUS 5 true).yplCalEnd 2
      else if 50000 < fit then s.yplCalEnd 2
      else
        let s := (List.range 256).foldl (fun (s : State) n => s.shadowWr (R.YPL_KERNEL n) 10 (iword (k.getD n 0))) s
        let s := (s.applyShadow 10).yplAfterUg10
        ((s.setYpl (fun y => { y with cfgKernel := some (y.kernel, y.lambda) })).prmItem (256 * fYPL)
          (s.ypl.kernel.flatMap (fun h => wBytes (iword h)) ++ leBytes 4 s.ypl.lambda)).yplCalEnd 0)

/-- YPL_CAL_TIMEOUT (R177): 3,600 s without E events. -/
def execYplCalTimeout (s : State) : Host.Outcome State Fault Refusal :=
  s.runIn .ypl (fun s => if s.fd R.YPL_STATUS 3 2 = 1 && s.tbPast s.ypl.calAt (tbMs 3600000) then s.yplCalEnd 3 else s)

/-- YPL_CAL_KERNEL (R176, R194). -/
def execYplCalKernel (c : Cmd) (s : State) : Host.Outcome State Fault Refusal :=
  s.runIn .ypl (fun s => s.command fYPL 0x12 1 c (fun _ s =>
    let p := c.payload
    if p.length != 4 then refuse stBAD_LENGTH s
    else if 1 < u8 p 1 || (u8 p 1 = 0 && (u8 p 0 < 2 || 16 < u8 p 0)) then refuse stBAD_PARAM s
    else if u8 p 1 = 0 then
      if s.fd R.YPL_STATUS 3 2 != 0 then refuse stWRONG_STATE s
      else (.now stOK [], ((s.wf_ R.YPL_STATUS 3 2 1).wf_ R.YPL_STATUS 13 9 0).setYpl (fun y => { y with
        calWant := u8 p 0, calAt := s.clk.tb, calCnt := 0, windows := [] }))
    else if s.fd R.YPL_STATUS 3 2 = 0 then (.now stOK [], s)
    else (.now stOK [], s.yplCalEnd 4)))

/-- YPL_KERNEL_SET (R172, R194). -/
def execYplKernelSet (c : Cmd) (s : State) : Host.Outcome State Fault Refusal :=
  s.runIn (Foot.ypl.and [.prm, .shadow] [.prm]) (fun s => s.command fYPL 0x13 1 c (fun _ s =>
    let p := c.payload
    let h := (List.range 256).map (fun n => i32 p (4 * n))
    if p.length != 1028 then refuse stBAD_LENGTH s
    else if isum h ≤ 0 || 65535 < u32 p 1024 then refuse stBAD_PARAM s
    else
      let s := (List.range 256).foldl (fun (s : State) n => s.shadowWr (R.YPL_KERNEL n) 10 (w32 p (4 * n))) s
      let s := ((s.shadowWr R.YPL_LAMBDA 10 (w32 p 1024)).applyShadow 10).yplAfterUg10
      (.now stOK [], (s.setYpl (fun y => { y with cfgKernel := some (y.kernel, y.lambda) })).prmItem (256 * fYPL) p)))

/-- YPL_KERNEL_GET (R194). -/
def execYplKernelGet (c : Cmd) (s : State) : Host.Outcome State Fault Refusal :=
  s.runIn .ypl (fun s => s.command fYPL 0x14 0 c (fun _ s =>
    if !c.payload.isEmpty then refuse stBAD_LENGTH s
    else okWith ((List.range 256).flatMap (fun n => wBytes (s.rd (R.YPL_KERNEL n))) ++
      (List.range 256).flatMap (fun n => wBytes (s.rd (R.YPL_INV n))) ++ wBytes (s.rd R.YPL_LAMBDA) ++
      wBytes (s.rd R.YPL_INV_TRUNC)) s))

/-! ### Tile reading, export and weighing -/

/-- The 16 bytes of a cell (R183). -/
def YplCell.bytes (c : YplCell) : List Byte :=
  wBytes (iword c.mass) ++ leBytes 4 c.area ++ wBytes (iword c.moist) ++ leBytes 2 c.pass ++ [byte c.count, byte c.flags]

/-- The slots of a tile's non-empty cells, three to a slot (R194). -/
def yplTileSlots : Nat → List YplCell → List (List Byte)
  | 0, _ => []
  | n + 1, cs =>
    let a := cs.take 3
    let last := decide (cs.length ≤ 3)
    let x := padTo 6 (a.flatMap (fun c => leBytes 2 ((c.j % 256) * 256 + c.i % 256).toNat)) ++
      [byte a.length, byte (b2n last)] ++ leBytes 8 0 ++ padTo 48 (a.flatMap YplCell.bytes)
    x :: (if last then [] else yplTileSlots n (cs.drop 3))

/-- The open field, or a stored one, with an ID. -/
def State.yplFind (s : State) (id : Nat) : Option YplField :=
  match s.ypl.field with
  | some f => if f.id = id then some f else s.ypl.stored.find? (fun g => g.id == id)
  | none => s.ypl.stored.find? (fun g => g.id == id)

/-- YPL_TILE_READ (R194, R560). -/
def execYplTileRead (c : Cmd) (s : State) : Host.Outcome State Fault Refusal :=
  s.runIn .ypl (fun s => s.command fYPL 0x15 0 c (fun k s =>
    let p := c.payload
    let t : Int × Int := (i16 p 0, i16 p 2)
    if p.length != 9 then refuse stBAD_LENGTH s
    else
      match s.yplFind (u32 p 4) with
      | none => refuse stBAD_PARAM s
      | some f =>
        let key (c : YplCell) : Int := (c.j % 256) * 256 + c.i % 256
        let cs := sortBy (fun a b => decide (key a < key b)) (f.cells.filter (fun c => yplTile (c.i, c.j) == t))
        if cs.isEmpty then refuse stBAD_PARAM s
        else ringReply s (s.openRing k fYPL 0 0 (u8 p 8) true (yplTileSlots cs.length cs))))

/-- The value R191 exports for a cell: dry yield at standard moisture in mg/m². -/
def yplExportCell (f : YplField) (std : Nat) (excl : Bool) (c : Option YplCell) : Nat × Nat :=
  match c with
  | none => (0, 0)
  | some c =>
    if c.mass < 0 || c.area = 0 || (excl && !f.covered c) then (0, 0)
    else
      let y := if 10000 ≤ std then (Config.divByZero c.mass).toNat
        else c.mass.toNat * 100000000000 / ((10000 - std) * c.area)
      let m := if c.mass = 0 then (Config.divByZero c.moist).toNat else (c.moist / c.mass).toNat
      (y, 100 * m)

/-- The smallest rectangle of cells that holds a field's: its south-west cell, its columns and its rows. -/
def YplField.extent (f : YplField) : Int × Int × Nat × Nat :=
  match f.cells with
  | [] => (0, 0, 0, 0)
  | c0 :: _ =>
    let lo (g : YplCell → Int) : Int := f.cells.foldl (fun a c => min a (g c)) (g c0)
    let hi (g : YplCell → Int) : Int := f.cells.foldl (fun a c => max a (g c)) (g c0)
    let i0 := lo (fun c => c.i)
    let j0 := lo (fun c => c.j)
    (i0, j0, (hi (fun c => c.i) - i0 + 1).toNat, (hi (fun c => c.j) - j0 + 1).toNat)

/-- TASKDATA.XML of a field (R191): one grid of GridType 2, the module grid converted to degrees at φ0, in 10^-16
degree. -/
def yplTaskData (f : YplField) (opts : Nat) : List Byte :=
  let k := yplPlane f.lat
  let x := f.extent
  let deg (n : Int) (k : Int) : Int := n * yplEdge f * (10 ^ 9 * 2 ^ 40 : Nat) / k
  Config.taskData f.id 2 (f.lat * (10 ^ 9 : Nat) + deg x.2.1 k.2, f.lon * (10 ^ 9 : Nat) + deg x.1 k.1)
    (deg 1 k.2, deg 1 k.1) (x.2.2.2, x.2.2.1) opts

/-- The binary grid file of a field: the cells of the smallest rectangle, south-west corner first, row by row. -/
def yplGridFile (f : YplField) (std : Nat) (excl moist : Bool) : List Byte :=
    let x := f.extent
    let i0 := x.1
    let j0 := x.2.1
    let ni := x.2.2.1
    let nj := x.2.2.2
    (List.range nj).flatMap (fun (j : Nat) => (List.range ni).flatMap (fun (i : Nat) =>
      let v := yplExportCell f std excl (f.cell? (i0 + i, j0 + j))
      leBytes 4 v.1 ++ (if moist then leBytes 4 v.2 else [])))

/-- YPL_EXPORT (R191, R194): the files are built while the command runs. -/
def execYplExport (c : Cmd) (s : State) : Host.Outcome State Fault Refusal :=
  s.runIn .ypl (fun s => s.command fYPL 0x16 0 c (fun _ s =>
    let p := c.payload
    if p.length != 5 then refuse stBAD_LENGTH s
    else
      match s.yplFind (u32 p 0) with
      | none => refuse stBAD_PARAM s
      | some f =>
        if (s.ypl.field.map (fun g => g.id)) = some f.id then refuse stWRONG_STATE s
        else
          let std := fld (s.yplW (R.YPL_CROP f.crop)) 15 0
          let grid := yplGridFile f std (u8 p 4 % 2 = 1) (u8 p 4 / 2 % 2 = 1)
          let xml := yplTaskData f (u8 p 4)
          let t := s.setYpl (fun y => { y with files := [xml, grid] })
          t.classC fYPL 0x0916 c stOK (leBytes 2 2 ++ leBytes 2 0 ++ leBytes 4 (xml.length + grid.length))))

/-- YPL_EXPORT_READ (R194, R560). -/
def execYplExportRead (c : Cmd) (s : State) : Host.Outcome State Fault Refusal :=
  s.runIn .ypl (fun s => s.command fYPL 0x17 0 c (fun k s =>
    if c.payload.length != 1 then refuse stBAD_LENGTH s
    else ringReply s (s.openRing k fYPL 1 0 (u8 c.payload 0) true (exportSlots s.ypl.files))))

/-- YPL_WEIGH (R194): a mark, or the calibration of the flow gain by a weighed mass. -/
def execYplWeigh (c : Cmd) (s : State) : Host.Outcome State Fault Refusal :=
  s.runIn .ypl (fun s => s.command fYPL 0x18 1 c (fun _ s =>
    let p := c.payload
    if p.length != 8 then refuse stBAD_LENGTH s
    else if 1 < u8 p 0 then refuse stBAD_PARAM s
    else if u8 p 0 = 0 then
      (.now stOK (wBytes (s.rd R.YPL_FLOW_GAIN)), s.setYpl (fun y => { y with weigh := some 0 }))
    else
      match s.ypl.weigh with
      | none => refuse stBAD_PARAM s
      | some mw =>
        let g : Int := ((u32 p 4 * 1000 : Nat) : Int)
        if mw ≤ 0 || 100 * g < 80 * mw || 125 * mw < 100 * g then refuse stBAD_PARAM s
        else
          let t := s.wr R.YPL_FLOW_GAIN (iword (divFree ((s.rd R.YPL_FLOW_GAIN).toNat * g) mw))
          (.now stOK (wBytes (t.rd R.YPL_FLOW_GAIN)), t)))

/-! ### Status, configuration, start and stop -/

/-- YPL_GET_STATUS after the common bytes (R194). -/
def State.yplStatus (s : State) : List Byte :=
  [byte s.yplField, byte (s.fd R.YPL_STATUS 3 2)] ++ leBytes 2 (s.fd R.YPL_STATUS 31 16) ++ wBytes (s.rd R.YPL_FIELD_ID) ++
  wBytes (s.rd R.YPL_TILES) ++ wBytes (s.rd R.YPL_MB_RESID) ++ wBytes (s.rd R.YPL_MB_RESID_FRAC) ++ wBytes (s.rd R.YPL_STATUS)

/-- The configuration words of a CONFIGURE payload with their registers (R193). -/
def yplCfgWords (p : List Byte) : List (Nat × Word) :=
  (List.range 16).map (fun k => (R.YPL_FLOW_CFG + 4 * k, w32 p (4 * k))) ++
  (List.range 24).map (fun k => (R.YPL_SEC_W 0 + 4 * k, w32 p (64 + 4 * k)))

/-- CONFIGURE of YPL (R193): BAD_PARAM for a value outside the ranges of the map, and of R167 for the flow's HOLD. -/
def yplCfgCheck (p : List Byte) : Nat :=
  if p.length != 160 then stBAD_LENGTH
  else
    let w (a : Nat) : Word := w32 p (a - 0x100)
    let into (x : Word) (hi lo a b : Nat) : Bool := a ≤ fld x hi lo && fld x hi lo ≤ b
    if into (w 0x100) 15 10 0 50 && into (w 0x108) 15 9 0 100 && into (w 0x118) 14 10 1 16 && into (w 0x12C) 3 0 1 8 && into (w 0x13C) 9 0 10 600
      && inMap (yplCfgWords p)
    then stOK else stBAD_PARAM

/-- APPLY of YPL (R193): strobes UG10 once. -/
def State.yplApply (s : State) (p : List Byte) : State :=
  let t := (yplCfgWords p).foldl (fun (t : State) e => t.shadowWr e.1 10 e.2) s
  (t.applyShadow 10).yplAfterUg10

/-- START of YPL: samples, footprints and readings begin anew. -/
def State.yplStart (s : State) : State :=
  s.setYpl (fun y => { y with
    cfg := yplInputRegs.map (fun a => (a, s.rd a)), doneCfg := [], flowSum := 0, flowCnt := 0, doneSum := 0, doneCnt := 0, poses := [],
    moistR := [], hist := [], hdr := false, hdrBad := 0, lastFlow := 0, flowBad := 0, lastMoist := 0, moistBad := 0,
    worked := false, lastTick := none, fps := [] })

/-- STOP of YPL (R185, R190): a checkpoint; the field is left as it recorded it. -/
def State.yplStop (s : State) : State :=
  let t := (s.yplCheckpoint).yplDropField
  let t := if t.fd R.YPL_STATUS 3 2 != 0 then t.yplCalEnd 4 else t
  (t.setYpl (fun y => { y with fps := [], lastTick := none, weigh := none })).dropSigs 0xC0 0x20

/-- What survives a REINIT or a reset of YPL: stored fields, the applied kernel and the export area (R190). -/
def State.yplReinit (s : State) : State :=
  let y := s.ypl
  let t := { s.dropSigs 0xC0 0x20 with ypl := { stored := y.stored, cfgKernel := y.cfgKernel, files := y.files } }
  match y.cfgKernel with
  | none => t
  | some (k, l) => ((t.yplWrTaps (R.YPL_KERNEL 0) k).wr R.YPL_LAMBDA (word l)).yplApplyKernel

end Sys2Proof.Machine
end

