-- ==== Sys2Proof/Machine/Pair.lean ====
section
/-!
DEFINITION. The redundant pair (chapter 20, R555): beacons, grants, who acts, the state copy, return and swap.
-/
namespace Sys2Proof.Machine

/-- Function ID of the pair. -/
def fPAIR : Nat := 0x11

/-- Changes the pair. -/
def State.setPair (s : State) (f : Pair → Pair) : State := { s with pair := f s.pair }

/-- Whether Dome is in READY, RUN or DEGRADED (R16). -/
def State.domeUp (s : State) : Bool := s.dome == 2 || s.dome == 3 || s.dome == 4

/-- Whether the link is up. -/
def State.pairLink (s : State) : Bool := s.bt R.PAIR_STATUS 9

/-- Whether a time that may be absent lies within `d` TB units. -/
def State.within (s : State) (t : Option Nat) (d : Nat) : Bool :=
  match t with
  | some x => decide (s.clk.tb < x + d)
  | none => false

/-- Whether the unit's own guard has ended (R454). -/
def State.pairFree (s : State) : Bool :=
  match s.pair.guard with
  | some t => t ≤ s.clk.tb
  | none => true

/-- The authority under which the unit may act, as the state and the cause shown (R455). -/
def State.pairAuth (s : State) : Option (Nat × Nat) :=
  let p := s.pair
  if !p.en || p.clash || !s.domeUp || s.pwr.shed then none
  else
    let leased := match p.lease with
      | some l => if s.clk.tb < l.1 && (p.acting || s.pairFree) then some l.2 else none
      | none => none
    match leased with
    | some c => some (2, c)
    | none =>
      let dead := s.fd R.PAIR_STATUS 8 7 == 1
      if s.pairFree && (dead || (p.acting && s.within p.leftDead (tbMs 20))) then
        let since := p.deadAt.getD s.clk.tb
        let solo := dead && s.tbPast since (tbMs 200) && (match p.grant with
          | some g => decide (g < since)
          | none => true)
        some (if solo then 3 else 2, 2)
      else if !p.role && s.pairFree && !s.bt R.PAIR_STATUS 17 && s.tbPast (max p.readyAt (p.hold.getD 0)) (tbMs 25) then
        some (4, 3)
      else none

/-- PAIR_PATH where its content has changed (R457, R465). -/
def State.pairPath (s : State) : State :=
  let w := s.rd R.PAIR_STATUS
  let a := fld w 10 9
  let b := fld w 8 7
  let c := b2n (bit w 17) + 2 * b2n (bit w 16) + 4 * b2n (bit w 18)
  if s.pair.path = (a, b, c) then s
  else (s.notify fPAIR 0x81 [byte a, byte b, byte c, 0#8]).setPair (fun p => { p with path := (a, b, c) })

/-- Shows state, role, cause and lease. -/
def State.pairShow (s : State) (st cause : Nat) : State :=
  let s := ((s.wf_ R.PAIR_STATUS 2 0 st).wf_ R.PAIR_STATUS 6 4 cause).wb R.PAIR_STATUS 3 s.pair.role
  (s.wb R.PAIR_STATUS 11 (match s.pair.lease with
    | some l => decide (s.clk.tb < l.1)
    | none => false)).setPair (fun p => { p with shown := st })

/-! ### The state copy -/

/-- CRC-32C of the applied configuration of MER, ADR, PSW, CST, YPL and AST (R458). -/
def State.pairCfgCrc (s : State) : Word :=
  crc32c ([fMER, fADR, fPSW, fCST, fYPL, fAST].flatMap (fun f => ((s.fn f).applied).getD []))

/-- Cells changed since the last boundary become deltas (R459). -/
def State.pairNewDeltas (s : State) : State :=
  let cs : List YplCell := match s.ypl.field with
    | some f => s.ypl.changed.filterMap (fun k => f.cells.find? (fun c => c.i == k.1 && c.j == k.2))
    | none => []
  let ds : List PairDelta := (cs.zip (List.range cs.length)).map (fun e =>
    { seq := s.pair.seqOut + 1 + e.2, i := e.1.i, j := e.1.j, mass := e.1.mass, area := e.1.area, moist := e.1.moist,
      pass := e.1.pass, count := e.1.count, flags := e.1.flags })
  (s.setYpl (fun y => { y with changed := [] })).setPair (fun p => { p with
    deltas := p.deltas ++ ds, seqOut := p.seqOut + ds.length })

/-- The Yield Plate part of the copy; absent in PLANT (R458). -/
def State.pairYplPart (s : State) : Option PairYpl :=
  if s.plant then none
  else
    let f : YplField := s.ypl.field.getD { id := 0, lat := 0, lon := 0, crop := 0, grid := 0#32 }
    some { state := s.yplField, id := f.id, lat := f.lat, lon := f.lon, crop := f.crop, grid := f.grid, pass := f.pass,
           sensor := f.sensor, unattr := f.unattr, area := f.area, seq := s.pair.seqOut, deltas := s.pair.deltas.take 935 }

/-- The copy gathered at a boundary (R458). -/
def State.pairGather (s : State) : PairCopy :=
  let y := s.pairYplPart
  let n := match y with
    | some y => 64 + 16 * y.deltas.length
    | none => 0
  { cycle := s.pair.cycle, tb := s.clk.tb, len := 9536 + n, cfg := s.pairCfgCrc, ok := true,
    mer := (List.range 64).map (fun m =>
      let x := s.slot m
      { sp := s.rd (R.MER_SP m), i16 := x.i16, u := x.uPrev, clip := x.clip, r := x.rEff, fresh := x.fresh }),
    adr := (List.range 48).map (fun n =>
      let c := s.ch n
      { cmd := s.rd (R.ADR_CH_CMD n), trim := s.rd (R.ADR_CH_TRIM n), est := c.est, sccnt := c.sccnt, latch := c.latched,
        queue := (c.queue.take 4).map (fun e => (e.start, e.dur)) }),
    psw := (List.range 16).map (fun n =>
      let c := s.sw n
      { mode := s.fd (R.PSW_CH_CFG n) 1 0, duty := s.rd (R.PSW_CH_DUTY n), rcnt := c.rcnt, ocl := c.ocl, th := c.th,
        back := c.due.map (fun t => t - s.clk.tb) }),
    cst := { mode := s.fd R.CST_CTRL 1 0, phase := s.cstPhase, k := s.cst.k,
             mfs := (List.range 32).map (fun i => (s.cstU i, s.bt R.CST_OVR i, s.rd (R.CST_MF_OVV i))) },
    ast := (s.ast.tracks.take 256).map (fun t =>
      let g (i : Nat) : Int := ratInt (t.x.getD i 0)
      let best := argMax (fun c => c) (t.cls.map (fun r => ratInt (r * 65536)))
      { slot := t.slot, id := t.id, cls := best, x := g 0, y := g 1, vx := g 2, vy := g 3, len := t.len, wid := t.wid }),
    ypl := y }

/-- The acting unit sends its copy over the link (R458, R459). -/
def State.pairSendCopy (s : State) : State :=
  let s := s.pairNewDeltas
  if !s.pairLink then s
  else
    let c := s.pairGather
    let s := { s with out := s.out ++ [OutMsg.copy c] }
    ((s.wr R.PAIR_COPY_SEQ (word c.cycle)).wr R.PAIR_COPY_AGE 0#32).wr R.PAIR_COPY_LEN
      (word (c.len + 65536 * min 65535 (s.pair.deltas.length - 935)))

/-- Loads the Meridian part of a copy (R210, R460). -/
def State.pairLoadMer (s : State) (l : List PairMer) : State :=
  (l.zip (List.range 64)).foldl (fun (s : State) e =>
    let s := s.wr (R.MER_SP e.2) e.1.sp
    if s.bt (R.MER_CFG e.2) 0 then
      (s.merTakeover e.2 e.1.i16 e.1.u).setSlot e.2 (fun x => { x with clip := e.1.clip, rEff := e.1.r, fresh := e.1.fresh })
    else s) s

/-- Loads the actuator part (R458). -/
def State.pairLoadAdr (s : State) (l : List PairAdr) : State :=
  (l.zip (List.range 48)).foldl (fun (s : State) e =>
    let s := (s.wr (R.ADR_CH_CMD e.2) e.1.cmd).wr (R.ADR_CH_TRIM e.2) e.1.trim
    (s.setCh e.2 (fun c => { c with
      est := e.1.est, estAt := s.clk.tb, sccnt := e.1.sccnt, latched := e.1.latch,
      queue := e.1.queue.map (fun q => { start := q.1, dur := q.2 }) })).adrShow e.2) s

/-- Loads the load-switch part (R458). -/
def State.pairLoadPsw (s : State) (l : List PairPsw) : State :=
  ((l.zip (List.range 16)).foldl (fun (s : State) e =>
    let s := (s.wf_ (R.PSW_CH_CFG e.2) 1 0 e.1.mode).wr (R.PSW_CH_DUTY e.2) e.1.duty
    s.setSw e.2 (fun c => { c with
      cfg := s.rd (R.PSW_CH_CFG e.2), rcnt := e.1.rcnt, ocl := e.1.ocl, th := e.1.th,
      due := e.1.back.map (fun t => s.clk.tb + t) })) s).pswShowAll

/-- Loads the Coelostat part: the block is discarded, a HOLD begins (R161). -/
def State.pairLoadCst (s : State) (x : PairCst) : State :=
  let s := (s.wf_ R.CST_CTRL 1 0 x.mode).setCst (fun c => { c with k := x.k })
  let s := (x.mfs.zip (List.range 32)).foldl (fun (s : State) e =>
    ((s.setU e.2 e.1.1).wb R.CST_OVR e.2 e.1.2.1).wr (R.CST_MF_OVV e.2) e.1.2.2) s
  s.cstHold

/-- Loads the track summary (R372). -/
def State.pairLoadAst (s : State) (l : List PairTrk) : State :=
  s.setAst (fun a => { a with
    tracks := l.map (fun t => astResume t.slot t.id t.cls t.x t.y t.vx t.vy t.len t.wid s.clk.tb),
    nextId := l.foldl (fun n t => max n (t.id + 1)) a.nextId })

/-- Loads the Yield Plate header; the cells are the deltas mapped so far (R459). -/
def State.pairLoadYpl (s : State) (y : Option PairYpl) : State :=
  match y with
  | none => s
  | some y =>
    let s := s.yplStart
    if y.state = 0 then s.yplDropField
    else
      let cs : List YplCell := s.pair.cells.map (fun d =>
        { i := d.i, j := d.j, mass := d.mass, area := d.area, moist := d.moist, pass := d.pass, count := d.count,
          flags := d.flags })
      let f : YplField := { id := y.id, lat := y.lat, lon := y.lon, crop := y.crop, grid := y.grid, cells := cs,
                            pass := y.pass, sensor := y.sensor, unattr := y.unattr, area := y.area }
      ((s.setYpl (fun q => { q with field := some f, openReq := none, ckptAt := s.clk.tb, alarm := false })).wf_
        R.YPL_STATUS 1 0 y.state).wf_ R.YPL_STATUS 31 16 y.pass

/-- The state that the applied configuration gives at START, for a start of acting without a copy (R461). -/
def State.pairCold (s : State) : State :=
  let s := (List.range 64).foldl (fun (s : State) m => if s.bt (R.MER_CFG m) 0 then s.merSlotStart m else s) s
  let s := (List.range 48).foldl (fun (s : State) n =>
    ((((s.wr (R.ADR_CH_CMD n) 0#32).wr (R.ADR_CH_TRIM n) 0#32)).setCh n (fun c => { c with
      queue := [], armed := false, wait := none, est := none, estAt := s.clk.tb })).adrShow n) s
  let ap := (s.fn fPSW).applied
  let own (a : Nat) : Word := match ap with
    | some [] => regReset a
    | some p => ((pswCfgWords p).lookup a).getD (s.rd a) &&& maskAt a
    | none => s.rd a
  let s := (List.range 16).foldl (fun (s : State) n =>
    let s := (s.wr (R.PSW_CH_CFG n) (own (R.PSW_CH_CFG n))).wr (R.PSW_CH_DUTY n) (own (R.PSW_CH_DUTY n))
    s.setSw n (fun c => { c with cfg := s.rd (R.PSW_CH_CFG n), rcnt := 0, ocl := false, th := false, due := none, pend := false })) s
  let s := s.pswShowAll.wr R.CST_OVR 0#32
  let s := (List.range 32).foldl (fun (s : State) i =>
    if s.cstUsed i then s.setU i (s.cstClip i (s.rd (R.CST_MF_INIT i)).toInt) else s) s
  let s := (s.cstHold).setAst (fun a => { a with tracks := [] })
  if s.plant then s else s.yplStart.yplDropField

/-! ### Acting -/

/-- Event and notification of a change of acting (R456). -/
def State.pairNote (s : State) (st cause prev : Nat) : State :=
  (s.postRaw Ev.pairActing.code fPAIR Ev.pairActing.sev [word cause]).notify fPAIR 0x80 [byte st, byte cause, byte prev, 0#8]

/-- The unit starts acting at a boundary (R460, R461): copy or START state loaded, gate opened. -/
def State.pairEnter (s : State) (st cause : Nat) : State :=
  let prev := s.pair.shown
  let diff := s.bt R.PAIR_STATUS 18
  let s := s.setPair (fun p => { p with acting := true, gate := true, offAt := none, healthyAt := none })
  let s := match s.pair.copy, diff with
    | some c, false =>
      (((((s.pairLoadMer c.mer).pairLoadAdr c.adr).pairLoadPsw c.psw).pairLoadCst c.cst).pairLoadAst c.ast).pairLoadYpl c.ypl
    | _, _ =>
      let t := s.pairCold.wb R.PAIR_STATUS 19 true
      t.postRaw Ev.pairNoCopy.code fPAIR Ev.pairNoCopy.sev [word (b2n diff)]
  let s := (s.inc R.PAIR_TAKEOVERS).wr64 R.PAIR_LAST_TB_LO R.PAIR_LAST_TB_HI s.clk.tb
  let s := ((s.wb R.PAIR_STATUS 14 false).wb R.PAIR_STATUS 15 false).pairShow st cause
  ((s.pairNote st cause prev).adrEnables).pswEnables

/-- The unit stops acting (R456): the gate closes on that edge. `cause` is 4 or 5 in a handover. A PRIMARY that loses the role
otherwise arms REVERT_PEND (R463). The cells that stand are those of its own map, and the sequence of deltas is taken anew (R459). -/
def State.pairLeave (s : State) (cause : Nat) : State :=
  let prev := s.pair.shown
  let s := s.setPair (fun p => { p with
    acting := false, gate := false, offAt := some s.clk.tb, healthyAt := none, handover := cause, resync := true,
    cells := match s.ypl.field with
      | some f => f.cells.map (fun c =>
          { seq := 0, i := c.i, j := c.j, mass := c.mass, area := c.area, moist := c.moist, pass := c.pass, count := c.count,
            flags := c.flags })
      | none => p.cells,
    cellsId := match s.ypl.field with
      | some f => some f.id
      | none => p.cellsId })
  let s := if !s.pair.role && cause = 0 then s.wb R.PAIR_STATUS 14 true else s
  ((((s.pairShow (if s.pair.en then 1 else 0) cause).pairNote 1 cause prev).adrEnables).pswEnables)

/-- An acting unit without authority stops; one with authority shows it (R455). -/
def State.pairCheck (s : State) : State :=
  if !s.pair.acting then s
  else
    match s.pairAuth with
    | none => s.pairLeave 0
    | some (st, c) => s.pairShow st c

/-! ### Beacons -/

/-- A beacon or grant (R453). -/
def State.pairFrame (s : State) (kind term ans : Nat) : List Byte :=
  let w := s.rd R.PAIR_STATUS
  let b := [byte kind, byte (b2n s.pair.role + 2 * fld w 2 0 + 16 * b2n (bit w 12) + 32 * b2n (bit w 15)), 0#8, 0#8] ++
    leBytes 4 s.pair.cycle ++ leBytes 2 term ++ leBytes 2 ans
  b ++ wBytes (crc32c b)

/-- The kind of the unit's own beacons (R453, R455, R456). -/
def State.pairKind (s : State) : Nat :=
  if s.pair.acting || s.bt R.PAIR_STATUS 16 then 1
  else if s.pair.role || s.pwr.shed || !s.domeUp || s.pair.clash then 0
  else 2

/-- Sends a frame on the link (while it is up) or on CAN. -/
def State.pairPut (s : State) (can : Bool) (p : List Byte) : State :=
  if can then
    if !s.pair.canEn then s
    else
      s.canPush s.pair.canCtl { src := 1, ident := s.fd R.PAIR_CAN_ID 28 0 + b2n s.pair.role, xtd := s.bt R.PAIR_CAN_ID 29,
                                fdf := true, brs := false, data := p, at_ := s.clk.tb }
  else if s.pairLink then { s with out := s.out ++ [.bytes .pairLink 0 p] } else s

/-- Sends the unit's beacon on a path and remembers one that may draw a grant. A standby's link beacon carries the delta sequence it
acknowledges (R459), behind the frame of R453. -/
def State.pairBeacon (s : State) (can : Bool) : State :=
  let k := s.pairKind
  let t := s.pairPut can (s.pairFrame k 0 0 ++ (if can || s.pair.acting then [] else leBytes 4 s.pair.seqIn))
  if k = 0 then t
  else t.setPair (fun p => { p with sent := ({ can := can, cyc := s.pair.cycle % 65536, tb := s.clk.tb } :: p.sent).take 32 })

/-- The guard after a grant of `term` or a HOLD beacon at this time (R454). -/
def State.pairGuard (s : State) (term : Nat) : State :=
  s.setPair (fun p => { p with guard := some (max (p.guard.getD 0) (s.clk.tb + term + tbMs 1)) })

/-- The answer to a HOLD or REQ beacon (R454). -/
def State.pairGrant (s : State) (can : Bool) (ans : Nat) : State :=
  if !s.domeUp || s.pair.acting || s.pair.clash then s
  else
    let term := if !can then 50 else if s.within s.pair.linkAt (tbMs 2) then 0 else 200
    let s := s.pairPut can (s.pairFrame s.pairKind term ans)
    if term = 0 then s else s.pairGuard (5000 * term)

/-- A lease granted on a path for the beacon of cycle `ans` (R454). -/
def State.pairLeased (s : State) (can : Bool) (term ans : Nat) : State :=
  match s.pair.sent.find? (fun e => e.can == can && e.cyc == ans) with
  | none => s
  | some e =>
    let x := e.tb + 5000 * term
    (s.setPair (fun p => { p with
      grant := some s.clk.tb,
      lease := match p.lease with
        | some l => some (max l.1 x, l.2)
        | none => some (x, 1) })).wb R.PAIR_STATUS 11 (s.clk.tb < x)

/-- A frame of the peer (R451 to R455, R464). `ack` is the delta sequence that a link beacon acknowledges (R459). -/
def State.pairRx (s : State) (can : Bool) (p : List Byte) (ack : Option Nat) : State :=
  if !s.pair.en then s
  else if p.length < 16 || crc32c (p.take 12) != w32 p 12 then s.inc (if can then R.PAIR_CAN_MISS else R.PAIR_LINK_DOWN)
  else
    let b := u8 p 1
    if nbit b 0 == s.pair.role then
      let s := (s.wb R.PAIR_STATUS 17 true).setPair (fun q => { q with clash := true })
      (if s.pair.acting then s.pairLeave 0 else s).pairPath
    else
      let kind := u8 p 0
      let cyc := u32 p 4
      let term := u16 p 8
      let s := s.wb R.PAIR_STATUS 13 (nbit b 4)
      let s := if can then s.wb R.PAIR_STATUS 10 true else s
      let s := s.setPair (fun q => { q with
        linkAt := if can then q.linkAt else some s.clk.tb,
        canAt := if can then some s.clk.tb else q.canAt,
        peerRevert := nbit b 5,
        deltas := match ack with
          | some a => q.deltas.filter (fun d => a < d.seq)
          | none => q.deltas })
      let s := if kind = 1 then
          let s := (s.setPair (fun q => { q with hold := some s.clk.tb })).pairGuard 0
          if !s.pair.acting then s
          else if s.pair.role then s.pairLeave 0
          else s.wb R.PAIR_STATUS 17 true
        else s
      let s := if kind = 3 then
          if s.pair.acting then s
          else
            let x := s.clk.tb + 5000 * term
            let c := if s.bt R.PAIR_STATUS 15 then 5 else 4
            (s.setPair (fun q => { q with guard := none, grant := some s.clk.tb, lease := some (x, c) })).wb R.PAIR_STATUS 11 true
        else if 0 < term then s.pairLeased can term (u16 p 10)
        else s
      (if kind = 1 || kind = 2 then s.pairGrant can (cyc % 65536) else s).pairPath

/-- PAIR_BEACON_RX (R453, R454): a beacon or grant on the link or CAN. -/
def execPairBeaconRx (can : Bool) (p : List Byte) (ack : Option Nat) (s : State) : Host.Outcome State Fault Refusal :=
  s.runIn (Foot.pair.and [.adr, .can, .psw] [.adb, .adr, .psw]) (fun s => s.pairRx can p ack)

/-- PAIR_CAN_BEACON (R453): every 5 ms. -/
def execPairCanBeacon (s : State) : Host.Outcome State Fault Refusal :=
  s.runIn (Foot.pair.and [.can] []) (fun s =>
    if s.pair.en && s.pair.canEn && s.pair.canNext ≤ s.clk.tb then
      (s.pairBeacon true).setPair (fun p => { p with canNext := s.clk.tb + tbMs 5 })
    else s)

/-! ### Conditions that end -/

/-- PAIR_LEASE_EXPIRY (R455, R457). -/
def execPairLeaseExpiry (s : State) : Host.Outcome State Fault Refusal :=
  s.runIn (Foot.pair.and [.adr, .psw] [.adb, .adr, .psw]) (fun s =>
    match s.pair.lease with
    | none => s
    | some l =>
      if s.clk.tb < l.1 then s
      else
        let s := ((s.setPair (fun p => { p with lease := none })).inc R.PAIR_LEASE_LAPSE).wb R.PAIR_STATUS 11 false
        s.pairCheck.pairPath)

/-- PAIR_GUARD_END (R454): the guard has ended; the next boundary decides. -/
def execPairGuardEnd (s : State) : Host.Outcome State Fault Refusal :=
  s.runIn .pair (fun s => if s.pairFree then s.setPair (fun p => { p with guard := none }) else s)

/-- The state of the PAIR_ALIVE line at a voltage (R555): 0 ALIVE, 1 DEAD, 2 OPEN, 3 SHORT; none in a gap. -/
def aliveAt (mv : Nat) : Option Nat :=
  if mv < 300 || 5500 < mv then some 3
  else if 500 ≤ mv && mv ≤ 1300 then some 1
  else if 2000 ≤ mv && mv ≤ 3000 then some 0
  else if 4000 ≤ mv then some 2
  else none

/-- PAIR_ALIVE_CHANGE (R452, R555): the line has stood at `mv` since TB `since`. -/
def execPairAliveChange (mv since : Nat) (s : State) : Host.Outcome State Fault Refusal :=
  s.runIn .pair (fun s =>
    match aliveAt mv with
    | none => s
    | some st =>
      let old := s.fd R.PAIR_STATUS 8 7
      if st = old || !s.tbPast since (tbMs 1) then s
      else
        let s := (s.wf_ R.PAIR_STATUS 8 7 st).setPair (fun p => { p with
          deadAt := if st = 1 then some s.clk.tb else none,
          leftDead := if old = 1 then some s.clk.tb else p.leftDead })
        s.pairPath)

/-- PAIR_PEER_DEAD_END (R455): t_lease_C after the peer left DEAD. -/
def execPairPeerDeadEnd (s : State) : Host.Outcome State Fault Refusal :=
  s.runIn .pair (fun s =>
    match s.pair.leftDead with
    | none => s
    | some t => if s.clk.tb < t + tbMs 20 then s else s.setPair (fun p => { p with leftDead := none }))

/-- PAIR_PARTITION_TIMEOUT (R455): t_part without a HOLD beacon has passed; an acting unit shows its authority. -/
def execPairPartitionTimeout (s : State) : Host.Outcome State Fault Refusal :=
  s.runIn (Foot.pair.and [.adr, .psw] [.adb, .adr, .psw]) (fun s =>
    if !s.pair.role && s.tbPast (max s.pair.readyAt (s.pair.hold.getD 0)) (tbMs 25) then s.pairCheck.pairPath else s)

/-- PAIR_SOLO_TIMEOUT (R455): the peer has been DEAD for t_solo without a grant. -/
def execPairSoloTimeout (s : State) : Host.Outcome State Fault Refusal :=
  s.runIn (Foot.pair.and [.adr, .psw] [.adb, .adr, .psw]) (fun s =>
    match s.pair.deadAt with
    | none => s
    | some t => if s.tbPast t (tbMs 200) then s.pairCheck.pairPath else s)

/-- PAIR_LINK_CHANGE (R457): the PAIR link goes down or comes up. -/
def execPairLinkChange (up : Bool) (s : State) : Host.Outcome State Fault Refusal :=
  s.runIn .pair (fun s =>
    if s.pairLink = up then s
    else
      let s := s.wb R.PAIR_STATUS 9 up
      let s := if up then s else (s.inc R.PAIR_LINK_DOWN).wb R.PAIR_STATUS 12 false
      (s.setPair (fun p => { p with healthyAt := if up then p.healthyAt else none })).pairPath)

/-! ### The boundary -/

/-- HEALTHY at a boundary (R462). -/
def State.pairHealthy (s : State) : State :=
  let h := s.dome == 3 && !s.fns.any (fun f => f.state == .faulted) && !s.bt R.PAIR_STATUS 18 && s.pairLink &&
    (s.rd R.PAIR_COPY_AGE).toNat ≤ 2
  let stby := h && !s.pair.acting
  (s.wb R.PAIR_STATUS 12 h).setPair (fun p => { p with
    healthyAt := if !stby then none else match p.healthyAt with
      | some t => some t
      | none => some s.clk.tb })

/-- A handover without a working link and a HEALTHY peer does not take place; PAIR_SWAP answers WRONG_STATE (R464, R465). -/
def State.pairCancel (s : State) : State :=
  let sw := s.pair.swap
  let s := s.setPair (fun p => { p with handover := 0, swap := none })
  match sw with
  | some (k, c) => s.answer k 0x1110 c stWRONG_STATE []
  | none => s

/-- A pair-cycle boundary after UG15 was applied (R453, R455, R458, R463, R464). -/
def State.pairBoundary (s : State) : State :=
  if !s.pair.en then s
  else
    let s := s.setPair (fun p => { p with cycle := (p.cycle + 1) % 4294967296 })
    let age := (s.rd R.PAIR_COPY_AGE).toNat
    let s := if s.pair.acting then s else s.wr R.PAIR_COPY_AGE (word (min 0xFFFFFFFF (age + 1)))
    let s := s.wb R.PAIR_STATUS 10 (s.within s.pair.canAt Config.pairCanTimeout)
    let s := if s.pair.acting then s.pairCheck
      else match s.pairAuth with
        | some (st, c) => s.pairEnter st c
        | none => s.pairShow 1 (s.fd R.PAIR_STATUS 6 4)
    let s := if s.pair.acting && s.pair.role && s.pair.peerRevert && s.pairLink && s.bt R.PAIR_STATUS 13 && s.pair.handover = 0 then
        s.setPair (fun p => { p with handover := 5 })
      else s
    let s := if s.pair.acting then s.pairSendCopy else s
    let s := if !(s.pair.acting && s.pair.handover != 0) then s
      else if s.pairLink && s.bt R.PAIR_STATUS 13 then s.pairLeave s.pair.handover
      else s.pairCancel
    let blind := s.pair.role && !s.pair.acting && 2 ≤ s.fd R.PAIR_STATUS 8 7 && !s.within s.pair.linkAt (tbMs 25) &&
      !s.within s.pair.canAt (tbMs 25)
    let s := if blind && !s.pair.blind then
        let w := s.rd R.PAIR_STATUS
        (s.post fPAIR .pairBlind).notify fPAIR 0x81 [byte (fld w 10 9), byte (fld w 8 7),
          byte (b2n (bit w 17) + 2 * b2n (bit w 16) + 4 * b2n (bit w 18)), 0#8]
      else s
    let s := s.setPair (fun p => { p with blind := blind })
    (s.pairHealthy.pairBeacon false).pairPath

/-- PAIR_COPY_RX (R459, R462). -/
def execPairCopyRx (x : PairCopy) (s : State) : Host.Outcome State Fault Refusal :=
  s.runIn .pair (fun s =>
    if !s.pair.en || s.pair.acting || !s.pairLink then s
    else if !x.ok then s.inc R.PAIR_COPY_MISS
    else
      let last := (s.rd R.PAIR_COPY_SEQ).toNat
      let s := if s.pair.copy.isSome then s.addCnt R.PAIR_COPY_MISS (x.cycle - (last + 1)) else s
      let ds := match x.ypl with
        | some y => y.deltas
        | none => []
      let base : List PairDelta := match x.ypl with
        | some y => if y.state != 0 && s.pair.cellsId == some y.id then s.pair.cells else []
        | none => s.pair.cells
      let from_ : Nat := if !s.pair.resync then s.pair.seqIn else match x.ypl, ds with
        | some _, d :: _ => d.seq - 1
        | some y, [] => y.seq
        | none, _ => s.pair.seqIn
      let r := ds.foldl (fun (a : List PairDelta × Nat) d =>
        if d.seq = a.2 + 1 then (d :: a.1.filter (fun e => !(e.i == d.i && e.j == d.j)), d.seq) else a) (base, from_)
      let s := s.setPair (fun p => { p with
        copy := some x, cells := r.1, seqIn := r.2, resync := p.resync && x.ypl.isNone,
        cellsId := match x.ypl with
          | some y => if y.state = 0 then none else some y.id
          | none => p.cellsId })
      let s := (s.wr R.PAIR_COPY_SEQ (word x.cycle)).wr R.PAIR_COPY_AGE 0#32
      let s := s.wr R.PAIR_COPY_LEN (word (x.len % 65536))
      (s.wb R.PAIR_STATUS 18 (x.cfg != s.pairCfgCrc)).pairPath)

/-- PAIR_GATE_CONFIRM (R456, R464): the governed stages read back off, or do not. -/
def execPairGateConfirm (off : Bool) (s : State) : Host.Outcome State Fault Refusal :=
  s.runIn (Foot.pair.and [.can] []) (fun s =>
    match s.pair.offAt with
    | none => s
    | some _ =>
      let cause := s.pair.handover
      let sw := s.pair.swap
      let s := s.setPair (fun p => { p with offAt := none, handover := 0, swap := none })
      let s := if !off then ((s.wb R.PAIR_STATUS 16 true).post fPAIR .pairStuck).pairPath
        else if cause = 0 then s
        else (s.pairPut false (s.pairFrame 3 50 0)).pairGuard 250000
      match sw with
      | some (k, c) => s.answer k 0x1110 c (if !off then stINTERNAL_TIMEOUT else if cause = 0 then stWRONG_STATE else stOK) []
      | none => s)

/-- PAIR_REVERT_HOLD_EXPIRY (R463). -/
def execPairRevertHoldExpiry (s : State) : Host.Outcome State Fault Refusal :=
  s.runIn .pair (fun s =>
    let h := s.fd R.PAIR_CFG 15 8
    match s.pair.healthyAt with
    | none => s
    | some t =>
      if s.pair.en && !s.pair.role && s.bt R.PAIR_STATUS 14 && h != 0 && s.tbPast t (tbMs (1000 * h)) then
        s.wb R.PAIR_STATUS 15 true
      else s)

/-- The pair at READY (R451, R455, R463). -/
def State.pairReady (s : State) : State :=
  let s := s.setPair (fun p => { p with alive := !s.pwr.shed, readyAt := s.clk.tb, copy := none, hold := none, canNext := s.clk.tb })
  if s.pair.en then (if s.pair.role then s else s.wb R.PAIR_STATUS 14 true).pairShow 1 0 else s

/-- The pair in INIT of a start: role, EN and the CAN binding come into force (R451). -/
def State.pairInit (s : State) : State :=
  s.setPair (fun _ => {
    en := s.bt R.PAIR_CFG 0, role := s.bt R.PAIR_CFG 1, canEn := s.bt R.PAIR_CFG 16, canCtl := s.fd R.PAIR_CFG 20 17 })

/-! ### Commands -/

/-- PAIR_GET_STATUS after the common bytes (R465); `st` is `PAIR_STATUS` as it reads now. -/
def State.pairStatus (s : State) (st : Word) : List Byte :=
  wBytes st ++ wBytes (s.rd R.PAIR_COPY_AGE) ++ wBytes (s.rd R.PAIR_TAKEOVERS) ++ wBytes (s.rd R.PAIR_COPY_MISS)

/-- `PAIR_STATUS` as it reads now: LEFT shows the lease left in 0.1 ms. -/
def State.pairLive (s : State) : Word :=
  let left := match s.pair.lease with
    | some l => min 255 ((l.1 - s.clk.tb) / 5000)
    | none => 0
  setFld (s.rd R.PAIR_STATUS) 31 24 left

/-- PAIR_SWAP (R464, R465): answered after the RELEASE. -/
def execPairSwap (c : Cmd) (s : State) : Host.Outcome State Fault Refusal :=
  s.runIn .pair (fun s => s.command fPAIR 0x10 1 c (fun k s =>
    let leased := match s.pair.lease with
      | some l => decide (s.clk.tb < l.1)
      | none => false
    if !c.payload.isEmpty then refuse stBAD_LENGTH s
    else if !(s.pair.acting && leased && s.pairLink && s.bt R.PAIR_STATUS 13 && s.pair.handover = 0) then refuse stWRONG_STATE s
    else (.later, s.setPair (fun p => { p with handover := 4, swap := some (k, c) }))))

/-- PAIR_REVERT (R463, R465). -/
def execPairRevert (c : Cmd) (s : State) : Host.Outcome State Fault Refusal :=
  s.runIn .pair (fun s => s.command fPAIR 0x11 1 c (fun _ s =>
    if c.payload.length != 1 then refuse stBAD_LENGTH s
    else if 1 < u8 c.payload 0 then refuse stBAD_PARAM s
    else if u8 c.payload 0 = 0 then okWith [] ((s.wb R.PAIR_STATUS 14 false).wb R.PAIR_STATUS 15 false)
    else okWith [] (s.wb R.PAIR_STATUS 14 true)))

/-- CONFIGURE of PAIR (R465): 8 bytes. -/
def pairCfgCheck (p : List Byte) : Nat := if p.length != 8 then stBAD_LENGTH else stOK

end Sys2Proof.Machine
end

