-- ==== Sys2Proof/Machine/Transit.lean ====
section
/-!
DEFINITION. Transit (chapter 12): RF paths, channels and their states, numerically controlled oscillators, acquisition,
handover, measurements, navigation data, rings and commands.
-/
namespace Sys2Proof.Machine

/-- Function ID of Transit. -/
def fTRN : Nat := 10

/-- Changes the state of Transit. -/
def State.setTrn (s : State) (f : Trn → Trn) : State := { s with trn := f s.trn }

/-- Channel `n`. -/
def State.tch (s : State) (n : Nat) : TrnCh := s.trn.chs.getD n {}

/-- Changes channel `n`. -/
def State.setTch (s : State) (n : Nat) (f : TrnCh → TrnCh) : State :=
  s.setTrn (fun t => { t with chs := updAt t.chs n f })

/-- Fields of a channel's configuration word. -/
def tSig (w : Word) : Nat := fld w 3 1
def tAnt (w : Word) : Nat := fld w 4 4
def tSv (w : Word) : Nat := fld w 10 5
def tRef (w : Word) : Nat := fld w 17 11
def tMode (w : Word) : Nat := fld w 19 18

/-- Whether a component is in the L1 band (R284). -/
def sigL1 (g : Nat) : Bool := g == 0 || g == 3 || g == 4

/-- Whether SIG, SV and MODE name a channel that can run (R284): masters direct or by handover, data components as
slaves. -/
def trnValid (g sv mode : Nat) : Bool :=
  g ≤ 6 && 1 ≤ sv && sv ≤ (if g ≤ 2 then 63 else 50) &&
  (if g == 0 || g == 1 || g == 3 || g == 5 then mode == 0 || mode == 1 else mode == 2)

/-- The RF path of an antenna and a component (R281). -/
def trnPath (g ant : Nat) : Nat := 2 * ant + (if sigL1 g then 0 else 1)

/-- Whether a path runs (R281). -/
def State.trnPathRuns (s : State) (p : Nat) : Bool := s.trn.run && nbit (s.fd R.TRN_FE_CFG 3 0) p

/-- Whether a channel may leave IDLE in the assignment `w`: enabled, a component and satellite of R284, on a path that runs (R281). -/
def State.trnCan (s : State) (w : Word) : Bool :=
  bit w 0 && trnValid (tSig w) (tSv w) (tMode w) && s.trnPathRuns (trnPath (tSig w) (tAnt w))

/-- The coherent time in ms (R284, R289): COH where the synchronisation allows it, else 1 ms; fixed for a slave. A COH that SIG never
allows counts as 1 ms (log entry 127). -/
def trnCoh (g coh : Nat) (bitS sec : Bool) : Nat :=
  let long (ok : Bool) : Nat := if ok then [1, 2, 4, 10, 20].getD coh 1 else 1
  match g with
  | 0 => long bitS
  | 2 => 10
  | 3 => if coh ≤ 2 then long true else if coh = 4 then long sec else 1
  | 4 => 4
  | 6 => 20
  | _ => long sec

/-- The configuration words with a channel otherwise as at its start. -/
def TrnCh.fresh (c : TrnCh) : TrnCh := { cfg := c.cfg, loop := c.loop, space := c.space, lock := c.lock, ho := c.ho }

/-- The number of a state in `TRN_CH_STATUS`. -/
def TrnSt.num : TrnSt → Nat
  | .idle => 0 | .handover => 1 | .pullin => 2 | .track => 3 | .lost => 4

/-- Primary code length in chips, and the ratio of carrier to chip rate, and the chip rate (R284, R286). -/
def trnChips (g : Nat) : Nat := if g = 0 then 1023 else if g = 3 || g = 4 then 4092 else 10230
def trnRatio (g : Nat) : Nat := if sigL1 g then 1540 else 115
def trnChipRate (g : Nat) : Nat := if sigL1 g then 1023000 else 10230000

/-- The carrier word of R286 for a Doppler in 2^-8 mHz. -/
def fcwC (d : Int) : Int := 1073741824 + divRound (d * 4294967296) (256000 * 80000000)

/-- The code word of R286. -/
def fcwK (g : Nat) (d : Int) : Int :=
  divRound (((trnChipRate g * trnRatio g * 256000 : Nat) + d) * 4294967296) ((trnRatio g * 256000 * 80000000 : Nat))

/-- The Doppler in 2^-8 Hz. -/
def TrnCh.dopHz (c : TrnCh) : Int := c.dop / 1000

/-- AMB of a channel (R297). -/
def TrnCh.amb (c : TrnCh) : Nat :=
  if c.tow then 0
  else
    match tSig c.cfg with
    | 0 => if c.bitSync then 3 else 1
    | 1 => if c.secSync then 3 else 1
    | 3 => if c.secSync then 4 else 2
    | 5 => if c.secSync then 4 else 1
    | _ => 1

/-- Shows the status words of channel `n`. -/
def State.trnShow (s : State) (n : Nat) : State :=
  let c := s.tch n
  let s := s.wr (R.TRN_CH_STATUS n) (word (c.st.num + 8 * b2n c.code + 16 * b2n c.carr + 32 * b2n c.bitSync +
    64 * b2n c.secSync + 128 * b2n c.halfAmb + 256 * b2n c.tow + 512 * c.amb + 65536 * min 65535 c.cn0))
  let s := (s.wr (R.TRN_CH_FCW_C n) (if c.st = .idle then 0#32 else iword (fcwC c.dop))).wr (R.TRN_CH_FCW_K n)
    (if c.st = .idle then 0#32 else iword (fcwK (tSig c.cfg) c.dop))
  let s := (s.wr (R.TRN_CH_DOP n) (iword c.dopHz)).wr (R.TRN_CH_CP n) (word c.cp)
  s.wr (R.TRN_CH_LOCKT n) (word (min 0xFFFFFF c.lockt + 16777216 * min 255 c.slips))

/-- Notification TRN_LOCK (R288). -/
def State.trnLockNote (s : State) (n : Nat) : State :=
  let c := s.tch n
  s.notify fTRN 0x80 [byte n, byte c.st.num, byte (tSv c.cfg), byte (tSig c.cfg + 8 * tAnt c.cfg)]

/-- Notification TRN_HANDOVER (R295) with its status word. -/
def State.trnHoEnd (s : State) (n result : Nat) (off : Int) : State :=
  let p := min 255 (s.tch n).passes
  (s.wr (R.TRN_CH_HO_STAT n) (word (result + 256 * p + 65536 * ((iword off).toNat % 256)))).notify fTRN 0x83
    [byte n, byte result, byte p, 0#8]

/-- Channel `n` returns to IDLE; its slaves follow, and handovers from it abort (R284, R295). -/
def State.trnIdle (s : State) (n : Nat) : State :=
  let wasLost := (s.tch n).st == .lost
  let s := s.setTch n TrnCh.fresh
  let s := if wasLost then s.trnLockNote n else s
  s.trnShow n

/-- What follows channel `n` leaving TRACK (R284, R295): `dest` is the state its slaves take; handovers from it abort. -/
def State.trnFollow (s : State) (n : Nat) (dest : TrnSt) : State :=
  (List.range 128).foldl (fun (s : State) k =>
    let c := s.tch k
    if k = n || tRef c.cfg != n || !bit c.cfg 0 then s
    else if tMode c.cfg = 2 && (c.st == .track || c.st == .lost) then
      (if dest = .idle then s.trnIdle k
       else
        let s := if dest = .lost then s.inc R.TRN_LOCK_LOSS else s
        ((s.setTch k (fun c => { c with st := dest, since := s.clk.tb })).trnLockNote k).trnShow k)
    else if tMode c.cfg = 1 && c.st == .handover && c.hoAt.isSome then (s.trnHoEnd k 3 0).trnIdle k
    else s) s

/-- Channel `n` enters PULLIN with a Doppler and code phase (R288, R294). -/
def State.trnPullin (s : State) (n : Nat) (dop : Int) (cp pull : Nat) : State :=
  (s.setTch n (fun c => { c.fresh with
    st := .pullin, since := s.clk.tb, pullMs := pull, dop := dop, cp := cp,
    halfAmb := tSig c.cfg == 0, passes := c.passes })).trnShow n

/-- Channel `n` acts on a changed assignment (R285). -/
def State.trnRestart (s : State) (n : Nat) : State :=
  let w := s.rd (R.TRN_CH_CFG n)
  let was := (s.tch n).st
  let s := if was = .idle then s else (s.trnIdle n).trnFollow n .idle
  let s := (s.setTch n (fun c => { c.fresh with cfg := w })).wr (R.TRN_CH_HO_STAT n) 0#32
  if !s.trnCan w then s.trnShow n
  else if tMode w = 0 then
    s.trnPullin n ((s.rd (R.TRN_CH_INIT_DOP n)).toInt * 1000) (s.rd (R.TRN_CH_INIT_CP n)).toNat 100
  else (s.setTch n (fun c => { c with st := .handover, since := s.clk.tb })).trnShow n

/-- Channel `n` takes its loop, spacing, lock and handover words and FLLOFF (R285). The spacing shapes the sums that TRN_MS_BOUNDARY
brings. -/
def State.trnLatch (s : State) (n : Nat) : State :=
  s.setTch n (fun c => { c with
    cfg := setBit c.cfg 20 (s.bt (R.TRN_CH_CFG n) 20), loop := s.rd (R.TRN_CH_LOOP n), space := s.rd (R.TRN_CH_SPACE n),
    lock := s.rd (R.TRN_CH_LOCK n), ho := s.rd (R.TRN_CH_HO n) })

/-- A handover target or a slave waits for its source in TRACK (R284, R295); a lost slave waits again once its master has
left LOST. -/
def State.trnWait (s : State) (n : Nat) : State :=
  let c := s.tch n
  let src := s.tch (tRef c.cfg)
  if tMode c.cfg = 2 && c.st == .lost && (src.st == .pullin || src.st == .track) then
    ((s.setTch n (fun c => { c with st := .handover, since := s.clk.tb })).trnLockNote n).trnShow n
  else if c.st != .handover || src.st != .track then s
  else if tMode c.cfg = 2 then
    (s.setTch n (fun c => { c with st := .track, since := s.clk.tb, dop := src.dop })).trnShow n
  else if c.hoAt.isNone && src.code then
    let same := sigL1 (tSig c.cfg) == sigL1 (tSig src.cfg)
    let d := if same then src.dop else divFree (src.dop * 115) 154
    (s.setTch n (fun c => { c with hoAt := some s.clk.tb, passAt := s.clk.tb, dop := d, hoDop := d })).trnShow n
  else s

/-- The bit synchroniser of a SIG 0 channel takes a dump (R289). -/
def TrnCh.bitDump (c : TrnCh) (neg : Bool) : TrnCh :=
  let c := { c with hist := if neg != c.neg && c.ms != 0 then updAt c.hist (c.ms % 20) (· + 1) else c.hist }
  let sum := c.hist.foldl (fun a x => a + x) 0
  let top := c.hist.foldl (fun a x => max a x) 0
  if 20 * clampN 20 255 (fld c.ho 23 16) ≤ c.ms + 1 && 0 < sum && 4 * sum ≤ 5 * top then
    { c with bitSync := true, bound := argMax (fun x => x) (c.hist.map (fun (x : Nat) => (x : Int))) }
  else c

/-- A channel takes a dump (R288 to R290): the loops are closed with the filter's output where a coherent interval ends. -/
def TrnCh.dump (c : TrnCh) (m : TrnMs) (now : Nat) : TrnCh :=
  let g := tSig c.cfg
  let neg := decide (m.i < 0)
  let loops := c.st == .pullin || c.st == .track
  let done := (c.ms + 101 - c.bound) % trnCoh g (fld c.loop 26 24) c.bitSync c.secSync == 0
  let c := { c with cp := m.cp, cn0 := m.cn0, dop := if loops && done then c.dop + m.corr else c.dop }
  let c := if !loops then c
    else if g = 0 then (if c.bitSync then c else c.bitDump neg)
    else
      match m.sec with
      | some j => if c.secSync then c else { c with secSync := true, bound := (c.ms + 100 - j % 100) % 100 }
      | none => c
  { c with
    ms := c.ms + 1, neg := neg,
    code := if loops && 10 * fld c.lock 9 0 ≤ m.cn0 then true else c.code,
    lowAt := if loops && m.cn0 < 10 * fld c.lock 19 10 then (if c.lowAt.isSome then c.lowAt else some now) else none }

/-- The prompt value of channel `n` (R284). -/
def State.trnPrompt (s : State) (n : Nat) (m : TrnMs) : State :=
  s.wr (R.TRN_CH_PROMPT n) (word ((iword m.i).toNat % 65536 + 65536 * ((iword m.q).toNat % 65536)))

/-- One millisecond of a channel (R284, R286, R288 to R291). A slave runs on its master's oscillators and gives a prompt value alone. -/
def State.trnLoop (s : State) (n : Nat) (m : Option TrnMs) : State :=
  let c := s.tch n
  if c.st = .idle then s
  else if tMode c.cfg = 2 then
    match m with
    | none => s
    | some m => if c.st = .handover then s else s.trnPrompt n m
  else
    let aid := (s.rd (R.TRN_CH_AID n)).toInt
    let s := s.setTch n (fun c =>
      { c with dop := c.dop + aid, lockt := if c.carr then min 0xFFFFFF (c.lockt + 1) else c.lockt })
    let s := match m with
      | none => s.setTch n (fun c => { c with ms := c.ms + 1 })
      | some m =>
        let s := (s.setTch n (fun c => c.dump m s.clk.tb)).trnPrompt n m
        let c := s.tch n
        if c.st == TrnSt.lost && m.power && !s.tbPast c.since (tbMs (fld c.lock 31 20)) then
          let s := s.setTch n (fun c => { c with
            st := .pullin, since := s.clk.tb, pullMs := 100, pll := false, slip := true, slips := min 255 (c.slips + 1),
            halves := 0 })
          s.trnLockNote n
        else s
    s.trnShow n

/-- The assignment that an AUTO start gives its channel (R294). -/
def trnAssign (q : TrnReq) : Word := word (1 + 2 * (if q.sig = 0 then 0 else 3) + 16 * q.ant + 32 * q.sv)

/-- Shows an engine's status and the head of its results (R293). -/
def State.trnEngShow (s : State) (e : Nat) : State :=
  let g := s.trn.engs.getD e {}
  let cur := match g.queue with
    | [] => 0
    | q :: _ => q.sv
  let s := s.wr (R.TRN_ACQ_STATUS e) (word (b2n (!g.queue.isEmpty) + 2 * (g.queue.length - 1) + 256 * b2n g.ovf +
    512 * g.results.length + 65536 * cur))
  match g.results with
  | [] => (((s.wr (R.TRN_ACQ_RES_A e) 0#32).wr (R.TRN_ACQ_RES_B e) 0#32).wr (R.TRN_ACQ_RES_C e) 0#32).wr
      (R.TRN_ACQ_TBREF e) 0#32
  | r :: _ =>
    (((s.wr (R.TRN_ACQ_RES_A e) (word (r.req.sv + 64 * r.req.sig + 128 * r.req.ant + 256 * b2n r.found +
      512 * b2n r.skip + 2147483648))).wr (R.TRN_ACQ_RES_B e) (word (r.pos % 16384 + 65536 * min 65535 r.ratio))).wr
      (R.TRN_ACQ_RES_C e) (word ((iword r.dop).toNat % 65536))).wr (R.TRN_ACQ_TBREF e) (word r.tbRef)

/-- Whether channel `n` lies in the requester's allocation (R303). -/
def State.trnMine (s : State) (q : TrnReq) (n : Nat) : Bool :=
  s.expert fTRN || (if q.host then s.fd R.TRN_ALLOC 7 0 ≤ n else n < s.fd R.TRN_ALLOC 7 0)

/-- An AUTO start at the millisecond boundary (R294): a channel whose assignment R281 or R284 bars stays IDLE in it. -/
def State.trnAuto (s : State) (restarted : List Nat) (a : Nat × TrnRes) : State :=
  let q := a.2.req
  match q.auto with
  | none => s
  | some n =>
    if (s.tch n).st != .idle || restarted.contains n || !s.trnMine q n then
      (s.setTrn (fun t => { t with engs := updAt t.engs a.1 (fun e =>
        { e with results := e.results.map (fun r => if r = a.2 then { r with skip := true } else r) }) })).trnEngShow a.1
    else
      let g := if q.sig = 0 then 0 else 3
      let w := trnAssign q
      let dt := s.clk.tb - a.2.tbRef
      let num : Int := (1023000 * 1540 : Nat) + a.2.dop
      let prog := (dt : Int) * num * 65536 / (1540 * 50000000 : Nat)
      let cp := (((a.2.pos * 32768 : Nat) : Int) + prog) % ((trnChips g * 65536 : Nat) : Int)
      let s := (s.setTch n (fun c => { c with cfg := w })).wr (R.TRN_CH_CFG n) w
      if s.trnCan w then s.trnPullin n (a.2.dop * 256000) cp.toNat 100 else s.trnShow n

/-- TRN_MS_BOUNDARY (R281, R283, R285 to R291, R294, R295): once at each millisecond boundary of TB. -/
def execTrnMsBoundary (ms : List TrnMs) (fe : List (Nat × Nat)) (s : State) : Host.Outcome State Fault Refusal :=
  s.runIn .trn (fun s =>
    let now := s.clk.tb / 50000
    if now ≤ s.trn.lastMs && s.trn.lastMs != 0 then s
    else
      let s := s.setTrn (fun t => { t with lastMs := now })
      let want := s.bt R.TRN_CTRL 0 && s.isRunning fTRN
      let s := if s.trn.run && !want then
          (List.range 128).foldl (fun (s : State) n => s.trnIdle n) s
        else s
      let s := s.setTrn (fun t => { t with
        run := want, engs := if want then t.engs else t.engs.map (fun e => { e with queue := [] }),
        auto := if want then t.auto else [] })
      let s := (List.range 4).foldl (fun (s : State) p =>
        let g := fe.getD p (0, 0)
        let runs := s.trnPathRuns p
        let w := if runs then word (g.1 % 256 + 256 + 65536 * min 1000 g.2) else 0#32
        let an := s.trn.ants.getD (p / 2) {}
        s.wr (R.TRN_FE_STATUS p) (setBit (setBit w 9 an.open_) 10 an.short)) s
      if !want then s
      else
        let s := (List.range 128).foldl (fun (s : State) n => s.trnLatch n) s
        let changed := (List.range 128).filter (fun n =>
          let w := s.rd (R.TRN_CH_CFG n)
          let old := (s.tch n).cfg
          fld w 19 0 != fld old 19 0 ||
          (bit w 0 && (s.tch n).st != .idle && !s.trnPathRuns (trnPath (tSig w) (tAnt w))))
        let s := changed.foldl (fun (s : State) n => s.trnRestart n) s
        let autos := s.trn.auto
        let s := autos.foldl (fun (s : State) a => s.trnAuto changed a) (s.setTrn (fun t => { t with auto := [] }))
        let s := (List.range 128).foldl (fun (s : State) n => s.trnLoop n (ms.find? (fun m => m.n == n))) s
        let s := (List.range 128).foldl (fun (s : State) n =>
          let c := s.tch n
          if tMode c.cfg = 2 && c.st = .track then
            s.setTch n (fun c => { c with dop := (s.tch (tRef c.cfg)).dop, cp := (s.tch (tRef c.cfg)).cp }) else s) s
        (List.range 128).foldl (fun (s : State) n => s.trnWait n) s)

/-- Does `g` for channel `n` and shows its status. -/
def State.trnDo (s : State) (n : Nat) (g : State → State) : State := if n < 128 then (g s).trnShow n else s

/-- TRN_PULLIN_END (R288): the FLL-only time ends. -/
def execTrnPullinEnd (n : Nat) (s : State) : Host.Outcome State Fault Refusal :=
  s.runIn .trn (fun s => s.trnDo n (fun s =>
    let c := s.tch n
    if c.st = .pullin && s.tbPast c.since (tbMs c.pullMs) then
      s.setTch n (fun c => { c with pll := true, st := if c.carr then .track else .pullin })
    else s))

/-- TRN_CARR_LOCK (R288, R290): the indicator sets or clears after its hold time. -/
def execTrnCarrLock (n : Nat) (on : Bool) (s : State) : Host.Outcome State Fault Refusal :=
  s.runIn .trn (fun s => s.trnDo n (fun s =>
    let c := s.tch n
    if !(c.st == .pullin || c.st == .track) || c.carr = on then s
    else if on then
      s.setTch n (fun c => { c with carr := true, lockt := 0, st := if c.pll then .track else c.st })
    else s.setTch n (fun c => { c with
      carr := false, lockt := 0, slip := true, slips := min 255 (c.slips + 1), halfAmb := c.halfAmb || tSig c.cfg == 0 })))

/-- TRN_LOST (R288, R290): C/N0 below CN0_LOST for 500 ms. -/
def execTrnLost (n : Nat) (s : State) : Host.Outcome State Fault Refusal :=
  s.runIn .trn (fun s => s.trnDo n (fun s =>
    let c := s.tch n
    match c.lowAt with
    | none => s
    | some t =>
      if (c.st == .pullin || c.st == .track) && s.tbPast t (tbMs 500) then
        let s := s.setTch n (fun c => { c with
          st := .lost, since := s.clk.tb, code := false, carr := false, lockt := 0, lowAt := none, pll := false })
        ((s.inc R.TRN_LOCK_LOSS).trnLockNote n).trnFollow n .lost
      else s))

/-- TRN_COAST_END (R288): no prompt power within COAST. -/
def execTrnCoastEnd (n : Nat) (s : State) : Host.Outcome State Fault Refusal :=
  s.runIn .trn (fun s => s.trnDo n (fun s =>
    if (s.tch n).st = .lost && tMode (s.tch n).cfg != 2 && s.tbPast (s.tch n).since (tbMs (fld (s.tch n).lock 31 20)) then
      (s.trnIdle n).trnFollow n .idle
    else s))

/-- TRN_HANDOVER_PASS (R295): one pass over 2·HWIN + 1 positions with their powers. -/
def execTrnHandoverPass (n : Nat) (pw : List Nat) (s : State) : Host.Outcome State Fault Refusal :=
  s.runIn .trn (fun s => s.trnDo n (fun s =>
    let c := s.tch n
    let hw := clampN 1 31 (fld c.ho 4 0)
    let k := 2 * hw + 1
    if c.st != .handover || c.hoAt.isNone || !s.tbPast c.passAt (tbMs ((k + 4) / 5)) then s
    else
      let p := (pw ++ List.replicate k 0).take k
      let top := argMax (fun x => x) (p.map (fun (x : Nat) => (x : Int)))
      let sum := p.foldl (fun a x => a + x) 0
      let s := s.setTch n (fun c => { c with passes := c.passes + 1, passAt := s.clk.tb })
      if 2 * sum ≤ p.getD top 0 * k && 0 < sum then
        let off : Int := (top : Int) - hw
        (s.trnHoEnd n 1 off).trnPullin n c.hoDop c.cp 20
      else s.wf_ (R.TRN_CH_HO_STAT n) 15 8 (min 255 (c.passes + 1))))

/-- TRN_HANDOVER_TIMEOUT (R295): HO_TMO ms without acceptance. -/
def execTrnHandoverTimeout (n : Nat) (s : State) : Host.Outcome State Fault Refusal :=
  s.runIn .trn (fun s => s.trnDo n (fun s =>
    match (s.tch n).hoAt with
    | none => s
    | some t =>
      if (s.tch n).st = .handover && s.tbPast t (tbMs (fld (s.tch n).ho 15 8)) then (s.trnHoEnd n 2 0).trnIdle n
      else s))

/-! ### Acquisition -/

/-- Hypotheses of a request (R292). -/
def TrnReq.hyps (q : TrnReq) : Nat := (if q.sig = 0 then 2046 else 8184) * (2 * (q.span / 500) + 1)

/-- Sweep time in ms (R292). -/
def TrnReq.sweepMs (q : TrnReq) : Nat := (q.hyps * q.nc + 1023) / 1024

/-- Queues a request; answers whether the queue had room (R292, R294). -/
def State.trnQueue (s : State) (e : Nat) (q : TrnReq) : Bool × State :=
  let g := s.trn.engs.getD e {}
  if 64 ≤ g.queue.length then (false, s)
  else
    let at_ := if g.queue.isEmpty then (s.clk.tb + 49999) / 50000 * 50000 else g.startAt
    (true, (s.setTrn (fun t => { t with engs := updAt t.engs e (fun g =>
      { g with queue := g.queue ++ [q], startAt := at_ }) })).trnEngShow e)

/-- A write of `TRN_ACQ_REQ` (R293). -/
def State.trnAcqWrite (ini : Initiator) (e : Nat) (v : Word) (s : State) : State :=
  let q : TrnReq := { sig := fld v 0 0, ant := fld v 1 1, sv := fld v 7 2, nc := clampN 1 8 (fld v 11 8),
                      verify := fld v 13 12, auto := if bit v 14 then some (fld v 21 15) else none,
                      centre := sfld (s.rd (R.TRN_ACQ_DOP e)) 15 0, span := min 6000 (s.fd (R.TRN_ACQ_DOP e) 28 16),
                      th := s.fd (R.TRN_ACQ_TH e) 15 0, host := ini == .host }
  if !(e < 2 && s.trn.run) then s
  else
    let r := s.trnQueue e q
    if r.1 then r.2
    else (s.setTrn (fun t => { t with engs := updAt t.engs e (fun g => { g with ovf := true }) })).trnEngShow e

/-- TRN_ACQ_REQ_WRITE (R292, R294): queues a request with the current DOP and TH; with a full queue it is discarded. -/
def execTrnAcqReqWrite (ini : Initiator) (e : Nat) (v : Word) (s : State) : Host.Outcome State Fault Refusal :=
  s.runIn .trn (fun s => s.owned ini fTRN .trn .gns (fun s => s.trnAcqWrite ini e v))

/-- Offers a record to the raw rings whose mask has its type (R300). -/
def State.trnRecord (s : State) (ty : Nat) (body : List Byte) : State :=
  let r := s.offer fTRN 0 (fun m => nbit m (ty - 1)) (fun q => padTo 60 body ++ leBytes 4 q)
  r.2.addCnt R.TRN_RAW_LOST r.1

/-- TRN_SWEEP_END (R293, R294): the sweep of the first request and its verify sets are over. -/
def execTrnSweepEnd (e : Nat) (r : TrnSweep) (s : State) : Host.Outcome State Fault Refusal :=
  s.runIn .trn (fun s =>
    let g := s.trn.engs.getD e {}
    match g.queue with
    | [] => s
    | q :: rest =>
      let pass := q.th ≤ r.ratio
      let ver := if pass then q.verify * q.nc else 0
      if !s.tbPast g.startAt (tbMs (q.sweepMs + ver)) then s
      else
        let sets := r.sets.take q.verify
        let found := pass && sets.length == q.verify && sets.all (fun x => q.th ≤ x.2.2)
        let last := match sets.getLast? with
          | some x => if found then (x.1, x.2.1) else (r.pos, r.dop)
          | none => (r.pos, r.dop)
        let skip := match q.auto with
          | none => false
          | some n => found && ((s.tch n).st != .idle || !s.trnMine q n)
        let res : TrnRes := { req := q, pos := last.1, dop := last.2, ratio := r.ratio, found := found, skip := skip,
                              tbRef := g.startAt + tbMs (q.sweepMs + ver - 1) }
        let s := s.setTrn (fun t => { t with
          engs := updAt t.engs e (fun g => ({ g with
            queue := rest, startAt := s.clk.tb, results := (g.results ++ [res]).drop (g.results.length + 1 - 16) } : TrnEng)),
          auto := if found && q.auto.isSome && !skip then t.auto ++ [(e, res)] else t.auto })
        let s := (s.inc R.TRN_ACQ_DONE).trnEngShow e
        let sg := if q.sig = 0 then 0 else 3
        let started := if found && !skip && s.trnCan (trnAssign q) then q.auto.getD 0xFF else 0xFF
        let s := s.trnRecord 4 ([4#8, byte e, byte (sg + 8 * q.ant + 16 * b2n found + 32 * b2n skip), byte q.sv] ++
          leBytes 8 res.tbRef ++ leBytes 2 res.pos ++ leBytes 2 ((iword res.dop).toNat % 65536) ++ leBytes 4 0 ++
          leBytes 2 (min 65535 res.ratio) ++ [byte started])
        s.notify fTRN 0x81 ([byte e, byte q.sv, byte (q.sig + 2 * q.ant + 4 * b2n found + 8 * b2n skip), 0#8] ++
          leBytes 2 res.pos ++ leBytes 2 ((iword res.dop).toNat % 65536) ++ leBytes 2 (min 65535 res.ratio) ++ leBytes 2 0))

/-- TRN_ACQ_RES_C_READ (R293): the read removes the head entry. -/
def execTrnAcqResCRead (ini : Initiator) (e : Nat) (s : State) : Host.Outcome State Fault Refusal :=
  s.runIn .trn (fun s => s.fetched ini .gns (s.rd (R.TRN_ACQ_RES_C e)) (fun s =>
    (s.setTrn (fun t => { t with engs := updAt t.engs e (fun g => { g with results := g.results.drop 1 }) })).trnEngShow e))

/-! ### Measurements and navigation data -/

/-- Epochs per second (R296). -/
def State.trnRate (s : State) : Nat := [1, 2, 5, 10, 20, 50, 100, 100].getD (s.fd R.TRN_MEAS_CFG 2 0) 10

/-- The ambiguity period of AMB in 2^-16 ns; none for a resolved time. -/
def ambPeriod (a : Nat) : Option Nat :=
  match a with
  | 1 => some (1000000 * 65536)
  | 2 => some (4000000 * 65536)
  | 3 => some (20000000 * 65536)
  | 4 => some (100000000 * 65536)
  | _ => none

/-- Whether Dome writes `TRN_RXT` and `TRN_CH_AID` (R303): in EXPERT only while DOME_AID is set. -/
def State.trnDomeAid (s : State) : Bool := !s.expert fTRN || s.bt R.TRN_CTRL 1

/-- A time step that waits is applied at the epoch (R318): to `POS_GPST`, to `TRN_RXT` where Dome writes it, with POS_TIME. -/
def State.trnTimeStep (s : State) : State :=
  match s.pos.step with
  | none => s
  | some b =>
    let add (s : State) (lo hi : Nat) : State :=
      s.wr64 lo hi (((s.rd64 lo hi : Nat) + b) % ((2 ^ 64 : Nat) : Int)).toNat
    let s := add { s with pos := { s.pos with step := none } } R.POS_GPST_LO R.POS_GPST_HI
    let s := { s with pos := { s.pos with
      ppsSec := (s.rd64 R.POS_GPST_LO R.POS_GPST_HI + 20 * s.clk.tb) / 1000000000 } }
    let s := if s.trnDomeAid then
        let t := add s R.TRN_RXT_LO R.TRN_RXT_HI
        t.setTrn (fun x => { x with rxtNew := some (t.rd64 R.TRN_RXT_LO R.TRN_RXT_HI) })
      else s
    s.notify 0x0B 0x81 ([1#8, 0#8, 0#8, 0#8] ++ leBytes 8 (b % ((2 ^ 64 : Nat) : Int)).toNat)

/-- The position service's time aiding (R297): once the receiver time is set and Dome aids, a channel in TRACK with CODE_LOCK has its
time of transmit resolved (DEDUCED, log entry 127). -/
def State.trnTimeAid (s : State) (n : Nat) : State :=
  let c := s.tch n
  if s.trn.rxtSet && s.trnDomeAid && s.isRunning 0x0B && c.st == .track && c.code && !c.tow then
    (s.setTch n (fun c => { c with tow := true })).trnShow n
  else s

/-- TRN_EPOCH (R296 to R298, R300): the epoch's header and a record for each master channel in PULLIN, TRACK or LOST. -/
def execTrnEpoch (es : List TrnEp) (s : State) : Host.Outcome State Fault Refusal :=
  s.runIn (Foot.trn.and [.pos] []) (fun s =>
    let p := 50000000 / s.trnRate
    let tb := s.clk.tb / p * p
    if !s.trn.run || tb ≤ s.trn.lastEpoch then s
    else
      let s := s.trnTimeStep
      let step := s.trn.rxtSet && s.trn.rxtNew.getD s.trn.rxt != s.trn.rxt
      let s := s.setTrn (fun t => { t with
        lastEpoch := tb, rxt := t.rxtNew.getD t.rxt, rxtSet := t.rxtSet || t.rxtNew.isSome, rxtNew := none })
      let s := (List.range 128).foldl (fun (s : State) n => s.trnTimeAid n) (s.inc R.TRN_EPOCHS)
      let rows := es.filter (fun x =>
        let c := s.tch x.n
        tMode c.cfg != 2 && (c.st == .pullin || c.st == .track || c.st == .lost))
      let known := (rows.filter (fun x => (s.tch x.n).tow)).map (fun x => x.ttx)
      let trx := if s.trn.rxtSet then s.trn.rxt + 20 * tb
        else match known with
          | [] => Config.rxTimeUnset tb
          | x :: xs => xs.foldl (fun a y => min a y) x / 65536 + 70000000
      let s := s.trnRecord 3 ([3#8, byte rows.length, byte (b2n s.trn.rxtSet + 2 * b2n step), 0#8] ++ leBytes 8 tb ++
        leBytes 8 trx)
      rows.foldl (fun (s : State) x =>
        let c := s.tch x.n
        let d : Int := (trx * 65536 : Nat) - (x.ttx : Int)
        let d := match ambPeriod c.amb with
          | some a => d % (a : Int)
          | none => d
        let pr := divFree (d * 299792458) 1000000000
        let half := c.adj
        let halves := c.halves + b2n half
        let ph : Int := x.phase + (32768 * halves : Nat)
        let fl := b2n c.code + 2 * b2n c.carr + 4 * b2n c.halfAmb + 8 * b2n half + 16 * b2n c.slip + 32 * b2n (c.st == .lost)
        let s := s.trnRecord 1 ([1#8, byte x.n, byte (tSig c.cfg + 8 * tAnt c.cfg + 16 * c.amb), byte (tSv c.cfg)] ++
          leBytes 8 tb ++ leBytes 8 (pr % (2 ^ 64 : Nat)).toNat ++ leBytes 8 (ph % (2 ^ 64 : Nat)).toNat ++
          wBytes (iword c.dopHz) ++ leBytes 2 (min 65535 c.cn0) ++ leBytes 2 fl ++
          leBytes 4 (if c.carr then c.lockt else 0))
        (s.setTch x.n (fun c => { c with slip := false, adj := false, halves := halves })).trnShow x.n) s)

/-- Bits in a unit of SIG `g` (R299). -/
def navCount (g : Nat) : Nat := if g = 4 then 240 else if g = 6 then 238 else 300

/-- Bit `k` of a unit, the first being bit 0. -/
def navBit (u : TrnNav) (k : Nat) : Bool := nbit (u8 u.bits (k / 8)) (7 - k % 8)

/-- The data bits that each of D25 to D30 sums, with 29 or 30 for the bit of the word before (IS-GPS-200, PRESUMED, log entry 127). -/
def lnavTaps : List (Nat × List Nat) :=
  [(29, [1, 2, 3, 5, 6, 10, 11, 12, 13, 14, 17, 18, 20, 23]), (30, [2, 3, 4, 6, 7, 11, 12, 13, 14, 15, 18, 19, 21, 24]),
   (29, [1, 3, 4, 5, 7, 8, 12, 13, 14, 15, 16, 19, 20, 22]), (30, [2, 4, 5, 6, 8, 9, 13, 14, 15, 16, 17, 20, 21, 23]),
   (30, [1, 3, 5, 6, 7, 9, 10, 14, 15, 16, 17, 18, 21, 22, 24]), (29, [3, 5, 6, 8, 9, 10, 11, 13, 15, 19, 22, 23, 24])]

/-- Parity of word `k` of an LNAV subframe; the word before the first ends in zeros (IS-GPS-200, PRESUMED, log entry 127). -/
def navWordOk (u : TrnNav) (k : Nat) : Bool :=
  (List.range 6).all (fun i =>
    let t := lnavTaps.getD i (29, [])
    let first := if k = 0 then false else navBit u (30 * (k - 1) + t.1 - 1)
    t.2.foldl (fun a d => a ^^ navBit u (30 * k + d - 1)) first == navBit u (30 * k + 24 + i))

/-- The CRC-24Q of R299 over the listed bits of a unit, equal to the 24 bits from `at_` on. -/
def navCrcOk (u : TrnNav) (over_ : List Nat) (at_ : Nat) : Bool :=
  over_.foldl (fun c k => crc24Bit (c ^^^ (b2n (navBit u k) * 8388608))) 0 ==
    (List.range 24).foldl (fun a k => 2 * a + b2n (navBit u (at_ + k))) 0

/-- The failed checks of a unit and the mask of the words that pass (R299); where the CRC of a page pair and of a page stands is that of
the signals' documents (PRESUMED, log entry 127). -/
def navCheck (u : TrnNav) (g : Nat) : Nat × Nat :=
  match g with
  | 0 => (((List.range 10).filter (fun k => !navWordOk u k)).length, maskOf 10 (navWordOk u))
  | 2 => (b2n (!navCrcOk u (List.range 276) 276), 0)
  | 4 => (b2n (!navCrcOk u (List.range 114 ++ (List.range 82).map (120 + ·)) 202), 0)
  | _ => (b2n (!navCrcOk u (List.range 214) 214), 0)

/-- The record of a unit (R299, R300), its count of failures and its effect: a good unit resolves the time of transmit and, on SIG 0,
any unit the polarity. -/
def State.trnUnit (s : State) (n : Nat) (u : TrnNav) : State :=
  let c := s.tch n
  let g := tSig c.cfg
  let k := navCheck u g
  let s := (s.addCnt R.TRN_NAV_ERR k.1).trnRecord 2
    ([2#8, byte n, byte (g + 8 * tAnt c.cfg), byte (tSv c.cfg)] ++ leBytes 8 u.tb ++ [byte (g / 2), byte (b2n (k.1 == 0))] ++
      leBytes 2 (navCount g) ++ leBytes 4 0 ++ padTo 36 u.bits ++ leBytes 2 k.2)
  let m := if tMode c.cfg = 2 then tRef c.cfg else n
  let s := if k.1 = 0 then (s.setTch m (fun c => { c with tow := true })).trnShow m else s
  if g = 0 && c.halfAmb then s.setTch n (fun c => { c with halfAmb := false, adj := u.inv }) else s

/-- TRN_NAV_UNIT (R297, R299): a unit of a data channel in TRACK. -/
def execTrnNavUnit (n : Nat) (u : TrnNav) (s : State) : Host.Outcome State Fault Refusal :=
  s.runIn .trn (fun s => s.trnDo n (fun s =>
    if (s.tch n).st != .track || !(tSig (s.tch n).cfg % 2 == 0) then s else s.trnUnit n u))

/-- A write of `TRN_RXT_HI` makes the receiver time effective. -/
def State.trnRxtHi (v : Word) (s : State) : State :=
  let t := s.wr R.TRN_RXT_HI v
  t.setTrn (fun x => { x with rxtNew := some (t.rd64 R.TRN_RXT_LO R.TRN_RXT_HI) })

/-- TRN_RXT_HI_WRITE (R298): the pair applies at the next epoch. -/
def execTrnRxtHiWrite (ini : Initiator) (v : Word) (s : State) : Host.Outcome State Fault Refusal :=
  s.runIn .trn (fun s => s.owned ini fTRN .trn .gns (fun s => s.trnRxtHi v))

/-! ### Antennas -/

/-- Notification TRN_ANTENNA (R282) with the status bits of both paths. -/
def State.trnAntNote (s : State) (a m set : Nat) : State :=
  let x := s.trn.ants.getD a {}
  let sh (s : State) (p : Nat) : State := (s.wb (R.TRN_FE_STATUS p) 9 x.open_).wb (R.TRN_FE_STATUS p) 10 x.short
  (sh (sh s (2 * a)) (2 * a + 1)).notify fTRN 0x82 [byte a, byte m, byte set, 0#8]

/-- Changes an antenna feed. -/
def State.setAnt (s : State) (a : Nat) (f : TrnAnt → TrnAnt) : State :=
  s.setTrn (fun t => { t with ants := updAt t.ants a f })

/-- TRN_ANT_FAULT (R282, R556): the feed current of a supplied antenna stands at `ma`. -/
def execTrnAntFault (a ma : Nat) (s : State) : Host.Outcome State Fault Refusal :=
  s.runIn .trn (fun s =>
    let x := s.trn.ants.getD a {}
    if !(a < 2 && s.bt R.TRN_FE_CFG (4 + a)) || x.short then s
    else if clampN 130 180 Config.antShortMa < ma then
      let s := s.setAnt a (fun x => { x with short := true, retryAt := s.clk.tb + tbMs 1000 })
      s.trnAntNote a 2 1
    else
      let o := decide (ma < clampN 2 8 Config.antOpenMa)
      if o = x.open_ then s else (s.setAnt a (fun x => { x with open_ := o })).trnAntNote a 1 (b2n o))

/-- TRN_ANT_RETRY (R282): the feed retries 1 s after a short. -/
def execTrnAntRetry (a ma : Nat) (s : State) : Host.Outcome State Fault Refusal :=
  s.runIn .trn (fun s =>
    let x := s.trn.ants.getD a {}
    if !x.short || s.clk.tb < x.retryAt then s
    else if s.bt R.TRN_FE_CFG (4 + a) && clampN 130 180 Config.antShortMa < ma then
      s.setAnt a (fun x => { x with retryAt := s.clk.tb + tbMs 1000 })
    else (s.setAnt a (fun x => { x with short := false })).trnAntNote a 2 0)

/-! ### Commands -/

/-- Whether a handover pair is permitted (R295). -/
def trnPair (src tgt antS antT : Nat) : Bool :=
  (src == 0 && ((tgt == 0 && antS != antT) || tgt == 1)) || (src == 3 && ((tgt == 3 && antS != antT) || tgt == 5))

/-- Whether a slave fits its master: same satellite and carrier (R284). -/
def trnSlavePair (m sl : Nat) : Bool := (m == 1 && sl == 2) || (m == 3 && sl == 4) || (m == 5 && sl == 6)

/-- TRN_CHANNEL (R284, R287, R295, R303, R305). -/
def execTrnChannel (c : Cmd) (s : State) : Host.Outcome State Fault Refusal :=
  s.runIn (Foot.trn.and [.shadow] []) (fun s => s.command fTRN 0x10 1 c (fun _ s =>
    let p := c.payload
    let n := u8 p 0
    let g := u8 p 1
    let rf := u8 p 5
    let base := s.fd R.TRN_ALLOC 7 0
    let rw := s.shadowRd (R.TRN_CH_CFG rf)
    let sp := s.shadowRd (R.TRN_CH_SPACE n)
    if p.length != 16 then refuse stBAD_LENGTH s
    else if 128 ≤ n || 1 < u8 p 2 || 1 < u8 p 6 || 128 ≤ rf || !trnValid g (u8 p 3) (u8 p 4) then refuse stBAD_PARAM s
    else if n < base then refuse stNOT_PERMITTED s
    else if fld sp 12 6 ≤ fld sp 5 0 || fld sp 5 0 = 0 then refuse stBAD_PARAM s
    else if u8 p 4 != 0 && rf < base then refuse stBAD_PARAM s
    else if u8 p 4 = 1 && !trnPair (tSig rw) g (tAnt rw) (u8 p 2) then refuse stBAD_PARAM s
    else if u8 p 4 = 2 && !(trnSlavePair (tSig rw) g && tAnt rw == u8 p 2 && tSv rw == u8 p 3) then refuse stBAD_PARAM s
    else
      let w := word (u8 p 6 + 2 * g + 16 * u8 p 2 + 32 * u8 p 3 + 2048 * rf + 262144 * u8 p 4)
      let t := s.shadowWr (R.TRN_CH_CFG n) 7 (setBit w 20 (bit (s.shadowRd (R.TRN_CH_CFG n)) 20))
      let t := (t.shadowWr (R.TRN_CH_INIT_CP n) 7 (w32 p 8)).shadowWr (R.TRN_CH_INIT_DOP n) 7 (w32 p 12)
      (.now stOK [], t.applyShadow 7)))

/-- TRN_ACQUIRE (R292, R294, R303, R305). -/
def execTrnAcquire (c : Cmd) (s : State) : Host.Outcome State Fault Refusal :=
  s.runIn .trn (fun s => s.command fTRN 0x11 1 c (fun _ s =>
    let p := c.payload
    let e := u8 p 0
    let auto := if u8 p 6 = 0xFF then none else some (u8 p 6)
    let base := s.fd R.TRN_ALLOC 7 0
    if p.length != 12 then refuse stBAD_LENGTH s
    else if 2 ≤ e || 1 < u8 p 1 || 1 < u8 p 2 || !trnValid (if u8 p 1 = 0 then 0 else 3) (u8 p 3) 0 || u8 p 4 < 1 ||
        8 < u8 p 4 || 3 < u8 p 5 || 6000 < u16 p 10 || (auto.isSome && 128 ≤ u8 p 6) then refuse stBAD_PARAM s
    else if auto.isSome && u8 p 6 < base then refuse stNOT_PERMITTED s
    else if !s.isRunning fTRN then refuse stWRONG_STATE s
    else
      let r := s.trnQueue e { sig := u8 p 1, ant := u8 p 2, sv := u8 p 3, nc := u8 p 4, verify := u8 p 5, auto := auto,
                              centre := i16 p 8, span := u16 p 10, th := s.fd (R.TRN_ACQ_TH e) 15 0, host := true }
      if r.1 then (.now stOK [], r.2) else refuse stNO_RESOURCE s))

/-- TRN_RAW_OPEN (R300, R560). -/
def execTrnRawOpen (c : Cmd) (s : State) : Host.Outcome State Fault Refusal :=
  s.runIn .trn (fun s => s.command fTRN 0x12 0 c (fun k s =>
    if c.payload.length != 2 then refuse stBAD_LENGTH s
    else if 15 < u8 c.payload 0 then refuse stBAD_PARAM s
    else ringReply s (s.openRing k fTRN 0 (u8 c.payload 0) (u8 c.payload 1) false [])))

/-- TRN_RAW_CLOSE (R305). -/
def execTrnRawClose (c : Cmd) (s : State) : Host.Outcome State Fault Refusal :=
  s.runIn .trn (fun s => s.command fTRN 0x13 0 c (fun k s =>
    let n := u8 c.payload 0
    if c.payload.length != 1 then refuse stBAD_LENGTH s
    else
      match s.ring? n with
      | some r => if r.fn = fTRN && r.session = k then (.now stOK [], s.closeRing n) else refuse stBAD_PARAM s
      | none => refuse stBAD_PARAM s))

/-- TRN_READ_CH (R305). -/
def execTrnReadCh (c : Cmd) (s : State) : Host.Outcome State Fault Refusal :=
  s.runIn .trn (fun s => s.command fTRN 0x14 0 c (fun _ s =>
    let n := u8 c.payload 0
    if c.payload.length != 1 then refuse stBAD_LENGTH s
    else if 128 ≤ n then refuse stBAD_PARAM s
    else okWith ((List.range 8).flatMap (fun i => wBytes (s.rd (R.TRN_CH_STATUS n + 4 * i)))) s))

/-! ### Status, configuration, start and stop -/

/-- TRN_GET_STATUS after the common bytes (R305). -/
def State.trnStatus (s : State) : List Byte :=
  let cnt (x : TrnSt) : Nat := (s.trn.chs.filter (fun c => c.st == x)).length
  [byte (cnt .track), byte (cnt .pullin), byte (cnt .lost), 0#8] ++
  (List.range 4).map (fun p => byte (s.fd (R.TRN_FE_STATUS p) 10 8)) ++ wBytes (s.rd R.TRN_EPOCHS) ++
  wBytes (s.rd R.TRN_RAW_LOST)

/-- CONFIGURE of TRN (R305). -/
def trnCfgCheck (p : List Byte) : Nat :=
  if p.length != 16 then stBAD_LENGTH
  else if 6 < fld (w32 p 4) 2 0 || 128 < fld (w32 p 8) 7 0 then stBAD_PARAM
  else stOK

/-- APPLY of TRN (R305): the words are written at once; RUN follows START and STOP. -/
def State.trnApply (s : State) (p : List Byte) : State :=
  (((s.wr R.TRN_CTRL (setBit (w32 p 0 &&& 3#32) 0 (s.bt R.TRN_CTRL 0))).wr R.TRN_MEAS_CFG (w32 p 4 &&& 7#32)).wr R.TRN_ALLOC
    (w32 p 8 &&& 0xFF#32)).wr R.TRN_FE_CFG (w32 p 12 &&& 0x3F#32)

/-- START of TRN. -/
def State.trnStart (s : State) : State := s.wb R.TRN_CTRL 0 true

/-- STOP of TRN (R304): effective at the next millisecond boundary. -/
def State.trnStop (s : State) : State := s.wb R.TRN_CTRL 0 false

/-- REINIT of TRN (R304): all channel state is lost; rings stay open. -/
def State.trnReinit (s : State) : State :=
  let s := (List.range 128).foldl (fun (s : State) n => s.trnIdle n) (s.wb R.TRN_CTRL 0 false)
  let t := s.setTrn (fun t => { ({} : Trn) with lastEpoch := t.lastEpoch, lastMs := t.lastMs })
  ((List.range 2).foldl (fun (s : State) e => s.trnEngShow e) t)

end Sys2Proof.Machine
end

