-- ==== Sys2Proof/Machine/Position.lean ====
section
/-!
DEFINITION. The position service and the key-off sentry (chapter 13): solutions, quality, fusion, output, time and
discipline, PPS, RTCM 3 input, the sentry store and commands.
-/
namespace Sys2Proof.Machine

/-- Function ID of the position service. -/
def fPOS : Nat := 11

/-- Changes the state of the position service. -/
def State.setPos (s : State) (f : Pos → Pos) : State := { s with pos := f s.pos }

/-- Whether the service computes: RUNNING and not in EXPERT (R326). -/
def State.posOn (s : State) : Bool := s.isRunning fPOS && !s.expert fPOS

/-- `POS_GPST`: GPS time of TB 0 in ns. -/
def State.gpst (s : State) : Nat := s.rd64 R.POS_GPST_LO R.POS_GPST_HI

/-- GPS time at a TB value (R318). -/
def State.gpsAt (s : State) (tb : Nat) : Nat := s.gpst + 20 * tb

/-- TIME_VALID. -/
def State.timeValid (s : State) : Bool := s.bt R.POS_STATUS 6

/-- Notification POS_TIME (R318). -/
def State.posTimeNote (s : State) (kind : Nat) (step : Int) : State :=
  s.notify fPOS 0x81 ([byte kind, 0#8, 0#8, 0#8] ++ leBytes 8 (step % ((2 ^ 64 : Nat) : Int)).toNat)

/-- Discipline starts or stops (R319, R442), with its notification. -/
def State.posDisc (s : State) (on : Bool) : State :=
  if s.bt R.POS_STATUS 7 = on then s
  else
    let t := s.wb R.POS_STATUS 7 on
    let t := if !on || t.fd R.ETH_TIME_CFG 1 0 = 1 then t.wb R.ETH_TIME_STATUS 2 on else t
    t.posTimeNote (if on then 2 else 3) 0

/-- Quality and heading quality change (R309, R315, R319): the status register, POS_QUALITY on a change of quality, discipline
only from quality 2. -/
def State.posQual (s : State) (q hq : Nat) : State :=
  let old := s.pos.quality
  let t := s.setPos (fun p => { p with quality := q, hq := hq, drSince := if q = 1 && old != 1 then s.clk.tb else p.drSince })
  let t := (t.wf_ R.POS_STATUS 2 0 q).wf_ R.POS_STATUS 5 3 hq
  let t := if q < 2 then t.posDisc false else t
  if q = old then t else t.notify fPOS 0x80 [byte q, byte hq, byte old]

/-! ### Solutions -/

/-- The interval of solutions in TB units (R307). -/
def State.posPeriod (s : State) : Nat :=
  let r := s.trnRate
  if r = 50 then 5000000 else if r = 100 then 2500000 else 50000000 / r

/-- Whether the measurement of a channel may enter the solution (R307): component, CODE_LOCK, AMB 0, elevation and C/N0. -/
def State.posUses (s : State) (u : Nat × Nat) : Bool :=
  let c := s.tch u.1
  let g := tSig c.cfg
  let cfg := s.rd R.POS_RTK_CFG
  (g == 0 || g == 1 || g == 3 || g == 5) && (c.st == .pullin || c.st == .track || c.st == .lost) &&
  c.code && c.amb == 0 && fld cfg 20 16 < u.2 && 100 * fld cfg 31 24 ≤ c.cn0 &&
  (s.bt R.POS_CTRL 10 || !(g == 3 || g == 5)) && (s.bt R.POS_CTRL 11 || !(g == 1 || g == 5))

/-- The satellites of the measurements that may enter: constellation and number, each once. -/
def State.posSats (s : State) (us : List (Nat × Nat)) : List (Bool × Nat) :=
  ((us.filter s.posUses).map (fun u => (decide (3 ≤ tSig (s.tch u.1).cfg), tSv (s.tch u.1).cfg))).eraseDups

/-- Whether the satellites are enough (R307). -/
def posEnough (l : List (Bool × Nat)) : Bool :=
  if l.any (fun x => x.1) && l.any (fun x => !x.1) then 5 ≤ l.length else 4 ≤ l.length

/-- Whether corrections are young enough at an epoch (R309). -/
def State.posCorrOk (s : State) (tb : Nat) : Bool :=
  match s.pos.corrAt with
  | some t => decide (tb ≤ t + 50000000 * s.fd R.POS_RTK_CFG 5 0)
  | none => false

/-- The quality of a solution (R309). -/
def State.posQuality (s : State) (tb : Nat) (x : PosSol) : Nat :=
  if !s.posCorrOk tb || x.corr = 0 then 2
  else if x.corr = 1 then 3
  else if x.corr = 3 && 5 ≤ x.fixed && s.fd R.POS_RTK_CFG 15 8 ≤ x.ratio then 5
  else 4

/-- The heading quality (R315) with the heading a dual antenna gives. -/
def State.posHeading (s : State) (x : PosSol) : Nat × Option Nat :=
  let b := s.rd R.POS_BASE
  let dual := 1000 ≤ fld b 15 0 && s.bt R.POS_CTRL 12 && x.dual != 0
  let dir := ((x.az : Int) - (fld b 31 16 : Nat)) % 36000
  let close := (x.len - (fld b 15 0 : Nat)).natAbs ≤ 20
  if dual then (if x.dual = 2 && close then 4 else 3, some dir.toNat)
  else if 250000 < x.fix.vn * x.fix.vn + x.fix.ve * x.fix.ve then (2, none)
  else (if s.pos.heading then 1 else 0, none)

/-- Time from a solution (R318): set at the first of quality 2, else the bias and, above 1 ms, a step that waits. -/
def State.posTime (s : State) (tb gnss : Nat) : State :=
  if !s.timeValid then
    let g := (((gnss : Int) - (20 * tb : Nat)) % ((2 ^ 64 : Nat) : Int)).toNat
    let t := (s.wr64 R.POS_GPST_LO R.POS_GPST_HI g).wb R.POS_STATUS 6 true
    let t := if t.trnDomeAid then
        (t.wr64 R.TRN_RXT_LO R.TRN_RXT_HI g).setTrn (fun y => { y with rxtNew := some g })
      else t
    let t := (t.wr R.POS_BIAS 0#32).setPos (fun p => { p with ppsSec := t.gpsAt s.clk.tb / 1000000000 })
    t.posTimeNote 0 0
  else
    let b : Int := (gnss : Int) - (s.gpsAt tb : Nat)
    let t := s.wr R.POS_BIAS (iword (sat32 b))
    if 1000000 < b.natAbs && s.pos.step.isNone then t.setPos (fun p => { p with step := some b }) else t

/-- The filter's GNSS update (R310): accepted, rejected, or after 1 s and five rejections a reset. -/
def State.posFilter (s : State) (x : PosSol) : State :=
  if !x.exceeds then s.setPos (fun p => { p with est := x.est, rejects := 0 })
  else
    let since := if s.pos.rejects = 0 then s.clk.tb else s.pos.rejSince
    let t := (s.inc R.POS_GATE_REJ).setPos (fun p => { p with rejects := p.rejects + 1, rejSince := since })
    if 5 ≤ t.pos.rejects && t.tbPast since 50000000 then
      (t.inc R.POS_RESETS).setPos (fun p => { p with
        rejects := 0,
        est := ({ p.est with
          lat := x.fix.lat, lon := x.fix.lon, h := x.fix.h, vn := x.fix.vn, ve := x.fix.ve, vu := x.fix.vu,
          hAcc := x.fix.hAcc, vAcc := x.fix.vAcc } : PosEst) })
    else t

/-- Doppler rates for Dome's channels (R291, R303). -/
def State.posAid (s : State) (l : List (Nat × Int)) : State :=
  if !s.trnDomeAid then s
  else
    l.foldl (fun (s : State) a =>
      if a.1 < min 128 (s.fd R.TRN_ALLOC 7 0) then s.wr (R.TRN_CH_AID a.1) (iword a.2) else s) s

/-- POS_SOLUTION (R307, R309, R310, R315, R317, R318): one solution for the latest epoch on the solution grid. -/
def execPosSolution (x : PosSol) (s : State) : Host.Outcome State Fault Refusal :=
  s.runIn (Foot.pos.and [.trn] [.eth, .trn]) (fun s =>
    let tb := s.trn.lastEpoch / s.posPeriod * s.posPeriod
    if !s.posOn || tb ≤ s.pos.lastSol then s
    else
      let s := s.setPos (fun p => { p with lastSol := tb })
      let sats := s.posSats x.used
      if x.found && posEnough sats then
        let s := (s.inc R.POS_SOLS).wf_ R.POS_STATUS 15 9 sats.length
        let q := s.posQuality tb x
        let h := s.posHeading x
        let s := s.setPos (fun p => { p with
          sats := sats.length, drift := x.drift, corrUse := decide (3 ≤ q), heading := p.heading || 2 ≤ h.1 })
        let s := (s.posFilter x).posQual q h.1
        let s := match h.2 with
          | some d => s.setPos (fun p => { p with est := { p.est with head := d } })
          | none => s
        (s.posTime tb x.gnss).posAid x.aids
      else
        let s := (s.setPos (fun p => { p with sats := 0, corrUse := false })).wf_ R.POS_STATUS 15 9 0
        let hq := if s.pos.heading then 1 else 0
        if s.pos.quality = 0 then s.posQual 0 0
        else if s.fd R.POS_DR_MAX 9 0 = 0 then s.posQual 0 0
        else s.posQual 1 hq)

/-- POS_CORR_AGE_EXPIRY (R309): at the first epoch after AGE_MAX the corrections are no longer used. -/
def execPosCorrAgeExpiry (s : State) : Host.Outcome State Fault Refusal :=
  s.runIn (Foot.pos.and [] [.eth]) (fun s =>
    let tb := s.trn.lastEpoch / s.posPeriod * s.posPeriod
    if s.posOn && 3 ≤ s.pos.quality && !s.posCorrOk tb then
      (s.setPos (fun p => { p with corrUse := false })).posQual 2 s.pos.hq
    else s)

/-- The speed along the vehicle axis from odometry, in mm/s (R310): none without a scale or a valid input. -/
def State.posOdo (s : State) : Option Int :=
  let c := s.rd R.POS_ODO_CFG
  let um := (s.rd R.POS_ODO_SCALE).toNat
  if um = 0 || !s.sigOk (fld c 8 0) || (bit c 25 && !s.sigOk (fld c 24 16)) then none
  else
    let v := divFree (s.sigI (fld c 8 0) * um) 1000000
    some (if bit c 25 && Config.odoReverse (s.sig (fld c 24 16)) then -v else v)

/-- POS_INERTIAL_SAMPLE (R310, R311): the filter's estimate after propagation, with odometry and steering at 100 Hz. -/
def execPosInertialSample (x : PosEst) (s : State) : Host.Outcome State Fault Refusal :=
  s.runIn (Foot.pos.and [] [.eth]) (fun s =>
    if !s.posOn then s
    else
      let s := s.setPos (fun p => { p with est := x, tbSol := s.clk.tb, samples := p.samples + 1 })
      let s := if s.pos.quality ≥ 2 && !s.trn.run then s.posQual 1 (if s.pos.heading then 1 else 0) else s
      if s.pos.samples % 10 != 0 then s
      else
        let o := s.posOdo
        let c := s.rd R.POS_STEER_CFG
        s.setPos (fun p => { p with
          odo := o, odoAt := if o.isSome then s.clk.tb else p.odoAt,
          steer := if bit c 9 && s.sigOk (fld c 8 0) then some (s.sigI (fld c 8 0), fld c 31 16) else none }))

/-- POS_DR_EXPIRY (R311): `POS_DR_MAX` seconds of dead reckoning, or 2 s of it without odometry. -/
def execPosDrExpiry (s : State) : Host.Outcome State Fault Refusal :=
  s.runIn (Foot.pos.and [] [.eth]) (fun s =>
    let d := s.pos.drSince
    if s.posOn && s.pos.quality = 1 &&
        (s.tbPast d (50000000 * min 600 (s.fd R.POS_DR_MAX 9 0)) || s.tbPast (max d s.pos.odoAt) 100000000) then
      s.posQual 0 0
    else s)

/-! ### Output -/

/-- Writes a signal entry, or makes it invalid where its condition fails. -/
def State.posSig (s : State) (n : Nat) (ok : Bool) (v : Int) : State :=
  if ok then s.setSig n (iword v) else s.dropSig n

/-- POS_OUTPUT (R312 to R314): from 25 µs after each tick boundary whose count is a multiple of 200. -/
def execPosOutput (s : State) : Host.Outcome State Fault Refusal :=
  s.runIn .pos (fun s =>
    let k := s.clk.tickCount / 200
    let late := s.clk.tickCount % 200 != 0 || 10000 ≤ s.clk.phase
    if !s.posOn || k ≤ s.pos.outAt || !late || !s.clk.due.isEmpty then s
    else
      let s := s.setPos (fun p => { p with outAt := k })
      let e := s.pos.est
      let q := s.pos.quality
      let ok := q != 0
      let hd := ok && s.pos.hq != 0
      let tv := s.timeValid
      let ms := s.gpsAt s.pos.tbSol / 1000000
      let oLat := (s.rd R.POS_ORIGIN_LAT).toInt
      let oLon := (s.rd R.POS_ORIGIN_LON).toInt
      let org := ok && (oLat != 0 || oLon != 0)
      let s := ((s.posSig 0x80 ok e.lat).posSig 0x81 ok e.lon).posSig 0x82 ok e.h
      let s := ((s.posSig 0x83 hd e.head).posSig 0x84 true q).posSig 0x85 true s.pos.hq
      let s := ((s.posSig 0x86 ok e.vn).posSig 0x87 ok e.ve).posSig 0x88 ok e.vu
      let s := ((s.posSig 0x89 ok e.spd).posSig 0x8A ok e.roll).posSig 0x8B ok e.pit
      let s := ((s.posSig 0x8C ok e.yaw).posSig 0x8D ok e.ax).posSig 0x8E ok e.ay
      let s := ((s.posSig 0x8F ok e.hAcc).posSig 0x90 ok e.vAcc).posSig 0x91 hd e.dAcc
      let s := s.posSig 0x92 true s.pos.sats
      let s := s.posSig 0x93 s.pos.corrUse ((s.clk.tb - s.pos.corrAt.getD s.clk.tb) / 5000000 : Nat)
      let s := s.posSig 0x94 true (if q = 1 then ((s.clk.tb - s.pos.drSince) / 50000 : Nat) else 0)
      let s := s.posSig 0x95 true s.pos.tbSol
      let s := (s.posSig 0x96 tv (ms / 604800000 : Nat)).posSig 0x97 tv (ms % 604800000 : Nat)
      let s := (s.posSig 0x98 org (Config.posEast e.lat e.lon oLat oLon)).posSig 0x99 org
        (Config.posNorth e.lat e.lon oLat oLon)
      s.posSig 0x9A tv (s.rd R.POS_BIAS).toInt)

/-! ### Discipline and PPS -/

/-- POS_DISCIPLINE (R319): once per second, the drift plus the bias over 100 s, clipped to the range of TRIM_SEL. -/
def execPosDiscipline (s : State) : Host.Outcome State Fault Refusal :=
  s.runIn (Foot.pos.and [] [.eth]) (fun s =>
    if !s.posOn || !s.tbPast s.pos.discAt 50000000 then s
    else
      let s := s.setPos (fun p => { p with discAt := s.clk.tb })
      if s.bt R.POS_CTRL 0 && s.fd R.ETH_TIME_CFG 1 0 = 1 && 2 ≤ s.pos.quality && s.timeValid then
        (s.setTrim (s.pos.drift + divFree (s.rd R.POS_BIAS).toInt 100)).posDisc true
      else s.posDisc false)

/-- POS_PPS (R320): the output rises where GPS time passes a whole second. -/
def execPosPps (s : State) : Host.Outcome State Fault Refusal :=
  s.runIn .pos (fun s =>
    let sec := s.gpsAt s.clk.tb / 1000000000
    let mode := s.fd R.POS_CTRL 2 1
    if !s.posOn || !s.timeValid || sec ≤ s.pos.ppsSec then s
    else
      let s := s.setPos (fun p => { p with ppsSec := sec })
      let good := decide (2 ≤ s.pos.quality)
      if mode = 2 || (mode = 1 && good) then
        let s := (s.setPos (fun p => { p with ppsAt := some s.clk.tb })).wb R.POS_STATUS 8 (mode == 2 && !good)
        { s with out := s.out ++ [.bytes .pps 1 []] }
      else s.wb R.POS_STATUS 8 false)

/-- The PPS output falls. -/
def State.ppsLow (s : State) : State :=
  match s.pos.ppsAt with
  | none => s
  | some _ => { s.setPos (fun p => { p with ppsAt := none }) with out := s.out ++ [.bytes .pps 0 []] }

/-- POS_PPS_END (R320): after PPS_W ms. -/
def execPosPpsEnd (s : State) : Host.Outcome State Fault Refusal :=
  s.runIn .pos (fun s =>
    match s.pos.ppsAt with
    | none => s
    | some t => if s.tbPast t (tbMs (s.fd R.POS_CTRL 9 3)) then s.ppsLow else s)

/-! ### RTCM 3 -/

/-- Message types whose content the service uses as observations (R308). -/
def rtcmMsm (ty : Nat) : Bool := [1074, 1075, 1077, 1094, 1095, 1097].contains ty

/-- A whole frame, preamble to CRC (R308): whether it is accepted, and its effect. -/
def State.posFrame (s : State) (p : List Byte) : Bool × State :=
  let n := p.length
  let len := (u8 p 1 % 4) * 256 + u8 p 2
  if u8 p 0 != 0xD3 || n != len + 6 || crc24q (p.take (n - 3)) != beNat (p.drop (n - 3)) then (false, s.inc R.POS_RTCM_ERR)
  else
    let body := slice p 3 len
    let ty := beNat (body.take 2) / 16
    let id := beNat (slice body 1 2) % 4096
    let ref := ty == 1005 || ty == 1006
    let place := beNat (slice body 4 15)
    let s := s.inc R.POS_RTCM_OK
    if rtcmMsm ty || ref then
      let change := (s.pos.refId.isSome && s.pos.refId != some id) ||
        (ref && s.pos.refPos.isSome && s.pos.refPos != some place)
      (true, s.setPos (fun q => { q with
        corrAt := if rtcmMsm ty then some s.clk.tb else q.corrAt,
        refId := some id,
        refPos := if ref then some place else q.refPos,
        ambNew := if change then q.ambNew + 1 else q.ambNew }))
    else (true, s)

/-- Takes whole frames off a stream of bytes: the bytes left, the frames accepted and rejected, the state. -/
def State.posParse (s : State) : Nat → List Byte → Nat → Nat → List Byte × Nat × Nat × State
  | 0, p, a, r => (p, a, r, s)
  | fuel + 1, p, a, r =>
    let p := p.dropWhile (fun b => b != 0xD3#8)
    if p.length < 3 then (p, a, r, s)
    else
      let n := (u8 p 1 % 4) * 256 + u8 p 2 + 6
      if p.length < n then (p, a, r, s)
      else
        let x := s.posFrame (p.take n)
        x.2.posParse fuel (p.drop n) (a + b2n x.1) (r + b2n (!x.1))

/-- Bytes of a source's stream: sessions 0 to 15, 16 CAN, 17 fleet. Answers frames accepted and rejected. -/
def State.posBytes (s : State) (k : Nat) (p : List Byte) : Nat × Nat × State :=
  let old := match s.pos.streams.lookup k with
    | some l => l
    | none => []
  let b := old ++ p
  let x := s.posParse (b.length + 1) b 0 0
  (x.2.1, x.2.2.1, x.2.2.2.setPos (fun q => { q with
    streams := (k, x.1) :: q.streams.filter (fun e => e.1 != k) }))

/-- POS_RTCM_FRAME (R308): a frame from CAN (0) or the fleet relay (1), where that source is enabled. -/
def execPosRtcmFrame (src : Nat) (p : List Byte) (s : State) : Host.Outcome State Fault Refusal :=
  s.runIn .pos (fun s => if s.posOn && nbit s.pos.src src then (s.posFrame p).2 else s)

/-- POS_RTCM (R308, R327). -/
def execPosRtcm (c : Cmd) (s : State) : Host.Outcome State Fault Refusal :=
  s.runIn .pos (fun s => s.command fPOS 0x10 0 c (fun k s =>
    let p := c.payload
    if p.length = 0 || 4096 < p.length then refuse stBAD_LENGTH s
    else if !(s.posOn && nbit s.pos.src 2) then okWith (leBytes 4 0) s
    else
      let x := s.posBytes k p
      okWith (leBytes 2 x.1 ++ leBytes 2 x.2.1) x.2.2))

/-- POS_RTCM_SRC (R327). -/
def execPosRtcmSrc (c : Cmd) (s : State) : Host.Outcome State Fault Refusal :=
  s.runIn .pos (fun s => s.command fPOS 0x11 1 c (fun _ s =>
    let p := c.payload
    if p.length != 8 then refuse stBAD_LENGTH s
    else if 7 < u8 p 0 || 15 < u8 p 1 then refuse stBAD_PARAM s
    else okWith [] (s.setPos (fun q => { q with src := u8 p 0, canCtl := u8 p 1, canId := u32 p 4 }))))

/-- POS_ORIGIN (R327). -/
def execPosOrigin (c : Cmd) (s : State) : Host.Outcome State Fault Refusal :=
  s.runIn .pos (fun s => s.command fPOS 0x12 0 c (fun _ s =>
    let p := c.payload
    if p.length != 8 then refuse stBAD_LENGTH s
    else if s.pos.quality = 0 then refuse stWRONG_STATE s
    else
      let here := u32 p 0 = 0 && u32 p 4 = 0
      let lat := if here then iword s.pos.est.lat else w32 p 0
      let lon := if here then iword s.pos.est.lon else w32 p 4
      okWith [] ((s.wr R.POS_ORIGIN_LAT lat).wr R.POS_ORIGIN_LON lon)))

/-! ### Sentry -/

/-- Changes the sentry program. -/
def State.setSentry (s : State) (f : Sentry → Sentry) : State :=
  s.setPos (fun p => { p with sentry := f p.sentry })

/-- The AON count since key-off, in 1/32,768 s (R321). -/
def State.aonCount (s : State) : Nat := s.aonTicks (s.clk.now - s.pos.sentry.keyOffAt)

/-- Units the store holds in a mode (R322). -/
def sentryCap (mode : Nat) : Nat := if mode = 2 then 12 else 384

/-- Shows SNAPS and SETS. -/
def State.sentryShow (s : State) : State :=
  let u := s.pos.sentry.units
  let snaps := (u.filter (fun x => match x with | .snap _ _ _ => true | .set _ _ _ => false)).length
  (s.wf_ R.POS_SENTRY_STATUS 3 0 snaps).wf_ R.POS_SENTRY_STATUS 12 4 (u.length - snaps)

/-- Stores a unit; a full store loses its oldest (R322). -/
def State.sentryStore (s : State) (u : SentryUnit) : State :=
  let full := sentryCap s.pos.sentry.mode ≤ s.pos.sentry.units.length
  let s := s.setSentry (fun y => { y with units := (if full then y.units.drop 1 else y.units) ++ [u] })
  let s := if full then s.wf_ R.POS_SENTRY_STATUS 31 16 (min 65535 (s.fd R.POS_SENTRY_STATUS 31 16 + 1)) else s
  s.sentryShow

/-- A sentry event (R324): recorded, and a wake where `PWR_WAKE_EN`.SENTRY is set. -/
def State.sentryEvent (s : State) (e : Nat) : State :=
  let s := s.wf_ R.POS_SENTRY_STATUS 15 14 e
  if s.bt R.PWR_WAKE_EN 6 then s.setSentry (fun y => { y with wake := true }) else s

/-- Key-off to SENTRY (R321, R325): an empty store, the last navigation state, and the channels tracked on path 0, at most 30. -/
def State.sentryBegin (s : State) : State :=
  let chs := ((List.range 128).filterMap (fun n =>
    let c := s.tch n
    let g := tSig c.cfg
    if c.st = .track && tAnt c.cfg = 0 && (g == 0 || g == 3) then
      some ({ sv := tSv c.cfg, sig := g, dref := divFree c.dop 256, rate := Config.sentryRate g (tSv c.cfg) } : SentryCh)
    else none)).take 30
  let mode := s.fd R.POS_SENTRY_CFG 1 0
  let first := if mode = 2 then 32768 * clampN 60 86400 (s.fd R.POS_SENTRY_INT 16 0) else 32768
  let s := s.setSentry (fun _ => { on := true, mode := mode, keyOffAt := s.clk.now, next := first, chs := chs, nav := s.pos.est })
  s.wr R.POS_SENTRY_STATUS 0#32

/-- SENTRY ends: the program stops; the store stays (R325). -/
def State.sentryEnd (s : State) : State := s.setSentry (fun y => { y with on := false, wake := false })

/-- At READY after a wake from SENTRY the service sends POS_SENTRY and starts from the stored navigation state (R325). -/
def State.sentryNote (s : State) : State :=
  let s := s.setPos (fun p => { p with est := p.sentry.nav })
  let w := s.rd R.POS_SENTRY_STATUS
  s.notify fPOS 0x82 ([byte (fld w 15 14), byte (fld w 3 0)] ++ leBytes 2 (fld w 12 4) ++ leBytes 4 (fld w 31 16))

/-- The residuals of R323, in 2^-16 mHz: the found channels' Doppler less the reference. -/
def sentryRes (dt : Nat) (l : List (SentryCh × SentryHit)) : List Int :=
  l.map (fun x => (x.2.dop - x.1.dref) * 65536 - x.1.rate * (dt : Int))

/-- Whether the residuals less their mean exceed MOVE_TH (0.1 Hz) in the root mean square: n³·th² against Σ(n·r - Σr)². -/
def sentryMoves (th : Nat) (r : List Int) : Bool :=
  let n : Int := (r.length : Nat)
  let m := isum r
  let lim : Int := ((th * 100 * 65536 : Nat) : Int)
  decide (n * n * n * (lim * lim) < isum (r.map (fun x => (n * x - m) * (n * x - m))))

/-- SENTRY_BURST (R323). -/
def execSentryBurst (hits : List SentryHit) (s : State) : Host.Outcome State Fault Refusal :=
  s.runIn .pos (fun s =>
    let y := s.pos.sentry
    let t := s.aonCount
    if !(y.on && y.mode == 1 && y.next ≤ t) then s
    else
      let cfg := s.rd R.POS_SENTRY_CFG
      let hit (c : SentryCh) : Option SentryHit := hits.find? (fun h => h.sv == c.sv && h.sig == c.sig)
      let found := y.chs.filterMap (fun c => (hit c).map (fun h => (c, h)))
      let good := found.filter (fun x => 3000 ≤ x.2.cn0)
      let chs := (y.chs.map (fun c => { c with miss := if (hit c).isSome then 0 else c.miss + 1 })).filter
        (fun c => c.miss < 3)
      let notest := decide (good.length < 4)
      let dt := t - y.refAt
      let moves := !notest && sentryMoves (fld cfg 15 8) (sentryRes dt good)
      let moving := if notest then y.moving else if moves then y.moving + 1 else 0
      let still := !notest && !moves
      let chs := if !still then chs
        else chs.map (fun c =>
          match good.find? (fun x => x.1.sv == c.sv && x.1.sig == c.sig) with
          | some x => { c with dref := x.2.dop, rate := divFree ((x.2.dop - c.dref) * 65536) dt }
          | none => c)
      let s := s.setSentry (fun y => { y with
        next := y.next + 32768, chs := chs, moving := moving, bursts := y.bursts + 1,
        refAt := if still then t else y.refAt })
      let s := if s.pos.sentry.bursts % max 1 (fld cfg 27 16) = 0 then
          s.sentryStore (.set t notest (found.map (fun x => x.2)))
        else s
      if moves && moving = fld cfg 7 4 then s.sentryEvent 1 else s)

/-- SENTRY_SNAPSHOT (R324). -/
def execSentrySnapshot (p : List Byte) (s : State) : Host.Outcome State Fault Refusal :=
  s.runIn .pos (fun s =>
    let y := s.pos.sentry
    let t := s.aonCount
    if !(y.on && y.mode == 2 && y.next ≤ t) then s
    else
      let s := s.setSentry (fun y => { y with
        next := y.next + 32768 * clampN 60 86400 (s.fd R.POS_SENTRY_INT 16 0), snaps := y.snaps + 1 })
      let s := s.sentryStore (.snap t y.snaps (padTo 16368 p))
      if s.pos.sentry.snaps = 12 && s.bt R.POS_SENTRY_CFG 2 then s.sentryEvent 2 else s)

/-- The bytes of a stored unit (R322). -/
def SentryUnit.bytes : SentryUnit → List Byte
  | .set t nt hits => padTo 512 (padTo 32 (Config.sentryHeader t hits.length (b2n nt)) ++
      hits.flatMap (fun h => padTo 16 (Config.sentryEntry h.sv h.sig h.cp h.dop h.cn0)))
  | .snap t i p => padTo 16 (Config.sentryHeader t i 0) ++ p

/-- The bytes of the sentry store, units in order. -/
def State.sentryBytes (s : State) : List Byte := s.pos.sentry.units.flatMap SentryUnit.bytes

/-- Cuts bytes into slots of 48 (R327). -/
def slots48 : Nat → List Byte → List (List Byte)
  | 0, _ => []
  | n + 1, p => if p.isEmpty then [] else padTo 48 p :: slots48 n (p.drop 48)

/-- POS_SENTRY_SET (R326, R327): class K settings, also kept with the applied configuration. -/
def execPosSentrySet (c : Cmd) (s : State) : Host.Outcome State Fault Refusal :=
  s.runIn (Foot.pos.and [.prm] [.prm]) (fun s => s.command fPOS 0x13 1 c (fun _ s =>
    let p := c.payload
    if p.length != 12 then refuse stBAD_LENGTH s
    else if 2 < u8 p 0 || 1 < u8 p 1 || u8 p 2 < 1 || 15 < u8 p 2 || u8 p 3 < 10 || u16 p 4 < 1 || 3600 < u16 p 4 ||
        u32 p 8 < 60 || 86400 < u32 p 8 then refuse stBAD_PARAM s
    else
      okWith [] (((s.wr R.POS_SENTRY_CFG
        (word (u8 p 0 + 4 * u8 p 1 + 16 * u8 p 2 + 256 * u8 p 3 + 65536 * u16 p 4))).wr R.POS_SENTRY_INT (w32 p 8)).prmItem
          (256 * fPOS) p)))

/-- POS_SENTRY_READ (R325, R327, R560). -/
def execPosSentryRead (c : Cmd) (s : State) : Host.Outcome State Fault Refusal :=
  s.runIn .pos (fun s => s.command fPOS 0x14 0 c (fun k s =>
    if c.payload.length != 1 then refuse stBAD_LENGTH s
    else
      let b := s.sentryBytes
      ringReply s (s.openRing k fPOS 1 0 (u8 c.payload 0) true (slots48 (b.length / 48 + 1) b))))

/-- What POS_SNAP_SOLVE gives for one stored unit at TB `now` (R325, R327): nothing for a measurement set; for a snapshot its number,
its status (0 OK, 1 no ephemeris, 2 too few satellites) and its fix. -/
def snapEntry (now : Nat) (u : SentryUnit) : List Byte :=
  match u with
  | .set _ _ _ => []
  | .snap t i _ =>
    let st := if 14400 < Config.snapEphAge now t then 1 else if Config.snapEnough now t then 0 else 2
    [byte i, byte st] ++ leBytes 22 (Config.snapFix now t).toNat

/-- POS_SNAP_SOLVE (R325): class C; 24 bytes for each stored snapshot. -/
def execPosSnapSolve (c : Cmd) (s : State) : Host.Outcome State Fault Refusal :=
  s.runIn .pos (fun s => s.command fPOS 0x15 0 c (fun _ s =>
    if !c.payload.isEmpty then refuse stBAD_LENGTH s
    else s.classC fPOS 0x0B15 c stOK (s.pos.sentry.units.flatMap (snapEntry s.clk.tb))))

/-- POS_SENTRY_CLEAR (R325, R327). -/
def execPosSentryClear (c : Cmd) (s : State) : Host.Outcome State Fault Refusal :=
  s.runIn .pos (fun s => s.command fPOS 0x16 1 c (fun _ s =>
    if !c.payload.isEmpty then refuse stBAD_LENGTH s
    else
      okWith [] ((s.setSentry (fun y => { y with units := [], snaps := 0 })).wr R.POS_SENTRY_STATUS 0#32)))

/-! ### Status, configuration, start and stop -/

/-- POS_GET_STATUS after the common bytes (R327). -/
def State.posStatusBytes (s : State) : List Byte :=
  let w := s.rd R.POS_STATUS
  [byte s.pos.quality, byte s.pos.hq, byte s.pos.sats, byte (fld w 6 6 + 2 * fld w 7 7)] ++ wBytes (s.sig 0x80) ++
    wBytes (s.sig 0x81) ++ wBytes (s.sig 0x83) ++ wBytes (s.sig 0x93) ++ wBytes (s.rd R.POS_SOLS)

/-- CONFIGURE of POS (R327): 0x100 to 0x128 in map order. -/
def posCfgCheck (p : List Byte) : Nat :=
  let c := w32 p 0
  let k := w32 p 28
  if p.length != 44 then stBAD_LENGTH
  else if 2 < fld c 2 1 || fld c 9 3 = 0 || 23 < fld (w32 p 8) 20 16 || 35999 < fld (w32 p 12) 31 16 ||
      fld k 5 0 < 1 || 60 < fld k 5 0 || fld k 15 8 < 15 || 100 < fld k 15 8 || 30 < fld k 20 16 ||
      600 < fld (w32 p 32) 9 0 then stBAD_PARAM
  else stOK

/-- APPLY of POS (R327): the words are written at once. -/
def State.posApply (s : State) (p : List Byte) : State :=
  (List.range 11).foldl (fun (s : State) i =>
    let a := R.POS_CTRL + 4 * i
    s.wr a (w32 p (4 * i) &&& maskAt a)) s

/-- START of POS: entries 0x084, 0x085 and 0x092 are valid from now on (R314). -/
def State.posStart (s : State) : State :=
  let t := s.setPos (fun p => { p with
    quality := 0, hq := 0, heading := false, sats := 0, rejects := 0, samples := 0, odo := none, steer := none,
    corrUse := false, outAt := s.clk.tickCount / 200, discAt := s.clk.tb,
    ppsSec := s.gpsAt s.clk.tb / 1000000000 })
  ((t.setSig 0x84 0#32).setSig 0x85 0#32).setSig 0x92 0#32

/-- STOP of POS, and the entry into EXPERT (R326). -/
def State.posStop (s : State) : State :=
  let t := (s.posDisc false).ppsLow
  let t := t.setPos (fun p => { p with quality := 0, hq := 0, sats := 0, step := none, corrUse := false })
  ((t.wf_ R.POS_STATUS 5 0 0).wf_ R.POS_STATUS 15 8 0).dropSigs 0x80 0x40

/-- REINIT of POS (R326): as STOP, and the service forgets its time and its streams; the sentry settings and store stay. -/
def State.posReinit (s : State) : State :=
  let t := s.posStop
  let t := t.setPos (fun p => { ({} : Pos) with
    sentry := p.sentry, lastSol := p.lastSol, outAt := p.outAt, src := p.src, canCtl := p.canCtl, canId := p.canId })
  ((t.wr R.POS_STATUS 0#32).wr64 R.POS_GPST_LO R.POS_GPST_HI 0).wr R.POS_BIAS 0#32

end Sys2Proof.Machine
end

