-- ==== Sys2Proof/Machine/SafetyIsland.lean ====
section
/-!
DEFINITION. The safety island and safe stop, Jasper frames, sealed switches and safety parameter sets (chapters 16 and 17).
-/
namespace Sys2Proof.Machine

/-- Function ID of the safety island. -/
def fSAF : Nat := 16

/-- Changes the state of the island. -/
def State.setSaf (s : State) (f : Saf → Saf) : State := { s with saf := f s.saf }

/-! ### The active parameter set (R410) -/

/-- The configuration word of input `i`. -/
def siW (p : List Byte) (i : Nat) : Word := w32 p (12 + 4 * i)

/-- Width (µs) and period (ms) of test pulse `k`. -/
def tpW (p : List Byte) (k : Nat) : Nat := u16 p (76 + 4 * k)
def tpP (p : List Byte) (k : Nat) : Nat := u16 p (78 + 4 * k)

/-- The bytes of monitor `m`, and whether it is in use. -/
def monB (p : List Byte) (m : Nat) : List Byte := slice p (92 + 24 * m) 24
def monUsed (p : List Byte) (m : Nat) : Bool := u8 (monB p m) 0 < 8 && u8 (monB p m) 1 < 8

/-- The bytes of safe output `n`. -/
def soB (p : List Byte) (n : Nat) : List Byte := slice p (188 + 4 * n) 4

/-- t_max in ms, and the route masks as override lines. -/
def safTmax (p : List Byte) : Nat := u16 p 204
def safRoute (p : List Byte) : Nat := u16 p 208 % 4096 + 4096 * (u8 p 210 % 16)

/-- Connections, and the bytes of connection `c`. -/
def connN (p : List Byte) : Nat := min 32 (u8 p 992)
def connB (p : List Byte) (c : Nat) : List Byte := slice p (996 + 24 * c) 24
def connProd (b : List Byte) : Bool := nbit (u8 b 4) 0
def connUdp (b : List Byte) : Bool := nbit (u8 b 4) 1

/-- Whether the ranges of a set and its connections hold (R399, R406, R410). -/
def safRanges (addr : Nat) (p : List Byte) : Bool :=
  let fed (k : Nat) : Bool := (List.range 16).any (fun i => fld (siW p i) 2 0 != 0 && fld (siW p i) 7 5 == k)
  let inputs := (List.range 16).all (fun i =>
    let w := siW p i
    fld w 2 0 ≤ 5 && fld w 7 5 ≤ 4 && (fld w 2 0 == 0 || (1 ≤ fld w 11 8 && fld w 11 8 ≤ 10)) &&
    (!bit w 3 || fld w 2 0 == 0 || 1 ≤ fld w 19 12))
  let pulses := (List.range 4).all (fun k =>
    !fed k || (200 ≤ tpW p k && tpW p k ≤ 2000 && 100 ≤ tpP p k && tpP p k ≤ 1000))
  let mons := (List.range 4).all (fun m =>
    let b := monB p m
    !monUsed p m || (u8 b 2 ≤ 3 && 10 ≤ u16 b 20 && u16 b 20 ≤ 1000))
  let outs := (List.range 4).all (fun n =>
    let b := soB p n
    u8 b 0 ≤ 1 && (u8 b 1 == 0xFF || (u8 b 1 < 16 && 20 ≤ u16 b 2 && u16 b 2 ≤ 500)))
  let conns := (List.range (connN p)).all (fun c =>
    let b := connB p c
    let wd := u16 b 14
    10 ≤ wd && wd ≤ 10000 && 1 ≤ u8 b 18 && u16 b 6 ≤ 32 && (connUdp b || u8 b 5 < 16) &&
    (if connProd b then u16 b 6 == 8 && 5 ≤ u16 b 16 && u16 b 16 ≤ 3000 && 3 * u16 b 16 ≤ wd && u8 b 0 == addr
     else u8 b 1 == addr))
  let clash := (List.range (connN p)).any (fun a => (List.range a).any (fun c =>
    let x := connB p a
    let y := connB p c
    !connProd x && !connProd y && connUdp x == connUdp y && u32 x 8 == u32 y 8 &&
    (if connUdp x then u16 x 12 == u16 y 12 else u8 x 5 == u8 y 5 && nbit (u8 x 4) 2 == nbit (u8 y 4) 2)))
  u8 p 992 ≤ 32 && 10 ≤ safTmax p && safTmax p ≤ 30000 && (u8 p 206 < 64 || u8 p 206 == 0xFF) && inputs && pulses && mons &&
  outs && conns && !clash

/-- Whether a set is valid for an address and a place, 0 A or 1 B (R410). -/
def safSetOk (addr ident : Nat) (p : List Byte) : Bool :=
  p.length == 1768 && u16 p 0 == 1 && u8 p 2 == ident && u32 p 8 == 1768 && crc32c (p.take 1764) == w32 p 1764 &&
  safRanges addr p

/-! ### Inputs, monitors, outputs -/

/-- Input `i`, monitor `m`, output `n`, connection `c`. -/
def State.si (s : State) (i : Nat) : SafSi := s.saf.si.getD i {}
def State.mon (s : State) (m : Nat) : SafMon := s.saf.mons.getD m {}
def State.so (s : State) (n : Nat) : SafSo := s.saf.sos.getD n {}
def State.conn (s : State) (c : Nat) : SafConn := s.saf.conns.getD c {}
def State.setMon (s : State) (m : Nat) (f : SafMon → SafMon) : State := s.setSaf (fun x => { x with mons := updAt x.mons m f })
def State.setSo (s : State) (n : Nat) (f : SafSo → SafSo) : State := s.setSaf (fun x => { x with sos := updAt x.sos n f })
def State.setConn (s : State) (c : Nat) (f : SafConn → SafConn) : State :=
  s.setSaf (fun x => { x with conns := updAt x.conns c f })

/-- Whether pair `i` is dual-channel. -/
def siDual (p : List Byte) (i : Nat) : Bool := bit (siW p (2 * i)) 3

/-- The configuration word that governs input `i`: a pair's even input. -/
def siCfg (p : List Byte) (i : Nat) : Word := siW p (if siDual p (i / 2) then i / 2 * 2 else i)

/-- Whether channel `i` shows the active level (R378): open; the odd channel of an antivalent pair closed; a RESET input
closed. -/
def State.siChan (s : State) (i : Nat) : Bool :=
  let w := siCfg s.saf.par i
  let l := (s.si i).level
  if fld w 2 0 = 0 then false
  else if fld w 2 0 = 3 then l
  else if siDual s.saf.par (i / 2) && bit w 4 && i % 2 = 1 then l else !l

/-- Whether input `i`, or its pair, is active (R378). -/
def State.siActive (s : State) (i : Nat) : Bool :=
  if siDual s.saf.par (i / 2) then
    fld (siCfg s.saf.par i) 2 0 != 0 &&
      (s.siChan (i / 2 * 2) || s.siChan (i / 2 * 2 + 1) || (s.saf.pairs.getD (i / 2) {}).hold)
  else s.siChan i

/-- The speed of a safe speed input in a monitor's window (R380). -/
def State.safV (s : State) (m input : Nat) : Nat :=
  let b := monB s.saf.par m
  let w := 8 * 2 ^ u8 b 2
  let n := ((s.saf.counts.getD input []).take w).foldl (fun a x => a + x) 0
  n * u32 b 4 / w

/-- The two speeds of monitor `m`, and its speed. -/
def State.monVA (s : State) (m : Nat) : Nat := s.safV m (u8 (monB s.saf.par m) 0)
def State.monVB (s : State) (m : Nat) : Nat := s.safV m (u8 (monB s.saf.par m) 1)
def State.monSpeed (s : State) (m : Nat) : Nat := max (s.monVA m) (s.monVB m)

/-- Whether the speeds of monitor `m` disagree beyond tolerance (R380). -/
def State.monDiffers (s : State) (m : Nat) : Bool :=
  let b := monB s.saf.par m
  let a := s.monVA m
  let c := s.monVB m
  max (100 * u16 b 8) (u8 b 3 * max a c) < 100 * (max a c - min a c)

/-- Whether an object holds a latched fault of a cause. -/
def State.safLatched (s : State) (cause obj : Nat) : Bool := s.saf.faults.contains (cause, obj)

/-- Whether monitor `m` is at standstill (R380, R384). -/
def State.monStill (s : State) (m : Nat) : Bool :=
  !s.safLatched 9 m &&
  (match (s.mon m).low with
   | some t => decide (t + u16 (monB s.saf.par m) 20 ≤ s.saf.ms)
   | none => false)

/-- Whether every monitor in use is at standstill. -/
def State.safStill (s : State) : Bool := (List.range 4).all (fun m => !monUsed s.saf.par m || s.monStill m)

/-- Whether any monitor is in use. -/
def State.safMons (s : State) : Bool := (List.range 4).any (fun m => monUsed s.saf.par m)

/-- Whether the EDM input of output `n` shows released; true where the output has none (R388). -/
def State.edmFree (s : State) (n : Nat) : Bool :=
  let e := u8 (soB s.saf.par n) 1
  16 ≤ e || s.siActive e

/-! ### Faults and states -/

/-- Notification SAF_FAULT (R396). -/
def State.safFaultNote (s : State) (cause obj : Nat) (on : Bool) : State :=
  s.notify fSAF 0x81 (leBytes 2 (256 * cause + obj) ++ [byte (b2n on)])

/-- A fault latches on its object (R390), once. -/
def State.safRaise (s : State) (cause obj : Nat) : State :=
  if s.safLatched cause obj then s
  else
    let st := if cause = 16 then 4 else 1
    (s.setSaf (fun x => { x with
      faults := x.faults ++ [(cause, obj)], fault := 256 * cause + obj, nfault := x.nfault + 1,
      log := ((256 * cause + obj, st, x.ms) :: x.log).take 16 })).safFaultNote cause obj true

/-- The lines that are present in a state (R377). -/
def State.safLinesFor (s : State) (st : Nat) : Nat :=
  if st = 2 || st = 3 then 0x1FFFF
  else if st = 1 then (if s.saf.parOk then 0xFFFF - safRoute s.saf.par else 0)
  else 0

/-- Sends a produced frame of connection `c` (R398, R403 to R405). -/
def State.jspSend (s : State) (c : Nat) : State :=
  let b := connB s.saf.par c
  let x := s.conn c
  let data := [byte s.saf.st, byte s.saf.cause] ++ leBytes 2 (maskOf 16 (fun i => s.siActive i)) ++
    [byte (maskOf 4 (fun n => (s.so n).on) + 16 * maskOf 4 (fun n => s.safLatched 8 n)), byte (maskOf 4 (fun m => s.monStill m))] ++
    leBytes 2 (min 65535 (s.monSpeed 0))
  let f := b.take 4 ++ leBytes 2 x.rep ++ leBytes 2 (u16 b 14) ++ [1#8, 8#8] ++ data
  let f := f ++ wBytes (crc32c f)
  let s := s.setConn c (fun x => { x with seq := x.rep, rep := (x.rep + 1) % 65536 })
  if connUdp b then { s with out := s.out ++ [.bytes .jasper c f] }
  else
    let ext := if nbit (u8 b 4) 2 then 2147483648 else 0
    s.setSaf (fun y => { y with txq := y.txq ++ [(u8 b 5, ext + u32 b 8, padTo 24 f, s.clk.tb)] })

/-- The produced connections. -/
def State.jspProduced (s : State) : List Nat :=
  if !s.saf.parOk then [] else (List.range (connN s.saf.par)).filter (fun c => connProd (connB s.saf.par c))

/-- The outputs that a state allows switch on or off (R385, R386), on only while field outputs operate and no shed stands (R16,
R101). -/
def State.safOutputs (s : State) : State :=
  let run := (s.saf.st == 2 || s.saf.st == 3) && s.fieldOn
  (List.range 4).foldl (fun (s : State) n =>
    let want := run && s.saf.parOk && u8 (soB s.saf.par n) 0 == 1 && !s.safLatched 8 n
    let o := s.so n
    if want && !o.on then
      if s.edmFree n then s.setSo n (fun o => { o with on := true, since := some s.saf.ms })
      else s.safRaise 8 n
    else if !want && o.on then s.setSo n (fun o => { o with on := false, since := some s.saf.ms })
    else s) s

/-- The island enters a state with a cause (R376, R377, R382 to R385): lines, ramp demand, outputs, records, SAF_STATE and the
frames of its produced connections. -/
def State.safEnter (s : State) (st cause : Nat) : State :=
  if s.saf.st = st then s
  else
    let from2 := s.saf.st == 2 && (st == 3 || st == 1)
    let s := s.setSaf (fun x => { x with
      st := st, stop := st == 1 || st == 3 || (st != 2 && x.stop), cause := cause, ramp := st == 3, lines := s.safLinesFor st,
      stops := x.stops + b2n from2, stos := x.stos + b2n (st == 1),
      ss1At := if st = 3 then x.ms else x.ss1At,
      mons := if st = 3 then (List.range 4).map (fun m =>
          let v := s.monSpeed m
          { s.mon m with v0 := v, lim := v + u16 (monB x.par m) 16 }) else x.mons })
    let s := (s.safOutputs).post fSAF (.safety (256 * st + cause))
    let s := s.notify fSAF 0x80 ([byte st, byte cause] ++ leBytes 2 s.saf.fault)
    let s := s.jspProduced.foldl (fun (s : State) c => s.jspSend c) s
    s.adrEnables.pswEnables

/-- A shed and STANDBY reach the island (R101, R393, R550): STO with cause SUPPLY, every safe output off. -/
def State.safShed (s : State) : State :=
  (if s.saf.powered && (s.saf.st == 2 || s.saf.st == 3) then s.safEnter 1 12 else s).safOutputs

/-- Whether the test-pulse outputs run and are checked (R101, R379, R393). -/
def State.tpRuns (s : State) : Bool := decide (s.saf.tpWait ≤ s.saf.ms) && !s.pwr.shed && !s.pwr.overShed

/-- The island enters, or stays in, STO with a cause that holds it (R381, R392, R409). -/
def State.safHold (s : State) (cause : Nat) : State :=
  (s.safEnter 1 cause).setSaf (fun x => { x with cause := cause })

/-! ### Triggers (R381) -/

/-- The response of a cause (R381): 1 SS1, 2 STO, 3 LOCK. -/
def respSto (b : Bool) : Nat := if b then 2 else 1

/-- The triggers that are active: causes with their responses. -/
def State.safTriggers (s : State) : List (Nat × Nat) :=
  let x := s.saf
  let inp := (List.range 16).filterMap (fun i =>
    let w := siCfg x.par i
    let r := respSto (bit w 20)
    if !x.parOk || !s.siActive i then none
    else match fld w 2 0 with
      | 1 => some (1, r)
      | 2 => some (2, r)
      | 5 => some (5, r)
      | _ => none)
  let jsp := (List.range (connN x.par)).filterMap (fun c =>
    let b := connB x.par c
    let k := s.conn c
    if x.parOk && !connProd b && (k.st == 1 || k.st == 3 || (k.st == 2 && !k.run)) then some (3, respSto (nbit (u8 b 4) 3)) else none)
  let flt := x.faults.map (fun f => (f.1, if f.1 = 16 then 3 else 2))
  inp ++ jsp ++ (x.demand.map (fun r => (3, r))) ++ (if x.host then [(4, 1)] else []) ++ flt ++
    (if s.pwr.shed || s.pwr.overShed || s.power != 3 then [(12, 2)] else []) ++ (if x.clock then [(13, 2)] else []) ++
    (if !x.checked then [(14, 2)] else []) ++ (if x.param then [(15, 2)] else []) ++ (if x.sealed then [(17, 2)] else []) ++
    (if x.line then [(18, 2)] else [])

/-- Whether the condition of a latched fault has gone (R378 to R390). -/
def State.safGone (s : State) (f : Nat × Nat) : Bool :=
  match f.1 with
  | 6 => !s.siChan (2 * f.2) && !s.siChan (2 * f.2 + 1)
  | 7 => !nbit s.saf.tpBad f.2
  | 8 => !(s.so f.2).bad && s.edmFree f.2
  | 9 => !s.monDiffers f.2
  | _ => true

/-- A reset (R389): accepted only in STO with every condition met; there a discarded one sets RESET_REQ. -/
def State.safReset (s : State) : State :=
  let x := s.saf
  let others := s.safTriggers.filter (fun t => !(6 ≤ t.1 && t.1 ≤ 9))
  let held := (List.range 8).filter (fun i => (x.pairs.getD i {}).hold)
  let others := if held.isEmpty then others
    else others.filter (fun t => !(t.1 == 1 || t.1 == 2 || t.1 == 5)) ++
      ((List.range 16).filterMap (fun i =>
        let w := siCfg x.par i
        let f := fld w 2 0
        if (f = 1 || f = 2 || f = 5) && (s.siChan i || (siDual x.par (i / 2) && (s.siChan (i / 2 * 2) || s.siChan (i / 2 * 2 + 1))))
        then some (f, 2) else none))
  let edm := (List.range 4).all (fun n => s.edmFree n)
  if x.st = 1 && others.isEmpty && x.faults.all (fun f => s.safGone f) && s.safStill && edm && x.parOk then
    let s := x.faults.foldl (fun (s : State) f => s.safFaultNote f.1 f.2 false) s
    let s := s.setSaf (fun y => { y with
      faults := [], fault := 0, pairs := y.pairs.map (fun p => { p with hold := false }), resetReq := false, demand := [], host := false })
    s.safEnter 2 x.cause
  else if x.st = 1 then s.setSaf (fun y => { y with resetReq := true })
  else s

/-- The decision of a cycle (R381, R382): the strongest response wins, the lowest cause of it shows; every new cause is
recorded. `env` and `tmax` are the findings of SS1, `reset` a reset of this cycle. -/
def State.safDecide (s : State) (env still tmax reset : Bool) : State :=
  let x := s.saf
  let ts : List (Nat × Nat) := s.safTriggers ++ (if env then [(10, 2)] else [])
  let causes := ts.map (fun t => t.1)
  let fresh := (causes.filter (fun c => !x.seen.contains c)).eraseDups
  let low (r : Nat) : Nat := (ts.filter (fun t => t.2 == r)).foldl (fun a t => min a t.1) 31
  let has (r : Nat) : Bool := ts.any (fun t => t.2 == r)
  let s := s.setSaf (fun y => { y with seen := causes, host := false, demand := [] })
  let s := if x.st = 2 || x.st = 3 then fresh.foldl (fun (s : State) c => s.post fSAF (.safety c)) s else s
  let s := if env then s.setSaf (fun y => { y with viol := y.viol + 1 }) else s
  if x.st = 0 || x.st = 4 then (if has 3 then s.safEnter 4 16 else s)
  else if has 3 then s.safEnter 4 (low 3)
  else if x.st = 1 then
    if !reset then s
    else if x.demand.isEmpty then s.safReset
    else s.setSaf (fun y => { y with resetReq := true })
  else if has 2 then s.safEnter 1 (low 2)
  else if x.st = 3 then
    if still then s.safEnter 1 x.cause else if tmax then s.safEnter 1 11 else s
  else if has 1 then s.safEnter 3 (low 1)
  else s

/-! ### The cycle -/

/-- Whether input `i` is masked by the pulse of its own output (R379): from its start until 200 µs after its end. -/
def State.tpMasked (s : State) (i : Nat) : Bool :=
  let p := s.saf.par
  let k := fld (siW p i) 7 5
  if 3 < k || !s.tpRuns then false
  else
    let per := 1000 * tpP p k
    let t := (1000 * s.saf.ms + per - k * per / 4) % max 1 per
    t < tpW p k + 200

/-- Filters and presses of the inputs (R378, R389). -/
def State.safSample (s : State) (si : Nat) : State :=
  let x := s.saf
  let upd (i : Nat) : SafSi × Option (Nat × Nat) :=
    let c := s.si i
    let w := siW x.par i
    let raw := nbit si i
    if s.tpMasked i || raw = c.level then ({ c with diff := if s.tpMasked i then c.diff else 0 }, none)
    else if 2 * (c.diff + 1) < fld w 11 8 then ({ c with diff := c.diff + 1 }, none)
    else
      let n : SafSi := { level := raw, diff := 0, press := if raw then some x.ms else none }
      match raw, c.press with
      | false, some t => (n, if fld (siCfg x.par i) 2 0 = 3 then some (i, x.ms - t) else none)
      | _, _ => (n, none)
  let l := (List.range 16).map upd
  s.setSaf (fun y => { y with si := l.map (fun e => e.1), press := l.filterMap (fun e => e.2) })

/-- Disagreement of pairs and monitors, and low speeds, since when (R378, R380). -/
def State.safWatch (s : State) (ss : List Nat) : State :=
  let s := s.setSaf (fun x => { x with
    counts := (List.range 8).map (fun j => (ss.getD j 0 :: x.counts.getD j []).take 64) })
  let x := s.saf
  let since (cond : Bool) (old : Option Nat) : Option Nat :=
    if cond then (match old with
      | some t => some t
      | none => some x.ms) else none
  s.setSaf (fun x => { x with
    pairs := (List.range 8).map (fun i =>
      let p := x.pairs.getD i {}
      { p with since := since (siDual x.par i && s.siChan (2 * i) != s.siChan (2 * i + 1)) p.since }),
    mons := (List.range 4).map (fun m =>
      let k := s.mon m
      let v := u16 (monB x.par m) 18
      { k with bad := since (monUsed x.par m && s.monDiffers m) k.bad,
               low := since (monUsed x.par m && s.monVA m < v && s.monVB m < v) k.low }) })

/-- A pair that disagrees for longer than DISC (R378). -/
def State.safPairFault (s : State) (i : Nat) : State :=
  match (s.saf.pairs.getD i {}).since with
  | some t =>
    if siDual s.saf.par i && t + 10 * fld (siW s.saf.par (2 * i)) 19 12 < s.saf.ms then
      (s.setSaf (fun x => { x with pairs := updAt x.pairs i (fun p => { p with hold := true }) })).safRaise 6 i
    else s
  | none => s

/-- A monitor that disagrees for longer than DISC (R380). -/
def State.safMonFault (s : State) (m : Nat) : State :=
  match (s.mon m).bad with
  | some t => if monUsed s.saf.par m && t + u16 (monB s.saf.par m) 10 < s.saf.ms then s.safRaise 9 m else s
  | none => s

/-- An EDM that is not in its expected state within EDM_T (R388). -/
def State.safEdm (s : State) (n : Nat) : State :=
  let b := soB s.saf.par n
  match (s.so n).since with
  | some t =>
    if u8 b 1 < 16 && t + u16 b 2 ≤ s.saf.ms then
      let s := if s.edmFree n = (s.so n).on then s.safRaise 8 n else s
      s.setSo n (fun o => { o with since := none })
    else s
  | none => s

/-- The envelope of SS1 (R384): each monitor's limit, and whether it is broken. -/
def State.safEnvelope (s : State) : Bool × State :=
  let x := s.saf
  let t := x.ms - x.ss1At
  let lim (m : Nat) : Nat :=
    let b := monB x.par m
    let d := u16 b 14
    let dec := if d < t then u16 b 12 * (t - d) / 1000 else 0
    ((s.mon m).v0 - dec) + u16 b 16
  let s := s.setSaf (fun x => { x with mons := (List.range 4).map (fun m => { s.mon m with lim := lim m }) })
  ((List.range 4).any (fun m => monUsed x.par m && lim m < s.monSpeed m), s)

/-- The island refreshes its mirror (R395, R413). -/
def State.safMirror (s : State) : State :=
  let x := s.saf
  let p := x.par
  let ss1 := x.st == 3
  let s := s.wr R.SAF_STATE (word (x.st + 8 * b2n x.resetReq + 16 * b2n x.parB + 32 * b2n x.updated + 256 * x.cause +
    65536 * x.fault))
  let s := s.wr R.SAF_LINES (word x.lines)
  let used (i : Nat) : Bool := fld (siCfg p i) 2 0 != 0
  let s := s.wr R.SAF_SI (word (maskOf 16 (fun i => x.parOk && s.siActive i) +
    65536 * maskOf 16 (fun i => s.safLatched 6 (i / 2) || s.safLatched 7 i)))
  let s := s.wr R.SAF_TP (word (maskOf 4 (fun k => (List.range 16).any (fun i => fld (siW p i) 7 5 == k && s.safLatched 7 i)) +
    16 * maskOf 4 (fun k => x.parOk && s.tpRuns && (List.range 16).any (fun i => used i && fld (siW p i) 7 5 == k)) +
    256 * maskOf 16 (fun i => x.parOk && used i && fld (siW p i) 7 5 == 4)))
  let s := s.wr R.SAF_SO (word (maskOf 4 (fun n => (s.so n).on) + 16 * maskOf 4 (fun n => s.safLatched 8 n) +
    256 * maskOf 4 (fun n => s.edmFree n)))
  let ssBad (j : Nat) : Bool := (List.range 4).any (fun m =>
    s.safLatched 9 m && (u8 (monB p m) 0 == j || u8 (monB p m) 1 == j))
  let s := s.wr R.SAF_SS (word (maskOf 8 ssBad + 256 * maskOf 4 (fun m => monUsed p m && s.monStill m) +
    4096 * maskOf 4 (fun m => monUsed p m)))
  let s := s.wr R.SAF_SEAL (word (x.addr + 256 * x.dip))
  let s := s.wr R.SAF_PAR_CRC (w32 p 1764)
  let s := s.wr R.SAF_TIMERS (word (safTmax p + 65536 * (List.range 4).foldl (fun a m =>
    if monUsed p m then max a (u16 (monB p m) 20) else a) 0))
  let s := s.wr R.SAF_SS1_T (if ss1 then word (min 65535 (x.ms - x.ss1At)) else 0#32)
  let s := s.wr R.SAF_REACT (word (x.react + 65536 * x.reactMax))
  let s := (((s.wr R.SAF_STOPS (word x.stops)).wr R.SAF_STOS (word x.stos)).wr R.SAF_VIOL (word x.viol)).wr R.SAF_FAULTS
    (word x.nfault)
  let s := (List.range 4).foldl (fun (s : State) m =>
    let b := monB p m
    let s := s.wr (R.SAF_MON_V m) (word (min 65535 (s.monVA m) + 65536 * min 65535 (s.monVB m)))
    let s := s.wr (R.SAF_MON_ENV m) (if ss1 then word (min 65535 (s.mon m).v0 + 65536 * min 65535 (s.mon m).lim) else 0#32)
    let s := s.wr (R.SAF_MON_CFG m) (word (u16 b 12 + 65536 * u16 b 14))
    s.wr (R.SAF_MON_CFG2 m) (word (u16 b 16 + 65536 * u16 b 18))) s
  let s := (List.range 16).foldl (fun (s : State) i => s.wr (R.SAF_SI_CFG i) (siW p i &&& 0x1FFFFF#32)) s
  (List.range 32).foldl (fun (s : State) c =>
    let k := s.conn c
    s.wr (R.SAF_JSP_ST c) (word (k.st + 4 * k.kind + 32 * b2n (c < connN p && connProd (connB p c)) +
      256 * min 255 (k.bad.filter (fun t => s.clk.now < t + fabMs 1000)).length + 65536 * k.seq))) s

/-- A sealed switch (R409): DIP position 0 to 7, 8 for ADDR_H, 9 for ADDR_L. -/
def sealPos (addr dip k : Nat) : Nat :=
  if k < 8 then b2n (nbit dip k) else if k = 8 then addr / 16 % 16 else addr % 16

/-- SAF_CYCLE (R376 to R389, R393, R395): one cycle of the island. -/
def execSafCycle (x : SafIn) (s : State) : Host.Outcome State Fault Refusal :=
  s.runIn (Foot.saf.and [.adr, .psw] [.adb, .adr, .psw]) (fun s =>
    if !s.saf.powered || s.clk.now < s.saf.cycleAt + fabMs 1 then s
    else
      let s := s.setSaf (fun y => { y with ms := y.ms + 1, cycleAt := s.clk.now, react := y.react })
      let s := if s.saf.parOk then (s.safSample x.si).safWatch x.ss else s
      let live := s.saf.tested && s.saf.parOk && s.saf.st != 4
      let s := if live then (List.range 8).foldl (fun (s : State) i => s.safPairFault i) s else s
      let s := if live then (List.range 4).foldl (fun (s : State) m => s.safMonFault m) s else s
      let s := if live then (List.range 4).foldl (fun (s : State) n =>
          let s := s.setSo n (fun o => { o with bad := nbit x.so n })
          (if nbit x.so n then s.safRaise 8 n else s).safEdm n) s else s
      let s := if x.own then s.safRaise 16 0 else s
      let bad := s.saf.tested && x.lines % 131072 &&& (0x1FFFF - s.saf.lines) != 0
      let clk := s.saf.tested && x.tick
      let newReset := (bad && !s.saf.line) || (clk && !s.saf.clock)
      let s := if newReset && s.saf.st = 1 then s.post fSAF (.safety (if clk && !s.saf.clock then 13 else 18)) else s
      let s := s.setSaf (fun y => { y with
        line := bad, clock := y.clock || clk,
        safrst := if newReset && y.safrst.isNone then some (s.clk.now + fabMs 10) else y.safrst })
      let s := s.setSaf (fun y => { y with sealDiff := (List.range 10).map (fun k =>
        if sealPos x.addr x.dip k != sealPos y.addr y.dip k then y.sealDiff.getD k 0 + 1 else 0) })
      let was := s.saf.st
      let e := if s.saf.st = 3 then s.safEnvelope else (false, s)
      let s := e.2
      let tmax := decide (safTmax s.saf.par ≤ s.saf.ms - s.saf.ss1At)
      let reset := s.saf.jreset
      let s := (s.setSaf (fun y => { y with jreset := false })).safDecide e.1 (s.safMons && s.safStill) tmax reset
      let s := s.safOutputs
      let s := if s.saf.st != was && s.saf.st != 2 then
          s.setSaf (fun y => { y with react := min 65535 x.us, reactMax := max y.reactMax (min 65535 x.us) })
        else s
      s.safMirror)

/-- SAF_DISCREPANCY (R378): a pair disagrees for longer than DISC. -/
def execSafDiscrepancy (i : Nat) (s : State) : Host.Outcome State Fault Refusal :=
  s.runIn .saf (fun s => if s.saf.powered && s.saf.tested && s.saf.parOk then s.safPairFault i else s)

/-- SAF_SPEED_DISCREPANCY (R380). -/
def execSafSpeedDiscrepancy (m : Nat) (s : State) : Host.Outcome State Fault Refusal :=
  s.runIn .saf (fun s => if s.saf.powered && s.saf.tested && s.saf.parOk then s.safMonFault m else s)

/-- SAF_STANDSTILL (R380, R384): in SS1 the standstill of every monitor in use ends in STO with the trigger's cause. -/
def execSafStandstill (m : Nat) (s : State) : Host.Outcome State Fault Refusal :=
  s.runIn (Foot.saf.and [.adr, .psw] [.adb, .adr, .psw]) (fun s =>
    if s.saf.powered && monUsed s.saf.par m && s.monStill m then
      let t := s.wf_ R.SAF_SS 11 8 (maskOf 4 (fun k => monUsed s.saf.par k && s.monStill k))
      if t.saf.st = 3 && t.safStill && !(t.safEnvelope).1 then t.safEnter 1 t.saf.cause else t
    else s)

/-- SAF_T_MAX_EXPIRY (R384). -/
def execSafTMaxExpiry (s : State) : Host.Outcome State Fault Refusal :=
  s.runIn (Foot.saf.and [.adr, .psw] [.adb, .adr, .psw]) (fun s =>
    if s.saf.st = 3 && safTmax s.saf.par ≤ s.saf.ms - s.saf.ss1At then s.safEnter 1 11 else s)

/-- SAF_TEST_PULSE (R379): what the inputs show while output `k` switches off. -/
def execSafTestPulse (k : Nat) (x : SafTp) (s : State) : Host.Outcome State Fault Refusal :=
  s.runIn .saf (fun s =>
    if !(s.saf.powered && s.saf.tested && s.saf.parOk && s.tpRuns) then s
    else
      let p := s.saf.par
      let fed := (List.range 16).filter (fun i => fld (siCfg p i) 2 0 != 0 && fld (siW p i) 7 5 == k)
      let badOwn := fed.filter (fun i => x.exceeds || !nbit x.low i)
      let cross := (x.cross.flatMap (fun c => [c.1, c.2])).filter (fun i => i < 16 && fld (siCfg p i) 2 0 != 0)
      let bad := (badOwn ++ cross).eraseDups
      let now := maskOf 16 (fun i => bad.contains i || (nbit s.saf.tpBad i && !fed.contains i))
      let s := s.setSaf (fun y => { y with tpBad := now })
      bad.foldl (fun (s : State) i => s.safRaise 7 i) s)

/-- SAF_SO_TEST (R386): the off-pulses of an output that is on, and their readback. -/
def execSafSoTest (n : Nat) (ok : Bool) (s : State) : Host.Outcome State Fault Refusal :=
  s.runIn .saf (fun s =>
    if s.saf.powered && (s.so n).on then
      let t := s.setSo n (fun o => { o with bad := !ok })
      if ok then t else t.safRaise 8 n
    else s)

/-- SAF_EDM_TIMEOUT (R388). -/
def execSafEdmTimeout (n : Nat) (s : State) : Host.Outcome State Fault Refusal :=
  s.runIn .saf (fun s => if s.saf.powered && s.saf.tested && s.saf.parOk then s.safEdm n else s)

/-- SAF_RESET_INPUT (R389): the press of a RESET input of 100 ms to 2 s has ended. -/
def execSafResetInput (i : Nat) (s : State) : Host.Outcome State Fault Refusal :=
  s.runIn (Foot.saf.and [.adr, .psw] [.adb, .adr, .psw]) (fun s =>
    match s.saf.press.lookup i with
    | none => s
    | some d =>
      let t := s.setSaf (fun y => { y with press := y.press.filter (fun e => e.1 != i) })
      if 100 ≤ d && d ≤ 2000 then t.safReset else t)

/-! ### Start, seal and module resets -/

/-- Connections begin in WAIT (R400); produced ones at sequence 0. -/
def State.connsStart (s : State) : State :=
  s.setSaf (fun x => { x with conns := (List.range 32).map (fun c =>
    if !x.parOk || connN x.par ≤ c then {}
    else if connProd (connB x.par c) then { st := 2, next := x.ms + u16 (connB x.par c) 16 }
    else { st := 1 }) })

/-- SAF_SELF_TEST_DONE (R391, R392, R399, R406 to R412): memory, CRC and line tests after POR or BOR, the switches as read. -/
def execSafSelfTestDone (ok : Bool) (addr dip : Nat) (image : Bool) (s : State) : Host.Outcome State Fault Refusal :=
  s.runIn (Foot.saf.and [.adr, .psw] [.adb, .adr, .psw]) (fun s =>
    if !(s.saf.powered && s.saf.st = 0 && !s.saf.tested) then s
    else if !ok then ((s.safRaise 16 0).safEnter 4 16).safMirror
    else
      let b := nbit dip 1
      let set := if b then s.saf.setB else s.saf.setA
      let s := match s.saf.staged, nbit dip 0 with
        | some v, true =>
          if image then s.setSaf (fun y => { y with image := v, staged := none, updated := true })
          else (s.setSaf (fun y => { y with staged := none })).post fSAF (.safety 0x8000)
        | _, _ => s
      let good := safSetOk addr (b2n b) set && (!s.saf.updated || Config.islandAccepts s.saf.image (u16 set 0))
      let shut := addr == 0 || addr == 0xFF || 8 ≤ dip || u8 set 3 != addr
      let s := s.setSaf (fun y => { y with
        tested := true, addr := addr, dip := dip, parB := b, par := set, parOk := good, param := !good, sealed := shut })
      s.connsStart.safMirror)

/-- Whether the routing registers agree with the parameter set (R392). -/
def State.safAgrees (s : State) : Bool :=
  let p := s.saf.par
  let sr := u64 p 212
  s.fd R.ADR_BANK_ROUTE 11 0 == u16 p 208 % 4096 && s.fd R.PSW_GRP_ROUTE 3 0 == u8 p 210 % 16 &&
  (List.range 64).all (fun m =>
    if nbit sr m then
      s.rd (R.MER_SR_CFG m) == w32 p (220 + 12 * m) && s.rd (R.MER_SR_TGT m) == w32 p (224 + 12 * m) &&
      s.rd (R.MER_DEST m) == w32 p (228 + 12 * m)
    else !s.bt (R.MER_SR_CFG m) 0)

/-- SAF_READY_CHECK (R392, R393): at READY the registers are compared; from START the island enters STO. -/
def execSafReadyCheck (s : State) : Host.Outcome State Fault Refusal :=
  s.runIn (Foot.saf.and [.adr, .psw] [.adb, .adr, .psw]) (fun s =>
    if !(s.saf.powered && s.saf.tested && 2 ≤ s.dome && !s.saf.checked) then s
    else
      let bad := !s.saf.parOk || !s.safAgrees
      let s := s.setSaf (fun y => { y with checked := true, param := bad, clock := false })
      let s := if s.saf.st = 0 then s.safEnter 1 (if bad then 15 else if s.saf.sealed then 17 else 0)
        else if bad && s.saf.st != 4 then s.safHold 15 else s
      s.safMirror)

/-- SAF_SEAL_CHANGE (R409): the switch at position `obj` differs in three consecutive cycles; held until POR or BOR. Of several switches
the lowest position is the object. -/
def execSafSealChange (obj : Nat) (s : State) : Host.Outcome State Fault Refusal :=
  s.runIn (Foot.saf.and [.adr, .psw] [.adb, .adr, .psw]) (fun s =>
    if !(s.saf.powered && s.saf.tested && !s.saf.sealed) || (List.range 10).find? (fun k => 3 ≤ s.saf.sealDiff.getD k 0) != some obj then s
    else
      let s := s.setSaf (fun y => { y with
        sealed := true, fault := 256 * 17 + obj, nfault := y.nfault + 1, log := ((256 * 17 + obj, 1, y.ms) :: y.log).take 16 })
      let s := s.safFaultNote 17 obj true
      (if s.saf.st = 0 || s.saf.st = 4 then s else s.safHold 17).safMirror)

/-- A device-level reset other than POR and BOR (R393, R400): STO with cause MODULE until READY; CAN connections wait again. -/
def State.safModule (s : State) : State :=
  let s := if s.saf.st = 2 || s.saf.st = 3 then s.safEnter 1 14 else s
  s.setSaf (fun x => { x with
    checked := false, writing := none,
    conns := (List.range 32).map (fun c =>
      let k := x.conns.getD c {}
      if c < connN x.par && x.parOk && !connProd (connB x.par c) && !connUdp (connB x.par c) then
        ({ st := 1, rep := k.rep } : SafConn) else k),
    txq := [] })

/-- The island starts anew (R391, R392): POR, BOR, or a wake from SENTRY or OFF. A set that was being written is invalid (R411). -/
def State.safPowerUp (s : State) : State :=
  let t := s.setSaf (fun x => { ({} : Saf) with
    setA := if x.writing = some false then [] else x.setA, setB := if x.writing = some true then [] else x.setB, staged := x.staged, image := x.image, cycleAt := s.clk.now })
  t.adrEnables.pswEnables

/-- The island loses its power (R393). -/
def State.safPowerOff (s : State) : State :=
  let t := s.safPowerUp
  t.setSaf (fun x => { x with powered := false })

/-- Loss of the TCXO or of the root PLL (R381, R390): STO at once, SAFRST 10 ms later. -/
def State.safClockLoss (s : State) : State :=
  let t := s.setSaf (fun x => { x with
    clock := true, safrst := match x.safrst with
      | some d => some d
      | none => some (s.clk.now + fabMs 10) })
  let t := if t.saf.st = 1 && !s.saf.clock then t.post fSAF (.safety 13) else t
  if t.saf.st = 2 || t.saf.st = 3 then t.safEnter 1 13 else t

/-- The shed stages return (R393): test pulses are checked again two periods later. -/
def State.safShedReturn (s : State) : State :=
  let p := s.saf.par
  let per := (List.range 4).foldl (fun a k => max a (tpP p k)) 0
  s.setSaf (fun x => { x with tpWait := x.ms + 2 * per })

/-! ### Jasper connections -/

/-- A connection changes its STATE or KIND (R401, R413). -/
def State.connState (s : State) (c st kind : Nat) : State :=
  let old := (s.conn c).st
  let s := s.setConn c (fun k => { k with st := st, kind := kind })
  if old = st then s else s.notify fSAF 0x82 [byte c, byte st, byte kind]

/-- A connection fails (R401): a SAFETY record and a trigger under RESP. -/
def State.connFail (s : State) (c kind : Nat) : State :=
  let r := respSto (nbit (u8 (connB s.saf.par c) 4) 3)
  let was := (s.conn c).st
  let s := (s.setConn c (fun k => { k with good := false, rst := none })).connState c 3 kind
  if was = 3 then s
  else
    let s := s.post fSAF (.safety (0x4000 + 8 * c + kind))
    if was = 2 then s.setSaf (fun x => { x with demand := x.demand ++ [r] }) else s

/-- A frame is accepted (R402): the watchdog restarts, the control byte acts. `edge` allows a reset edge. -/
def State.connAccept (s : State) (c seq : Nat) (data : List Byte) (edge : Bool) : State :=
  let b := connB s.saf.par c
  let k := s.conn c
  let run := data.isEmpty || nbit (u8 data 0) 0
  let rst := nbit (u8 data 0) 1
  let rise := edge && k.rst == some false && rst && nbit (u8 b 4) 4 && !nbit s.saf.dip 2
  let s := s.setConn c (fun k => { k with seq := seq, at_ := s.clk.now, run := run, rst := some rst, good := false })
  let s := s.connState c 2 0
  let s := if run then s else s.setSaf (fun x => { x with demand := x.demand ++ [respSto (nbit (u8 b 4) 3)] })
  if rise then s.setSaf (fun x => { x with jreset := true }) else s

/-- A frame on the binding of consumed connection `c` (R400 to R402). -/
def State.jspRx (s : State) (c : Nat) (p : List Byte) : State :=
  let b := connB s.saf.par c
  let k := s.conn c
  let n := u8 p 9
  if !(s.saf.powered && s.saf.parOk && c < connN s.saf.par && !connProd b && k.st != 0) then s
  else if p.length < 14 + u16 b 6 || n != u16 b 6 || u16 p 6 != u16 b 14 || u8 p 8 != 1 ||
      crc32c (p.take (10 + n)) != w32 p (10 + n) then
    let l := s.clk.now :: k.bad.filter (fun t => s.clk.now < t + fabMs 1000)
    let s := s.setConn c (fun k => { k with bad := l })
    if u8 b 18 < l.length then s.connFail c 1 else s
  else if p.take 4 != b.take 4 then s.connFail c 2
  else
    let seq := u16 p 4
    let data := slice p 10 n
    if k.st = 1 then s.connAccept c seq data false
    else if k.st = 3 then
      if k.good && seq == (k.seq + 1) % 65536 then s.connAccept c seq data false
      else if k.good && seq == k.seq then s.setConn c (fun k => { k with rep := k.rep + 1 })
      else s.setConn c (fun k => { k with seq := seq, good := true })
    else if seq = k.seq then s.setConn c (fun k => { k with rep := k.rep + 1 })
    else if seq != (k.seq + 1) % 65536 then s.connFail c 3
    else s.connAccept c seq data true

/-- JASPER_FRAME_RX (R398 to R402). -/
def execJasperFrameRx (n : Nat) (p : List Byte) (s : State) : Host.Outcome State Fault Refusal :=
  s.runIn .saf (fun s => s.jspRx n p)

/-- JASPER_WATCHDOG (R400): no valid frame within WD ms of the last accepted one. -/
def execJasperWatchdog (n : Nat) (s : State) : Host.Outcome State Fault Refusal :=
  s.runIn .saf (fun s =>
    let k := s.conn n
    let b := connB s.saf.par n
    if s.saf.powered && s.saf.parOk && n < connN s.saf.par && !connProd b && k.st = 2 &&
        k.at_ + fabMs (u16 b 14) ≤ s.clk.now then s.connFail n 4
    else s)

/-- JASPER_PRODUCE (R403): every PERIOD ms of island time. -/
def execJasperProduce (n : Nat) (s : State) : Host.Outcome State Fault Refusal :=
  s.runIn .saf (fun s =>
    let b := connB s.saf.par n
    if s.saf.powered && s.saf.parOk && n < connN s.saf.par && connProd b && (s.conn n).next ≤ s.saf.ms then
      (s.setConn n (fun k => { k with next := k.next + u16 b 16 })).jspSend n
    else s)

/-! ### Commands -/

/-- SAF_GET_STATUS after the common bytes (R396). -/
def State.safStatus (s : State) : List Byte :=
  let x := s.saf
  [byte x.st, byte x.cause] ++ leBytes 2 x.fault ++ leBytes 4 x.lines ++
    leBytes 2 (maskOf 16 (fun i => x.parOk && s.siActive i)) ++
    leBytes 2 (maskOf 16 (fun i => s.safLatched 6 (i / 2) || s.safLatched 7 i)) ++
    [byte (maskOf 4 (fun n => (s.so n).on) + 16 * maskOf 4 (fun n => s.safLatched 8 n)),
     byte (maskOf 4 (fun m => monUsed x.par m && s.monStill m)),
     byte (b2n x.resetReq + 2 * b2n x.parB + 4 * b2n x.updated), 0#8] ++ leBytes 4 x.stops

/-- SAF_STOP_REQ (R381, R396): an SS1 trigger with cause HOST in RUN, without effect in any other state. -/
def execSafStopReq (c : Cmd) (s : State) : Host.Outcome State Fault Refusal :=
  s.runIn .saf (fun s => s.command fSAF 0x10 0 c (fun _ s =>
    if !c.payload.isEmpty then refuse stBAD_LENGTH s
    else okWith [] (if s.saf.st = 2 then s.setSaf (fun x => { x with host := true }) else s)))

/-- SAF_READ_PARAMS (R396). -/
def execSafReadParams (c : Cmd) (s : State) : Host.Outcome State Fault Refusal :=
  s.runIn .saf (fun s => s.command fSAF 0x11 1 c (fun _ s =>
    if !c.payload.isEmpty then refuse stBAD_LENGTH s
    else okWith (s.saf.par ++ wBytes (w32 s.saf.par 1764)) s))

/-- SAF_FAULT_LOG (R396). -/
def execSafFaultLog (c : Cmd) (s : State) : Host.Outcome State Fault Refusal :=
  s.runIn .saf (fun s => s.command fSAF 0x12 1 c (fun _ s =>
    if !c.payload.isEmpty then refuse stBAD_LENGTH s
    else
      let l := s.saf.log.take 16
      okWith ([byte l.length, 0#8, 0#8, 0#8] ++
        l.flatMap (fun e => leBytes 2 e.1 ++ [byte e.2.1, 0#8] ++ leBytes 4 e.2.2)) s))

/-- SAF_PARAM_WRITE (R411): one whole set to the set that is not active. -/
def execSafParamWrite (c : Cmd) (s : State) : Host.Outcome State Fault Refusal :=
  s.runIn .saf (fun s => s.command fSAF 0x13 2 c (fun _ s =>
    let p := c.payload
    if p.length != 1768 then refuse stBAD_LENGTH s
    else if !nbit s.saf.dip 0 then refuse stNOT_PERMITTED s
    else if s.saf.st != 1 || !s.safStill then refuse stWRONG_STATE s
    else if 1 < u8 p 2 || u8 p 2 = b2n s.saf.parB then refuse stBAD_PARAM s
    else if !safSetOk s.saf.addr (u8 p 2) p then refuse stBAD_PARAM s
    else
      let t := s.setSaf (fun x =>
        if u8 p 2 = 1 then { x with setB := p, writing := some true } else { x with setA := p, writing := some false })
      t.classC fSAF 0x1013 c stOK (slice p 4 4)))

end Sys2Proof.Machine
end

