-- ==== Sys2Proof/Machine/Can.lean ====
section
/-!
DEFINITION. CAN FD controllers and LIN channels (chapter 18): receiving, transmitting, errors, address claiming, sleep, LIN and the
commands.
-/
namespace Sys2Proof.Machine

/-- Function ID of the bus interfaces. -/
def fCAN : Nat := 0x0E

/-- Changes the bus interfaces. -/
def State.setCan (s : State) (f : Can → Can) : State := { s with can := f s.can }

/-- LIN channel `k`. -/
def State.lin (s : State) (k : Nat) : LinCh := s.can.lins.getD k {}

/-- Changes LIN channel `k`. -/
def State.setLin (s : State) (k : Nat) (f : LinCh → LinCh) : State := s.setCan (fun x => { x with lins := updAt x.lins k f })

/-- Shows the error counters of controller `n` and takes STATE `st`; a change sends CAN_STATE (R426). -/
def State.canShow (s : State) (n st : Nat) : State :=
  let old := s.canState n
  let k := s.canCtl n
  let s := ((s.wf_ (R.CAN_STATUS n) 2 0 st).wf_ (R.CAN_STATUS n) 15 8 (min 255 k.tec)).wf_ (R.CAN_STATUS n) 23 16 (min 255 k.rec_)
  if old = st then s
  else s.notify fCAN 0x80 [byte n, byte st, byte (min 255 k.tec), byte (min 255 k.rec_)]

/-- Shows the frames of the host queue (R422). -/
def State.canLevel (s : State) (n : Nat) : State :=
  s.wr (R.CAN_TXQ_LEVEL n) (word ((s.canCtl n).tx.filter (fun x => x.src == 4)).length)

/-- A frame matches an identifier filter (R418). -/
def canHit (frame : Nat) (xtd : Bool) (ident : Nat) (fx : Bool) (mask : Nat) : Bool :=
  xtd == fx && (frame ^^^ ident) &&& mask == 0

/-- Number of data bytes for a DLC (R415). -/
def dlcBytes (dlc : Nat) (fdf : Bool) : Nat :=
  if dlc ≤ 8 then dlc
  else if !fdf then 8
  else [12, 16, 20, 24, 32, 48, 64].getD (dlc - 9) 64

/-- The smallest DLC that holds a number of data bytes. -/
def bytesDlc (n : Nat) : Nat := ((List.range 16).find? (fun d => n ≤ dlcBytes d true)).getD 15

/-! ### Fields of frames -/

/-- The bit numbers of a field, least significant first, in the numbering of R420; none where it runs below bit 0. -/
def fieldBits (start len : Nat) (moto : Bool) : Option (List Nat) :=
  if !moto then some ((List.range len).map (fun i => start + i))
  else if start + 1 < len then none
  else some ((List.range len).map (fun i => start + 1 - len + i))

/-- The raw field of a frame's data; none where the frame is too short (R420). -/
def fieldGet (data : List Byte) (start len : Nat) (moto : Bool) : Option Nat :=
  match fieldBits start len moto with
  | none => none
  | some bs =>
    if bs.any (fun b => data.length ≤ b / 8) then none
    else some (maskOf len (fun i => nbit (u8 data (bs.getD i 0 / 8)) (bs.getD i 0 % 8)))

/-- Places a raw field in a frame's data (R424). -/
def fieldPut (data : List Byte) (start len : Nat) (moto : Bool) (v : Nat) : List Byte :=
  match fieldBits start len moto with
  | none => data
  | some bs =>
    (bs.zip (List.range len)).foldl (fun d e =>
      updAt d (e.1 / 8) (fun b =>
        let m := 2 ^ (e.1 % 8)
        let x := b.toNat
        byte (if nbit v e.2 then x ||| m else x - (x &&& m)))) data

/-! ### Rings -/

/-- The slots of a frame in a data ring (R421). -/
def canSlots (src flags ident sof seq : Nat) (data : List Byte) : List (List Byte) :=
  let a := [1#8, byte src, byte flags, byte data.length] ++ leBytes 4 ident ++ leBytes 6 sof ++ leBytes 2 seq ++ padTo 48 data
  if data.length ≤ 48 then [a]
  else [a, [2#8, byte src, 0#8, 0#8] ++ leBytes 4 0 ++ leBytes 6 0 ++ leBytes 2 seq ++ padTo 48 (data.drop 48)]

/-- Offers a frame to the rings of controller or channel `i` (16 + k for LIN k): whole, or dropped and counted (R421). -/
def State.canRing (s : State) (i flags ident sof : Nat) (data : List Byte) : State :=
  let seq := s.can.seq.getD i 0
  let s := s.setCan (fun x => { x with seq := updAt x.seq i (fun n => (n + 1) % 65536) })
  let slots := canSlots (if i < 16 then i else 128 + (i - 16)) flags ident sof seq data
  let rings := s.mbx.rings.filter (fun r => r.fn == fCAN && r.param == i)
  rings.foldl (fun (s : State) r =>
    let room := r.waiting.isEmpty && s.bt (R.MBX_Q_CFG r.ring) 15 && s.ringUsed r.ring + slots.length ≤ s.ringSize r.ring
    if room then (s.setRing r.ring (fun r => { r with waiting := slots })).pump r.ring 2
    else (s.setRing r.ring (fun r => { r with lost := r.lost + 1 })).inc (R.CAN_RX_LOST (i % 16))) s

/-- The flag byte of a ring record (R421). -/
def canFlags (fdf brs esi xtd tx island : Bool) : Nat :=
  b2n fdf + 2 * b2n brs + 4 * b2n esi + 8 * b2n xtd + 16 * b2n tx + 32 * b2n island

/-! ### Imports -/

/-- Import entry `i` takes a matching frame's data (R420). -/
def State.canImport (s : State) (i : Nat) (data : List Byte) : State :=
  let n := i / 4
  let j := i % 4
  let cfg := s.rd (R.CAN_IMP_CFG n j)
  let len := clampN 1 32 (fld cfg 19 14)
  let s := s.setCan (fun x => { x with impAt := updAt x.impAt i (fun _ => s.clk.tb) })
  match fieldGet data (fld cfg 13 5) len (bit cfg 21) with
  | none => s.inc (R.CAN_IMP_SHORT n)
  | some x =>
    let na := bit cfg 22 && ((len == 8 && 0xFA < x) || (len == 16 && 0xFAFF < x) || (len == 32 && 0xFAFFFFFF < x))
    if na then s.dropSig (0x140 + i)
    else
      let v : Int := if bit cfg 20 && 2 ^ (len - 1) ≤ x then (x : Int) - (2 ^ len : Nat) else x
      let y := sat32 (asr ((v - (s.rd (R.CAN_IMP_OFS n j)).toInt) * (s.rd (R.CAN_IMP_GAIN n j)).toInt) (fld cfg 27 23))
      let t := s.setSig (0x140 + i) (iword y)
      if t.can.impOut.getD i false then
        (t.setCan (fun x => { x with impOut := updAt x.impOut i (fun _ => false) })).notify fCAN 0x84 [byte i, 0#8, 0#8, 0#8]
      else t

/-- Every enabled import entry of a bus that matches takes the frame (R418, R429). -/
def State.canImports (s : State) (bus ident : Nat) (xtd : Bool) (data : List Byte) : State :=
  (List.range 64).foldl (fun (s : State) i =>
    let n := i / 4
    let j := i % 4
    let cfg := s.rd (R.CAN_IMP_CFG n j)
    let f := s.rd (R.CAN_IMP_ID n j)
    let hit := if bus < 16 then canHit ident xtd (fld f 28 0) (bit f 29) (s.fd (R.CAN_IMP_MASK n j) 28 0)
      else ident == fld f 5 0
    if bit cfg 31 && fld cfg 4 0 == bus && hit then s.canImport i data else s) s

/-- CAN_IMPORT_TIMEOUT (R420). -/
def execCanImportTimeout (i : Nat) (s : State) : Host.Outcome State Fault Refusal :=
  s.runIn .can (fun s =>
    let n := i / 4
    let j := i % 4
    let tmo := s.fd (R.CAN_IMP_TMO n j) 15 0
    if i < 64 && s.isRunning fCAN && s.bt (R.CAN_IMP_CFG n j) 31 && tmo != 0 && !s.can.impOut.getD i false &&
        s.tbPast (s.can.impAt.getD i 0) (tbMs tmo) then
      ((s.dropSig (0x140 + i)).setCan (fun x => { x with impOut := updAt x.impOut i (fun _ => true) })).notify fCAN 0x84
        [byte i, 1#8, 0#8, 0#8]
    else s)

/-! ### Address claiming -/

/-- The controller's NAME (R427). -/
def State.canName (s : State) (n : Nat) : Nat := s.rd64 (R.CAN_CLAIM_NAME_LO n) (R.CAN_CLAIM_NAME_HI n)

/-- The controller's address. -/
def State.canAddr (s : State) (n : Nat) : Nat := s.fd (R.CAN_CLAIM_ST n) 15 8

/-- State of the claim: 0 off, 1 claiming, 2 claimed, 3 cannot. -/
def State.canClaim (s : State) (n : Nat) : Nat := s.fd (R.CAN_CLAIM_ST n) 1 0

/-- Drops the queue frames that wait for a claimed address (R427). -/
def State.canDropSub (s : State) (n : Nat) : State :=
  let k := ((s.canCtl n).tx.filter (fun x => x.src == 4 && x.sub)).length
  if k = 0 then s
  else ((s.setCtl n (fun c => { c with tx := c.tx.filter (fun x => !(x.src == 4 && x.sub)) })).addCnt (R.CAN_TX_DROP n) k).canLevel n

/-- The claim takes a state and an address; a change of state sends CAN_CLAIM (R427). -/
def State.canClaimTo (s : State) (n st addr : Nat) : State :=
  let old := s.canClaim n
  let s := s.wr (R.CAN_CLAIM_ST n) (word (st + 256 * addr))
  let s := if st = 2 then s else s.canDropSub n
  if old = st then s else s.notify fCAN 0x82 [byte n, byte st, byte addr, 0#8]

/-- Queues Address Claimed, or Cannot Claim from address 254 (R427; the J1939-81 identifiers are PRESUMED). -/
def State.canSendClaim (s : State) (n : Nat) : State :=
  s.canPush n { src := 2, ident := 0x18EEFF00 + s.canAddr n, xtd := true, fdf := false, brs := false,
                data := leBytes 8 (s.canName n), at_ := s.clk.tb }

/-- The claim begins (R427). -/
def State.canClaimStart (s : State) (n : Nat) : State :=
  let c := s.rd (R.CAN_CLAIM_CFG n)
  let s := s.setCtl n (fun k => { k with view := [], claimAt := none })
  if bit c 0 then (s.canClaimTo n 1 (fld c 15 8)).canSendClaim n
  else s.wr (R.CAN_CLAIM_ST n) 0x0000FE00#32

/-- A frame that concerns the claim (R427): claims of other nodes, and requests. -/
def State.canClaimRx (s : State) (n : Nat) (x : CanRx) : State :=
  let st := s.canClaim n
  if st = 0 || !s.bt (R.CAN_CLAIM_CFG n) 0 || !x.xtd then s
  else
    let pf := x.ident / 65536 % 256
    let ps := x.ident / 256 % 256
    let sa := x.ident % 256
    let me := s.canAddr n
    if pf = 0xEE && ps = 0xFF && x.data.length = 8 then
      let name := u64 x.data 0
      let s := s.setCtl n (fun k => { k with
        view := (k.view.filter (fun e => e.2 != name && e.1 != sa)) ++ (if sa < 254 then [(sa, name)] else []) })
      if st = 3 || sa != me then s
      else if s.canName n ≤ name then s.canSendClaim n
      else
        let c := s.rd (R.CAN_CLAIM_CFG n)
        let free := ((List.range 256).filter (fun a => fld c 23 16 ≤ a && a ≤ fld c 31 24)).find? (fun a =>
          !(s.canCtl n).view.any (fun e => e.1 == a))
        let s := s.setCtl n (fun k => { k with claimAt := none, tx := k.tx.filter (fun f => f.src != 2) })
        match (if s.canName n < 2 ^ 63 then none else free) with
        | some a => (s.canClaimTo n 1 a).canSendClaim n
        | none => (s.canClaimTo n 3 254).canSendClaim n
    else if pf = 0xEA && (ps = 255 || ps = me) && u32 (x.data.take 3 ++ [0#8]) 0 = 0xEE00 then s.canSendClaim n
    else s

/-- CAN_CLAIM_TIMEOUT (R427, R432): 250 ms after the claim was sent. -/
def execCanClaimTimeout (n : Nat) (s : State) : Host.Outcome State Fault Refusal :=
  s.runIn .can (fun s =>
    match (s.canCtl n).claimAt with
    | some t =>
      if n < 16 && s.canClaim n = 1 && s.tbPast t (tbMs 250) then
        (s.setCtl n (fun k => { k with claimAt := none })).canClaimTo n 2 (s.canAddr n)
      else s
    | none => s)

/-! ### Running -/

/-- RUN of controller `n` rises or falls (R417, R426, R427, R430). `idle` is the state it takes when it stops: OFF, where its queues
are flushed, or SLEEP. -/
def State.canRunSync (s : State) (n idle : Nat) : State :=
  let run := s.bt (R.CAN_CTRL n) 0
  if run = (s.canCtl n).run then s
  else if run then
    let s := s.setCtl n (fun k => { k with
      run := true, tec := 0, rec_ := 0, boffs := 0, wakeErr := 0, nbt := s.rd (R.CAN_NBT n), dbt := s.rd (R.CAN_DBT n) })
    ((s.wb (R.CAN_STATUS n) 3 false).canShow n 1).canClaimStart n
  else
    let s := s.setCtl n (fun k => { k with run := false, tx := if idle = 0 then [] else k.tx, claimAt := none })
    let s := if idle != 0 then s else (List.range 64).foldl (fun (s : State) o => s.wb (R.CAN_OBJ_ST n o) 0 false) s
    ((s.canClaimTo n 0 254).canLevel n).canShow n idle

/-- Channel `k` follows its EN (R429): the schedule begins at the next millisecond boundary. -/
def State.linSync (s : State) (k : Nat) : State :=
  let want := s.isRunning fCAN && s.bt (R.LIN_CFG k) 0 && !(s.lin k).sleep
  if want = (s.lin k).on then s
  else if want then
    (s.setLin k (fun l => { l with on := true, next := (s.clk.tb / 50000 + 1) * 50000, last := none, entry := none })).wr (R.LIN_STATUS k) 1#32
  else (s.setLin k (fun l => { l with on := false, entry := none })).wr (R.LIN_STATUS k) (word (if (s.lin k).sleep then 2 else 0))

/-- Woken controllers and channels run again once the module is in RUN (R428): a controller whose sleep cleared RUN sets it
again. -/
def State.canWakeUp (s : State) : State :=
  if s.power != 3 then s
  else
    let w := s.can.woke
    let s := (List.range 16).foldl (fun (s : State) n =>
      if nbit w n && s.canState n = 5 then
        if (s.canCtl n).again then
          ((s.setCtl n (fun k => { k with again := false })).wb (R.CAN_CTRL n) 0 true).canRunSync n 0
        else s.canShow n 0
      else s) s
    let s := (List.range 4).foldl (fun (s : State) k =>
      if nbit w (16 + k) then (s.setLin k (fun l => { l with sleep := false, on := false })).linSync k else s) s
    s.setCan (fun x => { x with woke := 0 })

/-- Frames of controller `n` that may be offered for arbitration and stood at TB `t`, the pair gate on TX objects (R422, R455). -/
def State.canReady (s : State) (n t : Nat) : List CanTx :=
  let island : List CanTx := (s.saf.txq.filter (fun e => e.1 == n)).map (fun e =>
    { src := 0, ident := e.2.1 % 2147483648, xtd := 2147483648 ≤ e.2.1, fdf := true, brs := false, data := e.2.2.1, at_ := e.2.2.2 })
  (island ++ (s.canCtl n).tx).filter (fun x => x.at_ ≤ t && (x.src != 3 || s.pairGate))

/-- The arbitration rank of a frame (R422): base identifier, standard before extended, the rest of the identifier. -/
def canRank (x : CanTx) : Nat :=
  if x.xtd then (x.ident / 262144 % 2048) * 524288 + 262144 + x.ident % 262144 else (x.ident % 2048) * 524288

/-- Whether a frame goes before another: by rank, then source, then object; equals in order of arrival. -/
def canBefore (a b : CanTx) : Bool :=
  canRank a < canRank b || (canRank a == canRank b && (a.src < b.src || (a.src == b.src && a.src == 3 && a.obj < b.obj)))

/-- Takes a frame out of those that stand on controller `n`. -/
def State.canTake (s : State) (n : Nat) (x : CanTx) : State :=
  if x.src = 0 then
    { s with saf := { s.saf with txq := s.saf.txq.erase (n, x.ident + (if x.xtd then 2147483648 else 0), x.data, x.at_) } }
  else (s.setCtl n (fun k => { k with tx := k.tx.erase x })).canLevel n

/-- A bus-off (R426): the host queue, pending object frames and island frames go; frames of the pair and of the claim stand. -/
def State.canBusOff (s : State) (n : Nat) : State :=
  let k := s.canCtl n
  let drops := (k.tx.filter (fun x => x.src == 3 || x.src == 4)).length
  let s := s.setCtl n (fun k => { k with tx := k.tx.filter (fun x => x.src == 1 || x.src == 2), boffs := k.boffs + 1, boffAt := s.clk.tb })
  let s := { s with saf := { s.saf with txq := s.saf.txq.filter (fun e => e.1 != n) } }
  let s := (List.range 64).foldl (fun (s : State) o => s.wb (R.CAN_OBJ_ST n o) 0 false) s
  let s := (((s.addCnt (R.CAN_TX_DROP n) drops).inc (R.CAN_BUSOFFS n)).canLevel n)
  let lim := s.fd (R.CAN_CTRL n) 17 14
  let s := if lim != 0 && lim ≤ (s.canCtl n).boffs then s.wb (R.CAN_STATUS n) 3 true else s
  s.canShow n 3

/-- STATE follows the error counters (R426). -/
def State.canErrState (s : State) (n : Nat) : State :=
  let k := s.canCtl n
  let st := s.canState n
  if st != 1 && st != 2 then s.canShow n st
  else if 255 < k.tec then s.canBusOff n
  else s.canShow n (if 127 < k.tec || 127 < k.rec_ then 2 else 1)

/-- CAN_TX_COMPLETE (R422, R425): the transmission that began at TB `sof` ends as sent (1), lost arbitration (2) or error (3). -/
def execCanTxComplete (n sof res : Nat) (s : State) : Host.Outcome State Fault Refusal :=
  s.runIn (Foot.can.and [.saf] []) (fun s =>
    if 16 ≤ n || res = 0 || 3 < res || s.bt (R.CAN_CTRL n) 1 || !(s.canState n == 1 || s.canState n == 2) then s
    else
      match sortBy canBefore (s.canReady n sof) with
      | [] => s
      | x :: _ =>
        let ctrl := s.rd (R.CAN_OBJ_CTRL n x.obj)
        if res = 1 then
          let s := s.canTake n x
          let s := (s.inc (R.CAN_TX_FRAMES n)).setCtl n (fun k => { k with tec := k.tec - 1, boffs := 0 })
          let s := { s with out := s.out ++ [OutMsg.bytes .can n (leBytes 4 x.ident ++
            [byte (canFlags x.fdf x.brs false x.xtd true (x.src == 0))] ++ x.data)] }
          let s := if x.src = 2 && s.canClaim n = 1 then
              s.setCtl n (fun k => { k with claimAt := some (k.claimAt.getD s.clk.tb) })
            else s
          let s := if x.src = 3 then
              let c := min 65535 (s.fd (R.CAN_OBJ_ST n x.obj) 31 16 + 1)
              let s := s.wr (R.CAN_OBJ_ST n x.obj) (word (2 + 65536 * c))
              if bit ctrl 7 then s.canRing n (canFlags x.fdf x.brs false x.xtd true false) x.ident sof x.data else s
            else s
          s.canErrState n
        else if x.src = 0 then s.canTake n x
        else if x.src = 3 && bit ctrl 6 then
          let s := (s.canTake n x).wf_ (R.CAN_OBJ_ST n x.obj) 2 0 (2 * res)
          s.notify fCAN 0x81 [byte n, byte x.obj, byte res, 0#8]
        else s)

/-- CAN_BUS_ERROR (R426, R428): a frame error, with the amounts by which ISO 11898-1 raises TEC and REC, and its LEC. -/
def execCanBusError (n dt dr lec : Nat) (s : State) : Host.Outcome State Fault Refusal :=
  s.runIn (Foot.can.and [.saf] []) (fun s =>
    let st := s.canState n
    if 16 ≤ n || st = 0 || st = 3 then s
    else if st = 5 then
      let s := s.setCtl n (fun k => { k with wakeErr := k.wakeErr + 1 })
      if s.fd (R.CAN_WAKE_CFG n) 1 0 = 2 && 31 < (s.canCtl n).wakeErr && s.bt R.PWR_WAKE_EN 2 then
        (s.setCan (fun x => { x with woke := x.woke ||| 2 ^ n })).canWakeUp
      else s
    else
      let s := ((s.inc (R.CAN_ERR_FRAMES n)).wf_ (R.CAN_STATUS n) 26 24 lec).setCtl n (fun k => { k with
        tec := k.tec + dt, rec_ := k.rec_ + dr })
      s.canErrState n)

/-- Recovery starts (R426). -/
def State.canRecover (s : State) (n : Nat) : State :=
  if s.canState n = 3 then (s.wb (R.CAN_STATUS n) 3 false).canShow n 4 else s

/-- CAN_RECOVERY_START (R426): BOFF_T × 10 ms after bus-off, with RECOV 0 and no LATCH. -/
def execCanRecoveryStart (n : Nat) (s : State) : Host.Outcome State Fault Refusal :=
  s.runIn .can (fun s =>
    if n < 16 && s.canState n = 3 && !s.bt (R.CAN_STATUS n) 3 && !s.bt (R.CAN_CTRL n) 5 &&
        s.tbPast (s.canCtl n).boffAt (tbMs (10 * s.fd (R.CAN_CTRL n) 13 6)) then s.canShow n 4
    else s)

/-- CAN_RECOVERY_DONE (R426): 128 sequences of 11 recessive bits have passed. -/
def execCanRecoveryDone (n : Nat) (s : State) : Host.Outcome State Fault Refusal :=
  s.runIn .can (fun s =>
    if n < 16 && s.canState n = 4 then (s.setCtl n (fun k => { k with tec := 0, rec_ := 0 })).canShow n 1 else s)

/-- CAN_CTRL_RECOVER_WRITE (R426): a write of 1 to RECOVER. -/
def execCanCtrlRecoverWrite (ini : Initiator) (n : Nat) (s : State) : Host.Outcome State Fault Refusal :=
  s.runIn .can (fun s => s.owned ini fCAN .can .ctl (fun s => if n < 16 then s.canRecover n else s))

/-! ### Receiving -/

/-- The consumed Jasper connection a frame belongs to (R404). -/
def State.canJasper (s : State) (n : Nat) (x : CanRx) : Option Nat :=
  if !s.saf.parOk then none
  else (List.range (connN s.saf.par)).find? (fun c =>
    let b := connB s.saf.par c
    !connProd b && !connUdp b && u8 b 5 == n && nbit (u8 b 4) 2 == x.xtd && u32 b 8 == x.ident)

/-- The lowest-indexed enabled RX object that matches (R418). -/
def State.canObject (s : State) (n : Nat) (x : CanRx) : Option Nat :=
  (List.range 64).find? (fun o =>
    let w := s.rd (R.CAN_OBJ_ID n o)
    bit w 31 && !bit w 30 && canHit x.ident x.xtd (fld w 28 0) (bit w 29) (s.fd (R.CAN_OBJ_MASK n o) 28 0))

/-- Steps 5 and 6 of R418; `island` marks the copy of a frame of the island. -/
def State.canStep5 (s : State) (n : Nat) (x : CanRx) (island : Bool) : State :=
  let ring (s : State) : State := s.canRing n (canFlags x.fdf x.brs x.esi x.xtd false island) x.ident x.sof x.data
  match s.canObject n x with
  | some o =>
    let mirror := s.bt (R.CAN_OBJ_CTRL n o) 7
    if island && !mirror then s
    else
      let s := s.wf_ (R.CAN_OBJ_ST n o) 31 16 (min 65535 (s.fd (R.CAN_OBJ_ST n o) 31 16 + 1))
      if mirror then ring s else s
  | none =>
    if island then s
    else
      let s := s.inc (R.CAN_RX_UNMATCHED n)
      if s.bt (R.CAN_CTRL n) 18 then ring s else s

/-- Whether the nominal bit time in use of controller `n` is that of `CAN_WAKE_CFG`.RATE (R428), in quanta of 12.5 ns. -/
def State.canWakeRate (s : State) (n : Nat) : Bool :=
  let w := (s.canCtl n).nbt
  let np := if fld w 4 0 = 0 then 32 else fld w 4 0
  (1 + fld w 12 5 + fld w 19 13) * np == [640, 320, 160, 80].getD (s.fd (R.CAN_WAKE_CFG n) 8 7) 0

/-- Whether a frame wakes a sleeping controller (R428). -/
def State.canWakes (s : State) (n : Nat) (x : CanRx) : Bool :=
  let w := s.rd (R.CAN_WAKE_CFG n)
  let m := s.rd64 (R.CAN_WUF_DATA_LO n) (R.CAN_WUF_DATA_HI n)
  match fld w 1 0 with
  | 1 => true
  | 2 => !x.fdf && s.canWakeRate n && canHit x.ident x.xtd (s.fd (R.CAN_WUF_ID n) 28 0) (bit w 6) (s.fd (R.CAN_WUF_MASK n) 28 0) &&
      bytesDlc x.data.length == fld w 5 2 && leNat (padTo 8 x.data) &&& m != 0
  | _ => false

/-- CAN_FRAME_RX (R415, R418 to R421, R427, R428): a frame becomes valid. -/
def execCanFrameRx (n : Nat) (x : CanRx) (s : State) : Host.Outcome State Fault Refusal :=
  s.runIn (Foot.can.and [.adr, .ast, .pair, .pos, .psw, .saf] [.adb, .adr, .ast, .pair, .pos, .psw]) (fun s =>
    let st := s.canState n
    if 16 ≤ n || st = 0 || st = 3 then s
    else if st = 5 then
      if s.bt R.PWR_WAKE_EN 2 && s.canWakes n x then (s.setCan (fun c => { c with woke := c.woke ||| 2 ^ n })).canWakeUp else s
    else if x.fdf && !s.bt (R.CAN_CTRL n) 3 then
      ((s.inc (R.CAN_ERR_FRAMES n)).setCtl n (fun k => { k with rec_ := k.rec_ + 1 })).canErrState n
    else
      let s := (s.inc (R.CAN_RX_FRAMES n)).setCtl n (fun k => { k with
        rec_ := if k.rec_ = 0 then 0 else if k.rec_ ≤ 127 then k.rec_ - 1 else 119 + Config.canRecAfter n k.rec_ % 9 })
      let s := s.canErrState n
      let base := s.fd R.PAIR_CAN_ID 28 0
      if s.pair.en && s.pair.canEn && s.pair.canCtl = n && x.xtd == s.bt R.PAIR_CAN_ID 29 && (x.ident == base || x.ident == base + 1) then
        s.pairRx true x.data none
      else
        match s.canJasper n x with
        | some c => (s.jspRx c x.data).canStep5 n x true
        | none =>
          let a : AstRx := { can := true, link := n, ident := x.ident + (if x.xtd then 2147483648 else 0), stamp := x.sof, data := x.data }
          match s.astMatch a with
          | some _ => s.astRx a
          | none =>
            let s := if s.posOn && nbit s.pos.src 0 && s.pos.canCtl = n && s.pos.canId = a.ident then (s.posBytes 16 x.data).2.2 else s
            ((s.canImports n x.ident x.xtd x.data).canClaimRx n x).canStep5 n x false)

/-! ### The schedule -/

/-- The raw field of export entry `e` now: sampled, scaled, clipped (R424). -/
def State.canRaw (s : State) (e : Nat) : Nat :=
  let n := e / 4
  let j := e % 4
  let cfg := s.rd (R.CAN_EXP_CFG n j)
  let sig := s.rd (R.CAN_EXP_SIG n j)
  let len := clampN 1 32 (fld cfg 25 20)
  let old := (s.rd (R.CAN_EXP_RAW n j)).toNat
  let put (v : Int) : Nat :=
    let y := asr (v * (s.rd (R.CAN_EXP_GAIN n j)).toInt) (fld sig 13 9) + (s.rd (R.CAN_EXP_OFS n j)).toInt
    let h : Int := (2 ^ (len - 1) : Nat)
    let c := if bit cfg 26 then clampI (-h) (h - 1) y else clampI 0 (2 * h - 1) y
    (c % (2 * h)).toNat
  match fld cfg 30 29 with
  | 0 => put (s.rd (R.CAN_EXP_VAL n j)).toInt
  | 1 =>
    if s.sigOk (fld sig 8 0) then put (s.sigI (fld sig 8 0))
    else if bit cfg 28 then 2 ^ len - 1
    else old
  | 2 => put (b2n s.saf.stop)
  | _ => old

/-- The enabled export entries of a frame, in ascending order: their field and value (R424). -/
def State.canFields (s : State) (bus obj : Nat) : List (Nat × Nat × Bool × Nat) :=
  (List.range 64).filterMap (fun e =>
    let n := e / 4
    let j := e % 4
    let cfg := s.rd (R.CAN_EXP_CFG n j)
    if s.bt (R.CAN_EXP_SIG n j) 31 && fld cfg 4 0 = bus && fld cfg 10 5 = obj then
      some (fld cfg 19 11, clampN 1 32 (fld cfg 25 20), bit cfg 27, (s.rd (R.CAN_EXP_RAW n j)).toNat)
    else none)

/-- The data of a frame of `len` bytes: fields as last placed; a byte of a TX object that none covers is 0xFF (R424). -/
def State.canData (s : State) (bus obj len : Nat) : List Byte :=
  let fs := s.canFields bus obj
  let covered (b : Nat) : Bool := fs.any (fun f => match fieldBits f.1 f.2.1 f.2.2.1 with
    | some bs => bs.any (fun x => x / 8 == b)
    | none => false)
  let base := (List.range len).map (fun b => if bus < 16 && !covered b then 0xFF#8 else Config.busFill bus obj b)
  fs.foldl (fun d f => fieldPut d f.1 f.2.1 f.2.2.1 f.2.2.2) base

/-- Import entries whose configuration word changed at the strobe (R20, R420). -/
def State.canImpSync (s : State) : State :=
  (List.range 64).foldl (fun (s : State) i =>
    let w := s.rd (R.CAN_IMP_CFG (i / 4) (i % 4))
    if s.can.impCfg.getD i 0#32 = w then s
    else
      let s := s.setCan (fun x => { x with
        impCfg := updAt x.impCfg i (fun _ => w), impAt := updAt x.impAt i (fun _ => s.clk.tb),
        impOut := updAt x.impOut i (fun _ => false) })
      if bit w 31 then s else s.dropSig (0x140 + i)) s

/-- The work of a UG6 strobe, after its shadows took effect (R423): exports are sampled and placed, due TX objects marked. -/
def State.canAfterUg6 (s : State) : State :=
  let s := s.canImpSync
  if !(s.isRunning fCAN) then s
  else
    let k := s.can.strobes
    let s := s.setCan (fun x => { x with strobes := k + 1 })
    let s := (List.range 64).foldl (fun (s : State) e =>
      if s.bt (R.CAN_EXP_SIG (e / 4) (e % 4)) 31 then s.wr (R.CAN_EXP_RAW (e / 4) (e % 4)) (word (s.canRaw e)) else s) s
    (List.range 16).foldl (fun (s : State) n =>
      if s.canState n = 0 || s.canState n = 5 then s
      else
        (List.range 64).foldl (fun (s : State) o =>
          let w := s.rd (R.CAN_OBJ_ID n o)
          let c := s.rd (R.CAN_OBJ_CTRL n o)
          let per := fld c 23 8
          if !(bit w 31 && bit w 30) || per = 0 || k % per != fld c 31 24 % per || !s.pairGate then s
          else
            let x : CanTx := { src := 3, obj := o, ident := fld w 28 0, xtd := bit w 29, fdf := bit c 4, brs := bit c 5,
                               data := s.canData n o (dlcBytes (fld c 3 0) (bit c 4)), at_ := s.clk.tb }
            if s.bt (R.CAN_OBJ_ST n o) 0 then
              (s.setCtl n (fun q => { q with tx := q.tx.map (fun y =>
                if y.src = 3 && y.obj = o then { y with data := x.data } else y) })).inc (R.CAN_TX_OVERRUN n)
            else (s.setCtl n (fun q => { q with tx := q.tx ++ [x] })).wb (R.CAN_OBJ_ST n o) 0 true) s) s

/-! ### The host queue -/

/-- A frame enters the host transmit queue of controller `n` (R422, R427); answers whether it fitted. -/
def State.canEnqueue (s : State) (n ident : Nat) (xtd fdf brs sub : Bool) (data : List Byte) : Bool × State :=
  if sub && s.canClaim n != 2 then (true, s.inc (R.CAN_TX_DROP n))
  else if 32 ≤ ((s.canCtl n).tx.filter (fun x => x.src == 4)).length then (false, s)
  else
    let i := if sub then ident / 256 * 256 + s.canAddr n else ident
    let x : CanTx := { src := 4, ident := i, xtd := xtd, fdf := fdf, brs := brs, sub := sub, data := data, at_ := s.clk.tb }
    (true, (s.setCtl n (fun k => { k with tx := k.tx ++ [x] })).canLevel n)

/-- A write of `CAN_TXQ_CTRL`: the frame in the data words is queued. -/
def State.canTxqWrite (n : Nat) (v : Word) (s : State) : State :=
  if 16 ≤ n then s
  else
    let d := (List.range 16).flatMap (fun w => wBytes (s.rd (R.CAN_TXQ_DATA n w)))
    let x := s.canEnqueue n (s.fd (R.CAN_TXQ_ID n) 28 0) (bit v 6) (bit v 4) (bit v 5) (bit v 7)
      (d.take (dlcBytes (fld v 3 0) (bit v 4)))
    if x.1 then x.2 else x.2.inc (R.CAN_TX_DROP n)

/-- CAN_TXQ_CTRL_WRITE (R422): enqueues the staged frame, or counts a drop when the queue is full. -/
def execCanTxqCtrlWrite (ini : Initiator) (n : Nat) (v : Word) (s : State) : Host.Outcome State Fault Refusal :=
  s.runIn .can (fun s => s.owned ini fCAN .can .ctl (fun s => s.canTxqWrite n v))

/-! ### Sleep -/

/-- Controller `n` goes to sleep after the frame in progress (R428). -/
def State.canSleep (s : State) (n : Nat) : State :=
  if s.canState n = 5 then s
  else
    let again := (s.canCtl n).run
    let t := (s.wb (R.CAN_CTRL n) 0 false).canRunSync n 5
    (t.canShow n 5).setCtl n (fun k => { k with wakeErr := 0, again := again })

/-- Entry to STANDBY (R428, R430): every controller and channel sleeps, imports become invalid. -/
def State.canStandby (s : State) : State :=
  let s := (List.range 16).foldl (fun (s : State) n => s.canSleep n) s
  let s := (List.range 4).foldl (fun (s : State) k =>
    (s.setLin k (fun l => { l with on := false, entry := none, sleep := true })).wr (R.LIN_STATUS k) 2#32) s
  s.dropSigs 0x140 64

/-! ### LIN -/

/-- The protected identifier of a frame ID (R429; ISO 17987 parity, PRESUMED). -/
def linPid (i : Nat) : Nat :=
  let b (k : Nat) : Nat := i / 2 ^ k % 2
  let p0 := (b 0 + b 1 + b 2 + b 4) % 2
  let p1 := 1 - (b 1 + b 3 + b 4 + b 5) % 2
  i % 64 + 64 * p0 + 128 * p1

/-- The checksum of a LIN response (R429): classic, or enhanced over the protected identifier too. -/
def linSum (pid : Nat) (classic : Bool) (d : List Byte) : Byte :=
  let t := (if classic then [] else [pid]) ++ d.map (fun b => b.toNat)
  byte (255 - t.foldl (fun a b => let x := a + b; if 256 ≤ x then x - 255 else x) 0)

/-- Whether an entry uses the classic checksum. -/
def linClassic (w : Word) : Bool := bit w 11 || fld w 5 0 == 0x3C || fld w 5 0 == 0x3D

/-- Bit time of channel `k` in 2^-10 TB units. -/
def State.linBit (s : State) (k : Nat) : Nat := 50000000 * 1024 / clampN 1000 20000 (s.fd (R.LIN_CFG k) 15 1)

/-- LIN_ERROR (R429). -/
def State.linError (s : State) (k q kind : Nat) : State := s.notify fCAN 0x83 [byte k, byte q, byte kind, 0#8]

/-- LIN_SLOT (R429): the next entry begins; its header is sent, and a published response behind the pair gate. -/
def execLinSlot (k : Nat) (s : State) : Host.Outcome State Fault Refusal :=
  s.runIn .can (fun s =>
    if 4 ≤ k then s
    else
      let s := s.linSync k
      let l := s.lin k
      if !l.on || s.clk.tb < l.next then s
      else
        let from_ := match l.last with
          | some q => q + 1
          | none => 0
        let pick := ((List.range 32).map (fun i => (from_ + i) % 32)).find? (fun q => s.bt (R.LIN_SCHED k q) 31)
        match pick with
        | none => s
        | some q =>
          let w := s.rd (R.LIN_SCHED k q)
          let pid := linPid (fld w 5 0)
          let hdr := s.clk.tb + 34 * s.linBit k / 1024
          let s := (s.setLin k (fun l => { l with
            last := some q, entry := some (q, hdr), next := l.next + tbMs (max 1 (fld w 19 12)) })).wr (R.LIN_STATUS k) (word (1 + 16 * q))
          let resp : List Byte := if bit w 6 && s.pairGate then
              let d := s.canData (16 + k) (fld w 5 0) (clampN 1 8 (fld w 10 7))
              d ++ [linSum pid (linClassic w) d]
            else []
          { s with out := s.out ++ [OutMsg.bytes .lin k ([0x55#8, byte pid] ++ resp)] })

/-- LIN_RESPONSE_RX (R429): the bytes seen on the bus after the header of the entry in progress. -/
def execLinResponseRx (k : Nat) (p : List Byte) (s : State) : Host.Outcome State Fault Refusal :=
  s.runIn .can (fun s =>
    match (s.lin k).entry with
    | none => s
    | some (q, _) =>
      let w := s.rd (R.LIN_SCHED k q)
      let n := clampN 1 8 (fld w 10 7)
      let pid := linPid (fld w 5 0)
      let d := p.take n
      let s := s.setLin k (fun l => { l with entry := none })
      if bit w 6 then
        let sent := s.canData (16 + k) (fld w 5 0) n
        if !s.pairGate || p == sent ++ [linSum pid (linClassic w) sent] then s
        else (s.inc (R.LIN_BITERR k)).linError k q 2
      else if p.length != n + 1 || p.getD n 0#8 != linSum pid (linClassic w) d then (s.inc (R.LIN_CHKERR k)).linError k q 1
      else (s.canImports (16 + k) (fld w 5 0) false d).canRing (16 + k) 0 (fld w 5 0) s.clk.tb d)

/-- LIN_RESPONSE_TIMEOUT (R429): 1.4 × (LEN + 1) × 10 bit times after the header of a subscribed entry. -/
def execLinResponseTimeout (k : Nat) (s : State) : Host.Outcome State Fault Refusal :=
  s.runIn .can (fun s =>
    match (s.lin k).entry with
    | none => s
    | some (q, t) =>
      let w := s.rd (R.LIN_SCHED k q)
      let n := clampN 1 8 (fld w 10 7)
      if bit w 6 || s.clk.tb < t + 14 * (n + 1) * s.linBit k / 1024 then s
      else ((s.setLin k (fun l => { l with entry := none })).inc (R.LIN_NORESP k)).linError k q 0)

/-! ### Commands -/

/-- The controllers of a 16-bit mask command. -/
def State.canMask (s : State) (p : List Byte) (f : State → Nat → State) : State :=
  (List.range 16).foldl (fun (s : State) n => if nbit (u16 p 0) n then f s n else s) s

/-- CAN_SEND (R422, R431). -/
def execCanSend (c : Cmd) (s : State) : Host.Outcome State Fault Refusal :=
  s.runIn .can (fun s => s.command fCAN 0x10 0 c (fun _ s =>
    let p := c.payload
    let n := u8 p 0
    let f := u8 p 1
    let len := u8 p 2
    let fdf := nbit f 0
    if p.length < 8 || p.length != 8 + len then refuse stBAD_LENGTH s
    else if 16 ≤ n || (if fdf then 64 else 8) < len || (fdf && !s.bt (R.CAN_CTRL n) 3) then refuse stBAD_PARAM s
    else
      let d := padTo (dlcBytes (bytesDlc len) fdf) (p.drop 8)
      let x := s.canEnqueue n (u32 p 4 % 536870912) (nbit f 2) fdf (nbit f 1) (nbit f 3) d
      if x.1 then okWith [] x.2 else refuse stNO_RESOURCE s))

/-- CAN_RING_OPEN (R421, R431). -/
def execCanRingOpen (c : Cmd) (s : State) : Host.Outcome State Fault Refusal :=
  s.runIn .can (fun s => s.command fCAN 0x11 0 c (fun k s =>
    let p := c.payload
    let i := u8 p 0
    if p.length != 2 then refuse stBAD_LENGTH s
    else if i < 16 then ringReply s (s.openRing k fCAN 0 i (u8 p 1) false [])
    else if 128 ≤ i && i < 132 then ringReply s (s.openRing k fCAN 0 (i - 112) (u8 p 1) false [])
    else refuse stBAD_PARAM s))

/-- CAN_RECOVER (R426, R431). -/
def execCanRecover (c : Cmd) (s : State) : Host.Outcome State Fault Refusal :=
  s.runIn .can (fun s => s.command fCAN 0x12 1 c (fun _ s =>
    if c.payload.length != 2 then refuse stBAD_LENGTH s
    else okWith [] (s.canMask c.payload (fun s n => s.canRecover n))))

/-- CAN_SLEEP (R428, R431). -/
def execCanSleep (c : Cmd) (s : State) : Host.Outcome State Fault Refusal :=
  s.runIn .can (fun s => s.command fCAN 0x13 1 c (fun _ s =>
    if c.payload.length != 2 then refuse stBAD_LENGTH s
    else okWith [] (s.canMask c.payload (fun s n => s.canSleep n))))

/-- CAN_EXPORT_SET (R424, R431): NOT_PERMITTED where a Meridian slot writes the entry. -/
def execCanExportSet (c : Cmd) (s : State) : Host.Outcome State Fault Refusal :=
  s.runIn .can (fun s => s.command fCAN 0x14 0 c (fun _ s =>
    let p := c.payload
    let e := u8 p 0
    let slot := (List.range 64).any (fun m =>
      s.bt (R.MER_CFG m) 0 && s.fd (R.MER_DEST m) 1 0 == 3 && s.fd (R.MER_DEST m) 8 3 == e)
    if p.length != 8 then refuse stBAD_LENGTH s
    else if 64 ≤ e then refuse stBAD_PARAM s
    else if slot then refuse stNOT_PERMITTED s
    else okWith [] (s.wr (R.CAN_EXP_VAL (e / 4) (e % 4)) (w32 p 4))))

/-- LIN_SLEEP (R429, R431): go-to-sleep frame; the schedule stops. -/
def execLinSleep (c : Cmd) (s : State) : Host.Outcome State Fault Refusal :=
  s.runIn .can (fun s => s.command fCAN 0x15 1 c (fun _ s =>
    let k := u8 c.payload 0
    if c.payload.length != 1 then refuse stBAD_LENGTH s
    else if 4 ≤ k then refuse stBAD_PARAM s
    else
      let d := 0#8 :: List.replicate 7 0xFF#8
      let t := { s with out := s.out ++ [OutMsg.bytes .lin k ([0x55#8, byte (linPid 0x3C)] ++ d ++ [linSum (linPid 0x3C) true d])] }
      okWith [] ((t.setLin k (fun l => { l with on := false, entry := none, sleep := true })).wr (R.LIN_STATUS k) 2#32)))

/-! ### Status, configuration, start and stop -/

/-- CAN_GET_STATUS after the common bytes (R431). -/
def State.canStatus (s : State) : List Byte :=
  (List.range 16).map (fun n => byte (s.canState n)) ++ leBytes 2 (maskOf 16 (fun n => s.bt (R.CAN_STATUS n) 3)) ++
  leBytes 2 (maskOf 16 (fun n => s.canClaim n == 2)) ++ (List.range 4).map (fun k => byte (s.fd (R.LIN_STATUS k) 1 0))

/-- The configuration registers of controller `n` in map order, with their update group, 16 for none, 17 for a
word that is carried and read-only (R431). -/
def canCfgRegs (n : Nat) : List (Nat × Nat) :=
  [(R.CAN_CTRL n, 16), (R.CAN_NBT n, 16), (R.CAN_DBT n, 16), (R.CAN_STATUS n, 17)] ++
  [R.CAN_WAKE_CFG n, R.CAN_WUF_ID n, R.CAN_WUF_MASK n, R.CAN_WUF_DATA_LO n, R.CAN_WUF_DATA_HI n, R.CAN_CLAIM_NAME_LO n,
   R.CAN_CLAIM_NAME_HI n, R.CAN_CLAIM_CFG n].map (fun a => (a, 16)) ++
  (List.range 4).flatMap (fun j => (List.range 6).map (fun w => (R.CAN_IMP_CFG n j + 4 * w, 6))) ++
  (List.range 4).flatMap (fun j => (List.range 4).map (fun w => (R.CAN_EXP_CFG n j + 4 * w, 6))) ++
  (List.range 64).flatMap (fun o => (List.range 3).map (fun w => (R.CAN_OBJ_ID n o + 4 * w, 6))) ++
  (if n < 4 then (R.LIN_CFG n, 16) :: (List.range 32).map (fun q => (R.LIN_SCHED n q, 6)) else [])

/-- The controllers of a CONFIGURE payload. -/
def canCfgMask (p : List Byte) : List Nat := (List.range 16).filter (fun n => nbit (u16 p 0) n)

/-- Where the words of each controller stand in a CONFIGURE payload. -/
def canCfgAt (p : List Byte) : List (Nat × Nat) :=
  ((canCfgMask p).foldl (fun (a : Nat × List (Nat × Nat)) n =>
    (a.1 + 4 * (canCfgRegs n).length, a.2 ++ [(n, a.1)])) (2, [])).2

/-- The words of a CONFIGURE payload: address, group, value. -/
def canCfgWords (p : List Byte) : List (Nat × Nat × Word) :=
  (canCfgAt p).flatMap (fun e =>
    let l := canCfgRegs e.1
    (l.zip (List.range l.length)).map (fun r => (r.1.1, r.1.2, w32 p (e.2 + 4 * r.2))))

/-- Whether controller `n` carries Jasper frames or pair beacons (R416). -/
def State.canForced (s : State) (n : Nat) : Bool :=
  (s.pair.canEn && s.pair.canCtl == n) ||
  (s.saf.parOk && (List.range (connN s.saf.par)).any (fun c => !connUdp (connB s.saf.par c) && u8 (connB s.saf.par c) 5 == n))

/-- Whether a bit timing lies in the ranges of R417. -/
def canTimingOk (nbt dbt : Word) : Bool :=
  let np := fld nbt 4 0
  let nq := 1 + fld nbt 12 5 + fld nbt 19 13
  let np := if np = 0 then 32 else np
  let nb := nq * np
  let dq := 1 + fld dbt 9 5 + fld dbt 13 10
  let dp := fld dbt 4 0
  let db := dq * (if dp = 0 then 32 else dp)
  1 ≤ fld nbt 12 5 && 1 ≤ fld nbt 19 13 && 1 ≤ fld nbt 26 20 && fld nbt 26 20 ≤ fld nbt 19 13 &&
  nb ≤ 8000 && 80 ≤ nb &&
    1 ≤ fld dbt 9 5 && 1 ≤ fld dbt 13 10 && fld dbt 17 14 ≤ fld dbt 13 10 && 10 ≤ db && (80 ≤ db || bit dbt 25)

/-- Whether a field lies within a number of data bytes. -/
def fieldFits (start len : Nat) (moto : Bool) (bytes : Nat) : Bool :=
  1 ≤ len && len ≤ 32 && (match fieldBits start len moto with
    | some bs => bs.all (fun b => b / 8 < bytes)
    | none => false)

/-- CONFIGURE of CAN (R416, R417, R429, R431). -/
def State.canCfgCheck (s : State) (p : List Byte) : Nat :=
  let size := (canCfgMask p).foldl (fun a n => a + 4 * (canCfgRegs n).length) 2
  if p.length != size then stBAD_LENGTH
  else
    let ws := canCfgWords p
    let w (a : Nat) : Word := ((ws.find? (fun e => e.1 == a)).map (fun e => e.2.2)).getD (s.rd a)
    let ok := (canCfgMask p).all (fun n =>
      let ctrl := w (R.CAN_CTRL n)
      let imp := (List.range 4).all (fun j =>
        let c := w (R.CAN_IMP_CFG n j)
        !bit c 31 || fieldFits (fld c 13 5) (fld c 19 14) (bit c 21) (if fld c 4 0 < 16 then 64 else 8))
      let exp := (List.range 4).all (fun j =>
        let c := w (R.CAN_EXP_CFG n j)
        let b := fld c 4 0
        !bit (w (R.CAN_EXP_SIG n j)) 31 ||
          fieldFits (fld c 19 11) (fld c 25 20) (bit c 27)
            (if b < 16 then
              let o := w (R.CAN_OBJ_CTRL b (fld c 10 5))
              dlcBytes (fld o 3 0) (bit o 4)
            else 8))
      let obj := (List.range 64).all (fun o =>
        let c := w (R.CAN_OBJ_CTRL n o)
        !bit (w (R.CAN_OBJ_ID n o)) 31 || !(bit c 4 && !bit ctrl 3))
      let lin := n ≥ 4 ||
        (let r := fld (w (R.LIN_CFG n)) 15 1
         1000 ≤ r && r ≤ 20000 && (List.range 32).all (fun q =>
          let e := w (R.LIN_SCHED n q)
          let len := fld e 10 7
          !bit e 31 || (1 ≤ len && len ≤ 8 && 1400 * (34 + 10 * (len + 1)) ≤ fld e 19 12 * r)))
      fld ctrl 2 1 ≤ 1 && canTimingOk (w (R.CAN_NBT n)) (w (R.CAN_DBT n)) && imp && exp && obj && lin &&
        !(s.canForced n && (!bit ctrl 3 || fld ctrl 2 1 == 1)))
    if ok then stOK else stBAD_PARAM

/-- FD_EN and MODE 0 on the controllers that carry Jasper frames or beacons (R416). -/
def State.canForce (s : State) : State :=
  (List.range 16).foldl (fun (s : State) n =>
    if s.canForced n then (s.wf_ (R.CAN_CTRL n) 2 1 0).wb (R.CAN_CTRL n) 3 true else s) s

/-- The strobe of UG6 armed at the next millisecond, with a period of 1 ms (R423). -/
def State.canArm (s : State) : State :=
  let next := (s.clk.tb / 50000 + 1) * 50000
  ((s.wr64 (R.FAB_UG_CMP_LO 6) (R.FAB_UG_CMP_HI 6) next).wr (R.FAB_UG_PER 6) (word 50000)).wb (R.FAB_UG_CFG 6) 4 true

/-- APPLY of CAN (R431): UG6 is strobed once; RUN follows the function's state. -/
def State.canApply (s : State) (p : List Byte) : State :=
  let run := s.isRunning fCAN
  let mine := maskOf 16 (fun n => nbit (u16 p 0) n)
  let ws := canCfgWords p
  let on := maskOf 16 (fun n => nbit (u16 p 0) n && (match ws.find? (fun e => e.1 == R.CAN_CTRL n) with
    | some e => bit e.2.2 0
    | none => false))
  let s := s.setCan (fun x => { x with want := (x.want - (x.want &&& mine)) ||| on })
  let t := ws.foldl (fun (t : State) e =>
    if e.2.1 = 6 then t.shadowWr e.1 6 (e.2.2 &&& maskAt e.1)
    else if e.2.1 = 17 then t
    else
      let v := e.2.2 &&& maskAt e.1
      t.wr e.1 (if e.1 % 0x1000 = 4 then setBit (setBit v 4 false) 0 (run && bit v 0) else v)) s
  let t := ((t.applyShadow 6).canForce).canAfterUg6
  let t := if run then t.canArm else t
  (List.range 4).foldl (fun (t : State) k => t.linSync k) ((List.range 16).foldl (fun (t : State) n => t.canRunSync n 0) t)

/-- START of CAN (R423, R426, R427, R429): the strobe of UG6 armed at the next millisecond, RUN as configured. -/
def State.canStart (s : State) : State :=
  let s := s.canArm
  let s := (s.setCan (fun x => { x with strobes := 0, impAt := List.replicate 64 s.clk.tb, impOut := List.replicate 64 false })).canForce
  let s := (List.range 16).foldl (fun (s : State) n =>
    (s.wb (R.CAN_CTRL n) 0 (nbit s.can.want n)).canRunSync n 0) s
  (List.range 4).foldl (fun (s : State) k => s.linSync k) s

/-- STOP of CAN (R430): bus-idle, queues flushed, imports invalid, schedules stopped. -/
def State.canStop (s : State) : State :=
  let s := (List.range 16).foldl (fun (s : State) n => (s.wb (R.CAN_CTRL n) 0 false).canRunSync n 0) s
  let s := (List.range 4).foldl (fun (s : State) k =>
    (s.setLin k (fun l => { l with on := false, entry := none, sleep := false })).wr (R.LIN_STATUS k) 0#32) s
  s.dropSigs 0x140 64

/-- REINIT of CAN and the return to BASIC (R430): as STOP; registers of class F lose their contents. -/
def State.canReinit (s : State) : State :=
  let s := s.canStop
  let s := (List.range 16).foldl (fun (s : State) n =>
    let s := ((s.wr (R.CAN_STATUS n) 0#32).wr (R.CAN_CLAIM_ST n) 0x0000FE00#32).wr (R.CAN_TXQ_LEVEL n) 0#32
    let s := (List.range 64).foldl (fun (s : State) o => s.wr (R.CAN_OBJ_ST n o) 0#32) s
    let s := (List.range 4).foldl (fun (s : State) j => (s.wr (R.CAN_EXP_VAL n j) 0#32).wr (R.CAN_EXP_RAW n j) 0#32) s
    (List.range 16).foldl (fun (s : State) w => s.wr (R.CAN_TXQ_DATA n w) 0#32) (s.wr (R.CAN_TXQ_ID n) 0#32)) s
  s.setCan (fun x => { ({} : Can) with want := x.want, impCfg := x.impCfg, seq := x.seq })

end Sys2Proof.Machine
end

