-- ==== Sys2Proof/Machine/Sha256.lean ====
section
/-!
DEFINITION. SHA-256 and HMAC-SHA-256, which R58 and R503 name (the algorithms of FIPS 180-4 and RFC 2104; PRESUMED, log entry 10).
-/
namespace Sys2Proof.Machine

/-- The whole part of the `k`-th root of `n`, for roots below 2^36: its bits from the highest down. -/
def rootPart (k n : Nat) : Nat :=
  (List.range 36).foldl (fun r i => if (r + 2 ^ (35 - i)) ^ k ≤ n then r + 2 ^ (35 - i) else r) 0

/-- The first 32 fraction bits of the `k`-th root of `p`. -/
def rootFraction (k p : Nat) : Word := word (rootPart k (p * 2 ^ (32 * k)) % 2 ^ 32)

/-- The first 64 primes. -/
def shaPrimes : List Nat := (List.range 312).filter (fun n => 2 ≤ n && (List.range n).all (fun d => d < 2 || n % d != 0))

/-- The round constants: cube roots of the first 64 primes. -/
def shaK : List Word := shaPrimes.map (rootFraction 3)

/-- The initial hash value: square roots of the first eight primes. -/
def shaInit : List Word := (shaPrimes.take 8).map (rootFraction 2)

/-- The message schedule, newest word first, extended by `n` words. -/
def shaSchedule : Nat → List Word → List Word
  | 0, w => w
  | n + 1, w =>
    let g (i : Nat) : Word := w.getD i 0#32
    let x := g 14
    let y := g 1
    let s0 := x.rotateRight 7 ^^^ x.rotateRight 18 ^^^ (x >>> 3)
    let s1 := y.rotateRight 17 ^^^ y.rotateRight 19 ^^^ (y >>> 10)
    shaSchedule n ((g 15 + s0 + g 6 + s1) :: w)

/-- One round. -/
def shaRound (h : List Word) (kw : Word × Word) : List Word :=
  let g (i : Nat) : Word := h.getD i 0#32
  let a := g 0
  let e := g 4
  let s1 := e.rotateRight 6 ^^^ e.rotateRight 11 ^^^ e.rotateRight 25
  let ch := (e &&& g 5) ^^^ (~~~e &&& g 6)
  let t1 := g 7 + s1 + ch + kw.1 + kw.2
  let s0 := a.rotateRight 2 ^^^ a.rotateRight 13 ^^^ a.rotateRight 22
  let mj := (a &&& g 1) ^^^ (a &&& g 2) ^^^ (g 1 &&& g 2)
  [t1 + s0 + mj, a, g 1, g 2, g 3 + t1, e, g 5, g 6]

/-- One block of 64 bytes. -/
def shaBlock (h : List Word) (b : List Byte) : List Word :=
  let w := (List.range 16).map (fun i => word (beNat (slice b (4 * i) 4)))
  let ws := (shaSchedule 48 w.reverse).reverse
  List.zipWith (fun x y => x + y) h ((shaK.zip ws).foldl shaRound h)

/-- SHA-256 of a message, over `n` blocks of its padded form. -/
def shaBlocks : Nat → List Word → List Byte → List Word
  | 0, h, _ => h
  | n + 1, h, p => shaBlocks n (shaBlock h (p.take 64)) (p.drop 64)

/-- SHA-256. -/
def sha256 (p : List Byte) : List Byte :=
  let z := (119 - p.length % 64) % 64
  let m := p ++ [0x80#8] ++ List.replicate z 0#8 ++ beBytes 8 (8 * p.length)
  (shaBlocks (m.length / 64) shaInit m).flatMap (fun w => beBytes 4 w.toNat)

/-- HMAC-SHA-256 with a key of 32 bytes. -/
def hmac256 (key msg : List Byte) : List Byte :=
  let k := padTo 64 key
  sha256 (k.map (fun b => b ^^^ 0x5C#8) ++ sha256 (k.map (fun b => b ^^^ 0x36#8) ++ msg))

end Sys2Proof.Machine
end

