-- ==== Sys2Proof/Machine/Container.lean ====
section
/-!
DEFINITION. The firmware container (R502, R503).
-/
namespace Sys2Proof.Machine

/-- Entry `i` of a container. -/
def cntEntry (p : List Byte) (i : Nat) : List Byte := slice p (64 + 48 * i) 48

/-- The entries of a container. -/
def cntEntries (p : List Byte) : List (List Byte) := (List.range (u16 p 6)).map (fun i => cntEntry p i)

/-- The first entry of a type and a function. -/
def cntFind (p : List Byte) (ty f : Nat) : Option (List Byte) :=
  (cntEntries p).find? (fun e => u8 e 0 == ty && u8 e 1 == f)

/-- The functions that run a sub-image (R502): MER, ADR, PSW, TRN, AST, CAM, PNL. -/
def subFns : List Nat := [2, 3, 4, 10, 12, 13, 20]

/-- Whether header and entries lie within R502. -/
def cntHeadOk (p : List Byte) : Bool :=
  let es := cntEntries p
  let count (ty f : Nat) : Nat := (es.filter (fun e => u8 e 0 == ty && u8 e 1 == f)).length
  p.take 4 == [0x4C#8, 0x4D#8, 0x46#8, 0x57#8] && u16 p 4 == 1 && 1 ≤ u16 p 6 && u16 p 6 ≤ 32 && u32 p 8 == p.length &&
    p.length ≤ 6291456 && 64 + 48 * u16 p 6 ≤ p.length && (slice p 22 42).all (fun b => b == 0#8) &&
    es.all (fun e => u8 e 0 ≤ 3 && (if u8 e 0 = 1 then decide (u8 e 1 < 24) else u8 e 1 == 0) && u32 e 4 % 64 == 0 &&
      u32 e 4 + u32 e 8 ≤ p.length) &&
    count 0 0 == 1 && count 2 0 == 1 && subFns.all (fun f => count 1 f == 1)

/-- Whether an entry's SHA-256 matches its bytes. -/
def cntEntryOk (p e : List Byte) : Bool := sha256 (slice p (u32 e 4) (u32 e 8)) == slice e 16 32

/-- The status of a container's verification, in the order of R503: signature, header and entries, each SHA-256, SVN, FFF range (R508). -/
def UpdImage.verify (x : UpdImage) (fff svnMin : Nat) : Nat :=
  let p := x.data
  if !(decide (x.key < 2) && Config.ecdsaOk x.key (sha256 p) x.sig) then 11
  else if !cntHeadOk p then 4
  else if !(cntEntries p).all (fun e => cntEntryOk p e) then 11
  else if u16 p 16 < svnMin then 11
  else if fff < u16 p 18 || u16 p 20 < fff then 4
  else 0

/-- The version of a function's sub-image in a container, 0 where it has none (R45). -/
def subVersion (run : Option UpdImage) (f : Nat) : Word :=
  if !subFns.contains f then 0#32
  else
    match run with
    | none => Config.subImageVersion f
    | some x => match cntFind x.data 1 f with
      | some e => w32 e 12
      | none => 0#32

end Sys2Proof.Machine
end

