-- ==== Sys2Proof/Machine/Params.lean ====
section
/-!
DEFINITION. The parameter store (chapter 25): compaction, the calibration set, system items, and what a reset finds. The configuration
file stands in PrmFile.
-/
namespace Sys2Proof.Machine

/-- Function ID of the parameter store. -/
def fPRM : Nat := 0x16

/-- Changes the parameter store. -/
def State.setPrm (s : State) (f : Prm → Prm) : State := { s with prm := f s.prm }

/-- Shows `PRM_STATUS` (chapter 25): CAL is 0 FACTORY, 1 USER, 2 INVALID. -/
def State.prmShow (s : State) : State :=
  let p := s.prm
  let cal := if p.calBad then 2 else b2n p.calUser
  s.wr R.PRM_STATUS (word (b2n p.bank + 2 * b2n (p.importing || p.compactAt.isSome) + 4 * b2n p.replayed + 16 * cal +
    64 * b2n p.pend + 65536 * p.free))

/-- Notification PRM_STORE (R526). -/
def State.prmNote (s : State) (kind : Nat) : State := s.notify fPRM 0x80 [byte kind]

/-- PRM_COMPACTION_DONE (R519): the other bank, with the generation raised by one, holds the store and the old one is erased. -/
def execPrmCompactionDone (s : State) : Host.Outcome State Fault Refusal :=
  s.runIn .prm (fun s =>
    match s.prm.compactAt with
    | none => s
    | some _ =>
      let s := s.setPrm (fun p => { p with
        compactAt := none, bank := !p.bank, gen := p.gen + 1, free := Config.prmFreeCompact (p.gen + 1) % 513 })
      (((s.wr R.PRM_GEN (word s.prm.gen)).inc R.PRM_COMPACTS).prmShow).prmNote 0)

/-- What a device-level reset finds (R518, R519): a transaction of the last 50 ms without its commit record is discarded, and an
unfinished compaction leaves the old bank in force. -/
def State.prmReset (s : State) : State :=
  let p := s.prm
  let open_ := decide (s.clk.now < p.txnAt + fabMs 50) && !Config.prmCommitted p.txns
  s.setPrm (fun p => { p with
    store := (match p.before with
      | some b => if open_ then b else p.store
      | none => p.store),
    before := none, replayed := p.before.isSome && open_, compactAt := none, importing := false, pend := false })

/-- The journal is closed (R110, R111): its transactions are committed. -/
def State.prmClose (s : State) : State := s.setPrm (fun p => { p with before := none })

/-- INIT reads the store (R518, R521): its registers, and what it has to report. -/
def State.prmMount (s : State) : State :=
  let s := ((s.prmShow.wr R.PRM_GEN (word s.prm.gen)).wr R.PRM_BEHAV_LEVEL (word s.prm.store.level)).wr R.PRM_CAL_CRC
    (crc32c (s.prm.cal.take 12288))
  let s := if s.prm.replayed then (s.post fPRM .prmDiscarded).prmNote 1 else s
  if s.prm.calBad then s.prmNote 3 else s

/-- PRM_CAL_EXPORT (R526, R560). -/
def execPrmCalExport (c : Cmd) (s : State) : Host.Outcome State Fault Refusal :=
  s.runIn .prm (fun s => s.command fPRM 0x10 1 c (fun k s =>
    if c.payload.length != 1 then refuse stBAD_LENGTH s
    else ringReply s (s.openRing k fPRM 0 0 (u8 c.payload 0) true (exportSlots [s.prm.cal]))))

/-- PRM_CAL_WRITE (R520, R521): the region is erased at once; the new set stands when the command ends. -/
def execPrmCalWrite (c : Cmd) (s : State) : Host.Outcome State Fault Refusal :=
  s.runIn .prm (fun s => s.command fPRM 0x11 2 c (fun _ s =>
    let p := c.payload
    if p.length != 12360 then refuse stBAD_LENGTH s
    else if s.prm.importing then refuse stBUSY s
    else if s.dome != 2 && s.dome != 4 then refuse stWRONG_STATE s
    else if s.saf.st != 1 then refuse stSAFETY_BLOCKED s
    else if leNat (slice p 12288 8) != Config.serial.toNat then refuse stBAD_PARAM s
    else (s.setPrm (fun x => { x with cal := [], calBad := true })).classC fPRM 0x1611 c stOK []))

/-- The end of PRM_CAL_WRITE (R520). -/
def State.prmCalDone (s : State) (p : List Byte) : State :=
  let s := s.setPrm (fun x => { x with cal := p, calBad := false, calUser := !Config.calVerifies p })
  (s.wr R.PRM_CAL_CRC (crc32c (p.take 12288))).prmShow

/-- Whether an address is that of an RWL register (R84). -/
def isRwl (a : Nat) : Bool :=
  match rowAt a with
  | some r => r.lock != 6
  | none => false

/-- A system item changes (R517, R525, R526): 0 profile, 1 autostart mask, 2 RWL register, 3 behaviour level. None where the value is
refused. -/
def PrmStore.setSystem (x : PrmStore) (item addr value : Nat) : Option PrmStore :=
  match item with
  | 0 => if value ≤ 1 then some { x with profile := value } else none
  | 1 => some { x with autostart := value }
  | 2 => if isRwl addr then some { x with rwl := (addr, word value) :: x.rwl.filter (fun e => e.1 != addr) } else none
  | 3 => if x.level ≤ value && value ≤ Config.fffLevel then some { x with level := value } else none
  | _ => none

/-- PRM_SET (R517, R526): in force at the next device-level reset. -/
def execPrmSet (c : Cmd) (s : State) : Host.Outcome State Fault Refusal :=
  s.runIn .prm (fun s => s.command fPRM 0x14 2 c (fun _ s =>
    let p := c.payload
    if p.length != 12 then refuse stBAD_LENGTH s
    else if s.prm.importing then refuse stBUSY s
    else
      match s.prm.store.setSystem (u8 p 0) (u32 p 4) (u32 p 8) with
      | none => refuse stBAD_PARAM s
      | some x => okWith [] (s.prmTxn (fun _ => x))))

/-- PRM_GET_STATUS after the common bytes (R526). -/
def State.prmStatus (s : State) : List Byte :=
  wBytes (s.rd R.PRM_STATUS) ++ leBytes 2 (s.fd R.PRM_BEHAV_LEVEL 15 0) ++ leBytes 2 (s.fd R.SYS_FFF_LEVEL 15 0) ++
    wBytes (s.rd R.PRM_GEN) ++ wBytes (s.rd R.PRM_CAL_CRC)

end Sys2Proof.Machine
end

