-- ==== Sys2Proof/Machine/Eth.lean ====
section
/-!
DEFINITION. The Ethernet switch's links, gates and frames out, network time, the RS-485 and USB ports, and the ETH commands
(chapter 19). Frames at ingress are in EthernetRx.
-/
namespace Sys2Proof.Machine

/-- Function ID of the Ethernet switch. -/
def fETH : Nat := 0x0F

/-- Changes the switch. -/
def State.setEth (s : State) (f : Eth → Eth) : State := { s with eth := f s.eth }

/-- Changes the relation to network time. -/
def State.setGptp (s : State) (f : Gptp → Gptp) : State := { s with gptp := f s.gptp }

/-- Port `k` of the switch, 0 to 12. -/
def State.ethPort (s : State) (k : Nat) : EthPort := s.eth.ports.getD k {}

/-- Changes port `k`. -/
def State.setEthPort (s : State) (k : Nat) (f : EthPort → EthPort) : State :=
  s.setEth (fun e => { e with ports := updAt e.ports k f })

/-- The word of the switch configuration in force at a register's address (R434). -/
def State.ethF (s : State) (a : Nat) : Word :=
  match s.eth.force.lookup a with
  | some w => w
  | none => regReset a

/-! ### Links -/

/-- The link of port `k` takes a state (R435); a change of LINK sends ETH_LINK. -/
def State.ethLinkSet (s : State) (k : Nat) (up cap : Bool) (speed sqi : Nat) : State :=
  let old := s.bt (R.ETH_PORT_STATUS k) 0
  let w := s.rd (R.ETH_PORT_STATUS k)
  let w := setFld (setFld (setBit (setBit w 0 up) 1 (up && cap)) 3 2 (if up then speed else 0)) 6 4 (if up then sqi else 0)
  let s := (s.wr (R.ETH_PORT_STATUS k) w).setGptp (fun g => { g with asCap := maskOf 14 (fun i =>
    if i = k then up && cap else nbit g.asCap i) })
  if old = up then s else s.notify fETH 0x80 [byte k, byte (b2n up), byte (if up then sqi else 0)]

/-- A shed drops the links of E0 to E5 (R101, R435). -/
def State.ethShed (s : State) : State :=
  (List.range 6).foldl (fun (s : State) k => s.ethLinkSet k false false 0 0) s

/-- ETH_LINK_CHANGE (R435): no link comes up on E0 to E5 while a shed holds their PHYs off. -/
def execEthLinkChange (k : Nat) (x : EthLink) (s : State) : Host.Outcome State Fault Refusal :=
  s.runIn .eth (fun s => if 13 ≤ k || (k < 6 && x.up && (s.pwr.shed || s.pwr.overShed)) then s else s.ethLinkSet k x.up x.asCap (x.speed % 4) (x.sqi % 8))

/-! ### Gate schedules -/

/-- The masks and durations of one cycle of a list (R439): cut at CYCLE, the last mask holding until CYCLE. -/
def gclCycle : List Nat → Nat → Nat → List (Nat × Nat)
  | [], left, last => if left = 0 then [] else [(last, left)]
  | e :: es, left, _ =>
    let d := min (e / 256) left
    (e % 256, d) :: gclCycle es (left - d) (e % 256)

/-- The mask at a position of a list of masks and durations. -/
def gclMaskAt : List (Nat × Nat) → Nat → Nat
  | [], _ => 255
  | (m, d) :: t, pos => if pos < d then m else gclMaskAt t (pos - d)

/-- How long from a position the gate of class `tc` stays open. -/
def gclOpen : List (Nat × Nat) → Nat → Nat → Nat
  | [], _, _ => 0
  | (m, d) :: t, pos, tc =>
    if d ≤ pos then gclOpen t (pos - d) tc else if nbit m tc then (d - pos) + gclOpen t 0 tc else 0

/-- One cycle of a list. -/
def Gcl.segs (g : Gcl) : List (Nat × Nat) := gclCycle (g.entries.take g.len) g.cycle 255

/-- The place of a TB in the cycle of a list. -/
def Gcl.pos (g : Gcl) (tb : Nat) : Nat := (((tb : Int) - (g.base : Int)) % (g.cycle : Int)).toNat

/-- The gate mask of a list at a TB; with EN clear all gates are open (R439). -/
def Gcl.mask (g : Gcl) (tb : Nat) : Nat := if g.en then gclMaskAt g.segs (g.pos tb) else 255

/-- Whether a frame of `need` TB units that starts at `tb` completes before the gate of class `tc` closes (R439). -/
def Gcl.fits (g : Gcl) (tb tc need : Nat) : Bool :=
  !g.en || g.segs.all (fun e => e.2 == 0 || nbit e.1 tc) || need ≤ gclOpen (g.segs ++ g.segs) (g.pos tb) tc

/-- The rate of a port in Mbit/s. -/
def State.ethRate (s : State) (k : Nat) : Nat := [10, 100, 1000, 2500].getD (s.fd (R.ETH_PORT_STATUS k) 3 2) 10

/-- TB units that a frame of `len` bytes and its preamble take on port `k`. -/
def State.ethTime (s : State) (k len : Nat) : Nat := (400 * (len + 8) + s.ethRate k - 1) / s.ethRate k

/-- A frame leaves port `k`. -/
def State.ethOut (s : State) (k : Nat) (x : EthRx) : State :=
  let t := s.inc (R.ETH_PORT_TX k)
  { t with out := t.out ++ [OutMsg.frame k x] }

/-- The frames that wait on port `k` start, highest class first, each behind the one before it, as far as their gates allow. -/
def State.ethDrain (s : State) (k : Nat) : State :=
  let q := (List.range 8).reverse.flatMap (fun tc => (s.ethPort k).queue.filter (fun e => e.1 == tc))
  let r := q.foldl (fun (a : State × Nat × List (Nat × EthRx)) e =>
    let d := a.1.ethTime k e.2.len
    if ((a.1.ethPort k).oper).fits (a.1.clk.tb + a.2.1) e.1 d then (a.1.ethOut k e.2, a.2.1 + d, a.2.2)
    else (a.1, a.2.1, a.2.2 ++ [e])) (s, 0, [])
  r.1.setEthPort k (fun p => { p with queue := r.2.2 })

/-- A frame for egress port `k` (R433, R439): ports 0 to 12 need the port enabled and its link up; a frame whose gate does not let it
start waits. The class is the frame's priority (PRESUMED). -/
def State.ethEgress (s : State) (k : Nat) (x : EthRx) : State :=
  if 13 ≤ k then s.ethOut k x
  else if !(bit (s.ethF (R.ETH_PORT_CFG k)) 0 && s.eth.ext && s.bt (R.ETH_PORT_STATUS k) 0) then s
  else (s.setEthPort k (fun p => { p with queue := p.queue ++ [(x.pcp % 8, x)] })).ethDrain k

/-- When the pending list of port `k` becomes operating (R440): the first start of its cycle at or after the end of the operating cycle
in progress, a BASE in the past moved forward by whole cycles. -/
def gclStart (now : Nat) (oper next : Gcl) : Nat :=
  let fwd (t : Nat) : Nat := if t ≤ next.base then next.base else
    next.base + (t - next.base + next.cycle - 1) / next.cycle * next.cycle
  let stop := if oper.en then now + (oper.cycle - oper.pos now) % oper.cycle else now
  fwd stop

/-- A GO of port `k` (R440): the pending list as it stands is scheduled, in place of an earlier one. -/
def State.gclGo (s : State) (k : Nat) : State :=
  (s.setEthPort k (fun p => { p with sched := some (gclStart s.clk.tb p.oper p.pend, p.pend) })).wb R.ETH_GCL_STATUS k true

/-- ETH_GCL_GO_WRITE (R440): a port above 12 is out of range. -/
def execEthGclGoWrite (ini : Initiator) (v : Word) (s : State) : Host.Outcome State Fault Refusal :=
  s.runIn .eth (fun s => s.owned ini fETH .eth .fab (fun s =>
    let k := fld v 3 0
    if 12 < k then s.inc R.ETH_GCL_ERR else s.gclGo k))

/-- ETH_GCL_SWITCH (R440). -/
def execEthGclSwitch (k : Nat) (s : State) : Host.Outcome State Fault Refusal :=
  s.runIn .eth (fun s =>
    match (s.ethPort k).sched with
    | some (t, g) =>
      if k < 13 && t ≤ s.clk.tb then
        let o : Gcl := { g with base := t }
        ((s.setEthPort k (fun p => { p with oper := o, sched := none, gates := o.mask s.clk.tb })).wb
          R.ETH_GCL_STATUS k false).ethDrain k
      else s
    | none => s)

/-- ETH_GATE_INTERVAL (R439): the mask of the interval in progress takes effect, and waiting frames start. -/
def execEthGateInterval (k : Nat) (s : State) : Host.Outcome State Fault Refusal :=
  s.runIn .eth (fun s =>
    if 13 ≤ k then s else (s.setEthPort k (fun p => { p with gates := p.oper.mask s.clk.tb })).ethDrain k)

/-- The port that `ETH_GCL_SEL` names. -/
def State.gclPort (s : State) : Nat := s.fd R.ETH_GCL_SEL 3 0

/-- The value that a read of a pending register of the selected port returns (R440). -/
def State.gclRead (s : State) (a : Nat) : Word :=
  let g := (s.ethPort s.gclPort).pend
  if a = R.ETH_GCL_DATA then word (g.entries.getD (s.fd R.ETH_GCL_SEL 13 8) 0)
  else if a = R.ETH_GCL_BASE_LO then word g.base
  else if a = R.ETH_GCL_BASE_HI then word (g.base / 4294967296)
  else if a = R.ETH_GCL_CYCLE then word g.cycle
  else word (g.len + 128 * b2n g.en)

/-- A write of a pending register of the selected port, or of the selection; values out of range are discarded and counted (R440). -/
def State.gclWrite (s : State) (a : Nat) (v : Word) : State :=
  let put (f : Gcl → Gcl) : State := s.setEthPort s.gclPort (fun p => { p with pend := f p.pend })
  if a = R.ETH_GCL_SEL then
    if 12 < fld v 3 0 then s.inc R.ETH_GCL_ERR else s.wr a (v &&& maskAt a)
  else if a = R.ETH_GCL_DATA then
    (s.setEthPort s.gclPort (fun p => { p with pend := { p.pend with
      entries := updAt p.pend.entries (s.fd R.ETH_GCL_SEL 13 8) (fun _ => v.toNat) } }))
  else if a = R.ETH_GCL_BASE_LO then put (fun g => { g with base := g.base / 4294967296 * 4294967296 + v.toNat })
  else if a = R.ETH_GCL_BASE_HI then put (fun g => { g with base := g.base % 4294967296 + 4294967296 * v.toNat })
  else if a = R.ETH_GCL_CYCLE then
    if fld v 25 0 < 500 || 50000000 < fld v 25 0 then s.inc R.ETH_GCL_ERR else put (fun g => { g with cycle := fld v 25 0 })
  else if fld v 6 0 < 1 || 64 < fld v 6 0 then s.inc R.ETH_GCL_ERR
  else put (fun g => { g with len := fld v 6 0, en := bit v 7 })

/-- The index advances on each data access (R440). -/
def State.gclNext (s : State) : State := s.wf_ R.ETH_GCL_SEL 13 8 (s.fd R.ETH_GCL_SEL 13 8 + 1)

/-- ETH_GCL_DATA_ACCESS (R440): a read (no word) or a write of the entry, and the index advances. -/
def execEthGclDataAccess (ini : Initiator) (w : Option Word) (s : State) : Host.Outcome State Fault Refusal :=
  s.runIn .eth (fun s =>
    match w with
    | none => s.fetched ini .fab (s.gclRead R.ETH_GCL_DATA) State.gclNext
    | some v => s.owned ini fETH .eth .fab (fun s => (s.gclWrite R.ETH_GCL_DATA v).gclNext))

/-! ### Network time -/

/-- Notification ETH_TIME. -/
def State.ethTimeNote (s : State) (kind : Nat) : State :=
  s.notify fETH 0x81 ([byte kind, 0#8, 0#8, 0#8] ++ wBytes (s.rd R.ETH_TIME_DIFF))

/-- SYNCED clears (R444); where the servo writes the trim, DISC clears (R442). -/
def State.ethUnsync (s : State) (kind : Nat) : State :=
  let s := (s.setGptp (fun g => { g with synced := false, last := none, servoRef := none })).wb R.ETH_TIME_STATUS 0 false
  let s := if s.fd R.ETH_TIME_CFG 1 0 = 2 then s.wb R.ETH_TIME_STATUS 2 false else s
  s.ethTimeNote kind

/-- RATE from two Syncs (R444): the rate ratio less one in 2^-40, its rounding open. -/
def gptpRate (a b : GptpSync) : Int :=
  sat32 (divFree (((b.g : Int) - (a.g : Int)) * 1099511627776) (20 * ((b.tb : Int) - (a.tb : Int))) - 1099511627776)

/-- `ETH_TIME_DIFF` at a Sync (R446), with its event and notification once per crossing. -/
def State.ethDiff (s : State) : State :=
  if !(s.gptp.synced && s.timeValid) then s
  else
    let d := sat32 (s.gptp.at_ s.clk.tb - 19000000000 - (s.gpsAt s.clk.tb : Nat))
    let s := s.wr R.ETH_TIME_DIFF (iword d)
    let exceeds := decide (1000 * s.fd R.ETH_TIME_CFG 31 16 < d.natAbs)
    let s1 := s.setGptp (fun g => { g with exceeds := exceeds })
    if exceeds && !s.gptp.exceeds then (s1.post fETH .timeDiff).ethTimeNote 4 else s1

/-- ETH_PTP_SYNC (R444, R446): a Sync of grandmaster `gm` with gPTP time `g`, at TB. -/
def execEthPtpSync (gm g : Nat) (s : State) : Host.Outcome State Fault Refusal :=
  s.runIn .eth (fun s =>
    let x : GptpSync := { gm := gm, g := g, tb := s.clk.tb }
    let s := s.wr64 R.ETH_PTP_GM_LO R.ETH_PTP_GM_HI gm
    let k := s.gptp
    match k.last with
    | none => s.setGptp (fun k => { k with last := some x })
    | some a =>
      if a.gm != gm then
        if k.synced then (s.inc R.ETH_TIME_JUMPS).ethUnsync 3 else s.setGptp (fun k => { k with last := some x })
      else if k.synced && 1000000 < ((g : Int) - k.at_ s.clk.tb).natAbs then (s.inc R.ETH_TIME_JUMPS).ethUnsync 2
      else
        let ref := match k.servoRef with
          | some r => some r
          | none => some x
        let s := s.setGptp (fun k => { k with
          g := g, tb := x.tb, rate := gptpRate a x, last := some x, synced := true, servoRef := ref })
        let s := if k.synced then s else (s.wb R.ETH_TIME_STATUS 0 true).ethTimeNote 0
        s.ethDiff)

/-- TB units between Sync messages, 2^-SYNC_LOG s (R443). -/
def State.syncPeriod (s : State) : Nat := 50000000 / 2 ^ fld (s.ethF R.ETH_PTP_CFG) 18 16

/-- ETH_SYNC_TIMEOUT (R444): no Sync for three sync intervals. -/
def execEthSyncTimeout (s : State) : Host.Outcome State Fault Refusal :=
  s.runIn .eth (fun s =>
    match s.gptp.last with
    | some a => if s.gptp.synced && s.tbPast a.tb (3 * s.syncPeriod) then s.ethUnsync 1 else s
    | none => s)

/-- The clockClass that the module announces (R443). -/
def State.clockClass (s : State) : Nat :=
  if s.bt R.ETH_TIME_STATUS 2 then 6 else if s.timeValid then 7 else 248

/-- ETH_SYNC_SEND (R443): with GM_CAP set, SRC 1 and the best-master selection won (`best`), the module is grandmaster and sends a Sync
on every port with PTP_EN whose link is up: clockClass, priority1, priority2 and PTP time, GPS time + 19 s, in ns. -/
def execEthSyncSend (best : Bool) (s : State) : Host.Outcome State Fault Refusal :=
  s.runIn .eth (fun s =>
    let gm := best && bit (s.ethF R.ETH_PTP_CFG) 20 && s.fd R.ETH_TIME_CFG 1 0 == 1
    let s := s.wb R.ETH_TIME_STATUS 1 gm
    if !(gm && s.eth.fwd && s.tbPast s.eth.syncAt s.syncPeriod) then s
    else
      let cfg := s.ethF R.ETH_PTP_CFG
      let msg := [byte s.clockClass, byte (fld cfg 7 0), byte (fld cfg 15 8)] ++ leBytes 8 (s.gpsAt s.clk.tb + 19000000000)
      let s := s.setEth (fun e => { e with syncAt := s.clk.tb })
      (List.range 14).foldl (fun (s : State) k =>
        if bit (s.ethF (R.ETH_PORT_CFG k)) 14 && (k == 13 || s.bt (R.ETH_PORT_STATUS k) 0) then
          { s with out := s.out ++ [OutMsg.bytes .gptp k msg] }
        else s) s)

/-- ETH_SERVO_TRIM (R442): with SRC 2, once per second, the rate ratio of the grandmaster to TB over the last second corrects the trim
in use. -/
def execEthServoTrim (s : State) : Host.Outcome State Fault Refusal :=
  s.runIn .eth (fun s =>
    if s.fd R.ETH_TIME_CFG 1 0 != 2 || !s.tbPast s.gptp.servoAt 50000000 then s
    else
      let s := s.setGptp (fun g => { g with servoAt := s.clk.tb })
      match s.gptp.synced, s.gptp.servoRef, s.gptp.last with
      | true, some a, some b =>
        if a.tb < b.tb then
          let ppb := divFree (((b.g : Int) - (a.g : Int) - 20 * ((b.tb : Int) - (a.tb : Int))) * 1000000000)
            (20 * ((b.tb : Int) - (a.tb : Int)))
          ((s.setTrim (trimPpb s.regs + ppb)).wb R.ETH_TIME_STATUS 2 true).setGptp (fun g => { g with servoRef := some b })
        else s
      | _, _, _ => s)

/-- A read of `ETH_PTP_G_LO` latches the other relation words on the same edge (R444). -/
def State.ptpLatch (s : State) : State :=
  let k := s.gptp
  (((s.wr R.ETH_PTP_G_LO (word k.g)).wr R.ETH_PTP_G_HI (word (k.g / 4294967296))).wr64 R.ETH_PTP_TB_LO R.ETH_PTP_TB_HI k.tb).wr
    R.ETH_PTP_RATE (iword k.rate)

/-- ETH_PTP_G_LO_READ (R444). -/
def execEthPtpGLoRead (ini : Initiator) (s : State) : Host.Outcome State Fault Refusal :=
  s.runIn .eth (fun s => s.fetched ini .fab (word s.gptp.g) State.ptpLatch)

/-! ### RS-485 and USB -/

/-- CRC-16 of Modbus RTU: polynomial 0x8005 reflected, initial value 0xFFFF. -/
def crcModbus (p : List Byte) : Nat :=
  p.foldl (fun c b => (List.range 8).foldl (fun c _ => if c % 2 = 1 then (c / 2) ^^^ 0xA001 else c / 2) (c ^^^ b.toNat)) 0xFFFF

/-- The slots of a received frame: 40 data bytes per slot (R449). -/
def serSlots (port tb len : Nat) (bad : Bool) : Nat → List Byte → List (List Byte)
  | 0, _ => []
  | n + 1, p => padTo 64 (Config.serRecord port tb len bad (padTo 40 p)) ::
      (if p.length ≤ 40 then [] else serSlots port tb len bad n (p.drop 40))

/-- SER_FRAME_END (R447): the frame is checked and written to the port's rings. -/
def execSerFrameEnd (n : Nat) (x : SerRx) (s : State) : Host.Outcome State Fault Refusal :=
  s.runIn .eth (fun s =>
    let c := s.rd (R.ETH_SER_CFG n)
    if !bit c 0 || x.data.isEmpty || s.bt (R.ETH_SER_STATUS n) 0 then s
    else
      let l := x.data.length
      let crc := bit c 28 && (l < 2 || crcModbus (x.data.take (l - 2)) != leNat (x.data.drop (l - 2)))
      let s := s.inc (R.ETH_SER_FRAMES n)
      let s := if x.bad || crc then s.inc (R.ETH_SER_ERR n) else s
      (serSlots n x.stamp l crc (l / 40 + 1) x.data).foldl (fun (s : State) r =>
        (s.offer fETH 0 (fun q => q == n) (fun _ => r)).2) s)

/-- Bits of a character on the line of an RS-485 port. -/
def serBits (c : Word) : Nat := 10 + b2n (fld c 26 25 != 0) + b2n (bit c 27)

/-- SER_TRANSMIT_DONE (R447). -/
def execSerTransmitDone (n : Nat) (s : State) : Host.Outcome State Fault Refusal :=
  s.runIn .eth (fun s =>
    match s.eth.serDue.getD n none with
    | some t =>
      if t ≤ s.clk.tb then (s.setEth (fun e => { e with serDue := updAt e.serDue n (fun _ => none) })).wb (R.ETH_SER_STATUS n) 0 false
      else s
    | none => s)

/-- USB_VBUS_OVERCURRENT (R447): above the port's trip level the VBUS supply shuts off. -/
def execUsbVbusOvercurrent (u ma : Nat) (s : State) : Host.Outcome State Fault Refusal :=
  s.runIn .eth (fun s =>
    if clampN 600 1000 (Config.usbTripMa u) < ma then s.setEth (fun e => { e with vbus := updAt e.vbus u (fun _ => false) }) else s)

/-! ### Commands -/

/-- ETH_GET_STATUS after the common bytes (R449). -/
def State.ethStatus (s : State) : List Byte :=
  leBytes 2 (maskOf 13 (fun k => s.bt (R.ETH_PORT_STATUS k) 0)) ++ leBytes 2 (maskOf 13 (fun k => s.bt (R.ETH_PORT_STATUS k) 1)) ++
    [byte (b2n (s.bt R.ETH_TIME_STATUS 0) + 2 * b2n (s.bt R.ETH_TIME_STATUS 2) + 4 * b2n (s.bt R.ETH_TIME_STATUS 1)),
     byte (s.fd R.ETH_TIME_CFG 1 0), 0#8, 0#8] ++ wBytes (s.rd R.ETH_TIME_DIFF) ++ wBytes (s.rd R.ETH_POL_DROP)

/-- ETH_TIME_GET (R449). -/
def execEthTimeGet (c : Cmd) (s : State) : Host.Outcome State Fault Refusal :=
  s.runIn .eth (fun s => s.command fETH 0x10 0 c (fun _ s =>
    if !c.payload.isEmpty then refuse stBAD_LENGTH s
    else okWith (leBytes 8 s.gptp.g ++ leBytes 8 s.gptp.tb ++ wBytes (iword s.gptp.rate) ++ wBytes (s.rd R.ETH_PTP_GM_LO) ++
      wBytes (s.rd R.ETH_PTP_GM_HI) ++ wBytes (iword (trimPpb s.regs))) s))

/-- The gate list that an ETH_GCL_SET payload carries. -/
def gclOf (p : List Byte) : Gcl :=
  { entries := (List.range 64).map (fun i => u32 p (16 + 4 * i)), base := u64 p 4, cycle := u32 p 12, len := u8 p 1,
    en := u8 p 2 == 1 }

/-- ETH_GCL_SET (R440, R449). -/
def execEthGclSet (c : Cmd) (s : State) : Host.Outcome State Fault Refusal :=
  s.runIn (Foot.eth.and [.prm] [.prm]) (fun s => s.command fETH 0x11 1 c (fun _ s =>
    let p := c.payload
    let k := u8 p 0
    if p.length < 16 then refuse stBAD_LENGTH s
    else if 12 < k || u8 p 1 < 1 || 64 < u8 p 1 || 1 < u8 p 2 || u32 p 12 < 500 || 50000000 < u32 p 12 then refuse stBAD_PARAM s
    else if p.length != 16 + 4 * u8 p 1 then refuse stBAD_LENGTH s
    else okWith [] (((s.setEthPort k (fun q => { q with pend := gclOf p })).gclGo k).prmItem (256 * fETH + k) p)))

/-- ETH_TRIM_SET (R442, R449). -/
def execEthTrimSet (c : Cmd) (s : State) : Host.Outcome State Fault Refusal :=
  s.runIn .eth (fun s => s.command fETH 0x12 1 c (fun _ s =>
    if c.payload.length != 4 then refuse stBAD_LENGTH s
    else if s.fd R.ETH_TIME_CFG 1 0 != 0 then refuse stWRONG_STATE s
    else okWith [] (s.setTrim (i32 c.payload 0))))

/-- ETH_SER_OPEN (R447, R449, R560). -/
def execEthSerOpen (c : Cmd) (s : State) : Host.Outcome State Fault Refusal :=
  s.runIn .eth (fun s => s.command fETH 0x13 0 c (fun k s =>
    if c.payload.length != 2 then refuse stBAD_LENGTH s
    else if 9 < u8 c.payload 0 then refuse stBAD_PARAM s
    else ringReply s (s.openRing k fETH 0 (u8 c.payload 0) (u8 c.payload 1) false [])))

/-- ETH_SER_SEND (R447, R449): up to 256 bytes; the line is driven for the frame alone. A port that is not enabled, or a function
that is stopped, answers WRONG_STATE (DEDUCED). -/
def execEthSerSend (c : Cmd) (s : State) : Host.Outcome State Fault Refusal :=
  s.runIn .eth (fun s => s.command fETH 0x14 0 c (fun _ s =>
    let p := c.payload
    let n := u8 p 0
    let l := u16 p 2
    if p.length < 4 then refuse stBAD_LENGTH s
    else if 9 < n || l < 1 || 256 < l then refuse stBAD_PARAM s
    else if p.length != 4 + l then refuse stBAD_LENGTH s
    else if !s.isRunning fETH || !s.bt (R.ETH_SER_CFG n) 0 then refuse stWRONG_STATE s
    else if s.bt (R.ETH_SER_STATUS n) 0 then refuse stBUSY s
    else
      let w := s.rd (R.ETH_SER_CFG n)
      let baud := fld w 24 1
      let due := s.clk.tb + (l * serBits w * 50000000 + baud - 1) / baud
      let s := (s.setEth (fun e => { e with serDue := updAt e.serDue n (fun _ => some due) })).wb (R.ETH_SER_STATUS n) 0 true
      okWith [] { s with out := s.out ++ [OutMsg.bytes .ser n (p.drop 4)] }))

/-! ### Configuration, stop and reinitialisation -/

/-- The registers that a CONFIGURE payload carries, in its order (R449). -/
def ethCfgRegs : List Nat :=
  [R.ETH_TIME_CFG, R.ETH_PTP_CFG, R.ETH_IP_ADDR, R.ETH_IP_MASK, R.ETH_IP_GW, R.ETH_IP_VLAN] ++
  (List.range 16).map (fun k => R.ETH_PORT_CFG k) ++
  (List.range 32).flatMap (fun f => [R.ETH_SF_KEY f, R.ETH_SF_MAC f, R.ETH_SF_METER f]) ++
  (List.range 10).map (fun n => R.ETH_SER_CFG n)

/-- A CONFIGURE payload as register writes. -/
def ethCfgWords (p : List Byte) : List (Nat × Word) :=
  (ethCfgRegs.zip (List.range 128)).map (fun e => (e.1, w32 p (4 * e.2)))

/-- The checks of CONFIGURE (R448, R449). -/
def ethCfgCheck (plant : Bool) (p : List Byte) : Nat :=
  let src := fld (w32 p 0) 1 0
  if p.length != 512 then stBAD_LENGTH
  else if src = 3 || (plant && src = 1) then stBAD_PARAM
  else if !inMap (ethCfgWords p) then stBAD_PARAM
  else if (List.range 32).any (fun f => 10000 < fld (w32 p (88 + 12 * f + 8)) 13 0) then stBAD_PARAM
  else if (List.range 10).any (fun n =>
      let c := w32 p (472 + 4 * n)
      fld c 24 1 < 1200 || 10000000 < fld c 24 1 || fld c 26 25 = 3) then stBAD_PARAM
  else stOK

/-- APPLY of a configuration (R434, R437): the registers take it and the switch takes up what they hold. -/
def State.ethApply (s : State) (p : List Byte) : State :=
  let src := s.fd R.ETH_TIME_CFG 1 0
  let s := (ethCfgWords p).foldl (fun (s : State) e => s.wr e.1 (e.2 &&& maskAt e.1)) s
  let s := s.setEth (fun e => { e with force := ethCfgRegs.map (fun a => (a, s.rd a)), buckets := List.replicate 32 none })
  if s.fd R.ETH_TIME_CFG 1 0 = src then s else s.wb R.ETH_TIME_STATUS 2 false

/-- STOP and REINIT (R448): the SER rings close and SER transmission stops; switch, 802.1AS and relation go on. -/
def State.ethStop (s : State) : State :=
  let s := (s.mbx.rings.filter (fun r => r.fn == fETH)).foldl (fun (s : State) r => s.closeRing r.ring) s
  (List.range 10).foldl (fun (s : State) n => s.wb (R.ETH_SER_STATUS n) 0 false)
    (s.setEth (fun e => { e with serDue := List.replicate 10 none }))

end Sys2Proof.Machine
end

