-- ==== Sys2Proof/Machine/Inputs.lean ====
section
/-!
DEFINITION. The field inputs DIN, AIN and SNT (chapter 05): their events, commands, status and configuration.
-/
namespace Sys2Proof.Machine

/-- Function IDs of chapter 05 (R10). -/
def fDIN : Nat := 5
def fAIN : Nat := 6
def fSNT : Nat := 7

/-- Changes the state of the field inputs. -/
def State.setIn (s : State) (f : Inputs → Inputs) : State := { s with inp := f s.inp }

/-- R120: SIG = sat32(((x − OFS) · G) >> S), with whether it saturated. -/
def scale (x ofs g : Int) (sh : Nat) : Word × Bool :=
  let v := asr ((x - ofs) * g) sh
  (iword (sat32 v), v != sat32 v)

/-! ### Digital inputs -/

/-- Register and bit of digital input `n` in a pair of registers. -/
def dinReg (r0 r1 n : Nat) : Nat := if n < 32 then r0 else r1

/-- The state of digital input `n`. -/
def State.diState (s : State) (n : Nat) : Bool := s.bt (dinReg R.DIN_STATE0 R.DIN_STATE1 n) (n % 32)

/-- Sets the state of digital input `n`. -/
def State.setDi (s : State) (n : Nat) (v : Bool) : State :=
  s.wb (dinReg R.DIN_STATE0 R.DIN_STATE1 n) (n % 32) v

/-- Whether digital input `n` is in BREAK (R124). -/
def State.diBreak (s : State) (n : Nat) : Bool := s.bt (dinReg R.DIN_BREAK0 R.DIN_BREAK1 n) (n % 32)

/-- Whether the field supply of group `g` is MISSING (R125). -/
def State.vfsMissing (s : State) (g : Nat) : Bool := s.bt R.DIN_GRP_STATUS (8 + g)

/-- Debounce time of input `n` in samples of 1 µs; 0 acts as 1 (R122). -/
def State.diDeb (s : State) (n : Nat) : Nat := max 1 (s.fd (R.DIN_CFG n) 15 0)

/-- Shows the head of the edge FIFO in its registers (R123). -/
def State.showFifo (s : State) : State :=
  let s := s.wr R.DIN_FIFO_LEVEL (word s.inp.fifo.length)
  match s.inp.fifo with
  | [] => (s.wr R.DIN_FIFO_LO 0#32).wr R.DIN_FIFO_HI 0#32
  | e :: _ => (s.wr R.DIN_FIFO_LO (word e)).wr R.DIN_FIFO_HI (word (e / 4294967296))

/-- The 64-bit FIFO entry of an edge (R123). -/
def edgeEntry (n stamp : Nat) (rising : Bool) : Nat :=
  stamp % 2 ^ 56 + n * 2 ^ 56 + b2n rising * 2 ^ 62 + 2 ^ 63

/-- Dome drains the FIFO into its buffer of 1,024 entries in BASIC (R123); entries past its end are lost. -/
def State.drainFifo (s : State) : State :=
  if s.expert fDIN then s
  else
    let all := s.inp.buffer ++ s.inp.fifo
    (s.setIn (fun i => { i with buffer := all.take 1024, fifo := [],
                                lostRead := i.lostRead + (all.length - 1024) })).showFifo

/-- Whether a run of input `n` from `stamp` only re-establishes its state (R124, R125): it begins within DEB of the channel's return. -/
def State.diReest (s : State) (n stamp : Nat) : Bool := (s.inp.reest.getD n none).any (fun t => stamp < t + 50 * s.diDeb n)

/-- A debounced change of input `n` to state `v`, its run beginning at `stamp` (R122, R123). -/
def State.diChange (s : State) (n : Nat) (v : Bool) (stamp : Nat) : State :=
  let s1 := s.setDi n v
  let s2 := s1.setIn (fun i => { i with reest := updAt i.reest n (fun _ => none) })
  if s.diReest n stamp then s2
  else if !s.bt (R.DIN_CFG n) (if v then 16 else 17) then s2
  else if s2.inp.fifo.length < 64 then
    (((s2.setIn (fun i => { i with fifo := i.fifo ++ [edgeEntry n stamp v] })).inc R.DIN_EDGE_CNT).showFifo).drainFifo
  else (s2.inc R.DIN_EDGE_LOST).setIn (fun i => { i with lostRead := i.lostRead + 1 })

/-- What an input current of `ua` µA says in wire-break mode (R124): ON above 4.0 mA, OFF from 0.5 to 3.2 mA, nothing elsewhere. -/
def wbLevel (ua : Nat) : Option Bool :=
  if 4000 < ua then some true else if 500 ≤ ua && ua ≤ 3200 then some false else none

/-- The state that a sampled level gives input `n` (R122, R124): `level` as the Type 3 thresholds read it, in wire-break mode as the
current `ua` in µA reads; then INV. An unchanged reading is the state itself. -/
def State.diRead (s : State) (n : Nat) (level : Bool) (ua : Nat) : Bool :=
  let inv := s.bt (R.DIN_CFG n) 19
  if s.bt (R.DIN_CFG n) 18 then (match wbLevel ua with
    | some v => v != inv
    | none => s.diState n)
  else level != inv

/-- DI_EDGE (R122, R124): the level, or on a wire-break input the current, sampled since `ua.tb` has differed from the state for DEB samples. -/
def execDiEdge (n : Nat) (level : Bool) (ua : Sample) (s : State) : Host.Outcome State Fault Refusal :=
  s.runIn .inputs (fun s =>
    let v := s.diRead n level ua.val
    if s.isRunning fDIN && n < 40 && v != s.diState n && !s.diBreak n && !s.vfsMissing (n / 10)
        && s.tbReached (ua.tb + 50 * (s.diDeb n - 1)) then
      s.diChange n v ua.tb
    else s)

/-- DIN_FIFO_HI_READ (R123): the read returns the head's high word and removes the entry. -/
def execDinFifoHiRead (ini : Initiator) (s : State) : Host.Outcome State Fault Refusal :=
  s.runIn .inputs (fun s => s.fetched ini .ctl (s.rd R.DIN_FIFO_HI) (fun t =>
    (t.setIn (fun i => { i with fifo := i.fifo.drop 1 })).showFifo))

/-- DI_WIRE_BREAK (R124): the current stands at `ua` in µA, below 0.5 mA since its TB, for DEB. -/
def execDiWireBreak (n : Nat) (ua : Sample) (s : State) : Host.Outcome State Fault Refusal :=
  s.runIn .inputs (fun s =>
    if s.isRunning fDIN && n < 40 && ua.val < 500 && s.bt (R.DIN_CFG n) 18 && !s.diBreak n && !s.vfsMissing (n / 10)
        && s.tbReached (ua.tb + 50 * (s.diDeb n - 1)) then
      (((s.wb (dinReg R.DIN_BREAK0 R.DIN_BREAK1 n) (n % 32) true).setDi n false).inc R.DIN_BREAK_CNT).notify fDIN 0x81
        [byte n, 1#8]
    else s)

/-- DI_BREAK_CLEAR (R124): the current of a channel returns to a value in µA above 0.5 mA; the state is re-established after DEB without an edge. -/
def execDiBreakClear (ua : Reading) (s : State) : Host.Outcome State Fault Refusal :=
  s.runIn .inputs (fun s =>
    let n := ua.n
    if s.isRunning fDIN && n < 40 && 500 < ua.val && s.diBreak n && !s.vfsMissing (n / 10) then
      ((s.wb (dinReg R.DIN_BREAK0 R.DIN_BREAK1 n) (n % 32) false).setIn
        (fun i => { i with reest := updAt i.reest n (fun _ => some s.clk.tb) })).notify fDIN 0x81 [byte n, 0#8]
    else s)

/-- LOW or MISSING of a group after a supply of `mv` mV, with 0.5 V of hysteresis (R125). -/
def vfsFlag (old : Bool) (mv th : Nat) : Bool := if mv < th then true else if th + 500 < mv then false else old

/-- FIELD_SUPPLY_CHANGE (R125): VFSg measures `mv`. -/
def execFieldSupplyChange (g mv : Nat) (s : State) : Host.Outcome State Fault Refusal :=
  s.runIn .inputs (fun s =>
    let low := vfsFlag (s.bt R.DIN_GRP_STATUS g) mv 19200
    let miss := vfsFlag (s.vfsMissing g) mv 9000
    if low == s.bt R.DIN_GRP_STATUS g && miss == s.vfsMissing g then s
    else
      let t := (s.wb R.DIN_GRP_STATUS g low).wb R.DIN_GRP_STATUS (8 + g) miss
      let ch := (List.range 10).map (fun i => 10 * g + i)
      let t := if miss && !s.vfsMissing g then ch.foldl (fun (t : State) n => (t.setDi n false).wb (dinReg R.DIN_BREAK0 R.DIN_BREAK1 n) (n % 32) false) t
        else if s.vfsMissing g && !miss then
          t.setIn (fun i => { i with reest := ch.foldl (fun r n => updAt r n (fun _ => some s.clk.tb)) i.reest })
        else t
      t.notify fDIN 0x80 [byte g, byte (b2n low + 2 * b2n miss)])

/-- DIN_READ_EDGES (R141). -/
def execDinReadEdges (c : Cmd) (s : State) : Host.Outcome State Fault Refusal :=
  s.runIn .inputs (fun s => s.command fDIN 0x10 0 c (fun _ s =>
    let m := u16 c.payload 0
    if c.payload.length != 2 then refuse stBAD_LENGTH s
    else if m < 1 || 500 < m then refuse stBAD_PARAM s
    else
      let l := s.inp.buffer.take m
      let p := leBytes 2 l.length ++ leBytes 2 0 ++ leBytes 4 s.inp.lostRead ++ l.flatMap (leBytes 8)
      (.now stOK p, s.setIn (fun i => { i with buffer := i.buffer.drop m, lostRead := 0 }))))

/-! ### Analog channels -/

/-- Analog channel `n`. -/
def State.ain (s : State) (n : Nat) : AinCh := s.inp.ain.getD n {}

/-- Changes analog channel `n`. -/
def State.setAin (s : State) (n : Nat) (f : AinCh → AinCh) : State :=
  s.setIn (fun i => { i with ain := updAt i.ain n f })

/-- Whether sensor supply `i` is on (R130). -/
def State.supOn (s : State) (i : Nat) : Bool := s.bt R.AIN_SUP_STATUS (8 * i)

/-- The supply an analog channel's REF names: SUP5A, SUP5B or SUP10 (R128), coded 0, 1, 2 in that order, 3 as SUP10 (DESIGN CHOICE, log
entry 122). -/
def State.ainRef (s : State) (n : Nat) : Nat := min 2 (s.fd (R.AIN_CFG n) 5 4)

/-- MODE of an analog channel (R128). -/
def State.ainMode (s : State) (n : Nat) : Nat := s.fd (R.AIN_CFG n) 2 0

/-- Condition 6 of R129. -/
def State.ainRefBad (s : State) (n : Nat) : Bool :=
  s.ainMode n == 6 && (!s.supOn (s.ainRef n) || s.bt R.AIN_SUP_STATUS (8 * s.ainRef n + 1)
    || s.bt R.AIN_SUP_STATUS (8 * s.ainRef n + 2))

/-- Which of the conditions 1 to 4 of R129 hold for a value `x`. -/
def State.ainConds (s : State) (n : Nat) (x : Int) : List Bool :=
  let lo := s.fd (R.AIN_LIM n) 15 0
  let hi := s.fd (R.AIN_LIM n) 31 16
  let win := !(lo == 0 && hi == 0xFFFF)
  let m4 := s.ainMode n == 4
  [win && decide (x < lo), win && decide ((hi : Int) < x), m4 && decide (x < 3600), m4 && decide (21000 < x)]

/-- The time a condition of R129 must persist, FLTT × 10 ms. -/
def State.ainFltt (s : State) (n : Nat) : Nat := tbMs (10 * s.fd (R.AIN_CFG n) 31 27)

/-- The fault code an analog channel shows: the highest that holds (R129). -/
def State.ainCode (s : State) (n : Nat) : Nat :=
  let c := s.ain n
  if s.ainRefBad n then 6
  else if c.shuntOff.isSome then 5
  else if c.active.getD 3 false then 4
  else if c.active.getD 2 false then 3
  else if c.active.getD 1 false then 2
  else if c.active.getD 0 false then 1
  else 0

/-- Shows a channel's fault code; a newly entered fault is counted and notified, and the entry becomes invalid. -/
def State.ainShow (s : State) (n : Nat) : State :=
  let old := s.fd (R.AIN_RAW n) 18 16
  let code := s.ainCode n
  if old = code then s
  else
    let t := s.wf_ (R.AIN_RAW n) 18 16 code
    let t := if old = 0 then t.inc R.AIN_RANGE_ERR else t
    let t := if code = 0 then t else t.dropSig (0x40 + n)
    t.notify fAIN 0x80 [0#8, byte n, byte code]

/-- Enters and clears the conditions of a channel whose time has run (R129). -/
def State.ainEval (s : State) (n : Nat) : State :=
  let d := s.ainFltt n
  let c := s.ain n
  let due (o : Option Nat) : Bool := match o with
    | some t => s.tbPast t d
    | none => false
  let act := (List.range 4).map (fun k =>
    if c.active.getD k false then !due (c.goneAt.getD k none) else due (c.condAt.getD k none))
  (s.setAin n (fun c => { c with active := act })).ainShow n

/-- The running frame: `AIN_FRAME` at the tick boundary, one more in the second half (R127). -/
def State.ainFrame (s : State) : Nat := (s.rd R.AIN_FRAME).toNat + (if 10000 ≤ s.clk.phase then 1 else 0)

/-- The frame of the latest conversion of channel `n` that has ended (R127), of the running frame or, for channel 23, whose slot ends with
its frame, of the one before; none while it has not. -/
def State.ainDone (s : State) (n : Nat) : Option Nat :=
  if n = 23 then (if s.ainFrame = 0 then none else some (s.ainFrame - 1))
  else if 400 * (n + 2) ≤ s.clk.phase % 10000 then some s.ainFrame else none

/-- AIN_CONVERSION (R127 to R129): channel `n` converts an input of `x` (the mode's unit; mV for mode 6). -/
def execAinConversion (n x : Nat) (s : State) : Host.Outcome State Fault Refusal :=
  s.runIn .inputs (fun s =>
    let cfg := s.rd (R.AIN_CFG n)
    let mode := s.ainMode n
    let rdiv := max 1 (fld cfg 17 6)
    let done := s.ainDone n
    if !(s.isRunning fAIN && n < 24 && mode != 0 && mode != 7 && done.any (fun f => f % rdiv == 0) && (s.ain n).frame != done) then s
    else
      let mv := s.pwr.meas.supMv.getD (s.ainRef n) 0
      let xi : Int := if mode = 6 then (if mv = 0 then 65535 else min 65535 (x * 65536 / mv)) else x
      let c := s.ain n
      let y := if c.first then xi else c.y + asr (xi - c.y) (fld cfg 21 18)
      let on := s.ainConds n xi
      let exceeds := mode == 4 && decide (25000 < xi)
      let cond := (List.range 4).map (fun k =>
        if on.getD k false then some ((c.condAt.getD k none).getD s.clk.tb) else none)
      let gone := (List.range 4).map (fun k =>
        if on.getD k false then none else some ((c.goneAt.getD k none).getD s.clk.tb))
      let t := s.setAin n (fun c => { c with
        y := y, first := false, frame := done, condAt := cond, goneAt := gone,
        overAt := if exceeds then some (c.overAt.getD s.clk.tb) else none })
      let t := t.wf_ (R.AIN_RAW n) 15 0 xi.toNat
      let t := t.ainEval n
      let r := scale y (s.fd (R.AIN_OFS n) 15 0) (s.rd (R.AIN_GAIN n)).toInt (fld cfg 26 22)
      let t := t.wb (R.AIN_RAW n) 19 r.2
      if t.ainCode n = 0 then t.setSig (0x40 + n) r.1 else t)

/-- Whether speed input `j` belongs to a quadrature pair, and the pair's even input (R135). -/
def State.quadOf (s : State) (j : Nat) : Option Nat :=
  let e := 2 * (j / 2)
  if j < 8 && s.fd (R.AIN_SPD_CFG e) 1 0 == 3 then some e else none

/-- Whether speed input `j` reads a variable-reluctance sensor: MODE 2 outside a quadrature pair, whose odd MODE is ignored (R135). -/
def State.spdVr (s : State) (j : Nat) : Bool := (s.quadOf j).isNone && s.fd (R.AIN_SPD_CFG j) 1 0 == 2

/-- AIN_FAULT_ENTER (R129, R133, R134): the time of a channel's condition has run; or bridge `n` meets a fault of its
REF supply; or the open-coil detection of speed input `n` answers `on`. -/
def execAinFaultEnter (kind n : Nat) (on : Bool) (s : State) : Host.Outcome State Fault Refusal :=
  s.runIn .inputs (fun s =>
    match kind with
    | 0 => if n < 24 && s.isRunning fAIN then s.ainEval n else s
    | 1 =>
      if n < 4 && s.isRunning fAIN && s.bt (R.AIN_BRG_CFG n) 15 && on
          && !s.supOn (s.fd (R.AIN_BRG_CFG n) 8 8) && s.fd (R.AIN_BRG_RAW n) 25 24 == 0 then
        (((s.wf_ (R.AIN_BRG_RAW n) 25 24 2).dropSig (0x58 + n)).inc R.AIN_RANGE_ERR).notify fAIN 0x80
          [1#8, byte n, 2#8]
      else s
    | _ =>
      if n < 12 && s.isRunning fAIN && s.spdVr n
          && (s.inp.spd.getD n {}).open_ != on then
        let t := s.setIn (fun i => { i with spd := updAt i.spd n (fun c => { c with open_ := on }) })
        let t := t.wb (R.AIN_SPD_POS n) 31 on
        let t := if on then t.dropSig (0x5C + n) else t
        t.notify fAIN 0x80 [2#8, byte n, byte (b2n on)]
      else s)

/-- AIN_4MA_TRIP (R129, condition 5): above 25 mA for 1 ms, the shunt is disconnected at once. -/
def execAin4maTrip (n : Nat) (s : State) : Host.Outcome State Fault Refusal :=
  s.runIn .inputs (fun s =>
    match (s.ain n).overAt with
    | some t0 =>
      if n < 24 && s.isRunning fAIN && s.ainMode n == 4 && (s.ain n).shuntOff == none && s.tbPast t0 (tbMs 1) then
        ((s.setAin n (fun c => { c with shuntOff := some s.clk.tb, overAt := none })).inc R.AIN_4MA_TRIPS).ainShow n
      else s
    | none => s)

/-- AIN_4MA_RECONNECT (R129): the shunt is reconnected 1 s after the trip. -/
def execAin4maReconnect (n : Nat) (s : State) : Host.Outcome State Fault Refusal :=
  s.runIn .inputs (fun s =>
    match (s.ain n).shuntOff with
    | some t0 => if s.tbPast t0 (tbMs 1000) then (s.setAin n (fun c => { c with shuntOff := none })).ainShow n else s
    | none => s)

/-! ### Sensor supplies -/

/-- Whether the module may power the sensor supplies: RUN and no shed (R101, R131). -/
def State.supAllowed (s : State) : Bool := s.power == 3 && !s.pwr.shed && !s.pwr.overShed

/-- Supply `i` follows its enable, its trips and the power state (R130, R131). -/
def State.supUpdate (s : State) (i : Nat) : State :=
  let on := s.bt R.AIN_SUP_CTRL i && s.supAllowed && !s.bt R.AIN_SUP_STATUS (8 * i + 2)
    && (s.inp.sup.getD i {}).off == none
  s.wb R.AIN_SUP_STATUS (8 * i) on

/-- All three sensor supplies follow. -/
def State.supUpdateAll (s : State) : State := ((s.supUpdate 0).supUpdate 1).supUpdate 2

/-- Changes sensor supply `i`. -/
def State.setSup (s : State) (i : Nat) (f : SupSt → SupSt) : State :=
  s.setIn (fun x => { x with sup := updAt x.sup i f })

/-- The current-limit flags of the sensor supplies after a measurement. -/
def State.supLimits (s : State) (mask : Nat) : State :=
  (List.range 3).foldl (fun (s : State) i =>
    let on := mask.testBit i && s.supOn i
    (s.wb R.AIN_SUP_STATUS (8 * i + 1) on).setSup i (fun x =>
      { x with limitAt := if on then some (x.limitAt.getD s.clk.tb) else none })) s

/-- SUPPLY_TRIP (R130): 20 ms in current limit; off, counted, latched after the third consecutive trip. -/
def execSupplyTrip (i : Nat) (s : State) : Host.Outcome State Fault Refusal :=
  s.runIn .inputs (fun s =>
    match (s.inp.sup.getD i {}).limitAt with
    | some t0 =>
      if i < 3 && s.supOn i && s.tbPast t0 (tbMs 20) then
        let n := min 3 (s.fd R.AIN_SUP_STATUS (8 * i + 4) (8 * i + 3) + 1)
        let latch := n == 3
        let t := (s.wf_ R.AIN_SUP_STATUS (8 * i + 4) (8 * i + 3) n).wb R.AIN_SUP_STATUS (8 * i + 2) latch
        let t := (t.wb R.AIN_SUP_STATUS (8 * i + 1) false).setSup i (fun _ =>
          { off := some s.clk.tb, lastAt := s.clk.tb, limitAt := none })
        ((t.supUpdate i).inc R.AIN_SUP_TRIPS).notify fAIN 0x81 [byte i, byte (b2n latch)]
      else s
    | none => s)

/-- SUPPLY_RETRY (R130): a tripped supply that is not latched turns on again after 1 s. -/
def execSupplyRetry (i : Nat) (s : State) : Host.Outcome State Fault Refusal :=
  s.runIn .inputs (fun s =>
    match (s.inp.sup.getD i {}).off with
    | some t0 =>
      if i < 3 && !s.bt R.AIN_SUP_STATUS (8 * i + 2) && s.tbPast t0 (tbMs 1000) then
        (s.setSup i (fun x => { x with off := none })).supUpdate i
      else s
    | none => s)

/-- SUPPLY_TRIP_COUNT_RESET (R130): 60 s without a trip. -/
def execSupplyTripCountReset (i : Nat) (s : State) : Host.Outcome State Fault Refusal :=
  s.runIn .inputs (fun s =>
    if i < 3 && s.tbPast (s.inp.sup.getD i {}).lastAt (tbMs 60000) then
      s.wf_ R.AIN_SUP_STATUS (8 * i + 4) (8 * i + 3) 0
    else s)

/-- Latched supplies of a mask turn on again (R130), their trip counts at zero (DESIGN CHOICE, log entry 122). -/
def State.supRestart (s : State) (m : Nat) : State :=
  (List.range 3).foldl (fun (s : State) i =>
    if m.testBit i && s.bt R.AIN_SUP_STATUS (8 * i + 2) then
      (((s.wf_ R.AIN_SUP_STATUS (8 * i + 4) (8 * i + 3) 0).wb R.AIN_SUP_STATUS (8 * i + 2) false).setSup i
        (fun x => { x with off := none })).supUpdate i
    else s) s

/-- AIN_SUP_RESTART (R130, R141). -/
def execAinSupRestart (c : Cmd) (s : State) : Host.Outcome State Fault Refusal :=
  s.runIn .inputs (fun s => s.command fAIN 0x11 1 c (fun _ s =>
    if c.payload.length != 1 then refuse stBAD_LENGTH s
    else if 8 ≤ u8 c.payload 0 then refuse stBAD_PARAM s
    else (.now stOK [], s.supRestart (u8 c.payload 0))))

/-! ### Bridges -/

/-- Output rate of a bridge in codes per second (R132): codes 0 to 4 of RATE are 1 to 16 kS/s (DESIGN CHOICE, log entry 122). -/
def brgRate (cfg : Word) : Nat := 1000 * 2 ^ min 4 (fld cfg 2 0)

/-- BRIDGE_CODE (R132, R133): bridge `k` delivers a signed 24-bit code. -/
def execBridgeCode (k : Nat) (code : Int) (s : State) : Host.Outcome State Fault Refusal :=
  s.runIn .inputs (fun s =>
    let cfg := s.rd (R.AIN_BRG_CFG k)
    if !(s.isRunning fAIN && k < 4 && bit cfg 15) then s
    else if 0 < s.inp.discard.getD k 0 then s.setIn (fun i => { i with discard := updAt i.discard k (· - 1) })
    else
      let v := clampI (-8388608) 8388607 code
      let old := s.fd (R.AIN_BRG_RAW k) 25 24
      let fault := if !s.supOn (fld cfg 8 8) then 2 else if v = 8388607 || v = -8388608 then 1 else 0
      let t := (s.wf_ (R.AIN_BRG_RAW k) 23 0 (iword v).toNat).wf_ (R.AIN_BRG_RAW k) 25 24 fault
      let t := if old = 0 && fault != 0 then t.inc R.AIN_RANGE_ERR else t
      let t := if old != fault then t.notify fAIN 0x80 [1#8, byte k, byte fault] else t
      let t := t.setIn (fun i => { i with tare := i.tare.map (fun a =>
        if a.bridge = k && a.got < a.want then { a with got := a.got + 1, sum := a.sum + v } else a) })
      if fault != 0 then t.dropSig (0x58 + k)
      else
        let r := scale v (s.rd (R.AIN_BRG_TARE k)).toInt (s.rd (R.AIN_BRG_GAIN k)).toInt (fld cfg 13 9)
        (t.wb (R.AIN_BRG_RAW k) 26 r.2).setSig (0x58 + k) r.1)

/-- AIN_BRIDGE_TARE (R133, R141): averages the codes that follow; the mean is stored when the command ends. A bridge that delivers none, with
EN clear or AIN not RUNNING, answers WRONG_STATE (DESIGN CHOICE, log entry 122). -/
def execAinBridgeTare (c : Cmd) (s : State) : Host.Outcome State Fault Refusal :=
  s.runIn .inputs (fun s => s.command fAIN 0x10 1 c (fun _ s =>
    let k := u8 c.payload 0
    let n := u16 c.payload 2
    if c.payload.length != 4 then refuse stBAD_LENGTH s
    else if 4 ≤ k || n < 16 || 4 * brgRate (s.rd (R.AIN_BRG_CFG k)) < n then refuse stBAD_PARAM s
    else if !(s.isRunning fAIN && s.bt (R.AIN_BRG_CFG k) 15) then refuse stWRONG_STATE s
    else
      let t := s.setIn (fun i => { i with tare := some { bridge := k, want := n, got := 0, sum := 0 } })
      t.classC fAIN 0x0610 c stOK []))

/-- The mean of tared codes: the exact quotient where it is a whole number, else one of its two neighbours, which one
the spec leaves open (a free value). -/
def tareMean (sum : Int) (n : Nat) : Int :=
  if sum % (n : Int) = 0 then sum / n else sum / n + (if Config.roundMeanUp sum n then 1 else 0)

/-- The registers of AIN's CONFIGURE payload in their order (R140). -/
def ainCfgRegs : List Nat :=
  (List.range 24).flatMap (fun n => [R.AIN_CFG n, R.AIN_GAIN n, R.AIN_OFS n, R.AIN_LIM n]) ++
  (List.range 4).flatMap (fun k => [R.AIN_BRG_CFG k, R.AIN_BRG_TARE k, R.AIN_BRG_GAIN k]) ++
  (List.range 12).flatMap (fun j => [R.AIN_SPD_CFG j, R.AIN_SPD_GAIN j]) ++
  (List.range 8).flatMap (fun a => [R.ACU_CFG a, R.ACU_THR a]) ++ [R.AIN_SUP_CTRL]

/-- The end of AIN_BRIDGE_TARE: none until the codes are in; TARE is stored and stands in its shadow for the strobe of UG5. -/
def State.tareDone (s : State) : Option (List Byte × State) :=
  match s.inp.tare with
  | none => none
  | some a =>
    if a.got < a.want then none
    else
      let m := iword (tareMean a.sum a.want)
      let t := (s.setIn (fun i => { i with tare := none })).shadowWr (R.AIN_BRG_TARE a.bridge) 5 m
      some (wBytes m, t.patchApplied fAIN (384 + 12 * a.bridge + 4) (wBytes m) (resetWords ainCfgRegs))

/-! ### Speeds -/

/-- Changes speed input `j`. -/
def State.setSpd (s : State) (j : Nat) (f : SpdCh → SpdCh) : State :=
  s.setIn (fun i => { i with spd := updAt i.spd j f })

/-- Position of a pair of levels in the cycle in which A leads: 00, 10, 11, 01. -/
def grayPos (a b : Bool) : Int :=
  match a, b with
  | false, false => 0
  | true, false => 1
  | true, true => 2
  | false, true => 3

/-- SPEED_EDGE (R134, R135): input `j` changes to `up` at `stamp`; `both` where the other input of a pair changes at
once. -/
def execSpeedEdge (j : Nat) (up both : Bool) (stamp : Nat) (s : State) : Host.Outcome State Fault Refusal :=
  s.runIn .inputs (fun s =>
    if !(s.isRunning fAIN && j < 12) then s
    else
      match s.quadOf j with
      | some e =>
        let c := s.inp.spd.getD e {}
        let a := if j = e then up else if both then !c.a else c.a
        let b := if j = e then (if both then !c.b else c.b) else up
        let t := s.setSpd e (fun c => { c with a := a, b := b })
        let d := (grayPos a b - grayPos c.a c.b) % 4
        if d = 2 then t.inc R.AIN_SPD_QERR
        else if d = 0 then t
        else
          let step : Int := if d = 1 then 1 else -1
          let pos := iword ((s.rd (R.AIN_SPD_POS e)).toInt + step)
          ((t.wr (R.AIN_SPD_POS e) pos).setSig (0x5C + e + 1) pos).setSpd e
            (fun c => { c with edges := c.edges ++ [(stamp, step)] })
      | none =>
        let m := s.fd (R.AIN_SPD_CFG j) 1 0
        if m = 0 || m = 3 then s
        else if up || s.bt (R.AIN_SPD_CFG j) 3 then
          s.setSpd j (fun c => { c with edges := c.edges ++ [(stamp, 1)] })
        else s)

/-- R134: the frequency of speed input `j` from the edges stamped before the boundary at TB `now`. -/
def State.speedCompute (s : State) (now j : Nat) : State :=
  let cfg := s.rd (R.AIN_SPD_CFG j)
  let odd := match s.quadOf j with
    | some e => e != j
    | none => false
  if !(s.isRunning fAIN) || fld cfg 1 0 == 0 || odd || (s.quadOf j == none && fld cfg 1 0 == 3) then s
  else
    let c := s.inp.spd.getD j {}
    let mine := c.edges.filter (fun e => e.1 < now)
    let rest := c.edges.filter (fun e => now ≤ e.1)
    let last := (mine.getLast?).map (fun e => e.1)
    let net := mine.foldl (fun (a : Int) e => a + e.2) 0
    let sgn (f : Nat) : Int := if c.f < 0 then -(f : Int) else f
    let r : Option Nat × Int :=
      match c.t0, last with
      | none, none => (none, 0)
      | none, some tl =>
        -- the first edge only sets t0; edges after it count
        let first := (mine.headD (0, 0)).1
        let n2 := (mine.drop 1).foldl (fun (a : Int) e => a + e.2) 0
        if first < tl then
          (some tl, if n2 < 0 then -((n2.natAbs * 50000000000 / (tl - first) : Nat) : Int)
                    else ((n2.natAbs * 50000000000 / (tl - first) : Nat) : Int))
        else (some tl, 0)
      | some t0, some tl =>
        if t0 < tl then
          (some tl, if net < 0 then -((net.natAbs * 50000000000 / (tl - t0) : Nat) : Int)
                    else ((net.natAbs * 50000000000 / (tl - t0) : Nat) : Int))
        else (some tl, c.f)
      | some t0, none =>
        if 500000000 < now - t0 then (some t0, 0)
        else (some t0, sgn (min c.f.natAbs (50000000000 / max 1 (now - t0))))
    let t := s.setSpd j (fun c => { c with edges := rest, t0 := r.1, f := r.2 })
    let t := t.wr (R.AIN_SPD_FREQ j) (iword r.2)
    if c.open_ then t
    else t.setSig (0x5C + j) (scale r.2 0 (s.rd (R.AIN_SPD_GAIN j)).toInt (fld cfg 8 4)).1

/-- SPEED_ZERO_TIMEOUT (R134): more than 10 s since the last edge at the latest boundary. -/
def execSpeedZeroTimeout (j : Nat) (s : State) : Host.Outcome State Fault Refusal :=
  s.runIn .inputs (fun s =>
    match (s.inp.spd.getD j {}).t0 with
    | some t0 =>
      if j < 12 && 500000000 < s.clk.tickStamp - t0 && (s.inp.spd.getD j {}).edges.isEmpty then
        s.speedCompute s.clk.tickStamp j
      else s
    | none => s)

/-! ### Acoustic loss -/

/-- One band-passed sample of an acoustic channel (R136), with whether an impact was counted. -/
def acuSample (cfg thr : Word) (c : AcuCh) (x : Int) : AcuCh × Bool :=
  let env := max (x.natAbs : Int) (c.env - asr c.env (clampN 2 10 (fld cfg 4 1)))
  let floor := if c.inImpact then c.floor else c.floor + asr (env - c.floor) (clampN 8 20 (fld cfg 9 5))
  let th : Int := max (fld thr 10 0) (asr (floor * fld cfg 31 26) 4)
  let dead := c.dead - 1
  let hit := c.armed && dead == 0 && decide (th ≤ env)
  let c1 : AcuCh := { c with env := env, floor := floor, dead := dead }
  let c2 : AcuCh := if hit then
      { c1 with count := c.count + 1, dead := clampN 5 500 (fld cfg 18 10), armed := false, inImpact := true }
    else c1
  let c3 : AcuCh := if !c2.armed && decide (env < asr (th * 3) 2) then { c2 with armed := true, inImpact := false } else c2
  (c3, hit)

/-- ACU_IMPACT (R136): the band-passed samples of channel `a`, taken one by one. -/
def execAcuImpact (a : Nat) (xs : List Int) (s : State) : Host.Outcome State Fault Refusal :=
  s.runIn .inputs (fun s =>
    let cfg := s.rd (R.ACU_CFG a)
    let thr := s.rd (R.ACU_THR a)
    if !(s.isRunning fAIN && a < 8 && bit cfg 0) then s
    else
      let r := xs.foldl (fun (acc : AcuCh × Nat) x =>
        let y := acuSample cfg thr acc.1 x
        (y.1, acc.2 + b2n y.2)) (s.inp.acu.getD a {}, 0)
      let th : Int := max (fld thr 10 0) (asr (r.1.floor * fld cfg 31 26) 4)
      let t := s.setIn (fun i => { i with acu := updAt i.acu a (fun _ => r.1) })
      let t := t.addCnt (R.ACU_TOTAL a) r.2
      (t.wf_ (R.ACU_FLOOR a) 10 0 r.1.floor.toNat).wf_ (R.ACU_FLOOR a) 26 16 th.toNat)

/-- R137: the end of one 10 ms window of channel `a`. -/
def State.acuWindow (s : State) (a : Nat) : State :=
  let cfg := s.rd (R.ACU_CFG a)
  if !bit cfg 0 then s
  else
    let c := s.inp.acu.getD a {}
    let m := clampN 1 100 (fld cfg 25 19)
    let l := (c.count :: c.windows).take 100
    let used := l.take m
    let t := s.setIn (fun i => { i with acu := updAt i.acu a (fun c => { c with count := 0, windows := l }) })
    t.setSig (0x68 + a) (iword (sat32 ((used.foldl (· + ·) 0 * 10000 / used.length : Nat) : Int)))

/-- ACU_WINDOW_END (R137): a tick boundary whose count is a multiple of 200. -/
def execAcuWindowEnd (s : State) : Host.Outcome State Fault Refusal :=
  s.runIn .inputs (fun s =>
    if s.isRunning fAIN && s.clk.tickCount % 200 == 0 && s.inp.acuTick != some s.clk.tickCount then
      (List.range 8).foldl (fun (s : State) a => s.acuWindow a)
        (s.setIn (fun i => { i with acuTick := some s.clk.tickCount }))
    else s)

/-! ### SENT -/

/-- The CRC table of J2716 (PRESUMED, from the standard the spec names). -/
def sentTable : List Nat := [0, 13, 7, 10, 14, 3, 9, 4, 1, 12, 6, 11, 15, 2, 8, 5]

/-- The 4-bit CRC of J2716 over data nibbles, seed 5; the recommended form runs one more zero nibble. -/
def sentCrc (recommended : Bool) (nibs : List Nat) : Nat :=
  let c := nibs.foldl (fun c d => d ^^^ sentTable.getD c 0) 5
  if recommended then sentTable.getD c 0 else c

/-- The nibbles of a list as one number, the first received the most significant, in `SNT_FAST` as in the entry (DESIGN CHOICE, log entry
122). -/
def nibNum (l : List Nat) : Nat := l.foldl (fun a d => 16 * a + d) 0

/-- Why a SENT frame is rejected (R138): 0 accepted, 1 CRC, 2 calibration, 3 nibble. -/
def sentCheck (cfg : Word) (prev : Option Nat) (f : SentRx) : Nat :=
  let nom := 50 * clampN 6 180 (fld cfg 8 1)
  let nib := clampN 1 6 (fld cfg 11 9)
  let dev (a b : Nat) : Nat := if a < b then b - a else a - b
  let jump := match prev with
    | some p => decide (p < 64 * dev f.tick p)
    | none => false
  if nom < 5 * dev f.tick nom || jump then 2
  else if f.pulses.length != nib + 2 || f.pulses.any (fun p => p < 12 || 27 < p) then 3
  else
    let v := f.pulses.map (· - 12)
    if sentCrc (bit cfg 15) ((v.drop 1).take nib) != v.getD (nib + 1) 0 then 1 else 0

/-- ERR_LIM of a SENT channel, 1 to 15 (R139). -/
def State.sntLim (s : State) (ch : Nat) : Nat := max 1 (s.fd (R.SNT_CFG ch) 22 19)

/-- Changes SENT channel `ch`. -/
def State.setSnt (s : State) (ch : Nat) (f : SentCh → SentCh) : State :=
  s.setIn (fun i => { i with sent := updAt i.sent ch f })

/-- A rejected frame with error code `e` (R139). -/
def State.sntReject (s : State) (ch e cnt : Nat) : State :=
  let a := R.SNT_STAT ch
  let run := min 15 (s.fd a 4 1 + 1)
  let t := ((s.inc cnt).wf_ a 4 1 run).wf_ a 7 5 e
  if s.sntLim ch ≤ run && !s.bt a 0 then
    ((t.wb a 0 true).dropSig (0x70 + ch)).notify fSNT 0x80 [byte ch, byte e, 1#8]
  else t

/-- The content SEL chooses (R138). -/
def sentContent (cfg : Word) (d : List Nat) : Nat :=
  let fc1 := nibNum (d.take 3)
  let fc2 := nibNum ((d.drop 3).take 3).reverse
  match fld cfg 14 13 with
  | 0 => if bit cfg 12 then fc1 else nibNum d
  | 1 => fc2
  | _ => fc1 + 65536 * fc2

/-- SENT_FRAME (R138, R139). -/
def execSentFrame (ch : Nat) (f : SentRx) (s : State) : Host.Outcome State Fault Refusal :=
  s.runIn .inputs (fun s =>
    let cfg := s.rd (R.SNT_CFG ch)
    if !(s.isRunning fSNT && ch < 16 && bit cfg 0) then s
    else
      let e := sentCheck cfg (s.inp.sent.getD ch {}).prev f
      let t := (s.setSnt ch (fun c => { c with prev := some f.tick })).wf_ (R.SNT_STAT ch) 23 8 f.tick
      if e = 1 then t.sntReject ch 1 R.SNT_CRC_ERR
      else if e != 0 then t.sntReject ch e R.SNT_FMT_ERR
      else
        let v := f.pulses.map (· - 12)
        let d := (v.drop 1).take (clampN 1 6 (fld cfg 11 9))
        let a := R.SNT_STAT ch
        let t := ((t.setSnt ch (fun c => { c with since := s.clk.tb, stamp := f.stamp })).inc (R.SNT_FRAMES ch)).wr (R.SNT_FAST ch)
          (word (nibNum d + 2 ^ 24 * v.getD 0 0))
        let t := t.setSig (0x70 + ch) (word (sentContent cfg d))
        let was := s.bt a 0
        let t := (t.wb a 0 false).wf_ a 4 1 0
        if was then t.notify fSNT 0x80 [byte ch, byte (s.fd a 7 5), 0#8] else t)

/-- The timeout period of a SENT channel in TB units (R139): twice 56 + 27·(NIB + 2) ticks, plus 768 with PAUSE. -/
def sentPeriod (cfg : Word) : Nat :=
  (2 * (56 + 27 * (clampN 1 6 (fld cfg 11 9) + 2)) + (if bit cfg 16 then 768 else 0)) * clampN 6 180 (fld cfg 8 1) * 25

/-- SENT_TIMEOUT (R139): a period without an accepted frame. -/
def execSentTimeout (ch : Nat) (s : State) : Host.Outcome State Fault Refusal :=
  s.runIn .inputs (fun s =>
    let cfg := s.rd (R.SNT_CFG ch)
    let p := sentPeriod cfg
    if s.isRunning fSNT && ch < 16 && bit cfg 0 && s.tbPast (s.inp.sent.getD ch {}).since p then
      (s.setSnt ch (fun c => { c with since := c.since + p })).sntReject ch 4 R.SNT_TIMEOUTS
    else s)

/-- The 6-bit CRC of J2716's enhanced serial messages over their bits: x^6 + x^4 + x^3 + 1, seed 010101, six zero bits appended (PRESUMED,
from the standard the spec names). -/
def slowCrc6 (bits : List Bool) : Nat :=
  (bits ++ List.replicate 6 false).foldl (fun c b =>
    let x := 2 * c + b2n b
    if 64 ≤ x then (x ^^^ 0x59) % 64 else x) 0x15

/-- The bits an enhanced message's CRC covers (PRESUMED, from J2716): of frames 7 to 18 the data bit and the configuration, ID and data bit
in turn. -/
def slowBits (ty id data : Nat) : List Bool :=
  let hi := if ty = 2 then id else id / 16
  let lo := if ty = 2 then data / 4096 else id
  let side := [false, ty == 2] ++ [3, 2, 1, 0].map (fun k => nbit hi k) ++ [false] ++ [3, 2, 1, 0].map (fun k => nbit lo k) ++ [false]
  ((List.range 12).zip side).flatMap (fun e => [nbit data (11 - e.1), e.2])

/-- The CRC of a slow-channel message (R139): a short one's over its three nibbles as in a frame, an enhanced one's of 6 bits. -/
def slowCrc (recommended : Bool) (ty id data : Nat) : Nat :=
  if ty = 0 then sentCrc recommended [id % 16, data / 16 % 16, data % 16] else slowCrc6 (slowBits ty id data)

/-- SENT_SLOW_MESSAGE (R139): a completed slow-channel message of type `ty` with the CRC it carries. -/
def execSentSlowMessage (ch id ty data crc : Nat) (s : State) : Host.Outcome State Fault Refusal :=
  s.runIn .inputs (fun s =>
    let slow := s.fd (R.SNT_CFG ch) 18 17
    if !(s.isRunning fSNT && ch < 16 && s.bt (R.SNT_CFG ch) 0 && (if ty = 0 then slow == 1 else slow == 2)) then s
    else if crc != slowCrc (s.bt (R.SNT_CFG ch) 15) ty id data then (s.inc R.SNT_SLOW_CRC_ERR).wf_ (R.SNT_STAT ch) 7 5 5
    else
      let e : Nat × Nat × Nat × Nat := (id, ty, data, s.clk.tb % 4294967296)
      let t := s.setSnt ch (fun c => { c with slow :=
        ((c.slow.filter (fun x => !(x.1 == id && x.2.1 == ty))) ++ [e]).take 256 })
      (t.wr (R.SNT_SLOW ch) (word (id % 256 + 256 * (data % 65536) + 2 ^ 24 * ty + 2 ^ 31))).wr
        (R.SNT_SLOW_TB ch) (word s.clk.tb))

/-- SNT_SLOW_TABLE (R141). -/
def execSntSlowTable (c : Cmd) (s : State) : Host.Outcome State Fault Refusal :=
  s.runIn .inputs (fun s => s.command fSNT 0x10 0 c (fun _ s =>
    let ch := u8 c.payload 0
    if c.payload.length != 1 then refuse stBAD_LENGTH s
    else if 16 ≤ ch then refuse stBAD_PARAM s
    else
      let l := (s.inp.sent.getD ch {}).slow
      okWith (leBytes 2 l.length ++ leBytes 2 0 ++
        l.flatMap (fun e => [byte e.1, byte e.2.1] ++ leBytes 2 e.2.2.1 ++ leBytes 4 e.2.2.2)) s))

/-! ### Status, configuration, start and reinitialisation -/

/-- DIN_GET_STATUS after the common bytes (R141). -/
def State.dinStatus (s : State) : List Byte :=
  wBytes (s.rd R.DIN_STATE0) ++ [byte (s.fd R.DIN_STATE1 7 0)] ++ wBytes (s.rd R.DIN_BREAK0) ++
    [byte (s.fd R.DIN_BREAK1 7 0), byte (s.fd R.DIN_GRP_STATUS 3 0 + 16 * s.fd R.DIN_GRP_STATUS 11 8), 0#8] ++
    wBytes (s.rd R.DIN_EDGE_LOST)

/-- AIN_GET_STATUS after the common bytes (R141). -/
def State.ainStatus (s : State) : List Byte :=
  (List.range 24).map (fun n => byte (s.fd (R.AIN_RAW n) 18 16)) ++
  (List.range 4).map (fun k => byte (s.fd (R.AIN_BRG_RAW k) 25 24)) ++
  (List.range 12).map (fun j => byte (b2n (s.inp.spd.getD j {}).open_)) ++
  (wBytes (s.rd R.AIN_SUP_STATUS)).take 3

/-- SNT_GET_STATUS after the common bytes (R141). -/
def State.sntStatus (s : State) : List Byte :=
  (List.range 16).map (fun ch => byte (s.fd (R.SNT_STAT ch) 7 0))

/-- Whether a field of a word lies in a range. -/
def fldIn (w : Word) (hi lo a b : Nat) : Bool := a ≤ fld w hi lo && fld w hi lo ≤ b

/-- The ranges of `AIN_CFG` (R121, R127, R128). -/
def ainCfgOk (w : Word) : Bool := fldIn w 2 0 0 6 && fldIn w 5 4 0 2 && fldIn w 17 6 1 4000

/-- The ranges of `ACU_CFG` (R121, R136, R137). -/
def acuCfgOk (w : Word) : Bool := fldIn w 4 1 2 10 && fldIn w 9 5 8 20 && fldIn w 18 10 5 500 && fldIn w 25 19 1 100

/-- The ranges of `SNT_CFG` (R121, R138, R139). -/
def sntCfgOk (w : Word) : Bool :=
  fldIn w 8 1 6 180 && fldIn w 11 9 1 6 && fldIn w 14 13 0 2 && fldIn w 18 17 0 2 && fldIn w 22 19 1 15

/-- CONFIGURE of DIN, AIN and SNT (R121, R140): the status it answers. -/
def inputsCfgCheck (f : Nat) (p : List Byte) : Nat :=
  if f = fDIN then
    if p.length != 168 then stBAD_LENGTH
    else if (List.range 40).all (fun n => u32 p (4 * n) < 2 ^ 20) then stOK else stBAD_PARAM
  else if f = fAIN then
    if p.length != 596 then stBAD_LENGTH
    else if (List.range 24).all (fun n => ainCfgOk (w32 p (16 * n)))
        && (List.range 4).all (fun k => fldIn (w32 p (384 + 12 * k)) 2 0 0 4)
        && (List.range 8).all (fun a => acuCfgOk (w32 p (528 + 8 * a)))
        && decide (u32 p 592 < 8) then stOK else stBAD_PARAM
  else
    if p.length != 64 then stBAD_LENGTH
    else if (List.range 16).all (fun ch => sntCfgOk (w32 p (4 * ch))) then stOK else stBAD_PARAM

/-- The shadow words a CONFIGURE payload of DIN, AIN or SNT holds, with their registers (R140). -/
def inputsCfgWords (f : Nat) (p : List Byte) : List (Nat × Word) :=
  if f = fDIN then (List.range 40).map (fun n => (R.DIN_CFG n, w32 p (4 * n)))
  else if f = fAIN then
    (List.range 24).flatMap (fun n => [(R.AIN_CFG n, w32 p (16 * n)), (R.AIN_GAIN n, w32 p (16 * n + 4)),
      (R.AIN_OFS n, w32 p (16 * n + 8)), (R.AIN_LIM n, w32 p (16 * n + 12))]) ++
    (List.range 4).flatMap (fun k => [(R.AIN_BRG_CFG k, w32 p (384 + 12 * k)),
      (R.AIN_BRG_TARE k, w32 p (388 + 12 * k)), (R.AIN_BRG_GAIN k, w32 p (392 + 12 * k))]) ++
    (List.range 12).flatMap (fun j => [(R.AIN_SPD_CFG j, w32 p (432 + 8 * j)), (R.AIN_SPD_GAIN j, w32 p (436 + 8 * j))]) ++
    (List.range 8).flatMap (fun a => [(R.ACU_CFG a, w32 p (528 + 8 * a)), (R.ACU_THR a, w32 p (532 + 8 * a))])
  else (List.range 16).map (fun ch => (R.SNT_CFG ch, w32 p (4 * ch)))

/-- The part of APPLY that acts outside UG5 (R140): the wake mask and the sensor-supply enables. -/
def State.inputsApplyNow (s : State) (f : Nat) (p : List Byte) : State :=
  if f = fDIN then (s.wr R.DIN_WAKE_SEL0 (w32 p 160)).wr R.DIN_WAKE_SEL1 (word (u8 p 164))
  else if f = fAIN then (s.wr R.AIN_SUP_CTRL (w32 p 592)).supUpdateAll
  else s

/-- Values a UG5 strobe brings into effect are clipped to their ranges (R121). -/
def clipInput (a : Nat) (v : Word) : Word :=
  if R.AIN_CFG 0 ≤ a && a ≤ R.AIN_CFG 23 then
    let v := setFld v 2 0 (min 6 (fld v 2 0))
    let v := setFld v 5 4 (min 2 (fld v 5 4))
    setFld v 17 6 (clampN 1 4000 (fld v 17 6))
  else if R.AIN_BRG_CFG 0 ≤ a && a ≤ R.AIN_BRG_CFG 3 && a % 16 = 0 then setFld v 2 0 (min 4 (fld v 2 0))
  else if R.ACU_CFG 0 ≤ a && a ≤ R.ACU_CFG 7 && a % 16 = 0 then
    let v := setFld v 4 1 (clampN 2 10 (fld v 4 1))
    let v := setFld v 9 5 (clampN 8 20 (fld v 9 5))
    let v := setFld v 18 10 (clampN 5 500 (fld v 18 10))
    setFld v 25 19 (clampN 1 100 (fld v 25 19))
  else if R.SNT_CFG 0 ≤ a && a ≤ R.SNT_CFG 15 && a % 16 = 0 then
    let v := setFld v 8 1 (clampN 6 180 (fld v 8 1))
    let v := setFld v 11 9 (clampN 1 6 (fld v 11 9))
    let v := setFld v 14 13 (min 2 (fld v 14 13))
    let v := setFld v 18 17 (min 2 (fld v 18 17))
    setFld v 22 19 (clampN 1 15 (fld v 22 19))
  else v

/-- The signal-bus entries of channels that are off (R128; of the other inputs DEDUCED, log entry 122). -/
def State.inputsOff (s : State) : List Nat :=
  ((List.range 24).filter (fun n => s.ainMode n == 0 || s.ainMode n == 7)).map (fun n => 0x40 + n) ++
  ((List.range 4).filter (fun k => !s.bt (R.AIN_BRG_CFG k) 15)).map (fun k => 0x58 + k) ++
  ((List.range 12).filter (fun j => (s.quadOf j).isNone && s.fd (R.AIN_SPD_CFG j) 1 0 == 0)).map (fun j => 0x5C + j) ++
  ((List.range 8).filter (fun a => !s.bt (R.ACU_CFG a) 0)).map (fun a => 0x68 + a) ++
  ((List.range 16).filter (fun c => !s.bt (R.SNT_CFG c) 0)).map (fun c => 0x70 + c)

/-- After a UG5 strobe: a bridge whose RATE, PGA or REF changed discards its next three codes (R132), the entries of channels that are off
are invalid, and an open coil is known only of a variable-reluctance input. -/
def State.afterUg5 (old s : State) : State :=
  let s := s.setIn (fun i => { i with discard := (List.range 4).map (fun k =>
    let m := 0x177#32
    if (old.rd (R.AIN_BRG_CFG k) &&& m) != (s.rd (R.AIN_BRG_CFG k) &&& m) then 3 else i.discard.getD k 0) })
  let s := (List.range 12).foldl (fun (s : State) j =>
    if (s.inp.spd.getD j {}).open_ && !s.spdVr j then
      (s.setSpd j (fun c => { c with open_ := false })).wb (R.AIN_SPD_POS j) 31 false
    else s) s
  s.inputsOff.foldl State.dropSig s

/-- START of DIN, AIN or SNT (R128, R134, R137, R139): filters, references and windows begin afresh. -/
def State.inputsStart (s : State) (f : Nat) : State :=
  if f = fAIN then s.setIn (fun i => { i with
    ain := List.replicate 24 {}, spd := List.replicate 12 {},
    acu := List.replicate 8 {}, discard := [0, 0, 0, 0], tare := none })
  else if f = fSNT then s.setIn (fun i => { i with sent := i.sent.map (fun c => { c with prev := none, since := s.clk.tb }) })
  else s

/-- STOP of DIN, AIN or SNT: their entries become invalid (R21). -/
def State.inputsStop (s : State) (f : Nat) : State :=
  if f = fAIN then s.dropSigs 0x40 48
  else if f = fSNT then s.dropSigs 0x70 16
  else s

/-- REINIT of DIN, AIN or SNT (R131, R141): class F state is cleared, the sensor supplies stay. -/
def State.inputsReinit (s : State) (f : Nat) : State :=
  if f = fDIN then s.setIn (fun i => { i with reest := List.replicate 40 none, fifo := [], buffer := [], lostRead := 0 })
  else if f = fAIN then s.setIn (fun i => { i with
    ain := List.replicate 24 {}, spd := List.replicate 12 {},
    acu := List.replicate 8 {}, discard := [0, 0, 0, 0], tare := none, acuTick := none })
  else s.setIn (fun i => { i with sent := List.replicate 16 {} })

/-- AIN_SUP_RESTART_WRITE (R130): a write of 1s turns latched supplies on again, where the writer may write AIN (R65). -/
def execAinSupRestartWrite (ini : Initiator) (v : Word) (s : State) : Host.Outcome State Fault Refusal :=
  s.runIn .inputs (fun s => s.owned ini fAIN .ain .ctl (fun s => s.supRestart (fld v 2 0)))

end Sys2Proof.Machine
end

