-- ==== Sys2Proof/Machine/Panel.lean ====
section
/-!
DEFINITION. The status panel (chapter 23): text, updates, the crack loop, blinking and the commands.
-/
namespace Sys2Proof.Machine

/-- Function ID of the panel. -/
def fPNL : Nat := 0x14

/-- Changes the panel. -/
def State.setPnl (s : State) (f : Pnl → Pnl) : State := { s with pnl := f s.pnl }

/-! ### Images -/

/-- Line `l` of an image. -/
def PnlImg.line (m : PnlImg) (l : Nat) : List Byte :=
  match m.lines.lookup l with
  | some p => p
  | none => List.replicate 50 0#8

/-- The image with line `l` replaced. -/
def PnlImg.put (m : PnlImg) (l : Nat) (p : List Byte) : PnlImg := { lines := (l, p) :: m.lines.filter (fun e => e.1 != l) }

/-- Word `w` of a line (R494): pixel x at bit 31 − (x mod 32); the low half of word 12 reads as 0. -/
def lineWord (p : List Byte) (w : Nat) : Word := word (beNat (padTo 4 (slice p (4 * w) 4)))

/-- The line with word `w` replaced; the low half of word 12 is ignored. -/
def lineSet (p : List Byte) (w : Nat) (v : Word) : List Byte := (p.take (4 * w) ++ beBytes 4 v.toNat ++ p.drop (4 * w + 4)).take 50

/-- Bytes placed in a line from byte column `x`. -/
def linePaste (p : List Byte) (x : Nat) (v : List Byte) : List Byte := (p.take x ++ v ++ p.drop (x + v.length)).take 50

/-- Text drawn in row `r` from column `x` (R494). -/
def PnlImg.text (m : PnlImg) (r x : Nat) (t : List Byte) : PnlImg :=
  (List.range 12).foldl (fun (m : PnlImg) i =>
    m.put (12 * r + i) (linePaste (m.line (12 * r + i)) x (t.map (fun ch => Config.panelFont ch i)))) m

/-- Dome writes a row identically into A and B (R494). -/
def State.pnlRow (s : State) (r : Nat) (data : List Nat) : State :=
  let t := padTo 50 (Config.panelRow r data)
  s.setPnl (fun p => { p with a := p.a.text r 0 t, b := p.b.text r 0 t })

/-- Dome asks for an update after a rewrite. -/
def State.pnlWant (s : State) (urgent : Bool) : State :=
  s.setPnl (fun p => { p with want := true, urgent := p.urgent || urgent })

/-! ### State, rectangles -/

/-- `PNL_STATUS`.STATE. -/
def State.pnlState (s : State) : Nat := s.fd R.PNL_STATUS 2 0

/-- Shows STATE and the line in progress. -/
def State.pnlShow (s : State) : State :=
  let line := match s.pnl.run, s.pnl.togs with
    | some r, _ => r.lines.headD 0
    | none, t :: _ => t.lines.headD 0
    | none, [] => 0
  let st := if s.pnlState = 4 then 4 else if s.pnl.run.isSome then 3 else if s.bt R.PNL_CTRL 0 then 1 else 0
  (s.wf_ R.PNL_STATUS 2 0 st).wf_ R.PNL_STATUS 24 16 line

/-- A blink rectangle: its X and Y words. -/
def State.pnlRect (s : State) (q : Nat) : Word × Word := (s.rd (R.PNL_BLINK_X q), s.rd (R.PNL_BLINK_Y q))

/-- The lines of a rectangle. -/
def rectLines (e : Word × Word) : List Nat :=
  (List.range (fld e.2 24 16 + 1 - fld e.2 8 0)).map (fun i => fld e.2 8 0 + i)

/-- Whether a set of rectangles is accepted (R499). -/
def rectsOk (l : List (Word × Word)) : Bool :=
  let on := l.filter (fun e => bit e.1 31)
  on.all (fun e => fld e.1 5 0 ≤ fld e.1 13 8 && fld e.1 13 8 ≤ 49 && fld e.2 8 0 ≤ fld e.2 24 16 && fld e.2 24 16 ≤ 299 &&
    1 ≤ fld e.1 19 16 && fld e.1 19 16 ≤ 8) &&
  decide ((on.foldl (fun a e => a + (rectLines e).length) 0) ≤ 30) &&
  decide ((on.flatMap rectLines).Nodup)

/-- The settings of rectangle `q` change where the resulting set is accepted; its blinking starts again in A (R499). -/
def State.pnlSetRect (s : State) (q : Nat) (e : Word × Word) : Option State :=
  let e := (e.1 &&& maskAt (R.PNL_BLINK_X q), e.2 &&& maskAt (R.PNL_BLINK_Y q))
  if rectsOk ((List.range 4).map (fun i => if i = q then e else s.pnlRect i)) then
    some (((s.wr (R.PNL_BLINK_X q) e.1).wr (R.PNL_BLINK_Y q) e.2).setPnl (fun p => { p with
      phase := updAt p.phase q (fun _ => (true, s.clk.tb)), togs := p.togs.filter (fun t => t.rect != q) }))
  else none

/-- A register write of a rectangle's word; a refused set is discarded. -/
def State.pnlBlinkWrite (s : State) (q : Nat) (isY : Bool) (v : Word) : State :=
  let e := s.pnlRect q
  (s.pnlSetRect q (if isY then (e.1, v) else (v, e.2))).getD s

/-! ### Crack loop and updates -/

/-- The class C command PNL_UPDATE that runs gets its result. -/
def State.pnlResult (s : State) (st : Nat) (p : List Byte) : State :=
  { s with mbx := { s.mbx with running := s.mbx.running.map (fun r => if r.fn = fPNL then { r with status := st, payload := p } else r) } }

/-- The loop's reading (R498): a break stops driving and blinking and enters CRACKED; a PNL_UPDATE it stops answers WRONG_STATE. -/
def State.pnlLoop (s : State) (r : Nat) : Bool × State :=
  let s := s.wr R.PNL_CRACK_R (word (min 65535 r))
  if r ≤ 2000 then (true, s)
  else
    let s := if s.pnl.run.isSome then s.pnlResult stWRONG_STATE [] else s
    let s := (s.setPnl (fun p => { p with run := none, togs := [], wait := none, blinkOn := false })).wf_ R.PNL_STATUS 2 0 4
    let s := ((s.inc R.PNL_CRACKS).post fPNL .panelCrack).pnlShow
    (false, s.notify fPNL 0x80 (leBytes 2 (min 65535 r)))

/-- Whether the controller drives: RUN is set, or Dome's update of step 3 of key-off runs, whose step 2 has stopped the function (R111,
R494). -/
def State.pnlRuns (s : State) : Bool := s.bt R.PNL_CTRL 0 || s.pnl.stepThree

/-- Whether the controller takes an update now: running, not CRACKED, none in progress. -/
def State.pnlMay (s : State) : Bool :=
  s.pnlRuns && s.pnlState != 4 && s.pnl.run.isNone && s.pnl.wait.isNone && !s.pwr.shed

/-- Steps 3 and 4 of an update (R495): the flags are set and the first line begins. -/
def State.pnlDrive (s : State) (full : Bool) (lines : List Nat) : State :=
  let r : PnlRun := { full := full, white := full, lines := lines, total := if full then 600 else lines.length }
  (((s.wb R.PNL_STATUS 3 true).wb R.PNL_STATUS 4 true).setPnl (fun p => { p with run := some r, togs := [], flash := true })).pnlShow

/-- An update (R495, R496): the loop is measured, the work copy taken and the lines to write are chosen. Answers whether the loop holds
and how many lines it drives. -/
def State.pnlBegin (s : State) (full : Bool) (loop : Nat) : Bool × Nat × State :=
  match s.pnlLoop loop with
  | (false, s) => (false, 0, s)
  | (true, s) =>
    let full := full || s.bt R.PNL_STATUS 5
    let s := s.setPnl (fun p => { p with work := p.a })
    let blk := (List.range 4).flatMap (fun q => if s.bt R.PNL_STATUS (6 + q) then rectLines (s.pnlRect q) else [])
    let lines := if full then List.range 300
      else (List.range 300).filter (fun l => s.pnl.work.line l != s.pnl.shown.line l || blk.contains l)
    if lines.isEmpty then
      (true, 0, (s.setPnl (fun p => { p with blinkOn := true, phase := List.replicate 4 (true, s.clk.tb) })).pnlShow)
    else (true, if full then 600 else lines.length, s.pnlDrive full lines)

/-- A requested update: at once, or after the line of a toggle in progress (R499). Answers as `pnlBegin`; the line count of a waiting
update is not known yet. -/
def State.pnlRequest (s : State) (full : Bool) (loop : Nat) : Bool × Nat × State :=
  if s.pnl.togs.isEmpty then s.pnlBegin full loop
  else (decide (loop ≤ 2000), 0, s.setPnl (fun p => { p with wait := some (full, loop) }))

/-- Step 5 of an update (R495): the displayed image is replaced, the flags clear, blinking starts again in A. -/
def State.pnlFinish (s : State) (r : PnlRun) : State :=
  let s := s.setPnl (fun p => { p with
    run := none, shown := p.work, shownOk := true, blinkOn := true, cut := false, flash := false, stepThree := false, crackAt := s.clk.tb,
    phase := List.replicate 4 (true, s.clk.tb) })
  let s := ((s.wf_ R.PNL_STATUS 9 6 0).wb R.PNL_STATUS 4 false).wb R.PNL_STATUS 3 false
  let s := if r.full then (s.wb R.PNL_STATUS 5 false).inc R.PNL_FULLS else s
  let s := ((s.inc R.PNL_UPDATES).pnlShow).notify fPNL 0x81 (leBytes 2 r.total ++ [byte (b2n r.full)])
  s.pnlResult stOK (leBytes 2 r.total ++ [byte (b2n r.full)])

/-- A write of `PNL_CMD`. -/
def State.pnlCmdWrite (v : Word) (loop : Nat) (s : State) : State :=
  if bit v 0 && s.pnlMay then (s.pnlRequest (bit v 1) loop).2.2 else s

/-- PNL_CMD_UPDATE (R495): discarded while an update runs or in CRACKED. -/
def execPnlCmdUpdate (ini : Initiator) (v : Word) (loop : Nat) (s : State) : Host.Outcome State Fault Refusal :=
  s.runIn .pnl (fun s => s.owned ini fPNL .pnl .fab (fun s => s.pnlCmdWrite v loop))

/-- PNL_AUTO_UPDATE (R494): Dome's update after a rewrite, at most once per `PNL_MIN_S` seconds but at READY and at key-off. -/
def execPnlAutoUpdate (loop : Nat) (s : State) : Host.Outcome State Fault Refusal :=
  s.runIn .pnl (fun s =>
    let due := s.pnl.urgent || (match s.pnl.updAt with
      | some t => s.tbPast t (50000000 * s.fd R.PNL_MIN_S 11 0)
      | none => true)
    if s.pnl.want && due && (!s.expert fPNL || s.pnl.stepThree) && s.pnlMay then
      ((s.setPnl (fun p => { p with want := false, urgent := false, updAt := some s.clk.tb })).pnlRequest false loop).2.2
    else s)

/-- The pixels of a line of a toggle (R499): inside the rectangle from the buffer now due, else from the displayed image. -/
def State.togLine (s : State) (t : PnlTog) (l : Nat) : List Byte :=
  let e := s.pnlRect t.rect
  let src := (if t.toB then s.pnl.b else s.pnl.a).line l
  let x0 := fld e.1 5 0
  linePaste (s.pnl.shown.line l) x0 (slice src x0 (fld e.1 13 8 + 1 - x0))

/-- Where controller and supply let the next line start; else driving ends there (R497). -/
def State.pnlGoOn (s : State) : Bool := s.pnlRuns && !s.pwr.shed

/-- PNL_LINE_DONE (R495, R497, R499). -/
def execPnlLineDone (s : State) : Host.Outcome State Fault Refusal :=
  s.runIn .pnl (fun s =>
    match s.pnl.run, s.pnl.togs with
    | some r, _ =>
      match r.lines with
      | [] => s
      | l :: rest =>
        let px := if r.white then List.replicate 50 0#8 else s.pnl.work.line l
        let s := (s.inc R.PNL_LINES).setPnl (fun p => { p with glass := p.glass.put l px })
        if rest.isEmpty && !r.white then s.pnlFinish r
        else if !s.pnlGoOn then
          ((s.setPnl (fun p => { p with run := none, cut := s.pwr.shed })).pnlShow).pnlResult stINTERNAL_TIMEOUT []
        else
          let next : PnlRun := if rest.isEmpty then { r with white := false, lines := List.range 300 } else { r with lines := rest }
          (s.setPnl (fun p => { p with run := some next })).pnlShow
    | none, t :: more =>
      match t.lines with
      | [] => s.setPnl (fun p => { p with togs := more })
      | l :: rest =>
        let s := (s.inc R.PNL_LINES).setPnl (fun p => { p with glass := p.glass.put l (s.togLine t l) })
        let s := if rest.isEmpty && !t.toB then s.wb R.PNL_STATUS (6 + t.rect) false else s
        let left := if rest.isEmpty then more else { t with lines := rest } :: more
        let s := match rest.isEmpty, more with
          | true, u :: _ => if u.toB then s.wb R.PNL_STATUS (6 + u.rect) true else s
          | _, _ => s
        match s.pnl.wait with
        | some w =>
          let x := (s.setPnl (fun p => { p with togs := [], wait := none })).pnlBegin w.1 w.2
          if x.1 then (if x.2.1 = 0 then x.2.2.pnlResult stOK [0#8, 0#8, 0#8] else x.2.2) else x.2.2.pnlResult stWRONG_STATE []
        | none => (s.setPnl (fun p => { p with togs := if s.pnlGoOn then left else [] })).pnlShow
    | none, [] => s)

/-- PNL_CRACK_CHECK (R498): every 60 s while any rectangle blinks. -/
def execPnlCrackCheck (loop : Nat) (s : State) : Host.Outcome State Fault Refusal :=
  s.runIn .pnl (fun s =>
    let any := (List.range 4).any (fun q => bit (s.pnlRect q).1 31)
    if s.pnl.blinkOn && any && s.bt R.PNL_CTRL 0 && s.pnlState != 4 && s.tbPast s.pnl.crackAt 3000000000 then
      ((s.setPnl (fun p => { p with crackAt := s.clk.tb })).pnlLoop loop).2
    else s)

/-- PNL_BLINK_TOGGLE (R499): the half-period of rectangle `q` ends; toggles due together are written in ascending order. -/
def execPnlBlinkToggle (q : Nat) (s : State) : Host.Outcome State Fault Refusal :=
  s.runIn .pnl (fun s =>
    let e := s.pnlRect q
    let ph := s.pnl.phase.getD q (true, 0)
    let half := 100000000 / max 1 (fld e.1 19 16)
    if s.pnl.blinkOn && bit e.1 31 && s.pnlGoOn && s.pnlState != 4 && s.pnl.run.isNone && s.pnl.wait.isNone &&
        !s.pnl.togs.any (fun t => t.rect == q) && s.tbPast ph.2 half then
      let t : PnlTog := { rect := q, toB := ph.1, lines := rectLines e }
      let first := s.pnl.togs.isEmpty
      let s := s.setPnl (fun p => { p with
        phase := updAt p.phase q (fun _ => (!ph.1, ph.2 + half)),
        togs := match p.togs with
          | [] => [t]
          | h :: r => h :: sortBy (fun x y => x.rect ≤ y.rect) (t :: r) })
      (if first && ph.1 then s.wb R.PNL_STATUS (6 + q) true else s).pnlShow
    else s)

/-- The frame-buffer word that `PNL_FB_SEL` selects. -/
def State.pnlFbRead (s : State) : Word :=
  let q := s.rd R.PNL_FB_SEL
  if fld q 16 8 ≤ 299 && fld q 27 24 ≤ 12 then
    lineWord ((if bit q 0 then s.pnl.b else s.pnl.a).line (fld q 16 8)) (fld q 27 24)
  else 0#32

/-- The position after a data access: after word 12 word 0 of the next line, after the last line the first. -/
def State.pnlFbNext (s : State) : State :=
  let q := s.rd R.PNL_FB_SEL
  if fld q 27 24 < 12 then s.wf_ R.PNL_FB_SEL 27 24 (fld q 27 24 + 1)
  else (s.wf_ R.PNL_FB_SEL 27 24 0).wf_ R.PNL_FB_SEL 16 8 (if 299 ≤ fld q 16 8 then 0 else fld q 16 8 + 1)

/-- A write of the selected frame-buffer word. -/
def State.pnlFbWrite (s : State) (v : Word) : State :=
  let q := s.rd R.PNL_FB_SEL
  let l := fld q 16 8
  let put (m : PnlImg) : PnlImg := m.put l (lineSet (m.line l) (fld q 27 24) v)
  if l ≤ 299 && fld q 27 24 ≤ 12 then
    s.setPnl (fun p => if bit q 0 then { p with b := put p.b } else { p with a := put p.a })
  else s

/-- PNL_FB_DATA_ACCESS (R494): a read (no word) or a write, and the position advances. -/
def execPnlFbDataAccess (ini : Initiator) (w : Option Word) (s : State) : Host.Outcome State Fault Refusal :=
  s.runIn .pnl (fun s =>
    match w with
    | none => s.fetched ini .fab s.pnlFbRead State.pnlFbNext
    | some v => s.owned ini fPNL .pnl .fab (fun s => (s.pnlFbWrite v).pnlFbNext))

/-! ### Dome's rows -/

/-- Rows 0 to 5 at READY, rows 4 and 5 at each change of the whole hour (R494). -/
def State.pnlIdentity (s : State) (unit : Nat) : State :=
  (List.range 4).foldl (fun (s : State) r => s.pnlRow r [(s.rd64 R.PRM_SERIAL_LO R.PRM_SERIAL_HI), (s.rd R.SYS_FFF_LEVEL).toNat, unit]) s

/-- Rows 4 and 5 (R494). -/
def State.pnlHours (s : State) : State :=
  [4, 5].foldl (fun (s : State) r => s.pnlRow r [(s.rd R.SYS_OP_SECONDS).toNat / 3600, (s.rd R.SYS_PWR_CYCLES).toNat]) s

/-- Rows 6 to 13 (R494): the four newest records of severity FAULT or SAFETY, newest first, each as its code, source, severity and
operating hours. -/
def State.pnlRecords (s : State) (recs : List (List Nat)) : State :=
  (List.range 8).foldl (fun (s : State) i => s.pnlRow (6 + i) (recs.getD (i / 2) [])) s

/-- Rows 22 to 24 (R494). -/
def State.pnlStates (s : State) : State :=
  [22, 23, 24].foldl (fun (s : State) r => s.pnlRow r [s.dome, s.power, (s.rd R.PAIR_STATUS).toNat % 1024, s.saf.st, s.saf.cause]) s

/-- A whole hour has passed (R494). -/
def State.pnlHourChange (s : State) : State := if s.expert fPNL then s else s.pnlHours.pnlWant false

/-- A new record of severity FAULT or SAFETY (R494). -/
def State.pnlFaultRecord (s : State) (recs : List (List Nat)) : State :=
  if s.expert fPNL then s else (s.pnlRecords recs).pnlWant false

/-- The start of the panel controller in INIT (R496, R498): the flags and the image's CRC decide on a full refresh; the loop is
measured. -/
def State.pnlInit (s : State) (loop : Nat) : State :=
  let s := s.wb R.PNL_STATUS 4 s.pnl.flash
  let s := s.wb R.PNL_STATUS 5 (s.bt R.PNL_STATUS 3 || s.bt R.PNL_STATUS 4 || !s.pnl.shownOk)
  let s := (s.setPnl (fun p => { p with run := none, togs := [], wait := none, blinkOn := false })).wf_ R.PNL_STATUS 2 0 0
  (s.pnlLoop loop).2.pnlShow

/-- READY (R494): Dome writes its rows and asks for an update that ignores the limit. -/
def State.pnlReady (s : State) (unit : Nat) (recs : List (List Nat)) : State :=
  ((((s.pnlIdentity unit).pnlHours).pnlRecords recs).pnlStates).pnlWant true

/-- Step 3 of key-off (R494): rows 22 to 24, every rectangle back to A, unless a full refresh is pending or the function is EXPERT. -/
def State.pnlKeyOff (s : State) (loop : Nat) : State :=
  if s.expert fPNL || s.bt R.PNL_STATUS 5 then s
  else
    let s := s.pnlStates.setPnl (fun p => { p with stepThree := true })
    if s.pnlMay then ((s.setPnl (fun p => { p with want := false, urgent := false })).pnlRequest false loop).2.2 else s.pnlWant true

/-- Whether the panel has nothing more to drive of an update. -/
def State.pnlIdle (s : State) : Bool := s.pnl.run.isNone && s.pnl.wait.isNone

/-- The hold-up recovers (R497): an interrupted update runs again as a full refresh from the work copy. -/
def State.pnlHoldup (s : State) : State :=
  if s.pnl.cut && s.pnlRuns && s.pnlState != 4 then
    (s.setPnl (fun p => { p with cut := false })).wb R.PNL_STATUS 5 true |>.pnlDrive true (List.range 300)
  else s

/-! ### Commands -/

/-- PNL_GET_STATUS after the common bytes (R500). -/
def State.pnlStatus (s : State) : List Byte :=
  [byte s.pnlState, byte (s.fd R.PNL_STATUS 9 3)] ++ leBytes 2 (s.rd R.PNL_CRACK_R).toNat ++ wBytes (s.rd R.PNL_UPDATES) ++
    wBytes (s.rd R.PNL_FULLS)

/-- PNL_TEXT (R494, R500). -/
def execPnlText (c : Cmd) (s : State) : Host.Outcome State Fault Refusal :=
  s.runIn .pnl (fun s => s.command fPNL 0x10 0 c (fun _ s =>
    let p := c.payload
    let r := u8 p 0
    let x := u8 p 1
    let n := u8 p 3
    if p.length < 4 || 48 < p.length then refuse stBAD_LENGTH s
    else if r < 14 || 21 < r || n < 1 || 44 < n || 50 < x + n then refuse stBAD_PARAM s
    else if p.length < 4 + n then refuse stBAD_LENGTH s
    else
      let t := slice p 4 n
      okWith [] ((s.setPnl (fun q => { q with
        a := if nbit (u8 p 2) 0 then q.a.text r x t else q.a,
        b := if nbit (u8 p 2) 1 then q.b.text r x t else q.b })).pnlWant false)))

/-- PNL_BITMAP (R494, R500). -/
def execPnlBitmap (c : Cmd) (s : State) : Host.Outcome State Fault Refusal :=
  s.runIn .pnl (fun s => s.command fPNL 0x11 0 c (fun _ s =>
    let p := c.payload
    let first := u16 p 0
    let n := u16 p 2
    let put (m : PnlImg) : PnlImg := (List.range n).foldl (fun (m : PnlImg) i => m.put (first + i) (slice p (8 + 50 * i) 50)) m
    if p.length < 8 then refuse stBAD_LENGTH s
    else if first < 168 || 264 < first + n then refuse stBAD_PARAM s
    else if p.length != 8 + 50 * n then refuse stBAD_LENGTH s
    else okWith [] ((s.setPnl (fun q => { q with
        a := if nbit (u8 p 4) 0 then put q.a else q.a,
        b := if nbit (u8 p 4) 1 then put q.b else q.b })).pnlWant false)))

/-- PNL_BLINK (R499, R500). -/
def execPnlBlink (c : Cmd) (s : State) : Host.Outcome State Fault Refusal :=
  s.runIn .pnl (fun s => s.command fPNL 0x12 0 c (fun _ s =>
    let p := c.payload
    let e : Word × Word := (word (u8 p 2 % 64 + 256 * (u8 p 3 % 64) + 65536 * (u8 p 8 % 16) + 2147483648 * (u8 p 1 % 2)),
      word (u16 p 4 % 512 + 65536 * (u16 p 6 % 512)))
    if p.length != 9 then refuse stBAD_LENGTH s
    else if 3 < u8 p 0 || 1 < u8 p 1 || 49 < u8 p 2 || 49 < u8 p 3 || 299 < u16 p 4 || 299 < u16 p 6 || 8 < u8 p 8 then
      refuse stBAD_PARAM s
    else
      match s.pnlSetRect (u8 p 0) e with
      | some t => okWith [] t
      | none => refuse stBAD_PARAM s))

/-- PNL_UPDATE (R495, R500): class C, answered when the last line is driven. A stopped panel answers WRONG_STATE, one that updates
BUSY (DEDUCED). -/
def execPnlUpdate (c : Cmd) (loop : Nat) (s : State) : Host.Outcome State Fault Refusal :=
  s.runIn .pnl (fun s => s.command fPNL 0x13 0 c (fun _ s =>
    if c.payload.length != 1 then refuse stBAD_LENGTH s
    else if s.pnlState = 4 || !s.bt R.PNL_CTRL 0 then refuse stWRONG_STATE s
    else if !s.pnlMay then refuse stBUSY s
    else
      let waits := !s.pnl.togs.isEmpty
      let x := s.pnlRequest (nbit (u8 c.payload 0) 0) loop
      if !x.1 && !waits then (.now stWRONG_STATE [], x.2.2)
      else if x.2.1 = 0 && !waits then (.now stOK [0#8, 0#8, 0#8], x.2.2)
      else x.2.2.classC fPNL 0x1413 c stOK (leBytes 2 x.2.1 ++ [byte (b2n (x.2.1 == 600))])))

/-! ### Configuration, start, stop and reinitialisation -/

/-- The check of a CONFIGURE payload (R500): `PNL_MIN_S` from 1 to 3,600. -/
def pnlCfgCheck (p : List Byte) : Nat :=
  if p.length != 4 then stBAD_LENGTH else if u16 p 0 < 1 || 3600 < u16 p 0 then stBAD_PARAM else stOK

/-- APPLY (R500). -/
def State.pnlApply (s : State) (p : List Byte) : State := s.wr R.PNL_MIN_S (word (u16 p 0))

/-- START and STOP: RUN. A stop lets the line in progress end. -/
def State.pnlStart (s : State) : State := ((s.wb R.PNL_CTRL 0 true).setPnl (fun p => { p with stepThree := false })).pnlShow
def State.pnlStop (s : State) : State := (s.wb R.PNL_CTRL 0 false).pnlShow

/-- REINIT (R500): the loop is measured; displayed image, flags and FULL_PEND stay. -/
def State.pnlReinit (s : State) (loop : Nat) : State :=
  let s := (s.wb R.PNL_CTRL 0 false).setPnl (fun p => { p with
    run := none, togs := [], wait := none, want := false, urgent := false, blinkOn := false })
  ((s.wf_ R.PNL_STATUS 2 0 0).pnlLoop loop).2.pnlShow

end Sys2Proof.Machine
end

