-- ==== Sys2Proof/Machine/RegRead.lean ====
section
/-!
DEFINITION. What a read of the register space returns (R70, R72 to R74, R80), without the effects that a direct read of some
registers has.
-/
namespace Sys2Proof.Machine

/-- Whether a session index is free (R39). -/
def Session.free (x : Session) : Bool := x.place == .none && !x.isOpen && x.challenge.isNone

/-- The lowest free session index. -/
def State.freeIndex (s : State) : Option Nat := (List.range 16).find? (fun k => (s.ses k).free)

/-- What `MBX_CLAIM` holds (R39). -/
def State.claimValue (s : State) : Word := word (s.freeIndex.getD 0xFF)

/-- The latches of an initiator (R26). -/
def State.latches (s : State) (ini : Initiator) : TbLatch :=
  match ini with
  | .host => s.fab.hostLatch
  | .dome => s.fab.domeLatch

/-- The values of registers that follow the module's state at every instant, zero for the reserved signal entries (R18); none for
every other address. -/
def State.liveReg (s : State) (ini : Initiator) (a : Nat) : Option Word :=
  let l := s.latches ini
  if a = R.TB_NOW_LO then some (word s.clk.tb)
  else if a = R.TB_NOW_HI then some l.nowHi
  else if a = R.TB_TICK_COUNT_LO then some (word s.clk.tickCount)
  else if a = R.TB_TICK_COUNT_HI then some l.countHi
  else if a = R.TB_TICK_STAMP_LO then some l.stampLo
  else if a = R.TB_TICK_STAMP_HI then some l.stampHi
  else if a = R.TB_TICK_PHASE then some (word s.clk.phase)
  else if a = R.MBX_CLAIM then some s.claimValue
  else if a = R.AIN_FRAME then some (word s.ainFrame)
  else if a = R.PAIR_STATUS then some s.pairLive
  else if a = R.SYS_PROFILE then some s.sysProfile
  else if a = R.FAB_DOMAIN then some (word (maskOf 4 (fun i => s.domainUp (if i = 3 then .aon else .ctl))))
  else if a = R.ETH_PTP_G_LO then some (word s.gptp.g)
  else if a = R.ETH_GCL_DATA || a = R.ETH_GCL_BASE_LO || a = R.ETH_GCL_BASE_HI || a = R.ETH_GCL_CYCLE || a = R.ETH_GCL_LEN then
    some (s.gclRead a)
  else if a = R.CAM_TBL_DATA then some s.camTblRead
  else if a = R.PNL_FB_DATA then some s.pnlFbRead
  else if R.FAB_SIG 0x1E0 ≤ a && a < R.FAB_SIG 0x200 then some 0#32
  else none

/-- The domain of an address of a block, a register or a hole (R69): page 0x1000 of the actuator banks lies in PSD. -/
def regDomain (b : Block) (a : Nat) : Domain :=
  if b.base = 0xE0090000 && (a - b.base) % 2 ^ b.d / 256 == 0x10 then .psd else b.domain

/-- The value a read of a register returns, by its type (R72). -/
def State.peek (s : State) (ini : Initiator) (a : Nat) (r : RegRow) : Word :=
  match r.ty with
  | .wo => 0#32
  | .rws => s.shadowRd a
  | _ =>
    match s.liveReg ini a with
    | some w => w
    | none => s.rd a

/-- A read of an address: none is a bus error (R70, R80). -/
def State.busRead (s : State) (ini : Initiator) (a : Nat) : Option Word :=
  if a % 4 != 0 then none
  else
    match decodeAddr a with
    | .noWindow => none
    | .hole b => if s.domainUp (regDomain b a) then some 0#32 else none
    | .reg b x r => if s.domainUp (regDomain b x) then some (s.peek ini x r) else none

/-- Changes the latches of an initiator. -/
def State.setLatches (s : State) (ini : Initiator) (f : TbLatch → TbLatch) : State :=
  match ini with
  | .host => { s with fab := { s.fab with hostLatch := f s.fab.hostLatch } }
  | .dome => { s with fab := { s.fab with domeLatch := f s.fab.domeLatch } }

/-- A read of `TB_NOW_LO` latches the high half for its initiator (R26). -/
def State.tbNowLatch (s : State) (ini : Initiator) : State :=
  s.setLatches ini (fun l => { l with nowHi := word (s.clk.tb / 4294967296) })

/-- A read of `TB_TICK_COUNT_LO` latches the count's high half and the boundary's TB for its initiator (R26). -/
def State.tbCountLatch (s : State) (ini : Initiator) : State :=
  s.setLatches ini (fun l => { l with
    countHi := word (s.clk.tickCount / 4294967296), stampLo := word s.clk.tickStamp,
    stampHi := word (s.clk.tickStamp / 4294967296) })

/-- What a direct read of a register other than one of type RC does beside returning its value. -/
def State.readEffect (s : State) (ini : Initiator) (a : Nat) : State :=
  if a = R.TB_NOW_LO then s.tbNowLatch ini
  else if a = R.TB_TICK_COUNT_LO then s.tbCountLatch ini
  else if a = R.ETH_PTP_G_LO then s.ptpLatch
  else if a = R.ETH_GCL_DATA then s.gclNext
  else if a = R.CAM_TBL_DATA then s.camTblNext
  else if a = R.PNL_FB_DATA then s.pnlFbNext
  else s

/-- Dome's direct read of an address (R70, R80, R483): the value, none on a bus error, which is counted. -/
def State.domeRead (s : State) (a : Nat) : Option Word × State :=
  match s.busRead .dome a with
  | none => (none, s.inc R.FAB_DECODE_ERR)
  | some w =>
    match decodeAddr a with
    | .reg _ x _ => (some w, s.readEffect .dome x)
    | _ => (some w, s)

/-- A global snapshot (R89): every counter with a SNAP copy is loaded into it, `FAB_SNAP_SEQ` rises and TB is latched. -/
def State.snapAll (s : State) : State :=
  let t := snapPairs.foldl (fun (t : State) p =>
    (List.range p.2.2.2.2).foldl (fun (t : State) i => t.wr (p.1 + p.2.1 * i) (t.rd (p.2.2.1 + p.2.2.2.1 * i))) t) s
  (t.inc R.FAB_SNAP_SEQ).wr64 R.FAB_SNAP_TB_LO R.FAB_SNAP_TB_HI s.clk.tb

/-- A write of GO by `ini` (R89): one snapshot, together with a write of the other initiator on the same CLK_FAB edge. -/
def State.globalSnap (s : State) (ini : Initiator) : State :=
  if s.fab.snapBy.any (fun e => e.1 == s.clk.now && e.2 != ini) then { s with fab := { s.fab with snapBy := none } }
  else
    let t := s.snapAll
    { t with fab := { t.fab with snapBy := some (s.clk.now, ini) } }

end Sys2Proof.Machine
end

