-- ==== Sys2Proof/Machine/Fleet.lean ====
section
/-!
DEFINITION. The fleet function (chapter 21): associations, heartbeats, services, epochs and global operations, and its commands.
-/
namespace Sys2Proof.Machine

/-- Function ID of the fleet function. -/
def fFLT : Nat := 0x12

/-- Changes the fleet function. -/
def State.setFlt (s : State) (f : Flt → Flt) : State := { s with flt := f s.flt }

/-- The applied configuration (R479). -/
def State.fltCfg (s : State) : List Byte :=
  match (s.fn fFLT).applied with
  | some p => p
  | none => []

/-- A flag of the configuration: 0 COV, 1 RTK, 2 RDV, 3 RELAY. -/
def State.fltFlag (s : State) (b : Nat) : Bool := nbit (u8 s.fltCfg 2) b

/-- The unit ID (R467). -/
def State.fltUnit (s : State) : Nat := u16 s.fltCfg 0

/-- t_hop in TB units; 500 ms where nothing has been applied (R475, R480). -/
def State.fltHop (s : State) : Nat := tbMs (if u16 s.fltCfg 4 = 0 then 500 else u16 s.fltCfg 4)

/-- The address and the port of a parent endpoint; address 0 is unused. -/
def State.fltEp (s : State) (i : Nat) : Nat × Nat := (u32 s.fltCfg (16 + 8 * i), u16 s.fltCfg (20 + 8 * i))

/-- The endpoint to try from number `i` on, in order, wrapping to the first (R469). -/
def State.fltNextEp (s : State) (i : Nat) : Option Nat :=
  ((List.range 3).map (fun j => (i + j) % 3)).find? (fun j => (s.fltEp j).1 != 0)

/-- Sends a fleet message; a unit that stands by in a pair sends none (R471, R478). -/
def State.fltSend (s : State) (dest : FltPeer) (m : FltMsg) : State :=
  if s.pairHeld then s else { s with out := s.out ++ [OutMsg.fleet dest s.fltUnit s.flt.epoch m] }

/-- Sends a message to the parent, where the association is up. -/
def State.fltUp (s : State) (m : FltMsg) : State := if s.flt.st = 2 then s.fltSend .parent m else s

/-- Sends a message to every child but one. -/
def State.fltDown (s : State) (but : FltPeer) (m : FltMsg) : State :=
  (s.flt.kids.filter (fun k => FltPeer.child k.unit != but)).foldl (fun (t : State) k => t.fltSend (.child k.unit) m) s

/-- Notification FLT_LINK (R479). -/
def State.fltLink (s : State) : State :=
  s.notify fFLT 0x80 [byte s.flt.st, byte s.flt.ep, byte s.flt.kids.length]

/-- Notification FLT_OP (R479). -/
def State.fltOpNote (s : State) (kind done num : Nat) : State :=
  s.notify fFLT 0x81 ([byte kind, byte done, 0#8, 0#8] ++ leBytes 4 num ++ leBytes 4 s.flt.epoch)

/-! ### Associations -/

/-- The association with the parent begins at endpoint `i` or the next used one (R469, R470). -/
def State.fltConnect (s : State) (st i : Nat) : State :=
  match s.fltNextEp i with
  | none => (s.setFlt (fun f => { f with st := 0, retryAt := none })).fltLink
  | some j => (s.setFlt (fun f => { f with st := st, ep := j, retryAt := none })).fltLink

/-- FLT_HANDSHAKE (R468, R470): with the parent, up unless its level would place the unit below level 4, which is refused and the next
endpoint tried; with a child, accepted by a relay that has fewer than 16. A failed handshake is counted. -/
def execFltHandshake (x : FltHs) (s : State) : Host.Outcome State Fault Refusal :=
  s.runIn .flt (fun s =>
    if !s.isRunning fFLT then s
    else if x.child then
      let others := s.flt.kids.filter (fun k => k.unit != x.unit)
      if !x.ok then s.setFlt (fun f => { f with fails := min 65535 (f.fails + 1) })
      else if !s.fltFlag 3 || 16 ≤ others.length then s
      else (s.setFlt (fun f => { f with
        kids := others ++ [{ unit := x.unit, ip := x.ip, port := x.port, keyAt := s.clk.tb }] })).fltLink
    else if !((s.flt.st == 1 || s.flt.st == 3) && s.flt.retryAt.isNone) then s
    else if !x.ok then s.setFlt (fun f => { f with
      fails := min 65535 (f.fails + 1), retryAt := some (s.clk.tb + s.fltHop) })
    else if 4 ≤ x.level then s.fltConnect s.flt.st (s.flt.ep + 1)
    else (s.setFlt (fun f => { f with
      st := 2, level := x.level + 1, heard := s.clk.tb, keyAt := s.clk.tb })).fltLink)

/-- FLT_HANDSHAKE_RETRY (R470): t_hop after a failed handshake the next endpoint in order is tried. -/
def execFltHandshakeRetry (s : State) : Host.Outcome State Fault Refusal :=
  s.runIn .flt (fun s =>
    match s.flt.retryAt with
    | some t => if s.isRunning fFLT && s.tbReached t then s.fltConnect s.flt.st (s.flt.ep + 1) else s
    | none => s)

/-- FLT_PARENT_LOST (R469): nothing from the parent for 3 × t_hop. -/
def execFltParentLost (s : State) : Host.Outcome State Fault Refusal :=
  s.runIn .flt (fun s =>
    if s.isRunning fFLT && s.flt.st == 2 && s.tbPast s.flt.heard (3 * s.fltHop) then s.fltConnect 3 (s.flt.ep + 1) else s)

/-- FLT_KEY_UPDATE (R470): a KeyUpdate every 24 h on each association. -/
def execFltKeyUpdate (s : State) : Host.Outcome State Fault Refusal :=
  s.runIn .flt (fun s =>
    if !s.isRunning fFLT then s
    else
      let day := tbMs 86400000
      let s := if s.flt.st = 2 && s.tbPast s.flt.keyAt day then
          (s.fltSend .parent .keyUpdate).setFlt (fun f => { f with keyAt := s.clk.tb }) else s
      (s.flt.kids.filter (fun k => s.tbPast k.keyAt day)).foldl (fun (t : State) k =>
        (t.fltSend (.child k.unit) .keyUpdate).setFlt (fun f => { f with
          kids := f.kids.map (fun y => if y.unit = k.unit then { y with keyAt := s.clk.tb } else y) })) s)

/-- FLT_HEARTBEAT (R469): every t_hop to the parent and the children. -/
def execFltHeartbeat (s : State) : Host.Outcome State Fault Refusal :=
  s.runIn .flt (fun s =>
    if !(s.isRunning fFLT && s.tbPast s.flt.hbAt s.fltHop) then s
    else ((s.setFlt (fun f => { f with hbAt := f.hbAt + s.fltHop })).fltUp .heartbeat).fltDown .parent .heartbeat)

/-! ### Global operations -/

/-- The report record of R477 at the present edge, after the snapshot. -/
def State.fltRecord (s : State) (epoch : Nat) : List Byte :=
  let field := s.yplField != 0
  let b := leBytes 2 s.fltUnit ++ [byte s.flt.level, byte (b2n s.pair.en + 2 * b2n field + 4 * b2n s.timeValid)] ++
    leBytes 4 epoch ++ leBytes 8 (if s.timeValid then s.gpsAt s.clk.tb else 0) ++ leBytes 8 s.clk.tb ++
    wBytes (if field then s.sig 0x0C7 else 0#32) ++ wBytes (if field then s.sig 0x0C8 else 0#32) ++
    wBytes (s.rd R.CST_FUEL_PER_T) ++ leBytes 8 (s.rd64 R.PWR_ENERGY_LO R.PWR_ENERGY_HI) ++ wBytes (s.rd R.SYS_OP_SECONDS) ++
    wBytes (s.rd R.FAB_SNAP_SEQ) ++ leBytes 8 0
  b ++ wBytes (crc32c b)

/-- The unit sends its report of an operation (R475) and the operation ends locally. -/
def State.fltReport (s : State) (o : FltOp) (missing : Nat) : State :=
  let s := s.setFlt (fun f => { f with ops := f.ops.filter (fun y => y.num != o.num) })
  (s.fltUp (.report { num := o.num, counted := o.counted, missing := missing, recs := o.recs })).fltOpNote o.kind 1 o.num

/-- Sends the report with everything outstanding counted as missing (R475, R477). -/
def State.fltReportNow (s : State) (o : FltOp) : State :=
  s.fltReport o (o.kids.foldl (fun a k => a + Config.fltMissing o.num k) (o.missing + b2n (!o.own)))

/-- Operations that have their own result and every child's report are reported (R475). -/
def State.fltSettle (s : State) : State :=
  (s.flt.ops.filter (fun o => o.own && o.kids.isEmpty)).foldl (fun (t : State) o => t.fltReport o o.missing) s

/-- The unit has its own result of the operations that `want` names. -/
def State.fltOwn (s : State) (want : FltOp → Bool) (recs : List (List Byte)) : State :=
  (s.setFlt (fun f => { f with ops := f.ops.map (fun o =>
    if want o && !o.own then { o with own := true, counted := o.counted + 1, recs := recs ++ o.recs } else o) })).fltSettle

/-- The local snapshot of an epoch (R477): one write of `FAB_SNAP`, and the record formed from it. -/
def State.fltTake (s : State) (epoch : Nat) : State :=
  let s := s.globalSnap .dome
  let r := s.fltRecord epoch
  (s.setFlt (fun f => { f with snap := some (epoch, r), snapDue := none })).fltOwn
    (fun o => 2 ≤ o.kind && o.epoch == epoch) [r]

/-- The unit enters an epoch (R474, R477, R478): its local snapshot at once, in a pair at the acting unit's next pair-cycle boundary. -/
def State.fltEnter (s : State) (epoch : Nat) : State :=
  let s := s.setFlt (fun f => { f with epoch := epoch })
  if !s.pair.en then s.fltTake epoch
  else if s.pairHeld then s
  else s.setFlt (fun f => { f with snapDue := some epoch })

/-- The work of a pair-cycle boundary (R478). -/
def State.fltBoundary (s : State) : State :=
  match s.flt.snapDue with
  | none => s
  | some e => if s.pairHeld then s.setFlt (fun f => { f with snapDue := none }) else s.fltTake e

/-- Whether a message came on an association of this unit (R470). -/
def State.fltFrom (s : State) (p : FltPeer) : Bool :=
  match p with
  | .parent => s.flt.st == 2
  | .child u => s.flt.kids.any (fun k => k.unit == u)

/-- Receipt of a message (R469, R470, R474): a lower epoch discards it, a higher one makes the unit take its local snapshot first. -/
def State.fltRx (s : State) (h : FltHdr) (body : State → State) : State :=
  if !(s.isRunning fFLT && s.fltFrom h.peer) then s
  else
    let s := if h.peer = .parent then s.setFlt (fun f => { f with heard := s.clk.tb }) else s
    if h.epoch < s.flt.epoch then s
    else body (if s.flt.epoch < h.epoch then s.fltEnter h.epoch else s)

/-- A global operation comes down (R475): a number not above the last one seen is discarded, else it goes on to the children. -/
def State.fltOp (s : State) (h : FltHdr) (num : Nat) (m : FltMsg) (body : State → State) : State :=
  if num ≤ s.flt.lastOp || h.peer != .parent then s
  else body ((s.setFlt (fun f => { f with lastOp := num })).fltDown .parent m)

/-- The deadline of a unit's report, T0 + (2D - L) × t_hop (R475). -/
def State.fltDue (s : State) (op : FltOpHdr) : Nat := op.t0 + (2 * op.depth - s.flt.level) * s.fltHop

/-- An operation that reports up begins. -/
def State.fltBegin (s : State) (kind tag : Nat) (op : FltOpHdr) : State :=
  let o : FltOp := { kind := kind, num := op.num, epoch := s.flt.epoch, tag := tag, kids := s.flt.kids.map (fun k => k.unit),
                     due := s.fltDue op }
  (s.setFlt (fun f => { f with ops := f.ops ++ [o] })).fltOpNote kind 0 op.num

/-- FLT_HEARTBEAT_RX (R469, R474). -/
def execFltHeartbeatRx (h : FltHdr) (s : State) : Host.Outcome State Fault Refusal :=
  s.runIn { Foot.flt with snaps := true } (fun s => s.fltRx h (fun s => s))

/-- FLT_BROADCAST_RX (R475). -/
def execFltBroadcastRx (h : FltHdr) (op : FltOpHdr) (s : State) : Host.Outcome State Fault Refusal :=
  s.runIn { Foot.flt with snaps := true } (fun s => s.fltRx h (fun s => s.fltOp h op.num (.broadcast op) (fun s =>
    (s.fltOpNote 0 0 op.num).fltOpNote 0 1 op.num)))

/-- FLT_BARRIER_RX (R476): with AUTO the unit arrives at once. -/
def execFltBarrierRx (h : FltHdr) (op : FltOpHdr) (tag : Nat) (auto : Bool) (s : State) :
    Host.Outcome State Fault Refusal :=
  s.runIn { Foot.flt with snaps := true } (fun s => s.fltRx h (fun s => s.fltOp h op.num (.barrier op tag auto) (fun s =>
    let s := s.fltBegin 1 tag op
    if auto then s.fltOwn (fun o => o.num == op.num) [] else s)))

/-- FLT_MARKER_RX (R476, R477): a report still collecting for an older epoch goes first; then the snapshot of the marker's epoch, unless
it has been taken, and with `reset` the fleet coverage is discarded. -/
def execFltMarkerRx (h : FltHdr) (op : FltOpHdr) (reset : Bool) (s : State) : Host.Outcome State Fault Refusal :=
  s.runIn { Foot.flt.and [.ypl] [] with snaps := true } (fun s =>
    let old := s.flt.ops.filter (fun o => 2 ≤ o.kind && o.epoch < h.epoch)
    let s := if s.isRunning fFLT && s.fltFrom h.peer && h.peer == .parent && s.flt.lastOp < op.num then
        old.foldl (fun (t : State) o => t.fltReportNow o) s else s
    s.fltRx h (fun s => s.fltOp h op.num (.marker op reset) (fun s =>
      let s := s.fltBegin (if reset then 3 else 2) 0 op
      let s := if reset then s.setYpl (fun y => { y with fleet := [] }) else s
      match s.flt.snap with
      | some (e, r) =>
        if e = h.epoch then s.fltOwn (fun o => o.num == op.num) [r]
        else if s.flt.snapDue.isSome then s else s.fltEnter h.epoch
      | none => if s.flt.snapDue.isSome then s else s.fltEnter h.epoch)))

/-- FLT_REPORT_RX (R475): a child's report is collected; one for an operation already reported is discarded. -/
def execFltReportRx (h : FltHdr) (r : FltRep) (s : State) : Host.Outcome State Fault Refusal :=
  s.runIn { Foot.flt with snaps := true } (fun s => s.fltRx h (fun s =>
    match h.peer with
    | .parent => s
    | .child u =>
      (s.setFlt (fun f => { f with ops := f.ops.map (fun o =>
        if o.num = r.num && o.kids.contains u then { o with
          kids := o.kids.erase u, counted := o.counted + r.counted, missing := o.missing + r.missing, recs := o.recs ++ r.recs }
        else o) })).fltSettle))

/-- FLT_REPORT_DEADLINE (R475, R476). -/
def execFltReportDeadline (s : State) : Host.Outcome State Fault Refusal :=
  s.runIn .flt (fun s => (s.flt.ops.filter (fun o => s.tbReached o.due)).foldl (fun (t : State) o => t.fltReportNow o) s)

/-! ### Services -/

/-- The covered cells of the open field (R192). -/
def State.fltCovered (s : State) : Nat × List (Int × Int) :=
  match s.ypl.field with
  | none => (0, [])
  | some f => (f.id, (f.cells.filter f.covered).map (fun c => (c.i, c.j)))

/-- The 8 KiB of a tile: bit 256 × row + column of each cell it lists. -/
def fltTileBits (t : Int × Int) (cells : List (Int × Int)) : List Byte :=
  leBytes 8192 ((cells.filter (fun p => yplTile p == t)).foldl (fun a p => a ||| 2 ^ (256 * (p.2 % 256) + p.1 % 256).toNat) 0)

/-- FLT_COVERAGE_SEND (R471): the tiles changed since the last send. -/
def execFltCoverageSend (s : State) : Host.Outcome State Fault Refusal :=
  s.runIn .flt (fun s =>
    if !(s.isRunning fFLT && s.fltFlag 0 && s.tbPast s.flt.covAt (tbMs (1000 * u8 s.fltCfg 6))) then s
    else
      let s := s.setFlt (fun f => { f with covAt := f.covAt + tbMs (1000 * u8 s.fltCfg 6) })
      if s.flt.st != 2 || s.pairHeld || s.ypl.field.isNone then s
      else
        let now := s.fltCovered
        let old := if s.flt.covSent.1 = now.1 then s.flt.covSent.2 else []
        let tiles := ((now.2.filter (fun p => !old.contains p)).map yplTile).eraseDups
        tiles.foldl (fun (t : State) p =>
          t.fltUp (.coverage { field := now.1, tx := p.1, ty := p.2, bits := fltTileBits p now.2 }))
          (s.setFlt (fun f => { f with covSent := now })))

/-- The cells whose bits a tile sets. -/
def fltTileCells (x : FltTile) : List (Int × Int) :=
  ((List.range 65536).filter (fun b => nbit (u8 x.bits (b / 8)) (b % 8))).map (fun b =>
    (256 * x.tx + ((b % 256 : Nat) : Int), 256 * x.ty + ((b / 256 : Nat) : Int)))

/-- FLT_COVERAGE_RX (R471): a child's tile goes up; a tile from above goes down and is ORed into the fleet coverage of its field. -/
def execFltCoverageRx (h : FltHdr) (x : FltTile) (s : State) : Host.Outcome State Fault Refusal :=
  s.runIn { Foot.flt.and [.ypl] [] with snaps := true } (fun s => s.fltRx h (fun s =>
    if h.peer != .parent then s.fltUp (.coverage x)
    else
      let s := s.fltDown .parent (.coverage x)
      if !s.fltFlag 0 || (s.ypl.field.map (fun f => f.id)) != some x.field then s
      else s.setYpl (fun y => { y with
        fleet := y.fleet ++ ((fltTileCells x).map (fun p => (x.field, p))).filter (fun e => !y.fleet.contains e) })))

/-- FLT_RTCM_RX (R472): forwarded to the children first, then passed to the position service where its FLT source is on. -/
def execFltRtcmRx (h : FltHdr) (p : List Byte) (s : State) : Host.Outcome State Fault Refusal :=
  s.runIn { Foot.flt.and [.pos] [.pos] with snaps := true } (fun s => s.fltRx h (fun s =>
    if h.peer != .parent then s
    else
      let s := s.fltDown .parent (.rtcm p)
      if s.fltFlag 1 && s.posOn && nbit s.pos.src 1 then (s.posBytes 17 p).2.2 else s))

/-- The unit's rendezvous record (R473). -/
def State.fltRdv (s : State) : List Byte :=
  let near := sortBy (fun (a b : List Byte) =>
    decide (i32 a 8 * i32 a 8 + i32 a 12 * i32 a 12 < i32 b 8 * i32 b 8 + i32 b 12 * i32 b 12))
    ((s.ast.shown.map (fun e => e.2)).filter (fun r => nbit (u8 r 2) 0))
  Config.rdvRecord ([0x080, 0x081, 0x083, 0x089, u16 s.fltCfg 10 % 512].map (fun n => s.sig n))
    (s.gpsAt s.clk.tb / 1000000 % 604800000) ((near.take 8).map (fun r => r ++ leBytes 4 0))

/-- FLT_RDV_SEND (R471, R473). -/
def execFltRdvSend (s : State) : Host.Outcome State Fault Refusal :=
  s.runIn .flt (fun s =>
    let per := tbMs (100 * u16 s.fltCfg 8)
    if !(s.isRunning fFLT && s.fltFlag 2 && s.tbPast s.flt.rdvAt per) then s
    else
      let s := s.setFlt (fun f => { f with rdvAt := f.rdvAt + per })
      let g := u8 s.fltCfg 3
      if g = 0 then s else (s.fltUp (.rdv g s.fltRdv)).fltDown .parent (.rdv g s.fltRdv))

/-- FLT_RDV_RX (R473): passed on to the rest of the tree, and delivered unaltered to the open rings of a unit of the group. -/
def execFltRdvRx (h : FltHdr) (group : Nat) (p : List Byte) (s : State) : Host.Outcome State Fault Refusal :=
  s.runIn { Foot.flt with snaps := true } (fun s => s.fltRx h (fun s =>
    let s := s.fltDown h.peer (.rdv group p)
    let s := if h.peer = .parent then s else s.fltUp (.rdv group p)
    if s.fltFlag 2 && group != 0 && group == u8 s.fltCfg 3 then
      (List.range ((p.length + 63) / 64)).foldl (fun (t : State) i =>
        (t.offer fFLT 0 (fun _ => true) (fun _ => padTo 64 (slice p (64 * i) 64))).2) s
    else s))

/-! ### Commands -/

/-- FLT_CA_SET (R470, R479). -/
def execFltCaSet (c : Cmd) (s : State) : Host.Outcome State Fault Refusal :=
  s.runIn (Foot.flt.and [.prm] [.prm]) (fun s => s.command fFLT 0x10 2 c (fun _ s =>
    let p := c.payload
    if p.length = 0 || 1024 < p.length then refuse stBAD_LENGTH s
    else if !Config.certP256 p then refuse stBAD_PARAM s
    else okWith [] (s.prmItem (256 * fFLT) p)))

/-- FLT_ARRIVE (R476, R479). -/
def execFltArrive (c : Cmd) (s : State) : Host.Outcome State Fault Refusal :=
  s.runIn .flt (fun s => s.command fFLT 0x11 0 c (fun _ s =>
    let tag := u32 c.payload 0
    if c.payload.length != 4 then refuse stBAD_LENGTH s
    else if !s.flt.ops.any (fun o => o.kind == 1 && o.tag == tag) then refuse stWRONG_STATE s
    else okWith [] (s.fltOwn (fun o => o.kind == 1 && o.tag == tag) [])))

/-- FLT_RDV_OPEN (R473, R479, R560). -/
def execFltRdvOpen (c : Cmd) (s : State) : Host.Outcome State Fault Refusal :=
  s.runIn .flt (fun s => s.command fFLT 0x12 0 c (fun k s =>
    if c.payload.length != 1 then refuse stBAD_LENGTH s
    else ringReply s (s.openRing k fFLT 0 0 (u8 c.payload 0) false [])))

/-- Whether the unit can send to its parent. -/
def State.fltAttached (s : State) : Bool := s.isRunning fFLT && s.flt.st == 2 && !s.pairHeld

/-- FLT_TILE_UPLOAD (R471, R479): the cells of a CLOSED field. -/
def execFltTileUpload (c : Cmd) (s : State) : Host.Outcome State Fault Refusal :=
  s.runIn .flt (fun s => s.command fFLT 0x13 0 c (fun _ s =>
    let id := u32 c.payload 0
    if c.payload.length != 4 then refuse stBAD_LENGTH s
    else
      match s.yplFind id with
      | none => refuse stWRONG_STATE s
      | some f =>
        if (s.ypl.field.map (fun g => g.id)) = some id then refuse stWRONG_STATE s
        else
          let p := if s.fltAttached then f.cells.flatMap YplCell.bytes else []
          (if s.fltAttached then s.fltUp (.tiles id p) else s).classC fFLT 0x1213 c stOK (leBytes 4 p.length)))

/-- FLT_SENTRY_UPLOAD (R471, R325, R479). -/
def execFltSentryUpload (c : Cmd) (s : State) : Host.Outcome State Fault Refusal :=
  s.runIn .flt (fun s => s.command fFLT 0x14 0 c (fun _ s =>
    if !c.payload.isEmpty then refuse stBAD_LENGTH s
    else
      let p := if s.fltAttached then s.sentryBytes else []
      (if s.fltAttached then s.fltUp (.sentry p) else s).classC fFLT 0x1214 c stOK (leBytes 4 p.length)))

/-! ### Status, configuration, start and stop -/

/-- FLT_GET_STATUS after the common bytes (R479). -/
def State.fltStatus (s : State) : List Byte :=
  let f := s.flt
  leBytes 2 s.fltUnit ++ [byte f.level, byte f.st, byte f.ep, byte f.kids.length] ++ leBytes 2 f.fails ++ leBytes 4 f.epoch ++
    leBytes 4 f.lastOp

/-- CONFIGURE (R479): in PLANT none of COV, RTK and RDV (R6). -/
def fltCfgCheck (plant : Bool) (p : List Byte) : Nat :=
  if p.length != 40 then stBAD_LENGTH
  else if plant && u8 p 2 % 8 != 0 then stBAD_PARAM
  else if u16 p 4 < 50 || 5000 < u16 p 4 || u8 p 6 < 1 || 60 < u8 p 6 || u16 p 8 < 1 || 100 < u16 p 8 || 511 < u16 p 10 then
    stBAD_PARAM
  else stOK

/-- Every association closes (R479); the epoch is kept. -/
def State.fltStop (s : State) : State :=
  let was := s.flt.st
  let s := s.setFlt (fun f => { f with st := 0, retryAt := none, kids := [], ops := [], snapDue := none })
  if was = 0 then s else s.fltLink

/-- START: the unit begins to associate and its periods begin. -/
def State.fltStart (s : State) : State :=
  (s.setFlt (fun f => { f with hbAt := s.clk.tb, covAt := s.clk.tb, rdvAt := s.clk.tb })).fltConnect 1 0

/-- APPLY (R479): the associations are rebuilt. -/
def State.fltApply (s : State) : State := if s.isRunning fFLT then s.fltStop.fltStart else s

/-- REINIT (R479): associations close, received coverage, a class F content, is lost; the epoch is kept. -/
def State.fltReinit (s : State) : State :=
  let s := s.fltStop
  ({ s with flt := { epoch := s.flt.epoch, fails := s.flt.fails } } : State).setYpl (fun y => { y with fleet := [] })

end Sys2Proof.Machine
end

