-- ==== Sys2Proof/Machine/Recorder.lean ====
section
/-!
DEFINITION. The event recorder (chapter 22): forming records, snapshots, floods, commits, alarms, reads and the commands.
-/
namespace Sys2Proof.Machine

/-- Function ID of the recorder. -/
def fREC : Nat := 0x13

/-- Changes the recorder. -/
def State.setRec (s : State) (f : Recorder → Recorder) : State := { s with almanac := f s.almanac }

/-! ### Records -/

/-- A record as it is stored (R481). -/
def Record.bytes (r : Record) : List Byte :=
  let b := leBytes 2 r.code ++ [byte r.src, byte (r.sev % 16 + 16 * (r.flags % 16))] ++ leBytes 4 r.opFirst ++ leBytes 4 r.opLast ++
    leBytes 3 r.cycles ++ [byte (r.repeats / 256)] ++ (List.range 8).flatMap (fun i => wBytes (r.words.getD i 0#32)) ++
    leBytes 4 r.tb ++ [byte r.repeats, byte r.nwords, 0#8, 0#8] ++ leBytes 4 r.seq
  b ++ wBytes (crc32c b)

/-- How far sequence `b` lies ahead of `a` (R482: numbers run from 1 to 0xFFFF_FFFF and wrap to 1). -/
def seqDist (a b : Nat) : Nat := (b + 4294967295 - a) % 4294967295

/-- The sequence after `a`. -/
def seqNext (a : Nat) : Nat := if 4294967295 ≤ a then 1 else a + 1

/-- Whether any session holds a freeze (R488). -/
def State.recFrozen (s : State) : Bool := s.mbx.sessions.any (fun x => x.freezeAt.isSome)

/-- Erased positions from the next one on (R486): the rest of the present sector and, once erased, the next. -/
def Recorder.erased (r : Recorder) : Nat :=
  let k := r.wpos / 1024
  if r.wpos % 1024 = 0 then (if r.erasing = some k then 0 else 1024)
  else 1024 - r.wpos % 1024 + (if r.erasing = some ((k + 1) % 128) then 0 else 1024)

/-- Whether the first staged record can be programmed now (R485, R486, R488): closed or part of a flush, its snapshot read, not frozen,
an erased position left beyond those kept for a hold-up. -/
def State.recReady (s : State) : Bool :=
  let r := s.almanac
  match r.staging with
  | [] => false
  | h :: t =>
    let flush := s.pwr.holdup || (match r.flush with
      | some f => f.1.contains h.seq
      | none => false)
    s.dome != 0 && s.dome != 6 && s.clk.running && !h.snapTodo && (flush || (!(r.isOpen && t.isEmpty) && !s.recFrozen)) &&
      (if s.pwr.holdup then 1 ≤ r.erased else 256 ≤ r.erased)

/-- Shows `REC_STATUS` and `REC_SEQ_OLDEST`, and begins to program the first staged record where it can be. -/
def State.recShow (s : State) : State :=
  let s := s.setRec (fun r => { r with programming := s.recReady })
  let r := s.almanac
  let w := b2n s.recFrozen + 2 * b2n r.erasing.isSome + 4 * b2n (decide (r.erased < 256)) + 8 * (r.staging.length % 4096) +
    32768 * b2n r.isOpen + 65536 * (r.cap % 4096)
  (s.wr R.REC_STATUS (word w)).wr R.REC_SEQ_OLDEST (word (match r.flash with
    | [] => 0
    | e :: _ => e.2.seq))

/-- The newest record closes (R484). -/
def State.recClose (s : State) : State := (s.setRec (fun r => { r with isOpen := false })).recShow

/-- Every freeze ends. -/
def State.recThaw (s : State) : State :=
  { s with mbx := { s.mbx with sessions := s.mbx.sessions.map (fun x => ({ x with freezeAt := none } : Session)) } }

/-- The snapshot addresses of a trigger class (R483). -/
def recAddrOk (a : Word) : Bool :=
  a.toNat % 4 == 0 && (match decodeAddr a.toNat with
    | .noWindow => false
    | .hole _ => true
    | .reg _ _ r => r.ty != .rc && r.ty != .wo)

/-- Whether an address names a register, as a delivered entry does (R483). -/
def recNames (a : Word) : Bool :=
  match decodeAddr a.toNat with
  | .reg _ _ _ => true
  | _ => false

/-- The entries of a trigger class: those REC_CLASS_SET changed, else the delivered ones, within the bounds of R483. -/
def State.recClass (s : State) (cls : Nat) : List Word :=
  match s.almanac.classes.lookup cls with
  | some l => l
  | none => ((Config.classTable cls).filter (fun a => recAddrOk a && recNames a)).take 8

/-- The four newest records of severity FAULT or SAFETY, newest first, as the panel shows them (R494). -/
def State.recFaults (s : State) : List (List Nat) :=
  let l := (s.almanac.flash.map (fun e => e.2)) ++ s.almanac.staging
  ((l.filter (fun r => 2 ≤ r.sev)).reverse.take 4).map (fun r => [r.code, r.src, r.sev, r.opLast / 3600])

/-! ### Alarms -/

/-- An alarm is sent to the fleet (R490). -/
def State.alarmSend (s : State) (sev : Nat) (p : List Byte) : State :=
  let s := (s.inc R.REC_ALARM_SENT).setRec (fun r => { r with sentSev := updAt r.sentSev (sev % 4) (fun n => n + 1) })
  { s with out := s.out ++ [OutMsg.bytes .alarm 0 p] }

/-- The place of the alarm sent first: highest severity, then oldest; and of the one displaced: lowest severity, then oldest. -/
def alarmFirst (l : List (Nat × Nat × List Byte)) : Nat :=
  (l.findIdx? (fun e => l.all (fun f => f.1 ≤ e.1))).getD 0
def alarmLast (l : List (Nat × Nat × List Byte)) : Nat :=
  (l.findIdx? (fun e => l.all (fun f => e.1 ≤ f.1))).getD 0

/-- A record is offered to the fleet (R490); only the acting unit of a pair sends alarms (R478). -/
def State.alarmOffer (s : State) (r : Record) : State :=
  if s.pairHeld then s
  else
    let s := s.setRec (fun x => { x with
      offered := true, firstSeq := if x.offered then x.firstSeq else r.seq, lastSeq := r.seq })
    if 0 < s.almanac.tokens then
      (s.setRec (fun x => { x with
        tokens := x.tokens - 1, tokenAt := if 10 ≤ x.tokens then s.clk.tb else x.tokenAt })).alarmSend r.sev r.bytes
    else if s.almanac.alarms.length < 32 then
      s.setRec (fun x => { x with alarms := x.alarms ++ [(r.sev, r.seq, r.bytes)] })
    else
      let i := alarmLast s.almanac.alarms
      let lost := (s.almanac.alarms.getD i (0, 0, [])).1
      (s.inc R.REC_ALARM_SUPP).setRec (fun x => { x with
        alarms := x.alarms.eraseIdx i ++ [(r.sev, r.seq, r.bytes)], suppSev := updAt x.suppSev (lost % 4) (fun n => n + 1) })

/-- REC_ALARM_TOKEN (R490): a token each 100 ms from the first one taken out of a full bucket, which a waiting alarm takes at once; a unit that stands by
in a pair sends none (R478). -/
def execRecAlarmToken (s : State) : Host.Outcome State Fault Refusal :=
  s.runIn .shared (fun s =>
    if !s.tbPast s.almanac.tokenAt (tbMs 100) then s
    else
      let s := s.setRec (fun r => { r with tokenAt := r.tokenAt + tbMs 100 })
      let i := alarmFirst s.almanac.alarms
      match (if s.pairHeld then none else s.almanac.alarms[i]?) with
      | some e => (s.setRec (fun r => { r with alarms := r.alarms.eraseIdx i })).alarmSend e.1 e.2.2
      | none => s.setRec (fun r => { r with tokens := min 10 (r.tokens + 1) }))

/-- REC_ALARM_SUMMARY (R490): at the end of a 10 s interval in which any alarm was offered: alarms sent and suppressed per severity,
first and last sequence number. -/
def execRecAlarmSummary (s : State) : Host.Outcome State Fault Refusal :=
  s.runIn .shared (fun s =>
    if !s.tbPast s.almanac.sumAt (tbMs 10000) then s
    else
      let r := s.almanac
      let p := r.sentSev.flatMap (leBytes 4) ++ r.suppSev.flatMap (leBytes 4) ++ leBytes 4 r.firstSeq ++ leBytes 4 r.lastSeq
      let s := if r.offered && !s.pairHeld then { s with out := s.out ++ [OutMsg.bytes .alarmSummary 0 p] } else s
      s.setRec (fun r => { r with
        sumAt := r.sumAt + tbMs 10000, offered := false, sentSev := [0, 0, 0, 0], suppSev := [0, 0, 0, 0],
        firstSeq := 0, lastSeq := 0 }))

/-! ### Forming and staging -/

/-- The place in staging of the oldest record of a severity that is not being programmed (R487). -/
def State.recOldest (s : State) (sev : Nat) : Option Nat :=
  (List.range s.almanac.staging.length).find? (fun i =>
    !(i == 0 && s.almanac.programming) && (s.almanac.staging.map (fun r => r.sev)).getD i 9 == sev)

/-- The record that a new record of severity `sev` displaces from full staging (R487): none where the new one is lost. -/
def State.recVictim (s : State) (sev : Nat) : Option Nat :=
  if sev = 0 then none
  else
    match s.recOldest 0 with
    | some i => some i
    | none =>
      if sev = 1 then none
      else
        match s.recOldest 1 with
        | some i => some i
        | none => if sev = 3 then s.recOldest 2 else none

/-- A formed record enters staging (R482, R487, R489, R490). Answers its sequence, 0 where it is lost. -/
def State.recEnter (s : State) (r : Record) : Nat × State :=
  let full := decide (s.almanac.cap ≤ s.almanac.staging.length)
  let place := if full then s.recVictim r.sev else none
  if full && place.isNone then (0, s.recLoss r.sev)
  else
    let s := match place with
      | some i =>
        let lost := (s.almanac.staging.map (fun (x : Record) => x.sev)).getD i 0
        let gone := (s.almanac.staging.map (fun (x : Record) => x.seq)).getD i 0
        (s.setRec (fun x => { x with
          staging := x.staging.eraseIdx i, flush := x.flush.map (fun (f : List Nat × Nat) => (f.1.erase gone, f.2)) })).recLoss lost
      | none => s
    let q := (s.rd R.REC_SEQ_NEXT).toNat
    let r := { r with seq := q, flags := r.flags + 2 * b2n s.almanac.lossFlag }
    let s := (s.wr R.REC_SEQ_NEXT (word (seqNext q))).setRec (fun x => { x with
      staging := x.staging ++ [r], isOpen := true, openSince := s.clk.tb, lossFlag := false })
    let s := s.wr R.REC_LAST (word (r.code + 65536 * r.src + 16777216 * r.sev + 268435456 * r.flags))
    let s := if s.fd R.REC_CFG 1 0 ≤ r.sev then
        s.notify fREC 0x80 (r.bytes.take 4 ++ leBytes 4 q ++ leBytes 4 r.opFirst) else s
    let s := if s.fd R.REC_CFG 3 2 ≤ r.sev then s.alarmOffer r else s
    let s := if 2 ≤ r.sev then s.pnlFaultRecord s.recFaults else s
    (q, s.recShow)

/-- The answer to a REC_POST whose event has been formed, merged or lost (R492). -/
def State.recReply (s : State) (reply : Option (Nat × Cmd)) (seq : Nat) : State :=
  match reply with
  | some (k, c) => if (s.ses k).isOpen then s.answer k 0x1313 c stOK (leBytes 4 seq) else s
  | none => s

/-- The oldest event of the input FIFO merges into the open record, or forms a record (R482 to R484). -/
def State.recTake (s : State) : State :=
  match s.almanac.fifo with
  | [] => s
  | e :: rest =>
    let s := s.setRec (fun r => { r with fifo := rest })
    let same := match s.almanac.isOpen, s.almanac.staging.getLast? with
      | true, some h => h.code == e.code && h.src == e.src
      | _, _ => false
    if same then
      let n := s.almanac.staging.length - 1
      ((s.inc R.REC_REPEATS).setRec (fun r => { r with staging := updAt r.staging n (fun h => { h with
        repeats := min 65535 (h.repeats + 1), opLast := e.op, tb := e.tb }) })).recReply e.reply 0
    else
      let s := s.recClose
      let host := 128 ≤ e.src
      let todo := !host && s.dome != 0 && !e.aon && !(s.recClass (e.code / 256)).isEmpty
      let x := s.recEnter { code := e.code, src := e.src, sev := e.sev, flags := 8 * b2n e.aon, opFirst := e.op, opLast := e.op,
                            cycles := e.cyc, repeats := 0, words := e.words, nwords := e.words.length, tb := e.tb, seq := 0,
                            snapTodo := todo }
      x.2.recReply e.reply x.1

/-- REC_EVENT_POST (R482 to R484): the oldest event of the input FIFO is taken. -/
def execRecEventPost (s : State) : Host.Outcome State Fault Refusal :=
  s.runIn (Foot.shared.and [.pnl] []) State.recTake

/-- Reads registers in order for a snapshot (R483): the words, whether a read ended with a bus error. -/
def State.recReads (s : State) : List Word → List Word × Bool × State
  | [] => ([], false, s)
  | a :: as =>
    let x := s.domeRead a.toNat
    let y := x.2.recReads as
    match x.1 with
    | some w => (w :: y.1, y.2.1, y.2.2)
    | none => (0xFFFFFFFF#32 :: y.1, true, y.2.2)

/-- REC_SNAPSHOT_READ (R483): Dome reads the registers of the oldest record that waits for its snapshot. -/
def execRecSnapshotRead (s : State) : Host.Outcome State Fault Refusal :=
  s.runIn (Foot.shared.and [] [.cam, .eth, .pnl]) (fun s =>
    match s.almanac.staging.findIdx? (fun r => r.snapTodo) with
    | none => s
    | some i =>
      let r := s.almanac.staging.getD i default
      let x := s.recReads (s.recClass (r.code / 256))
      let f := r.flags + b2n x.2.1
      let s := x.2.2.setRec (fun a => { a with staging := updAt a.staging i (fun h => { h with
        words := x.1, nwords := x.1.length, snapTodo := false, flags := f }) })
      let s := if i + 1 = s.almanac.staging.length then s.wf_ R.REC_LAST 31 28 f else s
      s.recShow)

/-- REC_OPEN_TIMEOUT (R484): a record that has been open for 60 s closes. -/
def execRecOpenTimeout (s : State) : Host.Outcome State Fault Refusal :=
  s.runIn .shared (fun s => if s.almanac.isOpen && s.tbPast s.almanac.openSince (tbMs 60000) then s.recClose else s)

/-! ### Commits -/

/-- Writing enters a sector (R486): the next sector's erase starts, and reads lose its records. -/
def State.recSector (s : State) : State :=
  let r := s.almanac
  if r.wpos % 1024 != 0 then s
  else
    let k := (r.wpos / 1024 + 1) % 128
    let gone := r.flash.filter (fun e => e.1 / 1024 == k)
    let s := r.reads.foldl (fun (s : State) q =>
      let n := (gone.filter (fun e => seqDist q.next e.2.seq < 2147483648 && seqDist e.2.seq q.last < 2147483648)).length
      s.setRing q.ring (fun d => { d with skipped := d.skipped + n })) s
    s.setRec (fun r => { r with erasing := some k, flash := r.flash.filter (fun e => e.1 / 1024 != k) })

/-- The first staged record is written at the next position (R486). A failed read-back writes it again at the one after. -/
def State.recProgram (s : State) (ok : Bool) : State :=
  match s.almanac.staging with
  | [] => s
  | h :: t =>
    let s := s.recSector
    let p := s.almanac.wpos
    let s := s.setRec (fun r => { r with wpos := (p + 1) % 131072 })
    if !ok then (s.inc R.REC_FLASH_ERR).recShow
    else
      let h := if s.pwr.holdup then { h with flags := h.flags ||| 4 } else h
      let s := (s.inc R.REC_COMMITS).setRec (fun r => { r with
        staging := t, flash := r.flash ++ [(p, h)], isOpen := r.isOpen && !t.isEmpty,
        flush := r.flush.map (fun f => if f.1.contains h.seq then (f.1.erase h.seq, f.2 + 1) else f) })
      s.recShow

/-- REC_COMMIT (R485, R486): the record being programmed has been read back. -/
def execRecCommit (ok : Bool) (s : State) : Host.Outcome State Fault Refusal :=
  s.runIn .shared (fun s => if s.almanac.programming && s.recReady then s.recProgram ok else s)

/-- REC_ERASE_DONE (R486): suspended during a hold-up. -/
def execRecEraseDone (s : State) : Host.Outcome State Fault Refusal :=
  s.runIn .shared (fun s => if s.pwr.holdup then s else (s.setRec (fun r => { r with erasing := none })).recShow)

/-- The flush of key-off step 3 (R111, R484, R488): every staged record is committed, frozen or not, an erase in progress completing
where positions run out; no freeze holds afterwards. -/
def State.recFlushAll (s : State) : State :=
  let s := s.recThaw
  let s := s.recClose
  (List.range s.almanac.staging.length).foldl (fun (s : State) _ =>
    let s := if s.almanac.erased < 256 then s.setRec (fun r => { r with erasing := none }) else s
    s.recProgram true) s

/-- The state of the recorder after a device-level reset (R482, R486, R117): events in the FIFO are lost and counted, but for a POR,
which loses them and the staged records uncounted; the position of an interrupted programming is skipped. -/
def State.recReset (s : State) (por : Bool) : State :=
  let r := s.almanac
  let skip := if r.programming then (r.wpos + 1) % 131072 else r.wpos
  let s := if por then s else r.fifo.foldl (fun (s : State) e => s.inc (lossReg e.sev)) s
  s.setRec (fun r => { r with
    fifo := [], staging := if por then [] else r.staging, isOpen := if por then false else r.isOpen, openSince := 0,
    lossFlag := !por && (r.lossFlag || !r.fifo.isEmpty), wpos := skip, programming := false, flush := none, reads := [],
    tokens := 10, tokenAt := 0, alarms := [], sumAt := 0, offered := false, sentSev := [0, 0, 0, 0], suppSev := [0, 0, 0, 0],
    firstSeq := 0, lastSeq := 0, cap := if por then 2048 else r.cap })

/-- INIT after a POR (R482): `REC_SEQ_NEXT` one above the newest record of the flash ring, else 1. -/
def State.recInit (s : State) : State :=
  s.wr R.REC_SEQ_NEXT (word (match s.almanac.flash.getLast? with
    | some e => seqNext e.2.seq
    | none => 1))

/-! ### Freeze and reads -/

/-- REC_FREEZE_TIMEOUT (R488). -/
def execRecFreezeTimeout (k : Nat) (s : State) : Host.Outcome State Fault Refusal :=
  s.runIn .shared (fun s =>
    match (s.ses k).freezeAt with
    | some t =>
      if s.tbPast t (50000000 * s.fd R.REC_CFG 13 4) then (s.setSes k (fun x => { x with freezeAt := none })).recShow else s
    | none => s)

/-- A read has ended (R491). -/
def State.recReadDone (s : State) (n : Nat) (aborted : Bool) : State :=
  match s.ring? n with
  | some r =>
    if r.told then s
    else (s.setRing n (fun r => { r with ended := true, told := true })).notify fREC 0x82
      ([byte n, byte (b2n aborted), 0#8, 0#8] ++ leBytes 4 r.sent ++ leBytes 4 r.skipped)
  | none => s

/-- Writes records of a read while its ring has room (R491). -/
def State.recFill (s : State) (n : Nat) : Nat → State
  | 0 => s
  | fuel + 1 =>
    match s.almanac.reads.find? (fun q => q.ring == n), s.ring? n with
    | some q, some d =>
      if q.ended || !s.ringRoom n || !d.waiting.isEmpty then s
      else
        let l := s.almanac.flash.map (fun e => e.2) ++ (if q.staged then s.almanac.staging else [])
        let hit := if q.left = some 0 then none
          else l.find? (fun r => seqDist q.next r.seq < 2147483648 && seqDist r.seq q.last < 2147483648)
        match hit with
        | none => ((s.setRec (fun a => { a with reads := a.reads.map (fun x => if x.ring = n then { x with ended := true } else x) })
            ).recReadDone n false)
        | some r =>
          let s := s.setRec (fun a => { a with reads := a.reads.map (fun x => if x.ring = n then
            { x with next := seqNext r.seq, left := x.left.map (fun m => m - 1) } else x) })
          ((s.setRing n (fun d => { d with waiting := [r.bytes] })).pump n 1).recFill n fuel
    | _, _ => s

/-- REC_READ (R491, R560). -/
def execRecRead (c : Cmd) (s : State) : Host.Outcome State Fault Refusal :=
  s.runIn .shared (fun s => s.command fREC 0x10 0 c (fun k s =>
    let p := c.payload
    if p.length != 10 then refuse stBAD_LENGTH s
    else
      let staged := nbit (u8 p 9) 0
      let l := s.almanac.flash.map (fun e => e.2) ++ (if staged then s.almanac.staging else [])
      match s.openRing k fREC 0 0 (u8 p 8) true [] with
      | .error e => refuse e s
      | .ok (n, s) =>
        let first := if u32 p 0 = 0 then (match l.head? with
          | some r => r.seq
          | none => 1) else u32 p 0
        let newest := match l.getLast? with
          | some r => r.seq
          | none => 0
        let q : RecRead := { ring := n, next := first, last := newest, left := if u32 p 4 = 0 then none else some (u32 p 4),
                             staged := staged, ended := l.isEmpty }
        let s := s.setRing n (fun d => { d with ended := false })
        let s := s.setRec (fun a => { a with reads := a.reads.filter (fun x => x.ring != n) ++ [q] })
        (.now stOK [byte n], if l.isEmpty then s.recReadDone n false else s.recFill n 1025)))

/-- REC_FREEZE (R488). -/
def execRecFreeze (c : Cmd) (s : State) : Host.Outcome State Fault Refusal :=
  s.runIn .shared (fun s => s.command fREC 0x11 1 c (fun k s =>
    if c.payload.length != 1 then refuse stBAD_LENGTH s
    else if 1 < u8 c.payload 0 then refuse stBAD_PARAM s
    else
      okWith [] ((s.setSes k (fun x => { x with freezeAt := if u8 c.payload 0 = 1 then some s.clk.tb else none })).recShow)))

/-- REC_FLUSH (R484, R492): class C; it ends when the records staged at its acceptance have been committed. -/
def execRecFlush (c : Cmd) (s : State) : Host.Outcome State Fault Refusal :=
  s.runIn .shared (fun s => s.command fREC 0x12 1 c (fun _ s =>
    if !c.payload.isEmpty then refuse stBAD_LENGTH s
    else if s.recFrozen then refuse stWRONG_STATE s
    else
      let s := s.setRec (fun r => { r with isOpen := false, flush := some (r.staging.map (fun x => x.seq), 0) })
      s.recShow.classC fREC 0x1312 c stOK []))

/-- REC_POST (R492): answered once its record is formed. -/
def execRecPost (c : Cmd) (s : State) : Host.Outcome State Fault Refusal :=
  s.runIn .shared (fun s => s.command fREC 0x13 0 c (fun k s =>
    let p := c.payload
    let n := u8 p 3
    if p.length < 4 || 36 < p.length then refuse stBAD_LENGTH s
    else if u16 p 0 = 0 || 2 < u8 p 2 || 8 < n then refuse stBAD_PARAM s
    else if p.length < 4 + 4 * n then refuse stBAD_LENGTH s
    else if 64 ≤ s.almanac.fifo.length then (.now stOK (leBytes 4 0), s.recLoss (u8 p 2))
    else
      let e : Posted := { code := u16 p 0, src := 128 + k, sev := u8 p 2, words := (List.range n).map (fun i => w32 p (4 + 4 * i)),
                          tb := s.evTime, op := (s.rd R.SYS_OP_SECONDS).toNat, cyc := (s.rd R.SYS_PWR_CYCLES).toNat,
                          reply := some (k, c) }
      (.later, s.setRec (fun r => { r with fifo := r.fifo ++ [e] }))))

/-- REC_CLASS_SET (R483). -/
def execRecClassSet (c : Cmd) (s : State) : Host.Outcome State Fault Refusal :=
  s.runIn (Foot.shared.and [.prm] [.prm]) (fun s => s.command fREC 0x14 2 c (fun _ s =>
    let p := c.payload
    let n := u8 p 1
    let l := (List.range n).map (fun i => w32 p (4 + 4 * i))
    if p.length < 4 || 36 < p.length then refuse stBAD_LENGTH s
    else if 8 < n then refuse stBAD_PARAM s
    else if p.length < 4 + 4 * n then refuse stBAD_LENGTH s
    else if !l.all recAddrOk then refuse stBAD_PARAM s
    else
      okWith [] ((s.setRec (fun r => { r with classes := (u8 p 0, l) :: r.classes.filter (fun e => e.1 != u8 p 0) })).prmItem
        (256 * fREC + u8 p 0) (l.flatMap wBytes))))

/-- REC_CLASS_GET (R483). -/
def execRecClassGet (c : Cmd) (s : State) : Host.Outcome State Fault Refusal :=
  s.runIn .shared (fun s => s.command fREC 0x15 0 c (fun _ s =>
    if c.payload.length != 1 then refuse stBAD_LENGTH s
    else
      let l := s.recClass (u8 c.payload 0)
      okWith ([byte l.length, 0#8, 0#8, 0#8] ++ padTo 32 (l.flatMap wBytes)) s))

/-- REC_CATALOGUE (R561). -/
def execRecCatalogue (c : Cmd) (s : State) : Host.Outcome State Fault Refusal :=
  s.runIn .shared (fun s => s.command fREC 0x16 0 c (fun _ s =>
    if c.payload.length != 1 then refuse stBAD_LENGTH s
    else if 24 ≤ u8 c.payload 0 then refuse stBAD_PARAM s
    else okWith ((Config.catalogue (u8 c.payload 0)).take 4096) s))

/-! ### Status, configuration and reinitialisation -/

/-- REC_GET_STATUS after the common bytes (R492). -/
def State.recStatus (s : State) : List Byte :=
  wBytes (s.rd R.REC_SEQ_NEXT) ++ wBytes (s.rd R.REC_SEQ_OLDEST) ++ leBytes 2 s.almanac.staging.length ++
    [byte (s.fd R.REC_STATUS 2 0), 0#8] ++ wBytes (s.rd R.REC_LOST_INFO) ++ wBytes (s.rd R.REC_LOST_WARN) ++
    wBytes (s.rd R.REC_LOST_FAULT) ++ wBytes (s.rd R.REC_LOST_SAFETY)

/-- The check of a CONFIGURE payload (R492): FRZ_MAX from 1 to 600 s. -/
def recCfgCheck (p : List Byte) : Nat :=
  if p.length != 4 then stBAD_LENGTH
  else if fld (w32 p 0) 13 4 < 1 || 600 < fld (w32 p 0) 13 4 then stBAD_PARAM else stOK

/-- APPLY. -/
def State.recApply (s : State) (p : List Byte) : State := s.wr R.REC_CFG (w32 p 0 &&& 0x3FFF#32)

/-- REINIT (R492): reads and freezes end, the alarm queue empties; staging, the open record and the ring stay. -/
def State.recReinit (s : State) : State :=
  let s := s.almanac.reads.foldl (fun (s : State) q => (s.recReadDone q.ring true).closeRing q.ring) s
  let s := s.recThaw
  (s.setRec (fun r => { r with reads := [], alarms := [], flush := none })).recShow

end Sys2Proof.Machine
end

