-- ==== Sys2Proof/Machine/ResetConfig.lean ====
section
/-!
DEFINITION. The configuration that stands for a function while none has been applied (R45): the Reset values of its configuration registers,
in the layout of its CONFIGURE payload.
-/
namespace Sys2Proof.Machine

/-- The registers of function `f`'s CONFIGURE payload in their order (R119, R140, R163, R193, R278, R526 and the chapters' CONFIGURE
layouts), each one word; 0 stands for a reserved word. Functions whose payload is not a row of whole registers have none here. -/
def cfgRegs (f : Nat) : List Nat :=
  match f with
  | 4 => pswCfgRegs
  | 5 => (List.range 40).map R.DIN_CFG ++ [R.DIN_WAKE_SEL0, R.DIN_WAKE_SEL1]
  | 6 => ainCfgRegs
  | 7 => (List.range 16).map R.SNT_CFG
  | 8 => [R.CST_CTRL, R.CST_WIN, R.CST_RMIN, R.CST_LPT_CFG, R.CST_LPT_MIN] ++
      (List.range 8).flatMap (fun t => [R.CST_TERM_CFG t, R.CST_TERM_W t, R.CST_TERM_REF t, 0]) ++
      (List.range 8).flatMap (fun q => [R.CST_FRZ_CFG q, R.CST_FRZ_THR q]) ++
      (List.range 32).flatMap (fun i => [R.CST_MF_PATH i, R.CST_MF_DLY i, R.CST_MF_LO i, R.CST_MF_HI i, R.CST_MF_STEP i, R.CST_MF_K i,
        R.CST_MF_INIT i])
  | 9 => (List.range 16).map (fun k => R.YPL_FLOW_CFG + 4 * k) ++ (List.range 24).map (fun k => R.YPL_SEC_W 0 + 4 * k)
  | 10 => [R.TRN_CTRL, R.TRN_MEAS_CFG, R.TRN_ALLOC, R.TRN_FE_CFG]
  | 11 => (List.range 11).map (fun i => R.POS_CTRL + 4 * i)
  | 12 => (List.range 6).map (fun i => R.AST_CYC_CFG + 4 * i) ++
      (List.range 16).flatMap (fun k => (List.range 6).map (fun j => R.AST_SRC_CFG k + 4 * j)) ++ [R.AST_EGO_CFG]
  | 13 => [R.CAM_MODE] ++
      (List.range 6).flatMap (fun i => (List.range 8).map (fun j => if j < 4 then R.CAM_STR_ID_LO i + 4 * j else 0)) ++
      (List.range 8).flatMap (fun c => (List.range 21).map (fun j => if j < 14 then R.CAM_CTX_CFG c + 4 * j else 0)) ++
      (List.range 2).flatMap (fun e => (List.range 8).map (fun j => if j < 3 then R.CAM_ENC_CFG e + 4 * j else 0))
  | 15 => ethCfgRegs
  | 17 => [R.PAIR_CFG, R.PAIR_CAN_ID]
  | 19 => [R.REC_CFG]
  | 20 => [R.PNL_MIN_S]
  | _ => []

/-- The payload of Reset values of function `f` (R45); empty where its configuration has no registers. -/
def cfgReset (f : Nat) : List Byte :=
  match f with
  | 1 => leBytes 2 (regReset R.PWR_VWARN).toNat ++ [byte (fld (regReset R.PWR_KEYOFF_CFG) 1 0), byte (fld (regReset R.PWR_KEYOFF_CFG) 15 8)] ++
      leBytes 2 (fld (regReset R.PWR_KEYOFF_CFG) 25 16) ++ leBytes 2 (regReset R.PWR_PC_OFF).toNat ++
      leBytes 4 (regReset R.PWR_WAKE_EN).toNat ++ wBytes (regReset R.PWR_TIMER)
  | 2 => leBytes 8 (2 ^ 64 - 1) ++
      resetWords ((List.range 64).flatMap (fun m => (List.range 16).map (fun o => R.MER_CFG m + 4 * o)))
  | 3 => leBytes 8 (2 ^ 48 - 1) ++ resetWords ([R.ADR_BST_TARGET, R.ADR_BST_CFG] ++ (List.range 48).flatMap adrChRegs ++
      (List.range 12).flatMap (fun k => [R.ADR_BANK_CFG k, R.ADR_BANK_EN k]))
  | 14 => leBytes 2 65535 ++ resetWords ((List.range 16).flatMap (fun n => (canCfgRegs n).map (fun e => e.1)))
  | f => resetWords (cfgRegs f)

end Sys2Proof.Machine
end

