-- ==== Sys2Proof/Machine/Functions.lean ====
section
/-!
DEFINITION. What the common commands and events of chapters 02 and 04 do with each function: update groups, configuration, start, stop,
REINIT, faults, the Dome state, return to BASIC and the end of a session.
-/
namespace Sys2Proof.Machine

/-- A value as update group `g` applies it: clipped into the ranges of its fields where the group's rule says so (R121, R236, R258). -/
def clipAt (g a : Nat) (v : Word) : Word :=
  match g with
  | 3 => adrClip a v
  | 4 => pswClip a v
  | 5 => clipInput a v
  | _ => v

/-- A strobe of update group `g` (R27): its pending values take effect together and its function follows. -/
def State.strobe (s : State) (g : Nat) : State :=
  let c : State := { s with shadow := s.shadow.map (fun (e : Nat × Word) => if ugAt e.1 = g then (e.1, clipAt g e.1 e.2) else e) }
  let t := c.applyShadow g
  match g with
  | 2 => t.cstPublish
  | 3 => t.adrAfterUg3
  | 4 => t.pswAfterUg4
  | 5 => t.afterUg5 s
  | 6 => t.canAfterUg6
  | 8 => t.camAfterUg8
  | 9 => t.astAfterUg9
  | 10 => t.yplAfterUg10
  | _ => t

/-! ### Dome states -/

/-- Shows a new Dome state; field outputs follow (R16), the change is an event (R561). -/
def State.domeSet (s : State) (n : Nat) : State :=
  if s.dome = n then s
  else
    let s := s.wf_ R.MBX_DOME_STATE 2 0 n
    let s := s.post 1 (if n = 4 || n = 6 then .domeFault else .domeChange)
    let s := s.adrEnables.pswEnables
    (if s.fieldOn then s else s.safOutputs).recShow

/-- The FAULTED functions as `SYS_DEGRADED` shows them. -/
def State.faulted (s : State) : Nat := maskOf 24 (fun f => (s.fn f).state == .faulted)

/-- DEGRADED while any function is FAULTED, else the held state (R114). -/
def State.domeRefresh (s : State) : State :=
  let s := s.wr R.SYS_DEGRADED (word s.faulted)
  if s.dome == 2 || s.dome == 3 || s.dome == 4 then s.domeSet (if s.faulted = 0 then s.pwr.held else 4) else s

/-- Shows the owner of a function in `MBX_OWNER`. -/
def State.setOwner (s : State) (f : Nat) (o : Option Nat) : State :=
  (s.setFn f (fun x => { x with owner := o })).wb R.MBX_OWNER f o.isSome

/-! ### Configuration, start and stop -/

/-- CONFIGURE of SYS (R119). -/
def sysCfgCheck (p : List Byte) : Nat :=
  if p.length != 16 then stBAD_LENGTH
  else if u16 p 0 < 8000 || 30000 < u16 p 0 || 2 < u8 p 2 || 168 < u8 p 3 || 600 < u16 p 4 || u16 p 6 < 500 || 10000 < u16 p 6 ||
      127 < u16 p 8 then stBAD_PARAM
  else stOK

/-- APPLY of SYS (R119). -/
def State.sysApply (s : State) (p : List Byte) : State :=
  let s := (s.wr R.PWR_VWARN (word (u16 p 0))).wr R.PWR_KEYOFF_CFG (word (u8 p 2 + 256 * u8 p 3 + 65536 * u16 p 4))
  let s := (s.wr R.PWR_PC_OFF (word (u16 p 6))).wr R.PWR_WAKE_EN (word (u16 p 8) ||| 1#32)
  s.wr R.PWR_TIMER (w32 p 12)

/-- The CONFIGURE checks of function `f`. -/
def State.cfgCheck (s : State) (f : Nat) (p : List Byte) : Nat :=
  match f with
  | 1 => sysCfgCheck p
  | 2 => s.merCfgCheck p
  | 3 => s.adrCfgCheck p
  | 4 => s.pswCfgCheck p
  | 5 | 6 | 7 => inputsCfgCheck f p
  | 8 => s.cstCfgCheck p
  | 9 => yplCfgCheck p
  | 10 => trnCfgCheck p
  | 11 => posCfgCheck p
  | 12 => astCfgCheck s.plant p
  | 13 => camCfgCheck p
  | 14 => s.canCfgCheck p
  | 15 => ethCfgCheck s.plant p
  | 17 => pairCfgCheck p
  | 18 => fltCfgCheck s.plant p
  | 19 => recCfgCheck p
  | 20 => pnlCfgCheck p
  | _ => stBAD_PARAM

/-- Channel block `n` of an ADR payload (R236); none where its bit is clear. -/
def adrBlock (p : List Byte) (n : Nat) : Option (List Byte) :=
  if nbit (u64 p 0) n then
    some (slice p (16 + 272 * ((List.range 48).filter (fun k => k < n && nbit (u64 p 0) k)).length) 272)
  else none

/-- Controller block `n` of a CAN payload (R431). -/
def canBlockOf (p : List Byte) (n : Nat) : Option (List Byte) :=
  match (canCfgAt p).lookup n with
  | some o => some (slice p o (4 * (canCfgRegs n).length))
  | none => none

/-- The applied configuration after an APPLY: where a payload names slots, channels or controllers, the others keep theirs. -/
def cfgMerge (f : Nat) (old new : List Byte) : List Byte :=
  if old.isEmpty then new
  else
    match f with
    | 2 => merMerge old new
    | 3 =>
      let bs := (List.range 48).map (fun n => (adrBlock new n).orElse (fun _ => adrBlock old n))
      leBytes 8 (maskOf 48 (fun n => (bs.getD n none).isSome)) ++ slice new 8 8 ++ bs.flatMap (fun b => b.getD []) ++
        new.drop (adrBankPart new)
    | 14 =>
      let bs := (List.range 16).map (fun n => (canBlockOf new n).orElse (fun _ => canBlockOf old n))
      leBytes 2 (maskOf 16 (fun n => (bs.getD n none).isSome)) ++ bs.flatMap (fun b => b.getD [])
    | _ => new

/-- A configuration payload takes effect (R45); Dome writes that of PAIR to its registers in INIT alone (R451, R465). -/
def State.fnTake (s : State) (f : Nat) (p : List Byte) : State :=
  match f with
  | 1 => s.sysApply p
  | 2 => s.merApply p
  | 3 => s.adrApply p
  | 4 => s.pswApply p
  | 5 | 6 | 7 =>
    let t := (inputsCfgWords f p).foldl (fun (t : State) e => t.shadowWr e.1 5 e.2) s
    (t.strobe 5).inputsApplyNow f p
  | 8 => s.cstApply p
  | 9 => s.yplApply p
  | 10 => s.trnApply p
  | 11 => s.posApply p
  | 12 => s.astApply p
  | 13 => s.camApply p
  | 14 => s.canApply p
  | 15 => s.ethApply p
  | 17 => if s.dome != 1 then s else (s.wr R.PAIR_CFG (w32 p 0 &&& maskAt R.PAIR_CFG)).wr R.PAIR_CAN_ID (w32 p 4 &&& maskAt R.PAIR_CAN_ID)
  | 18 => s.fltApply
  | 19 => s.recApply p
  | 20 => s.pnlApply p
  | _ => s

/-- A configuration takes effect (R45); an empty one stands for the Reset values of the function's configuration registers. -/
def State.fnApply (s : State) (f : Nat) (p : List Byte) : State :=
  let q := if p.isEmpty then cfgReset f else p
  if q.isEmpty then s else s.fnTake f q

/-- The whole configuration that an applied one stands for (R45, R66): what it does not name holds Reset values. -/
def cfgWhole (f : Nat) (p : List Byte) : List Byte := if p.isEmpty then cfgReset f else cfgMerge f (cfgReset f) p

/-- START of function `f` with its payload. -/
def State.fnStart (s : State) (f : Nat) (p : List Byte) : State :=
  let s := s.setFn f (fun x => { x with state := .running })
  match f with
  | 2 => s.merStart
  | 3 => s.adrStartFn
  | 4 => s.pswStart
  | 5 | 6 | 7 => s.inputsStart f
  | 8 => s.cstStart p
  | 9 => s.yplStart
  | 10 => s.trnStart
  | 11 => s.posStart
  | 12 => s.astStart
  | 13 => s.camStartFn
  | 14 => s.canStart
  | 18 => s.fltStart
  | 20 => s.pnlStart
  | _ => s

/-- STOP of function `f`: its outputs go inactive. -/
def State.fnStop (s : State) (f : Nat) : State :=
  let s := s.setFn f (fun x => { x with state := .configured })
  match f with
  | 2 => s.merStop
  | 3 => s.adrStopFn
  | 4 => s.pswStop
  | 5 | 6 | 7 => s.inputsStop f
  | 8 => s.cstStop
  | 9 => s.yplStop
  | 10 => s.trnStop
  | 11 => s.posStop
  | 12 => s.astStop
  | 13 => s.camStopFn
  | 14 => s.canStop
  | 15 => s.ethStop
  | 18 => s.fltStop
  | 20 => s.pnlStop
  | _ => s

/-! ### REINIT -/

/-- Whether the register at `a` is class F content of function `f`'s blocks. -/
def fnClassF (f a : Nat) : Bool :=
  (match blockAt a with
    | some b => b.fn == some f
    | none => false) && retAt a == .f

/-- Class F registers and pending shadow values of a function are lost (R88, R115, R117). -/
def State.fnDrop (s : State) (f : Nat) : State :=
  { s with regs := s.regs.keep (fun a => !fnClassF f a), shadow := s.shadow.filter (fun e => !fnClassF f e.1) }

/-- The function's own part of a REINIT. -/
def State.fnReinit (s : State) (f loop : Nat) : State :=
  let s := s.fnDrop f
  match f with
  | 2 => s.merReinit.fnDrop f
  | 3 => (s.adrReinit.fnDrop f).adrShowAll
  | 4 => s.pswReinit
  | 5 | 6 | 7 => (s.inputsStop f).inputsReinit f
  | 8 => s.cstReinit
  | 9 => s.yplReinit
  | 10 => s.trnReinit
  | 11 => s.posReinit
  | 12 => s.astReinit
  | 13 => (s.camReinit.fnDrop f).camShow
  | 14 => s.canReinit
  | 15 => s.ethStop
  | 18 => s.fltReinit
  | 19 => s.recReinit
  | 20 => s.pnlReinit loop
  | 23 => s.vxaAbort
  | _ => s

/-- A REINIT begins (R45, R115, R560): the outputs are inactive, transfer rings close; `reply` is answered at its end. -/
def State.doReinit (s : State) (f loop : Nat) (reply : Option (Nat × Nat × Cmd)) : State :=
  let s := s.setFn f (fun x => { x with state := .reinit, reply := reply, transfer := none })
  let s := s.fnReinit f loop
  let s := (s.mbx.rings.filter (fun r => r.fn == f && r.transfer)).foldl (fun (t : State) r => t.closeRing r.ring) s
  s.domeRefresh

/-- Ownership returns to BASIC (R66). -/
def State.returnBasic (s : State) (f loop : Nat) (reply : Option (Nat × Nat × Cmd)) : State :=
  ((s.setOwner f none).doReinit f loop reply).post f .returnBasic

/-- A function enters FAULTED (R114, R561): its outputs go inactive and Dome enters DEGRADED. -/
def State.fnFault (s : State) (f : Nat) : State :=
  if (s.fn f).state == .faulted || (s.fn f).state == .unused then s
  else
    let s := if (s.fn f).state == .running && !serviceFn f then s.fnStop f else s
    ((s.setFn f (fun x => { x with state := .faulted })).post f .fnFaulted).domeRefresh

/-! ### Sessions -/

/-- The rings of an index are disabled and released (R40, R61). -/
def State.dropRings (s : State) (k : Nat) : State :=
  [k, 16 + k, 32 + k].foldl (fun (t : State) n => t.wb (R.MBX_Q_CFG n) 15 false) s

/-- The data rings of a session close (R560). -/
def State.closeDataRings (s : State) (k : Nat) : State :=
  (s.mbx.rings.filter (fun r => r.session == k)).foldl (fun (t : State) r =>
    (if r.fn = fREC then t.recReadDone r.ring true else t).closeRing r.ring) s

/-- The answer to a command of a session that has closed goes nowhere: no ring has this number. -/
def Session.orphan (x : Session) (k : Nat) (c : Cmd) : Cmd :=
  match c.origin with
  | .ring q => if q = k then { c with origin := .ring 200 } else c
  | .udp ip port => if x.udp = some (ip, port) && c.session = k then { c with origin := .ring 200 } else c

/-- A session closes (R61): its rings and windows are released, its ownerships, freeze and keep-awake hold end, and answers still due
to it go nowhere. `loop` is the crack-loop reading a REINIT of PNL would find. -/
def State.closeSession (s : State) (k loop : Nat) : State :=
  let s := (s.closeDataRings k).dropRings k
  let x := s.ses k
  let s := { s with mbx := { s.mbx with running := s.mbx.running.map (fun (r : Running) => { r with cmd := x.orphan k r.cmd }) } }
  let s := { s with fns := s.fns.map (fun (f : Fn) => { f with
    transfer := f.transfer.map (fun (r : Nat × Cmd) => (r.1, x.orphan k r.2)), reply := f.reply.map (fun (r : Nat × Nat × Cmd) => (r.1, r.2.1, x.orphan k r.2.2)) }) }
  let s := (s.setSes k (fun _ => {})).wb R.MBX_SESSIONS k false
  let s := ((List.range 24).filter (fun f => (s.fn f).owner == some k)).foldl (fun (t : State) f => t.returnBasic f loop none) s
  let s := if s.upd.owner = some k then { s with upd := { s.upd with owner := none } } else s
  s.recShow

end Sys2Proof.Machine
end

