-- ==== Sys2Proof/Machine/Common.lean ====
section
/-!
DEFINITION. The common commands (chapter 02, R45 to R51, R63 to R66) and the Dome commands SYS_START and SYS_STOP (R114).
-/
namespace Sys2Proof.Machine

/-- Functions that SET_EXPERT can hand over (chapter 02, R63). -/
def expertFns : List Nat := [2, 3, 4, 5, 6, 7, 8, 9, 10, 11, 12, 13, 14, 15, 20]

/-- Control-plane functions among them (R10), whose transfer waits for a tick boundary (R64). -/
def controlFns : List Nat := [2, 3, 4, 5, 6, 7, 14]

/-- The status with which a function turns a common command away (R45, R46, R63, R396, R465, R492, R515, R526, chapter 14 for VXA). -/
def commonRefusal (f b : Nat) : Option Nat :=
  if b == 0x02 || b == 0x03 then
    if f == 0 || f == 0x10 || f == 0x15 || f == 0x16 then some stNOT_PERMITTED
    else if f == 0x17 then some stBAD_OPCODE else none
  else if b == 0x04 || b == 0x05 then (if serviceFn f && f != 1 then some stNOT_PERMITTED else none)
  else if b == 0x0E then
    (if f == 0 || f == 1 || f == 0x10 || f == 0x11 || f == 0x15 then some stNOT_PERMITTED else none)
  else if b == 0x0F then (if expertFns.contains f then none else some stNOT_PERMITTED)
  else none

/-- The code of a function's state (R45). -/
def FnState.code : FnState → Nat
  | .stopped => 0
  | .configured => 1
  | .running => 2
  | .faulted => 3
  | .reinit => 4
  | .unused => 5

/-- Whether the island holds the override line of an enabled output stage of the function removed (R31, R47). -/
def State.fnBlocked (s : State) (f : Nat) : Bool :=
  if f = 3 then (List.range 12).any (fun k => s.bt (R.ADR_BANK_EN k) 0 && !s.line k)
  else if f = 4 then (List.range 4).any (fun g => s.bt (R.PSW_GRP_EN g) 0 && !nbit s.saf.lines (12 + g))
  else false

/-- Whether a configuration would enable a stage whose override line is removed (R47, R255, R278). -/
def State.cfgBlocked (s : State) (f : Nat) (p : List Byte) : Bool :=
  if f = 3 then
    (List.range 12).any (fun k => u32 p (adrBankPart p + 8 * k + 4) % 2 == 1 && !s.line k) && !p.isEmpty
  else if f = 4 then
    (List.range 4).any (fun g => u32 p (256 + 12 * g) % 2 == 1 && !nbit s.saf.lines (12 + g)) && !p.isEmpty
  else false

/-- SYS_GET_STATUS after the common bytes (R5, R119). -/
def State.sysStatus (s : State) : List Byte :=
  [byte s.dome, byte (s.fd R.SYS_PROFILE 0 0), byte (fld s.sysProfile 8 8),
    byte (s.power + 128 * s.fd R.PWR_STATE 8 8)] ++
  wBytes (s.rd R.SYS_RESET_CAUSE) ++ wBytes (s.rd R.SYS_OP_SECONDS) ++ wBytes (s.rd R.SYS_PWR_CYCLES) ++
  wBytes (s.rd R.PWR_ENERGY_LO) ++ wBytes (s.rd R.PWR_ENERGY_HI) ++ leBytes 2 (s.pwr.meas.mv.getD 0 0) ++ leBytes 2 0

/-- UPD_GET_STATUS after the common bytes (R515). -/
def State.updStatus (s : State) : List Byte :=
  let u := s.upd
  [byte u.phase, byte (u.owner.getD 0xFF)] ++ leBytes 2 s.prm.store.svn ++ leBytes 4 u.next ++ leBytes 4 u.size ++
    leBytes 4 u.version ++ (match u.run with
      | some x => slice x.data 12 4
      | none => wBytes Config.containerVersion)

/-- LINK_GET_STATUS after the common bytes (chapter 02): this command has just restarted the session's 300 s. -/
def State.linkStatus (s : State) (k : Nat) : List Byte :=
  leBytes 2 (s.rd R.MBX_SESSIONS).toNat ++ [byte (s.ses k).role, 0#8] ++
    leBytes 4 (300 - (s.clk.tb - (s.ses k).lastCmd) / 50000000)

/-- The function-specific bytes of GET_STATUS. -/
def State.fnStatus (s : State) (f k : Nat) : List Byte :=
  match f with
  | 0 => s.linkStatus k
  | 1 => s.sysStatus
  | 2 => s.merStatus
  | 3 => s.adrStatus
  | 4 => s.pswStatus
  | 5 => s.dinStatus
  | 6 => s.ainStatus
  | 7 => s.sntStatus
  | 8 => s.cstStatus
  | 9 => s.yplStatus
  | 10 => s.trnStatus
  | 11 => s.posStatusBytes
  | 12 => s.astStatus
  | 13 => s.camStatus
  | 14 => s.canStatus
  | 15 => s.ethStatus
  | 16 => s.safStatus
  | 17 => s.pairStatus s.pairLive
  | 18 => s.fltStatus
  | 19 => s.recStatus
  | 20 => s.pnlStatus
  | 21 => s.updStatus
  | 22 => s.prmStatus
  | 23 => s.vxaStatus
  | _ => []

/-- The 8 common bytes of GET_STATUS (chapter 02, R45). -/
def State.commonStatus (s : State) (f : Nat) : List Byte :=
  let x := s.fn f
  [byte x.state.code, byte (b2n x.owner.isSome), byte (x.owner.getD 0xFF), byte (b2n (s.fnBlocked f) + 2 * b2n x.pending.isSome)] ++
    leBytes 4 x.faults

/-- The answer of GET_INFO (chapter 02): no function of this module begins a behaviour above level 1. -/
def State.infoBytes (s : State) (f : Nat) : List Byte :=
  [byte f, Config.interfaceRevision f, 0#8, 0#8] ++ wBytes (subVersion s.upd.run f) ++ leBytes 4 1 ++
    wBytes (Config.capability f)

/-- Whether a datagram names a session that is open or being opened and is not its source's own (R56). -/
def State.foreign (s : State) (c : Cmd) : Bool :=
  match c.origin with
  | .ring _ => false
  | .udp _ _ => (s.sessionOf c).isNone && decide (c.session < 16) && !((s.ses c.session).place == .none && !(s.ses c.session).isOpen
      && (s.ses c.session).challenge.isNone)

/-- GET_INFO (chapter 02, R46). LINK_GET_INFO needs no open session; one that names a session of another source is answered
NO_SESSION (R56). -/
def execGetInfo (fn : Nat) (c : Cmd) (s : State) : Host.Outcome State Fault Refusal :=
  s.runIn .upd (fun s =>
    let body (_ : Nat) (s : State) : Reply × State :=
      if !c.payload.isEmpty then refuse stBAD_LENGTH s else okWith (s.infoBytes fn) s
    if fn = 0 && 2 ≤ s.dome && s.turn 0 c && !((s.sessionOf c).any (fun k => (s.ses k).isOpen)) then
      let r := if s.foreign c then respSlot c c.session 0 stNO_SESSION []
        else if c.payload.isEmpty then respSlot c c.session 0 stOK (s.infoBytes 0) else respSlot c c.session 0 stBAD_LENGTH []
      (s.takeInbox 0 c).sendResp c r
    else s.command fn 0x00 0 c body)

/-- GET_STATUS (R45): a function in UNUSED answers zeros after its common bytes. -/
def execGetStatus (fn : Nat) (c : Cmd) (s : State) : Host.Outcome State Fault Refusal :=
  s.runIn .upd (fun s => s.command fn 0x01 0 c (fun k s =>
    if !c.payload.isEmpty then refuse stBAD_LENGTH s
    else
      let p := s.fnStatus fn k
      okWith (s.commonStatus fn ++ (if (s.fn fn).state = .unused then p.map (fun _ => 0#8) else p)) s))

/-- Whether a function is in a state in which CONFIGURE and APPLY are valid (R45). -/
def State.cfgState (s : State) (f : Nat) : Bool :=
  match (s.fn f).state with
  | .stopped | .configured | .running => true
  | _ => false

/-- CONFIGURE (R45): the pending configuration is set; for MER it joins the pending slots (R211). -/
def execConfigure (fn : Nat) (c : Cmd) (s : State) : Host.Outcome State Fault Refusal :=
  s.runIn .upd (fun s => s.command fn 0x02 1 c (fun _ s =>
    match commonRefusal fn 0x02 with
    | some st => refuse st s
    | none =>
      if !s.cfgState fn then refuse stWRONG_STATE s
      else
        let st := s.cfgCheck fn c.payload
        if st != stOK then refuse st s
        else okWith [] (s.setFn fn (fun x => { x with pending := some (match fn, x.pending with
          | 2, some q => merMerge q c.payload
          | _, _ => c.payload) }))))

/-- A new IPv4 address closes the UDP sessions opened under the old one (R437). -/
def State.ipChanged (old s : State) : State :=
  if old.ethF R.ETH_IP_ADDR = s.ethF R.ETH_IP_ADDR then s
  else ((List.range 16).filter (fun k => (s.ses k).udp.isSome)).foldl (fun (t : State) k => t.closeSession k 0) s

/-- APPLY (R45, R517, R519): the pending configuration, else the one in force, becomes the applied one and is stored. -/
def execApply (fn : Nat) (c : Cmd) (s : State) : Host.Outcome State Fault Refusal :=
  s.run (fun s => s.command fn 0x03 1 c (fun k s =>
    match commonRefusal fn 0x03 with
    | some st => refuse st s
    | none =>
      let x := s.fn fn
      let p := match x.pending with
        | some q => cfgMerge fn (x.applied.getD []) q
        | none => x.applied.getD []
      if !c.payload.isEmpty then refuse stBAD_LENGTH s
      else if !s.cfgState fn then refuse stWRONG_STATE s
      else if s.prm.importing then refuse stBUSY s
      else if s.cfgBlocked fn p then refuse stSAFETY_BLOCKED s
      else if fn = 13 && !p.isEmpty && !camApplyOk p then refuse stNO_RESOURCE s
      else
        let t := s.fnApply fn (match x.pending with
          | some q => q
          | none => cfgWhole fn p)
        let t := t.setFn fn (fun x => { x with
          pending := none, applied := some p, state := if x.state = .stopped then .configured else x.state })
        let t := t.prmTxn (fun y => y.setConfig fn p)
        if fn = 15 then (.done, State.ipChanged s (t.answer k (256 * fn + 3) c stOK [])) else okWith [] t))

/-- Whether function `f` is one that an autostart starts (R114). -/
def State.starts (s : State) (f : Nat) : Bool :=
  nbit s.prm.store.autostart f && !serviceFn f && (s.fn f).owner.isNone &&
    ((s.fn f).state == .configured || (f == 23 && (s.fn f).state == .stopped))

/-- The functions marked autostart are started, each with an empty payload (R114). -/
def State.autostart (s : State) : State :=
  (List.range 24).foldl (fun (t : State) f => if t.starts f then t.fnStart f [] else t) s

/-- READY to RUN, or the same of the state that DEGRADED holds (R114). -/
def State.goRun (s : State) : State :=
  (({ s with pwr := { s.pwr with held := 3 } } : State).domeRefresh).autostart

/-- RUN to READY: every function in BASIC stopped, or the same of the state that DEGRADED holds (R114). -/
def State.goReady (s : State) : State :=
  let t := ((List.range 24).filter (fun f => !serviceFn f && s.isRunning f && !s.expert f)).foldl (fun (t : State) f => t.fnStop f) s
  ({ t with pwr := { t.pwr with held := 2 } } : State).domeRefresh

/-- The bodies of SYS_START and SYS_STOP (R114, R119). SYS_START starts no stage whose override line is removed (R47), and nothing starts
outside RUN (R108, DEDUCED, log entry 120). -/
def sysStartBody (c : Cmd) (_ : Nat) (s : State) : Reply × State :=
  if !c.payload.isEmpty then refuse stBAD_LENGTH s
  else if s.pwr.held = 3 || s.power != 3 then refuse stWRONG_STATE s
  else if (List.range 24).any (fun f => s.starts f && s.fnBlocked f) then refuse stSAFETY_BLOCKED s
  else okWith [] s.goRun
def sysStopBody (c : Cmd) (_ : Nat) (s : State) : Reply × State :=
  if !c.payload.isEmpty then refuse stBAD_LENGTH s
  else if s.pwr.held = 2 then refuse stWRONG_STATE s
  else okWith [] s.goReady

/-- SYS_START (R114). -/
def execSysStart (c : Cmd) (s : State) : Host.Outcome State Fault Refusal :=
  s.run (fun s => s.command 1 0x04 0 c (sysStartBody c))

/-- SYS_STOP (R114). -/
def execSysStop (c : Cmd) (s : State) : Host.Outcome State Fault Refusal :=
  s.run (fun s => s.command 1 0x05 1 c (sysStopBody c))

/-- START (R45, R47): CST takes its mode in byte 0 (R164). In STANDBY functions stay stopped: WRONG_STATE (R108, DEDUCED, log entry 120). -/
def execStart (fn : Nat) (c : Cmd) (s : State) : Host.Outcome State Fault Refusal :=
  s.run (fun s => s.command fn 0x04 0 c (fun k s =>
    match commonRefusal fn 0x04 with
    | some st => refuse st s
    | none =>
      if fn = 1 then sysStartBody c k s
      else if c.payload.length != (if fn = 8 then 1 else 0) then refuse stBAD_LENGTH s
      else if fn = 8 && 2 < u8 c.payload 0 then refuse stBAD_PARAM s
      else if !((s.fn fn).state == .configured || (fn == 23 && (s.fn fn).state == .stopped)) || s.power != 3 then refuse stWRONG_STATE s
      else if s.fnBlocked fn then refuse stSAFETY_BLOCKED s
      else okWith [] (s.fnStart fn c.payload)))

/-- STOP (R45). -/
def execStop (fn : Nat) (c : Cmd) (s : State) : Host.Outcome State Fault Refusal :=
  s.run (fun s => s.command fn 0x05 (if fn = 1 then 1 else 0) c (fun k s =>
    match commonRefusal fn 0x05 with
    | some st => refuse st s
    | none =>
      if fn = 1 then sysStopBody c k s
      else if !c.payload.isEmpty then refuse stBAD_LENGTH s
      else if (s.fn fn).state != .running then refuse stWRONG_STATE s
      else okWith [] (s.fnStop fn)))

/-- REINIT (R45, R65, R66): from a session other than the owner it returns the function to BASIC. It is answered at its end. -/
def execReinit (fn : Nat) (c : Cmd) (loop : Nat) (s : State) : Host.Outcome State Fault Refusal :=
  s.run (fun s => s.command fn 0x0E 1 c (fun k s =>
    match commonRefusal fn 0x0E with
    | some st => refuse st s
    | none =>
      let reply := some (k, 256 * fn + 0x0E, c)
      if !c.payload.isEmpty then refuse stBAD_LENGTH s
      else
        match (s.fn fn).owner with
        | some o => (.later, if o = k then s.doReinit fn loop reply else s.returnBasic fn loop reply)
        | none => (.later, s.doReinit fn loop reply)))

/-- The configuration last applied is restored after a REINIT (R66); Coelostat's main variables keep their values (R161). -/
def State.fnRestore (s : State) (f : Nat) (p : List Byte) : State :=
  let t := s.fnApply f (cfgWhole f p)
  if f = fCST then (List.range 32).foldl (fun (t : State) i => t.wr (R.CST_MF_U i) (s.rd (R.CST_MF_U i))) t else t

/-- REINIT_COMPLETE (R45, R66, R514): the configuration last applied is restored; `ok` tells whether the sub-image of a sequencer passed its
check. -/
def execReinitComplete (fn : Nat) (ok : Bool) (s : State) : Host.Outcome State Fault Refusal :=
  s.run (fun s =>
    let x := s.fn fn
    if x.state != .reinit then s
    else
      let s := match x.applied with
        | some p => s.fnRestore fn p
        | none => s
      let s := s.setFn fn (fun y => { y with
        reply := none,
        state := if fn = 0x13 || fn = 0x16 then .running else if x.applied.isSome then .configured else .stopped })
      let s := if subFns.contains fn && !ok then s.fnFault fn else s.domeRefresh
      match x.reply with
      | some r => s.answer r.1 r.2.1 r.2.2 stOK []
      | none => s)

/-- Ownership of function `f` passes to session `k` (R63, R64); the position service then computes nothing (R326). -/
def State.takeExpert (s : State) (f k : Nat) : State :=
  let s := s.setOwner f (some k)
  if f = 11 && s.isRunning f then s.posStop else s

/-- SET_EXPERT (R63, R64, R66). -/
def execSetExpert (fn : Nat) (c : Cmd) (loop : Nat) (s : State) : Host.Outcome State Fault Refusal :=
  s.run (fun s => s.command fn 0x0F 2 c (fun k s =>
    match commonRefusal fn 0x0F with
    | some st => refuse st s
    | none =>
      let x := s.fn fn
      if c.payload.length != 1 then refuse stBAD_LENGTH s
      else if 1 < u8 c.payload 0 then refuse stBAD_PARAM s
      else if u8 c.payload 0 = 0 then
        if x.owner.isNone then okWith [] s else (.later, s.returnBasic fn loop (some (k, 256 * fn + 0x0F, c)))
      else if (s.ses k).udp.isSome then refuse stNOT_PERMITTED s
      else if x.state == .reinit || x.state == .faulted then refuse stWRONG_STATE s
      else if x.owner = some k then okWith [] s
      else if x.transfer.isSome then refuse stEXPERT_OWNED s
      else if controlFns.contains fn then (.later, s.setFn fn (fun y => { y with transfer := some (s.clk.tickCount, c) }))
      else okWith [] (s.takeExpert fn k)))

/-- EXPERT_TRANSFER (R64): at the tick boundary after its acceptance; registers and outputs stay as they stand. -/
def execExpertTransfer (fn : Nat) (s : State) : Host.Outcome State Fault Refusal :=
  s.runIn (Foot.shared.and [.pos] [.eth, .pos]) (fun s =>
    match (s.fn fn).transfer with
    | some t =>
      if s.clk.tickCount ≤ t.1 then s
      else
        let s := s.setFn fn (fun y => { y with transfer := none })
        match s.sessionOf t.2 with
        | some k => (s.takeExpert fn k).answer k (256 * fn + 0x0F) t.2 stOK []
        | none => s
    | none => s)

/-- FUNCTION_FAULT (R114). -/
def execFunctionFault (fn : Nat) (s : State) : Host.Outcome State Fault Refusal := s.run (fun s => s.fnFault fn)

end Sys2Proof.Machine
end

