-- ==== Sys2Proof/Machine/PrmFile.lean ====
section
/-!
DEFINITION. The configuration file of the parameter store (R522, R523): export and import.
-/
namespace Sys2Proof.Machine

/-- A section of a configuration file (R522): function ID, kind (0 CONFIGURE payload, 1 stored item), length, data padded to 4. -/
def prmSection (f kind : Nat) (d : List Byte) : List Byte :=
  [byte f, byte kind] ++ leBytes 2 d.length ++ padTo ((d.length + 3) / 4 * 4) d

/-- A system item as a stored item of SYS: the fields of PRM_SET. -/
def prmSystem (item addr value : Nat) : List Byte :=
  prmSection 1 1 ([byte item, 0#8, 0#8, 0#8] ++ leBytes 4 addr ++ leBytes 4 value)

/-- The sections of a store: system items without SVN_MIN, configurations, stored items (R522). -/
def PrmStore.sections (x : PrmStore) : List (List Byte) :=
  [prmSystem 0 0 x.profile, prmSystem 1 0 x.autostart] ++ x.rwl.map (fun e => prmSystem 2 e.1 e.2.toNat) ++
    x.configs.map (fun e => prmSection e.1 0 e.2) ++
    x.items.map (fun e => prmSection (e.1 / 256) 1 (leBytes 4 (e.1 % 256) ++ e.2))

/-- The configuration file of a store (R522). -/
def PrmStore.file (x : PrmStore) (fff : Nat) : List Byte :=
  let ss := x.sections
  let body := ss.flatMap (fun b => b)
  let b := [0x4C#8, 0x4D#8, 0x43#8, 0x46#8] ++ leBytes 2 1 ++ leBytes 2 ss.length ++ leBytes 8 Config.serial.toNat ++
    leBytes 2 fff ++ leBytes 2 x.level ++ [byte x.profile, 0#8, 0#8, 0#8] ++ leBytes 4 (64 + body.length + 4) ++ leBytes 36 0 ++ body
  b ++ wBytes (crc32c b)

/-- A section as read: its offset, function ID, kind and data. -/
abbrev PrmSect := Nat × Nat × Nat × List Byte

/-- Reads `n` sections from offset `o` of a file; none where they do not fill it exactly up to its CRC. -/
def prmParse (p : List Byte) : Nat → Nat → Option (List PrmSect)
  | 0, o => if o + 4 = p.length then some [] else none
  | n + 1, o =>
    let len := u16 p (o + 2)
    let next := o + 4 + (len + 3) / 4 * 4
    if p.length < next + 4 then none
    else (prmParse p n next).map (fun l => (o, u8 p o, u8 p (o + 1), slice p (o + 4) len) :: l)

/-- The sections of a file whose header and CRC hold (R523, check 1). -/
def prmOpen (p : List Byte) : Option (List PrmSect) :=
  if p.length < 68 || 61440 < p.length || p.take 4 != [0x4C#8, 0x4D#8, 0x43#8, 0x46#8] || u16 p 4 != 1 || u32 p 24 != p.length ||
      w32 p (p.length - 4) != crc32c (p.take (p.length - 4)) then none
  else prmParse p (u16 p 6) 64

/-- Whether a section passes its function's checks (R523, check 3); a removed override line bars no import. -/
def State.prmSectOk (s : State) (e : PrmSect) : Bool :=
  let f := e.2.1
  let d := e.2.2.2
  if 24 ≤ f then false
  else if e.2.2.1 = 0 then
    commonRefusal f 2 == none && (d.isEmpty || (let st := s.cfgCheck f d; st == stOK || st == stSAFETY_BLOCKED))
  else if e.2.2.1 = 1 then
    if f = 1 then d.length == 12 && u8 d 0 ≤ 2 && (s.prm.store.setSystem (u8 d 0) (u32 d 4) (u32 d 8)).isSome
    else 4 ≤ d.length && u32 d 0 < 256
  else false

/-- The store with a section in it. -/
def PrmStore.sect (x : PrmStore) (e : PrmSect) : PrmStore :=
  let f := e.2.1
  let d := e.2.2.2
  if e.2.2.1 = 0 then x.setConfig f d
  else if f = 1 then (x.setSystem (u8 d 0) (u32 d 4) (u32 d 8)).getD x
  else x.setItem (256 * f + u32 d 0) (d.drop 4)

/-- PRM_CONFIG_EXPORT (R522, R526, R560): the store as it stands now. -/
def execPrmConfigExport (c : Cmd) (s : State) : Host.Outcome State Fault Refusal :=
  s.runIn .prm (fun s => s.command fPRM 0x12 1 c (fun k s =>
    if c.payload.length != 1 then refuse stBAD_LENGTH s
    else ringReply s (s.openRing k fPRM 1 0 (u8 c.payload 0) true
      (exportSlots [s.prm.store.file (Config.fffLevel)]))))

/-- PRM_CONFIG_IMPORT (R523): the checks in their order; a passing file is written as one transaction when the command ends. -/
def execPrmConfigImport (c : Cmd) (s : State) : Host.Outcome State Fault Refusal :=
  s.runIn .prm (fun s => s.command fPRM 0x13 2 c (fun _ s =>
    let p := c.payload
    let no : List Byte := [0xFF#8, 0#8, 0#8, 0#8]
    if s.prm.importing then refuse stBUSY s
    else if s.dome != 2 && s.dome != 4 then refuse stWRONG_STATE s
    else
      match prmOpen p with
      | none => (.now stBAD_PARAM no, s)
      | some l =>
        if Config.fffLevel < u16 p 18 then (.now stNOT_PERMITTED no, s)
        else
          match l.find? (fun e => !s.prmSectOk e) with
          | some e => (.now stBAD_PARAM ([byte e.2.1, 0#8] ++ leBytes 2 e.1), s)
          | none => ((s.setPrm (fun x => { x with importing := true })).prmShow).classC fPRM 0x1613 c stOK no))

/-- The end of PRM_CONFIG_IMPORT (R518, R523). -/
def State.prmImportDone (s : State) (p : List Byte) : State :=
  let l := (prmOpen p).getD []
  let s := s.prmTxn (fun x => { l.foldl PrmStore.sect x with level := u16 p 18 })
  (s.setPrm (fun x => { x with importing := false, pend := true })).prmShow

end Sys2Proof.Machine
end

