-- ==== Sys2Proof/Machine/Update.lean ====
section
/-!
DEFINITION. Firmware update (chapter 24): the transfer, its verification and activation.
-/
namespace Sys2Proof.Machine

/-- Function ID of the update function. -/
def fUPD : Nat := 0x15

/-- Changes the update. -/
def State.setUpd (s : State) (f : Upd → Upd) : State := { s with upd := f s.upd }

/-- Notification UPD_STATE (R515). -/
def State.updNote (s : State) : State :=
  s.notify fUPD 0x80 ([byte s.upd.phase, byte s.dome, 0#8, 0#8] ++ leBytes 4 s.upd.next)

/-- The update changes its phase. -/
def State.updPhase (s : State) (n : Nat) : State := (s.setUpd (fun u => { u with phase := n })).updNote

/-- The island is in STO or LOCK and every monitor in use at standstill (R504). -/
def State.updSafe (s : State) : Bool := (s.saf.st == 1 || s.saf.st == 4) && s.safStill

/-- Whether a UPD_BEGIN repeats size, version, key index, SVN and signature (R507). -/
def Upd.same (u : Upd) (p : List Byte) : Bool :=
  u.size == u32 p 0 && u.version == u32 p 4 && u.key == u8 p 8 && u.svn == u16 p 10 && u.sig == slice p 12 64

/-- A transfer begins at offset 0 (R504, R508); from READY, RUN and DEGRADED Dome enters UPDATE. -/
def State.updStart (s : State) (k : Nat) (p : List Byte) : State :=
  let fresh := s.dome != 5
  let s := s.setUpd (fun u => { u with
    phase := 1, owner := some k, next := 0, size := u32 p 0, version := u32 p 4, key := u8 p 8, svn := u16 p 10,
    sig := slice p 12 64, begun := u.begun && !fresh, prev := if fresh then s.dome else u.prev, keyGo := false })
  (if s.dome = 6 then s else s.domeSet 5).updNote

/-- UPD_BEGIN (R504, R507, R508, R512). -/
def execUpdBegin (c : Cmd) (s : State) : Host.Outcome State Fault Refusal :=
  s.runIn (Foot.upd.and [.adr, .psw, .saf] [.adb, .adr, .psw]) (fun s => s.command fUPD 0x10 2 c (fun k s =>
    let p := c.payload
    let other := s.upd.owner.any (fun o => o != k)
    let go : Reply × State := okWith (leBytes 4 0) (s.updStart k p)
    if p.length != 76 then refuse stBAD_LENGTH s
    else if u32 p 0 = 0 || 6291456 < u32 p 0 then refuse stBAD_PARAM s
    else if !s.updSafe then refuse stSAFETY_BLOCKED s
    else if u16 p 10 < s.prm.store.svn then refuse stNOT_PERMITTED s
    else if s.dome = 2 || s.dome = 3 || s.dome = 4 then go
    else if other then refuse stNOT_PERMITTED s
    else if s.dome = 6 then go
    else if s.dome != 5 || s.upd.phase = 2 then refuse stWRONG_STATE s
    else if s.upd.phase = 3 then go
    else if s.upd.owner = some k then refuse stWRONG_STATE s
    else if s.upd.same p then
      okWith (leBytes 4 s.upd.next) (s.setUpd (fun u => { u with owner := some k }))
    else go))

/-- UPD_BLOCK (R505, R506): `fails` tells how often its read-back fails, twice ending it FAULTED. -/
def execUpdBlock (c : Cmd) (fails : Nat) (s : State) : Host.Outcome State Fault Refusal :=
  s.runIn .upd (fun s => s.command fUPD 0x11 2 c (fun k s =>
    let p := c.payload
    let n := u16 p 4
    let u := s.upd
    let data := p.drop 12
    if p.length < 12 || p.length != 12 + n then refuse stBAD_LENGTH s
    else if u.owner != some k then refuse stNOT_PERMITTED s
    else if u.phase != 1 then refuse stWRONG_STATE s
    else if !s.updSafe then refuse stSAFETY_BLOCKED s
    else if u32 p 0 != u.next || n < 4 || 4096 < n || u.size < u.next + n || (n % 4 != 0 && u.next + n != u.size) then
      refuse stBAD_PARAM s
    else if w32 p 8 != crc32c data then refuse stCRC_ERROR s
    else
      let old := match u.stored with
        | some x => if u.next = 0 then [] else x.data
        | none => []
      let s := s.setUpd (fun u => { u with
        marker := true, begun := true, stored := some { data := old ++ data, key := u.key, sig := u.sig } })
      if fails < 2 then s.classC fUPD 0x1511 c stOK (leBytes 4 (u.next + n))
      else s.classC fUPD 0x1511 c stFAULTED []))

/-- The end of UPD_BLOCK (R506). -/
def State.updBlockDone (s : State) (r : Running) : State :=
  if r.status = stOK then s.setUpd (fun u => { u with next := leNat r.payload }) else s.updPhase 3

/-- SHA-256 of a container's island image. -/
def UpdImage.island (x : UpdImage) : List Byte :=
  match cntFind x.data 2 0 with
  | some e => slice e 16 32
  | none => []

/-- UPD_END (R508). -/
def execUpdEnd (c : Cmd) (s : State) : Host.Outcome State Fault Refusal :=
  s.runIn .upd (fun s => s.command fUPD 0x12 2 c (fun k s =>
    let u := s.upd
    if !c.payload.isEmpty then refuse stBAD_LENGTH s
    else if u.phase != 1 then refuse stWRONG_STATE s
    else if u.owner != some k then refuse stNOT_PERMITTED s
    else if u.next != u.size then refuse stWRONG_STATE s
    else
      match u.stored with
      | none => refuse stWRONG_STATE s
      | some x =>
        let st := x.verify (Config.fffLevel) s.prm.store.svn
        if st = stOK then
          s.classC fUPD 0x1512 c stOK (slice x.data 12 4 ++ slice x.data 16 2 ++
            [byte (u16 x.data 6), byte (b2n (x.island != s.saf.image))])
        else s.classC fUPD 0x1512 c st []))

/-- The end of UPD_END (R508): a valid container clears the marker and stages its island image. -/
def State.updEndDone (s : State) (r : Running) : State :=
  if r.status != stOK then s.updPhase 3
  else
    let s := s.setUpd (fun u => { u with marker := false })
    let s := match s.upd.stored with
      | some x =>
        if x.island = s.saf.image || s.saf.staged = some x.island then s
        else { s with saf := { s.saf with staged := some x.island } }
      | none => s
    s.updPhase 2

/-- UPD_ACTIVATE (R513): a DEVRST follows 10 ms after the response; the buses go idle. -/
def execUpdActivate (c : Cmd) (s : State) : Host.Outcome State Fault Refusal :=
  s.runIn (Foot.upd.and [.can, .pwr] [.can]) (fun s => s.command fUPD 0x13 2 c (fun _ s =>
    if !c.payload.isEmpty then refuse stBAD_LENGTH s
    else if s.upd.phase != 2 then refuse stWRONG_STATE s
    else okWith [] ({ s.canStop with pwr := { s.pwr with resetDue := some (s.clk.now + fabMs 10) } })))

/-- UPD_ABORT (R509): before the first block, Dome returns to its earlier state. -/
def execUpdAbort (c : Cmd) (s : State) : Host.Outcome State Fault Refusal :=
  s.runIn (Foot.upd.and [.adr, .psw, .saf] [.adb, .adr, .psw, .sys]) (fun s => s.command fUPD 0x14 2 c (fun k s =>
    let u := s.upd
    if !c.payload.isEmpty then refuse stBAD_LENGTH s
    else if u.phase != 1 || u.begun then refuse stWRONG_STATE s
    else if u.owner != some k then refuse stNOT_PERMITTED s
    else
      let s := s.setUpd (fun u => { u with phase := 0, owner := none })
      okWith [] ((if s.dome = 5 then (s.domeSet s.pwr.held).domeRefresh else s).updNote)))

/-- UPD_KEYOFF_WAIT_EXPIRY (R510): 300 s without an UPD command while a key-off waits for the end of UPDATE. -/
def execUpdKeyoffWaitExpiry (s : State) : Host.Outcome State Fault Refusal :=
  s.runIn .upd (fun s =>
    if s.dome = 5 && s.pwr.keyOff = .delay && s.tbPast s.upd.lastCmd (tbMs 300000) then
      s.setUpd (fun u => { u with keyGo := true })
    else s)

/-- A device-level reset (R511, R513): in phase VERIFIED it acts as an activation and raises SVN_MIN; the transfer ends. -/
def State.updReset (s : State) : State :=
  let s := match s.upd.phase, s.upd.stored with
    | 2, some x => s.setPrm (fun p => { p with store := { p.store with svn := max p.store.svn (u16 x.data 16) } })
    | _, _ => s
  s.setUpd (fun u => { ({} : Upd) with stored := u.stored, marker := u.marker, run := u.run })

end Sys2Proof.Machine
end

