-- ==== Sys2Proof/Machine/Completion.lean ====
section
/-!
DEFINITION. The end of class C commands (R49, R51).
-/
namespace Sys2Proof.Machine

/-- The operation of a class C command has ended: the state with its outcome, and the status and payload of the answer; none while
it goes on. -/
def State.classCEnd (s : State) (r : Running) : Option (State × Nat × List Byte) :=
  if r.opcode = 0x0610 then s.tareDone.map (fun x => (x.2.strobe 5, stOK, x.1))
  else if r.opcode = 0x1413 then
    if s.pnl.run.isNone && s.pnl.wait.isNone then some (s, r.status, r.payload) else none
  else if r.opcode = 0x1312 then
    match s.almanac.flush with
    | some f =>
      if f.1.any (fun q => s.almanac.staging.any (fun x => x.seq == q)) then none
      else some (s.setRec (fun a => { a with flush := none }), stOK, leBytes 4 f.2)
    | none => some (s, stOK, leBytes 4 0)
  else if r.opcode = 0x1511 then some (s.updBlockDone r, r.status, r.payload)
  else if r.opcode = 0x1512 then some (s.updEndDone r, r.status, r.payload)
  else if r.opcode = 0x1611 then some (s.prmCalDone r.cmd.payload, r.status, r.payload)
  else if r.opcode = 0x1613 then some (s.prmImportDone r.cmd.payload, r.status, r.payload)
  else if r.opcode = 0x1013 then some (s.setSaf (fun x => { x with writing := none }), r.status, r.payload)
  else some (s, r.status, r.payload)

/-- An operation that the class limit cuts off is given up. -/
def State.classCAbandon (s : State) (r : Running) : State :=
  if r.opcode = 0x0610 then s.setIn (fun i => { i with tare := none })
  else if r.opcode = 0x1312 then s.setRec (fun a => { a with flush := none })
  else s

/-- Ends a running command with its answer. -/
def State.classCAnswer (s : State) (r : Running) (st : Nat) (p : List Byte) : State :=
  let s := { s with mbx := { s.mbx with running := s.mbx.running.filter (fun x => x.fn != r.fn) } }
  match s.sessionOf r.cmd with
  | some k => s.answer k r.opcode r.cmd st p
  | none => s

/-- CLASS_C_COMMAND_DONE (R49, R51): the operation of function `fn` has ended, and its answer is published; an operation that has not
ended after 5 s is answered INTERNAL_TIMEOUT. -/
def execClassCCommandDone (fn : Nat) (s : State) : Host.Outcome State Fault Refusal :=
  s.runIn (Foot.shared.and [.inp, .prm, .saf, .shadow, .upd] [.ain, .din, .prm, .snt]) (fun s =>
    match s.mbx.running.find? (fun r => r.fn == fn) with
    | none => s
    | some r =>
      match s.classCEnd r with
      | some x => x.1.classCAnswer r x.2.1 x.2.2
      | none => if s.tbPast r.since (tbMs 5000) then (s.classCAbandon r).classCAnswer r stINTERNAL_TIMEOUT [] else s)

end Sys2Proof.Machine
end

