-- ==== Sys2Proof/Machine/Mailbox.lean ====
section
/-!
DEFINITION. The mailbox (chapter 02): claims and ring placement, doorbells and datagrams, consumer indices, interrupts, notifications,
and the LINK commands that open, keep and close sessions.
-/
namespace Sys2Proof.Machine

/-! ### Claims and placement -/

/-- MBX_CLAIM_READ (R39): the lowest free index, reserved for 1 s; 0xFF when none is free. -/
def execMbxClaimRead (ini : Initiator) (s : State) : Host.Outcome State Fault Refusal :=
  s.runIn .shared (fun s => s.fetched ini .fab s.claimValue (fun t =>
    match s.freeIndex with
    | some k => t.setSes k (fun _ => { place := .claimed, claimAt := s.clk.tb })
    | none => t))

/-- An index is freed: its rings lose EN and its reservation and challenge end (R40 step 4). -/
def State.freeSession (s : State) (k : Nat) : State := (s.dropRings k).setSes k (fun _ => {})

/-- CLAIM_RESERVATION_LAPSE (R39, R40): no LINK_OPEN arrived within 1 s. -/
def execClaimReservationLapse (k : Nat) (s : State) : Host.Outcome State Fault Refusal :=
  s.runIn .shared (fun s =>
    let x := s.ses k
    if (x.place == .claimed || x.place == .bootstrap) && !x.sawOpen && s.tbPast x.claimAt (tbMs 1000) then s.freeSession k
    else s)

/-- Ring `n` of session `k` stands empty in shared SRAM with 2^log2 slots, both indices 0 (R40). -/
def State.placeRing (s : State) (k n log2 : Nat) : State :=
  let s := { s with mbx := { s.mbx with slots := s.mbx.slots.filter (fun x => x.ring != n),
                                        hostSlots := s.mbx.hostSlots.filter (fun x => x.ring != n) } }
  let s := (s.wr (R.MBX_Q_PROD n) 0#32).wr (R.MBX_Q_CONS n) 0#32
  let s := s.wr (R.MBX_Q_BASE n) (word (4096 * (Config.ringPlace n log2).toNat))
  s.wr (R.MBX_Q_CFG n) (word (log2 + 256 * k + (if 16 ≤ n then 4096 else 0) + 32768))

/-- BOOTSTRAP_RING_PLACEMENT (R40 step 1): the command and response rings of a claimed index, 16 slots each. -/
def execBootstrapRingPlacement (k : Nat) (s : State) : Host.Outcome State Fault Refusal :=
  s.runIn .shared (fun s =>
    if (s.ses k).place == .claimed && 2 ≤ s.dome then
      ((s.placeRing k k 4).placeRing k (16 + k) 4).setSes k (fun x => { x with place := .bootstrap })
    else s)

/-! ### What room in a ring lets out -/

/-- Responses that waited for room in Q(16+k) (R36). -/
def State.flushResp (s : State) (k : Nat) : State :=
  (s.ses k).respWait.foldl (fun (t : State) x =>
    if (t.ses k).respWait.head? = some x && t.respRoom k x then
      (t.publish (16 + k) x).setSes k (fun y => { y with respWait := y.respWait.drop 1 })
    else t) s

/-- Writes the pending notification of a class once its 10 ms have passed and there is room (R53). -/
def State.notifPending (s : State) (k cls : Nat) : State :=
  let x := s.ses k
  let held := match x.holds.lookup cls with
    | some t => decide (s.clk.tb < t + tbMs 10)
    | none => false
  match x.pend.find? (fun p => p.cls == cls) with
  | some p =>
    if held || !s.notifRoom k then s
    else
      (s.sendSlot k (32 + k) (notifSlot k cls p.count p.content)).setSes k (fun y => { y with
        pend := y.pend.filter (fun q => q.cls != cls), holds := (cls, s.clk.tb) :: y.holds.filter (fun h => h.1 != cls) })
  | none => s

/-- PROGRESS notifications that waited take free slots ahead of pending classes (R54). -/
def State.flushNotif (s : State) (k : Nat) : State :=
  let t := (s.ses k).progWait.foldl (fun (t : State) x =>
    if t.notifRoom k then (t.sendSlot k (32 + k) x).setSes k (fun y => { y with progWait := y.progWait.drop 1 }) else t) s
  ((t.ses k).pend.map (fun p => p.cls)).foldl (fun (t : State) cls => t.notifPending k cls) t

/-- Records that waited for room in a data ring, and the end of a finished transfer (R57, R560). -/
def State.dataMoved (s : State) (n : Nat) : State :=
  match s.ring? n with
  | none => s
  | some r =>
    let s := s.pump n 1025
    let s := (if r.fn = fREC then s.recFill n 1025 else s).transferNote n
    match s.ring? n with
    | some r => if r.transfer && r.ended && r.waiting.isEmpty && s.ringUsed n = 0 then s.closeRing n else s
    | none => s

/-- The consumer index of module-produced ring `n` advances to `v` (R35, R36); extended payloads that it passes end (R44). -/
def State.consAdvance (s : State) (n : Nat) (v : Word) : State :=
  let left := (s.rd (R.MBX_Q_PROD n) - v).toNat
  let stays (i : Nat) : Bool := decide ((word i - v).toNat < left)
  let s := { s with mbx := { s.mbx with
    slots := s.mbx.slots.filter (fun x => x.ring != n || stays x.index)
    windows := s.mbx.windows.filter (fun w => 16 + w.session != n || stays w.index) } }
  let s := s.wr (R.MBX_Q_CONS n) v
  if n < 32 then s.flushResp (n - 16)
  else if n < 48 then s.flushNotif (n - 32)
  else s.dataMoved n

/-- Whether `v` lies at or ahead of ring `n`'s consumer index and not ahead of its producer index (R36). -/
def State.consValid (s : State) (n : Nat) (v : Word) : Bool :=
  decide ((v - s.rd (R.MBX_Q_CONS n)).toNat ≤ s.ringUsed n)

/-- A host write of `MBX_Q_CONS` (R36): an index out of its range is counted; one in range frees slots, but does nothing on a
host-produced ring or one without EN (log entry 22). -/
def State.consWrite (s : State) (n : Nat) (v : Word) : State :=
  let cfg := s.rd (R.MBX_Q_CFG n)
  if !s.consValid n v then s.inc R.MBX_IDX_ERR
  else if !bit cfg 15 || !bit cfg 12 then s
  else s.consAdvance n v

/-- MBX_Q_CONS_WRITE (R36). -/
def execMbxQConsWrite (n : Nat) (v : Word) (s : State) : Host.Outcome State Fault Refusal :=
  s.runIn .shared (fun s => s.consWrite n v)

/-- SESSION_RING_PLACEMENT (R40 step 3): once the host has passed the LINK_AUTH response, the session's three rings and its window. -/
def execSessionRingPlacement (k : Nat) (s : State) : Host.Outcome State Fault Refusal :=
  s.runIn .shared (fun s =>
    let x := s.ses k
    let past := (s.rd (R.MBX_Q_CONS (16 + k)) - word x.authIndex).toNat
    if x.place == .awaitPlace && past < 2147483648 then
      let s := [k, 16 + k, 32 + k].foldl (fun (t : State) n => t.placeRing k n x.slotsLog2) (s.dropRings k)
      let s := (s.wr R.MBX_WIN_BASE (word (4096 * Config.winPlace.toNat))).setSes k (fun y => { y with place := .placed })
      (s.flushResp k).flushNotif k
    else s)

/-! ### Commands arrive -/

/-- Number of function-specific commands of a function, numbered from 0x10 (chapters 02 to 25). -/
def ownCommands (f : Nat) : Nat :=
  [7, 4, 4, 9, 4, 1, 2, 1, 5, 9, 5, 7, 5, 7, 6, 5, 4, 2, 5, 7, 4, 5, 5, 0].getD f 0

/-- Whether a function defines a command byte (R46). -/
def cmdDefined (f b : Nat) : Bool :=
  f < 24 && (b ≤ 5 || b == 0x0E || b == 0x0F || (0x10 ≤ b && b < 0x10 + ownCommands f))

/-- Where a command stands among those whose doorbells share a CLK_FAB edge (R50): its session index, a datagram after the rings. -/
def originRank : Origin → Nat
  | .ring q => q
  | .udp _ _ => 256

/-- A command enters Dome's inbox (R50): behind those that came before it and, of the same CLK_FAB edge, those of lower or its own session. -/
def State.takeIn (s : State) (op : Nat) (c : Cmd) : State :=
  let e : InboxCmd := { opcode := op, cmd := c, edge := s.clk.now, at_ := s.clk.tb }
  let ahead (d : InboxCmd) : Bool := d.edge != e.edge || decide (originRank d.cmd.origin ≤ originRank c.origin)
  { s with mbx := { s.mbx with inbox := s.mbx.inbox.takeWhile ahead ++ e :: s.mbx.inbox.dropWhile ahead } }

/-- The bars that a command passes before it is handed on, from its session to its opcode (R46, R52, R59, R512): the state with
its answer, or none where it is handed on. -/
def State.entryBar (s : State) (op : Nat) (c : Cmd) : Option State :=
  let opener := op == 0x10 || op == 0x11 || op == 0x00
  match s.sessionOf c with
  | none => if opener then none else some (s.sendResp c (respSlot c c.session op stNO_SESSION []))
  | some k =>
    match (s.ses k).kept.find? (fun e => e.seq == c.seq) with
    | some e => some (s.repeated k op c e)
    | none =>
      if opener then none
      else if !(s.ses k).isOpen then some (s.sendResp c (respSlot c k op stNO_SESSION []))
      else if cmdDefined (op / 256) (op % 256) then none
      else
        let s := s.setSes k (fun y => { y with lastCmd := s.clk.tb })
        some (s.answer k op c (if s.dome = 6 then stWRONG_STATE else stBAD_OPCODE) [])

/-- The header and inline bytes of a host slot that its CRC covers (R41). -/
def slotCovered (x : HostSlot) : List Byte :=
  wBytes x.w0 ++ wBytes x.w1 ++ wBytes x.w2 ++ leBytes 4 0 ++ (padTo 48 x.inline).take (fld x.w1 31 16)

/-- The check of an EXT descriptor (R43), the payload CRC last. -/
def State.extCheck (s : State) (k : Nat) (x : HostSlot) : Nat :=
  let d := padTo 48 x.inline
  if fld x.w1 31 16 != 16 || 65536 < u32 d 4 then stBAD_LENGTH
  else if u32 d 0 % 64 != 0 then stBAD_PARAM
  else if (s.ses k).place != .placed || 65536 < u32 d 0 + u32 d 4 then stNOT_PERMITTED
  else if crc32c (padTo (u32 d 4) x.window) != w32 d 8 then stCRC_ERROR
  else stOK

/-- Dome reads one slot of command ring Q(k): CRC, session byte, session, repeat, opcode, descriptor and length, in this order
(R42, R43, R46, R52, R59). -/
def State.readSlot (s : State) (k : Nat) (x : HostSlot) : State :=
  let op := fld x.w0 15 0
  let len := fld x.w1 31 16
  let c : Cmd := { origin := .ring k, session := k, seq := fld x.w1 15 0, crc := x.w3, payload := [] }
  let reply (s : State) (st : Nat) := s.sendResp c (respSlot c k op st [])
  if crc32c (slotCovered x) != x.w3 then reply (s.inc R.MBX_CRC_ERR) stCRC_ERROR
  else if fld x.w0 31 24 != k then reply s stBAD_PARAM
  else
    let s := if op = 0x10 then s.setSes k (fun y => { y with sawOpen := true }) else s
    match s.entryBar op c with
    | some t => t
    | none =>
      let ext := bit x.w0 16
      let st := if ext then s.extCheck k x else if 48 < len then stBAD_LENGTH else stOK
      if st = stCRC_ERROR then reply (s.inc R.MBX_CRC_ERR) stCRC_ERROR
      else if st != stOK then s.answer k op c st []
      else
        let data := if ext then padTo (u32 (padTo 48 x.inline) 4) x.window else (padTo 48 x.inline).take len
        s.takeIn op { c with payload := data }

/-- The host writes slots into command ring `n` from free-running index `i` on, each at its place (R35). -/
def State.hostPut (s : State) (n : Nat) : Nat → List HostSlot → State
  | _, [] => s
  | i, x :: xs =>
    let p := i % s.ringSize n
    let old := s.mbx.hostSlots.filter (fun y => !(y.ring == n && y.place == p))
    State.hostPut { s with mbx := { s.mbx with hostSlots := { ring := n, place := p, slot := x } :: old } } n (i + 1) xs

/-- The slot that stands at free-running index `i` of command ring `n` (R35): the one last written at its place, zeros where the host has
written none since the ring was placed (log entry 20). -/
def State.hostAt (s : State) (n i : Nat) : HostSlot :=
  match s.mbx.hostSlots.find? (fun y => y.ring == n && y.place == i % s.ringSize n) with
  | some y => y.slot
  | none => { w0 := 0#32, w1 := 0#32, w2 := 0#32, w3 := 0#32, inline := [], window := [] }

/-- A host write of `MBX_Q_PROD` (R36, R48): an index out of its range is counted; one in range hands the new slots of an enabled command
ring to Dome, and does nothing on a module-produced ring or one without EN (log entry 22). -/
def State.prodWrite (s : State) (n : Nat) (v : Word) (slots : List HostSlot) : State :=
  let cfg := s.rd (R.MBX_Q_CFG n)
  let i := (s.rd (R.MBX_Q_PROD n)).toNat
  let more := (v - s.rd (R.MBX_Q_PROD n)).toNat
  if s.ringSize n < more + s.ringUsed n then s.inc R.MBX_IDX_ERR
  else if !bit cfg 15 || bit cfg 12 then s
  else
    let s := s.hostPut n i (slots.take more)
    let s := (s.wr (R.MBX_Q_PROD n) v).wr (R.MBX_Q_CONS n) v
    ((List.range more).map (fun d => s.hostAt n (i + d))).foldl (fun (t : State) x => t.readSlot n x) s

/-- MBX_Q_PROD_WRITE (R36). -/
def execMbxQProdWrite (n : Nat) (v : Word) (slots : List HostSlot) (s : State) : Host.Outcome State Fault Refusal :=
  s.runIn .shared (fun s => s.prodWrite n v slots)

/-- A KMP datagram at the module (R55): length, CRC, EXT, then as a slot. -/
def State.kmpRx (s : State) (ip port : Nat) (p : List Byte) : State :=
  if s.dome < 2 then s
  else if p.length < 16 then s.inc R.ETH_KMP_DROP
  else
    let op := u16 p 0
    let c : Cmd := { origin := .udp ip port, session := u8 p 3, seq := u16 p 4, crc := w32 p 12, payload := p.drop 16 }
    let reply (s : State) (st : Nat) := s.sendResp c (respSlot c c.session op st [])
    if p.length != 16 + u16 p 6 then reply s stBAD_LENGTH
    else if crc32c (p.take 12 ++ leBytes 4 0 ++ p.drop 16) != c.crc then reply (s.inc R.MBX_CRC_ERR) stCRC_ERROR
    else if nbit (u8 p 2) 0 then reply s stBAD_PARAM
    else
      match s.entryBar op c with
      | some t => t
      | none => s.takeIn op c

/-- KMP_DATAGRAM_RX (R55, R56). -/
def execKmpDatagramRx (ip port : Nat) (p : List Byte) (s : State) : Host.Outcome State Fault Refusal :=
  s.runIn (Foot.shared.and [] [.eth]) (fun s => s.kmpRx ip port p)

/-- IPV4_REASSEMBLY_TIMEOUT (R55): fragments that do not complete within 2 s are given up. -/
def execIpv4ReassemblyTimeout (ip ident : Nat) (s : State) : Host.Outcome State Fault Refusal :=
  s.runIn .shared (fun s => { s with mbx := { s.mbx with frags := s.mbx.frags.filter (fun f =>
    !(f.ip == ip && f.ident == ident && s.tbPast f.at_ (tbMs 2000))) } })

/-! ### Interrupts, notifications, data over UDP -/

/-- IRQ_HOLDOFF_EXPIRY (R37): pending bits set during the hold-off are delivered together, which starts the next hold-off. A raise that was
held is made even where the host has cleared every pending bit meanwhile (DESIGN CHOICE, log entry 34). -/
def execIrqHoldoffExpiry (s : State) : Host.Outcome State Fault Refusal :=
  s.runIn .shared (fun s =>
    match s.mbx.irqSince with
    | none => s
    | some t =>
      if !s.tbPast t (50 * s.fd R.MBX_IRQ_HOLDOFF 15 0) then s
      else
        let u := { s with mbx := { s.mbx with irqSince := none, irqHeld := false } }
        if s.mbx.irqHeld then u.raiseIrq else u)

/-- NOTIF_HOLDOFF_EXPIRY (R53). -/
def execNotifHoldoffExpiry (k cls : Nat) (s : State) : Host.Outcome State Fault Refusal :=
  s.runIn .shared (fun s => s.notifPending k cls)

/-- PROGRESS_NOTIFY (R49, R54): to the command's sender, ahead of pending classes and never merged. -/
def execProgressNotify (fn permille : Nat) (s : State) : Host.Outcome State Fault Refusal :=
  s.runIn .shared (fun s =>
    match s.mbx.running.find? (fun r => r.fn == fn) with
    | none => s
    | some r =>
      let ms := (s.clk.tb - r.since) / 50000
      let s := { s with mbx := { s.mbx with running := s.mbx.running.map (fun (x : Running) =>
        if x.fn = fn then { x with progress := s.clk.tb } else x) } }
      match s.sessionOf r.cmd with
      | none => s
      | some k =>
        let x : Slot := { opcode := r.opcode, flags := 12, session := k, seq := r.cmd.seq, status := 0,
                          payload := leBytes 4 1 ++ leBytes 2 permille ++ leBytes 2 0 ++ leBytes 4 ms }
        if (s.ses k).progWait.isEmpty && s.notifRoom k then s.sendSlot k (32 + k) x
        else s.setSes k (fun y => { y with progWait := y.progWait ++ [x] }))

/-- Datagrams of 1 to 16 records from a run of slots (R57). -/
def dataGrams (ip port n : Nat) : Nat → List RingSlot → List OutMsg
  | 0, _ => []
  | fuel + 1, l =>
    match l with
    | [] => []
    | x :: _ => OutMsg.datagram ip port (dataGram n x.index ((l.take 16).map (fun y => y.bytes))) ::
        dataGrams ip port n fuel (l.drop 16)

/-- The records of data ring `n` that have gone 200 ms without an acknowledgement since their latest sending, up to the first that has
not (R57). -/
def State.unacked (s : State) (n : Nat) : List RingSlot :=
  (s.mbx.slots.filter (fun x => x.ring == n)).takeWhile (fun x => s.tbPast x.sentAt (tbMs 200))

/-- UDP_DATA_RESEND (R57): records not acknowledged for 200 ms are sent again. -/
def execUdpDataResend (n : Nat) (s : State) : Host.Outcome State Fault Refusal :=
  s.runIn .shared (fun s =>
    match s.ring? n with
    | none => s
    | some r =>
      match (s.ses r.session).udp with
      | none => s
      | some (ip, port) =>
        let l := s.unacked n
        { s with
          mbx := { s.mbx with slots := s.mbx.slots.map (fun x => if l.contains x then { x with sentAt := s.clk.tb } else x) }
          out := s.out ++ dataGrams ip port n l.length l })

/-! ### Opening a session -/

/-- The source of an open (R60). -/
def openSource : Origin → Nat
  | .ring _ => 0
  | .udp ip _ => ip + 1

/-- Whether a source is blocked (R60). -/
def State.srcBlocked (s : State) (src : Nat) : Bool :=
  s.mbx.sources.any (fun a => a.src == src && (match a.blocked with
    | some t => !s.tbPast t (tbMs 60000)
    | none => false))

/-- Replaces the record of a source. -/
def State.setSource (s : State) (a : AuthSource) : State :=
  { s with mbx := { s.mbx with sources := a :: s.mbx.sources.filter (fun b => b.src != a.src) } }

/-- A failed open (R59, R60): counted, an event; the fifth outside a block starts one of 60 s. -/
def State.openFailed (s : State) (src : Nat) : State :=
  let t := (s.inc R.MBX_AUTH_FAIL).post 0 .authFail
  if s.srcBlocked src then t
  else
    let n := (match s.mbx.sources.find? (fun a => a.src == src) with
      | some a => a.fails
      | none => 0) + 1
    if n < 5 then t.setSource { src := src, fails := n, blocked := none }
    else t.setSource { src := src, fails := 0, blocked := some s.clk.tb }

/-- AUTH_BLOCK_EXPIRY (R60). -/
def execAuthBlockExpiry (src : Nat) (s : State) : Host.Outcome State Fault Refusal :=
  s.runIn .shared (fun s =>
    if s.srcBlocked src then s
    else { s with mbx := { s.mbx with sources := s.mbx.sources.map (fun (a : AuthSource) =>
      if a.src = src then { a with blocked := none } else a) } })

/-- LINK_OPEN_KEEP_EXPIRY (R56). -/
def execLinkOpenKeepExpiry (ip port : Nat) (s : State) : Host.Outcome State Fault Refusal :=
  s.runIn .shared (fun s => { s with mbx := { s.mbx with openKept := s.mbx.openKept.filter (fun e =>
    !(e.ip == ip && e.port == port && s.tbPast e.at_ (tbMs 10000))) } })

/-- What a LINK_OPEN that starts an open answers: the n-th challenge and the salt (R58). -/
def openPayload (n : Nat) : List Byte := leBytes 32 (Config.challenge n).toNat ++ leBytes 16 Config.salt.toNat

/-- Session `k` holds a new challenge for the key and role asked (R58, R59). -/
def State.challenged (s : State) (k : Nat) (p : List Byte) : State :=
  let n := s.mbx.challenges
  let s := { s with mbx := { s.mbx with challenges := n + 1 } }
  s.setSes k (fun x => { x with
    slotsLog2 := u8 p 2, lastCmd := s.clk.tb,
    challenge := some { value := Config.challenge n, at_ := s.clk.tb, key := u8 p 0, role := u8 p 1 } })

/-- LINK_OPEN on command ring Q(q) (R58 to R61). -/
def State.openOnRing (s : State) (q : Nat) (c : Cmd) : State :=
  let p := c.payload
  let s := s.setSes q (fun x => { x with sawOpen := true, lastCmd := s.clk.tb })
  let l := u8 p 2
  if (s.ses q).isOpen then s.answer q 0x10 c stWRONG_STATE []
  else if p.length != 8 then s.answer q 0x10 c stBAD_LENGTH []
  else if s.srcBlocked 0 then ((s.answer q 0x10 c stAUTH_FAIL []).openFailed 0).freeSession q
  else if 3 < u8 p 1 || l < 4 || 10 < l then s.answer q 0x10 c stBAD_PARAM []
  else if !(s.dropRings q).sramFits [l, l, l] then s.answer q 0x10 c stNO_RESOURCE []
  else (s.challenged q p).answer q 0x10 c stOK (openPayload s.mbx.challenges)

/-- Number of sessions open or being opened. -/
def State.sessionsUsed (s : State) : Nat :=
  ((List.range 16).filter (fun k => (s.ses k).isOpen || (s.ses k).challenge.isSome)).length

/-- LINK_OPEN from a UDP source (R56, R58 to R61, R512): the state and the response. -/
def State.openOnUdp (s : State) (ip port : Nat) (c : Cmd) : State × Slot :=
  let p := c.payload
  let no (s : State) (st : Nat) : State × Slot := (s, respSlot c c.session 0x10 st [])
  if c.session != 0xFF then no s stBAD_PARAM
  else if p.length != 8 then no s stBAD_LENGTH
  else if s.srcBlocked (ip + 1) then no (s.openFailed (ip + 1)) stAUTH_FAIL
  else if 3 < u8 p 1 then no s stBAD_PARAM
  else if s.dome = 6 && 2 ≤ s.sessionsUsed then no s stNO_RESOURCE
  else
    match s.freeIndex with
    | none => no s stNO_RESOURCE
    | some k =>
      let t := s.setSes k (fun _ => { udp := some (ip, port), sawOpen := true })
      (t.challenged k p, respSlot c k 0x10 stOK (openPayload s.mbx.challenges))

/-- The latest LINK_OPEN of a source, if kept within 10 s and repeated by `c` (R56). -/
def State.keptOpen (s : State) (ip port : Nat) (c : Cmd) : Option OpenKept :=
  s.mbx.openKept.find? (fun e =>
    e.ip == ip && e.port == port && e.seq == c.seq && e.crc == c.crc && !s.tbPast e.at_ (tbMs 10000))

/-- LINK_OPEN (R56, R58 to R61). Where a UDP LINK_OPEN names the open session of its own source, R56 gives BAD_PARAM and R59
WRONG_STATE; the model answers WRONG_STATE (DEDUCED, log entry 24). -/
def execLinkOpen (c : Cmd) (s : State) : Host.Outcome State Fault Refusal :=
  s.runIn .shared (fun s =>
    if 2 ≤ s.dome && !s.turn 0x10 c then s
    else
    match c.origin with
    | .ring q =>
      if s.dome < 2 || 16 ≤ q || !s.bt (R.MBX_Q_CFG q) 15 then s
      else
        let s := s.takeInbox 0x10 c
        match (s.ses q).kept.find? (fun e => e.seq == c.seq) with
        | some e => s.repeated q 0x10 c e
        | none => s.openOnRing q c
    | .udp ip port =>
      let s := s.takeInbox 0x10 c
      if s.dome < 2 then s
      else
        match s.sessionOf c with
        | some k =>
          match (s.ses k).kept.find? (fun e => e.seq == c.seq) with
          | some e => s.repeated k 0x10 c e
          | none => s.answer k 0x10 c (if (s.ses k).isOpen then stWRONG_STATE else stBAD_PARAM) []
        | none =>
          match s.keptOpen ip port c with
          | some e => (s.inc R.MBX_REPEAT).sendResp c { e.resp with flags := e.resp.flags ||| 16 }
          | none =>
            let r := s.openOnUdp ip port c
            let t := r.1.sendResp c r.2
            let e : OpenKept := { ip := ip, port := port, seq := c.seq, crc := c.crc, resp := r.2, at_ := s.clk.tb }
            { t with mbx := { t.mbx with openKept := e :: t.mbx.openKept.filter (fun e => !(e.ip == ip && e.port == port)) } })

/-- Whether an HMAC that arrived at TB `at_` opens the challenge (R59): the key stands, its highest role suffices, and 10 s have not
passed. -/
def State.authOk (s : State) (h : Challenge) (at_ : Nat) (mac : List Byte) : Bool :=
  match s.prm.store.keys.getD h.key none with
  | some (role, key) =>
    h.role ≤ role && at_ ≤ h.at_ + tbMs 10000 &&
      mac == hmac256 (leBytes 32 key.toNat) (leBytes 32 h.value.toNat)
  | none => false

/-- The session opens with the role asked (R40 step 3, R60). -/
def State.opened (s : State) (k : Nat) (h : Challenge) (c : Cmd) : State :=
  let src := (openSource c.origin)
  let s := if s.srcBlocked src then s else s.setSource { src := src, fails := 0, blocked := none }
  let s := (s.setSes k (fun x => { x with isOpen := true, role := h.role, key := h.key, challenge := none })).wb
    R.MBX_SESSIONS k true
  let s := s.answer k 0x11 c stOK ([byte h.role, byte k] ++ leBytes 2 300)
  if (s.ses k).udp.isSome then s
  else s.setSes k (fun x => { x with
    place := .awaitPlace, authIndex := ((s.rd (R.MBX_Q_PROD (16 + k))).toNat + x.respWait.length) % 4294967296 })

/-- LINK_AUTH (R59). -/
def execLinkAuth (c : Cmd) (s : State) : Host.Outcome State Fault Refusal :=
  s.runIn .shared (fun s =>
    if s.dome < 2 then
      match c.origin with
      | .ring _ => s
      | .udp _ _ => s.takeInbox 0x11 c
    else if !s.turn 0x11 c then s
    else
      let at_ := s.arrivedAt 0x11 c
      let s := s.takeInbox 0x11 c
      match s.sessionOf c with
      | none => s.sendResp c (respSlot c c.session 0x11 stNO_SESSION [])
      | some k =>
        match (s.ses k).kept.find? (fun e => e.seq == c.seq) with
        | some e => s.repeated k 0x11 c e
        | none =>
          let s := s.setSes k (fun x => { x with lastCmd := s.clk.tb })
          if (s.ses k).isOpen then s.answer k 0x11 c stWRONG_STATE []
          else if c.payload.length != 32 then s.answer k 0x11 c stBAD_LENGTH []
          else
            match (s.ses k).challenge with
            | none => s.answer k 0x11 c stNO_SESSION []
            | some h =>
              if s.authOk h at_ c.payload then s.opened k h c
              else ((s.answer k 0x11 c stAUTH_FAIL []).openFailed (openSource c.origin)).freeSession k)

/-! ### The other LINK commands -/

/-- LINK_CLOSE (R61): answered, then the session closes. -/
def execLinkClose (c : Cmd) (loop : Nat) (s : State) : Host.Outcome State Fault Refusal :=
  s.run (fun s => s.command 0 0x12 0 c (fun k s =>
    if !c.payload.isEmpty then refuse stBAD_LENGTH s
    else (.done, (s.answer k 0x12 c stOK []).closeSession k loop)))

/-- SESSION_IDLE_TIMEOUT (R61): 300 s with no command on a session, open or only begun; suspended in STANDBY. -/
def execSessionIdleTimeout (k loop : Nat) (s : State) : Host.Outcome State Fault Refusal :=
  s.run (fun s =>
    let x := s.ses k
    if (x.isOpen || x.sawOpen) && s.power != 2 && s.tbPast x.lastCmd (tbMs 300000) then s.closeSession k loop else s)

/-- LINK_PING (chapter 02). -/
def execLinkPing (c : Cmd) (s : State) : Host.Outcome State Fault Refusal :=
  s.runIn .shared (fun s => s.command 0 0x13 0 c (fun _ s => if c.payload.isEmpty then okWith [] s else refuse stBAD_LENGTH s))

/-- LINK_SUBSCRIBE (R53): the functions whose notifications the session takes. -/
def execLinkSubscribe (c : Cmd) (s : State) : Host.Outcome State Fault Refusal :=
  s.runIn .shared (fun s => s.command 0 0x14 0 c (fun k s =>
    if c.payload.length != 4 then refuse stBAD_LENGTH s
    else okWith [] (s.setSes k (fun x => { x with mask := w32 c.payload 0 }))))

/-- LINK_DATA_ACK (R57, R560): the consumer index of one of the session's data rings. -/
def execLinkDataAck (c : Cmd) (s : State) : Host.Outcome State Fault Refusal :=
  s.runIn .shared (fun s => s.command 0 0x15 0 c (fun k s =>
    let n := u8 c.payload 0
    let v := w32 c.payload 4
    if c.payload.length != 8 then refuse stBAD_LENGTH s
    else if !s.mbx.rings.any (fun r => r.ring == n && r.session == k) || !s.consValid n v then refuse stBAD_PARAM s
    else okWith [] (s.consAdvance n v)))

/-- LINK_KEY_SET (R62): a transaction of the parameter store. -/
def execLinkKeySet (c : Cmd) (s : State) : Host.Outcome State Fault Refusal :=
  s.runIn (Foot.shared.and [.prm] [.prm]) (fun s => s.command 0 0x16 2 c (fun k s =>
    let p := c.payload
    let vendor := match s.prm.store.keys.getD (u8 p 0) none with
      | some (role, _) => role == 3
      | none => false
    if p.length != 36 then refuse stBAD_LENGTH s
    else if 31 < u8 p 0 || 3 < u8 p 1 then refuse stBAD_PARAM s
    else if u8 p 0 = 0 || u8 p 1 = 3 || vendor || (s.ses k).role < u8 p 1 then refuse stNOT_PERMITTED s
    else if s.prm.importing then refuse stBUSY s
    else okWith [] (s.prmTxn (fun y => { y with
      keys := updAt y.keys (u8 p 0) (fun _ => some (u8 p 1, BitVec.ofNat 256 (leNat (slice p 4 32)))) }))))

end Sys2Proof.Machine
end

