-- ==== Sys2Proof/Machine/EthernetRx.lean ====
section
/-!
DEFINITION. Ethernet frames at ingress (chapter 19, R433 to R438): counting, policing, the camera streams, the module's endpoint and the
island's, and forwarding.
-/
namespace Sys2Proof.Machine

/-- The longest frame in bytes, FCS included (R433: jumbo frames are dropped; PRESUMED 1,518, and 4 more with a tag). -/
def ethMax (x : EthRx) : Nat := if x.vid = 0 then 1518 else 1522

/-- Whether the switch takes frames from port `k` (R433, R434). -/
def State.ethTakes (s : State) (k : Nat) : Bool :=
  k < 16 && s.eth.fwd && bit (s.ethF (R.ETH_PORT_CFG k)) 0 && (13 ≤ k || s.eth.ext)

/-- The VLAN a frame belongs to: its tag, else the port's PVID. -/
def State.ethVlan (s : State) (x : EthRx) : Nat := if x.vid = 0 then fld (s.ethF (R.ETH_PORT_CFG x.port)) 13 2 else x.vid

/-- The stream filter that applies to a frame: the lowest enabled match of port, VLAN and destination (R438). -/
def State.ethFilter (s : State) (x : EthRx) (vid : Nat) : Option Nat :=
  (List.range 32).find? (fun f =>
    let k := s.ethF (R.ETH_SF_KEY f)
    bit (s.ethF (R.ETH_SF_METER f)) 31 && fld k 11 0 == vid && fld k 15 12 == x.port &&
      x.dst == (s.ethF (R.ETH_SF_MAC f)).toNat + 4294967296 * fld k 31 16)

/-- Policing (R438): whether the frame passes. Tokens are counted in 1/50 bit, of which CIR fall in each TB unit. -/
def State.ethPolice (s : State) (x : EthRx) (vid : Nat) : Bool × State :=
  match s.ethFilter x vid with
  | none => (true, s)
  | some f =>
    let w := s.ethF (R.ETH_SF_METER f)
    let cir := fld w 13 0
    if cir = 0 then (true, s.inc (R.ETH_SF_DROP f))
    else
      let depth := fld w 27 14 * 25600
      let have_ := match s.eth.buckets.getD f none with
        | some (n, t) => min depth (n + cir * (s.clk.tb - t))
        | none => depth
      let need := 400 * x.len
      let ok := decide (need ≤ have_)
      let s := s.setEth (fun e => { e with
        buckets := updAt e.buckets f (fun _ => some (if ok then have_ - need else have_, s.clk.tb)) })
      (ok, if ok then s else (s.inc (R.ETH_SF_DROP f)).inc R.ETH_POL_DROP)

/-- The switch learns a source address (R433): 4,096 entries, aged out after 300 s. -/
def State.ethLearn (s : State) (x : EthRx) (vid : Nat) : State :=
  let l := s.eth.macs.filter (fun m => !s.tbPast m.at_ (tbMs 300000) && !(m.mac == x.src && m.vid == vid))
  s.setEth (fun e => { e with
    macs := if l.length < 4096 then l ++ [{ mac := x.src, vid := vid, port := x.port, at_ := s.clk.tb }] else l })

/-- Whether an address is a group address. -/
def ethGroup (mac : Nat) : Bool := nbit mac 40

/-- Whether the application cluster is held in reset (R113, R512): in BOOT and RECOVERY. -/
def State.appHeld (s : State) : Bool := s.dome == 0 || s.dome == 6

/-- A frame goes to its learned port, or to every other port (R433); one addressed to port 13 while the application cluster is held in
reset is dropped and counted (R434). -/
def State.ethForward (s : State) (x : EthRx) (vid : Nat) : State :=
  let known := s.eth.macs.find? (fun m => m.mac == x.dst && m.vid == vid && !s.tbPast m.at_ (tbMs 300000))
  match ethGroup x.dst, known with
  | false, some m =>
    if m.port = x.port then s
    else if m.port = 13 && s.appHeld then s.inc R.ETH_KMP_DROP
    else s.ethEgress m.port x
  | _, _ =>
    ((List.range 14).filter (fun k => k != x.port && !(k == 13 && s.appHeld))).foldl (fun (t : State) k => t.ethEgress k x) s

/-! ### The endpoints -/

/-- A UDP datagram at the module endpoint (R437): KMP from E10 to E12, lists of the port their source names, fleet traffic of the
parent in use and the children while FLT runs (its messages are steps of their own); all else is dropped and counted. -/
def State.endpointUdp (s : State) (port sip sport dport : Nat) (p : List Byte) : State :=
  if dport = 47810 && 10 ≤ port && port ≤ 12 then s.kmpRx sip sport p
  else if dport = 47820 then
    let a : AstRx := { can := false, link := port, ident := 0, stamp := s.clk.tb, data := p }
    if (s.astMatch a).isSome then s.astRx a else s.inc R.ETH_KMP_DROP
  else if dport = 47840 && s.isRunning fFLT &&
      (s.fltEp s.flt.ep == (sip, sport) || s.flt.kids.any (fun k => k.ip == sip && k.port == sport)) then s
  else s.inc R.ETH_KMP_DROP

/-- The parts of a datagram from offset `o` on, up to its end, where they join without a gap. -/
def joinParts (l : List (Nat × List Byte)) (stop : Nat) : Nat → Nat → Option (List Byte)
  | 0, o => if o = stop then some [] else none
  | fuel + 1, o =>
    if o = stop then some []
    else
      match l.find? (fun e => e.1 == o && !e.2.isEmpty) with
      | some e => (joinParts l stop fuel (o + e.2.length)).map (fun r => e.2 ++ r)
      | none => none

/-- A fragment at the module endpoint (R55): the datagram is served once its fragments are whole, within 2 s. The end of the last
fragment stands as an empty part. -/
def State.endpointFrag (s : State) (port sip ident off : Nat) (more : Bool) (p : List Byte) : State :=
  let mine (f : IpFrags) : Bool := f.ip == sip && f.ident == ident
  let old := match s.mbx.frags.find? mine with
    | some f => if s.tbPast f.at_ (tbMs 2000) then none else some f
    | none => none
  let f : IpFrags := old.getD { ip := sip, ident := ident, at_ := s.clk.tb, parts := [] }
  let parts := f.parts ++ [(off, p)] ++ (if more then [] else [(off + p.length, [])])
  let rest := s.mbx.frags.filter (fun f => !mine f)
  let whole := match parts.find? (fun e => e.2.isEmpty) with
    | some e => joinParts parts e.1 parts.length 0
    | none => none
  match whole with
  | some d =>
    let s := { s with mbx := { s.mbx with frags := rest } }
    if d.length < 8 then s.inc R.ETH_KMP_DROP
    else s.endpointUdp port sip (beNat (slice d 0 2)) (beNat (slice d 2 2)) (d.drop 8)
  | none => { s with mbx := { s.mbx with frags := { f with parts := parts } :: rest } }

/-- The module's answer to an ARP request or an echo request, on the port it came by: its kind, its address, the asker's, and data. -/
def State.endpointAnswer (s : State) (port kind dip sip : Nat) (p : List Byte) : State :=
  let t := s.inc (R.ETH_PORT_TX port)
  { t with out := t.out ++ [OutMsg.bytes .eth port ([byte kind] ++ beBytes 4 dip ++ beBytes 4 sip ++ p)] }

/-- A datagram at the island's own endpoint (R405): a consumed connection takes it from its peer alone. -/
def State.islandUdp (s : State) (sip sport : Nat) (p : List Byte) : State :=
  match (List.range (connN s.saf.par)).find? (fun c =>
      let b := connB s.saf.par c
      !connProd b && connUdp b && u32 b 8 == sip && u16 b 12 == sport) with
  | some c => s.jspRx c p
  | none => s

/-- The address a frame's IPv4 content is for. -/
def ethDip : EthPay → Option Nat
  | .udp _ dip _ _ _ => some dip
  | .frag _ dip _ _ _ _ => some dip
  | .arp _ dip => some dip
  | .echo _ dip _ => some dip
  | _ => none

/-- Whether a frame is for the module endpoint: its address and its VLAN (R437). -/
def State.ethForModule (s : State) (x : EthRx) (vid : Nat) : Bool :=
  let want := fld (s.ethF R.ETH_IP_VLAN) 11 0
  ethDip x.pay == some (s.ethF R.ETH_IP_ADDR).toNat && (if want = 0 then x.vid == 0 else vid == want)

/-- A frame at port 14 (R434, R437). -/
def State.ethModule (s : State) (x : EthRx) : State :=
  if s.dome < 2 then s.inc R.ETH_KMP_DROP
  else
    let s := s.inc (R.ETH_PORT_TX 14)
    match x.pay with
    | .udp sip _ sport dport p => s.endpointUdp x.port sip sport dport p
    | .frag sip _ ident off more p => s.endpointFrag x.port sip ident off more p
    | .arp sip dip => s.endpointAnswer x.port 0 dip sip []
    | .echo sip dip p => s.endpointAnswer x.port 1 dip sip p
    | _ => s

/-- Whether a frame is a datagram for the island (R405). -/
def State.ethForIsland (s : State) (x : EthRx) : Bool :=
  match x.pay with
  | .udp _ dip _ dport _ => s.saf.parOk && dip == u32 s.saf.par 988 && dport == 47830
  | _ => false

/-- A frame that passed policing goes to CAM (R329), to the module, to the island, or on. -/
def State.ethSwitch (s : State) (x : EthRx) (vid : Nat) : State :=
  let cam := match x.pay with
    | .avtp y => x.port < 6 && !s.plant && s.bt (R.CAM_STR_CFG x.port) 0 &&
        y.sid == s.rd64 (R.CAM_STR_ID_LO x.port) (R.CAM_STR_ID_HI x.port)
    | _ => false
  match cam, x.pay with
  | true, .avtp y => s.camSegment x.port y
  | _, _ =>
    let s := s.ethLearn x vid
    if s.ethForModule x vid then
      let t := s.ethModule x
      if ethGroup x.dst then t.ethForward x vid else t
    else if s.ethForIsland x then
      match x.pay with
      | .udp sip _ sport _ p => (s.inc (R.ETH_PORT_TX 15)).islandUdp sip sport p
      | _ => s
    else s.ethForward x vid

/-- ETH_FRAME_RX (R433 to R438). -/
def execEthFrameRx (x : EthRx) (s : State) : Host.Outcome State Fault Refusal :=
  s.runIn (Foot.eth.and [.ast, .cam, .can, .saf] [.ast, .cam]) (fun s =>
    if !s.ethTakes x.port then s
    else
      let s := s.inc (R.ETH_PORT_RX x.port)
      if !x.fcs then
        let a := R.ETH_PORT_STATUS x.port
        (s.inc R.ETH_FCS_ERR).wf_ a 31 16 (min 65535 (s.fd a 31 16 + 1))
      else if ethMax x < x.len then s
      else
        let vid := s.ethVlan x
        let r := s.ethPolice x vid
        if r.1 then r.2.ethSwitch x vid else r.2)

/-- ETH_SWITCH_RELOAD (R434): after a start other than after a power-on reset the switch forwards again from the AON copy. -/
def execEthSwitchReload (s : State) : Host.Outcome State Fault Refusal :=
  s.runIn .eth (fun s =>
    if s.eth.reload.isSome then s.setEth (fun e => { e with reload := none, fwd := true, ext := true }) else s)

end Sys2Proof.Machine
end

