-- ==== Sys2Proof/Machine/Fabric.lean ====
section
/-!
DEFINITION. The register fabric (chapter 03): what a write does by the register's type and protections, the bit-alias region, guarded
double writes, update groups and the snapshot; and the accesses of chapter 01 to the signal bus and the timebase.
-/
namespace Sys2Proof.Machine

/-! ### Update groups -/

/-- The TB compare value of a group. -/
def State.ugCmp (s : State) (g : Nat) : Nat := s.rd64 (R.FAB_UG_CMP_LO g) (R.FAB_UG_CMP_HI g)

/-- Whether the compare of a group is armed: ARM and TBCMP of its configuration both set (R86). -/
def ugArmed (w : Word) : Bool := bit w 1 && bit w 4

/-- After a strobe of the compare (R86): a single one clears ARM; with a period the compare moves on, to the first value of the grid
above `above`. -/
def State.ugNext (s : State) (g above : Nat) : State :=
  let per := (s.rd (R.FAB_UG_PER g)).toNat
  let cmp := s.ugCmp g
  if per = 0 then s.wb (R.FAB_UG_CFG g) 4 false
  else
    let next := if above < cmp + per then cmp + per else cmp + ((above - cmp) / per + 1) * per
    s.wr64 (R.FAB_UG_CMP_LO g) (R.FAB_UG_CMP_HI g) next

/-- A write of `FAB_UG_CFG` (R85, R86): the lateness test is made where the compare becomes armed. -/
def State.ugConfigure (g : Nat) (v : Word) (s : State) : State :=
  let was := ugArmed (s.rd (R.FAB_UG_CFG g))
  let s := s.wr (R.FAB_UG_CFG g) (v &&& 0x1F#32)
  if !was && ugArmed v && s.tbReached (s.ugCmp g) then
    ((s.strobe g).inc R.FAB_UG_LATE).ugNext g s.clk.tb
  else s

/-- A write of a compare value or period, discarded while ARM is set (R86). -/
def State.ugCompareWrite (a g : Nat) (v : Word) (s : State) : State :=
  if s.bt (R.FAB_UG_CFG g) 4 then s else s.wr a v

/-- A write of `FAB_UPD_STROBE` (R85): the groups named whose SW source is on. -/
def State.updStrobe (v : Word) (s : State) : State :=
  ((List.range 16).filter (fun g => bit v g && s.bt (R.FAB_UG_CFG g) 0)).foldl (fun (t : State) g => t.strobe g) s

/-- The functions whose blocks use a group (chapter 01); none where the group belongs to SYS, FAB or PAIR. -/
def ugUsers (g : Nat) : Option (List Nat) :=
  match g with
  | 1 => some [2]
  | 2 => some [2, 8]
  | 3 => some [3]
  | 4 => some [4]
  | 5 => some [5, 6, 7]
  | 6 => some [14]
  | 7 => some [10]
  | 8 => some [13]
  | 9 => some [12]
  | 10 => some [9]
  | _ => none

/-- Whether host software may write the configuration of a group (R87): UG11 to UG14, and a group all of whose blocks one session owns. -/
def State.ugHostMay (s : State) (g : Nat) : Bool :=
  (11 ≤ g && g ≤ 14) ||
  (match ugUsers g with
    | some (f :: fs) => (s.fn f).owner.isSome && fs.all (fun x => (s.fn x).owner == (s.fn f).owner)
    | _ => false)

/-! ### Writes by type -/

/-- A write of a signal entry by software (R17, R18, R22). The reserved entries that R18 exempts from the count are those of its table,
0x1E0 to 0x1FF; the reserved sub-entries 0x1CF and 0x1DD to 0x1DF of SYS count as entries of SYS (DESIGN CHOICE, log entry 118). -/
def State.sigHostWrite (n : Nat) (v : Word) (s : State) : State :=
  if 0x180 ≤ n && n < 0x1C0 then
    let t := s.setSig n v
    { t with fab := { t.fab with sigAt := (n, s.clk.tb) :: t.fab.sigAt.filter (fun e => e.1 != n) } }
  else if n < 0x1E0 then s.inc R.FAB_SIG_WR_ERR
  else s

/-- A write of `CAN_CTRL` (R416, R426): a controller that carries Jasper frames or beacons keeps FD_EN and MODE 0; RECOVER acts and is
not held. -/
def State.canCtrlWrite (n : Nat) (v : Word) (s : State) : State :=
  let a := R.CAN_CTRL n
  let w := setBit (v &&& maskAt a) 4 false
  let w := if s.canForced n then setBit (setFld w 2 1 0) 3 true else w
  let s := (s.wr a w).canRunSync n 0
  if bit v 4 then s.canRecover n else s

/-- A write of `ETH_TRIM` (R442): from host software or Dome only with SRC 0. -/
def State.ethTrimWrite (v : Word) (s : State) : State := if s.fd R.ETH_TIME_CFG 1 0 = 0 then s.setTrim v.toInt else s

/-- The element of a register array with first address `base` and stride `stride` that stands at `x`. -/
def arrIdx (x base stride n : Nat) : Option Nat :=
  if base ≤ x && (x - base) % stride = 0 && (x - base) / stride < n then some ((x - base) / stride) else none

/-- The registers whose writes do more than replace a value: first address, stride, number, and what a write of `v` does. -/
def writeHooks (ini : Initiator) (v : Word) : List (Nat × Nat × Nat × (Nat → State → State)) :=
  [(R.FAB_UPD_STROBE, 4, 1, fun _ s => s.updStrobe v),
   (R.FAB_SNAP, 4, 1, fun _ s => if bit v 0 then s.globalSnap ini else s),
   (R.FAB_UG_CFG 0, 16, 16, fun g s => s.ugConfigure g v),
   (R.FAB_UG_CMP_LO 0, 16, 16, fun g s => s.ugCompareWrite (R.FAB_UG_CMP_LO g) g v),
   (R.FAB_UG_CMP_HI 0, 16, 16, fun g s => s.ugCompareWrite (R.FAB_UG_CMP_HI g) g v),
   (R.FAB_UG_PER 0, 16, 16, fun g s => s.ugCompareWrite (R.FAB_UG_PER g) g v),
   (R.FAB_SIG 0, 4, 512, fun n s => if ini = .host || (0x180 ≤ n && n < 0x1C0) then s.sigHostWrite n v else s),
   (R.MBX_Q_PROD 0, 16, 128, fun n s => if ini = .host then s.prodWrite n v [] else s.wr (R.MBX_Q_PROD n) v),
   (R.MBX_Q_CONS 0, 16, 128, fun n s => if ini = .host then s.consWrite n v else s.wr (R.MBX_Q_CONS n) v),
   (R.PWR_WAKE_EN, 4, 1, fun _ s => s.wr R.PWR_WAKE_EN ((v &&& maskAt R.PWR_WAKE_EN) ||| 1#32)),
   (R.YPL_FIELD_CTRL, 4, 1, fun _ s => if s.expert fYPL then s.yplCmd (fld v 1 0) else s),
   (R.ADR_EVT_DUR 0, 64, 48, fun n s => s.adrEvtDur n v),
   (R.ADR_CH_CMD 0, 64, 48, fun n s => s.adrCommand n v),
   (R.ADR_FAULT0, 4, 1, fun _ s => s.adrFaultClear 0 v),
   (R.ADR_FAULT1, 4, 1, fun _ s => s.adrFaultClear 1 v),
   (R.PSW_LATCHED, 4, 1, fun _ s => s.pswUnlatch v),
   (R.MER_ST_I 0, 32, 64, fun m s => s.setSlot m (fun x => { x with stI := some v.toInt }))] ++
  [(R.TRN_ACQ_REQ 0, 32, 2, fun e s => s.trnAcqWrite ini e v),
   (R.TRN_RXT_HI, 4, 1, fun _ s => s.trnRxtHi v),
   (R.CST_OVR, 4, 1, fun _ s => s.cstSetOvr v),
   (R.AIN_SUP_CTRL, 4, 1, fun _ s => (s.wr R.AIN_SUP_CTRL (v &&& maskAt R.AIN_SUP_CTRL)).supUpdateAll),
   (R.AIN_SUP_RESTART, 4, 1, fun _ s => s.supRestart (fld v 2 0)),
   (R.CAM_CTX_REL 0, 64, 8, fun x s => s.camRelWrite x v),
   (R.CAM_ENC_CMD 0, 32, 2, fun e s => s.camEncCmd e v),
   (R.CAM_TBL_DATA, 4, 1, fun _ s => (s.camTblWrite v).camTblNext),
   (R.AST_SUB_GO, 4, 1, fun _ s => s.astSubGo v []),
   (R.CAN_TXQ_CTRL 0, 4096, 16, fun n s => s.canTxqWrite n v),
   (R.CAN_CTRL 0, 4096, 16, fun n s => s.canCtrlWrite n v),
   (R.LIN_CFG 0, 4096, 4, fun k s => (s.wr (R.LIN_CFG k) (v &&& maskAt (R.LIN_CFG k))).linSync k)] ++
  [(R.ETH_GCL_SEL, 4, 1, fun _ s => s.gclWrite R.ETH_GCL_SEL v),
   (R.ETH_GCL_DATA, 4, 1, fun _ s => (s.gclWrite R.ETH_GCL_DATA v).gclNext),
   (R.ETH_GCL_BASE_LO, 4, 4, fun i s => s.gclWrite (R.ETH_GCL_BASE_LO + 4 * i) v),
   (R.ETH_GCL_GO, 4, 1, fun _ s => if 12 < fld v 3 0 then s.inc R.ETH_GCL_ERR else s.gclGo (fld v 3 0)),
   (R.ETH_TRIM, 4, 1, fun _ s => s.ethTrimWrite v),
   (R.PNL_CTRL, 4, 1, fun _ s => (s.wr R.PNL_CTRL (v &&& 1#32)).pnlShow),
   (R.PNL_CMD, 4, 1, fun _ s => s.pnlCmdWrite v (s.rd R.PNL_CRACK_R).toNat),
   (R.PNL_BLINK_X 0, 8, 4, fun q s => s.pnlBlinkWrite q false v),
   (R.PNL_BLINK_Y 0, 8, 4, fun q s => s.pnlBlinkWrite q true v),
   (R.PNL_FB_DATA, 4, 1, fun _ s => (s.pnlFbWrite v).pnlFbNext)]

/-- A value with the writable bits taken from a write. -/
def merged (old v mask : Word) : Word := (old &&& ~~~mask) ||| (v &&& mask)

/-- A write that has passed every protection reaches register `x` of row `r` (R72). -/
def State.regWrite (s : State) (ini : Initiator) (x : Nat) (r : RegRow) (v : Word) : State :=
  match (writeHooks ini v).findSome? (fun h => (arrIdx x h.1 h.2.1 h.2.2.1).map (fun i => h.2.2.2 i)) with
  | some f => f s
  | none =>
    let m := word r.mask
    match r.ty with
    | .rw => s.wr x (merged (s.rd x) v m)
    | .w1c => s.wr x (s.rd x &&& ~~~(v &&& m))
    | .w1s => s.wr x (s.rd x ||| (v &&& m))
    | .rws => s.shadowWr x r.ug (merged (s.shadowRd x) v m)
    | .ro | .wo | .rc | .snap => s

/-! ### Protections (R91) -/

/-- Step 2: the register of a host write that its owner, its map or R18, R36 and R87 let through; else the state after the discarded
write, with its count. None where it may go on. -/
def State.ownBar (s : State) (ini : Initiator) (b : Block) (x : Nat) (r : RegRow) : Option State :=
  if ini = .dome then none
  else if (arrIdx x (R.FAB_SIG 0) 4 512).isSome then none
  else
    let ug := if R.FAB_UG_CFG 0 ≤ x && x < R.FAB_UG_CFG 16 then some ((x - R.FAB_UG_CFG 0) / 16) else none
    let may := match ug, b.fn with
      | some g, _ => s.ugHostMay g
      | none, some f => s.expert f
      | none, none => r.host
    if may then none else some (s.inc R.MBX_OWN_ERR)

/-- Step 3: whether the lock class of a register is closed (R84); `MER_DEST` has one where its slot has SR set (R209). -/
def State.locked (s : State) (x : Nat) (r : RegRow) : Bool :=
  (r.lock < 6 && s.bt R.SYS_BOOTLOCK r.lock) ||
  (match arrIdx x (R.MER_DEST 0) (R.MER_DEST 1 - R.MER_DEST 0) 64 with
    | some m => s.bt (R.MER_SR_CFG m) 0 && s.bt R.SYS_BOOTLOCK 1
    | none => false)

/-- Steps 3 and 5: the lock, then the register or its shadow. -/
def State.lockedWrite (s : State) (ini : Initiator) (x : Nat) (r : RegRow) (v : Word) : State :=
  if s.locked x r then s.inc R.FAB_LOCK_ERR else s.regWrite ini x r v

/-- A write of `v` to the guard companion at `a` of register `x` (R82). -/
def State.companionWrite (s : State) (ini : Initiator) (b : Block) (a x : Nat) (r : RegRow) (v : Word) : State :=
  let s := if (s.guardOf ini b.base).any (fun g => g.addr != x) then s.guardInterrupt ini b.base else s
  match s.ownBar ini b x r with
  | some t => t
  | none =>
    match s.guardOf ini b.base with
    | none => s.guardErr a 2
    | some g =>
      let t := s.guardDrop ini b.base
      if v != ~~~g.value then t.guardErr x 0 else t.lockedWrite ini x r g.value

/-- A 32-bit write in the register space outside the bit-alias region (R91). -/
def State.access (s : State) (ini : Initiator) (a : Nat) (v : Word) : State :=
  if a % 4 != 0 then s.busError ini
  else
    match companionOf a with
    | some (b, x, r) =>
      if !s.domainUp (regDomain b x) then s.busError ini
      else ((s.guardExpire ini b.base).companionWrite ini b a x r v).busDone ini
    | none =>
      match decodeAddr a with
      | .noWindow => s.busError ini
      | .hole b =>
        if !s.domainUp (regDomain b a) then s.busError ini
        else (s.reached ini b.base).busDone ini
      | .reg b x r =>
        if !s.domainUp (regDomain b x) then s.busError ini
        else
          let s := s.reached ini b.base
          match s.ownBar ini b x r with
          | some t => t.busDone ini
          | none =>
            if r.guard then
              let g : GuardPend := { ini := ini, block := b.base, addr := x, value := v, at_ := s.clk.now }
              ({ s with fab := { s.fab with guards := g :: s.fab.guards } } : State).busDone ini
            else (s.lockedWrite ini x r v).busDone ini

/-! ### The bit-alias region -/

/-- An alias address as the byte address of its register's word and the bit (R75). -/
def aliasOf (a : Nat) : Nat × Nat := (0xE0000000 + (a - 0xE2000000) / 128 * 4, (a - 0xE2000000) % 128 / 4)

/-- An alias write of bit `b` of a register (R76). -/
def State.aliasWrite (s : State) (ini : Initiator) (blk : Block) (x : Nat) (r : RegRow) (b : Nat) (one : Bool) : State :=
  match s.ownBar ini blk x r with
  | some t => t
  | none =>
    if r.guard then s.guardErr x 3
    else if s.locked x r then s.inc R.FAB_LOCK_ERR
    else
      match r.ty with
      | .rw | .rws => s.regWrite ini x r (setBit (s.peek ini x r) b one)
      | .w1c | .w1s | .wo => if one then s.regWrite ini x r (word (2 ^ b)) else s
      | .ro | .rc | .snap => s

/-- An access in the bit-alias region (R75, R76): a read without a word, a write of the word's bit 0. -/
def State.aliasAccess (s : State) (ini : Initiator) (a : Nat) (w : Option Word) : State :=
  if a % 4 != 0 || a < 0xE2000000 || 0xE4000000 ≤ a then s.busError ini
  else
    let t := aliasOf a
    match w with
    | none =>
      match s.busRead ini t.1 with
      | some v => s.busData ini (word (b2n (bit v t.2)))
      | none => s.busError ini
    | some v =>
      match companionOf t.1 with
      | some (b, x, _) =>
        if !s.domainUp (regDomain b x) then s.busError ini
        else ((s.reached ini b.base).guardErr t.1 2).busDone ini
      | none =>
        match decodeAddr t.1 with
        | .noWindow => s.busError ini
        | .hole b =>
          if !s.domainUp (regDomain b t.1) then s.busError ini
          else (s.reached ini b.base).busDone ini
        | .reg b x r =>
          if !s.domainUp (regDomain b x) then s.busError ini
          else ((s.reached ini b.base).aliasWrite ini b x r t.2 (bit v 0)).busDone ini

/-- A 32-bit write anywhere in the register space. -/
def State.write32 (s : State) (ini : Initiator) (a : Nat) (v : Word) : State :=
  if 0xE2000000 ≤ a && a < 0xE4000000 then s.aliasAccess ini a (some v) else s.access ini a v

/-- Whether the initiator's latest access ended in a bus error. -/
def State.busFailed (s : State) (ini : Initiator) : Bool :=
  match ini with
  | .host => s.fab.hostBus == .error
  | .dome => s.fab.domeBus == .error

/-! ### The commands -/

/-- REGISTER_WRITE (R70, R91): a write of `bits` bits; 64 are two of 32, the lower address first, and a bus error of either is the
initiator's. -/
def execRegisterWrite (ini : Initiator) (addr bits : Nat) (v : BitVec 64) (s : State) : Host.Outcome State Fault Refusal :=
  s.run (fun s =>
    let lo := v.extractLsb' 0 32
    let hi := v.extractLsb' 32 32
    if bits = 32 then s.write32 ini addr lo
    else if bits = 64 then
      let t := s.write32 ini addr lo
      let u := t.write32 ini (addr + 4) hi
      if t.busFailed ini then
        match ini with
        | .host => { u with fab := { u.fab with hostBus := .error } }
        | .dome => { u with fab := { u.fab with domeBus := .error } }
      else u
    else s.busError ini)

/-- BIT_ALIAS_ACCESS (R75, R76). -/
def execBitAliasAccess (ini : Initiator) (addr : Nat) (w : Option Word) (s : State) : Host.Outcome State Fault Refusal :=
  s.run (fun s => s.aliasAccess ini addr w)

/-- GUARD_FIRST_WRITE (R82): the value is held pending in the comparator. -/
def execGuardFirstWrite (ini : Initiator) (addr : Nat) (v : Word) (s : State) : Host.Outcome State Fault Refusal :=
  s.run (fun s => s.access ini addr v)

/-- GUARD_COMPANION_WRITE (R82, R91): the complement lets the pending value through. -/
def execGuardCompanionWrite (ini : Initiator) (addr : Nat) (v : Word) (s : State) : Host.Outcome State Fault Refusal :=
  s.run (fun s => s.access ini addr v)

/-- GUARD_TIMEOUT (R82). -/
def execGuardTimeout (ini : Initiator) (blk : Nat) (s : State) : Host.Outcome State Fault Refusal :=
  s.runIn .shared (fun s => s.guardExpire ini blk)

/-- STALL_WATCHDOG (R79): an access that has stalled for 200 µs ends; a read with a bus error, a write undone. -/
def execStallWatchdog (ini : Initiator) (addr : Nat) (isWrite : Bool) (s : State) : Host.Outcome State Fault Refusal :=
  s.runIn .shared (fun s =>
    let t := (s.inc R.FAB_STALL_ERR).wr R.FAB_STALL_LAST (word addr)
    if isWrite then t.busDone ini
    else
      match ini with
      | .host => { t with fab := { t.fab with hostBus := .error } }
      | .dome => { t with fab := { t.fab with domeBus := .error } })

/-- FAB_SIG_HOST_WRITE (R18, R22). -/
def execFabSigHostWrite (n : Nat) (v : Word) (s : State) : Host.Outcome State Fault Refusal :=
  s.run (fun s => s.access .host (R.FAB_SIG (n % 512)) v)

/-- SIG_HOST_AGE_EXPIRY (R22): the entry becomes invalid once `FAB_SIG_HOST_AGE` milliseconds have passed. -/
def execSigHostAgeExpiry (n : Nat) (s : State) : Host.Outcome State Fault Refusal :=
  s.runIn .shared (fun s =>
    let ms := s.fd R.FAB_SIG_HOST_AGE 15 0
    match s.fab.sigAt.lookup n with
    | some t =>
      if ms != 0 && s.tbPast t (tbMs ms) then
        { s.dropSig n with fab := { s.fab with sigAt := s.fab.sigAt.filter (fun e => e.1 != n) } }
      else s
    | none => s)

/-- TB_NOW_LO_READ (R26). -/
def execTbNowLoRead (ini : Initiator) (s : State) : Host.Outcome State Fault Refusal :=
  s.runIn .shared (fun s => s.fetched ini .fab (word s.clk.tb) (fun t => t.tbNowLatch ini))

/-- TB_TICK_COUNT_LO_READ (R26). -/
def execTbTickCountLoRead (ini : Initiator) (s : State) : Host.Outcome State Fault Refusal :=
  s.runIn .shared (fun s => s.fetched ini .fab (word s.clk.tickCount) (fun t => t.tbCountLatch ini))

/-- UPD_STROBE_WRITE (R85). -/
def execUpdStrobeWrite (ini : Initiator) (v : Word) (s : State) : Host.Outcome State Fault Refusal :=
  s.run (fun s => s.access ini R.FAB_UPD_STROBE v)

/-- FAB_UG_CFG_WRITE (R85 to R87). -/
def execFabUgCfgWrite (ini : Initiator) (g : Nat) (v : Word) (s : State) : Host.Outcome State Fault Refusal :=
  s.run (fun s => s.access ini (R.FAB_UG_CFG (g % 16)) v)

/-- UG_TBCMP_STROBE (R86): TB has reached the armed compare value. -/
def execUgTbcmpStrobe (g : Nat) (s : State) : Host.Outcome State Fault Refusal :=
  s.run (fun s =>
    if g < 16 && ugArmed (s.rd (R.FAB_UG_CFG g)) && s.tbReached (s.ugCmp g) then
      (s.strobe g).ugNext g (s.ugCmp g)
    else s)

/-- GLOBAL_SNAPSHOT (R89). -/
def execGlobalSnapshot (ini : Initiator) (v : Word) (s : State) : Host.Outcome State Fault Refusal :=
  s.run (fun s => s.access ini R.FAB_SNAP v)

/-- SYS_BOOTLOCK_WRITE (R83, R84). -/
def execSysBootlockWrite (ini : Initiator) (v : Word) (s : State) : Host.Outcome State Fault Refusal :=
  s.run (fun s => s.access ini R.SYS_BOOTLOCK v)

end Sys2Proof.Machine
end

