-- ==== Sys2Proof/Machine/Startup.lean ====
section
/-!
DEFINITION. Reset and start-up (chapter 04: R106, R113 to R118): what each reset loses, the reset kinds and how they coincide, the
clocks, and the Dome states up to READY.
-/
namespace Sys2Proof.Machine

/-- Changes supplies, power state and start-up. -/
def State.setPwr (s : State) (f : Power → Power) : State := { s with pwr := f s.pwr }

/-- CLK_FAB periods in one second. -/
def fabS (n : Nat) : Nat := 200000000 * n

/-! ### What survives -/

/-- What the switch keeps (R117, R434): after a POR its Reset configuration; its learned addresses only where it forwards throughout. -/
def Eth.kept (e : Eth) (por warm : Bool) : Eth :=
  { force := if por then [] else e.force
    ports := if por then List.replicate 13 {} else e.ports.map (fun (p : EthPort) =>
      { p with sched := none, queue := [], gates := if warm then p.gates else 255 })
    macs := if warm then e.macs.map (fun (m : EthMac) => { m with at_ := 0 }) else []
    fwd := warm && e.fwd, ext := warm && e.ext }

/-- The contents that a reset loses (R117): of the registers all but class P and, unless AON power was lost, class K; every pending shadow
value, latch, session, queue and working state. A warm reset, of the kinds that leave the supplies and the switch alone, keeps the
links and the boost rail's charge. -/
def State.lose (s : State) (por warm : Bool) : State :=
  let r := s.regs.keep (fun a => retAt a == .p || (retAt a == .k && !por))
  let r := if warm then (List.range 13).foldl (fun (r : Regs) k =>
      r.set (R.ETH_PORT_STATUS k) (s.rd (R.ETH_PORT_STATUS k) &&& 0x7F#32)) r else r
  let t : State := { s with
    regs := r, shadow := [], fab := {}, mbx := { challenges := s.mbx.challenges }, fns := List.replicate 24 {},
    inp := {}, cst := {}, adr := { vbst := if warm then s.adr.vbst else 0 }, psw := {}, mer := {}, trn := {}, cam := {}, vxa := {},
    ast := {}, pair := {}, can := {},
    ypl := { stored := s.ypl.stored, cfgKernel := s.ypl.cfgKernel, files := s.ypl.files },
    pos := if por then {} else { sentry := s.pos.sentry },
    gptp := { asCap := if warm then s.gptp.asCap else 0 },
    eth := s.eth.kept por warm,
    pnl := { shown := s.pnl.shown, shownOk := s.pnl.shownOk && !por, glass := s.pnl.glass, flash := s.pnl.flash },
    flt := { epoch := if por then 0 else s.flt.epoch } }
  (t.recReset por).prmReset.updReset

/-- The core domains are off: their contents are lost, the clocks stand, the island has no power. `por` where AON power is lost too. -/
def State.coreStop (s : State) (por : Bool) : State :=
  let t := (s.lose por false).safPowerOff
  { t with
    clk := s.clk.stop,
    pwr := { t.pwr with
      coreOn := false, shed := false, holdup := false, fellAt := none, roseAt := none, confAt := none, overShed := false, resetDue := none,
      cycleDue := none, keyOff := .none, step3Done := false, appSusp := false, clockEvent := false } }

/-! ### Reset kinds -/

/-- The order in which coinciding kinds are named by LAST (R116): kinds are 0 POR, 1 BOR, 2 PINRST, 3 WDOG, 4 DEVRST, 5 SAFRST. -/
def resetRank (k : Nat) : Nat :=
  match k with
  | 0 => 0
  | 1 => 1
  | 5 => 2
  | 3 => 3
  | 2 => 4
  | _ => 5

/-- The scope of a kind: 0 everything, 1 all but AON, 2 all but AON, switch and island (R115). -/
def resetScope (k : Nat) : Nat := if k = 0 then 0 else if k = 1 then 1 else 2

/-- The cause bit and LAST (R116); a kind that joins a reset in progress is named only where it comes first. -/
def State.resetCause (s : State) (k : Nat) (join : Bool) : State :=
  let old := s.fd R.SYS_RESET_CAUSE 18 16
  (s.wb R.SYS_RESET_CAUSE k true).wf_ R.SYS_RESET_CAUSE 18 16 (if join && resetRank old < resetRank k then old else k)

/-- The counts of a reset (R115, R116, R390); the watchdog resets of the last 600 s are remembered, and whether the latest reset was the
third of them (R114), whatever kinds join it. -/
def State.resetCount (s : State) (k : Nat) (join : Bool) : State :=
  let s := if join then s else s.setPwr (fun p => { p with third := false })
  match k with
  | 1 => s.wf_ R.SYS_PWR_CYCLES 23 0 (s.fd R.SYS_PWR_CYCLES 23 0 + 1)
  | 3 =>
    let l := (s.clk.now :: s.pwr.wdogTimes).filter (fun t => s.clk.now < t + fabS 600)
    (s.inc R.SYS_WDOG_RESETS).setPwr (fun p => { p with wdogTimes := l, third := decide (3 ≤ l.length) })
  | 5 => s.inc R.SYS_SAF_RESETS
  | _ => s

/-- What starts anew with each device-level reset of the power state's own: the module is in RUN, with PWR_HOLD asserted (R108, R113). A
deferred reset stays due until the PLL locks (R116, log entry 119). -/
def Power.restarted (p : Power) : Power :=
  { p with
    coreOn := true, aonOn := true, keyOff := .none, step3Done := false, appSusp := false, held := 2,
    wakePend := false, woken := false, vbatBack := false, releasedAt := none, opAccTb := 0, energyUj := 0, mirrorTb := 0 }

/-- A reset of the core domains that leaves supplies, switch and island alone (R115, R393). -/
def State.warmReset (s : State) : State :=
  let t := { s.lose false true with clk := s.clk.stop }
  ((t.wf_ R.PWR_STATE 1 0 3).setPwr Power.restarted).adrEnables.pswEnables.safModule

/-- A start with AON kept (R94, R113, R115): the island starts too, the switch reloads its configuration. -/
def State.borReset (s : State) : State :=
  let t := { s.lose false false with clk := s.clk.stop }
  let p := s.pwr
  let key := s.bt R.PWR_STATE 8
  let t := t.wr R.PWR_STATE (word (3 + 256 * b2n key + 512))
  let t := if p.woken then t.wb R.SYS_RESET_CAUSE 8 true
    else if !key && p.vbatBack then t.wb R.PWR_WAKE_CAUSE 7 true else t
  let t := t.setPwr (fun p => { p.restarted with
    shed := false, holdup := false, fellAt := none, roseAt := none, confAt := none, overShed := false, resetDue := none, cycleDue := none })
  (t.setEth (fun e => { e with reload := some s.clk.now })).safPowerUp

/-- A start with AON lost (R115, R117). -/
def State.porReset (s : State) : State :=
  let t := { s.lose true false with clk := s.clk.stop }
  let key := s.bt R.PWR_STATE 8
  let t := t.wr R.PWR_STATE (word (3 + 256 * b2n key + 512))
  let t := if key then t else t.wb R.PWR_WAKE_CAUSE 7 true
  (t.setPwr (fun p => { ({} : Power) with meas := p.meas, keyOffAt := s.clk.now })).safPowerUp

/-- A kind that has come is due no more (R68, R390). -/
def State.resetTaken (s : State) (k : Nat) : State :=
  match k with
  | 4 => s.setPwr (fun p => { p with resetDue := none })
  | 5 => s.setSaf (fun x => { x with safrst := none })
  | _ => s

/-- A device-level reset of kind `k` (R115, R116). One that arrives while another is in progress joins it, and widens it where its own
scope is wider. A reset is in progress until the PLL locks, and so are the kinds due at its own instant (log entry 119). -/
def State.deviceReset (s : State) (k : Nat) : State :=
  let join := s.pwr.coreOn && !s.clk.running
  let t := if join && resetScope (s.fd R.SYS_RESET_CAUSE 18 16) ≤ resetScope k then { s with shadow := [] }
    else match resetScope k with
      | 0 => s.porReset
      | 1 => s.borReset
      | _ => s.warmReset
  ((t.resetTaken k).resetCause k join).resetCount k join

/-- POWER_ON_RESET (R115): a start with AON lost. -/
def execPowerOnReset (s : State) : Host.Outcome State Fault Refusal := s.runReset (fun s => s.deviceReset 0)

/-- PIN_RESET (R115): RESET_N low for `us` µs, with RESETN_EN set. Shorter than 100 µs it is ignored; up to 1 ms it may reset. -/
def execPinReset (us : Nat) (s : State) : Host.Outcome State Fault Refusal :=
  s.runReset (fun s =>
    if s.pwr.coreOn && s.bt R.SYS_WDOG_CFG 16 && (1000 ≤ us || (100 ≤ us && Config.resetnPulse us s.clk.now)) then s.deviceReset 2
    else s)

/-- WATCHDOG_RESET (R115). -/
def execWatchdogReset (s : State) : Host.Outcome State Fault Refusal :=
  s.runReset (fun s => if s.pwr.coreOn then s.deviceReset 3 else s)

/-- DEVICE_RESET (R68, R105, R513): 10 ms after the response; one that falls within a hold-up waits for its end. -/
def execDeviceReset (s : State) : Host.Outcome State Fault Refusal :=
  s.runReset (fun s =>
    match s.pwr.resetDue with
    | some t => if t ≤ s.clk.now && !s.pwr.holdup then s.deviceReset 4 else s
    | none => s)

/-- SAFETY_RESET (R390): 10 ms after STO for a clock or line fault. -/
def execSafetyReset (s : State) : Host.Outcome State Fault Refusal :=
  s.runReset (fun s =>
    match s.saf.safrst with
    | some t => if t ≤ s.clk.now && s.pwr.coreOn then s.deviceReset 5 else s
    | none => s)

/-! ### Clocks -/

/-- What `SYS_CLK_STATUS` shows of the 32.768 kHz crystal (R107). -/
def State.xtalShow (s : State) : State := (s.wb R.SYS_CLK_STATUS 2 (!s.pwr.xtalBad)).wb R.SYS_CLK_STATUS 3 s.pwr.xtalBad

/-- PLL_LOCK (R25, R106): CLK_CTL and CLK_TB start on one edge, with tick 0 and TB 0; PWR_HOLD is asserted if not already (R113). -/
def execPllLock (s : State) : Host.Outcome State Fault Refusal :=
  if s.clk.running || !s.pwr.coreOn then s.run id
  else s.runAt { s.clk.stop with running := true } (fun s =>
    (((s.setPwr (fun p => { p with resetDue := none, cycleDue := none })).wf_ R.SYS_CLK_STATUS 1 0 3).wb R.PWR_STATE 9 true).xtalShow)

/-- CLOCK_LOSS (R33, R107, R390): the island enters STO and the loss is counted; until the SAFRST the clocks run free. `tcxo`: the TCXO is
lost, else only the lock of the root PLL; a loss of the one already lost is none. -/
def execClockLoss (tcxo : Bool) (s : State) : Host.Outcome State Fault Refusal :=
  if !s.clk.running || (s.clk.lost && !(tcxo && s.bt R.SYS_CLK_STATUS 1)) then s.run id
  else s.runAt { s.clk with lost := true } (fun s =>
    let s := (s.inc R.SYS_PLL_UNLOCKS).wb R.SYS_CLK_STATUS 0 false
    let s := if tcxo then s.wb R.SYS_CLK_STATUS 1 false else s
    (s.setPwr (fun p => { p with clockEvent := true })).safClockLoss)

/-- XTAL32_FAIL (R107): the AON domain falls back to its internal oscillator. -/
def execXtal32Fail (s : State) : Host.Outcome State Fault Refusal :=
  s.runIn .pwr (fun s =>
    if s.pwr.aonOn then (s.setPwr (fun p => { p with xtalBad := true })).xtalShow else s)

/-! ### From BOOT to READY -/

/-- After a POR, operating seconds, power cycles and energy return from the mirror; the cycle count then rises by one (R117, R118). -/
def State.initCounts (s : State) : State :=
  if !s.pwr.porFirst then s
  else
    let m := s.prm.store
    let s := s.wr R.SYS_OP_SECONDS (s.rd R.SYS_OP_SECONDS + word m.opSec)
    let s := s.wf_ R.SYS_PWR_CYCLES 23 0 (s.fd R.SYS_PWR_CYCLES 23 0 + m.cycles + 1)
    let s := s.wr64 R.PWR_ENERGY_LO R.PWR_ENERGY_HI (s.rd64 R.PWR_ENERGY_LO R.PWR_ENERGY_HI + m.energy)
    (s.recInit).setPwr (fun p => { p with porFirst := false })

/-- LINK, SYS, SAF, PAIR, REC, UPD and PRM report RUNNING (R45). -/
def State.serviceUp (s : State) : State :=
  (List.range 24).foldl (fun (s : State) f => if serviceFn f then s.setFn f (fun x => { x with state := .running }) else s) s

/-- CONTAINER_VERIFIED (R113, R114, R503, R511): the Beryl loader's verdict on the container; `ok` whether the stored bytes read back
as written. INIT releases the application cluster; after a POR the switch's ports are enabled from here on. -/
def execContainerVerified (ok : Bool) (s : State) : Host.Outcome State Fault Refusal :=
  s.runIn (Foot.pwr.and [.adr, .eth, .psw, .saf, .upd] [.adb, .adr, .psw]) (fun s =>
    if s.dome != 0 || !s.clk.running || !s.pwr.coreOn then s
    else
      let good := match s.upd.stored with
        | some x => x.verify (Config.fffLevel) s.prm.store.svn == stOK
        | none => true
      let s := s.setEth (fun e => if e.reload.isSome then e else { e with fwd := true, ext := true })
      if ok && good && !s.upd.marker && !s.pwr.third then
        (s.setUpd (fun u => { u with run := u.stored })).domeSet 1
      else s.initCounts.serviceUp.domeSet 6)

/-- Values of RWL registers from the parameter store (R84). -/
def State.initRwl (s : State) : State :=
  s.prm.store.rwl.foldl (fun (s : State) e => s.wr e.1 (e.2 &&& maskAt e.1)) s

/-- The items that commands stored outside CONFIGURE (R517) return to their functions. -/
def State.initItem (s : State) (e : Nat × List Byte) : State :=
  let f := e.1 / 256
  let i := e.1 % 256
  let p := e.2
  if f = fYPL then
    s.setYpl (fun y => { y with cfgKernel := some ((List.range 256).map (fun n => i32 p (4 * n)), u32 p 1024) })
  else if f = fCAM then
    s.setCamCtx (i / 2) (fun c => { c with
      tab := (List.range (camTblSize (i % 2))).map (fun n => (camKey (i % 2) n, u16 p (2 * n))) ++
        c.tab.filter (fun x => !((List.range (camTblSize (i % 2))).any (fun n => camKey (i % 2) n == x.1))) })
  else if f = fPOS then
    (s.wr R.POS_SENTRY_CFG (word (u8 p 0 + 4 * u8 p 1 + 16 * u8 p 2 + 256 * u8 p 3 + 65536 * u16 p 4))).wr R.POS_SENTRY_INT (w32 p 8)
  else if f = fETH then
    if (s.ethPort i).oper = gclOf p then s else (s.setEthPort i (fun q => { q with pend := gclOf p })).gclGo i
  else if f = fREC then
    s.setRec (fun r => { r with
      classes := (i, (List.range (p.length / 4)).map (fun n => w32 p (4 * n))) :: r.classes.filter (fun x => x.1 != i) })
  else s

/-- The state of each function at READY (R113, R114): its applied configuration written as its APPLY would. -/
def State.initFn (s : State) (f : Nat) : State :=
  let unused := s.plant && (f == fYPL || f == 10 || f == fPOS || f == fCAM)
  match s.prm.store.configs.lookup f with
  | some p =>
    let s := if unused then s else s.fnApply f p
    s.setFn f (fun x => { x with
      applied := some p, state := if serviceFn f then .running else if unused then .unused else .configured })
  | none => s.setFn f (fun x => { x with state := if serviceFn f then .running else if unused then .unused else .stopped })

/-- What Dome posts at READY (R103, R561): the start, a clock loss, a hold-up that ended in a BOR. -/
def State.readyEvents (s : State) : State :=
  let last := s.fd R.SYS_RESET_CAUSE 18 16
  let s := s.post 1 (if last = 3 || last = 5 then .startFault else .startInfo)
  let s := if s.pwr.clockEvent then s.post 1 .clockLoss else s
  let s := if s.pwr.borEvent then s.post 1 .holdupBor else s
  s.setPwr (fun p => { p with clockEvent := false, borEvent := false })

/-- INIT until Dome is READY (R12, R84, R113, step 5): the parameter store is read, RWL registers and configurations are written,
locks set. `loop` is the crack-loop reading. -/
def State.initStart (loop : Nat) (s : State) : State :=
  let s := s.prmMount.initCounts
  let s := s.wr R.SYS_PROFILE (word (s.prm.store.profile % 2 + 256 * (s.prm.store.profile % 2)))
  let s := s.initRwl
  let s := s.prm.store.items.foldl State.initItem s
  let s := if s.ypl.cfgKernel.isSome then s.yplReinit else s
  let s := (List.range 24).foldl State.initFn s
  let s := s.pairInit.canForce
  let s := (s.pnlInit loop).setRec (fun r => { r with cap := 2048 })
  let s := s.wr R.SYS_BOOTLOCK 0x3F#32
  ((s.setPwr (fun p => { p with held := 2 })).setSentry (fun y => { y with on := false, wake := false })).domeSet 2

/-- What follows once Dome is READY (R113, R114, R451, R514, R520): the events of the start, the functions whose sub-image fails its
check or whose calibration is bad, and RUN where a function is marked autostart. -/
def State.initEnd (subOk : Nat) (s : State) : State :=
  let s := s.readyEvents
  let bad := subFns.filter (fun f => !nbit subOk f) ++ (if s.prm.calBad then [3, 4, 6, 11] else [])
  let s := bad.foldl State.fnFault s
  let s := (s.pairReady.pnlReady s.fltUnit s.recFaults).recShow
  let s := if s.pwr.fromSentry then (s.setPwr (fun p => { p with fromSentry := false })).sentryNote else s
  if s.prm.store.autostart != 0 then s.goRun else s

/-- INIT_COMPLETE (R113, step 5): `subOk` has a bit for each function whose sub-image passes its check. -/
def execInitComplete (subOk loop : Nat) (s : State) : Host.Outcome State Fault Refusal :=
  s.run (fun s => if s.dome != 1 || !s.clk.running then s else (s.initStart loop).initEnd subOk)

end Sys2Proof.Machine
end

