-- ==== Sys2Proof/Machine/Power.lean ====
section
/-!
DEFINITION. Supplies, power states and key-off (chapter 04: R93 to R112, R118, R119; R550, R558).
-/
namespace Sys2Proof.Machine

/-! ### Supply monitoring -/

/-- The threshold of supply `i` in mV (R97). -/
def State.dipTh (s : State) (i : Nat) : Nat :=
  if i < 2 then clampN 8000 30000 (s.fd R.PWR_VWARN 15 0)
  else if i < 6 then clampN 8000 18000 (s.fd (R.PSW_GRP_UV (i - 2)) 15 0)
  else 19200

/-- SUPPLY_DIP_BEGIN (R97): supply `i` stands at `mv`. -/
def execSupplyDipBegin (i mv : Nat) (s : State) : Host.Outcome State Fault Refusal :=
  s.runIn .pwr (fun s =>
    if i < 10 && s.pwr.aonOn && (s.pwr.dipSince.getD i none).isNone && mv < s.dipTh i then
      (s.setPwr (fun p => { p with dipSince := updAt p.dipSince i (fun _ => some s.clk.now) })).wb R.PWR_SUP_STATUS i true
    else s)

/-- SUPPLY_DIP_END (R97): supply `i` has risen to `mv`, above its threshold plus 0.5 V. -/
def execSupplyDipEnd (i mv : Nat) (s : State) : Host.Outcome State Fault Refusal :=
  s.runIn .pwr (fun s =>
    match s.pwr.dipSince.getD i none with
    | some t =>
      if mv ≤ s.dipTh i + 500 then s
      else
        let dur := min 0xFFFFFF ((s.clk.now - t) / 2000)
        let s := (s.setPwr (fun p => { p with dipSince := updAt p.dipSince i (fun _ => none) })).wb R.PWR_SUP_STATUS i false
        let s := (s.inc (R.PWR_DIP_CNT i)).wr (R.PWR_DIP_LAST i) (word dur)
        let s := s.wr (R.PWR_DIP_MAX i) (word (max dur (s.fd (R.PWR_DIP_MAX i) 23 0)))
        (s.post 1 .supplyDip).notify 1 0x83 ([byte i, 0#8, 0#8, 0#8] ++ leBytes 4 dur)
    | none => s)

/-! ### The counter mirror -/

/-- The operating-second, power-cycle and energy counts are written to their mirror (R118); after a POR they first return from it
(R117). -/
def State.mirrorWrite (s : State) : State :=
  let s := s.initCounts
  (s.prmTxn (fun x => { x with
    opSec := (s.rd R.SYS_OP_SECONDS).toNat, cycles := s.fd R.SYS_PWR_CYCLES 23 0,
    energy := s.rd64 R.PWR_ENERGY_LO R.PWR_ENERGY_HI })).setPwr (fun p => { p with mirrorTb := s.clk.tb })

/-- COUNTER_MIRROR_WRITE (R118): every 60 s in RUN. -/
def execCounterMirrorWrite (s : State) : Host.Outcome State Fault Refusal :=
  s.runIn (Foot.pwr.and [.prm] [.prm]) (fun s =>
    if s.power = 3 && s.dome != 0 && s.clk.running && s.tbPast s.pwr.mirrorTb (tbMs 60000) then s.mirrorWrite else s)

/-! ### Shed and hold-up -/

/-- The stages of R101 go off, and what follows them. -/
def State.shedStages (s : State) : State :=
  let s := s.adrEnables
  let s := (s.pswShed).pswEnables.supUpdateAll
  s.camShed.ethShed.safShed

/-- The shed stages return at the confirming instant (R104): bank high sides at the next tick boundary, load switches by their own
under-voltage restart, the PHYs with link training. -/
def State.returnStages (s : State) : State :=
  ((s.adrEnables.pswEnables.supUpdateAll).camPhyReturn).safShedReturn

/-- The module may start once VBAT stands above 8.0 V (R103, R109, R115): a POR where AON power was lost, else a BOR. -/
def State.startUp (s : State) : State :=
  if s.pwr.coreOn || !s.pwr.vbatOk then s
  else if s.pwr.aonOn then s.deviceReset 1
  else s.deviceReset 0

/-- VRST_SHED (R101 to R103, R452): VBAT has fallen to `mv`. Below 7.5 V the stages go off, the PAIR_ALIVE line presents DEAD; Dome commits recorder staging and writes the
counter mirror. A sag of a hold-up's VBAT below 8.0 V breaks the 1 ms of its confirmation. -/
def execVrstShed (mv : Nat) (s : State) : Host.Outcome State Fault Refusal :=
  s.runIn (Foot.pwr.and [.adr, .cam, .gptp, .pair, .prm, .psw, .saf] [.adb, .adr, .ain, .cam, .eth, .prm, .psw]) (fun s =>
    if 7500 ≤ mv then
      if s.pwr.holdup && mv ≤ 8000 then s.setPwr (fun p => { p with vbatOk := false, lowAt := s.clk.now, confAt := none }) else s
    else if !s.pwr.vbatOk && !(s.pwr.holdup && s.pwr.roseAt.isSome) then s
    else
      let s := s.setPwr (fun p => { p with vbatOk := false, lowAt := s.clk.now, roseAt := none, confAt := none })
      if !s.pwr.coreOn || s.pwr.holdup then s
      else
        let s := s.setPwr (fun p => { p with shed := true, holdup := true, fellAt := some s.clk.now })
        let s := (s.setPair (fun p => { p with alive := false })).shedStages.recClose
        (if s.dome = 0 then s else s.mirrorWrite).recShow)

/-- VBAT_RISE_VRST (R103, R109): VBAT has risen to `mv`, above 8.0 V: the 1 ms of a hold-up's confirmation begins, or the module starts. -/
def execVbatRiseVrst (mv : Nat) (s : State) : Host.Outcome State Fault Refusal :=
  s.runReset (fun s =>
    if mv ≤ 8000 || s.pwr.vbatOk then s
    else
      let s := s.setPwr (fun p => { p with
        vbatOk := true, roseAt := if p.holdup then some (p.roseAt.getD s.clk.now) else none,
        confAt := if p.holdup then some s.clk.now else none })
      if s.pwr.coreOn then s
      else
        let s := s.setPwr (fun p => { p with vbatBack := true })
        if s.pwr.releasedAt.isSome then s else s.startUp)

/-- Whether the hold-up that began at `fell` recovers by a rise at `rose` (R103): 1 ms above 8.0 V completes within 30 ms. -/
def holdupGood (fell rose : Nat) : Bool := decide (rose + fabMs 1 ≤ fell + fabMs 30)

/-- `PWR_HOLDUP_LAST` takes DUR and OUTCOME (R103). -/
def State.holdupLast (s : State) (dur outcome : Nat) : State := s.wr R.PWR_HOLDUP_LAST (word (dur % 65536 + 65536 * outcome))

/-- PWR_HOLD is released and the core domains turn off (R94): `n` is the power state, 0 OFF or 1 SENTRY. Dome has recorded its events. -/
def State.holdRelease (s : State) (n : Nat) : State :=
  let s := (List.range s.almanac.fifo.length).foldl (fun (s : State) _ => s.recTake) s
  let now := s.clk.now
  let t := s.coreStop false
  (t.wr R.PWR_STATE (setBit (setFld (t.rd R.PWR_STATE) 1 0 n) 9 false)).setPwr (fun p => { p with
    releasedAt := some now, keyOffAt := now, offAt := now, wakePend := false, woken := false, vbatBack := false })

/-- A due release after SYS_POWER_CYCLE (R68, R94): the BOR that follows shows PCYCLE. -/
def State.powerCycle (s : State) : State := (s.wb R.SYS_RESET_CAUSE 9 true).holdRelease 0

/-- HOLDUP_RECOVERED (R103 to R105): VBAT has stayed above 8.0 V for 1 ms within the hold-up. Deferred resets are performed; where a
power cycle and a device reset are both due, the power cycle, whose BOR reaches further (R116, DEDUCED, log entry 119). -/
def execHoldupRecovered (s : State) : Host.Outcome State Fault Refusal :=
  s.runReset (fun s =>
    match s.pwr.fellAt, s.pwr.confAt with
    | some f, some r =>
      if !s.pwr.holdup || !s.pwr.vbatOk || s.clk.now < r + fabMs 1 || !holdupGood f r then s
      else
        let dur := (s.pwr.roseAt.getD r - f) / 2000
        let s := s.setPwr (fun p => { p with shed := false, holdup := false, fellAt := none, roseAt := none, confAt := none })
        let s := s.setPair (fun p => { p with alive := decide (2 ≤ s.dome && s.dome ≤ 5) })
        let s := (s.holdupLast dur 1).returnStages.pnlHoldup.recShow
        let s := (s.post 1 .holdupRecovered).notify 1 0x84 ([1#8, 0#8, 0#8, 0#8] ++ leBytes 4 dur)
        if s.pwr.cycleDue.any (fun t => t ≤ s.clk.now) then s.powerCycle
        else if s.pwr.resetDue.any (fun t => t ≤ s.clk.now) then s.deviceReset 4
        else s
    | _, _ => s)

/-- HOLDUP_EXPIRY (R103, R105): at 30 ms without recovery the core domains stop and deferred resets are discarded; with VBAT above
8.0 V the start follows at once. -/
def execHoldupExpiry (s : State) : Host.Outcome State Fault Refusal :=
  s.runReset (fun s =>
    match s.pwr.fellAt with
    | some f =>
      if !s.pwr.holdup || s.clk.now < f + fabMs 30 || s.pwr.confAt.any (fun r => holdupGood f r) then s
      else
        let dur := match s.pwr.roseAt with
          | some r => if r ≤ f + fabMs 30 then (r - f) / 2000 else 3000
          | none => 3000
        let s := (s.holdupLast dur 2).coreStop false
        (s.setPwr (fun p => { p with borEvent := true })).startUp
    | none => s)

/-- BROWN_OUT_RESET (R94, R103, R109, R115): the start with AON kept, once nothing holds it back: the core domains off, VBAT above
8.0 V, PWR_HOLD not kept released. -/
def execBrownOutReset (s : State) : Host.Outcome State Fault Refusal :=
  s.runReset (fun s => if s.pwr.aonOn && s.pwr.releasedAt.isNone && (s.pwr.woken || s.pwr.vbatBack) then s.startUp else s)

/-- OVERVOLTAGE_SHED (R550): VBAT has stayed at `mv`, above 38.0 V, for 10 µs. -/
def execOvervoltageShed (mv : Nat) (s : State) : Host.Outcome State Fault Refusal :=
  s.runIn (Foot.pwr.and [.adr, .cam, .gptp, .psw, .saf] [.adb, .adr, .ain, .cam, .eth, .psw]) (fun s =>
    if mv ≤ 38000 || s.pwr.overShed || !s.pwr.coreOn then s
    else ((s.setPwr (fun p => { p with overShed := true })).shedStages).post 1 .overVoltage)

/-- OVERVOLTAGE_RECOVER (R104, R550): VBAT has stayed at `mv`, below 37.0 V, for 1 ms. -/
def execOvervoltageRecover (mv : Nat) (s : State) : Host.Outcome State Fault Refusal :=
  s.runIn (Foot.pwr.and [.adr, .cam, .psw, .saf] [.adb, .adr, .ain, .psw]) (fun s =>
    if 37000 ≤ mv || !s.pwr.overShed then s else (s.setPwr (fun p => { p with overShed := false })).returnStages)

/-- The voltage from which a feed carries the AON domain, in mV (chapter 27). -/
def aonMin : Nat := 6000

/-- Whether VBAT_AON is absent, as last measured (R93): SENTRY is then unavailable. -/
def State.aonAbsent (s : State) : Bool := decide (s.pwr.meas.mv.getD 1 0 < aonMin)

/-- AON_POWER_LOSS (R93): VBAT_AON does not carry the AON domain either, and the 2 s of hold-up since VBAT was removed have run out: class K
contents are lost and SENTRY ends. -/
def execAonPowerLoss (s : State) : Host.Outcome State Fault Refusal :=
  s.runReset (fun s =>
    if s.pwr.coreOn || s.pwr.vbatOk || !s.pwr.aonOn || s.clk.now < s.pwr.lowAt + fabS 2 then s
    else
      let t := s.coreStop true
      let t := t.wr R.PWR_STATE (word (256 * s.fd R.PWR_STATE 8 8))
      t.setPwr (fun p => { ({} : Power) with meas := p.meas, coreOn := false, aonOn := false, vbatOk := false, xtalBad := p.xtalBad,
                                             keyOffAt := s.clk.now }))

/-! ### Temperatures -/

/-- A threshold with its own clearing value in 0.01 °C: on from `hi`, off below `lo`. -/
def hystT (old : Bool) (t hi lo : Int) : Bool := if hi ≤ t then true else if t < lo then false else old

/-- A crossing posts an event (R558). -/
def State.tempEvent (s : State) (old new : Bool) : State := if new && !old then s.post 1 .temperature else s

/-- TEMP_THRESHOLD (R558): the temperature of SIG 0x1D0 + `i` stands at `t`. -/
def execTempThreshold (i : Nat) (t : Int) (s : State) : Host.Outcome State Fault Refusal :=
  s.runIn (Foot.pwr.and [.adr, .vxa] [.adb]) (fun s =>
    let p := s.pwr
    match i with
    | 0 =>
      let w := hystT p.tempWarn t 8800 8500
      (s.setPwr (fun p => { p with tempWarn := w })).tempEvent p.tempWarn w
    | 1 =>
      let w := hystT p.appLimit t 10500 10000
      (s.setPwr (fun p => { p with appLimit := w })).tempEvent p.appLimit w
    | 2 =>
      let w := hystT p.vxaHalf t 10500 10000
      let h := hystT p.vxaHot t 11500 10000
      let s := (s.setPwr (fun p => { p with vxaHalf := w, vxaHot := h })).tempEvent p.vxaHalf w
      let s := s.tempEvent p.vxaHot h
      if h && !p.vxaHot then s.vxaAbort else s
    | 8 =>
      let w := hystT p.boostHot t 12500 11500
      ((s.setPwr (fun p => { p with boostHot := w })).bstSync).tempEvent p.boostHot w
    | 9 =>
      let w := hystT p.dramHot t 9500 9000
      (s.setPwr (fun p => { p with dramHot := w })).tempEvent p.dramHot w
    | _ => s)

/-! ### Wake -/

/-- PWR_HOLD is asserted and the module starts once VBAT stands above 8.0 V (R109); a wake from SENTRY ends it. -/
def State.wakeNow (s : State) : State :=
  let s := if s.power = 1 then (s.sentryEnd).setPwr (fun p => { p with fromSentry := true }) else s
  ((s.wb R.PWR_STATE 9 true).setPwr (fun p => { p with woken := true, wakePend := false, releasedAt := none })).startUp

/-- STANDBY ends in RUN (R108, R109, R131, R428): the session idle timers go on from where they stood, the timer of a session whose
latest command came meanwhile from its start, and sensor supplies return. -/
def State.standbyEnd (s : State) : State :=
  let d := s.clk.tb - s.pwr.offTb
  let s := { s with mbx := { s.mbx with sessions := s.mbx.sessions.map (fun (x : Session) => { x with
    lastCmd := min (x.lastCmd + d) s.clk.tb }) } }
  let s := (s.wf_ R.PWR_STATE 1 0 3).setPwr (fun p => { p with appSusp := false, step3Done := false })
  s.supUpdateAll.canWakeUp

/-- A wake source `src` (a bit of `PWR_WAKE_EN`) is seen (R109): not before `PWR_PC_OFF` has run out after a release (R94). -/
def State.wakeBy (s : State) (src : Nat) : State :=
  if s.power = 3 || !s.pwr.aonOn then s
  else
    let s := s.wb R.PWR_WAKE_CAUSE src true
    if s.power = 2 then s.standbyEnd
    else if s.pwr.releasedAt.isSome then s.setPwr (fun p => { p with wakePend := true })
    else s.wakeNow

/-- Whether the wake timer has run out since the module left RUN (R107, R109). -/
def State.timerDue (s : State) : Bool :=
  s.rd R.PWR_TIMER != 0#32 && decide (32768 * (s.rd R.PWR_TIMER).toNat ≤ s.aonTicks (s.clk.now - s.pwr.offAt))

/-- Whether a digital input wakes the module (R126): it is selected, its level has been held for 1 ms, and its group's VFS is present. -/
def State.dinWakes (s : State) (d : WakeIn) : Bool :=
  decide (d.n < 40) && s.bt (if d.n < 32 then R.DIN_WAKE_SEL0 else R.DIN_WAKE_SEL1) (d.n % 32) && decide (d.since + fabMs 1 ≤ s.clk.now) &&
    decide (9000 ≤ d.vfs)

/-- WAKE (R109, R126): a source enabled in `PWR_WAKE_EN`; KEY as a filtered level that is on, DIN by the change of an input. -/
def execWake (w : WakeIn) (s : State) : Host.Outcome State Fault Refusal :=
  s.runReset (fun s =>
    match w.src with
    | 0 => if s.bt R.PWR_STATE 8 then s.wakeBy 0 else s
    | 1 => if s.bt R.PWR_WAKE_EN 1 && s.dinWakes w then s.wakeBy 1 else s
    | 4 => if s.bt R.PWR_WAKE_EN 4 && s.timerDue then s.wakeBy 4 else s
    | 6 => if s.bt R.PWR_WAKE_EN 6 && s.pos.sentry.wake then s.wakeBy 6 else s
    | 7 => s
    | n => if n < 7 && s.bt R.PWR_WAKE_EN n then s.wakeBy n else s)

/-- POWER_OFF_HOLD_END (R94, R109): `PWR_PC_OFF` after a release ends; a wake that waited, a KEY that is on, or a VBAT that returned
meanwhile starts the module. -/
def execPowerOffHoldEnd (s : State) : Host.Outcome State Fault Refusal :=
  s.runReset (fun s =>
    match s.pwr.releasedAt with
    | some t =>
      if s.clk.now < t + fabMs (clampN 500 10000 (s.fd R.PWR_PC_OFF 13 0)) then s
      else
        let s := s.setPwr (fun p => { p with releasedAt := none })
        let s := if s.bt R.PWR_STATE 8 then s.wb R.PWR_WAKE_CAUSE 0 true else s
        if s.pwr.wakePend || s.bt R.PWR_STATE 8 then s.wakeNow
        else if s.pwr.vbatBack then s.startUp
        else s
    | none => s)

/-! ### Key-off -/

/-- KEY_OFF (R96, R111): the filtered KEY falls; in RUN the sequence begins. -/
def execKeyOff (s : State) : Host.Outcome State Fault Refusal :=
  s.runIn .pwr (fun s =>
    if !s.bt R.PWR_STATE 8 then s
    else
      let s := s.wb R.PWR_STATE 8 false
      if s.power != 3 || !s.pwr.coreOn || s.pwr.keyOff != .none then s
      else
        (s.setPwr (fun p => { p with keyOff := .delay, keyTb := s.clk.tb })).notify 1 0x80 (leBytes 8 s.clk.tb))

/-- KEY_ON (R96, R109, R112): the filtered KEY rises: a sequence before step 2 ends; out of RUN it is a wake. -/
def execKeyOn (s : State) : Host.Outcome State Fault Refusal :=
  s.runReset (fun s =>
    if s.bt R.PWR_STATE 8 then s
    else
      let s := s.wb R.PWR_STATE 8 true
      if s.power != 3 then s.wakeBy 0
      else if !s.pwr.coreOn || s.pwr.keyOff = .shutdown then s
      else (s.setPwr (fun p => { p with keyOff := .none })).notify 1 0x81 (leBytes 8 s.clk.tb))

/-- Step 2 of key-off (R111): SYS_SHUTDOWN with target and deadline; every function is stopped. A target of SENTRY is taken as OFF in PLANT
(R108) and without VBAT_AON (R93). -/
def State.keyOffStep2 (s : State) (target : Nat) : State :=
  let t := if (s.plant || s.aonAbsent) && target = 1 then 0 else target
  let s := s.notify 1 0x82 ([byte t, 0#8, 0#8, 0#8] ++ leBytes 4 5000)
  let s := ((List.range 24).filter (fun f => !serviceFn f && s.isRunning f)).foldl (fun (s : State) f => s.fnStop f) s
  s.setPwr (fun p => { p with keyOff := .shutdown, step2At := s.clk.now, step3Done := false, target := t })

/-- Step 3 of key-off (R110, R111, R485): staging committed, counter mirror written, journal closed, panel updated. -/
def State.keyOffStep3 (s : State) (loop : Nat) : State :=
  let s := (List.range s.almanac.fifo.length).foldl (fun (s : State) _ => s.recTake) s
  let s := s.recFlushAll
  let s := if s.pwr.target = 1 then (s.setRec (fun r => { r with cap := 512 })).recShow else s
  (s.mirrorWrite.prmClose.pnlKeyOff loop).setPwr (fun p => { p with step3Done := true })

/-- Whether a SYS_KEEP_AWAKE hold runs (R111, R119). -/
def State.keptAwake (s : State) : Bool :=
  s.mbx.sessions.any (fun x => x.keepAwake.any (fun t => s.clk.tb < t))

/-- KEYOFF_SHUTDOWN (R111, R510): step 2 at the end of DELAY_S, of every hold and of an update, then step 3. `loop` is the crack-loop
reading. -/
def execKeyoffShutdown (loop : Nat) (s : State) : Host.Outcome State Fault Refusal :=
  s.run (fun s =>
    match s.pwr.keyOff with
    | .none => s
    | .delay =>
      if s.clk.tb < s.pwr.keyTb + tbMs (1000 * s.fd R.PWR_KEYOFF_CFG 25 16) || s.keptAwake || (s.dome = 5 && !s.upd.keyGo) then s
      else (s.keyOffStep2 (s.fd R.PWR_KEYOFF_CFG 1 0)).keyOffStep3 loop
    | .shutdown => if s.pwr.step3Done then s else s.keyOffStep3 loop)

/-- The E12 PHY sends a TC10 sleep request (R436). -/
def State.tc10 (s : State) : State :=
  if s.bt R.PWR_WAKE_EN 3 then { s with out := s.out ++ [OutMsg.bytes .tc10Sleep 12 []] } else s

/-- KEYOFF_FINAL (R94, R111, R321, R436): 5 s after step 2 the module enters STANDBY, SENTRY or OFF. `susp`: the application cluster has
suspended, without which STANDBY becomes OFF and an event is posted. -/
def execKeyoffFinal (susp : Bool) (s : State) : Host.Outcome State Fault Refusal :=
  s.runReset (fun s =>
    if s.pwr.keyOff != .shutdown || !s.pwr.step3Done || s.clk.now < s.pwr.step2At + fabS 5 then s
    else
      let s := s.tc10
      if s.pwr.target = 2 then
        if susp then
          let s := s.setPwr (fun p => { p with keyOff := .none, step3Done := false, offAt := s.clk.now, offTb := s.clk.tb, appSusp := true })
          (s.wf_ R.PWR_STATE 1 0 2).canStandby.supUpdateAll.safShed
        else (s.post 1 (.other 1)).holdRelease 0
      else if s.pwr.target = 1 then s.sentryBegin.holdRelease 1
      else s.holdRelease 0)

/-- KEEP_AWAKE_EXPIRY (R119): the hold of session `k` runs out. -/
def execKeepAwakeExpiry (k : Nat) (s : State) : Host.Outcome State Fault Refusal :=
  s.runIn .pwr (fun s =>
    if (s.ses k).keepAwake.any (fun t => t ≤ s.clk.tb) then s.setSes k (fun x => { x with keepAwake := none }) else s)

/-- STANDBY_TIMEOUT (R110): after STBY_MAX_H hours in STANDBY the module commits its state, and moves to OFF once the panel's update, if
any, has been driven: at once, or with the next STANDBY_TIMEOUT after it. -/
def execStandbyTimeout (loop : Nat) (s : State) : Host.Outcome State Fault Refusal :=
  s.runReset (fun s =>
    let h := s.fd R.PWR_KEYOFF_CFG 15 8
    if s.power != 2 || h = 0 || s.clk.now < s.pwr.offAt + fabS (3600 * h) then s
    else
      let s := if s.pwr.step3Done then s else (s.setPwr (fun p => { p with target := 0 })).keyOffStep3 loop
      if s.pnlIdle then s.holdRelease 0 else s)

/-- SENTRY_AON_LOW (R110): VBAT_AON stands at `mv`, below V_WARN since the time `since` in CLK_FAB periods. -/
def execSentryAonLow (mv since : Nat) (s : State) : Host.Outcome State Fault Refusal :=
  s.runIn (Foot.pwr.and [.pos] []) (fun s =>
    if s.power = 1 && mv < s.dipTh 1 && since + fabS 60 ≤ s.clk.now then s.sentryEnd.wf_ R.PWR_STATE 1 0 0 else s)

/-- PWR_HOLD_RELEASE (R68, R94, R105): 10 ms after the answer to SYS_POWER_CYCLE; within a hold-up it waits for the end. -/
def execPwrHoldRelease (s : State) : Host.Outcome State Fault Refusal :=
  s.runReset (fun s =>
    match s.pwr.cycleDue with
    | some t => if t ≤ s.clk.now && !s.pwr.holdup then s.powerCycle else s
    | none => s)

/-! ### Commands -/

/-- SYS_DEVICE_RESET (R68): OK, and DEVRST 10 ms after the response. -/
def execSysDeviceReset (c : Cmd) (s : State) : Host.Outcome State Fault Refusal :=
  s.runIn .pwr (fun s => s.command 1 0x10 1 c (fun _ s =>
    if !c.payload.isEmpty then refuse stBAD_LENGTH s
    else okWith [] (s.setPwr (fun p => { p with resetDue := some (p.resetDue.getD (s.clk.now + fabMs 10)) }))))

/-- SYS_POWER_CYCLE (R68): OK, and PWR_HOLD is released 10 ms later. -/
def execSysPowerCycle (c : Cmd) (s : State) : Host.Outcome State Fault Refusal :=
  s.runIn .pwr (fun s => s.command 1 0x11 1 c (fun _ s =>
    if !c.payload.isEmpty then refuse stBAD_LENGTH s
    else okWith [] (s.setPwr (fun p => { p with cycleDue := some (p.cycleDue.getD (s.clk.now + fabMs 10)) }))))

/-- SYS_KEEP_AWAKE (R119): one hold per session, the latest replacing the earlier; 0 s releases it. -/
def execSysKeepAwake (c : Cmd) (s : State) : Host.Outcome State Fault Refusal :=
  s.runIn .pwr (fun s => s.command 1 0x12 0 c (fun k s =>
    let n := u16 c.payload 0
    if c.payload.length != 2 then refuse stBAD_LENGTH s
    else if 3600 < n then refuse stBAD_PARAM s
    else okWith [] (s.setSes k (fun x => { x with keepAwake := if n = 0 then none else some (s.clk.tb + tbMs (1000 * n)) }))))

/-- SYS_SHUTDOWN_NOW (R119): step 2 of key-off at once; WRONG_STATE while KEY is on, and from step 2 on. -/
def execSysShutdownNow (c : Cmd) (s : State) : Host.Outcome State Fault Refusal :=
  s.run (fun s => s.command 1 0x13 0 c (fun _ s =>
    if c.payload.length != 1 then refuse stBAD_LENGTH s
    else if 2 < u8 c.payload 0 then refuse stBAD_PARAM s
    else if s.bt R.PWR_STATE 8 || s.pwr.keyOff = .shutdown then refuse stWRONG_STATE s
    else okWith [] (s.keyOffStep2 (u8 c.payload 0))))

end Sys2Proof.Machine
end

