-- ==== Sys2Proof/Machine/Tick.lean ====
section
/-!
DEFINITION. The control-tick boundary and the pair cycle (R19, R25, R29, R34, R99, R100).
-/
namespace Sys2Proof.Machine

/-- SYS writes SIG 0x1C0 to 0x1DF from the latest measurement (R99); the reserved entries stay invalid. -/
def State.sysPublish (s : State) : State :=
  let m := s.pwr.meas
  let put (a n : Nat) (v : Nat → Int) (s : State) : State :=
    (List.range n).foldl (fun (s : State) i => s.setSig (a + i) (iword (v i))) s
  let s := put 0x1C0 10 (fun i => m.mv.getD i 0) s
  let s := put 0x1CA 1 (fun _ => m.vbst) s
  let s := put 0x1CB 3 (fun i => m.supMv.getD i 0) s
  let s := put 0x1CE 1 (fun _ => m.diss) s
  let s := put 0x1D0 10 (fun i => m.temps.getD i 0) s
  put 0x1DA 3 (fun i => m.supMa.getD i 0) s

/-- A millisecond of dissipation is integrated (R100), and operating seconds are counted from TB (R107); a whole hour shows on the
panel (R494). -/
def State.accumulate (s : State) : State :=
  let e := s.pwr.energyUj + s.pwr.meas.diss
  let s := s.wr64 R.PWR_ENERGY_LO R.PWR_ENERGY_HI (s.rd64 R.PWR_ENERGY_LO R.PWR_ENERGY_HI + e / 1000)
  let s := s.setPwr (fun p => { p with energyUj := e % 1000 })
  if s.tbPast s.pwr.opAccTb 50000000 then
    let s := (s.inc R.SYS_OP_SECONDS).setPwr (fun p => { p with opAccTb := p.opAccTb + 50000000 })
    if (s.rd R.SYS_OP_SECONDS).toNat % 3600 = 0 && s.dome != 0 then s.pnlHourChange else s
  else s

/-- Strobes the groups whose configuration has bit `b` and not bit `but` (R28, R85); a `but` above 15 excludes none. -/
def State.strobeBy (s : State) (b but : Nat) : State :=
  ((List.range 16).filter (fun g => s.bt (R.FAB_UG_CFG g) b && !s.bt (R.FAB_UG_CFG g) but)).foldl (fun (s : State) g => s.strobe g) s

/-- The signal bus is latched (R19). -/
def State.latchBus (s : State) : State := { s with regs := s.regs.copy (R.FAB_SIG 0) (R.FAB_SIG_LAT 0) 512 }

/-- The oldest boundary whose work is not done becomes the latest tick boundary (R25). -/
def Clk.tickNext (k : Clk) (tb : Nat) (rest : List Nat) : Clk :=
  { k with tickCount := k.tickCount + 1, tickStamp := tb, due := rest }

/-- The part of a boundary that falls on each pair cycle (R29, R99): the groups it strobes, what SYS writes and the state copy. -/
def State.pairCycle (s : State) : State :=
  let s := s.strobeBy 3 2
  let s := s.sysPublish.accumulate
  s.pswMs.pairBoundary.fltBoundary

/-- The work of a tick boundary in the order of R29; Yield Plate takes its inputs as the boundary leaves them (R20); the converter begins two more frames with it (R127), and speeds are computed after the latch, for the following boundary (R134). -/
def State.boundary (s : State) : State :=
  let s := (s.addCnt R.AIN_FRAME 2).strobeBy 2 16
  let s := s.adrTick.pswTick
  let s := (if s.clk.tickCount % 20 = 0 then s.pairCycle else s).yplTick
  let s := s.latchBus.merTick
  (List.range 12).foldl (fun (s : State) j => s.speedCompute s.clk.tickStamp j) s

/-- CONTROL_TICK (R29): a control-tick boundary that has come. -/
def execControlTick (s : State) : Host.Outcome State Fault Refusal :=
  match s.clk.due with
  | [] => s.run id
  | tb :: rest => s.runAt (s.clk.tickNext tb rest) State.boundary

/-- PAIR_CYCLE_BOUNDARY (R29, R99): every 20th boundary, with what is measured at it. -/
def execPairCycleBoundary (m : Measure) (s : State) : Host.Outcome State Fault Refusal :=
  match s.clk.due with
  | [] => s.run id
  | tb :: rest =>
    if (s.clk.tickCount + 1) % 20 != 0 then s.run id
    else s.runAt (s.clk.tickNext tb rest) (fun s => ((s.setPwr (fun p => { p with meas := m })).supLimits m.limit).boundary)

/-! ### Passing time -/

/-- Nothing commanded: one CLK_FAB period passes (DESIGN CHOICE, log entry 3), and waiting events whose actual start it brings begin
(R243). -/
def State.idle (s : State) : State := ({ s with clk := s.clk.advance (trimPpb s.regs), out := [] } : State).adrGo

end Sys2Proof.Machine
end

