-- ==== Sys2Proof/Machine/Dispatch.lean ====
section
/-!
DEFINITION. exec: one arm for each command, each a direct call of its meaning.
-/
namespace Sys2Proof.Machine

def exec (i : Instr) (s : State) : Host.Outcome State Fault Refusal :=
  match i with
  | .controlTick => Sys2Proof.Machine.execControlTick s
  | .pairCycleBoundary m => Sys2Proof.Machine.execPairCycleBoundary m s
  | .speedZeroTimeout j => Sys2Proof.Machine.execSpeedZeroTimeout j s
  | .registerWrite ini addr bits v => Sys2Proof.Machine.execRegisterWrite ini addr bits v s
  | .bitAliasAccess ini addr w => Sys2Proof.Machine.execBitAliasAccess ini addr w s
  | .guardFirstWrite ini addr v => Sys2Proof.Machine.execGuardFirstWrite ini addr v s
  | .guardCompanionWrite ini addr v => Sys2Proof.Machine.execGuardCompanionWrite ini addr v s
  | .guardTimeout ini blk => Sys2Proof.Machine.execGuardTimeout ini blk s
  | .stallWatchdog ini addr isWrite => Sys2Proof.Machine.execStallWatchdog ini addr isWrite s
  | .fabSigHostWrite n v => Sys2Proof.Machine.execFabSigHostWrite n v s
  | .sigHostAgeExpiry n => Sys2Proof.Machine.execSigHostAgeExpiry n s
  | .tbNowLoRead ini => Sys2Proof.Machine.execTbNowLoRead ini s
  | .tbTickCountLoRead ini => Sys2Proof.Machine.execTbTickCountLoRead ini s
  | .updStrobeWrite ini v => Sys2Proof.Machine.execUpdStrobeWrite ini v s
  | .fabUgCfgWrite ini g v => Sys2Proof.Machine.execFabUgCfgWrite ini g v s
  | .ugTbcmpStrobe g => Sys2Proof.Machine.execUgTbcmpStrobe g s
  | .globalSnapshot ini v => Sys2Proof.Machine.execGlobalSnapshot ini v s
  | .sysBootlockWrite ini v => Sys2Proof.Machine.execSysBootlockWrite ini v s
  | .mbxClaimRead ini => Sys2Proof.Machine.execMbxClaimRead ini s
  | .claimReservationLapse k => Sys2Proof.Machine.execClaimReservationLapse k s
  | .bootstrapRingPlacement k => Sys2Proof.Machine.execBootstrapRingPlacement k s
  | .sessionRingPlacement k => Sys2Proof.Machine.execSessionRingPlacement k s
  | .mbxQProdWrite n v slots => Sys2Proof.Machine.execMbxQProdWrite n v slots s
  | .mbxQConsWrite n v => Sys2Proof.Machine.execMbxQConsWrite n v s
  | .irqHoldoffExpiry => Sys2Proof.Machine.execIrqHoldoffExpiry s
  | .notifHoldoffExpiry k cls => Sys2Proof.Machine.execNotifHoldoffExpiry k cls s
  | .kmpDatagramRx ip port p => Sys2Proof.Machine.execKmpDatagramRx ip port p s
  | .ipv4ReassemblyTimeout ip ident => Sys2Proof.Machine.execIpv4ReassemblyTimeout ip ident s
  | .udpDataResend n => Sys2Proof.Machine.execUdpDataResend n s
  | .linkOpenKeepExpiry ip port => Sys2Proof.Machine.execLinkOpenKeepExpiry ip port s
  | .authBlockExpiry src => Sys2Proof.Machine.execAuthBlockExpiry src s
  | .sessionIdleTimeout k loop => Sys2Proof.Machine.execSessionIdleTimeout k loop s
  | .progressNotify fn permille => Sys2Proof.Machine.execProgressNotify fn permille s
  | .getInfo fn c => Sys2Proof.Machine.execGetInfo fn c s
  | .getStatus fn c => Sys2Proof.Machine.execGetStatus fn c s
  | .configure fn c => Sys2Proof.Machine.execConfigure fn c s
  | .apply fn c => Sys2Proof.Machine.execApply fn c s
  | .start fn c => Sys2Proof.Machine.execStart fn c s
  | .stop fn c => Sys2Proof.Machine.execStop fn c s
  | .reinit fn c loop => Sys2Proof.Machine.execReinit fn c loop s
  | .reinitComplete fn ok => Sys2Proof.Machine.execReinitComplete fn ok s
  | .setExpert fn c loop => Sys2Proof.Machine.execSetExpert fn c loop s
  | .expertTransfer fn => Sys2Proof.Machine.execExpertTransfer fn s
  | .linkOpen c => Sys2Proof.Machine.execLinkOpen c s
  | .linkAuth c => Sys2Proof.Machine.execLinkAuth c s
  | .linkClose c loop => Sys2Proof.Machine.execLinkClose c loop s
  | .linkPing c => Sys2Proof.Machine.execLinkPing c s
  | .linkSubscribe c => Sys2Proof.Machine.execLinkSubscribe c s
  | .linkDataAck c => Sys2Proof.Machine.execLinkDataAck c s
  | .linkKeySet c => Sys2Proof.Machine.execLinkKeySet c s
  | .supplyDipBegin k mv => Sys2Proof.Machine.execSupplyDipBegin k mv s
  | .supplyDipEnd k mv => Sys2Proof.Machine.execSupplyDipEnd k mv s
  | .vrstShed mv => Sys2Proof.Machine.execVrstShed mv s
  | .vbatRiseVrst mv => Sys2Proof.Machine.execVbatRiseVrst mv s
  | .holdupRecovered => Sys2Proof.Machine.execHoldupRecovered s
  | .holdupExpiry => Sys2Proof.Machine.execHoldupExpiry s
  | .overvoltageShed mv => Sys2Proof.Machine.execOvervoltageShed mv s
  | .overvoltageRecover mv => Sys2Proof.Machine.execOvervoltageRecover mv s
  | .pswGroupOvervoltage g mv => Sys2Proof.Machine.execPswGroupOvervoltage g mv s
  | .clockLoss tcxo => Sys2Proof.Machine.execClockLoss tcxo s
  | .xtal32Fail => Sys2Proof.Machine.execXtal32Fail s
  | .tempThreshold k t => Sys2Proof.Machine.execTempThreshold k t s
  | .keyOff => Sys2Proof.Machine.execKeyOff s
  | .keyOn => Sys2Proof.Machine.execKeyOn s
  | .keyoffShutdown loop => Sys2Proof.Machine.execKeyoffShutdown loop s
  | .keyoffFinal susp => Sys2Proof.Machine.execKeyoffFinal susp s
  | .keepAwakeExpiry k => Sys2Proof.Machine.execKeepAwakeExpiry k s
  | .standbyTimeout loop => Sys2Proof.Machine.execStandbyTimeout loop s
  | .sentryAonLow mv since => Sys2Proof.Machine.execSentryAonLow mv since s
  | .powerOffHoldEnd => Sys2Proof.Machine.execPowerOffHoldEnd s
  | .wake w => Sys2Proof.Machine.execWake w s
  | .counterMirrorWrite => Sys2Proof.Machine.execCounterMirrorWrite s
  | .powerOnReset => Sys2Proof.Machine.execPowerOnReset s
  | .brownOutReset => Sys2Proof.Machine.execBrownOutReset s
  | .pinReset us => Sys2Proof.Machine.execPinReset us s
  | .watchdogReset => Sys2Proof.Machine.execWatchdogReset s
  | .deviceReset => Sys2Proof.Machine.execDeviceReset s
  | .containerVerified ok => Sys2Proof.Machine.execContainerVerified ok s
  | .initComplete subOk loop => Sys2Proof.Machine.execInitComplete subOk loop s
  | .functionFault fn => Sys2Proof.Machine.execFunctionFault fn s
  | .sysStart c => Sys2Proof.Machine.execSysStart c s
  | .sysStop c => Sys2Proof.Machine.execSysStop c s
  | .sysDeviceReset c => Sys2Proof.Machine.execSysDeviceReset c s
  | .sysPowerCycle c => Sys2Proof.Machine.execSysPowerCycle c s
  | .sysKeepAwake c => Sys2Proof.Machine.execSysKeepAwake c s
  | .sysShutdownNow c => Sys2Proof.Machine.execSysShutdownNow c s
  | .diEdge n level ua => Sys2Proof.Machine.execDiEdge n level ua s
  | .dinFifoHiRead ini => Sys2Proof.Machine.execDinFifoHiRead ini s
  | .diWireBreak n ua => Sys2Proof.Machine.execDiWireBreak n ua s
  | .diBreakClear ua => Sys2Proof.Machine.execDiBreakClear ua s
  | .fieldSupplyChange g mv => Sys2Proof.Machine.execFieldSupplyChange g mv s
  | .dinReadEdges c => Sys2Proof.Machine.execDinReadEdges c s
  | .ainFaultEnter kind n on => Sys2Proof.Machine.execAinFaultEnter kind n on s
  | .ain4maTrip n => Sys2Proof.Machine.execAin4maTrip n s
  | .ain4maReconnect n => Sys2Proof.Machine.execAin4maReconnect n s
  | .supplyTrip k => Sys2Proof.Machine.execSupplyTrip k s
  | .supplyRetry k => Sys2Proof.Machine.execSupplyRetry k s
  | .supplyTripCountReset k => Sys2Proof.Machine.execSupplyTripCountReset k s
  | .ainSupRestartWrite ini v => Sys2Proof.Machine.execAinSupRestartWrite ini v s
  | .ainSupRestart c => Sys2Proof.Machine.execAinSupRestart c s
  | .ainBridgeTare c => Sys2Proof.Machine.execAinBridgeTare c s
  | .acuWindowEnd => Sys2Proof.Machine.execAcuWindowEnd s
  | .sentFrame ch f => Sys2Proof.Machine.execSentFrame ch f s
  | .sentTimeout ch => Sys2Proof.Machine.execSentTimeout ch s
  | .sentSlowMessage ch id ty data crc => Sys2Proof.Machine.execSentSlowMessage ch id ty data crc s
  | .sntSlowTable c => Sys2Proof.Machine.execSntSlowTable c s
  | .cstSample => Sys2Proof.Machine.execCstSample s
  | .cstHoldEnd => Sys2Proof.Machine.execCstHoldEnd s
  | .cstBlockEnd => Sys2Proof.Machine.execCstBlockEnd s
  | .cstLptSample => Sys2Proof.Machine.execCstLptSample s
  | .cstOvrWrite ini v => Sys2Proof.Machine.execCstOvrWrite ini v s
  | .cstSetMode c => Sys2Proof.Machine.execCstSetMode c s
  | .cstOverride c => Sys2Proof.Machine.execCstOverride c s
  | .cstAccept c => Sys2Proof.Machine.execCstAccept c s
  | .cstWeights c => Sys2Proof.Machine.execCstWeights c s
  | .cstReadMf c => Sys2Proof.Machine.execCstReadMf c s
  | .yplSample => Sys2Proof.Machine.execYplSample s
  | .yplInverseReady => Sys2Proof.Machine.execYplInverseReady s
  | .yplCalComputeDone => Sys2Proof.Machine.execYplCalComputeDone s
  | .yplCalTimeout => Sys2Proof.Machine.execYplCalTimeout s
  | .yplTileLoaded => Sys2Proof.Machine.execYplTileLoaded s
  | .yplCheckpoint => Sys2Proof.Machine.execYplCheckpoint s
  | .yplClosingEnd => Sys2Proof.Machine.execYplClosingEnd s
  | .yplFieldCtrlOpen ini => Sys2Proof.Machine.execYplFieldCtrlOpen ini s
  | .yplFieldCtrlResume ini => Sys2Proof.Machine.execYplFieldCtrlResume ini s
  | .yplFieldCtrlClose ini => Sys2Proof.Machine.execYplFieldCtrlClose ini s
  | .yplFieldOpen c => Sys2Proof.Machine.execYplFieldOpen c s
  | .yplFieldClose c => Sys2Proof.Machine.execYplFieldClose c s
  | .yplCalKernel c => Sys2Proof.Machine.execYplCalKernel c s
  | .yplKernelSet c => Sys2Proof.Machine.execYplKernelSet c s
  | .yplKernelGet c => Sys2Proof.Machine.execYplKernelGet c s
  | .yplTileRead c => Sys2Proof.Machine.execYplTileRead c s
  | .yplExport c => Sys2Proof.Machine.execYplExport c s
  | .yplExportRead c => Sys2Proof.Machine.execYplExportRead c s
  | .yplWeigh c => Sys2Proof.Machine.execYplWeigh c s
  | .merStIWrite ini m v => Sys2Proof.Machine.execMerStIWrite ini m v s
  | .merSetpoint c => Sys2Proof.Machine.execMerSetpoint c s
  | .merSetGains c => Sys2Proof.Machine.execMerSetGains c s
  | .merIntSet c => Sys2Proof.Machine.execMerIntSet c s
  | .merReadSlot c => Sys2Proof.Machine.execMerReadSlot c s
  | .adrEvtDurWrite ini n v => Sys2Proof.Machine.execAdrEvtDurWrite ini n v s
  | .adrEventStart n => Sys2Proof.Machine.execAdrEventStart n s
  | .adrBoostEnd n => Sys2Proof.Machine.execAdrBoostEnd n s
  | .adrBoostTimeout n => Sys2Proof.Machine.execAdrBoostTimeout n s
  | .adrBankIlim k => Sys2Proof.Machine.execAdrBankIlim k s
  | .adrPeakEnd n => Sys2Proof.Machine.execAdrPeakEnd n s
  | .adrHoldReached n => Sys2Proof.Machine.execAdrHoldReached n s
  | .adrEventEnd n => Sys2Proof.Machine.execAdrEventEnd n s
  | .adrDecayEnd n => Sys2Proof.Machine.execAdrDecayEnd n s
  | .adrDecayTimeout n => Sys2Proof.Machine.execAdrDecayTimeout n s
  | .adrCloseWindowEnd n => Sys2Proof.Machine.execAdrCloseWindowEnd n s
  | .adrDeferTimeout n => Sys2Proof.Machine.execAdrDeferTimeout n s
  | .adrShort n => Sys2Proof.Machine.execAdrShort n s
  | .adrShortRetry n => Sys2Proof.Machine.execAdrShortRetry n s
  | .adrOpen n on => Sys2Proof.Machine.execAdrOpen n on s
  | .adrDitherPeriod n => Sys2Proof.Machine.execAdrDitherPeriod n s
  | .adrTempEstimateExpiry n => Sys2Proof.Machine.execAdrTempEstimateExpiry n s
  | .adrChCmdWrite ini n v => Sys2Proof.Machine.execAdrChCmdWrite ini n v s
  | .adrFaultWrite ini w v => Sys2Proof.Machine.execAdrFaultWrite ini w v s
  | .adrBoostSpill mv => Sys2Proof.Machine.execAdrBoostSpill mv s
  | .adrEvent c => Sys2Proof.Machine.execAdrEvent c s
  | .adrSetCurrent c => Sys2Proof.Machine.execAdrSetCurrent c s
  | .adrSwitch c => Sys2Proof.Machine.execAdrSwitch c s
  | .adrChClear c => Sys2Proof.Machine.execAdrChClear c s
  | .adrReadCh c => Sys2Proof.Machine.execAdrReadCh c s
  | .adrBoostSet c => Sys2Proof.Machine.execAdrBoostSet c s
  | .adrBankSet c => Sys2Proof.Machine.execAdrBankSet c s
  | .adrBankRead c => Sys2Proof.Machine.execAdrBankRead c s
  | .adrReadMot c => Sys2Proof.Machine.execAdrReadMot c s
  | .pswPwmPeriod n => Sys2Proof.Machine.execPswPwmPeriod n s
  | .pswInrushEnd n => Sys2Proof.Machine.execPswInrushEnd n s
  | .pswOcTrip ma => Sys2Proof.Machine.execPswOcTrip ma s
  | .pswRetry n => Sys2Proof.Machine.execPswRetry n s
  | .pswRcntReset n => Sys2Proof.Machine.execPswRcntReset n s
  | .pswThermalTrip n tj => Sys2Proof.Machine.execPswThermalTrip n tj s
  | .pswUndervoltage g mv => Sys2Proof.Machine.execPswUndervoltage g mv s
  | .pswUvRestart g mv => Sys2Proof.Machine.execPswUvRestart g mv s
  | .pswStaggerTurnOn g => Sys2Proof.Machine.execPswStaggerTurnOn g s
  | .pswBudgetShed g => Sys2Proof.Machine.execPswBudgetShed g s
  | .pswOpenLoad n ma => Sys2Proof.Machine.execPswOpenLoad n ma s
  | .pswHoldoffEnd n => Sys2Proof.Machine.execPswHoldoffEnd n s
  | .pswLatchedWrite ini v => Sys2Proof.Machine.execPswLatchedWrite ini v s
  | .pswSwitch c => Sys2Proof.Machine.execPswSwitch c s
  | .pswChClear c => Sys2Proof.Machine.execPswChClear c s
  | .pswReadCh c => Sys2Proof.Machine.execPswReadCh c s
  | .pswGroupSet c => Sys2Proof.Machine.execPswGroupSet c s
  | .trnMsBoundary ms fe => Sys2Proof.Machine.execTrnMsBoundary ms fe s
  | .trnEpoch es => Sys2Proof.Machine.execTrnEpoch es s
  | .trnAcqReqWrite ini e v => Sys2Proof.Machine.execTrnAcqReqWrite ini e v s
  | .trnSweepEnd e r => Sys2Proof.Machine.execTrnSweepEnd e r s
  | .trnAcqResCRead ini e => Sys2Proof.Machine.execTrnAcqResCRead ini e s
  | .trnPullinEnd n => Sys2Proof.Machine.execTrnPullinEnd n s
  | .trnCarrLock n on => Sys2Proof.Machine.execTrnCarrLock n on s
  | .trnLost n => Sys2Proof.Machine.execTrnLost n s
  | .trnCoastEnd n => Sys2Proof.Machine.execTrnCoastEnd n s
  | .trnHandoverPass n pw => Sys2Proof.Machine.execTrnHandoverPass n pw s
  | .trnHandoverTimeout n => Sys2Proof.Machine.execTrnHandoverTimeout n s
  | .trnNavUnit n u => Sys2Proof.Machine.execTrnNavUnit n u s
  | .trnAntFault a ma => Sys2Proof.Machine.execTrnAntFault a ma s
  | .trnAntRetry a ma => Sys2Proof.Machine.execTrnAntRetry a ma s
  | .trnRxtHiWrite ini v => Sys2Proof.Machine.execTrnRxtHiWrite ini v s
  | .trnChannel c => Sys2Proof.Machine.execTrnChannel c s
  | .trnAcquire c => Sys2Proof.Machine.execTrnAcquire c s
  | .trnRawOpen c => Sys2Proof.Machine.execTrnRawOpen c s
  | .trnRawClose c => Sys2Proof.Machine.execTrnRawClose c s
  | .trnReadCh c => Sys2Proof.Machine.execTrnReadCh c s
  | .posSolution x => Sys2Proof.Machine.execPosSolution x s
  | .posOutput => Sys2Proof.Machine.execPosOutput s
  | .posRtcmFrame src p => Sys2Proof.Machine.execPosRtcmFrame src p s
  | .posCorrAgeExpiry => Sys2Proof.Machine.execPosCorrAgeExpiry s
  | .posDrExpiry => Sys2Proof.Machine.execPosDrExpiry s
  | .posDiscipline => Sys2Proof.Machine.execPosDiscipline s
  | .posPps => Sys2Proof.Machine.execPosPps s
  | .posPpsEnd => Sys2Proof.Machine.execPosPpsEnd s
  | .sentryBurst hits => Sys2Proof.Machine.execSentryBurst hits s
  | .sentrySnapshot p => Sys2Proof.Machine.execSentrySnapshot p s
  | .posRtcm c => Sys2Proof.Machine.execPosRtcm c s
  | .posRtcmSrc c => Sys2Proof.Machine.execPosRtcmSrc c s
  | .posOrigin c => Sys2Proof.Machine.execPosOrigin c s
  | .posSentrySet c => Sys2Proof.Machine.execPosSentrySet c s
  | .posSentryRead c => Sys2Proof.Machine.execPosSentryRead c s
  | .posSnapSolve c => Sys2Proof.Machine.execPosSnapSolve c s
  | .posSentryClear c => Sys2Proof.Machine.execPosSentryClear c s
  | .camSegment port x => Sys2Proof.Machine.execCamSegment port x s
  | .camFrameCloseTimeout port => Sys2Proof.Machine.execCamFrameCloseTimeout port s
  | .camStreamLost port => Sys2Proof.Machine.execCamStreamLost port s
  | .camIspComplete ctx => Sys2Proof.Machine.execCamIspComplete ctx s
  | .camEncAuComplete e au => Sys2Proof.Machine.execCamEncAuComplete e au s
  | .camLoadUpdate load => Sys2Proof.Machine.execCamLoadUpdate load s
  | .camTblDataAccess ini w => Sys2Proof.Machine.execCamTblDataAccess ini w s
  | .camCtxRelWrite ini ctx v => Sys2Proof.Machine.execCamCtxRelWrite ini ctx v s
  | .camEncCmdWrite ini e v => Sys2Proof.Machine.execCamEncCmdWrite ini e v s
  | .camEncRdWrite ini e v => Sys2Proof.Machine.execCamEncRdWrite ini e v s
  | .camRingOpen c => Sys2Proof.Machine.execCamRingOpen c s
  | .camEncOpen c => Sys2Proof.Machine.execCamEncOpen c s
  | .camBuffers c => Sys2Proof.Machine.execCamBuffers c s
  | .camRelease c => Sys2Proof.Machine.execCamRelease c s
  | .camTableSet c => Sys2Proof.Machine.execCamTableSet c s
  | .camM2mSubmit c mem => Sys2Proof.Machine.execCamM2mSubmit c mem s
  | .camEncIdr c => Sys2Proof.Machine.execCamEncIdr c s
  | .astListPart x => Sys2Proof.Machine.execAstListPart x s
  | .astPartTimeout k => Sys2Proof.Machine.execAstPartTimeout k s
  | .astSubGoWrite ini v mem => Sys2Proof.Machine.execAstSubGoWrite ini v mem s
  | .astEgoSample => Sys2Proof.Machine.execAstEgoSample s
  | .astFusionCycle us => Sys2Proof.Machine.execAstFusionCycle us s
  | .astSourceLost k => Sys2Proof.Machine.execAstSourceLost k s
  | .astRingOpen c => Sys2Proof.Machine.execAstRingOpen c s
  | .astRingClose c => Sys2Proof.Machine.execAstRingClose c s
  | .astList c => Sys2Proof.Machine.execAstList c s
  | .astReadTrack c => Sys2Proof.Machine.execAstReadTrack c s
  | .astClear c => Sys2Proof.Machine.execAstClear c s
  | .safCycle x => Sys2Proof.Machine.execSafCycle x s
  | .safDiscrepancy k => Sys2Proof.Machine.execSafDiscrepancy k s
  | .safSpeedDiscrepancy m => Sys2Proof.Machine.execSafSpeedDiscrepancy m s
  | .safTestPulse k x => Sys2Proof.Machine.execSafTestPulse k x s
  | .safStandstill m => Sys2Proof.Machine.execSafStandstill m s
  | .safTMaxExpiry => Sys2Proof.Machine.execSafTMaxExpiry s
  | .safSoTest n ok => Sys2Proof.Machine.execSafSoTest n ok s
  | .safEdmTimeout n => Sys2Proof.Machine.execSafEdmTimeout n s
  | .safResetInput k => Sys2Proof.Machine.execSafResetInput k s
  | .safetyReset => Sys2Proof.Machine.execSafetyReset s
  | .safSelfTestDone ok addr dip image => Sys2Proof.Machine.execSafSelfTestDone ok addr dip image s
  | .safReadyCheck => Sys2Proof.Machine.execSafReadyCheck s
  | .safSealChange obj => Sys2Proof.Machine.execSafSealChange obj s
  | .safStopReq c => Sys2Proof.Machine.execSafStopReq c s
  | .safReadParams c => Sys2Proof.Machine.execSafReadParams c s
  | .safFaultLog c => Sys2Proof.Machine.execSafFaultLog c s
  | .safParamWrite c => Sys2Proof.Machine.execSafParamWrite c s
  | .jasperFrameRx n p => Sys2Proof.Machine.execJasperFrameRx n p s
  | .jasperWatchdog n => Sys2Proof.Machine.execJasperWatchdog n s
  | .jasperProduce n => Sys2Proof.Machine.execJasperProduce n s
  | .canFrameRx n x => Sys2Proof.Machine.execCanFrameRx n x s
  | .canTxComplete n sof res => Sys2Proof.Machine.execCanTxComplete n sof res s
  | .canBusError n dt dr lec => Sys2Proof.Machine.execCanBusError n dt dr lec s
  | .canRecoveryStart n => Sys2Proof.Machine.execCanRecoveryStart n s
  | .canRecoveryDone n => Sys2Proof.Machine.execCanRecoveryDone n s
  | .canImportTimeout k => Sys2Proof.Machine.execCanImportTimeout k s
  | .canClaimTimeout n => Sys2Proof.Machine.execCanClaimTimeout n s
  | .canTxqCtrlWrite ini n v => Sys2Proof.Machine.execCanTxqCtrlWrite ini n v s
  | .canCtrlRecoverWrite ini n => Sys2Proof.Machine.execCanCtrlRecoverWrite ini n s
  | .linSlot k => Sys2Proof.Machine.execLinSlot k s
  | .linResponseRx k p => Sys2Proof.Machine.execLinResponseRx k p s
  | .linResponseTimeout k => Sys2Proof.Machine.execLinResponseTimeout k s
  | .canSend c => Sys2Proof.Machine.execCanSend c s
  | .canRingOpen c => Sys2Proof.Machine.execCanRingOpen c s
  | .canRecover c => Sys2Proof.Machine.execCanRecover c s
  | .canSleep c => Sys2Proof.Machine.execCanSleep c s
  | .canExportSet c => Sys2Proof.Machine.execCanExportSet c s
  | .linSleep c => Sys2Proof.Machine.execLinSleep c s
  | .ethFrameRx x => Sys2Proof.Machine.execEthFrameRx x s
  | .ethLinkChange k x => Sys2Proof.Machine.execEthLinkChange k x s
  | .ethPtpSync gm g => Sys2Proof.Machine.execEthPtpSync gm g s
  | .ethSyncTimeout => Sys2Proof.Machine.execEthSyncTimeout s
  | .ethSyncSend best => Sys2Proof.Machine.execEthSyncSend best s
  | .ethServoTrim => Sys2Proof.Machine.execEthServoTrim s
  | .ethGclGoWrite ini v => Sys2Proof.Machine.execEthGclGoWrite ini v s
  | .ethGclSwitch k => Sys2Proof.Machine.execEthGclSwitch k s
  | .ethGclDataAccess ini w => Sys2Proof.Machine.execEthGclDataAccess ini w s
  | .ethPtpGLoRead ini => Sys2Proof.Machine.execEthPtpGLoRead ini s
  | .serFrameEnd n x => Sys2Proof.Machine.execSerFrameEnd n x s
  | .ethTimeGet c => Sys2Proof.Machine.execEthTimeGet c s
  | .ethGclSet c => Sys2Proof.Machine.execEthGclSet c s
  | .ethTrimSet c => Sys2Proof.Machine.execEthTrimSet c s
  | .ethSerOpen c => Sys2Proof.Machine.execEthSerOpen c s
  | .ethSerSend c => Sys2Proof.Machine.execEthSerSend c s
  | .pairBeaconRx can p ack => Sys2Proof.Machine.execPairBeaconRx can p ack s
  | .pairCanBeacon => Sys2Proof.Machine.execPairCanBeacon s
  | .pairLeaseExpiry => Sys2Proof.Machine.execPairLeaseExpiry s
  | .pairGuardEnd => Sys2Proof.Machine.execPairGuardEnd s
  | .pairAliveChange mv since => Sys2Proof.Machine.execPairAliveChange mv since s
  | .pairPeerDeadEnd => Sys2Proof.Machine.execPairPeerDeadEnd s
  | .pairPartitionTimeout => Sys2Proof.Machine.execPairPartitionTimeout s
  | .pairSoloTimeout => Sys2Proof.Machine.execPairSoloTimeout s
  | .pairCopyRx x => Sys2Proof.Machine.execPairCopyRx x s
  | .pairGateConfirm off => Sys2Proof.Machine.execPairGateConfirm off s
  | .pairRevertHoldExpiry => Sys2Proof.Machine.execPairRevertHoldExpiry s
  | .pairSwap c => Sys2Proof.Machine.execPairSwap c s
  | .pairRevert c => Sys2Proof.Machine.execPairRevert c s
  | .fltHeartbeat => Sys2Proof.Machine.execFltHeartbeat s
  | .fltParentLost => Sys2Proof.Machine.execFltParentLost s
  | .fltHandshake x => Sys2Proof.Machine.execFltHandshake x s
  | .fltHandshakeRetry => Sys2Proof.Machine.execFltHandshakeRetry s
  | .fltKeyUpdate => Sys2Proof.Machine.execFltKeyUpdate s
  | .fltHeartbeatRx h => Sys2Proof.Machine.execFltHeartbeatRx h s
  | .fltCoverageSend => Sys2Proof.Machine.execFltCoverageSend s
  | .fltCoverageRx h x => Sys2Proof.Machine.execFltCoverageRx h x s
  | .fltRtcmRx h p => Sys2Proof.Machine.execFltRtcmRx h p s
  | .fltRdvSend => Sys2Proof.Machine.execFltRdvSend s
  | .fltRdvRx h group p => Sys2Proof.Machine.execFltRdvRx h group p s
  | .fltBroadcastRx h op => Sys2Proof.Machine.execFltBroadcastRx h op s
  | .fltBarrierRx h op tag auto => Sys2Proof.Machine.execFltBarrierRx h op tag auto s
  | .fltMarkerRx h op reset => Sys2Proof.Machine.execFltMarkerRx h op reset s
  | .fltReportRx h r => Sys2Proof.Machine.execFltReportRx h r s
  | .fltReportDeadline => Sys2Proof.Machine.execFltReportDeadline s
  | .fltCaSet c => Sys2Proof.Machine.execFltCaSet c s
  | .fltArrive c => Sys2Proof.Machine.execFltArrive c s
  | .fltRdvOpen c => Sys2Proof.Machine.execFltRdvOpen c s
  | .fltTileUpload c => Sys2Proof.Machine.execFltTileUpload c s
  | .fltSentryUpload c => Sys2Proof.Machine.execFltSentryUpload c s
  | .recEventPost => Sys2Proof.Machine.execRecEventPost s
  | .recSnapshotRead => Sys2Proof.Machine.execRecSnapshotRead s
  | .recOpenTimeout => Sys2Proof.Machine.execRecOpenTimeout s
  | .recCommit ok => Sys2Proof.Machine.execRecCommit ok s
  | .recEraseDone => Sys2Proof.Machine.execRecEraseDone s
  | .recFreezeTimeout k => Sys2Proof.Machine.execRecFreezeTimeout k s
  | .recAlarmToken => Sys2Proof.Machine.execRecAlarmToken s
  | .recAlarmSummary => Sys2Proof.Machine.execRecAlarmSummary s
  | .recRead c => Sys2Proof.Machine.execRecRead c s
  | .recFreeze c => Sys2Proof.Machine.execRecFreeze c s
  | .recFlush c => Sys2Proof.Machine.execRecFlush c s
  | .recPost c => Sys2Proof.Machine.execRecPost c s
  | .recClassSet c => Sys2Proof.Machine.execRecClassSet c s
  | .recClassGet c => Sys2Proof.Machine.execRecClassGet c s
  | .recCatalogue c => Sys2Proof.Machine.execRecCatalogue c s
  | .pnlCmdUpdate ini v loop => Sys2Proof.Machine.execPnlCmdUpdate ini v loop s
  | .pnlLineDone => Sys2Proof.Machine.execPnlLineDone s
  | .pnlAutoUpdate loop => Sys2Proof.Machine.execPnlAutoUpdate loop s
  | .pnlCrackCheck loop => Sys2Proof.Machine.execPnlCrackCheck loop s
  | .pnlBlinkToggle q => Sys2Proof.Machine.execPnlBlinkToggle q s
  | .pnlFbDataAccess ini w => Sys2Proof.Machine.execPnlFbDataAccess ini w s
  | .pnlText c => Sys2Proof.Machine.execPnlText c s
  | .pnlBitmap c => Sys2Proof.Machine.execPnlBitmap c s
  | .pnlBlink c => Sys2Proof.Machine.execPnlBlink c s
  | .pnlUpdate c loop => Sys2Proof.Machine.execPnlUpdate c loop s
  | .updBegin c => Sys2Proof.Machine.execUpdBegin c s
  | .updBlock c fails => Sys2Proof.Machine.execUpdBlock c fails s
  | .updEnd c => Sys2Proof.Machine.execUpdEnd c s
  | .updActivate c => Sys2Proof.Machine.execUpdActivate c s
  | .updAbort c => Sys2Proof.Machine.execUpdAbort c s
  | .updKeyoffWaitExpiry => Sys2Proof.Machine.execUpdKeyoffWaitExpiry s
  | .prmCompactionDone => Sys2Proof.Machine.execPrmCompactionDone s
  | .prmCalExport c => Sys2Proof.Machine.execPrmCalExport c s
  | .prmCalWrite c => Sys2Proof.Machine.execPrmCalWrite c s
  | .prmConfigExport c => Sys2Proof.Machine.execPrmConfigExport c s
  | .prmConfigImport c => Sys2Proof.Machine.execPrmConfigImport c s
  | .prmSet c => Sys2Proof.Machine.execPrmSet c s
  | .pllLock => Sys2Proof.Machine.execPllLock s
  | .ethSwitchReload => Sys2Proof.Machine.execEthSwitchReload s
  | .aonPowerLoss => Sys2Proof.Machine.execAonPowerLoss s
  | .pwrHoldRelease => Sys2Proof.Machine.execPwrHoldRelease s
  | .ainConversion n x => Sys2Proof.Machine.execAinConversion n x s
  | .bridgeCode k code => Sys2Proof.Machine.execBridgeCode k code s
  | .speedEdge j up both stamp => Sys2Proof.Machine.execSpeedEdge j up both stamp s
  | .acuImpact a xs => Sys2Proof.Machine.execAcuImpact a xs s
  | .adrRegulationDecision n x => Sys2Proof.Machine.execAdrRegulationDecision n x s
  | .boostConverterSwitch mv mj => Sys2Proof.Machine.execBoostConverterSwitch mv mj s
  | .posInertialSample x => Sys2Proof.Machine.execPosInertialSample x s
  | .ispStripeComplete inl stripe => Sys2Proof.Machine.execIspStripeComplete inl stripe s
  | .ethGateInterval k => Sys2Proof.Machine.execEthGateInterval k s
  | .serTransmitDone n => Sys2Proof.Machine.execSerTransmitDone n s
  | .usbVbusOvercurrent u ma => Sys2Proof.Machine.execUsbVbusOvercurrent u ma s
  | .pairLinkChange up => Sys2Proof.Machine.execPairLinkChange up s
  | .classCCommandDone fn => Sys2Proof.Machine.execClassCCommandDone fn s

end Sys2Proof.Machine
end

