-- ==== Sys2Proof/Safety.lean ====
section
/-!
DEFINITION. What claims are stated in: the next state of a command, its frame, the footprint of each command, and the
invariant every step keeps.
-/
namespace Sys2Proof.Machine

/-- What a command leaves alone (R13): time, the queue of waiting commands, every register outside the footprint's windows,
and every part of the state outside the footprint. -/
structure Frame (F : Foot) (s t : State) : Prop where
  clk : t.clk = s.clk
  pending : t.pending = s.pending
  regs : ∀ a, F.holds a = false → t.rd a = s.rd a
  shadow : F.parts.contains .shadow = false → t.shadow = s.shadow
  pwr : F.parts.contains .pwr = false → t.pwr = s.pwr
  inp : F.parts.contains .inp = false → t.inp = s.inp
  cst : F.parts.contains .cst = false → t.cst = s.cst
  ypl : F.parts.contains .ypl = false → t.ypl = s.ypl
  saf : F.parts.contains .saf = false → t.saf = s.saf
  adr : F.parts.contains .adr = false → t.adr = s.adr
  psw : F.parts.contains .psw = false → t.psw = s.psw
  mer : F.parts.contains .mer = false → t.mer = s.mer
  trn : F.parts.contains .trn = false → t.trn = s.trn
  pos : F.parts.contains .pos = false → t.pos = s.pos
  gptp : F.parts.contains .gptp = false → t.gptp = s.gptp
  cam : F.parts.contains .cam = false → t.cam = s.cam
  vxa : F.parts.contains .vxa = false → t.vxa = s.vxa
  ast : F.parts.contains .ast = false → t.ast = s.ast
  pair : F.parts.contains .pair = false → t.pair = s.pair
  can : F.parts.contains .can = false → t.can = s.can
  prm : F.parts.contains .prm = false → t.prm = s.prm
  eth : F.parts.contains .eth = false → t.eth = s.eth
  pnl : F.parts.contains .pnl = false → t.pnl = s.pnl
  flt : F.parts.contains .flt = false → t.flt = s.flt
  upd : F.parts.contains .upd = false → t.upd = s.upd

/-- The next state of a command of footprint `F` whose effect left the machine at `u`: `u` where the footprint allows it, `s`
elsewhere, its registers in canonical form. -/
def Foot.finish (F : Foot) (s u : State) : State := { F.merge s u with regs := (F.merge s u).regs.norm }

/-- What a command's effect acts on: the state it comes upon, with nothing sent yet. -/
def State.begun (s : State) : State := { s with out := [] }

/-- What the body of a mailbox command of function `f`, command byte `b`, of session `k` acts on: nothing sent yet, the command
taken from Dome's inbox and counted as the session's latest activity. -/
def State.entered (s : State) (f b k : Nat) (c : Cmd) : State := s.begun.enter f (256 * f + b) k c

/-- What the latest register access of an initiator gave it. -/
def State.bus (s : State) (ini : Initiator) : BusResult :=
  match ini with
  | .host => s.fab.hostBus
  | .dome => s.fab.domeBus

/-- The clocks are consistent (R23 to R25): the fractions lie in their ranges, no clock has counted while the PLL is not locked,
and the boundaries that wait for their work are in order, none later than TB. -/
structure Clk.Ok (k : Clk) : Prop where
  phase : k.phase < 20000
  frac : k.tbFrac < 8000000000
  sorted : (k.tickStamp :: k.due).Pairwise (· ≤ ·)
  past : ∀ d ∈ k.tickStamp :: k.due, d ≤ k.tb
  still : k.running = false → k.tb = 0 ∧ k.tickCount = 0 ∧ k.due = []

/-- The invariant of the machine: its registers are held in canonical form and its clocks are consistent. -/
structure State.Inv (s : State) : Prop where
  regs : s.regs.wf = true
  clk : s.clk.Ok

/-- The footprint of a command (R13); none for those that start, stop or reset functions or the module, for the work of a
control-tick boundary, and for writes that reach any register. -/
def foot : Instr → Option Foot
  | .controlTick => none
  | .pairCycleBoundary _ => none
  | .speedZeroTimeout _ => some .inputs
  | .registerWrite _ _ _ _ => none
  | .bitAliasAccess _ _ _ => none
  | .guardFirstWrite _ _ _ => none
  | .guardCompanionWrite _ _ _ => none
  | .guardTimeout _ _ => some .shared
  | .stallWatchdog _ _ _ => some .shared
  | .fabSigHostWrite _ _ => none
  | .sigHostAgeExpiry _ => some .shared
  | .tbNowLoRead _ => some .shared
  | .tbTickCountLoRead _ => some .shared
  | .updStrobeWrite _ _ => none
  | .fabUgCfgWrite _ _ _ => none
  | .ugTbcmpStrobe _ => none
  | .globalSnapshot _ _ => none
  | .sysBootlockWrite _ _ => none
  | .mbxClaimRead _ => some .shared
  | .claimReservationLapse _ => some .shared
  | .bootstrapRingPlacement _ => some .shared
  | .sessionRingPlacement _ => some .shared
  | .mbxQProdWrite _ _ _ => some .shared
  | .mbxQConsWrite _ _ => some .shared
  | .irqHoldoffExpiry => some .shared
  | .notifHoldoffExpiry _ _ => some .shared
  | .kmpDatagramRx _ _ _ => some (Foot.shared.and [] [.eth])
  | .ipv4ReassemblyTimeout _ _ => some .shared
  | .udpDataResend _ => some .shared
  | .linkOpenKeepExpiry _ _ => some .shared
  | .authBlockExpiry _ => some .shared
  | .sessionIdleTimeout _ _ => none
  | .progressNotify _ _ => some .shared
  | .getInfo _ _ => some .upd
  | .getStatus _ _ => some .upd
  | .configure _ _ => some .upd
  | .apply _ _ => none
  | .start _ _ => none
  | .stop _ _ => none
  | .reinit _ _ _ => none
  | .reinitComplete _ _ => none
  | .setExpert _ _ _ => none
  | .expertTransfer _ => some (Foot.shared.and [.pos] [.eth, .pos])
  | .linkOpen _ => some .shared
  | .linkAuth _ => some .shared
  | .linkClose _ _ => none
  | .linkPing _ => some .shared
  | .linkSubscribe _ => some .shared
  | .linkDataAck _ => some .shared
  | .linkKeySet _ => some (Foot.shared.and [.prm] [.prm])
  | .supplyDipBegin _ _ => some .pwr
  | .supplyDipEnd _ _ => some .pwr
  | .vrstShed _ => some (Foot.pwr.and [.adr, .cam, .gptp, .pair, .prm, .psw, .saf] [.adb, .adr, .ain, .cam, .eth, .prm, .psw])
  | .vbatRiseVrst _ => none
  | .holdupRecovered => none
  | .holdupExpiry => none
  | .overvoltageShed _ => some (Foot.pwr.and [.adr, .cam, .gptp, .psw, .saf] [.adb, .adr, .ain, .cam, .eth, .psw])
  | .overvoltageRecover _ => some (Foot.pwr.and [.adr, .cam, .psw, .saf] [.adb, .adr, .ain, .psw])
  | .pswGroupOvervoltage _ _ => some (Foot.psw.and [.pwr] [])
  | .clockLoss _ => none
  | .xtal32Fail => some .pwr
  | .tempThreshold _ _ => some (Foot.pwr.and [.adr, .vxa] [.adb])
  | .keyOff => some .pwr
  | .keyOn => none
  | .keyoffShutdown _ => none
  | .keyoffFinal _ => none
  | .keepAwakeExpiry _ => some .pwr
  | .standbyTimeout _ => none
  | .sentryAonLow _ _ => some (Foot.pwr.and [.pos] [])
  | .powerOffHoldEnd => none
  | .wake _ => none
  | .counterMirrorWrite => some (Foot.pwr.and [.prm] [.prm])
  | .powerOnReset => none
  | .brownOutReset => none
  | .pinReset _ => none
  | .watchdogReset => none
  | .deviceReset => none
  | .containerVerified _ => some (Foot.pwr.and [.adr, .eth, .psw, .saf, .upd] [.adb, .adr, .psw])
  | .initComplete _ _ => none
  | .functionFault _ => none
  | .sysStart _ => none
  | .sysStop _ => none
  | .sysDeviceReset _ => some .pwr
  | .sysPowerCycle _ => some .pwr
  | .sysKeepAwake _ => some .pwr
  | .sysShutdownNow _ => none
  | .diEdge _ _ _ => some .inputs
  | .dinFifoHiRead _ => some .inputs
  | .diWireBreak _ _ => some .inputs
  | .diBreakClear _ => some .inputs
  | .fieldSupplyChange _ _ => some .inputs
  | .dinReadEdges _ => some .inputs
  | .ainFaultEnter _ _ _ => some .inputs
  | .ain4maTrip _ => some .inputs
  | .ain4maReconnect _ => some .inputs
  | .supplyTrip _ => some .inputs
  | .supplyRetry _ => some .inputs
  | .supplyTripCountReset _ => some .inputs
  | .ainSupRestartWrite _ _ => some .inputs
  | .ainSupRestart _ => some .inputs
  | .ainBridgeTare _ => some .inputs
  | .acuWindowEnd => some .inputs
  | .sentFrame _ _ => some .inputs
  | .sentTimeout _ => some .inputs
  | .sentSlowMessage _ _ _ _ _ => some .inputs
  | .sntSlowTable _ => some .inputs
  | .cstSample => some (Foot.cst.and [.pos, .shadow] [.mer])
  | .cstHoldEnd => some (Foot.cst.and [.pos] [])
  | .cstBlockEnd => some (Foot.cst.and [.pos] [])
  | .cstLptSample => some .cst
  | .cstOvrWrite _ _ => some (Foot.cst.and [.pos] [])
  | .cstSetMode _ => some .cst
  | .cstOverride _ => some (Foot.cst.and [.pos] [])
  | .cstAccept _ => some (Foot.cst.and [.pos] [])
  | .cstWeights _ => some (Foot.cst.and [.pos] [])
  | .cstReadMf _ => some .cst
  | .yplSample => some .ypl
  | .yplInverseReady => some .ypl
  | .yplCalComputeDone => some (Foot.ypl.and [.prm, .shadow] [.prm])
  | .yplCalTimeout => some .ypl
  | .yplTileLoaded => some .ypl
  | .yplCheckpoint => some .ypl
  | .yplClosingEnd => some .ypl
  | .yplFieldCtrlOpen _ => some .ypl
  | .yplFieldCtrlResume _ => some .ypl
  | .yplFieldCtrlClose _ => some .ypl
  | .yplFieldOpen _ => some .ypl
  | .yplFieldClose _ => some .ypl
  | .yplCalKernel _ => some .ypl
  | .yplKernelSet _ => some (Foot.ypl.and [.prm, .shadow] [.prm])
  | .yplKernelGet _ => some .ypl
  | .yplTileRead _ => some .ypl
  | .yplExport _ => some .ypl
  | .yplExportRead _ => some .ypl
  | .yplWeigh _ => some .ypl
  | .merStIWrite _ _ _ => some .mer
  | .merSetpoint _ => some (Foot.mer.and [.shadow] [])
  | .merSetGains _ => some (Foot.mer.and [.shadow] [])
  | .merIntSet _ => some .mer
  | .merReadSlot _ => some .mer
  | .adrEvtDurWrite _ _ _ => some (Foot.adr.and [.shadow] [])
  | .adrEventStart _ => some .adr
  | .adrBoostEnd _ => some .adr
  | .adrBoostTimeout _ => some .adr
  | .adrBankIlim _ => some .adr
  | .adrPeakEnd _ => some .adr
  | .adrHoldReached _ => some .adr
  | .adrEventEnd _ => some .adr
  | .adrDecayEnd _ => some .adr
  | .adrDecayTimeout _ => some .adr
  | .adrCloseWindowEnd _ => some .adr
  | .adrDeferTimeout _ => some .adr
  | .adrShort _ => some .adr
  | .adrShortRetry _ => some .adr
  | .adrOpen _ _ => some .adr
  | .adrDitherPeriod _ => some .adr
  | .adrTempEstimateExpiry _ => some .adr
  | .adrChCmdWrite _ _ _ => some .adr
  | .adrFaultWrite _ _ _ => some .adr
  | .adrBoostSpill _ => some .adr
  | .adrEvent _ => some (Foot.adr.and [.shadow] [])
  | .adrSetCurrent _ => some .adr
  | .adrSwitch _ => some .adr
  | .adrChClear _ => some .adr
  | .adrReadCh _ => some .adr
  | .adrBoostSet _ => some (Foot.adr.and [.prm, .shadow] [.prm])
  | .adrBankSet _ => some (Foot.adr.and [.prm, .shadow] [.prm])
  | .adrBankRead _ => some .adr
  | .adrReadMot _ => some .adr
  | .pswPwmPeriod _ => some .psw
  | .pswInrushEnd _ => some .psw
  | .pswOcTrip _ => some .psw
  | .pswRetry _ => some .psw
  | .pswRcntReset _ => some .psw
  | .pswThermalTrip _ _ => some .psw
  | .pswUndervoltage _ _ => some .psw
  | .pswUvRestart _ _ => some .psw
  | .pswStaggerTurnOn _ => some .psw
  | .pswBudgetShed _ => some .psw
  | .pswOpenLoad _ _ => some .psw
  | .pswHoldoffEnd _ => some .psw
  | .pswLatchedWrite _ _ => some .psw
  | .pswSwitch _ => some (Foot.psw.and [.shadow] [])
  | .pswChClear _ => some .psw
  | .pswReadCh _ => some .psw
  | .pswGroupSet _ => some (Foot.psw.and [.prm, .shadow] [.prm])
  | .trnMsBoundary _ _ => some .trn
  | .trnEpoch _ => some (Foot.trn.and [.pos] [])
  | .trnAcqReqWrite _ _ _ => some .trn
  | .trnSweepEnd _ _ => some .trn
  | .trnAcqResCRead _ _ => some .trn
  | .trnPullinEnd _ => some .trn
  | .trnCarrLock _ _ => some .trn
  | .trnLost _ => some .trn
  | .trnCoastEnd _ => some .trn
  | .trnHandoverPass _ _ => some .trn
  | .trnHandoverTimeout _ => some .trn
  | .trnNavUnit _ _ => some .trn
  | .trnAntFault _ _ => some .trn
  | .trnAntRetry _ _ => some .trn
  | .trnRxtHiWrite _ _ => some .trn
  | .trnChannel _ => some (Foot.trn.and [.shadow] [])
  | .trnAcquire _ => some .trn
  | .trnRawOpen _ => some .trn
  | .trnRawClose _ => some .trn
  | .trnReadCh _ => some .trn
  | .posSolution _ => some (Foot.pos.and [.trn] [.eth, .trn])
  | .posOutput => some .pos
  | .posRtcmFrame _ _ => some .pos
  | .posCorrAgeExpiry => some (Foot.pos.and [] [.eth])
  | .posDrExpiry => some (Foot.pos.and [] [.eth])
  | .posDiscipline => some (Foot.pos.and [] [.eth])
  | .posPps => some .pos
  | .posPpsEnd => some .pos
  | .sentryBurst _ => some .pos
  | .sentrySnapshot _ => some .pos
  | .posRtcm _ => some .pos
  | .posRtcmSrc _ => some .pos
  | .posOrigin _ => some .pos
  | .posSentrySet _ => some (Foot.pos.and [.prm] [.prm])
  | .posSentryRead _ => some .pos
  | .posSnapSolve _ => some .pos
  | .posSentryClear _ => some .pos
  | .camSegment _ _ => some .cam
  | .camFrameCloseTimeout _ => some .cam
  | .camStreamLost _ => some .cam
  | .camIspComplete _ => some .cam
  | .camEncAuComplete _ _ => some .cam
  | .camLoadUpdate _ => some .cam
  | .camTblDataAccess _ _ => some .cam
  | .camCtxRelWrite _ _ _ => some .cam
  | .camEncCmdWrite _ _ _ => some .cam
  | .camEncRdWrite _ _ _ => some .cam
  | .camRingOpen _ => some .cam
  | .camEncOpen _ => some .cam
  | .camBuffers _ => some .cam
  | .camRelease _ => some .cam
  | .camTableSet _ => some (Foot.cam.and [.prm, .shadow] [.prm])
  | .camM2mSubmit _ _ => some .cam
  | .camEncIdr _ => some .cam
  | .astListPart _ => some .ast
  | .astPartTimeout _ => some .ast
  | .astSubGoWrite _ _ _ => some .ast
  | .astEgoSample => some .ast
  | .astFusionCycle _ => some .ast
  | .astSourceLost _ => some .ast
  | .astRingOpen _ => some .ast
  | .astRingClose _ => some .ast
  | .astList _ => some .ast
  | .astReadTrack _ => some .ast
  | .astClear _ => some .ast
  | .safCycle _ => some (Foot.saf.and [.adr, .psw] [.adb, .adr, .psw])
  | .safDiscrepancy _ => some .saf
  | .safSpeedDiscrepancy _ => some .saf
  | .safTestPulse _ _ => some .saf
  | .safStandstill _ => some (Foot.saf.and [.adr, .psw] [.adb, .adr, .psw])
  | .safTMaxExpiry => some (Foot.saf.and [.adr, .psw] [.adb, .adr, .psw])
  | .safSoTest _ _ => some .saf
  | .safEdmTimeout _ => some .saf
  | .safResetInput _ => some (Foot.saf.and [.adr, .psw] [.adb, .adr, .psw])
  | .safetyReset => none
  | .safSelfTestDone _ _ _ _ => some (Foot.saf.and [.adr, .psw] [.adb, .adr, .psw])
  | .safReadyCheck => some (Foot.saf.and [.adr, .psw] [.adb, .adr, .psw])
  | .safSealChange _ => some (Foot.saf.and [.adr, .psw] [.adb, .adr, .psw])
  | .safStopReq _ => some .saf
  | .safReadParams _ => some .saf
  | .safFaultLog _ => some .saf
  | .safParamWrite _ => some .saf
  | .jasperFrameRx _ _ => some .saf
  | .jasperWatchdog _ => some .saf
  | .jasperProduce _ => some .saf
  | .canFrameRx _ _ => some (Foot.can.and [.adr, .ast, .pair, .pos, .psw, .saf] [.adb, .adr, .ast, .pair, .pos, .psw])
  | .canTxComplete _ _ _ => some (Foot.can.and [.saf] [])
  | .canBusError _ _ _ _ => some (Foot.can.and [.saf] [])
  | .canRecoveryStart _ => some .can
  | .canRecoveryDone _ => some .can
  | .canImportTimeout _ => some .can
  | .canClaimTimeout _ => some .can
  | .canTxqCtrlWrite _ _ _ => some .can
  | .canCtrlRecoverWrite _ _ => some .can
  | .linSlot _ => some .can
  | .linResponseRx _ _ => some .can
  | .linResponseTimeout _ => some .can
  | .canSend _ => some .can
  | .canRingOpen _ => some .can
  | .canRecover _ => some .can
  | .canSleep _ => some .can
  | .canExportSet _ => some .can
  | .linSleep _ => some .can
  | .ethFrameRx _ => some (Foot.eth.and [.ast, .cam, .can, .saf] [.ast, .cam])
  | .ethLinkChange _ _ => some .eth
  | .ethPtpSync _ _ => some .eth
  | .ethSyncTimeout => some .eth
  | .ethSyncSend _ => some .eth
  | .ethServoTrim => some .eth
  | .ethGclGoWrite _ _ => some .eth
  | .ethGclSwitch _ => some .eth
  | .ethGclDataAccess _ _ => some .eth
  | .ethPtpGLoRead _ => some .eth
  | .serFrameEnd _ _ => some .eth
  | .ethTimeGet _ => some .eth
  | .ethGclSet _ => some (Foot.eth.and [.prm] [.prm])
  | .ethTrimSet _ => some .eth
  | .ethSerOpen _ => some .eth
  | .ethSerSend _ => some .eth
  | .pairBeaconRx _ _ _ => some (Foot.pair.and [.adr, .can, .psw] [.adb, .adr, .psw])
  | .pairCanBeacon => some (Foot.pair.and [.can] [])
  | .pairLeaseExpiry => some (Foot.pair.and [.adr, .psw] [.adb, .adr, .psw])
  | .pairGuardEnd => some .pair
  | .pairAliveChange _ _ => some .pair
  | .pairPeerDeadEnd => some .pair
  | .pairPartitionTimeout => some (Foot.pair.and [.adr, .psw] [.adb, .adr, .psw])
  | .pairSoloTimeout => some (Foot.pair.and [.adr, .psw] [.adb, .adr, .psw])
  | .pairCopyRx _ => some .pair
  | .pairGateConfirm _ => some (Foot.pair.and [.can] [])
  | .pairRevertHoldExpiry => some .pair
  | .pairSwap _ => some .pair
  | .pairRevert _ => some .pair
  | .fltHeartbeat => some .flt
  | .fltParentLost => some .flt
  | .fltHandshake _ => some .flt
  | .fltHandshakeRetry => some .flt
  | .fltKeyUpdate => some .flt
  | .fltHeartbeatRx _ => some { Foot.flt with snaps := true }
  | .fltCoverageSend => some .flt
  | .fltCoverageRx _ _ => some { Foot.flt.and [.ypl] [] with snaps := true }
  | .fltRtcmRx _ _ => some { Foot.flt.and [.pos] [.pos] with snaps := true }
  | .fltRdvSend => some .flt
  | .fltRdvRx _ _ _ => some { Foot.flt with snaps := true }
  | .fltBroadcastRx _ _ => some { Foot.flt with snaps := true }
  | .fltBarrierRx _ _ _ _ => some { Foot.flt with snaps := true }
  | .fltMarkerRx _ _ _ => some { Foot.flt.and [.ypl] [] with snaps := true }
  | .fltReportRx _ _ => some { Foot.flt with snaps := true }
  | .fltReportDeadline => some .flt
  | .fltCaSet _ => some (Foot.flt.and [.prm] [.prm])
  | .fltArrive _ => some .flt
  | .fltRdvOpen _ => some .flt
  | .fltTileUpload _ => some .flt
  | .fltSentryUpload _ => some .flt
  | .recEventPost => some (Foot.shared.and [.pnl] [])
  | .recSnapshotRead => some (Foot.shared.and [] [.cam, .eth, .pnl])
  | .recOpenTimeout => some .shared
  | .recCommit _ => some .shared
  | .recEraseDone => some .shared
  | .recFreezeTimeout _ => some .shared
  | .recAlarmToken => some .shared
  | .recAlarmSummary => some .shared
  | .recRead _ => some .shared
  | .recFreeze _ => some .shared
  | .recFlush _ => some .shared
  | .recPost _ => some .shared
  | .recClassSet _ => some (Foot.shared.and [.prm] [.prm])
  | .recClassGet _ => some .shared
  | .recCatalogue _ => some .shared
  | .pnlCmdUpdate _ _ _ => some .pnl
  | .pnlLineDone => some .pnl
  | .pnlAutoUpdate _ => some .pnl
  | .pnlCrackCheck _ => some .pnl
  | .pnlBlinkToggle _ => some .pnl
  | .pnlFbDataAccess _ _ => some .pnl
  | .pnlText _ => some .pnl
  | .pnlBitmap _ => some .pnl
  | .pnlBlink _ => some .pnl
  | .pnlUpdate _ _ => some .pnl
  | .updBegin _ => some (Foot.upd.and [.adr, .psw, .saf] [.adb, .adr, .psw])
  | .updBlock _ _ => some .upd
  | .updEnd _ => some .upd
  | .updActivate _ => some (Foot.upd.and [.can, .pwr] [.can])
  | .updAbort _ => some (Foot.upd.and [.adr, .psw, .saf] [.adb, .adr, .psw, .sys])
  | .updKeyoffWaitExpiry => some .upd
  | .prmCompactionDone => some .prm
  | .prmCalExport _ => some .prm
  | .prmCalWrite _ => some .prm
  | .prmConfigExport _ => some .prm
  | .prmConfigImport _ => some .prm
  | .prmSet _ => some .prm
  | .pllLock => none
  | .ethSwitchReload => some .eth
  | .aonPowerLoss => none
  | .pwrHoldRelease => none
  | .ainConversion _ _ => some .inputs
  | .bridgeCode _ _ => some .inputs
  | .speedEdge _ _ _ _ => some .inputs
  | .acuImpact _ _ => some .inputs
  | .adrRegulationDecision _ _ => some .adr
  | .boostConverterSwitch _ _ => some .adr
  | .posInertialSample _ => some (Foot.pos.and [] [.eth])
  | .ispStripeComplete _ _ => some .cam
  | .ethGateInterval _ => some .eth
  | .serTransmitDone _ => some .eth
  | .usbVbusOvercurrent _ _ => some .eth
  | .pairLinkChange _ => some .pair
  | .classCCommandDone _ => some (Foot.shared.and [.inp, .prm, .saf, .shadow, .upd] [.ain, .din, .prm, .snt])

/-- The session a command of minimum role `role` to function `f`, command byte `b`, is accepted for: Dome serves the mailbox
(R48), the command's turn has come (R50), the session is open and its own (R42, R56), the sequence is none of its last 32 (R52),
and no common bar holds. `s` is the state the command comes upon. -/
structure Accepted (f b role : Nat) (c : Cmd) (k : Nat) (s : State) : Prop where
  dome : 2 ≤ s.dome
  turn : s.turn (256 * f + b) c = true
  session : s.sessionOf c = some k
  fresh : ∀ e ∈ (s.ses k).kept, e.seq ≠ c.seq
  opened : (s.ses k).isOpen = true
  bar : s.bar f b role k = none

/-- The next state of a command that may reach the whole machine, its effect having left it at `u`. -/
def State.settle (s u : State) : State := { u with clk := s.clk, pending := s.pending, regs := u.regs.norm }

/-- The next state of a command that may reset the device, its effect having left it at `u`: where the clocks stand, TB and the tick
start again from zero (R24, R25). -/
def State.resettle (s u : State) : State :=
  { u with clk := if u.clk.running then s.clk else s.clk.stop, pending := s.pending, regs := u.regs.norm }

/-- The next state of a command that acts at a boundary of the clocks, which stand as `k` says, its effect having left the machine at
`u`. -/
def State.settleAt (s : State) (k : Clk) (u : State) : State := { u with clk := k, pending := s.pending, regs := u.regs.norm }

/-- The command of session `k` with opcode `op` answers OK at once: its effect left the machine at a state `u`, the response of
payload `p` was sent and kept (R36, R52), and `u` and `p` are as `P` says. -/
def AnswersOK (F : Foot) (op k : Nat) (c : Cmd) (s : State) (o : Host.Outcome State Fault Refusal)
    (P : State → List Byte → Prop) : Prop :=
  ∃ u p, o = .next (F.finish s (u.answer k op c stOK p)) ∧ P u p

/-- The command of session `k` with opcode `op` is taken and runs on (R49, R51): it is kept as executing, an operation of function `f`
stands in the list of running ones whose end will answer OK with payload `p`, and the state `u` its effect left is as `P` says. -/
def RunsOn (F : Foot) (f op k : Nat) (c : Cmd) (s : State) (o : Host.Outcome State Fault Refusal)
    (P : State → List Byte → Prop) : Prop :=
  ∃ u p, o = .next (F.finish s (u.keep k c none)) ∧
    { fn := f, opcode := op, cmd := c, since := s.clk.tb, progress := s.clk.tb, status := stOK, payload := p } ∈ u.mbx.running ∧
    P u p

end Sys2Proof.Machine
end

