-- ==== Sys2Proof/Certificates/Slice0/Obligations.lean ====
section
/-!
DEFINITION. The statements for the provers.

Names that end in Complete: for every command of a chapter, where it completes with its own effect. What follows them are rules of the
spec on the register fabric, the timebase, resets and the mailbox, and the statements about a step.
-/

open Sys2Proof Sys2Proof.Machine

/-- Chapters 01 and 03: the accesses and events of the register fabric complete with their own effect: writes of 32 and 64 bits,
the bit alias, the guard, the stall watchdog, the signal bus, the update groups, the snapshot, TB and the bootlock. -/
def Obligations.FabricCommandsComplete : Prop :=
  (∀ (ini : Initiator) (a : Nat) (v : BitVec 64) (s : State),
    exec (.registerWrite ini a 32 v) s = .next (s.settle (s.begun.write32 ini a (v.extractLsb' 0 32)))) ∧
  (∀ (ini : Initiator) (a : Nat) (v : BitVec 64) (s : State),
    (s.begun.write32 ini a (v.extractLsb' 0 32)).busFailed ini = false →
    exec (.registerWrite ini a 64 v) s = .next (s.settle
      ((s.begun.write32 ini a (v.extractLsb' 0 32)).write32 ini (a + 4) (v.extractLsb' 32 32)))) ∧
  (∀ (ini : Initiator) (a : Nat) (w : Option Word) (s : State),
    exec (.bitAliasAccess ini a w) s = .next (s.settle (s.begun.aliasAccess ini a w))) ∧
  (∀ (ini : Initiator) (a : Nat) (v : Word) (s : State),
    exec (.guardFirstWrite ini a v) s = .next (s.settle (s.begun.access ini a v))) ∧
  (∀ (ini : Initiator) (a : Nat) (v : Word) (s : State),
    exec (.guardCompanionWrite ini a v) s = .next (s.settle (s.begun.access ini a v))) ∧
  (∀ (ini : Initiator) (blk : Nat) (g : GuardPend) (s : State), s.guardOf ini blk = some g → g.at_ + 256 ≤ s.clk.now →
    exec (.guardTimeout ini blk) s = .next (Foot.shared.finish s ((s.begun.guardDrop ini blk).guardErr g.addr 1))) ∧
  (∀ (ini : Initiator) (a : Nat) (w : Bool) (s : State),
    ∃ t, exec (.stallWatchdog ini a w) s = .next t ∧ t.rd R.FAB_STALL_ERR = s.rd R.FAB_STALL_ERR + 1#32 ∧
      t.rd R.FAB_STALL_LAST = word a ∧
      (match ini with | .host => t.fab.hostBus | .dome => t.fab.domeBus) = (if w then .done else .error)) ∧
  (∀ (n : Nat) (v : Word) (s : State),
    exec (.fabSigHostWrite n v) s = .next (s.settle (s.begun.access .host (R.FAB_SIG (n % 512)) v))) ∧
  (∀ (n t0 : Nat) (s : State), s.fab.sigAt.lookup n = some t0 → s.fd R.FAB_SIG_HOST_AGE 15 0 ≠ 0 → n < 512 →
    s.tbPast t0 (tbMs (s.fd R.FAB_SIG_HOST_AGE 15 0)) = true →
    ∃ t, exec (.sigHostAgeExpiry n) s = .next t ∧ t.sig n = 0#32 ∧ t.sigOk n = false ∧
      t.fab.sigAt = s.fab.sigAt.filter (fun e => e.1 != n)) ∧
  (∀ (ini : Initiator) (s : State), s.domainUp .fab = true →
    exec (.tbNowLoRead ini) s = .next (Foot.shared.finish s ((s.begun.busData ini (word s.clk.tb)).tbNowLatch ini))) ∧
  (∀ (ini : Initiator) (s : State), s.domainUp .fab = true →
    exec (.tbTickCountLoRead ini) s = .next (Foot.shared.finish s
      ((s.begun.busData ini (word s.clk.tickCount)).tbCountLatch ini))) ∧
  (∀ (ini : Initiator) (v : Word) (s : State),
    exec (.updStrobeWrite ini v) s = .next (s.settle (s.begun.access ini R.FAB_UPD_STROBE v))) ∧
  (∀ (ini : Initiator) (g : Nat) (v : Word) (s : State),
    exec (.fabUgCfgWrite ini g v) s = .next (s.settle (s.begun.access ini (R.FAB_UG_CFG (g % 16)) v))) ∧
  (∀ (g : Nat) (s : State), g < 16 → ugArmed (s.rd (R.FAB_UG_CFG g)) = true → s.tbReached (s.ugCmp g) = true →
    exec (.ugTbcmpStrobe g) s = .next (s.settle ((s.begun.strobe g).ugNext g (s.ugCmp g)))) ∧
  (∀ (ini : Initiator) (v : Word) (s : State),
    exec (.globalSnapshot ini v) s = .next (s.settle (s.begun.access ini R.FAB_SNAP v))) ∧
  (∀ (ini : Initiator) (v : Word) (s : State),
    exec (.sysBootlockWrite ini v) s = .next (s.settle (s.begun.access ini R.SYS_BOOTLOCK v)))

/-- Chapter 02: the commands that every function answers complete with their own effect: GET_INFO, GET_STATUS, CONFIGURE, APPLY,
START, STOP, REINIT, SET_EXPERT, and the operations they start. -/
def Obligations.CommonCommandsComplete : Prop :=
  (∀ (fn : Nat) (c : Cmd) (k : Nat) (s : State), Accepted fn 0x00 0 c k s → c.payload = [] →
    AnswersOK .upd (256 * fn) k c s (exec (.getInfo fn c) s) (fun u p => u = s.entered fn 0x00 k c ∧
      p = (s.entered fn 0x00 k c).infoBytes fn)) ∧
  (∀ (fn : Nat) (c : Cmd) (k : Nat) (s : State), Accepted fn 0x01 0 c k s → c.payload = [] → (s.fn fn).state ≠ .unused →
    AnswersOK .upd (256 * fn + 1) k c s (exec (.getStatus fn c) s) (fun u p => u = s.entered fn 0x01 k c ∧
      p = (s.entered fn 0x01 k c).commonStatus fn ++ (s.entered fn 0x01 k c).fnStatus fn k)) ∧
  (∀ (fn : Nat) (c : Cmd) (k : Nat) (s : State), Accepted fn 0x02 1 c k s → commonRefusal fn 0x02 = none → fn ≠ 2 →
    s.cfgState fn = true → (s.entered fn 0x02 k c).cfgCheck fn c.payload = stOK →
    AnswersOK .upd (256 * fn + 2) k c s (exec (.configure fn c) s) (fun u p => p = [] ∧
      u = (s.entered fn 0x02 k c).setFn fn (fun x => { x with pending := some c.payload }))) ∧
  (∀ (c : Cmd) (k : Nat) (s : State), Accepted 2 0x02 1 c k s → s.cfgState 2 = true →
    (s.entered 2 0x02 k c).cfgCheck 2 c.payload = stOK →
    AnswersOK .upd 0x0202 k c s (exec (.configure 2 c) s) (fun u p => p = [] ∧
      u = (s.entered 2 0x02 k c).setFn 2 (fun x => { x with
        pending := some (match x.pending with | some q => merMerge q c.payload | none => c.payload) }))) ∧
  (∀ (fn : Nat) (c : Cmd) (k : Nat) (q : List Byte) (s : State), Accepted fn 0x03 1 c k s → commonRefusal fn 0x03 = none →
    c.payload = [] → s.cfgState fn = true → s.prm.importing = false → (s.fn fn).pending = some q → fn ≠ 3 → fn ≠ 4 →
    fn ≠ 13 → fn ≠ 15 →
    exec (.apply fn c) s = .next (s.settle ((((((s.entered fn 0x03 k c).fnApply fn q).setFn fn (fun x => { x with
      pending := none, applied := some (cfgMerge fn ((s.fn fn).applied.getD []) q),
      state := if x.state = .stopped then .configured else x.state })).prmTxn (fun y =>
        y.setConfig fn (cfgMerge fn ((s.fn fn).applied.getD []) q))).answer k (256 * fn + 3) c stOK [])))) ∧
  (∀ (fn : Nat) (c : Cmd) (k : Nat) (p q : List Byte) (s t : State), Accepted fn 0x03 1 c k s → commonRefusal fn 0x03 = none →
    c.payload = [] → s.cfgState fn = true → s.prm.importing = false →
    ((s.fn fn).pending = some q ∧ p = cfgMerge fn ((s.fn fn).applied.getD []) q ∨
      (s.fn fn).pending = none ∧ p = (s.fn fn).applied.getD [] ∧ q = cfgWhole fn p) →
    (s.entered fn 0x03 k c).cfgBlocked fn p = false → (fn = 13 → p = [] ∨ camApplyOk p = true) →
    t = ((((s.entered fn 0x03 k c).fnApply fn q).setFn fn (fun x => { x with
      pending := none, applied := some p, state := if x.state = .stopped then .configured else x.state })).prmTxn (fun y =>
        y.setConfig fn p)).answer k (256 * fn + 3) c stOK [] →
    exec (.apply fn c) s = .next (s.settle (if fn = 15 then State.ipChanged (s.entered fn 0x03 k c) t else t))) ∧
  (∀ (fn : Nat) (c : Cmd) (k : Nat) (s : State), Accepted fn 0x04 0 c k s → serviceFn fn = false →
    c.payload.length = (if fn = 8 then 1 else 0) → (fn = 8 → u8 c.payload 0 ≤ 2) →
    ((s.fn fn).state = .configured ∨ fn = 23 ∧ (s.fn fn).state = .stopped) → s.power = 3 → s.fnBlocked fn = false →
    exec (.start fn c) s = .next (s.settle (((s.entered fn 0x04 k c).fnStart fn c.payload).answer k (256 * fn + 4) c stOK []))) ∧
  (∀ (fn : Nat) (c : Cmd) (k : Nat) (s : State), Accepted fn 0x05 0 c k s → serviceFn fn = false → c.payload = [] →
    (s.fn fn).state = .running →
    exec (.stop fn c) s = .next (s.settle (((s.entered fn 0x05 k c).fnStop fn).answer k (256 * fn + 5) c stOK []))) ∧
  (∀ (fn : Nat) (c : Cmd) (k loop : Nat) (s : State), Accepted fn 0x0E 1 c k s → commonRefusal fn 0x0E = none →
    c.payload = [] → (s.fn fn).owner = none →
    exec (.reinit fn c loop) s = .next (s.settle
      (((s.entered fn 0x0E k c).doReinit fn loop (some (k, 256 * fn + 14, c))).keep k c none))) ∧
  (∀ (fn : Nat) (p : List Byte) (s : State), (s.fn fn).state = .reinit → (s.fn fn).applied = some p → (s.fn fn).reply = none →
    fn ≠ 0x13 → fn ≠ 0x16 →
    exec (.reinitComplete fn true) s = .next (s.settle
      ((s.begun.fnRestore fn p).setFn fn (fun y => { y with reply := none, state := .configured })).domeRefresh)) ∧
  (∀ (fn k op : Nat) (c : Cmd) (s : State), (s.fn fn).state = .reinit → (s.fn fn).applied = none →
    (s.fn fn).reply = some (k, op, c) →
    exec (.reinitComplete fn true) s = .next (s.settle
      (((s.begun.setFn fn (fun y => { y with
        reply := none, state := if fn = 0x13 ∨ fn = 0x16 then .running else .stopped })).domeRefresh).answer k op c stOK []))) ∧
  (∀ (fn : Nat) (c : Cmd) (k loop : Nat) (s : State), Accepted fn 0x0F 2 c k s → commonRefusal fn 0x0F = none →
    c.payload.length = 1 → u8 c.payload 0 = 1 → (s.ses k).udp = none → (s.fn fn).state = .running → (s.fn fn).owner = none →
    (s.fn fn).transfer = none → controlFns.contains fn = false →
    exec (.setExpert fn c loop) s = .next (s.settle
      (((s.entered fn 0x0F k c).takeExpert fn k).answer k (256 * fn + 15) c stOK []))) ∧
  (∀ (fn : Nat) (c : Cmd) (k loop : Nat) (s : State), Accepted fn 0x0F 2 c k s → commonRefusal fn 0x0F = none →
    c.payload.length = 1 → u8 c.payload 0 = 1 → (s.ses k).udp = none → (s.fn fn).state = .running → (s.fn fn).owner = none →
    (s.fn fn).transfer = none → controlFns.contains fn = true →
    exec (.setExpert fn c loop) s = .next (s.settle
      (((s.entered fn 0x0F k c).setFn fn (fun y => { y with transfer := some (s.clk.tickCount, c) })).keep k c none))) ∧
  (∀ (fn : Nat) (c : Cmd) (k loop : Nat) (s : State), Accepted fn 0x0F 2 c k s → commonRefusal fn 0x0F = none →
    c.payload.length = 1 → u8 c.payload 0 = 0 → (s.fn fn).owner.isSome = true →
    exec (.setExpert fn c loop) s = .next (s.settle
      (((s.entered fn 0x0F k c).returnBasic fn loop (some (k, 256 * fn + 15, c))).keep k c none))) ∧
  (∀ (fn k : Nat) (t0 : Nat) (c : Cmd) (s : State), (s.fn fn).transfer = some (t0, c) → t0 < s.clk.tickCount →
    s.sessionOf c = some k →
    exec (.expertTransfer fn) s = .next ((Foot.shared.and [.pos] [.eth, .pos]).finish s
      (((s.begun.setFn fn (fun y => { y with transfer := none })).takeExpert fn k).answer k (256 * fn + 15) c stOK []))) ∧
  (∀ (fn : Nat) (s : State), (s.fn fn).state ≠ .faulted → (s.fn fn).state ≠ .unused →
    exec (.functionFault fn) s = .next (s.settle (s.begun.fnFault fn)))

/-- Chapters 01, 02 and 04: the SYS commands of the mailbox, the end of a class C command and the work of a control-tick and of a
pair-cycle boundary complete with their own effect. -/
def Obligations.SystemCommandsComplete : Prop :=
  (∀ (c : Cmd) (k : Nat) (s : State), Accepted 1 0x04 0 c k s → c.payload = [] → s.pwr.held ≠ 3 → s.power = 3 →
    (List.range 24).any (fun f => s.starts f && s.fnBlocked f) = false →
    exec (.sysStart c) s = .next (s.settle ((s.entered 1 0x04 k c).goRun.answer k 0x0104 c stOK []))) ∧
  (∀ (c : Cmd) (k : Nat) (s : State), Accepted 1 0x05 1 c k s → c.payload = [] → s.pwr.held ≠ 2 →
    exec (.sysStop c) s = .next (s.settle ((s.entered 1 0x05 k c).goReady.answer k 0x0105 c stOK []))) ∧
  (∀ (c : Cmd) (k : Nat) (s : State), Accepted 1 0x10 1 c k s → c.payload = [] → s.pwr.resetDue = none →
    AnswersOK .pwr 0x0110 k c s (exec (.sysDeviceReset c) s) (fun u p => p = [] ∧
      u = (s.entered 1 0x10 k c).setPwr (fun p => { p with resetDue := some (s.clk.now + fabMs 10) }))) ∧
  (∀ (c : Cmd) (k : Nat) (s : State), Accepted 1 0x11 1 c k s → c.payload = [] → s.pwr.cycleDue = none →
    AnswersOK .pwr 0x0111 k c s (exec (.sysPowerCycle c) s) (fun u p => p = [] ∧
      u = (s.entered 1 0x11 k c).setPwr (fun p => { p with cycleDue := some (s.clk.now + fabMs 10) }))) ∧
  (∀ (c : Cmd) (k : Nat) (s : State), Accepted 1 0x12 0 c k s → c.payload.length = 2 → u16 c.payload 0 ≤ 3600 →
    AnswersOK .pwr 0x0112 k c s (exec (.sysKeepAwake c) s) (fun u p => p = [] ∧
      u = (s.entered 1 0x12 k c).setSes k (fun x => { x with
        keepAwake := if u16 c.payload 0 = 0 then none else some (s.clk.tb + tbMs (1000 * u16 c.payload 0)) }))) ∧
  (∀ (c : Cmd) (k : Nat) (s : State), Accepted 1 0x13 0 c k s → c.payload.length = 1 → u8 c.payload 0 ≤ 2 →
    s.bt R.PWR_STATE 8 = false → s.pwr.keyOff ≠ .shutdown →
    exec (.sysShutdownNow c) s = .next (s.settle
      (((s.entered 1 0x13 k c).keyOffStep2 (u8 c.payload 0)).answer k 0x0113 c stOK []))) ∧
  (∀ (fn : Nat) (r : Running) (x : State × Nat × List Byte) (s : State), s.mbx.running.find? (fun r => r.fn == fn) = some r →
    s.begun.classCEnd r = some x →
    exec (.classCCommandDone fn) s = .next ((Foot.shared.and [.inp, .prm, .saf, .shadow, .upd] [.ain, .din, .prm, .snt]).finish s
      (x.1.classCAnswer r x.2.1 x.2.2))) ∧
  (∀ (tb : Nat) (l : List Nat) (s : State), s.clk.due = tb :: l →
    exec .controlTick s = .next (s.settleAt (s.clk.tickNext tb l) ({ s.begun with clk := s.clk.tickNext tb l } : State).boundary)) ∧
  (∀ (m : Measure) (tb : Nat) (l : List Nat) (s : State), s.clk.due = tb :: l → (s.clk.tickCount + 1) % 20 = 0 →
    exec (.pairCycleBoundary m) s = .next (s.settleAt (s.clk.tickNext tb l)
      ((({ s.begun with clk := s.clk.tickNext tb l } : State).setPwr (fun p => { p with meas := m })).supLimits m.limit).boundary))

/-- Chapter 02: the events of the mailbox and the sessions complete with their own effect: claims, ring placements, index writes,
hold-offs, datagrams, time-outs. -/
def Obligations.MailboxEventsComplete : Prop :=
  (∀ (ini : Initiator) (k : Nat) (s : State), s.domainUp .fab = true → s.freeIndex = some k →
    exec (.mbxClaimRead ini) s = .next (Foot.shared.finish s
      ((s.begun.busData ini s.claimValue).setSes k (fun _ => { place := .claimed, claimAt := s.clk.tb })))) ∧
  (∀ (k : Nat) (s : State), ((s.ses k).place = .claimed ∨ (s.ses k).place = .bootstrap) → (s.ses k).sawOpen = false → s.tbPast (s.ses k).claimAt (tbMs 1000) = true →
    exec (.claimReservationLapse k) s = .next (Foot.shared.finish s (s.begun.freeSession k))) ∧
  (∀ (k : Nat) (s : State), (s.ses k).place = .claimed → 2 ≤ s.dome →
    exec (.bootstrapRingPlacement k) s = .next (Foot.shared.finish s
      (((s.begun.placeRing k k 4).placeRing k (16 + k) 4).setSes k (fun x => { x with place := .bootstrap })))) ∧
  (∀ (k : Nat) (s : State), (s.ses k).place = .awaitPlace →
    (s.rd (R.MBX_Q_CONS (16 + k)) - word (s.ses k).authIndex).toNat < 2147483648 →
    exec (.sessionRingPlacement k) s = .next (Foot.shared.finish s
      (((((([k, 16 + k, 32 + k].foldl (fun (t : State) n => t.placeRing k n (s.ses k).slotsLog2) (s.begun.dropRings k)).wr
        R.MBX_WIN_BASE (word (4096 * Config.winPlace.toNat))).setSes k (fun y => { y with place := .placed }))).flushResp k).flushNotif
        k))) ∧
  (∀ (n : Nat) (v : Word) (l : List HostSlot) (s : State),
    exec (.mbxQProdWrite n v l) s = .next (Foot.shared.finish s (s.begun.prodWrite n v l))) ∧
  (∀ (n : Nat) (v : Word) (s : State),
    exec (.mbxQConsWrite n v) s = .next (Foot.shared.finish s (s.begun.consWrite n v))) ∧
  (∀ (t0 : Nat) (s : State), s.mbx.irqSince = some t0 → s.tbPast t0 (50 * s.fd R.MBX_IRQ_HOLDOFF 15 0) = true →
    s.mbx.irqHeld = false →
    ∃ t, exec .irqHoldoffExpiry s = .next t ∧ t.mbx.irqSince = none ∧ t.out = []) ∧
  (∀ (t0 : Nat) (s : State), s.mbx.irqSince = some t0 → s.tbPast t0 (50 * s.fd R.MBX_IRQ_HOLDOFF 15 0) = true →
    s.mbx.irqHeld = true →
    exec .irqHoldoffExpiry s = .next (Foot.shared.finish s
      ({ s.begun with mbx := { s.mbx with irqSince := none, irqHeld := false } } : State).raiseIrq)) ∧
  (∀ (k cls : Nat) (s : State),
    exec (.notifHoldoffExpiry k cls) s = .next (Foot.shared.finish s (s.begun.notifPending k cls))) ∧
  (∀ (ip port : Nat) (p : List Byte) (s : State),
    exec (.kmpDatagramRx ip port p) s = .next ((Foot.shared.and [] [.eth]).finish s (s.begun.kmpRx ip port p))) ∧
  (∀ (ip ident : Nat) (s : State),
    ∃ t, exec (.ipv4ReassemblyTimeout ip ident) s = .next t ∧
      t.mbx.frags = s.mbx.frags.filter (fun f => !(f.ip == ip && f.ident == ident && s.tbPast f.at_ (tbMs 2000)))) ∧
  (∀ (n ip port : Nat) (r : DataRing) (s : State), s.ring? n = some r → (s.ses r.session).udp = some (ip, port) →
    s.unacked n ≠ [] →
    ∃ t, exec (.udpDataResend n) s = .next t ∧ t.out = dataGrams ip port n (s.unacked n).length (s.unacked n) ∧
      t.mbx.slots = s.mbx.slots.map (fun x => if (s.unacked n).contains x then { x with sentAt := s.clk.tb } else x)) ∧
  (∀ (ip port : Nat) (s : State),
    ∃ t, exec (.linkOpenKeepExpiry ip port) s = .next t ∧
      t.mbx.openKept = s.mbx.openKept.filter (fun e => !(e.ip == ip && e.port == port && s.tbPast e.at_ (tbMs 10000)))) ∧
  (∀ (src : Nat) (s : State), s.srcBlocked src = false →
    ∃ t, exec (.authBlockExpiry src) s = .next t ∧ t.mbx.sources = s.mbx.sources.map (fun (a : AuthSource) =>
      if a.src = src then { a with blocked := none } else a)) ∧
  (∀ (k loop : Nat) (s : State), ((s.ses k).isOpen = true ∨ (s.ses k).sawOpen = true) → s.power ≠ 2 → s.tbPast (s.ses k).lastCmd (tbMs 300000) = true →
    exec (.sessionIdleTimeout k loop) s = .next (s.settle (s.begun.closeSession k loop))) ∧
  (∀ (fn permille k : Nat) (r : Running) (s : State), s.mbx.running.find? (fun r => r.fn == fn) = some r →
    s.sessionOf r.cmd = some k → (s.ses k).progWait = [] → s.notifRoom k = true →
    exec (.progressNotify fn permille) s = .next (Foot.shared.finish s
      (({ s.begun with mbx := { s.mbx with running := s.mbx.running.map (fun (x : Running) =>
          if x.fn = fn then { x with progress := s.clk.tb } else x) } } : State).sendSlot k (32 + k)
        { opcode := r.opcode, flags := 12, session := k, seq := r.cmd.seq, status := 0,
          payload := leBytes 4 1 ++ leBytes 2 permille ++ leBytes 2 0 ++ leBytes 4 ((s.clk.tb - r.since) / 50000) })))

/-- Chapter 02: LINK commands complete: an open on a free ring, an answered challenge, and the commands of an open session. -/
def Obligations.LinkCommandsComplete : Prop :=
  (∀ (c : Cmd) (q : Nat) (s : State), c.origin = .ring q → 2 ≤ s.dome → s.turn 0x10 c = true → q < 16 → s.bt (R.MBX_Q_CFG q) 15 = true →
    (∀ e ∈ (s.ses q).kept, e.seq ≠ c.seq) →
    exec (.linkOpen c) s = .next (Foot.shared.finish s ((s.begun.takeInbox 0x10 c).openOnRing q c))) ∧
  (∀ (c : Cmd) (ip port : Nat) (s : State), c.origin = .udp ip port → 2 ≤ s.dome → s.turn 0x10 c = true →
    s.sessionOf c = none → s.keptOpen ip port c = none →
    ∃ t r, exec (.linkOpen c) s = .next (Foot.shared.finish s { t.sendResp c r with mbx := { (t.sendResp c r).mbx with
        openKept := { ip := ip, port := port, seq := c.seq, crc := c.crc, resp := r, at_ := s.clk.tb } ::
          (t.sendResp c r).mbx.openKept.filter (fun e => !(e.ip == ip && e.port == port)) } }) ∧
      (t, r) = (s.begun.takeInbox 0x10 c).openOnUdp ip port c) ∧
  (∀ (c : Cmd) (k : Nat) (h : Challenge) (s : State), 2 ≤ s.dome → s.turn 0x11 c = true → s.sessionOf c = some k →
    (∀ e ∈ (s.ses k).kept, e.seq ≠ c.seq) → (s.ses k).isOpen = false → c.payload.length = 32 →
    (s.ses k).challenge = some h → k < s.mbx.sessions.length → s.authOk h (s.arrivedAt 0x11 c) c.payload = true →
    exec (.linkAuth c) s = .next (Foot.shared.finish s
      (((s.begun.takeInbox 0x11 c).setSes k (fun x => { x with lastCmd := s.clk.tb })).opened k h c))) ∧
  (∀ (c : Cmd) (k loop : Nat) (s : State), Accepted 0 0x12 0 c k s → c.payload = [] →
    exec (.linkClose c loop) s = .next (s.settle (((s.entered 0 0x12 k c).answer k 0x12 c stOK []).closeSession k loop))) ∧
  (∀ (c : Cmd) (k : Nat) (s : State), Accepted 0 0x13 0 c k s → c.payload = [] →
    AnswersOK .shared 0x13 k c s (exec (.linkPing c) s) (fun u p => u = s.entered 0 0x13 k c ∧ p = [])) ∧
  (∀ (c : Cmd) (k : Nat) (s : State), Accepted 0 0x14 0 c k s → c.payload.length = 4 →
    AnswersOK .shared 0x14 k c s (exec (.linkSubscribe c) s) (fun u p =>
      u = (s.entered 0 0x14 k c).setSes k (fun x => { x with mask := w32 c.payload 0 }) ∧ p = [])) ∧
  (∀ (c : Cmd) (k : Nat) (s : State), Accepted 0 0x15 0 c k s → c.payload.length = 8 →
    s.mbx.rings.any (fun r => r.ring == u8 c.payload 0 && r.session == k) = true →
    s.consValid (u8 c.payload 0) (w32 c.payload 4) = true →
    AnswersOK .shared 0x15 k c s (exec (.linkDataAck c) s) (fun u p =>
      u = (s.entered 0 0x15 k c).consAdvance (u8 c.payload 0) (w32 c.payload 4) ∧ p = [])) ∧
  (∀ (c : Cmd) (k : Nat) (s : State), Accepted 0 0x16 2 c k s → c.payload.length = 36 → 1 ≤ u8 c.payload 0 →
    u8 c.payload 0 ≤ 31 → u8 c.payload 1 ≤ 2 → u8 c.payload 1 ≤ (s.ses k).role →
    s.prm.store.keys.getD (u8 c.payload 0) none = none → s.prm.importing = false →
    AnswersOK (Foot.shared.and [.prm] [.prm]) 0x16 k c s (exec (.linkKeySet c) s) (fun u p =>
      u = (s.entered 0 0x16 k c).prmTxn (fun y => { y with keys := updAt y.keys (u8 c.payload 0) (fun _ =>
        some (u8 c.payload 1, BitVec.ofNat 256 (leNat (slice c.payload 4 32)))) }) ∧ p = []))

/-- Chapter 08: Meridian's mailbox commands, accepted and with a payload the spec allows, complete with their own effect. -/
def Obligations.MeridianCommandsComplete : Prop :=
  (∀ (ini : Initiator) (m : Nat) (v : Word) (s : State), s.domainUp .ctl = true → (ini = .host → s.expert fMER = true) →
    exec (.merStIWrite ini m v) s = .next (Foot.mer.finish s
      (((s.begun.reached ini Win.mer.1).setSlot m (fun x => { x with stI := some v.toInt })).busDone ini))) ∧
  (∀ (c : Cmd) (k : Nat) (es : List (Nat × Word)) (s : State), Accepted fMER 0x10 0 c k s → 1 ≤ u8 c.payload 0 →
    u8 c.payload 0 ≤ 5 → c.payload.length = 4 + 8 * u8 c.payload 0 →
    es = (List.range (u8 c.payload 0)).map (fun i => (u8 c.payload (4 + 8 * i), w32 c.payload (8 + 8 * i))) →
    (∀ e ∈ es, e.1 < 64) → s.isRunning fCST = false →
    AnswersOK (Foot.mer.and [.shadow] []) 0x0210 k c s (exec (.merSetpoint c) s) (fun u p => p = [] ∧
      u = if s.tickEarly then es.foldl (fun (t : State) e => t.shadowWr (R.MER_SP e.1) 2 e.2) (s.entered fMER 0x10 k c)
        else (s.entered fMER 0x10 k c).setMer (fun x => { x with late := x.late ++ es }))) ∧
  (∀ (c : Cmd) (k : Nat) (s : State), Accepted fMER 0x11 1 c k s → c.payload.length = 28 → u8 c.payload 0 < 64 →
    AnswersOK (Foot.mer.and [.shadow] []) 0x0211 k c s (exec (.merSetGains c) s) (fun u p =>
      p = [] ∧ u = (([(R.MER_KP (u8 c.payload 0), 0), (R.MER_KI (u8 c.payload 0), 1), (R.MER_KD (u8 c.payload 0), 2),
        (R.MER_KFV (u8 c.payload 0), 3), (R.MER_KFA (u8 c.payload 0), 4), (R.MER_SHIFT (u8 c.payload 0), 5)]).foldl
          (fun (t : State) e => t.shadowWr e.1 1 (w32 c.payload (4 + 4 * e.2))) (s.entered fMER 0x11 k c)).applyShadow 1)) ∧
  (∀ (c : Cmd) (k : Nat) (s : State), Accepted fMER 0x12 1 c k s → c.payload.length = 8 → u8 c.payload 0 < 64 →
    (i32 c.payload 4).natAbs ≤ s.fd (R.MER_IMAX (u8 c.payload 0)) 30 0 →
    AnswersOK .mer 0x0212 k c s (exec (.merIntSet c) s) (fun u p =>
      u = (s.entered fMER 0x12 k c).setSlot (u8 c.payload 0) (fun x => { x with stI := some (i32 c.payload 4) }) ∧ p = [])) ∧
  (∀ (c : Cmd) (k : Nat) (s : State), Accepted fMER 0x13 0 c k s → c.payload.length = 1 → u8 c.payload 0 < 64 →
    AnswersOK .mer 0x0213 k c s (exec (.merReadSlot c) s) (fun u p => u = s.entered fMER 0x13 k c ∧
      p = wBytes (s.rd (R.MER_SP (u8 c.payload 0))) ++
        (List.range 8).flatMap (fun i => wBytes (s.rd (R.MER_ST_I (u8 c.payload 0) + 4 * i)))))

/-- Chapter 04: the events of the supplies, of the key and of the temperatures complete with their own effect. -/
def Obligations.PowerEventsComplete : Prop :=
  (∀ (i mv : Nat) (s : State), i < 10 → s.pwr.aonOn = true → s.pwr.dipSince.getD i none = none → mv < s.dipTh i →
    exec (.supplyDipBegin i mv) s = .next (Foot.pwr.finish s
      ((s.begun.setPwr (fun p => { p with dipSince := updAt p.dipSince i (fun _ => some s.clk.now) })).wb R.PWR_SUP_STATUS i
        true))) ∧
  (∀ (i mv t0 : Nat) (s : State), i < 10 → s.pwr.dipSince.getD i none = some t0 → s.dipTh i + 500 < mv →
    ∃ t, exec (.supplyDipEnd i mv) s = .next t ∧ t.pwr.dipSince = updAt s.pwr.dipSince i (fun _ => none) ∧
      t.bt R.PWR_SUP_STATUS i = false ∧ t.rd (R.PWR_DIP_LAST i) = word (min 0xFFFFFF ((s.clk.now - t0) / 2000)) ∧
      t.rd (R.PWR_DIP_CNT i) = s.rd (R.PWR_DIP_CNT i) + 1#32) ∧
  (∀ s : State, s.power = 3 → s.dome ≠ 0 → s.clk.running = true → s.tbPast s.pwr.mirrorTb (tbMs 60000) = true →
    exec .counterMirrorWrite s = .next ((Foot.pwr.and [.prm] [.prm]).finish s s.begun.mirrorWrite)) ∧
  (∀ (mv : Nat) (s : State), mv < 7500 → s.pwr.vbatOk = true → s.pwr.coreOn = true → s.pwr.holdup = false →
    ∃ t, exec (.vrstShed mv) s = .next t ∧ t.pwr.vbatOk = false ∧ t.pwr.shed = true ∧ t.pwr.holdup = true ∧
      t.pwr.fellAt = some s.clk.now ∧ t.almanac.isOpen = false ∧ t.pair.alive = false) ∧
  (∀ (mv : Nat) (s : State), 38000 < mv → s.pwr.overShed = false → s.pwr.coreOn = true →
    exec (.overvoltageShed mv) s = .next ((Foot.pwr.and [.adr, .cam, .gptp, .psw, .saf] [.adb, .adr, .ain, .cam, .eth, .psw]).finish s
      (((s.begun.setPwr (fun p => { p with overShed := true })).shedStages).post 1 .overVoltage))) ∧
  (∀ (mv : Nat) (s : State), mv < 37000 → s.pwr.overShed = true →
    exec (.overvoltageRecover mv) s = .next ((Foot.pwr.and [.adr, .cam, .psw, .saf] [.adb, .adr, .ain, .psw]).finish s
      (s.begun.setPwr (fun p => { p with overShed := false })).returnStages)) ∧
  (∀ (t0 : Int) (s : State),
    exec (.tempThreshold 0 t0) s = .next ((Foot.pwr.and [.adr, .vxa] [.adb]).finish s
      ((s.begun.setPwr (fun p => { p with tempWarn := hystT s.pwr.tempWarn t0 8800 8500 })).tempEvent s.pwr.tempWarn
        (hystT s.pwr.tempWarn t0 8800 8500))) ∧
    exec (.tempThreshold 1 t0) s = .next ((Foot.pwr.and [.adr, .vxa] [.adb]).finish s
      ((s.begun.setPwr (fun p => { p with appLimit := hystT s.pwr.appLimit t0 10500 10000 })).tempEvent s.pwr.appLimit
        (hystT s.pwr.appLimit t0 10500 10000))) ∧
    exec (.tempThreshold 8 t0) s = .next ((Foot.pwr.and [.adr, .vxa] [.adb]).finish s
      ((s.begun.setPwr (fun p => { p with boostHot := hystT s.pwr.boostHot t0 12500 11500 })).bstSync.tempEvent s.pwr.boostHot
        (hystT s.pwr.boostHot t0 12500 11500))) ∧
    exec (.tempThreshold 9 t0) s = .next ((Foot.pwr.and [.adr, .vxa] [.adb]).finish s
      ((s.begun.setPwr (fun p => { p with dramHot := hystT s.pwr.dramHot t0 9500 9000 })).tempEvent s.pwr.dramHot
        (hystT s.pwr.dramHot t0 9500 9000)))) ∧
  (∀ (t0 : Int) (s : State), s.pwr.vxaHot = false → 11500 < t0 →
    exec (.tempThreshold 2 t0) s = .next ((Foot.pwr.and [.adr, .vxa] [.adb]).finish s
      (((s.begun.setPwr (fun p => { p with vxaHalf := true, vxaHot := true })).tempEvent s.pwr.vxaHalf
        true).tempEvent false true).vxaAbort)) ∧
  (∀ s : State, s.bt R.PWR_STATE 8 = true → s.power = 3 → s.pwr.coreOn = true → s.pwr.keyOff = .none →
    ∃ t, exec .keyOff s = .next t ∧ t.bt R.PWR_STATE 8 = false ∧ t.pwr.keyOff = .delay ∧ t.pwr.keyTb = s.clk.tb) ∧
  (∀ s : State, s.bt R.PWR_STATE 8 = false → s.power = 3 → s.pwr.coreOn = true → s.pwr.keyOff = .delay →
    exec .keyOn s = .next (s.resettle (((s.begun.wb R.PWR_STATE 8 true).setPwr (fun p => { p with keyOff := .none })).notify 1
      0x81 (leBytes 8 s.clk.tb)))) ∧
  (∀ (loop : Nat) (s : State), s.pwr.keyOff = .delay → s.pwr.keyTb + tbMs (1000 * s.fd R.PWR_KEYOFF_CFG 25 16) ≤ s.clk.tb →
    s.keptAwake = false → s.dome ≠ 5 →
    exec (.keyoffShutdown loop) s = .next (s.settle
      ((s.begun.keyOffStep2 (s.fd R.PWR_KEYOFF_CFG 1 0)).keyOffStep3 loop))) ∧
  (∀ (susp : Bool) (s : State), s.pwr.keyOff = .shutdown → s.pwr.step3Done = true → s.pwr.step2At + fabS 5 ≤ s.clk.now →
    s.pwr.target = 0 →
    exec (.keyoffFinal susp) s = .next (s.resettle (s.begun.tc10.holdRelease 0))) ∧
  (∀ (susp : Bool) (s : State), s.pwr.keyOff = .shutdown → s.pwr.step3Done = true → s.pwr.step2At + fabS 5 ≤ s.clk.now →
    s.pwr.target = 1 →
    exec (.keyoffFinal susp) s = .next (s.resettle (s.begun.tc10.sentryBegin.holdRelease 1))) ∧
  (∀ s : State, s.pwr.keyOff = .shutdown → s.pwr.step3Done = true → s.pwr.step2At + fabS 5 ≤ s.clk.now → s.pwr.target = 2 →
    exec (.keyoffFinal true) s = .next (s.resettle (((s.begun.tc10.setPwr (fun p => { p with
      keyOff := .none, step3Done := false, offAt := s.clk.now, offTb := s.clk.tb, appSusp := true })).wf_ R.PWR_STATE 1 0 2).canStandby.supUpdateAll.safShed))) ∧
  (∀ (k : Nat) (s : State), (s.ses k).keepAwake.any (fun t => t ≤ s.clk.tb) = true →
    exec (.keepAwakeExpiry k) s = .next (Foot.pwr.finish s (s.begun.setSes k (fun x => { x with keepAwake := none })))) ∧
  (∀ (loop : Nat) (s : State), s.power = 2 → s.fd R.PWR_KEYOFF_CFG 15 8 ≠ 0 →
    s.pwr.offAt + fabS (3600 * s.fd R.PWR_KEYOFF_CFG 15 8) ≤ s.clk.now → s.pwr.step3Done = false →
    exec (.standbyTimeout loop) s = .next (s.resettle
      (if ((s.begun.setPwr (fun p => { p with target := 0 })).keyOffStep3 loop).pnlIdle then
          ((s.begun.setPwr (fun p => { p with target := 0 })).keyOffStep3 loop).holdRelease 0
        else (s.begun.setPwr (fun p => { p with target := 0 })).keyOffStep3 loop))) ∧
  (∀ (loop : Nat) (s : State), s.power = 2 → s.fd R.PWR_KEYOFF_CFG 15 8 ≠ 0 →
    s.pwr.offAt + fabS (3600 * s.fd R.PWR_KEYOFF_CFG 15 8) ≤ s.clk.now → s.pwr.step3Done = true → s.pnlIdle = true →
    exec (.standbyTimeout loop) s = .next (s.resettle (s.begun.holdRelease 0))) ∧
  (∀ (mv since : Nat) (s : State), s.power = 1 → mv < s.dipTh 1 → since + fabS 60 ≤ s.clk.now →
    exec (.sentryAonLow mv since) s = .next ((Foot.pwr.and [.pos] []).finish s (s.begun.sentryEnd.wf_ R.PWR_STATE 1 0 0))) ∧
  (∀ s : State, s.pwr.aonOn = true →
    exec .xtal32Fail s = .next (Foot.pwr.finish s (s.begun.setPwr (fun p => { p with xtalBad := true })).xtalShow))

/-- Chapter 04: hold-up, wake, every reset, the lock and the loss of the PLL, the check of the container and start-up complete
with their own effect. -/
def Obligations.ResetAndStartupComplete : Prop :=
  (∀ (mv : Nat) (s : State), 8000 < mv → s.pwr.vbatOk = false → s.pwr.coreOn = true → s.pwr.holdup = true →
    exec (.vbatRiseVrst mv) s = .next (s.resettle
      (s.begun.setPwr (fun p => { p with vbatOk := true, roseAt := some (p.roseAt.getD s.clk.now), confAt := some s.clk.now })))) ∧
  (∀ (f r x : Nat) (s : State), s.pwr.fellAt = some f → s.pwr.confAt = some r → s.pwr.roseAt = some x → s.pwr.holdup = true → s.pwr.vbatOk = true →
    r + fabMs 1 ≤ s.clk.now → holdupGood f r = true → s.pwr.cycleDue = none → s.pwr.resetDue = none →
    ∃ t, exec .holdupRecovered s = .next t ∧ t.pwr.shed = false ∧ t.pwr.holdup = false ∧ t.pwr.fellAt = none ∧
      t.rd R.PWR_HOLDUP_LAST = word ((x - f) / 2000 % 65536 + 65536) ∧ t.pair.alive = decide (2 ≤ s.dome && s.dome ≤ 5)) ∧
  (∀ (f : Nat) (s : State), s.pwr.fellAt = some f → s.pwr.roseAt = none → s.pwr.confAt = none →
    s.pwr.holdup = true → f + fabMs 30 ≤ s.clk.now →
    exec .holdupExpiry s = .next (s.resettle
      ((((s.begun.holdupLast 3000 2).coreStop false).setPwr (fun p => { p with borEvent := true })).startUp))) ∧
  (∀ s : State, s.pwr.aonOn = true → s.pwr.releasedAt = none → (s.pwr.woken = true ∨ s.pwr.vbatBack = true) →
    exec .brownOutReset s = .next (s.resettle s.begun.startUp)) ∧
  (∀ s : State, s.pwr.coreOn = false → s.pwr.vbatOk = false → s.pwr.aonOn = true → s.pwr.lowAt + fabS 2 ≤ s.clk.now →
    ∃ t, exec .aonPowerLoss s = .next t ∧ t.pwr.aonOn = false ∧ t.pwr.coreOn = false ∧ t.clk.running = false) ∧
  (∀ (w : WakeIn) (s : State), w.src = 0 → s.bt R.PWR_STATE 8 = true → exec (.wake w) s = .next (s.resettle (s.begun.wakeBy 0))) ∧
  (∀ (w : WakeIn) (s : State), 1 ≤ w.src → w.src ≤ 6 → s.bt R.PWR_WAKE_EN w.src = true → (w.src = 1 → s.dinWakes w = true) →
    (w.src = 4 → s.timerDue = true) → (w.src = 6 → s.pos.sentry.wake = true) →
    exec (.wake w) s = .next (s.resettle (s.begun.wakeBy w.src))) ∧
  (∀ (t0 : Nat) (s : State), s.pwr.releasedAt = some t0 →
    t0 + fabMs (clampN 500 10000 (s.fd R.PWR_PC_OFF 13 0)) ≤ s.clk.now → s.bt R.PWR_STATE 8 = false → s.pwr.wakePend = true →
    exec .powerOffHoldEnd s = .next (s.resettle (s.begun.setPwr (fun p => { p with releasedAt := none })).wakeNow)) ∧
  (∀ (t0 : Nat) (s : State), s.pwr.cycleDue = some t0 → t0 ≤ s.clk.now → s.pwr.holdup = false →
    exec .pwrHoldRelease s = .next (s.resettle s.begun.powerCycle)) ∧
  (∀ s : State, exec .powerOnReset s = .next (s.resettle (s.begun.deviceReset 0))) ∧
  (∀ (us : Nat) (s : State), s.pwr.coreOn = true → s.bt R.SYS_WDOG_CFG 16 = true → 1000 ≤ us →
    exec (.pinReset us) s = .next (s.resettle (s.begun.deviceReset 2))) ∧
  (∀ s : State, s.pwr.coreOn = true → exec .watchdogReset s = .next (s.resettle (s.begun.deviceReset 3))) ∧
  (∀ (t0 : Nat) (s : State), s.pwr.resetDue = some t0 → t0 ≤ s.clk.now → s.pwr.holdup = false →
    exec .deviceReset s = .next (s.resettle (s.begun.deviceReset 4))) ∧
  (∀ (t0 : Nat) (s : State), s.saf.safrst = some t0 → t0 ≤ s.clk.now → s.pwr.coreOn = true →
    exec .safetyReset s = .next (s.resettle (s.begun.deviceReset 5))) ∧
  (∀ s : State, s.clk.running = false → s.pwr.coreOn = true →
    ∃ t, exec .pllLock s = .next t ∧ t.clk.running = true ∧ t.clk.tb = 0 ∧ t.fd R.SYS_CLK_STATUS 1 0 = 3) ∧
  (∀ (tcxo : Bool) (s : State), s.clk.running = true →
    (s.clk.lost = false ∨ tcxo = true ∧ s.bt R.SYS_CLK_STATUS 1 = true) →
    ∃ t, exec (.clockLoss tcxo) s = .next t ∧ t.clk.lost = true ∧ t.pwr.clockEvent = true ∧
      t.rd R.SYS_PLL_UNLOCKS = s.rd R.SYS_PLL_UNLOCKS + 1#32) ∧
  (∀ s : State, s.dome = 0 → s.clk.running = true → s.pwr.coreOn = true → s.upd.stored = none → s.upd.marker = false →
    s.pwr.third = false →
    exec (.containerVerified true) s = .next ((Foot.pwr.and [.adr, .eth, .psw, .saf, .upd] [.adb, .adr, .psw]).finish s
      (((s.begun.setEth (fun e => if e.reload.isSome then e else { e with fwd := true, ext := true })).setUpd
        (fun u => { u with run := u.stored })).domeSet 1))) ∧
  (∀ s : State, s.dome = 0 → s.clk.running = true → s.pwr.coreOn = true →
    exec (.containerVerified false) s = .next ((Foot.pwr.and [.adr, .eth, .psw, .saf, .upd] [.adb, .adr, .psw]).finish s
      ((s.begun.setEth (fun e => if e.reload.isSome then e else { e with fwd := true, ext := true })).initCounts.serviceUp.domeSet
        6))) ∧
  (∀ (subOk loop : Nat) (s : State), s.dome = 1 → s.clk.running = true →
    exec (.initComplete subOk loop) s = .next (s.settle ((s.begun.initStart loop).initEnd subOk)) ∧
    (s.begun.initStart loop).dome = 2 ∧ (s.begun.initStart loop).rd R.SYS_BOOTLOCK = 0x3F#32)

/-- Chapter 05: the commands of the digital inputs complete with their own effect: a debounced edge, a wire break and its end, a
change of the field supply, a read of the edge FIFO. -/
def Obligations.DigitalInputEventsComplete : Prop :=
  (∀ (n : Nat) (level : Bool) (ua : Sample) (s : State), n < 40 → s.isRunning fDIN = true → s.diBreak n = false →
    s.vfsMissing (n / 10) = false → s.tbReached (ua.tb + 50 * (s.diDeb n - 1)) = true → s.diRead n level ua.val ≠ s.diState n →
    exec (.diEdge n level ua) s = .next (Foot.inputs.finish s (s.begun.diChange n (s.diRead n level ua.val) ua.tb))) ∧
  (∀ (n : Nat) (ua : Sample) (s : State), n < 40 → ua.val < 500 → s.isRunning fDIN = true → s.bt (R.DIN_CFG n) 18 = true → s.diBreak n = false →
    s.vfsMissing (n / 10) = false → s.tbReached (ua.tb + 50 * (s.diDeb n - 1)) = true →
    exec (.diWireBreak n ua) s = .next (Foot.inputs.finish s
      ((((s.begun.wb (dinReg R.DIN_BREAK0 R.DIN_BREAK1 n) (n % 32) true).setDi n false).inc R.DIN_BREAK_CNT).notify fDIN 0x81
        [byte n, 1#8]))) ∧
  (∀ (ua : Reading) (s : State), ua.n < 40 → 500 < ua.val → s.isRunning fDIN = true → s.diBreak ua.n = true →
    s.vfsMissing (ua.n / 10) = false →
    ∃ t, exec (.diBreakClear ua) s = .next t ∧ t.diBreak ua.n = false ∧
      t.inp.reest = updAt s.inp.reest ua.n (fun _ => some s.clk.tb)) ∧
  (∀ (g mv : Nat) (s : State), g < 4 → mv < 9000 → s.vfsMissing g = false →
    ∃ t, exec (.fieldSupplyChange g mv) s = .next t ∧ t.vfsMissing g = true ∧ t.bt R.DIN_GRP_STATUS g = true) ∧
  (∀ (ini : Initiator) (s : State), s.domainUp .ctl = true →
    ∃ t, exec (.dinFifoHiRead ini) s = .next t ∧ t.inp.fifo = s.inp.fifo.drop 1 ∧
      (match ini with | .host => t.fab.hostBus | .dome => t.fab.domeBus) = .data (s.rd R.DIN_FIFO_HI))

/-- Chapter 05: the commands of the analog, bridge, speed and impact inputs complete with their own effect. -/
def Obligations.AnalogInputEventsComplete : Prop :=
  (∀ (n x f : Nat) (s : State), n < 24 → s.isRunning fAIN = true → s.ainMode n ≠ 0 → s.ainMode n ≠ 7 → s.ainDone n = some f →
    f % max 1 (fld (s.rd (R.AIN_CFG n)) 17 6) = 0 → (s.ain n).frame ≠ some f → n < s.inp.ain.length →
    ∃ t, exec (.ainConversion n x) s = .next t ∧ (t.ain n).frame = some f ∧ (t.ain n).first = false) ∧
  (∀ (n : Nat) (on : Bool) (s : State), n < 24 → s.isRunning fAIN = true →
    exec (.ainFaultEnter 0 n on) s = .next (Foot.inputs.finish s (s.begun.ainEval n))) ∧
  (∀ (n : Nat) (s : State), n < 4 → s.isRunning fAIN = true → s.bt (R.AIN_BRG_CFG n) 15 = true →
    s.supOn (s.fd (R.AIN_BRG_CFG n) 8 8) = false → s.fd (R.AIN_BRG_RAW n) 25 24 = 0 →
    exec (.ainFaultEnter 1 n true) s = .next (Foot.inputs.finish s
      ((((s.begun.wf_ (R.AIN_BRG_RAW n) 25 24 2).dropSig (0x58 + n)).inc R.AIN_RANGE_ERR).notify fAIN 0x80
        [1#8, byte n, 2#8]))) ∧
  (∀ (n t0 : Nat) (s : State), n < 24 → s.isRunning fAIN = true → s.ainMode n = 4 → (s.ain n).overAt = some t0 →
    (s.ain n).shuntOff = none → s.tbPast t0 (tbMs 1) = true →
    exec (.ain4maTrip n) s = .next (Foot.inputs.finish s (((s.begun.setAin n (fun c =>
      { c with shuntOff := some s.clk.tb, overAt := none })).inc R.AIN_4MA_TRIPS).ainShow n))) ∧
  (∀ (n t0 : Nat) (s : State), (s.ain n).shuntOff = some t0 → s.tbPast t0 (tbMs 1000) = true →
    exec (.ain4maReconnect n) s = .next (Foot.inputs.finish s
      ((s.begun.setAin n (fun c => { c with shuntOff := none })).ainShow n))) ∧
  (∀ (k : Nat) (code : Int) (s : State), k < 4 → s.isRunning fAIN = true → s.bt (R.AIN_BRG_CFG k) 15 = true →
    s.inp.discard.getD k 0 = 0 → s.supOn (s.fd (R.AIN_BRG_CFG k) 8 8) = true → -8388608 < code → code < 8388607 →
    ∃ t, exec (.bridgeCode k code) s = .next t ∧
      t.sig (0x58 + k) = (scale code (s.rd (R.AIN_BRG_TARE k)).toInt (s.rd (R.AIN_BRG_GAIN k)).toInt
        (s.fd (R.AIN_BRG_CFG k) 13 9)).1) ∧
  (∀ (j stamp : Nat) (both : Bool) (s : State), j < 12 → s.isRunning fAIN = true → s.quadOf j = none →
    s.fd (R.AIN_SPD_CFG j) 1 0 = 1 →
    exec (.speedEdge j true both stamp) s = .next (Foot.inputs.finish s
      (s.begun.setSpd j (fun c => { c with edges := c.edges ++ [(stamp, 1)] })))) ∧
  (∀ (j t0 : Nat) (s : State), j < 12 → (s.inp.spd.getD j {}).t0 = some t0 → 500000000 < s.clk.tickStamp - t0 →
    (s.inp.spd.getD j {}).edges = [] →
    exec (.speedZeroTimeout j) s = .next (Foot.inputs.finish s (s.begun.speedCompute s.clk.tickStamp j))) ∧
  (∀ (a : Nat) (x : Int) (s : State), a < 8 → s.isRunning fAIN = true → s.bt (R.ACU_CFG a) 0 = true →
    ∃ t, exec (.acuImpact a [x]) s = .next t ∧ t.inp.acu = updAt s.inp.acu a (fun _ =>
      (acuSample (s.rd (R.ACU_CFG a)) (s.rd (R.ACU_THR a)) (s.inp.acu.getD a {}) x).1)) ∧
  (∀ (s : State), s.isRunning fAIN = true → s.clk.tickCount % 200 = 0 → s.inp.acuTick ≠ some s.clk.tickCount →
    exec .acuWindowEnd s = .next (Foot.inputs.finish s ((List.range 8).foldl (fun (s : State) a => s.acuWindow a)
      (s.begun.setIn (fun i => { i with acuTick := some s.clk.tickCount })))))

/-- Chapter 05: the sensor supplies trip, try again and forget their trips; a restart command acts on the supplies it names. -/
def Obligations.SensorSupplyEventsComplete : Prop :=
  (∀ (i t0 : Nat) (s : State), i < 3 → (s.inp.sup.getD i {}).limitAt = some t0 → s.supOn i = true → s.tbPast t0 (tbMs 20) = true →
    ∃ t, exec (.supplyTrip i) s = .next t ∧
      t.inp.sup = updAt s.inp.sup i (fun _ => { off := some s.clk.tb, lastAt := s.clk.tb, limitAt := none }) ∧
      t.rd R.AIN_SUP_TRIPS = s.rd R.AIN_SUP_TRIPS + 1#32) ∧
  (∀ (i t0 : Nat) (s : State), i < 3 → (s.inp.sup.getD i {}).off = some t0 → s.bt R.AIN_SUP_STATUS (8 * i + 2) = false →
    s.tbPast t0 (tbMs 1000) = true →
    exec (.supplyRetry i) s = .next (Foot.inputs.finish s
      ((s.begun.setSup i (fun x => { x with off := none })).supUpdate i))) ∧
  (∀ (i : Nat) (s : State), i < 3 → s.tbPast (s.inp.sup.getD i {}).lastAt (tbMs 60000) = true →
    ∃ t, exec (.supplyTripCountReset i) s = .next t ∧ t.fd R.AIN_SUP_STATUS (8 * i + 4) (8 * i + 3) = 0) ∧
  (∀ (ini : Initiator) (v : Word) (s : State), s.domainUp .ctl = true → (ini = .host → s.expert fAIN = true) →
    exec (.ainSupRestartWrite ini v) s = .next (Foot.inputs.finish s
      (((s.begun.reached ini Win.ain.1).supRestart (fld v 2 0)).busDone ini)))

/-- Chapter 05: the SENT commands complete with their own effect. -/
def Obligations.SentEventsComplete : Prop :=
  (∀ (ch : Nat) (f : SentRx) (s : State), ch < 16 → s.isRunning fSNT = true → s.bt (R.SNT_CFG ch) 0 = true →
    sentCheck (s.rd (R.SNT_CFG ch)) (s.inp.sent.getD ch {}).prev f = 0 →
    ∃ t, exec (.sentFrame ch f) s = .next t ∧ t.bt (R.SNT_STAT ch) 0 = false ∧
      t.rd (R.SNT_FRAMES ch) = s.rd (R.SNT_FRAMES ch) + 1#32) ∧
  (∀ (ch : Nat) (s : State), ch < 16 → s.isRunning fSNT = true → s.bt (R.SNT_CFG ch) 0 = true →
    s.tbPast (s.inp.sent.getD ch {}).since (sentPeriod (s.rd (R.SNT_CFG ch))) = true →
    exec (.sentTimeout ch) s = .next (Foot.inputs.finish s ((s.begun.setSnt ch (fun c =>
      { c with since := c.since + sentPeriod (s.rd (R.SNT_CFG ch)) })).sntReject ch 4 R.SNT_TIMEOUTS))) ∧
  (∀ (ch id data : Nat) (s : State), ch < 16 → s.isRunning fSNT = true → s.bt (R.SNT_CFG ch) 0 = true →
    s.fd (R.SNT_CFG ch) 18 17 = 1 →
    ∃ t, exec (.sentSlowMessage ch id 0 data (slowCrc (s.bt (R.SNT_CFG ch) 15) 0 id data)) s = .next t ∧
      t.rd (R.SNT_SLOW ch) = word (id % 256 + 256 * (data % 65536) + 2 ^ 31) ∧ t.rd (R.SNT_SLOW_TB ch) = word s.clk.tb) ∧
  (∀ (ch id ty data : Nat) (s : State), ch < 16 → s.isRunning fSNT = true → s.bt (R.SNT_CFG ch) 0 = true → 1 ≤ ty → ty ≤ 2 →
    s.fd (R.SNT_CFG ch) 18 17 = 2 →
    ∃ t, exec (.sentSlowMessage ch id ty data (slowCrc (s.bt (R.SNT_CFG ch) 15) ty id data)) s = .next t ∧
      t.rd (R.SNT_SLOW ch) = word (id % 256 + 256 * (data % 65536) + 2 ^ 24 * ty + 2 ^ 31))

/-- Chapter 05: the input functions' mailbox commands, accepted and with a payload the spec allows, answer OK with their own
effect. -/
def Obligations.InputCommandsComplete : Prop :=
  (∀ (c : Cmd) (k : Nat) (s : State), Accepted fDIN 0x10 0 c k s → c.payload.length = 2 → 1 ≤ u16 c.payload 0 →
    u16 c.payload 0 ≤ 500 →
    AnswersOK .inputs 0x0510 k c s (exec (.dinReadEdges c) s) (fun u p =>
      u.inp.buffer = s.inp.buffer.drop (u16 c.payload 0) ∧ u.inp.lostRead = 0 ∧
      p = leBytes 2 (s.inp.buffer.take (u16 c.payload 0)).length ++ leBytes 2 0 ++ leBytes 4 s.inp.lostRead ++
        (s.inp.buffer.take (u16 c.payload 0)).flatMap (leBytes 8))) ∧
  (∀ (c : Cmd) (k : Nat) (s : State), Accepted fAIN 0x11 1 c k s → c.payload.length = 1 → u8 c.payload 0 < 8 →
    AnswersOK .inputs 0x0611 k c s (exec (.ainSupRestart c) s) (fun u p =>
      u = (s.entered fAIN 0x11 k c).supRestart (u8 c.payload 0) ∧ p = [])) ∧
  (∀ (c : Cmd) (k : Nat) (s : State), Accepted fAIN 0x10 1 c k s → c.payload.length = 4 → u8 c.payload 0 < 4 →
    16 ≤ u16 c.payload 2 → u16 c.payload 2 ≤ 4 * brgRate (s.rd (R.AIN_BRG_CFG (u8 c.payload 0))) → s.isRunning fAIN = true →
    s.bt (R.AIN_BRG_CFG (u8 c.payload 0)) 15 = true →
    RunsOn .inputs fAIN 0x0610 k c s (exec (.ainBridgeTare c) s) (fun u p =>
      u.inp.tare = some { bridge := u8 c.payload 0, want := u16 c.payload 2, got := 0, sum := 0 } ∧ p = [])) ∧
  (∀ (c : Cmd) (k : Nat) (s : State), Accepted fSNT 0x10 0 c k s → c.payload.length = 1 → u8 c.payload 0 < 16 →
    AnswersOK .inputs 0x0710 k c s (exec (.sntSlowTable c) s) (fun u p =>
      u = s.entered fSNT 0x10 k c ∧
      p = leBytes 2 (s.inp.sent.getD (u8 c.payload 0) {}).slow.length ++ leBytes 2 0 ++
        (s.inp.sent.getD (u8 c.payload 0) {}).slow.flatMap (fun e =>
          [byte e.1, byte e.2.1] ++ leBytes 2 e.2.2.1 ++ leBytes 4 e.2.2.2)))

/-- Chapter 06: Coelostat's events complete with their own effect: a sample, the ends of HOLD and of a block, the lineage of fuel
per tonne, a write of the overrides. -/
def Obligations.CoelostatEventsComplete : Prop :=
  (∀ s : State, s.isRunning fCST = true → s.pairHeld = false → s.clk.tickCount % s.cstTicks = 0 →
    s.cst.lastTick ≠ some s.clk.tickCount →
    ∃ t, exec .cstSample s = .next t ∧ t.cst.lastTick = some s.clk.tickCount ∧ t.cst.k = s.cst.k + 1) ∧
  (∀ s : State, s.isRunning fCST = true → s.cstPhase = phHOLD → s.cst.hold ≤ s.cst.pos →
    exec .cstHoldEnd s = .next ((Foot.cst.and [.pos] []).finish s s.begun.cstBlockStart)) ∧
  (∀ s : State, s.isRunning fCST = true →
    exec .cstBlockEnd s = .next ((Foot.cst.and [.pos] []).finish s s.begun.cstBlockEnd)) ∧
  (∀ s : State, s.isRunning fCST = true → s.clk.tickCount % 2000 = 0 → s.cst.lptTick ≠ some s.clk.tickCount →
    ∃ t, exec .cstLptSample s = .next t ∧ t.cst.lptTick = some s.clk.tickCount ∧ t.cst.lpt =
      ((s.sigI (fld (s.cstW R.CST_LPT_CFG) 8 0), s.sigI (fld (s.cstW R.CST_LPT_CFG) 24 16),
        s.sigOk (fld (s.cstW R.CST_LPT_CFG) 8 0) && s.sigOk (fld (s.cstW R.CST_LPT_CFG) 24 16)) :: s.cst.lpt).take 100) ∧
  (∀ (ini : Initiator) (v : Word) (s : State), s.domainUp .fab = true → (ini = .host → s.expert fCST = true) →
    exec (.cstOvrWrite ini v) s = .next ((Foot.cst.and [.pos] []).finish s
      (((s.begun.reached ini Win.cst.1).cstSetOvr v).busDone ini)))

/-- Chapter 06: Coelostat's mailbox commands, accepted and with a payload the spec allows, answer OK with their own effect. -/
def Obligations.CoelostatCommandsComplete : Prop :=
  (∀ (c : Cmd) (k : Nat) (s : State), Accepted fCST 0x10 0 c k s → c.payload.length = 1 → u8 c.payload 0 ≤ 2 →
    AnswersOK .cst 0x0810 k c s (exec (.cstSetMode c) s) (fun u p =>
      u = (s.entered fCST 0x10 k c).wf_ R.CST_CTRL 1 0 (u8 c.payload 0) ∧ p = [])) ∧
  (∀ (c : Cmd) (k : Nat) (s : State), Accepted fCST 0x11 0 c k s → c.payload.length = 8 → u8 c.payload 0 < 32 →
    s.cstUsed (u8 c.payload 0) = true → u8 c.payload 1 ≤ 1 →
    AnswersOK (Foot.cst.and [.pos] []) 0x0811 k c s (exec (.cstOverride c) s) (fun u p => p = [] ∧
      u = if u8 c.payload 1 = 1 then
          ((s.entered fCST 0x11 k c).wr (R.CST_MF_OVV (u8 c.payload 0)) (w32 c.payload 4)).cstSetOvr
            (setBit (((s.entered fCST 0x11 k c).wr (R.CST_MF_OVV (u8 c.payload 0)) (w32 c.payload 4)).rd R.CST_OVR)
              (u8 c.payload 0) true)
        else (s.entered fCST 0x11 k c).cstSetOvr (setBit (s.rd R.CST_OVR) (u8 c.payload 0) false))) ∧
  (∀ (c : Cmd) (k : Nat) (s : State), Accepted fCST 0x12 0 c k s → c.payload.length = 8 → u8 c.payload 0 < 32 →
    s.cst.advice.getD (u8 c.payload 0) none = some (u32 c.payload 4) →
    AnswersOK (Foot.cst.and [.pos] []) 0x0812 k c s (exec (.cstAccept c) s) (fun u p => p = [] ∧
      ∃ t, t = ((s.entered fCST 0x12 k c).setU (u8 c.payload 0)
          (s.cstClip (u8 c.payload 0) (s.rd (R.CST_MF_SUGG (u8 c.payload 0))).toInt)).setCst
            (fun d => { d with advice := updAt d.advice (u8 c.payload 0) (fun _ => none) }) ∧
        u = if t.isRunning fCST && t.cstPhase != phFROZEN then t.cstHold else t)) ∧
  (∀ (c : Cmd) (k : Nat) (s : State), Accepted fCST 0x13 0 c k s → c.payload.length = 32 →
    AnswersOK (Foot.cst.and [.pos] []) 0x0813 k c s (exec (.cstWeights c) s) (fun u p => p = [] ∧
      ∃ t, t = (List.range 8).foldl (fun (t : State) n => t.wr (R.CST_TERM_W n) (w32 c.payload (4 * n)))
          (s.entered fCST 0x13 k c) ∧
        u = if t.isRunning fCST then (if t.cstTake.cstPhase = phFROZEN then t.cstTake.cstShow phFROZEN else t.cstTake.cstHold)
          else t)) ∧
  (∀ (c : Cmd) (k : Nat) (s : State), Accepted fCST 0x14 0 c k s → c.payload.length = 1 → u8 c.payload 0 < 32 →
    AnswersOK .cst 0x0814 k c s (exec (.cstReadMf c) s) (fun u p => u = s.entered fCST 0x14 k c ∧
      p = wBytes (s.rd (R.CST_MF_U (u8 c.payload 0))) ++ wBytes (s.rd (R.CST_MF_G (u8 c.payload 0))) ++
        wBytes (s.rd (R.CST_MF_R (u8 c.payload 0))) ++ wBytes (s.rd (R.CST_MF_DERR (u8 c.payload 0))) ++
        wBytes (s.rd (R.CST_MF_SUGG (u8 c.payload 0))) ++ wBytes (s.rd R.CST_BLOCKS)))

/-- Chapter 07: YieldPlate's events complete with their own effect: a sample, the inverse kernel, the end or the time limit of a
calibration, a tile back from storage, a checkpoint, the end of closing. -/
def Obligations.YieldPlateEventsComplete : Prop :=
  (∀ s : State, s.isRunning fYPL = true → s.pairHeld = false → s.clk.tickCount % 2000 = 0 → s.ypl.lastTick = none →
    exec .yplSample s = .next (Foot.ypl.finish s
      (s.begun.setYpl (fun y => { y with lastTick := some s.clk.tickCount })).yplOpenNow)) ∧
  (∀ (n : Nat) (s : State), s.isRunning fYPL = true → s.pairHeld = false → s.clk.tickCount % 2000 = 0 →
    s.ypl.lastTick = some n → n ≠ s.clk.tickCount →
    ∃ t, exec .yplSample s = .next t ∧ t.ypl.lastTick = some s.clk.tickCount) ∧
  (∀ (a : Nat) (s : State), s.ypl.invSince = some a →
    ∃ t, exec .yplInverseReady s = .next t ∧ t.ypl.invSince = none ∧
      t.ypl.invNext = some (scale16 (yplInverse s.ypl.kernel s.ypl.lambda).1 (yplN0 (yplInverse s.ypl.kernel s.ypl.lambda).1)) ∧
      t.bt R.YPL_STATUS 4 = true) ∧
  (∀ s : State, s.fd R.YPL_STATUS 3 2 = 2 → ∃ t, exec .yplCalComputeDone s = .next t ∧ t.fd R.YPL_STATUS 3 2 = 0) ∧
  (∀ s : State, s.fd R.YPL_STATUS 3 2 = 1 → s.tbPast s.ypl.calAt (tbMs 3600000) = true →
    exec .yplCalTimeout s = .next (Foot.ypl.finish s (s.begun.yplCalEnd 3))) ∧
  (∀ (f g : YplField) (x : Int × Int) (s : State), s.ypl.field = some f →
    s.ypl.fps.findSome? (fun p => p.waits.head?) = some x → f.room s.ypl.fps [x] = .ok g →
    exec .yplTileLoaded s = .next (Foot.ypl.finish s
      ((List.range 256).foldl (fun (s : State) n => s.yplAllocate n)
        ((s.ypl.fps.filter (fun p => p.waits == [x])).reverse.foldl (fun (s : State) p => s.yplCover p)
          (s.begun.setYpl (fun y => { y with
            field := some { g with resident := x :: g.resident, spilled := g.spilled.filter (fun z => z != x) },
            fps := y.fps.map (fun p => { p with waits := p.waits.filter (fun z => z != x) }) })))).yplShowTiles)) ∧
  (∀ (f : YplField) (s : State), s.isRunning fYPL = true → s.ypl.field = some f →
    s.tbPast s.ypl.ckptAt (tbMs (1000 * clampN 10 600 (s.fd R.YPL_CKPT 9 0))) = true →
    exec .yplCheckpoint s = .next (Foot.ypl.finish s (if Config.yplCkptFails s.ypl.ckpts then
      (s.begun.setYpl (fun y => { y with ckpts := y.ckpts + 1, ckptAt := s.clk.tb })).notify fYPL 0x83 [byte 2, 0#8, 0#8, 0#8]
      else (s.begun.setYpl (fun y => { y with ckpts := y.ckpts + 1 })).yplCheckpoint))) ∧
  (∀ (f : YplField) (s : State), s.ypl.field = some f → s.yplField = 2 → 255 ≤ s.ypl.closeCnt →
    exec .yplClosingEnd s = .next (Foot.ypl.finish s (s.begun.yplCheckpoint.yplDropField.notify fYPL 0x81
      (leBytes 4 f.id ++ wBytes (iword (f.tiles / 1000)) ++ leBytes 4 (f.area / 10000) ++
        wBytes (s.rd R.YPL_MB_RESID))))) ∧
  (∀ (ini : Initiator) (s : State), s.domainUp .fab = true → s.expert fYPL = true → s.yplMayOpen = true →
    (∀ f ∈ s.ypl.stored, f.id ≠ (s.rd R.YPL_FIELD_ID).toNat) →
    ∃ t, exec (.yplFieldCtrlOpen ini) s = .next t ∧ t.ypl.openReq = some (.fresh (s.rd R.YPL_FIELD_ID).toNat
      (s.rd R.YPL_ORIGIN_LAT).toInt (s.rd R.YPL_ORIGIN_LON).toInt (s.fd R.YPL_CROP_SEL 2 0))) ∧
  (∀ (ini : Initiator) (f : YplField) (s : State), s.domainUp .fab = true → s.expert fYPL = true → s.yplMayOpen = true →
    f ∈ s.ypl.stored → f.id = (s.rd R.YPL_FIELD_ID).toNat →
    ∃ t, exec (.yplFieldCtrlResume ini) s = .next t ∧ t.ypl.openReq = some (.resume (s.rd R.YPL_FIELD_ID).toNat)) ∧
  (∀ (ini : Initiator) (s : State), s.domainUp .fab = true → s.expert fYPL = true → s.yplField = 1 →
    exec (.yplFieldCtrlClose ini) s = .next (Foot.ypl.finish s ((s.begun.reached ini Win.ypl.1).yplClose.busDone ini)))

/-- Chapter 07: YieldPlate's mailbox commands, accepted and with a payload the spec allows, answer OK or run on with their own
effect. -/
def Obligations.YieldPlateCommandsComplete : Prop :=
  (∀ (c : Cmd) (k : Nat) (s : State), Accepted fYPL 0x10 0 c k s → c.payload.length = 16 → s.yplMayOpen = true →
    (u8 c.payload 13 = 0 ∧ (∀ f ∈ s.ypl.stored, f.id ≠ u32 c.payload 0) ∨ u8 c.payload 13 = 2) → u8 c.payload 12 ≤ 7 →
    AnswersOK .ypl 0x0910 k c s (exec (.yplFieldOpen c) s) (fun u p => p = [] ∧
      u.ypl.openReq = some (.fresh (u32 c.payload 0) (i32 c.payload 4) (i32 c.payload 8) (u8 c.payload 12)) ∧
      u.rd R.YPL_FIELD_ID = w32 c.payload 0)) ∧
  (∀ (c : Cmd) (k : Nat) (f : YplField) (s : State), Accepted fYPL 0x10 0 c k s → c.payload.length = 16 → s.yplMayOpen = true →
    u8 c.payload 13 = 1 → s.ypl.stored.find? (fun f => f.id == u32 c.payload 0) = some f →
    AnswersOK .ypl 0x0910 k c s (exec (.yplFieldOpen c) s) (fun u p => p = [] ∧
      u.ypl.openReq = some (.resume (u32 c.payload 0)) ∧ u.rd R.YPL_ORIGIN_LAT = iword f.lat ∧
      u.rd R.YPL_ORIGIN_LON = iword f.lon ∧ u.rd R.YPL_FIELD_ID = w32 c.payload 0)) ∧
  (∀ (c : Cmd) (k : Nat) (s : State), Accepted fYPL 0x11 0 c k s → c.payload = [] → s.yplField = 1 →
    AnswersOK .ypl 0x0911 k c s (exec (.yplFieldClose c) s) (fun u p => u = (s.entered fYPL 0x11 k c).yplClose ∧ p = [])) ∧
  (∀ (c : Cmd) (k : Nat) (s : State), Accepted fYPL 0x12 1 c k s → c.payload.length = 4 → u8 c.payload 1 = 0 →
    2 ≤ u8 c.payload 0 → u8 c.payload 0 ≤ 16 → s.fd R.YPL_STATUS 3 2 = 0 →
    AnswersOK .ypl 0x0912 k c s (exec (.yplCalKernel c) s) (fun u p => p = [] ∧ u.ypl.calWant = u8 c.payload 0 ∧
      u.ypl.calAt = s.clk.tb ∧ u.ypl.windows = [] ∧ u.fd R.YPL_STATUS 3 2 = 1)) ∧
  (∀ (c : Cmd) (k : Nat) (s : State), Accepted fYPL 0x12 1 c k s → c.payload.length = 4 → u8 c.payload 1 = 1 →
    s.fd R.YPL_STATUS 3 2 ≠ 0 →
    AnswersOK .ypl 0x0912 k c s (exec (.yplCalKernel c) s) (fun u p => p = [] ∧ u = (s.entered fYPL 0x12 k c).yplCalEnd 4)) ∧
  (∀ (c : Cmd) (k : Nat) (s : State), Accepted fYPL 0x13 1 c k s → c.payload.length = 1028 → u32 c.payload 1024 ≤ 65535 →
    0 < isum ((List.range 256).map (fun n => i32 c.payload (4 * n))) →
    AnswersOK (Foot.ypl.and [.prm, .shadow] [.prm]) 0x0913 k c s (exec (.yplKernelSet c) s) (fun u p => p = [] ∧
      u = (((((((List.range 256).foldl (fun (t : State) n => t.shadowWr (R.YPL_KERNEL n) 10 (w32 c.payload (4 * n)))
          (s.entered fYPL 0x13 k c)).shadowWr R.YPL_LAMBDA 10 (w32 c.payload 1024)).applyShadow 10).yplAfterUg10).setYpl
        (fun y => { y with cfgKernel := some (y.kernel, y.lambda) })).prmItem (256 * fYPL) c.payload))) ∧
  (∀ (c : Cmd) (k : Nat) (s : State), Accepted fYPL 0x14 0 c k s → c.payload = [] →
    AnswersOK .ypl 0x0914 k c s (exec (.yplKernelGet c) s) (fun u p => u = s.entered fYPL 0x14 k c ∧
      p = (List.range 256).flatMap (fun n => wBytes (s.rd (R.YPL_KERNEL n))) ++
        (List.range 256).flatMap (fun n => wBytes (s.rd (R.YPL_INV n))) ++ wBytes (s.rd R.YPL_LAMBDA) ++
        wBytes (s.rd R.YPL_INV_TRUNC))) ∧
  (∀ (c : Cmd) (k n : Nat) (f : YplField) (s : State), Accepted fYPL 0x15 0 c k s → c.payload.length = 9 →
    s.yplFind (u32 c.payload 4) = some f → (∃ e ∈ f.cells, yplTile (e.i, e.j) = (i16 c.payload 0, i16 c.payload 2)) →
    4 ≤ u8 c.payload 8 → u8 c.payload 8 ≤ 10 → s.freeRing = some n → s.sramFits [u8 c.payload 8] = true →
    AnswersOK .ypl 0x0915 k c s (exec (.yplTileRead c) s) (fun _ p => p = [byte n])) ∧
  (∀ (c : Cmd) (k : Nat) (f : YplField) (s : State), Accepted fYPL 0x16 0 c k s → c.payload.length = 5 →
    s.yplFind (u32 c.payload 0) = some f → s.ypl.field.map (fun g => g.id) ≠ some f.id →
    RunsOn .ypl fYPL 0x0916 k c s (exec (.yplExport c) s) (fun u p =>
      u.ypl.files = [yplTaskData f (u8 c.payload 4), yplGridFile f (fld (s.yplW (R.YPL_CROP f.crop)) 15 0)
        (u8 c.payload 4 % 2 = 1) (u8 c.payload 4 / 2 % 2 = 1)] ∧
      p = leBytes 2 2 ++ leBytes 2 0 ++ leBytes 4 ((yplTaskData f (u8 c.payload 4)).length +
        (yplGridFile f (fld (s.yplW (R.YPL_CROP f.crop)) 15 0) (u8 c.payload 4 % 2 = 1) (u8 c.payload 4 / 2 % 2 = 1)).length))) ∧
  (∀ (c : Cmd) (k n : Nat) (s : State), Accepted fYPL 0x17 0 c k s → c.payload.length = 1 → 4 ≤ u8 c.payload 0 →
    u8 c.payload 0 ≤ 10 → s.freeRing = some n → s.sramFits [u8 c.payload 0] = true →
    AnswersOK .ypl 0x0917 k c s (exec (.yplExportRead c) s) (fun u p => p = [byte n] ∧
      (s.entered fYPL 0x17 k c).openRing k fYPL 1 0 (u8 c.payload 0) true (exportSlots s.ypl.files) = .ok (n, u))) ∧
  (∀ (c : Cmd) (k : Nat) (s : State), Accepted fYPL 0x18 1 c k s → c.payload.length = 8 → u8 c.payload 0 = 0 →
    AnswersOK .ypl 0x0918 k c s (exec (.yplWeigh c) s) (fun u p =>
      u = (s.entered fYPL 0x18 k c).setYpl (fun y => { y with weigh := some 0 }) ∧ p = wBytes (s.rd R.YPL_FLOW_GAIN))) ∧
  (∀ (c : Cmd) (k : Nat) (m : Int) (s : State), Accepted fYPL 0x18 1 c k s → c.payload.length = 8 → u8 c.payload 0 = 1 →
    s.ypl.weigh = some m → 0 < m → 80 * m ≤ 100 * ((u32 c.payload 4 * 1000 : Nat) : Int) →
    100 * ((u32 c.payload 4 * 1000 : Nat) : Int) ≤ 125 * m →
    AnswersOK .ypl 0x0918 k c s (exec (.yplWeigh c) s) (fun u p => p = wBytes (u.rd R.YPL_FLOW_GAIN) ∧
      u = (s.entered fYPL 0x18 k c).wr R.YPL_FLOW_GAIN
        (iword (divFree ((s.rd R.YPL_FLOW_GAIN).toNat * ((u32 c.payload 4 * 1000 : Nat) : Int)) m))))

/-- Chapters 09 and 10: the events of ActuatorDrive complete with their own effect: a regulation decision, the start of an event,
and the phases of a channel. -/
def Obligations.ActuatorEventsComplete : Prop :=
  (∀ (n x : Nat) (s : State), n < 48 → n < s.adr.chs.length → s.adr.run = true → x < 3520 →
    (s.bankSampler (n / 4) = none ∨ s.bankSampler (n / 4) = some (n % 4)) → s.clk.tb - s.clk.tickStamp < 2490 →
    (s.ch n).closing = false →
    ∃ t, exec (.adrRegulationDecision n x) s = .next t ∧ (t.ch n).cur = x ∧ (t.ch n).sum = (s.ch n).sum + x ∧
      (t.ch n).cnt = (s.ch n).cnt + 1) ∧
  (∀ (ini : Initiator) (n : Nat) (v : Word) (s : State), n < 48 → s.domainUp .ctl = true → (ini = .host → s.expert fADR = true) →
    exec (.adrEvtDurWrite ini n v) s = .next ((Foot.adr.and [.shadow] []).finish s
      ((((s.begun.reached ini Win.adr.1).shadowWr (R.ADR_EVT_DUR n) 3 (v &&& 0xFFFFFF#32)).setCh n
        (fun c => { c with armed := true })).busDone ini))) ∧
  (∀ (n : Nat) (e : AdrEv) (q : List AdrEv) (s : State), n < 48 → n < s.adr.chs.length → (s.ch n).queue = e :: q →
    e.start ≤ s.clk.tb → s.pwr.shed = false → s.pwr.overShed = false → (s.bank (n / 4)).back = false →
    (s.bank (n / 4)).on = true → (s.ch n).wait = none →
    exec (.adrEventStart n) s = .next (Foot.adr.finish s
      (((s.begun.setCh n (fun c => { c with queue := q })).adrStart n e true).adrShow n))) ∧
  (∀ (n : Nat) (s : State), n < 48 → (s.ch n).ph = .boost → (s.ch n).run.phAt + 200 ≤ s.tb2 →
    exec (.adrBoostEnd n) s = .next (Foot.adr.finish s (((s.begun.setCh n (fun c => { c with
      cur := max c.cur (4 * min 20000 (fld (s.ch n).run.wI 15 0) / 25),
      run := { (s.ch n).run with tBst := min 0xFFFE (s.tb2 - (s.ch n).run.phAt), reached := true } })).adrToPeak n).adrShow n))) ∧
  (∀ (n : Nat) (s : State), n < 48 → (s.ch n).ph = .boost → (s.ch n).run.phAt + max 100 (fld (s.ch n).run.wT 15 0) ≤ s.tb2 →
    exec (.adrBoostTimeout n) s = .next (Foot.adr.finish s ((s.begun.adrBstTmo n).adrShow n))) ∧
  (∀ (k i : Nat) (s : State), (s.bank k).owner = some i → (s.ch (4 * k + i)).ph = .boost →
    exec (.adrBankIlim k) s = .next (Foot.adr.finish s
      (((s.begun.inc R.ADR_BANK_ILIM).adrBstTmo (4 * k + i)).adrShow (4 * k + i)))) ∧
  (∀ (n : Nat) (s : State), n < 48 → (s.ch n).ph = .peak → (s.ch n).run.phAt + fld (s.ch n).run.wT 31 16 ≤ s.tb2 →
    exec (.adrPeakEnd n) s = .next (Foot.adr.finish s ((s.begun.adrToTrans n).adrShow n))) ∧
  (∀ (n : Nat) (s : State), n < 48 → n < s.adr.chs.length → (s.ch n).ph = .trans →
    ∃ t, exec (.adrHoldReached n) s = .next t ∧ (t.ch n).ph = .hold ∧ (t.ch n).run.phAt = s.tb2) ∧
  (∀ (n : Nat) (s : State), n < 48 → (s.ch n).ph ≠ .idle → (s.ch n).ph ≠ .decay → (s.ch n).run.timed = true →
    (s.ch n).run.act + (s.ch n).run.eff ≤ s.tb2 →
    exec (.adrEventEnd n) s = .next (Foot.adr.finish s ((s.begun.adrToDecay n 0 false).adrShow n))) ∧
  (∀ (n : Nat) (s : State), n < 48 → (s.ch n).ph = .decay →
    exec (.adrDecayEnd n) s = .next (Foot.adr.finish s
      ((((s.begun.adrClose n).bankWake (n / 4)).adrPropSync n).adrShow n))) ∧
  (∀ (n : Nat) (s : State), n < 48 → (s.ch n).ph = .decay → (s.ch n).run.phAt + 2 * tbMs 5 ≤ s.tb2 → (s.ch n).run.decTmo = false →
    exec (.adrDecayTimeout n) s = .next (Foot.adr.finish s
      ((((s.begun.adrCloseWindow n).adrToDecay n 0 true).setRun n (fun r => { r with decTmo := true })).adrShow n)))

/-- Chapters 09 and 10: the faults, windows, periods and registers of ActuatorDrive complete with their own effect. -/
def Obligations.ActuatorGuardsComplete : Prop :=
  (∀ (n : Nat) (s : State), n < 48 → (s.ch n).run.endAt + 1000 * max 1 (fld (s.adrMot n) 27 20) ≤ s.tb2 →
    exec (.adrCloseWindowEnd n) s = .next (Foot.adr.finish s ((s.begun.adrCloseWindow n).adrShow n))) ∧
  (∀ (n : Nat) (w : AdrEv × Bool) (s : State), n < 48 → (s.ch n).wait = some w → 2 * w.1.start + s.deferMax (n / 4) ≤ s.tb2 →
    exec (.adrDeferTimeout n) s = .next (Foot.adr.finish s ((s.begun.adrUnwait n 3).adrShow n))) ∧
  (∀ (n : Nat) (s : State), n < 48 → s.adrShorted n = true →
    exec (.adrShort n) s = .next (Foot.adr.finish s ((s.begun.adrShort n).adrShow n))) ∧
  (∀ (n t0 : Nat) (s : State), n < 48 → n < s.adr.chs.length → (s.ch n).resumeAt = some t0 → t0 ≤ s.clk.tb →
    s.bt (R.ADR_CH_CMD n) 16 = false →
    ∃ t, exec (.adrShortRetry n) s = .next t ∧ (t.ch n).resumeAt = none ∧ (t.ch n).okSince = s.clk.tb) ∧
  (∀ (n : Nat) (s : State), n < 48 → s.adrMode n ≠ 0 → (s.ch n).isOpen = false → 2 * tbMs 10 ≤ (s.ch n).below →
    exec (.adrOpen n true) s = .next (Foot.adr.finish s
      (((s.begun.adrSetOpen n true).setCh n (fun c => { c with below := 0 })).adrShow n))) ∧
  (∀ (n : Nat) (s : State), n < 48 → s.adrMode n ≠ 0 → (s.ch n).isOpen = true → 2 * tbMs 10 ≤ (s.ch n).above →
    exec (.adrOpen n false) s = .next (Foot.adr.finish s
      (((s.begun.adrSetOpen n false).setCh n (fun c => { c with above := 0 })).adrShow n))) ∧
  (∀ (n : Nat) (s : State), n < 48 → (s.ch n).dithAt.isSome = true → s.dithDue n = true →
    exec (.adrDitherPeriod n) s = .next (Foot.adr.finish s ((s.begun.adrPeriod n).adrShow n))) ∧
  (∀ (n : Nat) (s : State), n < 48 → (s.ch n).est.isSome = true → s.tbPast (s.ch n).estAt (tbMs 60000) = true →
    exec (.adrTempEstimateExpiry n) s = .next (Foot.adr.finish s
      (((s.begun.setCh n (fun c => { c with est := none, estNew := true })).adrBand n s.tb2).adrShow n))) ∧
  (∀ (ini : Initiator) (n : Nat) (v : Word) (s : State), n < 48 → s.domainUp .ctl = true → (ini = .host → s.expert fADR = true) →
    exec (.adrChCmdWrite ini n v) s = .next (Foot.adr.finish s (((s.begun.reached ini Win.adr.1).adrCommand n v).busDone ini))) ∧
  (∀ (ini : Initiator) (w : Nat) (v : Word) (s : State), s.domainUp .ctl = true → (ini = .host → s.expert fADR = true) →
    exec (.adrFaultWrite ini w v) s = .next (Foot.adr.finish s
      (((s.begun.reached ini Win.adr.1).adrFaultClear w v).busDone ini))) ∧
  (∀ (mv : Nat) (s : State), s.bstSpillAt < mv → s.adr.spilling = false →
    ∃ t, exec (.adrBoostSpill mv) s = .next t ∧ t.adr.vbst = mv ∧ t.adr.spilling = true ∧
      t = Foot.adr.finish s (s.begun.setAdr (fun a => { a with vbst := mv })).bstSync) ∧
  (∀ (mv mj : Nat) (s : State),
    exec (.boostConverterSwitch mv mj) s = .next (Foot.adr.finish s
      ((s.begun.setAdr (fun a => { a with vbst := mv })).addCnt R.ADR_BST_E_OUT mj).bstSync))

/-- Chapters 09 and 10: ActuatorDrive's mailbox commands, accepted and with a payload the spec allows, answer OK with their own
effect. -/
def Obligations.ActuatorCommandsComplete : Prop :=
  (∀ (c : Cmd) (k : Nat) (es : List (Nat × Nat × Nat)) (s : State), Accepted fADR 0x10 0 c k s → 1 ≤ u8 c.payload 0 →
    u8 c.payload 0 ≤ 3 → c.payload.length = 4 + 16 * u8 c.payload 0 →
    es = (List.range (u8 c.payload 0)).map (fun i => (u8 c.payload (4 + 16 * i), u64 c.payload (8 + 16 * i),
      u32 c.payload (16 + 16 * i))) →
    (∀ e ∈ es, e.1 < 48 ∧ s.adrMode e.1 = 0 ∧ 0 < e.2.2 ∧ e.2.2 ≤ 0xFFFFFF ∧ s.line (e.1 / 4) = true) →
    AnswersOK (Foot.adr.and [.shadow] []) 0x0310 k c s (exec (.adrEvent c) s) (fun u p => p = [] ∧
      u = if s.tickEarly then es.foldl (fun (t : State) e => (((t.shadowWr (R.ADR_EVT_START_LO e.1) 3 (word e.2.1)).shadowWr
          (R.ADR_EVT_START_HI e.1) 3 (word (e.2.1 / 4294967296))).shadowWr (R.ADR_EVT_DUR e.1) 3 (word e.2.2)).setCh e.1
            (fun c => { c with armed := true })) (s.entered fADR 0x10 k c)
        else (s.entered fADR 0x10 k c).setAdr (fun a => { a with late := a.late ++ es }))) ∧
  (∀ (c : Cmd) (k : Nat) (s : State), Accepted fADR 0x11 0 c k s → c.payload.length = 8 → u8 c.payload 0 < 48 →
    u32 c.payload 4 ≤ 3000 → s.adrDriven (u8 c.payload 0) 0 = false →
    (u32 c.payload 4 ≠ 0 → s.line (u8 c.payload 0 / 4) = true) →
    AnswersOK .adr 0x0311 k c s (exec (.adrSetCurrent c) s) (fun u p => p = [] ∧
      u = (s.entered fADR 0x11 k c).adrCommand (u8 c.payload 0)
        (setFld (s.rd (R.ADR_CH_CMD (u8 c.payload 0))) 15 0 (u32 c.payload 4)))) ∧
  (∀ (c : Cmd) (k : Nat) (s : State), Accepted fADR 0x12 0 c k s → c.payload.length = 2 → u8 c.payload 0 < 48 →
    u8 c.payload 1 ≤ 1 → (u8 c.payload 1 = 1 → s.line (u8 c.payload 0 / 4) = true) →
    AnswersOK .adr 0x0312 k c s (exec (.adrSwitch c) s) (fun u p => p = [] ∧
      u = (s.entered fADR 0x12 k c).adrCommand (u8 c.payload 0)
        (setBit (s.rd (R.ADR_CH_CMD (u8 c.payload 0))) 16 (u8 c.payload 1 = 1)))) ∧
  (∀ (c : Cmd) (k : Nat) (s : State), Accepted fADR 0x13 1 c k s → c.payload.length = 8 → u64 c.payload 0 < 2 ^ 48 →
    AnswersOK .adr 0x0313 k c s (exec (.adrChClear c) s) (fun u p => p = [] ∧
      u = (List.range 48).foldl (fun (t : State) n =>
        if nbit (u64 c.payload 0) n then ((t.adrUnlatch n).setCh n (fun c => { c with sccnt := 0 })).adrShow n else t)
        (s.entered fADR 0x13 k c))) ∧
  (∀ (c : Cmd) (k : Nat) (s : State), Accepted fADR 0x14 0 c k s → c.payload.length = 1 → u8 c.payload 0 < 48 →
    AnswersOK .adr 0x0314 k c s (exec (.adrReadCh c) s) (fun u p => u = s.entered fADR 0x14 k c ∧
      p = wBytes (s.rd (R.ADR_CH_STATUS (u8 c.payload 0))) ++ wBytes (s.rd (R.ADR_CH_RMEAS (u8 c.payload 0))) ++
        wBytes (s.rd (R.ADR_EVT_LAST (u8 c.payload 0))) ++ wBytes (s.rd (R.ADR_EVT_TB (u8 c.payload 0))) ++
        wBytes (s.rd (R.ADR_EVT_EN (u8 c.payload 0))))) ∧
  (∀ (c : Cmd) (k : Nat) (s : State), Accepted fADR 0x15 1 c k s → c.payload.length = 4 → 24000 ≤ u32 c.payload 0 →
    u32 c.payload 0 ≤ 65000 →
    AnswersOK (Foot.adr.and [.prm, .shadow] [.prm]) 0x0315 k c s (exec (.adrBoostSet c) s) (fun u p => p = [] ∧
      u = ((s.entered fADR 0x15 k c).shadowWr R.ADR_BST_TARGET 3 (word (u32 c.payload 0))).patchApplied fADR 8
        (leBytes 4 (u32 c.payload 0)) adrNoConfig)) ∧
  (∀ (c : Cmd) (k : Nat) (s : State), Accepted fADR 0x16 1 c k s → c.payload.length = 4 → u8 c.payload 0 < 12 →
    u8 c.payload 1 ≤ 7 → (u8 c.payload 1 % 2 = 1 → s.line (u8 c.payload 0) = true) →
    AnswersOK (Foot.adr.and [.prm, .shadow] [.prm]) 0x0316 k c s (exec (.adrBankSet c) s) (fun u p => p = [] ∧
      u = (((s.entered fADR 0x16 k c).shadowWr (R.ADR_BANK_CFG (u8 c.payload 0)) 3
          (word (u8 c.payload 1 / 2 % 4 + 256 * u16 c.payload 2))).shadowWr (R.ADR_BANK_EN (u8 c.payload 0)) 3
          (word (u8 c.payload 1 % 2))).patchApplied fADR (adrBankPart ((s.fn fADR).applied.getD []) + 8 * u8 c.payload 0)
        (wBytes (word (u8 c.payload 1 / 2 % 4 + 256 * u16 c.payload 2)) ++ leBytes 4 (u8 c.payload 1 % 2)) adrNoConfig)) ∧
  (∀ (c : Cmd) (k : Nat) (s : State), Accepted fADR 0x17 0 c k s → c.payload.length = 1 → u8 c.payload 0 < 12 →
    AnswersOK .adr 0x0317 k c s (exec (.adrBankRead c) s) (fun u p => u = s.entered fADR 0x17 k c ∧
      p = wBytes (s.rd (R.ADR_BANK_STATUS (u8 c.payload 0))) ++ wBytes (s.rd (R.ADR_BANK_COLLIDE (u8 c.payload 0))) ++
        wBytes (s.rd (R.ADR_BANK_DEFER (u8 c.payload 0))) ++
        (List.range 4).flatMap (fun i => wBytes (s.rd (R.ADR_MOT_Q (4 * u8 c.payload 0 + i)))))) ∧
  (∀ (c : Cmd) (k : Nat) (s : State), Accepted fADR 0x18 0 c k s → c.payload.length = 1 → u8 c.payload 0 < 48 →
    AnswersOK .adr 0x0318 k c s (exec (.adrReadMot c) s) (fun u p => u = s.entered fADR 0x18 k c ∧
      p = wBytes (s.rd (R.ADR_MOT_RES (u8 c.payload 0))) ++ wBytes (s.rd (R.ADR_MOT_Q (u8 c.payload 0))) ++
        wBytes (s.rd (R.ADR_EVT_TB (u8 c.payload 0)))))

/-- Chapter 11: the events of the load switches complete with their own effect. -/
def Obligations.SwitchEventsComplete : Prop :=
  (∀ (n : Nat) (s : State), n < 16 → (s.sw n).on = true → s.pswMode n = 2 → s.bt (R.PSW_CH_CFG n) 4 = false →
    (s.sw n).perAt = none → n % 4 * (50000000 / clampN 100 1000 (s.fd (R.PSW_CH_CFG n) 15 6) / 4) ≤ s.clk.tb →
    (s.sw n).onAt ≤ s.clk.tb - (s.clk.tb - n % 4 * (50000000 / clampN 100 1000 (s.fd (R.PSW_CH_CFG n) 15 6) / 4)) %
      (50000000 / clampN 100 1000 (s.fd (R.PSW_CH_CFG n) 15 6)) →
    ∃ t, exec (.pswPwmPeriod n) s = .next t ∧ t.rd (R.PSW_CH_DUTY_EFF n) = word (min 10000 (s.fd (R.PSW_CH_DUTY n) 13 0))) ∧
  (∀ (ma : Reading) (s : State), ma.n < 16 → (s.sw ma.n).on = true → (s.pswThreshold ma.n).1 < ma.val →
    exec (.pswOcTrip ma) s = .next (Foot.psw.finish s ((s.begun.pswTrip ma.n (s.pswThreshold ma.n).2).pswShow ma.n))) ∧
  (∀ (n : Nat) (s : State), n < 16 → (s.sw n).on = true → (s.sw n).inr = true →
    s.tbPast (s.sw n).inrAt (tbMs (s.pswInrT n)) = true →
    exec (.pswInrushEnd n) s = .next (Foot.psw.finish s
      ((s.begun.setSw n (fun c => { c with inr := false, onSince := s.clk.tb })).pswShow n))) ∧
  (∀ (n t0 : Nat) (s : State), n < 16 → (s.sw n).due = some t0 → t0 ≤ s.clk.tb →
    exec (.pswRetry n) s = .next (Foot.psw.finish s
      (((s.begun.setSw n (fun c => { c with due := none })).pswOn n true).pswShow n))) ∧
  (∀ (n : Nat) (s : State), n < 16 → (s.sw n).on = true → (s.sw n).inr = false → s.tbPast (s.sw n).onSince (tbMs 1000) = true →
    exec (.pswRcntReset n) s = .next (Foot.psw.finish s ((s.begun.setSw n (fun c => { c with rcnt := 0 })).pswShow n))) ∧
  (∀ (n : Nat) (tj : Int) (s : State), n < 16 → n < s.psw.chs.length → 17500 ≤ tj → (s.sw n).th = false →
    ∃ t, exec (.pswThermalTrip n tj) s = .next t ∧ (t.sw n).th = true ∧ (t.sw n).on = false ∧
      t.fd (R.PSW_CH_TRIP n) 2 0 = 4) ∧
  (∀ (g mv : Nat) (s : State), g < 4 → mv < clampN 8000 18000 (s.fd (R.PSW_GRP_UV g) 15 0) →
    exec (.pswUndervoltage g mv) s = .next (Foot.psw.finish s (s.begun.grpUvOn g).pswShowAll)) ∧
  (∀ (g : Nat) (mv : Sample) (s : State), g < 4 → (s.grp g).uv = true → s.grpUvOnMv g ≤ mv.val → s.tbPast mv.tb (tbMs 10) = true → s.pwr.shed = false →
    s.pwr.overShed = false →
    exec (.pswUvRestart g mv) s = .next (Foot.psw.finish s
      ((((s.begun.setGrp g (fun x => { x with uv := false })).pswGroupNote g 1 0).grpRestart g).pswShowAll))) ∧
  (∀ (g mv : Nat) (s : State), 38000 < mv → s.pwr.groupOver.getD g false = false →
    exec (.pswGroupOvervoltage g mv) s = .next ((Foot.psw.and [.pwr] []).finish s
      ((({ s.begun with pwr := { s.pwr with groupOver := updAt s.pwr.groupOver g (fun _ => true) } } : State).grpDown g |>.post
        fPSW .overVoltage).pswShowAll))) ∧
  (∀ (g n : Nat) (r : List Nat) (s : State), (s.grp g).queue = n :: r → (s.grp g).nextAt ≤ s.clk.tb →
    exec (.pswStaggerTurnOn g) s = .next (Foot.psw.finish s
      (((s.begun.pswOn n (s.sw n).pend).setGrp g (fun x =>
        { x with queue := r, nextAt := x.nextAt + tbMs (s.fd (R.PSW_GRP_BUDGET g) 19 16) })).pswShowAll))) ∧
  (∀ (g : Nat) (s : State), g < 4 → g < s.psw.grps.length → 10 ≤ (s.grp g).excess → (∃ n ∈ grpChs g, (s.sw n).on = true) →
    ∃ t, exec (.pswBudgetShed g) s = .next t ∧ t.rd R.PSW_BUDGET_SHEDS = s.rd R.PSW_BUDGET_SHEDS + 1#32) ∧
  (∀ (n ma : Nat) (s : State), n < 16 → n < s.psw.chs.length → s.bt (R.PSW_CH_DIAG n) 24 = true → (s.sw n).on = true →
    (s.sw n).isOpen = false → ma < 10 * clampN 5 200 (fld (s.rd (R.PSW_CH_DIAG n)) 7 0) → (s.sw n).olLow = true →
    tbMs (10 * max 1 (fld (s.rd (R.PSW_CH_DIAG n)) 15 8)) ≤ (s.sw n).olT + s.pswOlStep n →
    exec (.pswOpenLoad n ma) s = .next (Foot.psw.finish s
      (((s.begun.setSw n (fun c => { c with
        olLow := true, olAt := some s.clk.tb, olT := if c.olLow = true then c.olT + s.pswOlStep n else 0 })).pswSetOpen n
          true).pswShow n))) ∧
  (∀ (n t0 : Nat) (r : Bool) (s : State), n < 16 → (s.sw n).hold = some r → (s.sw n).lastOff = some t0 →
    t0 + tbMs 1000 ≤ s.clk.tb →
    exec (.pswHoldoffEnd n) s = .next (Foot.psw.finish s
      (((s.begun.setSw n (fun c => { c with hold := none })).pswOn n r).pswShow n))) ∧
  (∀ (ini : Initiator) (v : Word) (s : State), s.domainUp .psd = true → (ini = .host → s.expert fPSW = true) →
    exec (.pswLatchedWrite ini v) s = .next (Foot.psw.finish s (((s.begun.reached ini Win.psw.1).pswUnlatch v).busDone ini)))

/-- Chapter 11: the load switches' mailbox commands, accepted and with a payload the spec allows, answer OK with their own effect.
-/
def Obligations.SwitchCommandsComplete : Prop :=
  (∀ (c : Cmd) (k : Nat) (s : State), Accepted fPSW 0x10 0 c k s → c.payload.length = 4 → u8 c.payload 0 < 16 →
    u8 c.payload 1 ≤ 2 → u16 c.payload 2 ≤ 10000 →
    (u8 c.payload 1 = 2 → pswRefused (s.rd (R.PSW_CH_CFG (u8 c.payload 0))) = false) →
    s.pswDriven (u8 c.payload 0) = false → s.isRunning fCST = false →
    (u8 c.payload 1 ≠ 0 → nbit s.saf.lines (12 + u8 c.payload 0 / 4) = true) →
    AnswersOK (Foot.psw.and [.shadow] []) 0x0410 k c s (exec (.pswSwitch c) s) (fun u p => p = [] ∧
      ∃ t, t = (s.entered fPSW 0x10 k c).shadowWr (R.PSW_CH_CFG (u8 c.payload 0)) 4
          (setFld (s.shadowRd (R.PSW_CH_CFG (u8 c.payload 0))) 1 0 (u8 c.payload 1)) ∧
        u = t.shadowWr (R.PSW_CH_DUTY (u8 c.payload 0)) 4
          (setFld (t.shadowRd (R.PSW_CH_DUTY (u8 c.payload 0))) 13 0 (u16 c.payload 2)))) ∧
  (∀ (c : Cmd) (k : Nat) (s : State), Accepted fPSW 0x11 1 c k s → c.payload.length = 3 → u8 c.payload 2 ≤ 7 →
    AnswersOK .psw 0x0411 k c s (exec (.pswChClear c) s) (fun u p =>
      p = leBytes 2 (maskOf 16 (fun n => nbit (u16 c.payload 0) n && nbit (u8 c.payload 2) 1 && (u.sw n).th)) ∧
      (u8 c.payload 2 = 1 →
        u = (List.range 16).foldl (fun (t : State) n => if nbit (u16 c.payload 0) n then (t.pswClearOcl n).pswShow n else t)
          (s.entered fPSW 0x11 k c)) ∧
      (u8 c.payload 2 = 2 →
        u = (List.range 16).foldl (fun (t : State) n => if nbit (u16 c.payload 0) n then (t.pswClearTh n).pswShow n else t)
          (s.entered fPSW 0x11 k c)))) ∧
  (∀ (c : Cmd) (k : Nat) (s : State), Accepted fPSW 0x12 0 c k s → c.payload.length = 1 → u8 c.payload 0 < 16 →
    AnswersOK .psw 0x0412 k c s (exec (.pswReadCh c) s) (fun u p => u = s.entered fPSW 0x12 k c ∧
      p = wBytes (s.rd (R.PSW_CH_STATUS (u8 c.payload 0))) ++ wBytes (s.rd (R.PSW_CH_I (u8 c.payload 0))) ++
        wBytes (s.rd (R.PSW_CH_DUTY_EFF (u8 c.payload 0))) ++ wBytes (s.rd (R.PSW_CH_TRIP (u8 c.payload 0))))) ∧
  (∀ (c : Cmd) (k : Nat) (s : State), Accepted fPSW 0x13 1 c k s → c.payload.length = 12 → u8 c.payload 0 < 4 →
    u8 c.payload 1 ≤ 1 → grpUvOk (u16 c.payload 4) (u16 c.payload 6) = true → u8 c.payload 10 ≤ 15 →
    (u8 c.payload 1 = 1 → nbit s.saf.lines (12 + u8 c.payload 0) = true) →
    AnswersOK (Foot.psw.and [.prm, .shadow] [.prm]) 0x0413 k c s (exec (.pswGroupSet c) s) (fun u p => p = [] ∧
      u = ((((s.entered fPSW 0x13 k c).shadowWr (R.PSW_GRP_EN (u8 c.payload 0)) 4 (word (u8 c.payload 1))).shadowWr
          (R.PSW_GRP_UV (u8 c.payload 0)) 4 (word (u16 c.payload 4 + 65536 * u16 c.payload 6))).shadowWr
          (R.PSW_GRP_BUDGET (u8 c.payload 0)) 4 (word (u16 c.payload 8 + 65536 * u8 c.payload 10))).patchApplied fPSW
        (256 + 12 * u8 c.payload 0) (leBytes 4 (u8 c.payload 1) ++ wBytes (word (u16 c.payload 4 + 65536 * u16 c.payload 6)) ++
          wBytes (word (u16 c.payload 8 + 65536 * u8 c.payload 10))) (resetWords pswCfgRegs)))

/-- Chapter 12: Transit's events complete with their own effect: a millisecond and an epoch of measurement, the phases of a
channel, a sweep of an acquisition engine, a unit of navigation data, an antenna supply; its mailbox commands, accepted and with a
payload the spec allows, answer OK with theirs. -/
def Obligations.TransitComplete : Prop :=
  (∀ (ms : List TrnMs) (fe : List (Nat × Nat)) (s : State), s.trn.lastMs < s.clk.tb / 50000 →
    ∃ t, exec (.trnMsBoundary ms fe) s = .next t ∧ t.trn.lastMs = s.clk.tb / 50000 ∧ t.trn.run = (s.bt R.TRN_CTRL 0 && s.isRunning fTRN)) ∧
  (∀ (n : Nat) (s : State), n < 128 → n < s.trn.chs.length → (s.tch n).st = .pullin →
    s.tbPast (s.tch n).since (tbMs (s.tch n).pullMs) = true → (s.tch n).carr = true →
    ∃ t, exec (.trnPullinEnd n) s = .next t ∧ (t.tch n).st = .track ∧ (t.tch n).pll = true) ∧
  (∀ (n : Nat) (s : State), n < 128 → n < s.trn.chs.length → (s.tch n).st = .track → (s.tch n).carr = false →
    ∃ t, exec (.trnCarrLock n true) s = .next t ∧ (t.tch n).carr = true ∧ (t.tch n).lockt = 0) ∧
  (∀ (n : Nat) (s : State), n < 128 → n < s.trn.chs.length → (s.tch n).st = .track → (s.tch n).carr = true →
    ∃ t, exec (.trnCarrLock n false) s = .next t ∧ (t.tch n).carr = false ∧ (t.tch n).slip = true ∧
      (t.tch n).slips = min 255 ((s.tch n).slips + 1)) ∧
  (∀ (n t0 : Nat) (s : State), n < 128 → (s.tch n).lowAt = some t0 → ((s.tch n).st = .pullin ∨ (s.tch n).st = .track) →
    s.tbPast t0 (tbMs 500) = true →
    exec (.trnLost n) s = .next (Foot.trn.finish s ((((s.begun.setTch n (fun c => { c with
      st := .lost, since := s.clk.tb, code := false, carr := false, lockt := 0, lowAt := none, pll := false })).inc
        R.TRN_LOCK_LOSS).trnLockNote n).trnFollow n .lost |>.trnShow n))) ∧
  (∀ (n : Nat) (s : State), n < 128 → (s.tch n).st = .lost → tMode (s.tch n).cfg ≠ 2 →
    s.tbPast (s.tch n).since (tbMs (fld (s.tch n).lock 31 20)) = true →
    exec (.trnCoastEnd n) s = .next (Foot.trn.finish s (((s.begun.trnIdle n).trnFollow n .idle).trnShow n))) ∧
  (∀ (n : Nat) (s : State), n < 128 → (s.tch n).st = .handover → (s.tch n).hoAt.isSome = true →
    s.tbPast (s.tch n).passAt (tbMs ((2 * clampN 1 31 (fld (s.tch n).ho 4 0) + 5) / 5)) = true →
    exec (.trnHandoverPass n []) s = .next (Foot.trn.finish s
      (((s.begun.setTch n (fun c => { c with passes := c.passes + 1, passAt := s.clk.tb })).wf_ (R.TRN_CH_HO_STAT n) 15 8
        (min 255 ((s.tch n).passes + 1))).trnShow n))) ∧
  (∀ (n h m : Nat) (pw p : List Nat) (s : State), n < 128 → (s.tch n).st = .handover → (s.tch n).hoAt.isSome = true →
    h = clampN 1 31 (fld (s.tch n).ho 4 0) → s.tbPast (s.tch n).passAt (tbMs ((2 * h + 5) / 5)) = true →
    p = (pw ++ List.replicate (2 * h + 1) 0).take (2 * h + 1) → m = argMax (fun x => x) (p.map (fun (x : Nat) => (x : Int))) →
    2 * p.foldl (fun a x => a + x) 0 ≤ p.getD m 0 * (2 * h + 1) → 0 < p.foldl (fun a x => a + x) 0 →
    exec (.trnHandoverPass n pw) s = .next (Foot.trn.finish s
      ((((s.begun.setTch n (fun c => { c with passes := c.passes + 1, passAt := s.clk.tb })).trnHoEnd n 1
        ((m : Int) - h)).trnPullin n (s.tch n).hoDop (s.tch n).cp 20).trnShow n))) ∧
  (∀ (n t0 : Nat) (s : State), n < 128 → (s.tch n).hoAt = some t0 → (s.tch n).st = .handover →
    s.tbPast t0 (tbMs (fld (s.tch n).ho 15 8)) = true →
    exec (.trnHandoverTimeout n) s = .next (Foot.trn.finish s (((s.begun.trnHoEnd n 2 0).trnIdle n).trnShow n))) ∧
  (∀ (ini : Initiator) (e : Nat) (v : Word) (s : State), s.domainUp .gns = true → (ini = .host → s.expert fTRN = true) →
    exec (.trnAcqReqWrite ini e v) s = .next (Foot.trn.finish s
      (((s.begun.reached ini Win.trn.1).trnAcqWrite ini e v).busDone ini))) ∧
  (∀ (e : Nat) (r : TrnSweep) (q : TrnReq) (l : List TrnReq) (s : State), e < s.trn.engs.length →
    (s.trn.engs.getD e {}).queue = q :: l → r.ratio < q.th → s.tbPast (s.trn.engs.getD e {}).startAt (tbMs q.sweepMs) = true →
    ∃ t, exec (.trnSweepEnd e r) s = .next t ∧ (t.trn.engs.getD e {}).queue = l ∧
      t.rd R.TRN_ACQ_DONE = s.rd R.TRN_ACQ_DONE + 1#32) ∧
  (∀ (e : Nat) (r : TrnSweep) (q : TrnReq) (l : List TrnReq) (s : State), e < s.trn.engs.length →
    (s.trn.engs.getD e {}).queue = q :: l → q.th ≤ r.ratio → q.verify = 0 → q.auto = none →
    s.tbPast (s.trn.engs.getD e {}).startAt (tbMs q.sweepMs) = true →
    ∃ t, exec (.trnSweepEnd e r) s = .next t ∧ (t.trn.engs.getD e {}).queue = l ∧
      { req := q, pos := r.pos, dop := r.dop, ratio := r.ratio, found := true, skip := false,
        tbRef := (s.trn.engs.getD e {}).startAt + tbMs (q.sweepMs - 1) } ∈ (t.trn.engs.getD e {}).results) ∧
  (∀ (ini : Initiator) (e : Nat) (s : State), s.domainUp .gns = true →
    ∃ t, exec (.trnAcqResCRead ini e) s = .next t ∧
      (match ini with | .host => t.fab.hostBus | .dome => t.fab.domeBus) = .data (s.rd (R.TRN_ACQ_RES_C e)) ∧
      t.trn.engs = updAt s.trn.engs e (fun g => { g with results := g.results.drop 1 })) ∧
  (∀ (es : List TrnEp) (s : State), s.trn.run = true →
    s.trn.lastEpoch < s.clk.tb / (50000000 / s.trnRate) * (50000000 / s.trnRate) →
    ∃ t, exec (.trnEpoch es) s = .next t ∧
      t.trn.lastEpoch = s.clk.tb / (50000000 / s.trnRate) * (50000000 / s.trnRate) ∧ t.trn.rxtNew = none ∧
      t.rd R.TRN_EPOCHS = s.rd R.TRN_EPOCHS + 1#32) ∧
  (∀ (n : Nat) (u : TrnNav) (s : State), n < 128 → (s.tch n).st = .track → tSig (s.tch n).cfg % 2 = 0 →
    exec (.trnNavUnit n u) s = .next (Foot.trn.finish s ((s.begun.trnUnit n u).trnShow n))) ∧
  (∀ (n : Nat) (u : TrnNav) (s : State), n < 128 → n < s.trn.chs.length → (s.tch n).st = .track → tSig (s.tch n).cfg % 2 = 0 →
    tMode (s.tch n).cfg ≠ 2 → (navCheck u (tSig (s.tch n).cfg)).1 = 0 →
    ∃ t, exec (.trnNavUnit n u) s = .next t ∧ (t.tch n).tow = true ∧ t.rd R.TRN_NAV_ERR = s.rd R.TRN_NAV_ERR) ∧
  (∀ (ini : Initiator) (v : Word) (s : State), s.domainUp .gns = true → (ini = .host → s.expert fTRN = true) →
    exec (.trnRxtHiWrite ini v) s = .next (Foot.trn.finish s (((s.begun.reached ini Win.trn.1).trnRxtHi v).busDone ini))) ∧
  (∀ (a ma : Nat) (s : State), a < 2 → a < s.trn.ants.length → s.bt R.TRN_FE_CFG (4 + a) = true →
    (s.trn.ants.getD a {}).short = false → 180 < ma →
    ∃ t, exec (.trnAntFault a ma) s = .next t ∧ (t.trn.ants.getD a {}).short = true) ∧
  (∀ (a : Nat) (s : State), (s.trn.ants.getD a {}).short = true → (s.trn.ants.getD a {}).retryAt ≤ s.clk.tb →
    exec (.trnAntRetry a 0) s = .next (Foot.trn.finish s
      ((s.begun.setAnt a (fun x => { x with short := false })).trnAntNote a 2 0))) ∧
  (∀ (c : Cmd) (k : Nat) (s : State), Accepted fTRN 0x10 1 c k s → c.payload.length = 16 → u8 c.payload 0 < 128 →
    u8 c.payload 2 ≤ 1 → u8 c.payload 6 ≤ 1 → u8 c.payload 4 = 0 → u8 c.payload 5 < 128 →
    trnValid (u8 c.payload 1) (u8 c.payload 3) 0 = true → s.fd R.TRN_ALLOC 7 0 ≤ u8 c.payload 0 →
    0 < fld (s.shadowRd (R.TRN_CH_SPACE (u8 c.payload 0))) 5 0 →
    fld (s.shadowRd (R.TRN_CH_SPACE (u8 c.payload 0))) 5 0 < fld (s.shadowRd (R.TRN_CH_SPACE (u8 c.payload 0))) 12 6 →
    AnswersOK (Foot.trn.and [.shadow] []) 0x0A10 k c s (exec (.trnChannel c) s) (fun u p => p = [] ∧
      u = ((((s.entered fTRN 0x10 k c).shadowWr (R.TRN_CH_CFG (u8 c.payload 0)) 7
          (setBit (word (u8 c.payload 6 + 2 * u8 c.payload 1 + 16 * u8 c.payload 2 + 32 * u8 c.payload 3 +
            2048 * u8 c.payload 5 + 262144 * u8 c.payload 4)) 20
            (bit (s.shadowRd (R.TRN_CH_CFG (u8 c.payload 0))) 20))).shadowWr (R.TRN_CH_INIT_CP (u8 c.payload 0)) 7
          (w32 c.payload 8)).shadowWr (R.TRN_CH_INIT_DOP (u8 c.payload 0)) 7 (w32 c.payload 12)).applyShadow 7)) ∧
  (∀ (c : Cmd) (k : Nat) (s : State), Accepted fTRN 0x11 1 c k s → c.payload.length = 12 → u8 c.payload 0 < 2 →
    u8 c.payload 1 ≤ 1 → u8 c.payload 2 ≤ 1 → trnValid (if u8 c.payload 1 = 0 then 0 else 3) (u8 c.payload 3) 0 = true →
    1 ≤ u8 c.payload 4 → u8 c.payload 4 ≤ 8 → u8 c.payload 5 ≤ 3 → u16 c.payload 10 ≤ 6000 → u8 c.payload 6 = 0xFF →
    s.isRunning fTRN = true → (s.trn.engs.getD (u8 c.payload 0) {}).queue.length < 64 →
    AnswersOK .trn 0x0A11 k c s (exec (.trnAcquire c) s) (fun u p => p = [] ∧
      u = ((s.entered fTRN 0x11 k c).trnQueue (u8 c.payload 0)
        { sig := u8 c.payload 1, ant := u8 c.payload 2, sv := u8 c.payload 3, nc := u8 c.payload 4, verify := u8 c.payload 5,
          auto := none, centre := i16 c.payload 8, span := u16 c.payload 10,
          th := s.fd (R.TRN_ACQ_TH (u8 c.payload 0)) 15 0, host := true }).2)) ∧
  (∀ (c : Cmd) (k n : Nat) (s : State), Accepted fTRN 0x12 0 c k s → c.payload.length = 2 → u8 c.payload 0 ≤ 15 →
    4 ≤ u8 c.payload 1 → u8 c.payload 1 ≤ 10 → s.freeRing = some n → s.sramFits [u8 c.payload 1] = true →
    AnswersOK .trn 0x0A12 k c s (exec (.trnRawOpen c) s) (fun u p => p = [byte n] ∧
      (s.entered fTRN 0x12 k c).openRing k fTRN 0 (u8 c.payload 0) (u8 c.payload 1) false [] = .ok (n, u))) ∧
  (∀ (c : Cmd) (k : Nat) (r : DataRing) (s : State), Accepted fTRN 0x13 0 c k s → c.payload.length = 1 →
    s.ring? (u8 c.payload 0) = some r → r.fn = fTRN → r.session = k →
    AnswersOK .trn 0x0A13 k c s (exec (.trnRawClose c) s) (fun u p => p = [] ∧
      u = (s.entered fTRN 0x13 k c).closeRing (u8 c.payload 0))) ∧
  (∀ (c : Cmd) (k : Nat) (s : State), Accepted fTRN 0x14 0 c k s → c.payload.length = 1 → u8 c.payload 0 < 128 →
    AnswersOK .trn 0x0A14 k c s (exec (.trnReadCh c) s) (fun u p => u = s.entered fTRN 0x14 k c ∧
      p = (List.range 8).flatMap (fun i => wBytes (s.rd (R.TRN_CH_STATUS (u8 c.payload 0) + 4 * i)))))

/-- Chapter 13: the events of the position service and of Sentry complete with their own effect; the position service's mailbox
commands, accepted and with a payload the spec allows, answer OK or run on with theirs. -/
def Obligations.PositionComplete : Prop :=
  (∀ (x : PosSol) (s : State), s.posOn = true → s.pos.lastSol < s.trn.lastEpoch / s.posPeriod * s.posPeriod →
    x.found = true → posEnough (s.posSats x.used) = true →
    ∃ t, exec (.posSolution x) s = .next t ∧ t.pos.lastSol = s.trn.lastEpoch / s.posPeriod * s.posPeriod ∧
      t.rd R.POS_SOLS = s.rd R.POS_SOLS + 1#32) ∧
  (∀ s : State, s.posOn = true → 3 ≤ s.pos.quality → s.posCorrOk (s.trn.lastEpoch / s.posPeriod * s.posPeriod) = false →
    ∃ t, exec .posCorrAgeExpiry s = .next t ∧ t.pos.quality = 2 ∧ t.pos.corrUse = false) ∧
  (∀ (x : PosEst) (s : State), s.posOn = true →
    ∃ t, exec (.posInertialSample x) s = .next t ∧ t.pos.est = x ∧ t.pos.tbSol = s.clk.tb ∧
      t.pos.samples = s.pos.samples + 1) ∧
  (∀ s : State, s.posOn = true → s.pos.quality = 1 →
    (s.tbPast s.pos.drSince (50000000 * min 600 (s.fd R.POS_DR_MAX 9 0)) = true ∨
      s.tbPast (max s.pos.drSince s.pos.odoAt) 100000000 = true) →
    exec .posDrExpiry s = .next ((Foot.pos.and [] [.eth]).finish s (s.begun.posQual 0 0))) ∧
  (∀ s : State, s.posOn = true → s.pos.outAt < s.clk.tickCount / 200 → s.clk.tickCount % 200 = 0 → 10000 ≤ s.clk.phase →
    s.clk.due = [] →
    ∃ t, exec .posOutput s = .next t ∧ t.pos.outAt = s.clk.tickCount / 200 ∧ t.sig 0x84 = word s.pos.quality) ∧
  (∀ s : State, s.posOn = true → s.tbPast s.pos.discAt 50000000 = true → s.bt R.POS_CTRL 0 = true →
    s.fd R.ETH_TIME_CFG 1 0 = 1 → 2 ≤ s.pos.quality → s.timeValid = true →
    exec .posDiscipline s = .next ((Foot.pos.and [] [.eth]).finish s
      (((s.begun.setPos (fun p => { p with discAt := s.clk.tb })).setTrim
        (s.pos.drift + divFree (s.rd R.POS_BIAS).toInt 100)).posDisc true))) ∧
  (∀ s : State, s.posOn = true → s.timeValid = true → s.pos.ppsSec < s.gpsAt s.clk.tb / 1000000000 →
    s.fd R.POS_CTRL 2 1 = 1 → 2 ≤ s.pos.quality →
    ∃ t, exec .posPps s = .next t ∧ t.out = [.bytes .pps 1 []] ∧ t.pos.ppsAt = some s.clk.tb ∧
      t.pos.ppsSec = s.gpsAt s.clk.tb / 1000000000) ∧
  (∀ (t0 : Nat) (s : State), s.pos.ppsAt = some t0 → s.tbPast t0 (tbMs (s.fd R.POS_CTRL 9 3)) = true →
    ∃ t, exec .posPpsEnd s = .next t ∧ t.out = [.bytes .pps 0 []] ∧ t.pos.ppsAt = none) ∧
  (∀ (src : Nat) (p : List Byte) (s : State), s.posOn = true → nbit s.pos.src src = true →
    exec (.posRtcmFrame src p) s = .next (Foot.pos.finish s (s.begun.posFrame p).2)) ∧
  (∀ (hits : List SentryHit) (s : State), s.pos.sentry.on = true → s.pos.sentry.mode = 1 → s.pos.sentry.next ≤ s.aonCount →
    ∃ t, exec (.sentryBurst hits) s = .next t ∧ t.pos.sentry.next = s.pos.sentry.next + 32768 ∧
      t.pos.sentry.bursts = s.pos.sentry.bursts + 1 ∧ (hits = [] → t.pos.sentry.moving = s.pos.sentry.moving)) ∧
  (∀ (p : List Byte) (s : State), s.pos.sentry.on = true → s.pos.sentry.mode = 2 → s.pos.sentry.next ≤ s.aonCount →
    ∃ t, exec (.sentrySnapshot p) s = .next t ∧ t.pos.sentry.snaps = s.pos.sentry.snaps + 1 ∧
      t.pos.sentry.next = s.pos.sentry.next + 32768 * clampN 60 86400 (s.fd R.POS_SENTRY_INT 16 0)) ∧
  (∀ (c : Cmd) (k : Nat) (s : State), Accepted fPOS 0x10 0 c k s → 1 ≤ c.payload.length → c.payload.length ≤ 4096 →
    s.posOn = true → nbit s.pos.src 2 = true →
    AnswersOK .pos 0x0B10 k c s (exec (.posRtcm c) s) (fun u p => u = ((s.entered fPOS 0x10 k c).posBytes k c.payload).2.2 ∧
      p = leBytes 2 ((s.entered fPOS 0x10 k c).posBytes k c.payload).1 ++
        leBytes 2 ((s.entered fPOS 0x10 k c).posBytes k c.payload).2.1)) ∧
  (∀ (c : Cmd) (k : Nat) (s : State), Accepted fPOS 0x11 1 c k s → c.payload.length = 8 → u8 c.payload 0 ≤ 7 →
    u8 c.payload 1 ≤ 15 →
    AnswersOK .pos 0x0B11 k c s (exec (.posRtcmSrc c) s) (fun u p => p = [] ∧
      u = (s.entered fPOS 0x11 k c).setPos (fun q =>
        { q with src := u8 c.payload 0, canCtl := u8 c.payload 1, canId := u32 c.payload 4 }))) ∧
  (∀ (c : Cmd) (k : Nat) (s : State), Accepted fPOS 0x12 0 c k s → c.payload.length = 8 → s.pos.quality ≠ 0 →
    (0 < u32 c.payload 0 ∨ 0 < u32 c.payload 4) →
    AnswersOK .pos 0x0B12 k c s (exec (.posOrigin c) s) (fun u p => p = [] ∧
      u = ((s.entered fPOS 0x12 k c).wr R.POS_ORIGIN_LAT (w32 c.payload 0)).wr R.POS_ORIGIN_LON (w32 c.payload 4))) ∧
  (∀ (c : Cmd) (k : Nat) (s : State), Accepted fPOS 0x12 0 c k s → c.payload.length = 8 → s.pos.quality ≠ 0 →
    u32 c.payload 0 = 0 → u32 c.payload 4 = 0 →
    AnswersOK .pos 0x0B12 k c s (exec (.posOrigin c) s) (fun u p => p = [] ∧
      u = ((s.entered fPOS 0x12 k c).wr R.POS_ORIGIN_LAT (iword s.pos.est.lat)).wr R.POS_ORIGIN_LON (iword s.pos.est.lon))) ∧
  (∀ (c : Cmd) (k : Nat) (s : State), Accepted fPOS 0x13 1 c k s → c.payload.length = 12 → u8 c.payload 0 ≤ 2 →
    u8 c.payload 1 ≤ 1 → 1 ≤ u8 c.payload 2 → u8 c.payload 2 ≤ 15 → 10 ≤ u8 c.payload 3 → 1 ≤ u16 c.payload 4 →
    u16 c.payload 4 ≤ 3600 → 60 ≤ u32 c.payload 8 → u32 c.payload 8 ≤ 86400 →
    AnswersOK (Foot.pos.and [.prm] [.prm]) 0x0B13 k c s (exec (.posSentrySet c) s) (fun u p => p = [] ∧
      u = (((s.entered fPOS 0x13 k c).wr R.POS_SENTRY_CFG
        (word (u8 c.payload 0 + 4 * u8 c.payload 1 + 16 * u8 c.payload 2 + 256 * u8 c.payload 3 +
          65536 * u16 c.payload 4))).wr R.POS_SENTRY_INT (w32 c.payload 8)).prmItem (256 * fPOS) c.payload)) ∧
  (∀ (c : Cmd) (k n : Nat) (s : State), Accepted fPOS 0x14 0 c k s → c.payload.length = 1 → 4 ≤ u8 c.payload 0 →
    u8 c.payload 0 ≤ 10 → s.freeRing = some n → s.sramFits [u8 c.payload 0] = true →
    AnswersOK .pos 0x0B14 k c s (exec (.posSentryRead c) s) (fun u p => p = [byte n] ∧
      (s.entered fPOS 0x14 k c).openRing k fPOS 1 0 (u8 c.payload 0) true
        (slots48 (s.sentryBytes.length / 48 + 1) s.sentryBytes) = .ok (n, u))) ∧
  (∀ (c : Cmd) (k : Nat) (s : State), Accepted fPOS 0x15 0 c k s → c.payload = [] →
    RunsOn .pos fPOS 0x0B15 k c s (exec (.posSnapSolve c) s) (fun _ p =>
      p = s.pos.sentry.units.flatMap (snapEntry s.clk.tb))) ∧
  (∀ (c : Cmd) (k : Nat) (s : State), Accepted fPOS 0x16 1 c k s → c.payload = [] →
    AnswersOK .pos 0x0B16 k c s (exec (.posSentryClear c) s) (fun u p => p = [] ∧
      u = ((s.entered fPOS 0x16 k c).setSentry (fun y => { y with units := [], snaps := 0 })).wr R.POS_SENTRY_STATUS 0#32))

/-- Chapter 14: the camera pipeline's events and register commands complete with their own effect. -/
def Obligations.CameraEventsComplete : Prop :=
  (∀ (port : Nat) (x : CamSeg) (s : State),
    exec (.camSegment port x) s = .next (Foot.cam.finish s (s.begun.camSegment port x))) ∧
  (∀ (port : Nat) (f : CamFrame) (s : State), s.camCur port = some f →
    s.tbPast f.first (tbMs (s.fd (R.CAM_STR_CFG port) 15 8)) = true →
    exec (.camFrameCloseTimeout port) s = .next (Foot.cam.finish s (s.begun.camClose f).camPick.camShow)) ∧
  (∀ (port : Nat) (s : State), (s.camStr port).st = 2 → s.tbPast (s.camStr port).lastAt (tbMs 500) = true →
    exec (.camStreamLost port) s = .next (Foot.cam.finish s
      (((match s.camCur port with | some f => s.begun.camClose f | none => s.begun).setCamStr port
        (fun y => { y with seq := none, closed := [] })).camState port 3).camPick.camShow)) ∧
  (∀ (ctx : Nat) (f : CamFrame) (s : State), s.cam.frames.find? (fun f => f.begun && f.ctx == some ctx &&
      (f.ready || (s.cam.mode == 0 && s.cam.isp == some f.uid) || (f.inline_ && f.closed && f.waiting == 0))) = some f →
    exec (.camIspComplete ctx) s = .next (Foot.cam.finish s
      (if (s.begun.camDone f ctx).cam.isp = some f.uid then (s.begun.camDone f ctx).setCam (fun c => { c with isp := none })
        else s.begun.camDone f ctx).camPick.camShow)) ∧
  (∀ (inl : Nat) (s : State), s.cam.mode ≠ 0 →
    exec (.ispStripeComplete inl false) s = .next (Foot.cam.finish s
      (s.begun.setCam (fun c => { c with frames := c.frames.map (fun f =>
        if f.inline_ && f.begun then { f with waiting := f.waiting - inl } else f) })).camPick.camShow)) ∧
  (∀ (inl u : Nat) (s : State), s.cam.mode ≠ 0 → s.cam.isp = some u →
    ∃ t, t = s.begun.setCam (fun c => { c with frames := c.frames.map (fun f =>
        if f.inline_ && f.begun then { f with waiting := f.waiting - inl } else f) }) ∧
      exec (.ispStripeComplete inl true) s = .next (Foot.cam.finish s ((t.setFrame u (fun f => { f with
        stripes := f.stripes + 1, ready := decide (f.h ≤ t.camStripe * (f.stripes + 1)) })).setCam
          (fun c => { c with isp := none })).camPick.camShow)) ∧
  (∀ (load : Nat) (s : State), decide (1000 ≤ load) = s.bt R.CAM_STATUS 10 →
    exec (.camLoadUpdate load) s = .next (Foot.cam.finish s
      ((s.begun.wf_ R.CAM_STATUS 9 0 load).wb R.CAM_STATUS 10 (decide (1000 ≤ load))))) ∧
  (∀ (load : Nat) (s : State), decide (1000 ≤ load) ≠ s.bt R.CAM_STATUS 10 →
    exec (.camLoadUpdate load) s = .next (Foot.cam.finish s
      (((s.begun.wf_ R.CAM_STATUS 9 0 load).wb R.CAM_STATUS 10 (decide (1000 ≤ load))).notify fCAM 0x81
        ([byte (b2n (decide (1000 ≤ load))), 0#8] ++ leBytes 2 load)))) ∧
  (∀ (e : Nat) (j : EncJob) (au : List Byte) (s : State), e < s.cam.encs.length → (s.camEnc e).job = some j →
    s.fd (R.CAM_ENC_WR e) 22 0 = 0 → s.fd (R.CAM_ENC_RD e) 22 0 = 0 → au.length < encSize → e < 2 →
    ∃ t, exec (.camEncAuComplete e au) s = .next t ∧ (t.camEnc e).job = none ∧
      t.rd (R.CAM_ENC_WR e) = word au.length ∧ t.rd (R.CAM_ENC_AUS e) = s.rd (R.CAM_ENC_AUS e) + 1#32) ∧
  (∀ (ini : Initiator) (e : Nat) (v : Word) (s : State), s.domainUp .ctl = true → (ini = .host → s.expert fCAM = true) →
    exec (.camEncCmdWrite ini e v) s = .next (Foot.cam.finish s (((s.begun.reached ini Win.cam.1).camEncCmd e v).busDone ini))) ∧
  (∀ (ini : Initiator) (e : Nat) (v : Word) (s : State), e < 2 → s.domainUp .ctl = true → (ini = .host → s.expert fCAM = true) →
    ∃ t, exec (.camEncRdWrite ini e v) s = .next t ∧ t.rd (R.CAM_ENC_RD e) = word (fld v 22 0)) ∧
  (∀ (ini : Initiator) (v : Word) (s : State), s.domainUp .ctl = true → (ini = .host → s.expert fCAM = true) →
    exec (.camTblDataAccess ini (some v)) s = .next (Foot.cam.finish s
      (((s.begun.reached ini Win.cam.1).camTblWrite v).camTblNext.busDone ini))) ∧
  (∀ (ini : Initiator) (s : State), s.domainUp .ctl = true →
    exec (.camTblDataAccess ini none) s = .next (Foot.cam.finish s (s.begun.busData ini s.camTblRead).camTblNext)) ∧
  (∀ (ini : Initiator) (ctx : Nat) (v : Word) (s : State), s.domainUp .ctl = true → (ini = .host → s.expert fCAM = true) →
    exec (.camCtxRelWrite ini ctx v) s = .next (Foot.cam.finish s
      (((s.begun.reached ini Win.cam.1).camRelWrite ctx v).busDone ini)))

/-- Chapter 14: the camera pipeline's mailbox commands, accepted and with a payload the spec allows, answer OK with their own
effect. -/
def Obligations.CameraCommandsComplete : Prop :=
  (∀ (c : Cmd) (k n : Nat) (s : State), Accepted fCAM 0x10 0 c k s → c.payload.length = 2 → overUdp c = false →
    u8 c.payload 0 < 8 → 4 ≤ u8 c.payload 1 → u8 c.payload 1 ≤ 10 → s.freeRing = some n → s.sramFits [u8 c.payload 1] = true →
    AnswersOK .cam 0x0D10 k c s (exec (.camRingOpen c) s) (fun u p => p = [byte n] ∧
      (s.entered fCAM 0x10 k c).openRing k fCAM 1 (u8 c.payload 0) (u8 c.payload 1) false [] = .ok (n, u))) ∧
  (∀ (c : Cmd) (k n : Nat) (s : State), Accepted fCAM 0x11 0 c k s → c.payload.length = 2 → overUdp c = false →
    u8 c.payload 0 < 2 → 4 ≤ u8 c.payload 1 → u8 c.payload 1 ≤ 10 → s.freeRing = some n → s.sramFits [u8 c.payload 1] = true →
    AnswersOK .cam 0x0D11 k c s (exec (.camEncOpen c) s) (fun u p =>
      p = [byte n, 0#8, 0#8, 0#8] ++ leBytes 8 (Config.camBitsAddr (u8 c.payload 0)) ∧
      (s.entered fCAM 0x11 k c).openRing k fCAM 2 (u8 c.payload 0) (u8 c.payload 1) false [] = .ok (n, u))) ∧
  (∀ (c : Cmd) (k n : Nat) (s : State), Accepted fCAM 0x12 0 c k s → c.payload.length = 2 → u8 c.payload 0 < 8 →
    u8 c.payload 1 < 3 →
    n = (if u8 c.payload 1 = 0 then (s.camCtx (u8 c.payload 0)).d else if u8 c.payload 1 = 1 then (s.camCtx (u8 c.payload 0)).m
      else (s.camCtx (u8 c.payload 0)).s).length →
    AnswersOK .cam 0x0D12 k c s (exec (.camBuffers c) s) (fun u p => u = s.entered fCAM 0x12 k c ∧
      p = [byte n] ++ leBytes 7 0 ++ (List.range n).flatMap (fun i =>
        leBytes 8 (Config.camBufAddr (u8 c.payload 0) (u8 c.payload 1) i)))) ∧
  (∀ (c : Cmd) (k : Nat) (s : State), Accepted fCAM 0x13 0 c k s → c.payload.length = 8 → u8 c.payload 1 < 3 →
    u8 c.payload 0 < 8 →
    AnswersOK .cam 0x0D13 k c s (exec (.camRelease c) s) (fun u p => p = [] ∧
      u = ((s.entered fCAM 0x13 k c).camRel (u8 c.payload 0) (u8 c.payload 1) (u32 c.payload 4)).camShow)) ∧
  (∀ (c : Cmd) (k : Nat) (s : State), Accepted fCAM 0x13 0 c k s → c.payload.length = 8 → u8 c.payload 1 = 3 →
    u8 c.payload 0 < 2 → u32 c.payload 4 < encSize →
    AnswersOK .cam 0x0D13 k c s (exec (.camRelease c) s) (fun u p => p = [] ∧
      u = (s.entered fCAM 0x13 k c).wr (R.CAM_ENC_RD (u8 c.payload 0)) (w32 c.payload 4))) ∧
  (∀ (c : Cmd) (k : Nat) (s : State), Accepted fCAM 0x14 1 c k s → u8 c.payload 0 < 8 → u8 c.payload 1 < 2 →
    c.payload.length = 4 + 2 * camTblSize (u8 c.payload 1) →
    (∀ i, i < camTblSize (u8 c.payload 1) → u16 c.payload (4 + 2 * i) ≤ 4095) →
    AnswersOK (Foot.cam.and [.prm, .shadow] [.prm]) 0x0D14 k c s (exec (.camTableSet c) s) (fun u p => p = [] ∧
      u = ((((List.range (camTblSize (u8 c.payload 1))).foldl (fun (t : State) i =>
          t.camTblPut (u8 c.payload 0) (u8 c.payload 1) i (u16 c.payload (4 + 2 * i))) (s.entered fCAM 0x14 k c)).applyShadow
        8).camAfterUg8).prmItem (256 * fCAM + 2 * u8 c.payload 0 + u8 c.payload 1) (c.payload.drop 4))) ∧
  (∀ (c : Cmd) (mem : List Byte) (k : Nat) (s : State), Accepted fCAM 0x15 0 c k s → c.payload.length = 20 →
    u8 c.payload 0 < 8 → u8 c.payload 1 ≤ 7 → bit (s.camCfg (u8 c.payload 0)) 0 = true →
    fld (s.camCfg (u8 c.payload 0)) 3 1 = 6 → 64 ≤ u16 c.payload 4 → u16 c.payload 4 ≤ 1920 → 64 ≤ u16 c.payload 6 →
    u16 c.payload 6 ≤ 1200 → u16 c.payload 4 % 4 = 0 → s.isRunning fCAM = true →
    (s.cam.frames.filter (fun f => f.stream == 6 && !f.begun)).length < 4 →
    AnswersOK .cam 0x0D15 k c s (exec (.camM2mSubmit c mem) s) (fun u p => p = [] ∧
      ∃ f : CamFrame, f.uid = s.cam.uid ∧ f.stream = 6 ∧ f.ctx = some (u8 c.payload 0) ∧ f.num = u32 c.payload 16 ∧
        f.w = u16 c.payload 4 ∧ f.h = u16 c.payload 6 ∧ f.closed = true ∧
        u = ((s.entered fCAM 0x15 k c).setCam (fun y =>
          { y with uid := y.uid + 1, frames := y.frames ++ [f] })).camPick.camShow)) ∧
  (∀ (c : Cmd) (k : Nat) (s : State), Accepted fCAM 0x16 0 c k s → c.payload.length = 1 → u8 c.payload 0 < 2 →
    AnswersOK .cam 0x0D16 k c s (exec (.camEncIdr c) s) (fun u p => p = [] ∧
      u = (s.entered fCAM 0x16 k c).setCamEnc (u8 c.payload 0) (fun y => { y with force := true })))

/-- Chapter 15: Astrolabe's events complete with their own effect: a sample of the ego motion, a part of a list, a fusion cycle,
the loss of a source; its mailbox commands, accepted and with a payload the spec allows, answer OK with theirs. -/
def Obligations.FusionComplete : Prop :=
  (∀ s : State, s.astRuns = true → s.clk.tickCount % 50 = 0 → s.clk.phase ≤ 8000 → s.ast.sampled < s.clk.tickCount / 50 →
    ∃ t, exec .astEgoSample s = .next t ∧ t.ast.sampled = s.clk.tickCount / 50) ∧
  (∀ (x : AstRx) (s : State), exec (.astListPart x) s = .next (Foot.ast.finish s (s.begun.astRx x))) ∧
  (∀ (k : Nat) (p : AstPart) (s : State), (s.astSrc k).part = some p → s.tbPast p.stamp (tbMs 10) = true →
    exec (.astPartTimeout k) s = .next (Foot.ast.finish s
      ((s.begun.astDisc k 2).setAstSrc k (fun x => { x with part := none, can := none })))) ∧
  (∀ (ini : Initiator) (v : Word) (mem : List Byte) (s : State), s.domainUp .fab = true → (ini = .host → s.expert fAST = true) →
    exec (.astSubGoWrite ini v mem) s = .next (Foot.ast.finish s
      (((s.begun.reached ini Win.ast.1).astSubGo v mem).busDone ini))) ∧
  (∀ (k : Nat) (s : State), (s.astSrc k).st = 2 → s.tbPast (s.astSrc k).lastAt (3 * s.astPeriod k) = true →
    exec (.astSourceLost k) s = .next (Foot.ast.finish s (s.begun.astState k 4))) ∧
  (∀ (us : Nat) (s : State), s.astRuns = true → s.ast.strobed = false →
    s.ast.lastT < s.clk.tb / (50000 * max 1 (s.astF R.AST_CYC_CFG 7 0)) * (50000 * max 1 (s.astF R.AST_CYC_CFG 7 0)) →
    ∃ t, exec (.astFusionCycle us) s = .next t ∧
      t.ast.lastT = s.clk.tb / (50000 * max 1 (s.astF R.AST_CYC_CFG 7 0)) * (50000 * max 1 (s.astF R.AST_CYC_CFG 7 0)) ∧
      t.ast.running = true ∧ t.ast.clear = false) ∧
  (∀ (us : Nat) (s : State), s.astRuns = false → s.ast.running = true → s.ast.strobed = false →
    s.ast.lastT < s.clk.tb / (50000 * max 1 (s.astF R.AST_CYC_CFG 7 0)) * (50000 * max 1 (s.astF R.AST_CYC_CFG 7 0)) →
    ∃ t, exec (.astFusionCycle us) s = .next t ∧ t.ast.running = false ∧ t.ast.tracks = [] ∧ t.ast.lists = [] ∧
      t.ast.shown = []) ∧
  (∀ (c : Cmd) (k n : Nat) (s : State), Accepted fAST 0x10 0 c k s → c.payload.length = 2 → u8 c.payload 1 ≤ 1 →
    4 ≤ u8 c.payload 0 → u8 c.payload 0 ≤ 10 → s.freeRing = some n → s.sramFits [u8 c.payload 0] = true →
    AnswersOK .ast 0x0C10 k c s (exec (.astRingOpen c) s) (fun u p => p = [byte n] ∧
      (s.entered fAST 0x10 k c).openRing k fAST 1 (u8 c.payload 1) (u8 c.payload 0) false [] = .ok (n, u))) ∧
  (∀ (c : Cmd) (k : Nat) (r : DataRing) (s : State), Accepted fAST 0x11 0 c k s → c.payload.length = 1 →
    s.ring? (u8 c.payload 0) = some r → r.fn = fAST → r.session = k →
    AnswersOK .ast 0x0C11 k c s (exec (.astRingClose c) s) (fun u p => p = [] ∧
      u = (s.entered fAST 0x11 k c).closeRing (u8 c.payload 0))) ∧
  (∀ (c : Cmd) (k : Nat) (s : State), Accepted fAST 0x12 0 c k s → 28 ≤ c.payload.length → u8 c.payload 0 < 16 →
    s.astF (R.AST_SRC_CFG (u8 c.payload 0)) 2 1 = 2 →
    AnswersOK .ast 0x0C12 k c s (exec (.astList c) s) (fun u p =>
      u = ((s.entered fAST 0x12 k c).astPart (u8 c.payload 0) s.clk.tb (c.payload.drop 4)).2 ∧
      p = [byte ((s.entered fAST 0x12 k c).astPart (u8 c.payload 0) s.clk.tb (c.payload.drop 4)).1])) ∧
  (∀ (c : Cmd) (k : Nat) (r : List Byte) (s : State), Accepted fAST 0x13 0 c k s → c.payload.length = 2 →
    s.ast.shown.lookup (u16 c.payload 0) = some r →
    AnswersOK .ast 0x0C13 k c s (exec (.astReadTrack c) s) (fun u p => u = s.entered fAST 0x13 k c ∧ p = padTo 64 r)) ∧
  (∀ (c : Cmd) (k : Nat) (s : State), Accepted fAST 0x14 1 c k s → c.payload = [] →
    AnswersOK .ast 0x0C14 k c s (exec (.astClear c) s) (fun u p => p = [] ∧
      u = (s.entered fAST 0x14 k c).setAst (fun a => { a with clear := true })))

/-- Chapters 16 and 17: the safety island's events complete with their own effect: its cycle, its tests and discrepancies,
standstill and the end of a stop, a reset input, start-up, the readiness check, the seal and the safety connections. -/
def Obligations.SafetyEventsComplete : Prop :=
  (∀ (x : SafIn) (s : State), s.saf.powered = true → s.saf.cycleAt + fabMs 1 ≤ s.clk.now →
    ∃ t, exec (.safCycle x) s = .next t ∧ t.saf.ms = s.saf.ms + 1 ∧ t.saf.cycleAt = s.clk.now) ∧
  (∀ (i : Nat) (s : State), s.saf.powered = true → s.saf.tested = true → s.saf.parOk = true →
    exec (.safDiscrepancy i) s = .next (Foot.saf.finish s (s.begun.safPairFault i))) ∧
  (∀ (m : Nat) (s : State), s.saf.powered = true → s.saf.tested = true → s.saf.parOk = true →
    exec (.safSpeedDiscrepancy m) s = .next (Foot.saf.finish s (s.begun.safMonFault m))) ∧
  (∀ (m : Nat) (s : State), s.saf.powered = true → monUsed s.saf.par m = true → s.monStill m = true → s.saf.st ≠ 3 →
    exec (.safStandstill m) s = .next ((Foot.saf.and [.adr, .psw] [.adb, .adr, .psw]).finish s
      (s.begun.wf_ R.SAF_SS 11 8 (maskOf 4 (fun k => monUsed s.saf.par k && s.monStill k))))) ∧
  (∀ (m : Nat) (s t : State), s.saf.powered = true → monUsed s.saf.par m = true → s.monStill m = true → s.saf.st = 3 →
    t = s.begun.wf_ R.SAF_SS 11 8 (maskOf 4 (fun k => monUsed s.saf.par k && s.monStill k)) → t.safStill = true →
    t.safEnvelope.1 = false →
    exec (.safStandstill m) s = .next ((Foot.saf.and [.adr, .psw] [.adb, .adr, .psw]).finish s (t.safEnter 1 t.saf.cause))) ∧
  (∀ s : State, s.saf.st = 3 → safTmax s.saf.par ≤ s.saf.ms - s.saf.ss1At →
    exec .safTMaxExpiry s = .next ((Foot.saf.and [.adr, .psw] [.adb, .adr, .psw]).finish s (s.begun.safEnter 1 11))) ∧
  (∀ (k i j : Nat) (s : State), s.saf.powered = true → s.saf.tested = true → s.saf.parOk = true → s.tpRuns = true →
    (List.range 16).all (fun i => fld (siCfg s.saf.par i) 2 0 == 0 || fld (siW s.saf.par i) 7 5 != k) = true → i < 16 → j < 16 → i ≠ j →
    fld (siCfg s.saf.par i) 2 0 ≠ 0 → fld (siCfg s.saf.par j) 2 0 ≠ 0 → s.saf.tpBad = 0 →
    ∃ t, exec (.safTestPulse k { exceeds := false, low := 0, cross := [(i, j)] }) s = .next t ∧ t.saf.tpBad = 2 ^ i + 2 ^ j) ∧
  (∀ (n : Nat) (s : State), s.saf.powered = true → (s.so n).on = true →
    exec (.safSoTest n true) s = .next (Foot.saf.finish s (s.begun.setSo n (fun o => { o with bad := false })))) ∧
  (∀ (n : Nat) (s : State), s.saf.powered = true → (s.so n).on = true →
    exec (.safSoTest n false) s = .next (Foot.saf.finish s ((s.begun.setSo n (fun o => { o with bad := true })).safRaise 8 n))) ∧
  (∀ (n : Nat) (s : State), s.saf.powered = true → s.saf.tested = true → s.saf.parOk = true →
    exec (.safEdmTimeout n) s = .next (Foot.saf.finish s (s.begun.safEdm n))) ∧
  (∀ (i d : Nat) (s : State), s.saf.press.lookup i = some d → 100 ≤ d → d ≤ 2000 →
    exec (.safResetInput i) s = .next ((Foot.saf.and [.adr, .psw] [.adb, .adr, .psw]).finish s
      (s.begun.setSaf (fun y => { y with press := y.press.filter (fun e => e.1 != i) })).safReset)) ∧
  (∀ (addr dip : Nat) (image : Bool) (s : State), s.saf.powered = true → s.saf.st = 0 → s.saf.tested = false →
    s.saf.staged = none →
    ∃ t, exec (.safSelfTestDone true addr dip image) s = .next t ∧ t.saf.tested = true ∧ t.saf.addr = addr ∧ t.saf.dip = dip ∧
      t.saf.par = (if nbit dip 1 then s.saf.setB else s.saf.setA)) ∧
  (∀ s : State, s.saf.powered = true → s.saf.tested = true → 2 ≤ s.dome → s.saf.checked = false → s.saf.st = 0 →
    ∃ t, exec .safReadyCheck s = .next t ∧ t.saf.checked = true ∧ t.saf.st = 1) ∧
  (∀ (obj : Nat) (s : State), s.saf.powered = true → s.saf.tested = true → s.saf.sealed = false → obj < 10 →
    3 ≤ s.saf.sealDiff.getD obj 0 → (∀ j, j < obj → s.saf.sealDiff.getD j 0 < 3) →
    ∃ t, exec (.safSealChange obj) s = .next t ∧ t.saf.sealed = true ∧ t.saf.fault = 256 * 17 + obj ∧
      ((s.saf.st = 2 ∨ s.saf.st = 3) → t.saf.st = 1)) ∧
  (∀ (n : Nat) (p : List Byte) (s : State),
    exec (.jasperFrameRx n p) s = .next (Foot.saf.finish s (s.begun.jspRx n p))) ∧
  (∀ (n : Nat) (s : State), s.saf.powered = true → s.saf.parOk = true → n < connN s.saf.par →
    connProd (connB s.saf.par n) = false → (s.conn n).st = 2 →
    (s.conn n).at_ + fabMs (u16 (connB s.saf.par n) 14) ≤ s.clk.now →
    exec (.jasperWatchdog n) s = .next (Foot.saf.finish s (s.begun.connFail n 4))) ∧
  (∀ (n : Nat) (s : State), s.saf.powered = true → s.saf.parOk = true → n < connN s.saf.par →
    connProd (connB s.saf.par n) = true → (s.conn n).next ≤ s.saf.ms →
    exec (.jasperProduce n) s = .next (Foot.saf.finish s
      ((s.begun.setConn n (fun k => { k with next := k.next + u16 (connB s.saf.par n) 16 })).jspSend n)))

/-- Chapters 16 and 17: the safety island's mailbox commands, accepted and with a payload the spec allows, answer OK or run on
with their own effect. -/
def Obligations.SafetyCommandsComplete : Prop :=
  (∀ (c : Cmd) (k : Nat) (s : State), Accepted fSAF 0x10 0 c k s → c.payload = [] → s.saf.st = 2 →
    AnswersOK .saf 0x1010 k c s (exec (.safStopReq c) s) (fun u p => p = [] ∧
      u = (s.entered fSAF 0x10 k c).setSaf (fun x => { x with host := true }))) ∧
  (∀ (c : Cmd) (k : Nat) (s : State), Accepted fSAF 0x11 1 c k s → c.payload = [] →
    AnswersOK .saf 0x1011 k c s (exec (.safReadParams c) s) (fun u p => u = s.entered fSAF 0x11 k c ∧
      p = s.saf.par ++ wBytes (w32 s.saf.par 1764))) ∧
  (∀ (c : Cmd) (k : Nat) (s : State), Accepted fSAF 0x12 1 c k s → c.payload = [] →
    AnswersOK .saf 0x1012 k c s (exec (.safFaultLog c) s) (fun u p => u = s.entered fSAF 0x12 k c ∧
      p = [byte (s.saf.log.take 16).length, 0#8, 0#8, 0#8] ++
        (s.saf.log.take 16).flatMap (fun e => leBytes 2 e.1 ++ [byte e.2.1, 0#8] ++ leBytes 4 e.2.2))) ∧
  (∀ (c : Cmd) (k : Nat) (s : State), Accepted fSAF 0x13 2 c k s → c.payload.length = 1768 → nbit s.saf.dip 0 = true →
    s.saf.st = 1 → s.safStill = true → u8 c.payload 2 ≤ 1 → u8 c.payload 2 ≠ b2n s.saf.parB →
    safSetOk s.saf.addr (u8 c.payload 2) c.payload = true →
    RunsOn .saf fSAF 0x1013 k c s (exec (.safParamWrite c) s) (fun u p => p = slice c.payload 4 4 ∧
      u.saf.setB = (if u8 c.payload 2 = 1 then c.payload else s.saf.setB) ∧
      u.saf.setA = (if u8 c.payload 2 = 1 then s.saf.setA else c.payload)))

/-- Chapter 18: the events of CAN and LIN complete with their own effect: time-outs, a frame sent or received, a bus error,
recovery from bus-off, a LIN slot and its response. -/
def Obligations.CanEventsComplete : Prop :=
  (∀ (i : Nat) (s : State), i < 64 → s.isRunning fCAN = true → s.bt (R.CAN_IMP_CFG (i / 4) (i % 4)) 31 = true →
    s.fd (R.CAN_IMP_TMO (i / 4) (i % 4)) 15 0 ≠ 0 → s.can.impOut.getD i false = false →
    s.tbPast (s.can.impAt.getD i 0) (tbMs (s.fd (R.CAN_IMP_TMO (i / 4) (i % 4)) 15 0)) = true →
    ∃ t, exec (.canImportTimeout i) s = .next t ∧ t.sig (0x140 + i) = 0#32 ∧ t.sigOk (0x140 + i) = false) ∧
  (∀ (n t0 : Nat) (s : State), n < 16 → (s.canCtl n).claimAt = some t0 → s.canClaim n = 1 → s.tbPast t0 (tbMs 250) = true →
    exec (.canClaimTimeout n) s = .next (Foot.can.finish s
      ((s.begun.setCtl n (fun k => { k with claimAt := none })).canClaimTo n 2 (s.canAddr n)))) ∧
  (∀ (n sof : Nat) (x : CanTx) (l : List CanTx) (s : State), n < 16 → s.bt (R.CAN_CTRL n) 1 = false → s.canState n = 1 →
    sortBy canBefore (s.canReady n sof) = x :: l →
    ∃ t, exec (.canTxComplete n sof 1) s = .next t ∧ t.rd (R.CAN_TX_FRAMES n) = s.rd (R.CAN_TX_FRAMES n) + 1#32) ∧
  (∀ (n dt dr lec : Nat) (s : State), n < 16 → (s.canState n = 1 ∨ s.canState n = 2 ∨ s.canState n = 4) →
    exec (.canBusError n dt dr lec) s = .next ((Foot.can.and [.saf] []).finish s
      ((((s.begun.inc (R.CAN_ERR_FRAMES n)).wf_ (R.CAN_STATUS n) 26 24 lec).setCtl n (fun k => { k with
        tec := k.tec + dt, rec_ := k.rec_ + dr })).canErrState n))) ∧
  (∀ (n : Nat) (s : State), n < 16 → s.canState n = 3 → s.bt (R.CAN_STATUS n) 3 = false → s.bt (R.CAN_CTRL n) 5 = false →
    s.tbPast (s.canCtl n).boffAt (tbMs (10 * s.fd (R.CAN_CTRL n) 13 6)) = true →
    exec (.canRecoveryStart n) s = .next (Foot.can.finish s (s.begun.canShow n 4))) ∧
  (∀ (n : Nat) (s : State), n < 16 → s.canState n = 4 →
    exec (.canRecoveryDone n) s = .next (Foot.can.finish s
      ((s.begun.setCtl n (fun k => { k with tec := 0, rec_ := 0 })).canShow n 1))) ∧
  (∀ (ini : Initiator) (n : Nat) (s : State), n < 16 → s.domainUp .ctl = true →
    (ini = .host → s.expert fCAN = true) →
    exec (.canCtrlRecoverWrite ini n) s = .next (Foot.can.finish s
      (((s.begun.reached ini Win.can.1).canRecover n).busDone ini))) ∧
  (∀ (n : Nat) (x : CanRx) (s : State), n < 16 → (s.canState n = 1 ∨ s.canState n = 2 ∨ s.canState n = 4) → x.fdf = false →
    ∃ t, exec (.canFrameRx n x) s = .next t ∧ t.rd (R.CAN_RX_FRAMES n) = s.rd (R.CAN_RX_FRAMES n) + 1#32) ∧
  (∀ (ini : Initiator) (n : Nat) (v : Word) (s : State), s.domainUp .ctl = true → (ini = .host → s.expert fCAN = true) →
    exec (.canTxqCtrlWrite ini n v) s = .next (Foot.can.finish s
      (((s.begun.reached ini Win.can.1).canTxqWrite n v).busDone ini))) ∧
  (∀ (k q : Nat) (s : State), k < 4 → k < s.can.lins.length → s.isRunning fCAN = true → s.bt (R.LIN_CFG k) 0 = true →
    (s.lin k).sleep = false → (s.lin k).on = true → (s.lin k).next ≤ s.clk.tb → (s.lin k).last = none → q < 32 →
    (∀ i, i < q → s.bt (R.LIN_SCHED k i) 31 = false) → s.bt (R.LIN_SCHED k q) 31 = true →
    ∃ t, exec (.linSlot k) s = .next t ∧ (t.lin k).last = some q ∧ t.rd (R.LIN_STATUS k) = word (1 + 16 * q)) ∧
  (∀ (k q h : Nat) (p : List Byte) (s : State), (s.lin k).entry = some (q, h) → s.bt (R.LIN_SCHED k q) 6 = false →
    p.length ≠ clampN 1 8 (s.fd (R.LIN_SCHED k q) 10 7) + 1 →
    exec (.linResponseRx k p) s = .next (Foot.can.finish s
      (((s.begun.setLin k (fun l => { l with entry := none })).inc (R.LIN_CHKERR k)).linError k q 1))) ∧
  (∀ (k q h : Nat) (p : List Byte) (s : State), (s.lin k).entry = some (q, h) → s.bt (R.LIN_SCHED k q) 6 = false →
    p.length = clampN 1 8 (s.fd (R.LIN_SCHED k q) 10 7) + 1 →
    p.getD (clampN 1 8 (s.fd (R.LIN_SCHED k q) 10 7)) 0#8 = linSum (linPid (s.fd (R.LIN_SCHED k q) 5 0))
      (linClassic (s.rd (R.LIN_SCHED k q))) (p.take (clampN 1 8 (s.fd (R.LIN_SCHED k q) 10 7))) →
    exec (.linResponseRx k p) s = .next (Foot.can.finish s
      (((s.begun.setLin k (fun l => { l with entry := none })).canImports (16 + k) (s.fd (R.LIN_SCHED k q) 5 0) false
        (p.take (clampN 1 8 (s.fd (R.LIN_SCHED k q) 10 7)))).canRing (16 + k) 0 (s.fd (R.LIN_SCHED k q) 5 0) s.clk.tb
        (p.take (clampN 1 8 (s.fd (R.LIN_SCHED k q) 10 7)))))) ∧
  (∀ (k q h : Nat) (s : State), (s.lin k).entry = some (q, h) → s.bt (R.LIN_SCHED k q) 6 = false →
    h + 14 * (clampN 1 8 (s.fd (R.LIN_SCHED k q) 10 7) + 1) * s.linBit k / 1024 ≤ s.clk.tb →
    exec (.linResponseTimeout k) s = .next (Foot.can.finish s
      (((s.begun.setLin k (fun l => { l with entry := none })).inc (R.LIN_NORESP k)).linError k q 0)))

/-- Chapter 18: the mailbox commands of CAN and LIN, accepted and with a payload the spec allows, answer OK with their own effect.
-/
def Obligations.CanCommandsComplete : Prop :=
  (∀ (c : Cmd) (k : Nat) (s u : State), Accepted fCAN 0x10 0 c k s → 8 ≤ c.payload.length →
    c.payload.length = 8 + u8 c.payload 2 → u8 c.payload 0 < 16 → nbit (u8 c.payload 1) 0 = false → u8 c.payload 2 ≤ 8 →
    (s.entered fCAN 0x10 k c).canEnqueue (u8 c.payload 0) (u32 c.payload 4 % 536870912) (nbit (u8 c.payload 1) 2) false
      (nbit (u8 c.payload 1) 1) (nbit (u8 c.payload 1) 3) (padTo (dlcBytes (bytesDlc (u8 c.payload 2)) false) (c.payload.drop 8))
      = (true, u) → AnswersOK .can 0x0E10 k c s (exec (.canSend c) s) (fun v p => p = [] ∧ v = u)) ∧
  (∀ (c : Cmd) (k n : Nat) (s : State), Accepted fCAN 0x11 0 c k s → c.payload.length = 2 → u8 c.payload 0 < 16 →
    4 ≤ u8 c.payload 1 → u8 c.payload 1 ≤ 10 → s.freeRing = some n → s.sramFits [u8 c.payload 1] = true →
    AnswersOK .can 0x0E11 k c s (exec (.canRingOpen c) s) (fun u p => p = [byte n] ∧
      (s.entered fCAN 0x11 k c).openRing k fCAN 0 (u8 c.payload 0) (u8 c.payload 1) false [] = .ok (n, u))) ∧
  (∀ (c : Cmd) (k : Nat) (s : State), Accepted fCAN 0x12 1 c k s → c.payload.length = 2 →
    AnswersOK .can 0x0E12 k c s (exec (.canRecover c) s) (fun u p => p = [] ∧
      u = (s.entered fCAN 0x12 k c).canMask c.payload (fun t n => t.canRecover n))) ∧
  (∀ (c : Cmd) (k : Nat) (s : State), Accepted fCAN 0x13 1 c k s → c.payload.length = 2 →
    AnswersOK .can 0x0E13 k c s (exec (.canSleep c) s) (fun u p => p = [] ∧
      u = (s.entered fCAN 0x13 k c).canMask c.payload (fun t n => t.canSleep n))) ∧
  (∀ (c : Cmd) (k : Nat) (s : State), Accepted fCAN 0x14 0 c k s → c.payload.length = 8 → u8 c.payload 0 < 64 →
    (List.range 64).all (fun m => !(s.bt (R.MER_CFG m) 0 && s.fd (R.MER_DEST m) 1 0 == 3 &&
      s.fd (R.MER_DEST m) 8 3 == u8 c.payload 0)) = true →
    AnswersOK .can 0x0E14 k c s (exec (.canExportSet c) s) (fun u p => p = [] ∧
      u = (s.entered fCAN 0x14 k c).wr (R.CAN_EXP_VAL (u8 c.payload 0 / 4) (u8 c.payload 0 % 4)) (w32 c.payload 4))) ∧
  (∀ (c : Cmd) (k : Nat) (s : State), Accepted fCAN 0x15 1 c k s → c.payload.length = 1 → u8 c.payload 0 < 4 →
    AnswersOK .can 0x0E15 k c s (exec (.linSleep c) s) (fun u p => p = [] ∧
      u.rd (R.LIN_STATUS (u8 c.payload 0)) = 2#32 ∧ u.out ≠ []))

/-- Chapter 19: the events of the Ethernet switch, of its time and of the serial ports complete with their own effect. -/
def Obligations.EthernetEventsComplete : Prop :=
  (∀ (k : Nat) (x : EthLink) (s : State), k < 13 → s.pwr.shed = false → s.pwr.overShed = false →
    exec (.ethLinkChange k x) s = .next (Foot.eth.finish s (s.begun.ethLinkSet k x.up x.asCap (x.speed % 4) (x.sqi % 8)))) ∧
  (∀ (ini : Initiator) (v : Word) (s : State), fld v 3 0 ≤ 12 → s.domainUp .fab = true →
    (ini = .host → s.expert fETH = true) →
    exec (.ethGclGoWrite ini v) s = .next (Foot.eth.finish s
      (((s.begun.reached ini Win.eth.1).gclGo (fld v 3 0)).busDone ini))) ∧
  (∀ (k t0 : Nat) (g : Gcl) (s : State), k < 13 → (s.ethPort k).sched = some (t0, g) → t0 ≤ s.clk.tb →
    exec (.ethGclSwitch k) s = .next (Foot.eth.finish s
      (((s.begun.setEthPort k (fun p => { p with
        oper := { g with base := t0 }, sched := none, gates := ({ g with base := t0 } : Gcl).mask s.clk.tb })).wb
          R.ETH_GCL_STATUS k false).ethDrain k))) ∧
  (∀ (k : Nat) (s : State), k < 13 →
    exec (.ethGateInterval k) s = .next (Foot.eth.finish s
      ((s.begun.setEthPort k (fun p => { p with gates := p.oper.mask s.clk.tb })).ethDrain k))) ∧
  (∀ (ini : Initiator) (v : Word) (s : State), s.domainUp .fab = true → (ini = .host → s.expert fETH = true) →
    exec (.ethGclDataAccess ini (some v)) s = .next (Foot.eth.finish s
      (((s.begun.reached ini Win.eth.1).gclWrite R.ETH_GCL_DATA v).gclNext.busDone ini))) ∧
  (∀ (ini : Initiator) (s : State), s.domainUp .fab = true →
    exec (.ethGclDataAccess ini none) s = .next (Foot.eth.finish s
      (s.begun.busData ini (s.gclRead R.ETH_GCL_DATA)).gclNext)) ∧
  (∀ (gm g : Nat) (s : State), s.gptp.last = none →
    ∃ t, exec (.ethPtpSync gm g) s = .next t ∧ t.gptp.last = some { gm := gm, g := g, tb := s.clk.tb } ∧
      t.rd64 R.ETH_PTP_GM_LO R.ETH_PTP_GM_HI = gm % 2 ^ 64) ∧
  (∀ (gm g : Nat) (a : GptpSync) (s : State), s.gptp.last = some a → a.gm = gm → s.gptp.synced = false →
    ∃ t, exec (.ethPtpSync gm g) s = .next t ∧ t.gptp.synced = true ∧ t.gptp.g = g ∧ t.gptp.tb = s.clk.tb ∧
      t.gptp.rate = gptpRate a { gm := gm, g := g, tb := s.clk.tb } ∧ t.bt R.ETH_TIME_STATUS 0 = true) ∧
  (∀ (a : GptpSync) (s : State), s.gptp.last = some a → s.gptp.synced = true → s.tbPast a.tb (3 * s.syncPeriod) = true →
    exec .ethSyncTimeout s = .next (Foot.eth.finish s (s.begun.ethUnsync 1))) ∧
  (∀ (s : State), bit (s.ethF R.ETH_PTP_CFG) 20 = true → s.fd R.ETH_TIME_CFG 1 0 = 1 → s.eth.fwd = true →
    s.tbPast s.eth.syncAt s.syncPeriod = true →
    ∃ t, exec (.ethSyncSend true) s = .next t ∧ t.bt R.ETH_TIME_STATUS 1 = true ∧ t.eth.syncAt = s.clk.tb) ∧
  (∀ (a b : GptpSync) (s : State), s.fd R.ETH_TIME_CFG 1 0 = 2 → s.tbPast s.gptp.servoAt 50000000 = true →
    s.gptp.synced = true → s.gptp.servoRef = some a → s.gptp.last = some b → a.tb < b.tb →
    ∃ t, exec .ethServoTrim s = .next t ∧ t.gptp.servoAt = s.clk.tb ∧ t.gptp.servoRef = some b ∧
      t.rd R.ETH_TRIM = iword (trimPpb s.regs +
        divFree (((b.g : Int) - (a.g : Int) - 20 * ((b.tb : Int) - (a.tb : Int))) * 1000000000)
          (20 * ((b.tb : Int) - (a.tb : Int))))) ∧
  (∀ (ini : Initiator) (s : State), s.domainUp .fab = true →
    exec (.ethPtpGLoRead ini) s = .next (Foot.eth.finish s (s.begun.busData ini (word s.gptp.g)).ptpLatch)) ∧
  (∀ (n : Nat) (x : SerRx) (s : State), n < 10 → s.bt (R.ETH_SER_CFG n) 0 = true → x.data ≠ [] →
    s.bt (R.ETH_SER_STATUS n) 0 = false →
    ∃ t, exec (.serFrameEnd n x) s = .next t ∧ t.rd (R.ETH_SER_FRAMES n) = s.rd (R.ETH_SER_FRAMES n) + 1#32) ∧
  (∀ (n t0 : Nat) (s : State), n < 10 → s.eth.serDue.getD n none = some t0 → t0 ≤ s.clk.tb →
    ∃ t, exec (.serTransmitDone n) s = .next t ∧ t.bt (R.ETH_SER_STATUS n) 0 = false ∧ t.eth.serDue.getD n none = none) ∧
  (∀ (u ma : Nat) (s : State), 1000 < ma →
    ∃ t, exec (.usbVbusOvercurrent u ma) s = .next t ∧ t.eth.vbus = updAt s.eth.vbus u (fun _ => false)) ∧
  (∀ (x : EthRx) (s : State), s.ethTakes x.port = true → x.fcs = false →
    ∃ t, exec (.ethFrameRx x) s = .next t ∧ t.rd R.ETH_FCS_ERR = s.rd R.ETH_FCS_ERR + 1#32 ∧
      t.rd (R.ETH_PORT_RX x.port) = s.rd (R.ETH_PORT_RX x.port) + 1#32) ∧
  (∀ (x : EthRx) (s : State), s.ethTakes x.port = true → x.fcs = true → x.len ≤ ethMax x →
    ((s.begun.inc (R.ETH_PORT_RX x.port)).ethPolice x ((s.begun.inc (R.ETH_PORT_RX x.port)).ethVlan x)).1 = true →
    exec (.ethFrameRx x) s = .next ((Foot.eth.and [.ast, .cam, .can, .saf] [.ast, .cam]).finish s
      (((s.begun.inc (R.ETH_PORT_RX x.port)).ethPolice x ((s.begun.inc (R.ETH_PORT_RX x.port)).ethVlan x)).2.ethSwitch x
        ((s.begun.inc (R.ETH_PORT_RX x.port)).ethVlan x)))) ∧
  (∀ (x : EthRx) (s : State), s.ethTakes x.port = true → x.fcs = true → ethMax x < x.len →
    exec (.ethFrameRx x) s = .next ((Foot.eth.and [.ast, .cam, .can, .saf] [.ast, .cam]).finish s
      (s.begun.inc (R.ETH_PORT_RX x.port)))) ∧
  (∀ s : State, s.eth.reload.isSome = true →
    ∃ t, exec .ethSwitchReload s = .next t ∧ t.eth.reload = none ∧ t.eth.fwd = true ∧ t.eth.ext = true)

/-- Chapter 19: the mailbox commands of the Ethernet switch and the serial ports, accepted and with a payload the spec allows,
answer OK with their own effect. -/
def Obligations.EthernetCommandsComplete : Prop :=
  (∀ (c : Cmd) (k : Nat) (s : State), Accepted fETH 0x10 0 c k s → c.payload = [] →
    AnswersOK .eth 0x0F10 k c s (exec (.ethTimeGet c) s) (fun u p => u = s.entered fETH 0x10 k c ∧
      p = leBytes 8 s.gptp.g ++ leBytes 8 s.gptp.tb ++ wBytes (iword s.gptp.rate) ++ wBytes (s.rd R.ETH_PTP_GM_LO) ++
        wBytes (s.rd R.ETH_PTP_GM_HI) ++ wBytes (iword (trimPpb s.regs)))) ∧
  (∀ (c : Cmd) (k : Nat) (s : State), Accepted fETH 0x11 1 c k s → 16 ≤ c.payload.length → u8 c.payload 0 ≤ 12 →
    1 ≤ u8 c.payload 1 → u8 c.payload 1 ≤ 64 → u8 c.payload 2 ≤ 1 → 500 ≤ u32 c.payload 12 → u32 c.payload 12 ≤ 50000000 →
    c.payload.length = 16 + 4 * u8 c.payload 1 →
    AnswersOK (Foot.eth.and [.prm] [.prm]) 0x0F11 k c s (exec (.ethGclSet c) s) (fun u p => p = [] ∧
      u = (((s.entered fETH 0x11 k c).setEthPort (u8 c.payload 0) (fun q => { q with pend := gclOf c.payload })).gclGo
        (u8 c.payload 0)).prmItem (256 * fETH + u8 c.payload 0) c.payload)) ∧
  (∀ (c : Cmd) (k : Nat) (s : State), Accepted fETH 0x12 1 c k s → c.payload.length = 4 → s.fd R.ETH_TIME_CFG 1 0 = 0 →
    AnswersOK .eth 0x0F12 k c s (exec (.ethTrimSet c) s) (fun u p => p = [] ∧
      u = (s.entered fETH 0x12 k c).setTrim (i32 c.payload 0))) ∧
  (∀ (c : Cmd) (k n : Nat) (s : State), Accepted fETH 0x13 0 c k s → c.payload.length = 2 → u8 c.payload 0 ≤ 9 →
    4 ≤ u8 c.payload 1 → u8 c.payload 1 ≤ 10 → s.freeRing = some n → s.sramFits [u8 c.payload 1] = true →
    AnswersOK .eth 0x0F13 k c s (exec (.ethSerOpen c) s) (fun u p => p = [byte n] ∧
      (s.entered fETH 0x13 k c).openRing k fETH 0 (u8 c.payload 0) (u8 c.payload 1) false [] = .ok (n, u))) ∧
  (∀ (c : Cmd) (k : Nat) (s : State), Accepted fETH 0x14 0 c k s → 4 ≤ c.payload.length → u8 c.payload 0 ≤ 9 →
    1 ≤ u16 c.payload 2 → u16 c.payload 2 ≤ 256 → c.payload.length = 4 + u16 c.payload 2 → s.isRunning fETH = true →
    s.bt (R.ETH_SER_CFG (u8 c.payload 0)) 0 = true → s.bt (R.ETH_SER_STATUS (u8 c.payload 0)) 0 = false →
    AnswersOK .eth 0x0F14 k c s (exec (.ethSerSend c) s) (fun u p => p = [] ∧
      u.out = (s.entered fETH 0x14 k c).out ++ [.bytes .ser (u8 c.payload 0) (c.payload.drop 4)] ∧
      u.bt (R.ETH_SER_STATUS (u8 c.payload 0)) 0 = true))

/-- Chapter 20: the events of the redundant pair complete with their own effect: beacons, the lease, the guard, ALIVE, the
time-outs, the pair link, the state copy and the confirmation of a handover; its mailbox commands, accepted and with a payload the
spec allows: SWAP waits for the handover, REVERT sets or clears the request. -/
def Obligations.PairComplete : Prop :=
  (∀ (can : Bool) (p : List Byte) (ack : Option Nat) (s : State),
    exec (.pairBeaconRx can p ack) s = .next ((Foot.pair.and [.adr, .can, .psw] [.adb, .adr, .psw]).finish s
      (s.begun.pairRx can p ack))) ∧
  (∀ s : State, s.pair.en = true → s.pair.canEn = true → s.pair.canNext ≤ s.clk.tb →
    exec .pairCanBeacon s = .next ((Foot.pair.and [.can] []).finish s
      ((s.begun.pairBeacon true).setPair (fun p => { p with canNext := s.clk.tb + tbMs 5 })))) ∧
  (∀ (l : Nat × Nat) (s : State), s.pair.lease = some l → l.1 ≤ s.clk.tb →
    exec .pairLeaseExpiry s = .next ((Foot.pair.and [.adr, .psw] [.adb, .adr, .psw]).finish s
      (((s.begun.setPair (fun p => { p with lease := none })).inc R.PAIR_LEASE_LAPSE).wb R.PAIR_STATUS 11 false).pairCheck.pairPath)) ∧
  (∀ s : State, s.pairFree = true → ∃ t, exec .pairGuardEnd s = .next t ∧ t.pair.guard = none) ∧
  (∀ (mv since st : Nat) (s : State), aliveAt mv = some st → st ≠ s.fd R.PAIR_STATUS 8 7 → s.tbPast since (tbMs 1) = true →
    exec (.pairAliveChange mv since) s = .next (Foot.pair.finish s
      ((s.begun.wf_ R.PAIR_STATUS 8 7 st).setPair (fun p => { p with
        deadAt := if st = 1 then some s.clk.tb else none,
        leftDead := if s.fd R.PAIR_STATUS 8 7 = 1 then some s.clk.tb else p.leftDead })).pairPath)) ∧
  (∀ (t0 : Nat) (s : State), s.pair.leftDead = some t0 → t0 + tbMs 20 ≤ s.clk.tb →
    ∃ t, exec .pairPeerDeadEnd s = .next t ∧ t.pair.leftDead = none) ∧
  (∀ s : State, s.pair.role = false → s.tbPast (max s.pair.readyAt (s.pair.hold.getD 0)) (tbMs 25) = true →
    exec .pairPartitionTimeout s = .next ((Foot.pair.and [.adr, .psw] [.adb, .adr, .psw]).finish s s.begun.pairCheck.pairPath)) ∧
  (∀ (t0 : Nat) (s : State), s.pair.deadAt = some t0 → s.tbPast t0 (tbMs 200) = true →
    exec .pairSoloTimeout s = .next ((Foot.pair.and [.adr, .psw] [.adb, .adr, .psw]).finish s s.begun.pairCheck.pairPath)) ∧
  (∀ s : State, s.pairLink = true →
    exec (.pairLinkChange false) s = .next (Foot.pair.finish s
      ((((s.begun.wb R.PAIR_STATUS 9 false).inc R.PAIR_LINK_DOWN).wb R.PAIR_STATUS 12 false).setPair
        (fun p => { p with healthyAt := none })).pairPath)) ∧
  (∀ (x : PairCopy) (s : State), s.pair.en = true → s.pair.acting = false → s.pairLink = true → x.ok = true →
    ∃ t, exec (.pairCopyRx x) s = .next t ∧ t.pair.copy = some x ∧ t.rd R.PAIR_COPY_SEQ = word x.cycle ∧
      t.rd R.PAIR_COPY_AGE = 0#32) ∧
  (∀ (x : PairCopy) (s : State), s.pair.en = true → s.pair.acting = false → s.pairLink = true → x.ok = false →
    exec (.pairCopyRx x) s = .next (Foot.pair.finish s (s.begun.inc R.PAIR_COPY_MISS))) ∧
  (∀ (t0 : Nat) (s : State), s.pair.offAt = some t0 → s.pair.swap = none → s.pair.handover ≠ 0 →
    exec (.pairGateConfirm true) s = .next ((Foot.pair.and [.can] []).finish s
      (((s.begun.setPair (fun p => { p with offAt := none, handover := 0, swap := none })).pairPut false
        ((s.begun.setPair (fun p => { p with offAt := none, handover := 0, swap := none })).pairFrame 3 50 0)).pairGuard
        250000))) ∧
  (∀ (t0 : Nat) (s : State), s.pair.healthyAt = some t0 → s.pair.en = true → s.pair.role = false →
    s.bt R.PAIR_STATUS 14 = true → s.fd R.PAIR_CFG 15 8 ≠ 0 → s.tbPast t0 (tbMs (1000 * s.fd R.PAIR_CFG 15 8)) = true →
    exec .pairRevertHoldExpiry s = .next (Foot.pair.finish s (s.begun.wb R.PAIR_STATUS 15 true))) ∧
  (∀ (c : Cmd) (k : Nat) (l : Nat × Nat) (s : State), Accepted fPAIR 0x10 1 c k s → c.payload = [] → s.pair.acting = true →
    s.pair.lease = some l → s.clk.tb < l.1 → s.pairLink = true → s.bt R.PAIR_STATUS 13 = true → s.pair.handover = 0 →
    exec (.pairSwap c) s = .next (Foot.pair.finish s
      (((s.entered fPAIR 0x10 k c).setPair (fun p => { p with handover := 4, swap := some (k, c) })).keep k c none))) ∧
  (∀ (c : Cmd) (k : Nat) (s : State), Accepted fPAIR 0x11 1 c k s → c.payload.length = 1 → u8 c.payload 0 ≤ 1 →
    AnswersOK .pair 0x1111 k c s (exec (.pairRevert c) s) (fun u p => p = [] ∧
      u = if u8 c.payload 0 = 0 then ((s.entered fPAIR 0x11 k c).wb R.PAIR_STATUS 14 false).wb R.PAIR_STATUS 15 false
        else (s.entered fPAIR 0x11 k c).wb R.PAIR_STATUS 14 true))

/-- Chapter 21: the events of the fleet domain complete with their own effect: handshakes, keys, heartbeats, operations, coverage,
corrections and rendezvous data; its mailbox commands, accepted and with a payload the spec allows, answer OK or run on with
theirs. Whether a certificate is an ECDSA P-256 one is left open, so FLT_CA_SET is stated for both cases. -/
def Obligations.FleetComplete : Prop :=
  (∀ (x : FltHs) (s : State), s.isRunning fFLT = true → x.child = true → x.ok = true → s.fltFlag 3 = true →
    (s.flt.kids.filter (fun k => k.unit != x.unit)).length < 16 →
    ∃ t, exec (.fltHandshake x) s = .next t ∧ t.flt.kids = s.flt.kids.filter (fun k => k.unit != x.unit) ++
      [{ unit := x.unit, ip := x.ip, port := x.port, keyAt := s.clk.tb }]) ∧
  (∀ (x : FltHs) (s : State), s.isRunning fFLT = true → x.child = false → x.ok = true → x.level < 4 →
    (s.flt.st = 1 ∨ s.flt.st = 3) → s.flt.retryAt = none →
    exec (.fltHandshake x) s = .next (Foot.flt.finish s ((s.begun.setFlt (fun f => { f with
      st := 2, level := x.level + 1, heard := s.clk.tb, keyAt := s.clk.tb })).fltLink))) ∧
  (∀ (x : FltHs) (s : State), s.isRunning fFLT = true → x.child = false → x.ok = false →
    (s.flt.st = 1 ∨ s.flt.st = 3) → s.flt.retryAt = none →
    exec (.fltHandshake x) s = .next (Foot.flt.finish s (s.begun.setFlt (fun f => { f with
      fails := min 65535 (f.fails + 1), retryAt := some (s.clk.tb + s.fltHop) })))) ∧
  (∀ (t0 : Nat) (s : State), s.flt.retryAt = some t0 → s.isRunning fFLT = true → s.tbReached t0 = true →
    exec .fltHandshakeRetry s = .next (Foot.flt.finish s (s.begun.fltConnect s.flt.st (s.flt.ep + 1)))) ∧
  (∀ s : State, s.isRunning fFLT = true → s.flt.st = 2 → s.tbPast s.flt.heard (3 * s.fltHop) = true →
    exec .fltParentLost s = .next (Foot.flt.finish s (s.begun.fltConnect 3 (s.flt.ep + 1)))) ∧
  (∀ (j : Nat) (s : State), s.isRunning fFLT = true → s.flt.st = 2 → s.tbPast s.flt.heard (3 * s.fltHop) = true →
    s.fltNextEp (s.flt.ep + 1) = some j →
    exec .fltParentLost s = .next (Foot.flt.finish s
      ((s.begun.setFlt (fun f => { f with st := 3, ep := j, retryAt := none })).fltLink))) ∧
  (∀ s : State, s.isRunning fFLT = true → s.flt.st = 2 → s.tbPast s.flt.keyAt (tbMs 86400000) = true → s.flt.kids = [] →
    exec .fltKeyUpdate s = .next (Foot.flt.finish s
      ((s.begun.fltSend .parent .keyUpdate).setFlt (fun f => { f with keyAt := s.clk.tb })))) ∧
  (∀ (k : FltChild) (s : State), s.isRunning fFLT = true → s.flt.st ≠ 2 → s.flt.kids = [k] →
    s.tbPast k.keyAt (tbMs 86400000) = true →
    exec .fltKeyUpdate s = .next (Foot.flt.finish s ((s.begun.fltSend (.child k.unit) .keyUpdate).setFlt (fun f => { f with
      kids := f.kids.map (fun y => if y.unit = k.unit then { y with keyAt := s.clk.tb } else y) })))) ∧
  (∀ s : State, s.isRunning fFLT = true → s.tbPast s.flt.hbAt s.fltHop = true →
    exec .fltHeartbeat s = .next (Foot.flt.finish s
      (((s.begun.setFlt (fun f => { f with hbAt := f.hbAt + s.fltHop })).fltUp .heartbeat).fltDown .parent .heartbeat))) ∧
  (∀ s : State, s.isRunning fFLT = true → s.tbPast s.flt.hbAt s.fltHop = true → s.pairHeld = false →
    exec .fltHeartbeat s = .next (Foot.flt.finish s { s.begun.setFlt (fun f => { f with hbAt := f.hbAt + s.fltHop }) with
      out := s.begun.out ++ (if s.flt.st = 2 then [OutMsg.fleet .parent s.fltUnit s.flt.epoch .heartbeat] else []) ++
        s.flt.kids.map (fun k => OutMsg.fleet (.child k.unit) s.fltUnit s.flt.epoch .heartbeat) })) ∧
  (∀ (h : FltHdr) (s : State),
    exec (.fltHeartbeatRx h) s = .next (({ Foot.flt with snaps := true } : Foot).finish s (s.begun.fltRx h (fun t => t)))) ∧
  (∀ (h : FltHdr) (op : FltOpHdr) (s : State),
    exec (.fltBroadcastRx h op) s = .next (({ Foot.flt with snaps := true } : Foot).finish s
      (s.begun.fltRx h (fun t => t.fltOp h op.num (.broadcast op) (fun t =>
        (t.fltOpNote 0 0 op.num).fltOpNote 0 1 op.num))))) ∧
  (∀ (h : FltHdr) (op : FltOpHdr) (tag : Nat) (s : State),
    exec (.fltBarrierRx h op tag true) s = .next (({ Foot.flt with snaps := true } : Foot).finish s
      (s.begun.fltRx h (fun t => t.fltOp h op.num (.barrier op tag true) (fun t =>
        (t.fltBegin 1 tag op).fltOwn (fun o => o.num == op.num) []))))) ∧
  (∀ (h : FltHdr) (op : FltOpHdr) (tag : Nat) (s : State),
    exec (.fltBarrierRx h op tag false) s = .next (({ Foot.flt with snaps := true } : Foot).finish s
      (s.begun.fltRx h (fun t => t.fltOp h op.num (.barrier op tag false) (fun t => t.fltBegin 1 tag op))))) ∧
  (∀ (h : FltHdr) (op : FltOpHdr) (reset : Bool) (s : State), s.isRunning fFLT = true → s.fltFrom h.peer = true →
    h.peer = .parent → s.flt.epoch ≤ h.epoch → s.flt.lastOp < op.num →
    ∃ t, exec (.fltMarkerRx h op reset) s = .next t ∧ t.flt.lastOp = op.num) ∧
  (∀ (h : FltHdr) (r : FltRep) (s : State), h.peer = .parent →
    exec (.fltReportRx h r) s = .next (({ Foot.flt with snaps := true } : Foot).finish s (s.begun.fltRx h (fun t => t)))) ∧
  (∀ (h : FltHdr) (r : FltRep) (u : Nat) (s : State), h.peer = .child u →
    exec (.fltReportRx h r) s = .next (({ Foot.flt with snaps := true } : Foot).finish s
      (s.begun.fltRx h (fun t => (t.setFlt (fun f => { f with ops := f.ops.map (fun o =>
        if o.num = r.num && o.kids.contains u then { o with
          kids := o.kids.erase u, counted := o.counted + r.counted, missing := o.missing + r.missing, recs := o.recs ++ r.recs }
        else o) })).fltSettle)))) ∧
  (∀ s : State,
    exec .fltReportDeadline s = .next (Foot.flt.finish s
      ((s.flt.ops.filter (fun o => s.tbReached o.due)).foldl (fun (t : State) o => t.fltReportNow o) s.begun))) ∧
  (∀ s : State, s.isRunning fFLT = true → s.fltFlag 0 = true → s.tbPast s.flt.covAt (tbMs (1000 * u8 s.fltCfg 6)) = true →
    s.flt.st ≠ 2 →
    ∃ t, exec .fltCoverageSend s = .next t ∧ t.flt.covAt = s.flt.covAt + tbMs (1000 * u8 s.fltCfg 6)) ∧
  (∀ s : State, s.isRunning fFLT = true → s.fltFlag 0 = true → s.tbPast s.flt.covAt (tbMs (1000 * u8 s.fltCfg 6)) = true →
    s.flt.st = 2 → s.pairHeld = false → s.ypl.field.isSome = true → s.flt.covSent.1 = s.fltCovered.1 →
    exec .fltCoverageSend s = .next (Foot.flt.finish s
      ((((s.fltCovered.2.filter (fun p => !s.flt.covSent.2.contains p)).map yplTile).eraseDups).foldl (fun (t : State) p =>
        t.fltUp (.coverage { field := s.fltCovered.1, tx := p.1, ty := p.2, bits := fltTileBits p s.fltCovered.2 }))
        (s.begun.setFlt (fun f => { f with covAt := f.covAt + tbMs (1000 * u8 s.fltCfg 6), covSent := s.fltCovered }))))) ∧
  (∀ (h : FltHdr) (x : FltTile) (s : State), h.peer ≠ .parent →
    exec (.fltCoverageRx h x) s = .next (({ Foot.flt.and [.ypl] [] with snaps := true } : Foot).finish s
      (s.begun.fltRx h (fun t => t.fltUp (.coverage x))))) ∧
  (∀ (h : FltHdr) (x : FltTile) (s : State), h.peer = .parent →
    exec (.fltCoverageRx h x) s = .next (({ Foot.flt.and [.ypl] [] with snaps := true } : Foot).finish s
      (s.begun.fltRx h (fun t =>
        if !(t.fltDown .parent (.coverage x)).fltFlag 0 ||
            ((t.fltDown .parent (.coverage x)).ypl.field.map (fun f => f.id)) != some x.field then t.fltDown .parent (.coverage x)
        else (t.fltDown .parent (.coverage x)).setYpl (fun y => { y with
          fleet := y.fleet ++ ((fltTileCells x).map (fun p => (x.field, p))).filter (fun e => !y.fleet.contains e) }))))) ∧
  (∀ (h : FltHdr) (p : List Byte) (s : State), h.peer ≠ .parent →
    exec (.fltRtcmRx h p) s = .next (({ Foot.flt.and [.pos] [.pos] with snaps := true } : Foot).finish s
      (s.begun.fltRx h (fun t => t)))) ∧
  (∀ (h : FltHdr) (p : List Byte) (s : State), h.peer = .parent →
    exec (.fltRtcmRx h p) s = .next (({ Foot.flt.and [.pos] [.pos] with snaps := true } : Foot).finish s
      (s.begun.fltRx h (fun t =>
        if (t.fltDown .parent (.rtcm p)).fltFlag 1 && (t.fltDown .parent (.rtcm p)).posOn &&
            nbit (t.fltDown .parent (.rtcm p)).pos.src 1 then ((t.fltDown .parent (.rtcm p)).posBytes 17 p).2.2
        else t.fltDown .parent (.rtcm p))))) ∧
  (∀ s : State, s.isRunning fFLT = true → s.fltFlag 2 = true → s.tbPast s.flt.rdvAt (tbMs (100 * u16 s.fltCfg 8)) = true →
    u8 s.fltCfg 3 = 0 →
    ∃ t, exec .fltRdvSend s = .next t ∧ t.flt.rdvAt = s.flt.rdvAt + tbMs (100 * u16 s.fltCfg 8)) ∧
  (∀ s : State, s.isRunning fFLT = true → s.fltFlag 2 = true → s.tbPast s.flt.rdvAt (tbMs (100 * u16 s.fltCfg 8)) = true →
    u8 s.fltCfg 3 ≠ 0 →
    exec .fltRdvSend s = .next (Foot.flt.finish s
      (((s.begun.setFlt (fun f => { f with rdvAt := f.rdvAt + tbMs (100 * u16 s.fltCfg 8) })).fltUp
        (.rdv (u8 s.fltCfg 3) s.fltRdv)).fltDown .parent (.rdv (u8 s.fltCfg 3) s.fltRdv)))) ∧
  (∀ (h : FltHdr) (g : Nat) (p : List Byte) (s : State),
    exec (.fltRdvRx h g p) s = .next (({ Foot.flt with snaps := true } : Foot).finish s
      (s.begun.fltRx h (fun t =>
        if ((if h.peer = .parent then t.fltDown h.peer (.rdv g p) else
            (t.fltDown h.peer (.rdv g p)).fltUp (.rdv g p)).fltFlag 2 && g != 0 && g == u8
            (if h.peer = .parent then t.fltDown h.peer (.rdv g p) else (t.fltDown h.peer (.rdv g p)).fltUp (.rdv g p)).fltCfg 3)
        then (List.range ((p.length + 63) / 64)).foldl (fun (t : State) i =>
            (t.offer fFLT 0 (fun _ => true) (fun _ => padTo 64 (slice p (64 * i) 64))).2)
          (if h.peer = .parent then t.fltDown h.peer (.rdv g p) else (t.fltDown h.peer (.rdv g p)).fltUp (.rdv g p))
        else if h.peer = .parent then t.fltDown h.peer (.rdv g p) else
          (t.fltDown h.peer (.rdv g p)).fltUp (.rdv g p))))) ∧
  (∀ (c : Cmd) (k : Nat) (s : State), Accepted fFLT 0x10 2 c k s → 1 ≤ c.payload.length → c.payload.length ≤ 1024 →
    (Config.certP256 c.payload = true →
      AnswersOK (Foot.flt.and [.prm] [.prm]) 0x1210 k c s (exec (.fltCaSet c) s) (fun u p => p = [] ∧
        u = (s.entered fFLT 0x10 k c).prmItem (256 * fFLT) c.payload)) ∧
    (Config.certP256 c.payload = false →
      exec (.fltCaSet c) s = .next ((Foot.flt.and [.prm] [.prm]).finish s
        ((s.entered fFLT 0x10 k c).answer k 0x1210 c stBAD_PARAM [])))) ∧
  (∀ (c : Cmd) (k : Nat) (s : State), Accepted fFLT 0x11 0 c k s → c.payload.length = 4 →
    s.flt.ops.any (fun o => o.kind == 1 && o.tag == u32 c.payload 0) = true →
    AnswersOK .flt 0x1211 k c s (exec (.fltArrive c) s) (fun u p => p = [] ∧
      u = (s.entered fFLT 0x11 k c).fltOwn (fun o => o.kind == 1 && o.tag == u32 c.payload 0) [])) ∧
  (∀ (c : Cmd) (k n : Nat) (s : State), Accepted fFLT 0x12 0 c k s → c.payload.length = 1 → 4 ≤ u8 c.payload 0 →
    u8 c.payload 0 ≤ 10 → s.freeRing = some n → s.sramFits [u8 c.payload 0] = true →
    AnswersOK .flt 0x1212 k c s (exec (.fltRdvOpen c) s) (fun u p => p = [byte n] ∧
      (s.entered fFLT 0x12 k c).openRing k fFLT 0 0 (u8 c.payload 0) false [] = .ok (n, u))) ∧
  (∀ (c : Cmd) (k : Nat) (f : YplField) (s : State), Accepted fFLT 0x13 0 c k s → c.payload.length = 4 →
    s.yplFind (u32 c.payload 0) = some f → s.ypl.field = none → s.fltAttached = false →
    RunsOn .flt fFLT 0x1213 k c s (exec (.fltTileUpload c) s) (fun _ p => p = leBytes 4 0)) ∧
  (∀ (c : Cmd) (k : Nat) (f : YplField) (s : State), Accepted fFLT 0x13 0 c k s → c.payload.length = 4 →
    s.yplFind (u32 c.payload 0) = some f → (s.ypl.field.map (fun g => g.id)) ≠ some (u32 c.payload 0) → s.fltAttached = true →
    RunsOn .flt fFLT 0x1213 k c s (exec (.fltTileUpload c) s) (fun u p =>
      p = leBytes 4 (f.cells.flatMap YplCell.bytes).length ∧ u.out = (s.entered fFLT 0x13 k c).out ++
        [OutMsg.fleet .parent s.fltUnit s.flt.epoch (.tiles (u32 c.payload 0) (f.cells.flatMap YplCell.bytes))])) ∧
  (∀ (c : Cmd) (k : Nat) (s : State), Accepted fFLT 0x14 0 c k s → c.payload = [] → s.fltAttached = false →
    RunsOn .flt fFLT 0x1214 k c s (exec (.fltSentryUpload c) s) (fun _ p => p = leBytes 4 0)) ∧
  (∀ (c : Cmd) (k : Nat) (s : State), Accepted fFLT 0x14 0 c k s → c.payload = [] → s.fltAttached = true →
    RunsOn .flt fFLT 0x1214 k c s (exec (.fltSentryUpload c) s) (fun u p => p = leBytes 4 s.sentryBytes.length ∧
      u.out = (s.entered fFLT 0x14 k c).out ++ [OutMsg.fleet .parent s.fltUnit s.flt.epoch (.sentry s.sentryBytes)]))

/-- Chapter 22: Almanac's events complete with their own effect: an event posted, its snapshot, block and commit, an erase, the
alarms, the end of a freeze; its mailbox commands, accepted and with a payload the spec allows, complete with theirs; POST answers
when its event is taken. -/
def Obligations.RecorderComplete : Prop :=
  (∀ s : State, s.tbPast s.almanac.tokenAt (tbMs 100) = true → (s.almanac.alarms = [] ∨ s.pairHeld = true) →
    ∃ t, exec .recAlarmToken s = .next t ∧ t.almanac.tokenAt = s.almanac.tokenAt + tbMs 100 ∧
      t.almanac.tokens = min 10 (s.almanac.tokens + 1)) ∧
  (∀ (e : Nat × Nat × List Byte) (s : State), s.tbPast s.almanac.tokenAt (tbMs 100) = true → s.pairHeld = false →
    s.almanac.alarms[alarmFirst s.almanac.alarms]? = some e →
    exec .recAlarmToken s = .next (Foot.shared.finish s ((s.begun.setRec (fun r => { r with
      tokenAt := r.tokenAt + tbMs 100, alarms := r.alarms.eraseIdx (alarmFirst s.almanac.alarms) })).alarmSend e.1 e.2.2))) ∧
  (∀ s : State, s.tbPast s.almanac.sumAt (tbMs 10000) = true →
    ∃ t, exec .recAlarmSummary s = .next t ∧ t.almanac.sumAt = s.almanac.sumAt + tbMs 10000 ∧
      t.almanac.sentSev = [0, 0, 0, 0] ∧ t.almanac.offered = false) ∧
  (∀ s : State, exec .recEventPost s = .next ((Foot.shared.and [.pnl] []).finish s s.begun.recTake)) ∧
  (∀ (i : Nat) (r : Record) (s : State), s.almanac.staging.findIdx? (fun r => r.snapTodo) = some i →
    s.almanac.staging[i]? = some r →
    ∃ t, exec .recSnapshotRead s = .next t ∧ (t.almanac.staging.getD i default).snapTodo = false ∧
      (t.almanac.staging.getD i default).words = (s.begun.recReads (s.recClass (r.code / 256))).1) ∧
  (∀ s : State, s.almanac.isOpen = true → s.tbPast s.almanac.openSince (tbMs 60000) = true →
    exec .recOpenTimeout s = .next (Foot.shared.finish s s.begun.recClose)) ∧
  (∀ (ok : Bool) (s : State), s.almanac.programming = true → s.recReady = true →
    exec (.recCommit ok) s = .next (Foot.shared.finish s (s.begun.recProgram ok))) ∧
  (∀ s : State, s.pwr.holdup = false →
    exec .recEraseDone s = .next (Foot.shared.finish s (s.begun.setRec (fun r => { r with erasing := none })).recShow)) ∧
  (∀ (k t0 : Nat) (s : State), (s.ses k).freezeAt = some t0 → s.tbPast t0 (50000000 * s.fd R.REC_CFG 13 4) = true →
    exec (.recFreezeTimeout k) s = .next (Foot.shared.finish s
      (s.begun.setSes k (fun x => { x with freezeAt := none })).recShow)) ∧
  (∀ (c : Cmd) (k n : Nat) (s : State), Accepted fREC 0x10 0 c k s → c.payload.length = 10 → 4 ≤ u8 c.payload 8 →
    u8 c.payload 8 ≤ 10 → s.freeRing = some n → s.sramFits [u8 c.payload 8] = true →
    AnswersOK .shared 0x1310 k c s (exec (.recRead c) s) (fun _ p => p = [byte n])) ∧
  (∀ (c : Cmd) (k : Nat) (s : State), Accepted fREC 0x11 1 c k s → c.payload.length = 1 → u8 c.payload 0 ≤ 1 →
    AnswersOK .shared 0x1311 k c s (exec (.recFreeze c) s) (fun u p => p = [] ∧
      u = ((s.entered fREC 0x11 k c).setSes k (fun x =>
        { x with freezeAt := if u8 c.payload 0 = 1 then some s.clk.tb else none })).recShow)) ∧
  (∀ (c : Cmd) (k : Nat) (s : State), Accepted fREC 0x12 1 c k s → c.payload = [] → s.recFrozen = false →
    RunsOn .shared fREC 0x1312 k c s (exec (.recFlush c) s) (fun u p => p = [] ∧ u.almanac.isOpen = false ∧
      u.almanac.flush = some (s.almanac.staging.map (fun x => x.seq), 0))) ∧
  (∀ (c : Cmd) (k : Nat) (s : State), Accepted fREC 0x13 0 c k s → 4 + 4 * u8 c.payload 3 ≤ c.payload.length →
    c.payload.length ≤ 36 → u16 c.payload 0 ≠ 0 → u8 c.payload 2 ≤ 2 → u8 c.payload 3 ≤ 8 → s.almanac.fifo.length < 64 →
    ∃ t, exec (.recPost c) s = .next t ∧ t.almanac.fifo = s.almanac.fifo ++ [{
      code := u16 c.payload 0, src := 128 + k, sev := u8 c.payload 2,
      words := (List.range (u8 c.payload 3)).map (fun i => w32 c.payload (4 + 4 * i)), tb := s.evTime,
      op := (s.rd R.SYS_OP_SECONDS).toNat, cyc := (s.rd R.SYS_PWR_CYCLES).toNat, reply := some (k, c) }]) ∧
  (∀ (c : Cmd) (k : Nat) (s : State), Accepted fREC 0x14 2 c k s → 4 + 4 * u8 c.payload 1 ≤ c.payload.length →
    c.payload.length ≤ 36 → u8 c.payload 1 ≤ 8 →
    ((List.range (u8 c.payload 1)).map (fun i => w32 c.payload (4 + 4 * i))).all recAddrOk = true →
    AnswersOK (Foot.shared.and [.prm] [.prm]) 0x1314 k c s (exec (.recClassSet c) s) (fun u p => p = [] ∧
      u = ((s.entered fREC 0x14 k c).setRec (fun r =>
        { r with classes := (u8 c.payload 0, (List.range (u8 c.payload 1)).map (fun i => w32 c.payload (4 + 4 * i))) ::
          r.classes.filter (fun e => e.1 != u8 c.payload 0) })).prmItem (256 * fREC + u8 c.payload 0)
            (((List.range (u8 c.payload 1)).map (fun i => w32 c.payload (4 + 4 * i))).flatMap wBytes))) ∧
  (∀ (c : Cmd) (k : Nat) (s : State), Accepted fREC 0x15 0 c k s → c.payload.length = 1 →
    AnswersOK .shared 0x1315 k c s (exec (.recClassGet c) s) (fun u p => u = s.entered fREC 0x15 k c ∧
      p = [byte (s.recClass (u8 c.payload 0)).length, 0#8, 0#8, 0#8] ++
        padTo 32 ((s.recClass (u8 c.payload 0)).flatMap wBytes))) ∧
  (∀ (c : Cmd) (k : Nat) (s : State), Accepted fREC 0x16 0 c k s → c.payload.length = 1 → u8 c.payload 0 < 24 →
    AnswersOK .shared 0x1316 k c s (exec (.recCatalogue c) s) (fun u p => u = s.entered fREC 0x16 k c ∧
      p = (Config.catalogue (u8 c.payload 0)).take 4096))

/-- Chapter 23: the status panel's events complete with their own effect: updates, lines, the crack check, blinking, its frame
buffer; its mailbox commands, accepted and with a payload the spec allows, answer OK or run on with theirs. -/
def Obligations.PanelComplete : Prop :=
  (∀ (ini : Initiator) (v : Word) (loop : Nat) (s : State), s.domainUp .fab = true → (ini = .host → s.expert fPNL = true) →
    exec (.pnlCmdUpdate ini v loop) s = .next (Foot.pnl.finish s
      (((s.begun.reached ini Win.pnl.1).pnlCmdWrite v loop).busDone ini))) ∧
  (∀ (loop : Nat) (s : State), s.pnl.want = true → s.pnl.urgent = true → s.expert fPNL = false → s.pnlMay = true →
    exec (.pnlAutoUpdate loop) s = .next (Foot.pnl.finish s
      ((s.begun.setPnl (fun p => { p with want := false, urgent := false, updAt := some s.clk.tb })).pnlRequest false
        loop).2.2)) ∧
  (∀ (r : PnlRun) (l : Nat) (rest : List Nat) (s : State), s.pnl.run = some r → r.lines = l :: rest → r.white = false →
    ∃ t, exec .pnlLineDone s = .next t ∧ t.pnl.glass = s.pnl.glass.put l (s.pnl.work.line l) ∧
      t.rd R.PNL_LINES = s.rd R.PNL_LINES + 1#32) ∧
  (∀ (loop : Nat) (s : State), s.pnl.blinkOn = true → (List.range 4).any (fun q => bit (s.pnlRect q).1 31) = true →
    s.bt R.PNL_CTRL 0 = true → s.pnlState ≠ 4 → s.tbPast s.pnl.crackAt 3000000000 = true →
    exec (.pnlCrackCheck loop) s = .next (Foot.pnl.finish s
      ((s.begun.setPnl (fun p => { p with crackAt := s.clk.tb })).pnlLoop loop).2)) ∧
  (∀ (q : Nat) (s : State), s.pnl.blinkOn = true → bit (s.pnlRect q).1 31 = true → s.pnlGoOn = true → s.pnlState ≠ 4 →
    s.pnl.run = none → s.pnl.wait = none → s.pnl.togs = [] → q < s.pnl.phase.length →
    s.tbPast (s.pnl.phase.getD q (true, 0)).2 (100000000 / max 1 (fld (s.pnlRect q).1 19 16)) = true →
    ∃ t, exec (.pnlBlinkToggle q) s = .next t ∧
      t.pnl.togs = [{ rect := q, toB := (s.pnl.phase.getD q (true, 0)).1, lines := rectLines (s.pnlRect q) }]) ∧
  (∀ (ini : Initiator) (v : Word) (s : State), s.domainUp .fab = true → (ini = .host → s.expert fPNL = true) →
    exec (.pnlFbDataAccess ini (some v)) s = .next (Foot.pnl.finish s
      (((s.begun.reached ini Win.pnl.1).pnlFbWrite v).pnlFbNext.busDone ini))) ∧
  (∀ (ini : Initiator) (s : State), s.domainUp .fab = true →
    exec (.pnlFbDataAccess ini none) s = .next (Foot.pnl.finish s (s.begun.busData ini s.pnlFbRead).pnlFbNext)) ∧
  (∀ (c : Cmd) (k : Nat) (s : State), Accepted fPNL 0x10 0 c k s → 4 + u8 c.payload 3 ≤ c.payload.length →
    c.payload.length ≤ 48 → 14 ≤ u8 c.payload 0 → u8 c.payload 0 ≤ 21 → 1 ≤ u8 c.payload 3 → u8 c.payload 3 ≤ 44 →
    u8 c.payload 1 + u8 c.payload 3 ≤ 50 →
    AnswersOK .pnl 0x1410 k c s (exec (.pnlText c) s) (fun u p => p = [] ∧
      u = ((s.entered fPNL 0x10 k c).setPnl (fun q => { q with
        a := if nbit (u8 c.payload 2) 0 then
            q.a.text (u8 c.payload 0) (u8 c.payload 1) (slice c.payload 4 (u8 c.payload 3)) else q.a,
        b := if nbit (u8 c.payload 2) 1 then
            q.b.text (u8 c.payload 0) (u8 c.payload 1) (slice c.payload 4 (u8 c.payload 3)) else q.b })).pnlWant false)) ∧
  (∀ (c : Cmd) (k : Nat) (s : State), Accepted fPNL 0x11 0 c k s → 168 ≤ u16 c.payload 0 →
    u16 c.payload 0 + u16 c.payload 2 ≤ 264 → c.payload.length = 8 + 50 * u16 c.payload 2 →
    AnswersOK .pnl 0x1411 k c s (exec (.pnlBitmap c) s) (fun u p => p = [] ∧
      u = ((s.entered fPNL 0x11 k c).setPnl (fun q => { q with
        a := if nbit (u8 c.payload 4) 0 then (List.range (u16 c.payload 2)).foldl (fun (m : PnlImg) i =>
          m.put (u16 c.payload 0 + i) (slice c.payload (8 + 50 * i) 50)) q.a else q.a,
        b := if nbit (u8 c.payload 4) 1 then (List.range (u16 c.payload 2)).foldl (fun (m : PnlImg) i =>
          m.put (u16 c.payload 0 + i) (slice c.payload (8 + 50 * i) 50)) q.b else q.b })).pnlWant false)) ∧
  (∀ (c : Cmd) (k : Nat) (t : State) (s : State), Accepted fPNL 0x12 0 c k s → c.payload.length = 9 → u8 c.payload 0 ≤ 3 →
    u8 c.payload 1 ≤ 1 → u8 c.payload 2 ≤ 49 → u8 c.payload 3 ≤ 49 → u16 c.payload 4 ≤ 299 → u16 c.payload 6 ≤ 299 →
    u8 c.payload 8 ≤ 8 →
    (s.entered fPNL 0x12 k c).pnlSetRect (u8 c.payload 0)
      (word (u8 c.payload 2 % 64 + 256 * (u8 c.payload 3 % 64) + 65536 * (u8 c.payload 8 % 16) +
        2147483648 * (u8 c.payload 1 % 2)), word (u16 c.payload 4 % 512 + 65536 * (u16 c.payload 6 % 512))) = some t →
    AnswersOK .pnl 0x1412 k c s (exec (.pnlBlink c) s) (fun u p => p = [] ∧ u = t)) ∧
  (∀ (c : Cmd) (k loop : Nat) (s : State), Accepted fPNL 0x13 0 c k s → c.payload.length = 1 → s.pnlState ≠ 4 →
    s.bt R.PNL_CTRL 0 = true → s.pnlMay = true → s.pnl.togs ≠ [] →
    RunsOn .pnl fPNL 0x1413 k c s (exec (.pnlUpdate c loop) s) (fun _ p =>
      p = leBytes 2 ((s.entered fPNL 0x13 k c).pnlRequest (nbit (u8 c.payload 0) 0) loop).2.1 ++
        [byte (b2n (((s.entered fPNL 0x13 k c).pnlRequest (nbit (u8 c.payload 0) 0) loop).2.1 == 600))])) ∧
  (∀ (c : Cmd) (k loop n : Nat) (s t : State), Accepted fPNL 0x13 0 c k s → c.payload.length = 1 → s.pnlState ≠ 4 →
    s.bt R.PNL_CTRL 0 = true → s.pnlMay = true → s.pnl.togs = [] → n ≠ 0 →
    (s.entered fPNL 0x13 k c).pnlBegin (nbit (u8 c.payload 0) 0) loop = (true, n, t) →
    RunsOn .pnl fPNL 0x1413 k c s (exec (.pnlUpdate c loop) s) (fun u p => p = leBytes 2 n ++ [byte (b2n (n == 600))] ∧
      u.pnl = t.pnl)) ∧
  (∀ (c : Cmd) (k loop : Nat) (s t : State), Accepted fPNL 0x13 0 c k s → c.payload.length = 1 → s.pnlState ≠ 4 →
    s.bt R.PNL_CTRL 0 = true → s.pnlMay = true → s.pnl.togs = [] →
    (s.entered fPNL 0x13 k c).pnlBegin (nbit (u8 c.payload 0) 0) loop = (true, 0, t) →
    AnswersOK .pnl 0x1413 k c s (exec (.pnlUpdate c loop) s) (fun u p => p = [0#8, 0#8, 0#8] ∧ u = t))

/-- Chapter 25: the commands of the parameter store complete with their own effect: a compaction, the calibration and the
configuration written out and read in, a system parameter. -/
def Obligations.ParameterCommandsComplete : Prop :=
  (∀ (t0 : Nat) (s : State), s.prm.compactAt = some t0 →
    ∃ t, exec .prmCompactionDone s = .next t ∧ t.prm.compactAt = none ∧ t.prm.bank = (!s.prm.bank) ∧
      t.prm.gen = s.prm.gen + 1 ∧ t.rd R.PRM_GEN = word (s.prm.gen + 1) ∧
      t.rd R.PRM_COMPACTS = s.rd R.PRM_COMPACTS + 1#32) ∧
  (∀ (c : Cmd) (k n : Nat) (s : State), Accepted fPRM 0x10 1 c k s → c.payload.length = 1 → 4 ≤ u8 c.payload 0 →
    u8 c.payload 0 ≤ 10 → s.freeRing = some n → s.sramFits [u8 c.payload 0] = true →
    AnswersOK .prm 0x1610 k c s (exec (.prmCalExport c) s) (fun u p => p = [byte n] ∧
      (s.entered fPRM 0x10 k c).openRing k fPRM 0 0 (u8 c.payload 0) true (exportSlots [s.prm.cal]) = .ok (n, u))) ∧
  (∀ (c : Cmd) (k : Nat) (s : State), Accepted fPRM 0x11 2 c k s → c.payload.length = 12360 → s.prm.importing = false → (s.dome = 2 ∨ s.dome = 4) →
    s.saf.st = 1 → leNat (slice c.payload 12288 8) = Config.serial.toNat →
    RunsOn .prm fPRM 0x1611 k c s (exec (.prmCalWrite c) s) (fun u p => p = [] ∧ u.prm.cal = [] ∧ u.prm.calBad = true)) ∧
  (∀ (c : Cmd) (k : Nat) (x : PrmStore) (s : State), Accepted fPRM 0x14 2 c k s → c.payload.length = 12 →
    s.prm.importing = false → s.prm.store.setSystem (u8 c.payload 0) (u32 c.payload 4) (u32 c.payload 8) = some x →
    AnswersOK .prm 0x1614 k c s (exec (.prmSet c) s) (fun u p => p = [] ∧
      u = (s.entered fPRM 0x14 k c).prmTxn (fun _ => x))) ∧
  (∀ (c : Cmd) (k n : Nat) (s : State), Accepted fPRM 0x12 1 c k s → c.payload.length = 1 → 4 ≤ u8 c.payload 0 →
    u8 c.payload 0 ≤ 10 → s.freeRing = some n → s.sramFits [u8 c.payload 0] = true →
    AnswersOK .prm 0x1612 k c s (exec (.prmConfigExport c) s) (fun u p => p = [byte n] ∧
      (s.entered fPRM 0x12 k c).openRing k fPRM 1 0 (u8 c.payload 0) true
        (exportSlots [s.prm.store.file (Config.fffLevel)]) = .ok (n, u))) ∧
  (∀ (c : Cmd) (k : Nat) (l : List PrmSect) (s : State), Accepted fPRM 0x13 2 c k s → s.prm.importing = false →
    (s.dome = 2 ∨ s.dome = 4) → prmOpen c.payload = some l → u16 c.payload 18 ≤ Config.fffLevel →
    (∀ e ∈ l, s.prmSectOk e = true) →
    RunsOn .prm fPRM 0x1613 k c s (exec (.prmConfigImport c) s) (fun u p => p = [0xFF#8, 0#8, 0#8, 0#8] ∧
      u.prm.importing = true))

/-- Chapter 24: the commands of the firmware update complete with their own effect, as does the expiry of its wait after key-off.
Whether a signature verifies is left open, so UPD_END is stated for a container that verifies and for one that does not. -/
def Obligations.UpdateCommandsComplete : Prop :=
  (∀ (c : Cmd) (k : Nat) (s : State), Accepted fUPD 0x10 2 c k s → c.payload.length = 76 → 0 < u32 c.payload 0 →
    u32 c.payload 0 ≤ 6291456 → s.updSafe = true → s.prm.store.svn ≤ u16 c.payload 10 →
    (s.dome = 2 ∨ s.dome = 3 ∨ s.dome = 4) →
    AnswersOK (Foot.upd.and [.adr, .psw, .saf] [.adb, .adr, .psw]) 0x1510 k c s (exec (.updBegin c) s) (fun u p =>
      u = (s.entered fUPD 0x10 k c).updStart k c.payload ∧ p = leBytes 4 0)) ∧
  (∀ (c : Cmd) (k fails : Nat) (s : State), Accepted fUPD 0x11 2 c k s → c.payload.length = 12 + u16 c.payload 4 →
    s.upd.owner = some k → s.upd.phase = 1 → s.updSafe = true → u32 c.payload 0 = s.upd.next → 4 ≤ u16 c.payload 4 →
    u16 c.payload 4 ≤ 4096 → u16 c.payload 4 % 4 = 0 → s.upd.next + u16 c.payload 4 ≤ s.upd.size →
    w32 c.payload 8 = crc32c (c.payload.drop 12) → fails < 2 →
    RunsOn .upd fUPD 0x1511 k c s (exec (.updBlock c fails) s) (fun u p =>
      p = leBytes 4 (s.upd.next + u16 c.payload 4) ∧ u.upd.marker = true ∧ u.upd.begun = true)) ∧
  (∀ (c : Cmd) (k : Nat) (x : UpdImage) (s : State), Accepted fUPD 0x12 2 c k s → c.payload = [] → s.upd.phase = 1 →
    s.upd.owner = some k → s.upd.next = s.upd.size → s.upd.stored = some x →
    (x.verify (Config.fffLevel) s.prm.store.svn = stOK →
      RunsOn .upd fUPD 0x1512 k c s (exec (.updEnd c) s) (fun _ p => p = slice x.data 12 4 ++ slice x.data 16 2 ++
        [byte (u16 x.data 6), byte (b2n (x.island != s.saf.image))])) ∧
    (x.verify (Config.fffLevel) s.prm.store.svn ≠ stOK →
      ∃ (u : State) (r : Running), exec (.updEnd c) s = .next (Foot.upd.finish s (u.keep k c none)) ∧ r ∈ u.mbx.running ∧ r.opcode = 0x1512 ∧
        r.cmd = c ∧ r.payload = [] ∧ r.status = x.verify (Config.fffLevel) s.prm.store.svn)) ∧
  (∀ (c : Cmd) (k : Nat) (s : State), Accepted fUPD 0x13 2 c k s → c.payload = [] → s.upd.phase = 2 →
    AnswersOK (Foot.upd.and [.can, .pwr] [.can]) 0x1513 k c s (exec (.updActivate c) s) (fun u p => p = [] ∧
      u.pwr.resetDue = some (s.clk.now + fabMs 10))) ∧
  (∀ (c : Cmd) (k : Nat) (s : State), Accepted fUPD 0x14 2 c k s → c.payload = [] → s.upd.phase = 1 → s.upd.begun = false →
    s.upd.owner = some k → s.dome ≠ 5 →
    AnswersOK (Foot.upd.and [.adr, .psw, .saf] [.adb, .adr, .psw, .sys]) 0x1514 k c s (exec (.updAbort c) s) (fun u p => p = [] ∧
      u = ((s.entered fUPD 0x14 k c).setUpd (fun u => { u with phase := 0, owner := none })).updNote)) ∧
  (∀ (c : Cmd) (k : Nat) (s : State), Accepted fUPD 0x14 2 c k s → c.payload = [] → s.upd.phase = 1 → s.upd.begun = false →
    s.upd.owner = some k → s.dome = 5 →
    AnswersOK (Foot.upd.and [.adr, .psw, .saf] [.adb, .adr, .psw, .sys]) 0x1514 k c s (exec (.updAbort c) s) (fun u p => p = [] ∧
      u = ((((s.entered fUPD 0x14 k c).setUpd (fun u => { u with phase := 0, owner := none })).domeSet
        s.pwr.held).domeRefresh).updNote)) ∧
  (∀ s : State, s.dome = 5 → s.pwr.keyOff = .delay → s.tbPast s.upd.lastCmd (tbMs 300000) = true →
    ∃ t, exec .updKeyoffWaitExpiry s = .next t ∧ t.upd.keyGo = true)

/-- R18: host software writes only signal entries 0x180 to 0x1BF; a write to any other entry is discarded and counted, but one to
a reserved entry 0x1E0 to 0x1FF is not, and these read as zero. That the reserved entries among those of SYS count too is the model's
choice (log entry 118). -/
def Obligations.HostSignalWrites : Prop :=
  (∀ (n : Nat) (v : Word) (s : State), n < 512 → s.domainUp .fab = true →
    ∃ t, exec (.fabSigHostWrite n v) s = .next t ∧
      (∀ k, k < 512 → t.sig k = if k = n ∧ 0x180 ≤ n ∧ n < 0x1C0 then v else s.sig k) ∧
      t.rd R.FAB_SIG_WR_ERR = if n < 0x180 ∨ (0x1C0 ≤ n ∧ n < 0x1E0) then s.rd R.FAB_SIG_WR_ERR + 1#32 else s.rd R.FAB_SIG_WR_ERR) ∧
  (∀ (ini : Initiator) (k : Nat) (s : State), 0x1E0 ≤ k → k < 0x200 → s.domainUp .fab = true → s.busRead ini (R.FAB_SIG k) = some 0#32)

/-- R24: no command moves TB but a reset, which restarts it at zero, as it stands when the PLL locks; with no command TB gains at
most one unit in a CLK_FAB period, at the rate its trim sets, the trim lying in the range of TRIM_SEL; every device-level reset
leaves TB at zero. -/
def Obligations.TimebaseNeverRunsBack : Prop :=
  (∀ (i : Instr) (s t : State), exec i s = .next t → t.clk.tb = s.clk.tb ∨ t.clk = s.clk.stop ∨
    (i = .pllLock ∧ s.clk.running = false ∧ t.clk.tb = 0)) ∧
  (∀ s : State, s.clk.Ok → s.clk.running = true → s.clk.lost = false →
    s.clk.tb ≤ s.idle.clk.tb ∧ s.idle.clk.tb ≤ s.clk.tb + 1 ∧
      (8000000000 * s.idle.clk.tb + s.idle.clk.tbFrac : Int) =
        8000000000 * s.clk.tb + s.clk.tbFrac + 2 * (1000000000 + trimPpb s.regs)) ∧
  (∀ r : Regs, (fld (r.get R.SYS_CLK_CFG) 1 0 = 0 → -2000 ≤ trimPpb r ∧ trimPpb r ≤ 2000) ∧
    (fld (r.get R.SYS_CLK_CFG) 1 0 = 1 → -10000 ≤ trimPpb r ∧ trimPpb r ≤ 10000) ∧
    (fld (r.get R.SYS_CLK_CFG) 1 0 = 2 → -100000 ≤ trimPpb r ∧ trimPpb r ≤ 100000)) ∧
  (∀ (k : Nat) (s : State), s.clk.Ok → (s.deviceReset k).clk.running = false ∧ (s.deviceReset k).clk.tb = 0) ∧
  (∀ (s t : State), s.clk.Ok → exec .powerOnReset s = .next t → t.clk.tb = 0 ∧ t.clk.running = false)

/-- R26: a read of `TB_NOW_LO` or `TB_TICK_COUNT_LO` gives the low half and latches the rest for its initiator alone; reads of the
latched registers give that initiator's latches. -/
def Obligations.TimebaseLatches : Prop :=
  (∀ (ini o : Initiator) (s : State), o ≠ ini → s.domainUp .fab = true →
    ∃ t, exec (.tbNowLoRead ini) s = .next t ∧ t.bus ini = .data (word s.clk.tb) ∧
      t.busRead ini R.TB_NOW_HI = some (word (s.clk.tb / 4294967296)) ∧
      t.latches ini = { s.latches ini with nowHi := word (s.clk.tb / 4294967296) } ∧ t.latches o = s.latches o) ∧
  (∀ (ini o : Initiator) (s : State), o ≠ ini → s.domainUp .fab = true →
    ∃ t, exec (.tbTickCountLoRead ini) s = .next t ∧ t.bus ini = .data (word s.clk.tickCount) ∧
      t.busRead ini R.TB_TICK_COUNT_HI = some (word (s.clk.tickCount / 4294967296)) ∧
      t.busRead ini R.TB_TICK_STAMP_LO = some (word s.clk.tickStamp) ∧
      t.busRead ini R.TB_TICK_STAMP_HI = some (word (s.clk.tickStamp / 4294967296)) ∧
      (t.latches ini).nowHi = (s.latches ini).nowHi ∧ t.latches o = s.latches o) ∧
  (∀ (ini : Initiator) (s : State), s.domainUp .fab = true →
    s.busRead ini R.TB_NOW_HI = some (s.latches ini).nowHi ∧ s.busRead ini R.TB_TICK_COUNT_HI = some (s.latches ini).countHi ∧
      s.busRead ini R.TB_TICK_STAMP_LO = some (s.latches ini).stampLo ∧
      s.busRead ini R.TB_TICK_STAMP_HI = some (s.latches ini).stampHi)

/-- R75: the alias word of bit `b` of the register at offset `o` of the range 0xE000_0000 to 0xE00F_FFFF lies at 0xE200_0000 +
32·o + 4·b and reads as that bit; where a read of that register is a bus error, so is the alias read; the region ends at
0xE3FF_FFFF, and an alias access outside it, or off its words, is a bus error. -/
def Obligations.BitAliasAddresses : Prop :=
  (∀ (ini : Initiator) (o b : Nat) (w : Word) (s : State), o < 0x100000 → o % 4 = 0 → b < 32 →
    s.busRead ini (0xE0000000 + o) = some w →
    ∃ t, exec (.bitAliasAccess ini (0xE2000000 + 32 * o + 4 * b) none) s = .next t ∧ t.bus ini = .data (word (b2n (bit w b))) ∧
      ∀ a, t.rd a = s.rd a) ∧
  (∀ (ini : Initiator) (o b : Nat) (s : State), o < 0x100000 → o % 4 = 0 → b < 32 → s.busRead ini (0xE0000000 + o) = none →
    ∃ t, exec (.bitAliasAccess ini (0xE2000000 + 32 * o + 4 * b) none) s = .next t ∧ t.bus ini = .error) ∧
  (∀ (ini : Initiator) (a : Nat) (w : Option Word) (s : State), (a < 0xE2000000 ∨ 0xE3FFFFFF < a ∨ a % 4 ≠ 0) →
    ∃ t, exec (.bitAliasAccess ini a w) s = .next t ∧ t.bus ini = .error ∧
      ∀ x, t.rd x = if x = R.FAB_DECODE_ERR then s.rd x + 1#32 else s.rd x)

/-- R11: a mailbox command to a reserved function ID is answered BAD_OPCODE and does nothing else. -/
def Obligations.ReservedFunctions : Prop :=
  ∀ (f : Nat) (c : Cmd) (k loop : Nat) (s : State), 0x18 ≤ f → f < 0x100 → 2 ≤ s.dome →
    (∀ b, b < 256 → s.turn (256 * f + b) c = true) → s.sessionOf c = some k →
    (∀ e ∈ (s.ses k).kept, e.seq ≠ c.seq) → (s.ses k).isOpen = true →
    exec (.getInfo f c) s = .next (Foot.upd.finish s ((s.entered f 0x00 k c).answer k (256 * f) c stBAD_OPCODE [])) ∧
    exec (.getStatus f c) s = .next (Foot.upd.finish s ((s.entered f 0x01 k c).answer k (256 * f + 0x01) c stBAD_OPCODE [])) ∧
    exec (.configure f c) s = .next (Foot.upd.finish s ((s.entered f 0x02 k c).answer k (256 * f + 0x02) c stBAD_OPCODE [])) ∧
    exec (.apply f c) s = .next (s.settle ((s.entered f 0x03 k c).answer k (256 * f + 0x03) c stBAD_OPCODE [])) ∧
    exec (.start f c) s = .next (s.settle ((s.entered f 0x04 k c).answer k (256 * f + 0x04) c stBAD_OPCODE [])) ∧
    exec (.stop f c) s = .next (s.settle ((s.entered f 0x05 k c).answer k (256 * f + 0x05) c stBAD_OPCODE [])) ∧
    exec (.reinit f c loop) s = .next (s.settle ((s.entered f 0x0E k c).answer k (256 * f + 0x0E) c stBAD_OPCODE [])) ∧
    exec (.setExpert f c loop) s = .next (s.settle ((s.entered f 0x0F k c).answer k (256 * f + 0x0F) c stBAD_OPCODE []))

/-- R51: while a class C command of a function runs, its other commands, here those common to all functions, are answered BUSY and
do nothing else, whatever the session; GET_INFO and GET_STATUS are answered as ever. The order of the refusals is the model's (log
entry 7): the session has the role, and no earlier refusal applies. -/
def Obligations.ClassCBusy : Prop :=
  ∀ (f : Nat) (c : Cmd) (k loop : Nat) (s : State), f < 0x18 → f ≠ 0 → f ≠ 1 → 2 ≤ s.dome → s.dome ≤ 3 →
    (∀ b, b < 256 → s.turn (256 * f + b) c = true) → s.sessionOf c = some k →
    (∀ e ∈ (s.ses k).kept, e.seq ≠ c.seq) → (s.ses k).isOpen = true → s.busy f = true → (s.fn f).state ≠ .unused →
    s.pairHeld = false → (s.fn f).owner = none →
    (1 ≤ (s.ses k).role →
      exec (.configure f c) s = .next (Foot.upd.finish s ((s.entered f 0x02 k c).answer k (256 * f + 0x02) c stBUSY [])) ∧
      exec (.apply f c) s = .next (s.settle ((s.entered f 0x03 k c).answer k (256 * f + 0x03) c stBUSY [])) ∧
      exec (.reinit f c loop) s = .next (s.settle ((s.entered f 0x0E k c).answer k (256 * f + 0x0E) c stBUSY []))) ∧
    exec (.start f c) s = .next (s.settle ((s.entered f 0x04 k c).answer k (256 * f + 0x04) c stBUSY [])) ∧
    exec (.stop f c) s = .next (s.settle ((s.entered f 0x05 k c).answer k (256 * f + 0x05) c stBUSY [])) ∧
    (2 ≤ (s.ses k).role →
      exec (.setExpert f c loop) s = .next (s.settle ((s.entered f 0x0F k c).answer k (256 * f + 0x0F) c stBUSY []))) ∧
    (c.payload = [] →
      exec (.getInfo f c) s = .next (Foot.upd.finish s
        ((s.entered f 0x00 k c).answer k (256 * f) c stOK ((s.entered f 0x00 k c).infoBytes f))) ∧
      exec (.getStatus f c) s = .next (Foot.upd.finish s
        ((s.entered f 0x01 k c).answer k (256 * f + 0x01) c stOK
          ((s.entered f 0x01 k c).commonStatus f ++ (s.entered f 0x01 k c).fnStatus f k))))

/-- R509: UPD_ABORT of the session that began the update ends it before the first block, and Dome returns to the state it held
before UPD_BEGIN; after the first block it is answered WRONG_STATE and does nothing else. -/
def Obligations.UpdateAbort : Prop :=
  (∀ (c : Cmd) (k : Nat) (s : State), Accepted fUPD 0x14 2 c k s → c.payload = [] → s.upd.phase = 1 → s.upd.begun = false →
    s.upd.owner = some k → s.dome = 5 →
    AnswersOK (Foot.upd.and [.adr, .psw, .saf] [.adb, .adr, .psw, .sys]) 0x1514 k c s (exec (.updAbort c) s) (fun u p => p = [] ∧
      u = ((((s.entered fUPD 0x14 k c).setUpd (fun u => { u with phase := 0, owner := none })).domeSet s.pwr.held).domeRefresh).updNote)) ∧
  (∀ (c : Cmd) (k : Nat) (s : State), Accepted fUPD 0x14 2 c k s → c.payload = [] → s.upd.begun = true →
    exec (.updAbort c) s = .next ((Foot.upd.and [.adr, .psw, .saf] [.adb, .adr, .psw, .sys]).finish s
      ((s.entered fUPD 0x14 k c).answer k 0x1514 c stWRONG_STATE [])))

/-- R105: a device reset or power cycle whose time falls within a hold-up waits; it is performed where the hold-up recovers, and
dropped where a BOR follows. -/
def Obligations.HoldupDefersResets : Prop :=
  (∀ s : State, s.pwr.holdup = true →
    exec .deviceReset s = .next (s.resettle s.begun) ∧ exec .pwrHoldRelease s = .next (s.resettle s.begun)) ∧
  (∀ (f r d : Nat) (s : State), s.pwr.fellAt = some f → s.pwr.confAt = some r → s.pwr.holdup = true → s.pwr.vbatOk = true →
    r + fabMs 1 ≤ s.clk.now → holdupGood f r = true → s.pwr.coreOn = true → s.clk.running = true → s.pwr.cycleDue = none →
    s.pwr.resetDue = some d → d ≤ s.clk.now →
    ∃ t, exec .holdupRecovered s = .next t ∧ t.pwr.holdup = false ∧ t.pwr.resetDue = none ∧ t.clk = s.clk.stop ∧
      t.bt R.SYS_RESET_CAUSE 4 = true ∧ t.fd R.SYS_RESET_CAUSE 18 16 = 4) ∧
  (∀ (f r d : Nat) (s : State), s.pwr.fellAt = some f → s.pwr.confAt = some r → s.pwr.holdup = true → s.pwr.vbatOk = true →
    r + fabMs 1 ≤ s.clk.now → holdupGood f r = true → s.pwr.cycleDue = some d → d ≤ s.clk.now →
    ∃ t, exec .holdupRecovered s = .next t ∧ t.pwr.holdup = false ∧ t.pwr.cycleDue = none ∧ t.pwr.coreOn = false ∧ t.clk = s.clk.stop) ∧
  (∀ (f : Nat) (s : State), s.pwr.fellAt = some f → s.pwr.holdup = true → f + fabMs 30 ≤ s.clk.now →
    (∀ r, s.pwr.confAt = some r → holdupGood f r = false) →
    ∃ t, exec .holdupExpiry s = .next t ∧ t.pwr.holdup = false ∧ t.pwr.resetDue = none ∧ t.pwr.cycleDue = none ∧ t.clk = s.clk.stop)

/-- R88: a shadow write of group `g` sets bit `g` of `FAB_UG_PEND`, the group's strobe clears it; an FNRST discards the pending
shadow values of the function's class F registers, a device-level reset all of them. -/
def Obligations.PendingShadows : Prop :=
  (∀ (a g : Nat) (v : Word) (s : State), g < 16 →
    (s.shadowWr a g v).bt R.FAB_UG_PEND g = true ∧ (s.shadowWr a g v).shadowRd a = v &&& maskAt a ∧
      ∀ h, h < 16 → h ≠ g → (s.shadowWr a g v).bt R.FAB_UG_PEND h = s.bt R.FAB_UG_PEND h) ∧
  (∀ (g : Nat) (s : State), g < 16 → (s.applyShadow g).bt R.FAB_UG_PEND g = false ∧
      (∀ e ∈ (s.applyShadow g).shadow, ugAt e.1 ≠ g) ∧
      (∀ h, h < 16 → h ≠ g → (s.applyShadow g).bt R.FAB_UG_PEND h = s.bt R.FAB_UG_PEND h)) ∧
  (∀ (f : Nat) (s : State), (s.fnDrop f).shadow = s.shadow.filter (fun e => !fnClassF f e.1)) ∧
  (∀ (k : Nat) (s : State), (s.deviceReset k).shadow = [])

/-- R391: a fault of the island itself puts it in LOCK, with every line removed and every safe output off; there a press of a
RESET input is discarded, and no command of a footprint, nor a reset that leaves the island running, takes it out. POR and BOR
start it again. -/
def Obligations.IslandLock : Prop :=
  (∀ (c : Nat) (s : State), s.saf.st ≠ 4 →
    (s.safEnter 4 c).saf.st = 4 ∧ (s.safEnter 4 c).saf.lines = 0 ∧ (s.safEnter 4 c).saf.cause = c ∧
      ∀ n, n < 4 → ((s.safEnter 4 c).so n).on = false) ∧
  (∀ (x : SafIn) (s : State), s.saf.powered = true → s.saf.st ≠ 4 → s.saf.cycleAt + fabMs 1 ≤ s.clk.now → x.own = true →
    ∃ t, exec (.safCycle x) s = .next t ∧ t.saf.st = 4 ∧ t.saf.lines = 0) ∧
  (∀ (i : Instr) (F : Foot) (s t : State), foot i = some F → s.saf.st = 4 → exec i s = .next t → t.saf.st = 4) ∧
  (∀ (i : Nat) (d : Nat) (s : State), s.saf.st = 4 → s.saf.press.lookup i = some d → 100 ≤ d → d ≤ 2000 →
    ∃ t, exec (.safResetInput i) s = .next t ∧ t.saf.st = 4 ∧ t.saf.lines = s.saf.lines) ∧
  (∀ (k : Nat) (s : State), 2 ≤ k → s.saf.st = 4 → (s.deviceReset k).saf.st = 4) ∧
  (∀ (k : Nat) (s : State), k ≤ 1 → s.clk.running = true → (s.deviceReset k).saf.st = 0)

/-- R65, R84, R91: a host write to a register of a function that is in BASIC is discarded and counted in `MBX_OWN_ERR`; a write to
a register of a closed lock class is discarded and counted in `FAB_LOCK_ERR`. -/
def Obligations.ProtectedWrites : Prop :=
  (∀ (a x f : Nat) (b : Block) (r : RegRow) (v : BitVec 64) (s : State), a % 4 = 0 → a < 0xE2000000 → companionOf a = none →
    decodeAddr a = .reg b x r → s.domainUp (regDomain b x) = true → s.guardOf .host b.base = none → b.fn = some f →
    s.expert f = false → arrIdx x (R.FAB_SIG 0) 4 512 = none → (x < R.FAB_UG_CFG 0 ∨ R.FAB_UG_CFG 16 ≤ x) →
    exec (.registerWrite .host a 32 v) s = .next (s.settle ((s.begun.inc R.MBX_OWN_ERR).busDone .host))) ∧
  (∀ (a x : Nat) (b : Block) (r : RegRow) (v : BitVec 64) (s : State), a % 4 = 0 → a < 0xE2000000 → companionOf a = none →
    decodeAddr a = .reg b x r → s.domainUp (regDomain b x) = true → s.guardOf .dome b.base = none → r.guard = false →
    r.lock < 6 → s.bt R.SYS_BOOTLOCK r.lock = true →
    exec (.registerWrite .dome a 32 v) s = .next (s.settle ((s.begun.inc R.FAB_LOCK_ERR).busDone .dome)))

/-- R115 to R117: after a POR the registers outside SYS, PWR, REC, PRM and the drive's and switches' windows that are not kept in
non-volatile memory read their Reset values; SYS_RESET_CAUSE and LAST name the reset; sessions, queued shadow values and TB start
anew. -/
def Obligations.PowerOnContents : Prop :=
  ∀ s : State, s.clk.running = true →
    ∃ t, exec .powerOnReset s = .next t ∧ t.power = 3 ∧ t.dome = 0 ∧ t.bt R.SYS_RESET_CAUSE 0 = true ∧ t.fd R.SYS_RESET_CAUSE 18 16 = 0 ∧
      t.shadow = [] ∧ t.mbx.running = [] ∧ (∀ k, (t.ses k).isOpen = false) ∧ (∀ f, (t.fn f).state = .stopped) ∧ t.clk.tb = 0 ∧
      ∀ a, retAt a ≠ .p → Foot.shared.holds a = false →
        ([Win.sys, Win.pwr, Win.prm, Win.adr, Win.adb, Win.psw, Win.saf] : List Win).all (fun w => !w.has a) = true → t.rd a = regReset a

/-- R116: a reset that comes alone sets its cause bit, keeps the others, and is the one LAST names. -/
def Obligations.ResetCauses : Prop :=
  (∀ (us : Nat) (s : State), s.pwr.coreOn = true → s.clk.running = true → s.bt R.SYS_WDOG_CFG 16 = true → 1000 ≤ us →
    ∃ t, exec (.pinReset us) s = .next t ∧ t.bt R.SYS_RESET_CAUSE 2 = true ∧ t.fd R.SYS_RESET_CAUSE 18 16 = 2 ∧
      ∀ b, b < 16 → b ≠ 2 → t.bt R.SYS_RESET_CAUSE b = s.bt R.SYS_RESET_CAUSE b) ∧
  (∀ s : State, s.pwr.coreOn = true → s.clk.running = true →
    ∃ t, exec .watchdogReset s = .next t ∧ t.bt R.SYS_RESET_CAUSE 3 = true ∧ t.fd R.SYS_RESET_CAUSE 18 16 = 3 ∧
      t.rd R.SYS_WDOG_RESETS = s.rd R.SYS_WDOG_RESETS + 1#32 ∧
      ∀ b, b < 16 → b ≠ 3 → t.bt R.SYS_RESET_CAUSE b = s.bt R.SYS_RESET_CAUSE b) ∧
  (∀ (us : Nat) (s : State), us < 100 → exec (.pinReset us) s = .next (s.resettle s.begun))

/-- R72, R91: a write that passes every protection reaches the register as its type says: RW takes the writable bits, W1C clears
and W1S sets the bits written one, RO, WO, RC and SNAP keep their contents, RWS takes the value in its shadow and sets the pending
bit of its group. No other register changes. Registers whose write does more (a strobe, a command register) are left to the
statements of their own commands. -/
def Obligations.DirectWrites : Prop :=
  ∀ (ini : Initiator) (a x : Nat) (b : Block) (r : RegRow) (v : BitVec 64) (s : State), a % 4 = 0 →
    (a < 0xE2000000 ∨ 0xE4000000 ≤ a) → companionOf a = none → decodeAddr a = .reg b x r →
    s.domainUp (regDomain b x) = true → s.guardOf ini b.base = none → s.ownBar ini b x r = none → r.guard = false →
    s.locked x r = false →
    (writeHooks ini (v.extractLsb' 0 32)).all (fun h => (arrIdx x h.1 h.2.1 h.2.2.1).isNone) = true →
    ∃ t, exec (.registerWrite ini a 32 v) s = .next t ∧ t.bus ini = .done ∧
      (r.ty = .rw → t.rd x = merged (s.rd x) (v.extractLsb' 0 32) (word r.mask)) ∧
      (r.ty = .w1c → t.rd x = s.rd x &&& ~~~(v.extractLsb' 0 32 &&& word r.mask)) ∧
      (r.ty = .w1s → t.rd x = s.rd x ||| (v.extractLsb' 0 32 &&& word r.mask)) ∧
      (r.ty = .ro ∨ r.ty = .wo ∨ r.ty = .rc ∨ r.ty = .snap → t.rd x = s.rd x) ∧
      (r.ty = .rws → t.shadowRd x = merged (s.shadowRd x) (v.extractLsb' 0 32) (word r.mask) &&& maskAt x ∧
        (r.ug < 16 → t.bt R.FAB_UG_PEND r.ug = true) ∧ ∀ y, y ≠ R.FAB_UG_PEND → t.rd y = s.rd y) ∧
      (r.ty ≠ .rws → t.shadow = s.shadow ∧ ∀ y, y ≠ x → t.rd y = s.rd y)

/-- R82: a write of a guarded register is held pending and changes nothing; within 255 cycles its complement at the companion lets
the value through to its shadow (every guarded register is an RWS one); another value is discarded with cause 0 and the register's
address; with nothing pending the companion's write counts with cause 2 and the companion's address. -/
def Obligations.GuardedWrites : Prop :=
  (∀ (ini : Initiator) (a x : Nat) (b : Block) (r : RegRow) (v : Word) (s : State), a % 4 = 0 → companionOf a = none →
    decodeAddr a = .reg b x r → s.domainUp (regDomain b x) = true → s.guardOf ini b.base = none → s.ownBar ini b x r = none →
    r.guard = true →
    ∃ t, exec (.guardFirstWrite ini a v) s = .next t ∧ t.bus ini = .done ∧
      t.guardOf ini b.base = some { ini := ini, block := b.base, addr := x, value := v, at_ := s.clk.now } ∧
      ∀ y, t.rd y = s.rd y) ∧
  (∀ (ini : Initiator) (a x : Nat) (b : Block) (r : RegRow) (g : GuardPend) (s : State), a % 4 = 0 →
    companionOf a = some (b, x, r) → s.domainUp (regDomain b x) = true → s.guardOf ini b.base = some g → g.addr = x →
    s.clk.now < g.at_ + 256 → s.ownBar ini b x r = none → s.locked x r = false → r.ty = .rws → r.ug < 16 →
    (writeHooks ini g.value).all (fun h => (arrIdx x h.1 h.2.1 h.2.2.1).isNone) = true →
    ∃ t, exec (.guardCompanionWrite ini a (~~~g.value)) s = .next t ∧ t.bus ini = .done ∧ t.guardOf ini b.base = none ∧
      t.shadowRd x = merged (s.shadowRd x) g.value (word r.mask) &&& maskAt x ∧ t.bt R.FAB_UG_PEND r.ug = true ∧
      ∀ y, y ≠ R.FAB_UG_PEND → t.rd y = s.rd y) ∧
  (∀ (ini : Initiator) (a x : Nat) (b : Block) (r : RegRow) (g : GuardPend) (v : Word) (s : State), a % 4 = 0 →
    companionOf a = some (b, x, r) → s.domainUp (regDomain b x) = true → s.guardOf ini b.base = some g → g.addr = x →
    s.clk.now < g.at_ + 256 → s.ownBar ini b x r = none → v ≠ ~~~g.value →
    ∃ t, exec (.guardCompanionWrite ini a v) s = .next t ∧ t.bus ini = .done ∧ t.guardOf ini b.base = none ∧
      ∀ y, t.rd y = if y = R.FAB_GUARD_ERR then s.rd y + 1#32
        else if y = R.FAB_GUARD_LAST then word (x / 4 * 4) else s.rd y) ∧
  (∀ (ini : Initiator) (a x : Nat) (b : Block) (r : RegRow) (v : Word) (s : State), a % 4 = 0 →
    companionOf a = some (b, x, r) → s.domainUp (regDomain b x) = true → s.guardOf ini b.base = none →
    s.ownBar ini b x r = none →
    ∃ t, exec (.guardCompanionWrite ini a v) s = .next t ∧ t.bus ini = .done ∧
      ∀ y, t.rd y = if y = R.FAB_GUARD_ERR then s.rd y + 1#32
        else if y = R.FAB_GUARD_LAST then word (a + 2) else s.rd y)

/-- A step takes the command at the front of the queue and carries it out on the state with the queue's rest. -/
def Obligations.StepRunsFront : Prop :=
  ∀ (c : Instr) (cs : List Instr) (s : State), s.pending = c :: cs → step s = exec c { s with pending := cs }

/-- R13, R23: with no command waiting a step lets one CLK_FAB period pass: the time in periods gains one, and nothing but the
clocks changes, the frames sent at the step before aside, where no event that another one held up waits to begin (a model's
choice, log entries 3 and 126). -/
def Obligations.IdleStep : Prop :=
  ∀ s : State, s.pending = [] → ∃ t, step s = .next t ∧ t.clk.now = s.clk.now + 1 ∧ t.pending = [] ∧
    ((∀ b ∈ s.adr.banks, b.go = none) → t.out = [] ∧ { t with clk := s.clk, out := s.out } = s)

/-- Every command completes from every state, and leaves the queue of waiting commands alone. -/
def Obligations.EveryCommandCompletes : Prop :=
  ∀ (i : Instr) (s : State), ∃ t, exec i s = .next t ∧ t.pending = s.pending ∧ t.regs.wf = true

/-- R13: a command with a footprint leaves every register and every part of the module outside it as it found it. -/
def Obligations.CommandFrames : Prop :=
  ∀ (i : Instr) (F : Foot) (s t : State), foot i = some F → exec i s = .next t → Frame F s t

/-- Every step keeps the invariant: registers in their one form, the clocks' fractions in their ranges and the boundaries that
wait in order and not in the future (R23 to R25). -/
def Obligations.StepKeepsInv : Prop :=
  ∀ s t : State, s.Inv → step s = .next t → t.Inv

/-- The state at reset keeps the invariant, and no command waits in it. -/
def Obligations.ResetInv : Prop :=
  State.reset.Inv ∧ State.reset.pending = []
end

