-- ==== Sys2Proof/Laws/Regs.lean ====
section
/-!
SUPPORT. The laws of the register store: what a read gives after a write, that `Regs.norm` changes no value and gives the
canonical form, and that stores in canonical form with the same values are the same data.
-/
set_option Elab.async false
namespace Sys2Proof.Machine

/-- A read of a store that begins with one entry. -/
theorem Regs.get_cons (a b : Nat) (v : Word) (r : Regs) :
    Regs.get ((a, v) :: r) b = if b = a then v else r.get b := by
  unfold Regs.get
  rw [List.lookup_cons]
  by_cases h : b = a
  · simp [h]
  · have : (b == a) = false := by simpa using h
    simp [h, this]

/-- A read after a write gives the value written, and every other register stands. -/
theorem Regs.get_set (r : Regs) (a b : Nat) (v : Word) :
    (r.set a v).get b = if b = a then v else r.get b := Regs.get_cons a b v r

/-- An empty store holds the Reset values. -/
@[simp] theorem Regs.get_nil (a : Nat) : Regs.get [] a = regReset a := rfl

/-- A store in canonical form from `lo` holds the Reset value below `lo`. -/
theorem Regs.get_below {lo : Nat} {r : Regs} (h : r.wfFrom lo = true) {a : Nat} (ha : a < lo) : r.get a = regReset a := by
  induction r generalizing lo with
  | nil => rfl
  | cons e t ih =>
    obtain ⟨b, w⟩ := e
    simp only [Regs.wfFrom, Bool.and_eq_true, decide_eq_true_eq] at h
    rw [Regs.get_cons, if_neg (by omega)]
    exact ih h.2 (by omega)

/-- The canonical form from a higher address is one from a lower address. -/
theorem Regs.wfFrom_mono {lo lo' : Nat} (h : lo' ≤ lo) {r : Regs} (hr : r.wfFrom lo = true) : r.wfFrom lo' = true := by
  cases r with
  | nil => rfl
  | cons e t =>
    obtain ⟨b, w⟩ := e
    simp only [Regs.wfFrom, Bool.and_eq_true, decide_eq_true_eq] at hr ⊢
    exact ⟨⟨by omega, hr.1.2⟩, hr.2⟩

/-- Inserting an entry keeps the canonical form. -/
theorem Regs.put_wfFrom {lo : Nat} {r : Regs} (h : r.wfFrom lo = true) {a : Nat} (ha : lo ≤ a) (v : Word) :
    (Regs.put a v r).wfFrom lo = true := by
  induction r generalizing lo with
  | nil =>
    unfold Regs.put
    split <;> simp_all [Regs.wfFrom]
  | cons e t ih =>
    obtain ⟨b, w⟩ := e
    have h' := h
    simp only [Regs.wfFrom, Bool.and_eq_true, decide_eq_true_eq] at h
    obtain ⟨⟨hb, hw⟩, ht⟩ := h
    unfold Regs.put
    by_cases hab : a < b
    · rw [if_pos hab]
      split
      · exact h'
      · rename_i hv
        simp only [Regs.wfFrom, Bool.and_eq_true, decide_eq_true_eq]
        exact ⟨⟨ha, hv⟩, ⟨by omega, hw⟩, ht⟩
    · rw [if_neg hab]
      by_cases hc : a = b
      · rw [if_pos hc]
        split
        · exact Regs.wfFrom_mono (by omega) ht
        · rename_i hv
          simp only [Regs.wfFrom, Bool.and_eq_true, decide_eq_true_eq]
          exact ⟨⟨ha, hv⟩, by rw [hc]; exact ht⟩
      · rw [if_neg hc]
        simp only [Regs.wfFrom, Bool.and_eq_true, decide_eq_true_eq]
        exact ⟨⟨hb, hw⟩, ih ht (by omega)⟩

/-- Inserting an entry into a store in canonical form changes that register alone. -/
theorem Regs.get_put {lo : Nat} {r : Regs} (h : r.wfFrom lo = true) (a : Nat) (v : Word) (b : Nat) :
    (Regs.put a v r).get b = if b = a then v else r.get b := by
  induction r generalizing lo with
  | nil =>
    unfold Regs.put
    split
    · rename_i hv
      split
      · rename_i hb; rw [Regs.get_nil, hb, hv]
      · rfl
    · rw [Regs.get_cons]
  | cons e t ih =>
    obtain ⟨c, w⟩ := e
    have h' := h
    simp only [Regs.wfFrom, Bool.and_eq_true, decide_eq_true_eq] at h
    obtain ⟨⟨_, _⟩, ht⟩ := h
    unfold Regs.put
    by_cases hab : a < c
    · rw [if_pos hab]
      split
      · rename_i hv
        split
        · rename_i hb
          rw [hb, hv, Regs.get_cons, if_neg (by omega)]
          exact Regs.get_below ht (by omega)
        · rfl
      · rw [Regs.get_cons]
    · rw [if_neg hab]
      by_cases hc : a = c
      · rw [if_pos hc]
        split
        · rename_i hv
          by_cases hb : b = a
          · rw [if_pos hb, hb, hv]
            exact Regs.get_below ht (by omega)
          · rw [if_neg hb, Regs.get_cons, if_neg (by omega)]
        · rw [Regs.get_cons, Regs.get_cons]
          by_cases hb : b = a
          · rw [if_pos hb, if_pos hb]
          · rw [if_neg hb, if_neg hb, if_neg (by omega)]
      · rw [if_neg hc, Regs.get_cons, Regs.get_cons, ih ht]
        by_cases hb : b = a
        · rw [if_neg (by omega), if_pos hb, if_pos hb]
        · rw [if_neg hb, if_neg hb]

/-- Every store has a canonical form. -/
@[simp] theorem Regs.norm_wf (r : Regs) : r.norm.wf = true := by
  induction r with
  | nil => rfl
  | cons e t ih => exact Regs.put_wfFrom ih (Nat.zero_le _) _

/-- The canonical form holds the same values. -/
@[simp] theorem Regs.norm_get (r : Regs) (a : Nat) : r.norm.get a = r.get a := by
  induction r with
  | nil => rfl
  | cons e t ih =>
    obtain ⟨b, w⟩ := e
    have h : Regs.norm ((b, w) :: t) = Regs.put b w (Regs.norm t) := rfl
    rw [h, Regs.get_put (Regs.norm_wf t), Regs.get_cons, ih]

/-- A read of a store of which the entries of some addresses were kept. -/
theorem Regs.get_filter (r : Regs) (p : Nat → Bool) (a : Nat) :
    Regs.get (r.filter (fun e => p e.1)) a = if p a then r.get a else regReset a := by
  induction r with
  | nil => simp
  | cons e t ih =>
    obtain ⟨b, w⟩ := e
    rw [List.filter_cons]
    by_cases hp : p b
    · rw [if_pos hp, Regs.get_cons, Regs.get_cons, ih]
      by_cases hb : a = b
      · subst hb; simp [hp]
      · rw [if_neg hb, if_neg hb]
    · rw [if_neg hp, ih, Regs.get_cons]
      by_cases hb : a = b
      · subst hb; simp [hp]
      · rw [if_neg hb]

/-- A read of two stores joined, of which the first holds no entry of the address. -/
theorem Regs.get_append_of_none (r q : Regs) (a : Nat) (h : ∀ e ∈ r, e.1 ≠ a) : Regs.get (r ++ q) a = q.get a := by
  induction r with
  | nil => rfl
  | cons e t ih =>
    obtain ⟨b, w⟩ := e
    rw [List.cons_append, Regs.get_cons, if_neg (fun hb => h (b, w) (by simp) hb.symm)]
    exact ih (fun e he => h e (by simp [he]))

/-- A read of a store of which the second part holds no entry of the address. -/
theorem Regs.get_append_left (r q : Regs) (a : Nat) (h : ∀ e ∈ q, e.1 ≠ a) : Regs.get (r ++ q) a = r.get a := by
  induction r with
  | nil =>
    have := Regs.get_append_of_none q [] a h
    simpa using this
  | cons e t ih =>
    obtain ⟨b, w⟩ := e
    rw [List.cons_append, Regs.get_cons, Regs.get_cons, ih]

/-- A read of the merge of two stores: the one where `p` holds, the other elsewhere. -/
theorem Regs.get_merge (r q : Regs) (p : Nat → Bool) (a : Nat) :
    Regs.get (r.filter (fun e => p e.1) ++ q.filter (fun e => !p e.1)) a = if p a then r.get a else q.get a := by
  by_cases hp : p a
  · rw [Regs.get_append_left, Regs.get_filter, if_pos hp, if_pos hp]
    intro e he hea
    simp only [List.mem_filter] at he
    rw [hea] at he
    simp [hp] at he
  · rw [Regs.get_append_of_none]
    · rw [Regs.get_filter q (fun x => !p x)]
      simp [hp]
    · intro e he hea
      simp only [List.mem_filter] at he
      rw [hea] at he
      exact hp he.2

/-- A store in canonical form is its own canonical form. -/
theorem Regs.norm_of_wfFrom {lo : Nat} {r : Regs} (h : r.wfFrom lo = true) : r.norm = r := by
  induction r generalizing lo with
  | nil => rfl
  | cons e t ih =>
    obtain ⟨b, w⟩ := e
    simp only [Regs.wfFrom, Bool.and_eq_true, decide_eq_true_eq] at h
    have hn : Regs.norm ((b, w) :: t) = Regs.put b w (Regs.norm t) := rfl
    rw [hn, ih h.2]
    cases t with
    | nil => simp [Regs.put, h.1.2]
    | cons e2 t2 =>
      obtain ⟨c, x⟩ := e2
      have h2 := h.2
      simp only [Regs.wfFrom, Bool.and_eq_true, decide_eq_true_eq] at h2
      unfold Regs.put
      rw [if_pos (by omega), if_neg h.1.2]

/-- A register held in canonical form above the first entries. -/
theorem Regs.ext_of_wf {r q : Regs} (hr : r.wf = true) (hq : q.wf = true) (h : ∀ a, r.get a = q.get a) : r = q := by
  have key : ∀ (r q : Regs) (lo : Nat), r.wfFrom lo = true → q.wfFrom lo = true → (∀ a, r.get a = q.get a) → r = q := by
    intro r
    induction r with
    | nil =>
      intro q lo _ hq h
      cases q with
      | nil => rfl
      | cons e t =>
        obtain ⟨b, w⟩ := e
        simp only [Regs.wfFrom, Bool.and_eq_true, decide_eq_true_eq] at hq
        have := h b
        rw [Regs.get_cons, if_pos rfl, Regs.get_nil] at this
        exact absurd this.symm hq.1.2
    | cons e t ih =>
      intro q lo hr hq h
      obtain ⟨b, w⟩ := e
      simp only [Regs.wfFrom, Bool.and_eq_true, decide_eq_true_eq] at hr
      cases q with
      | nil =>
        have := h b
        rw [Regs.get_cons, if_pos rfl, Regs.get_nil] at this
        exact absurd this hr.1.2
      | cons e2 t2 =>
        obtain ⟨c, x⟩ := e2
        simp only [Regs.wfFrom, Bool.and_eq_true, decide_eq_true_eq] at hq
        have hbc : b = c := by
          rcases Nat.lt_trichotomy b c with hlt | heq | hgt
          · have := h b
            rw [Regs.get_cons, if_pos rfl, Regs.get_cons, if_neg (by omega), Regs.get_below hq.2 (by omega)] at this
            exact absurd this hr.1.2
          · exact heq
          · have := h c
            rw [Regs.get_cons, if_neg (by omega), Regs.get_below hr.2 (by omega), Regs.get_cons, if_pos rfl] at this
            exact absurd this.symm hq.1.2
        subst hbc
        have hwx : w = x := by
          have := h b
          rwa [Regs.get_cons, if_pos rfl, Regs.get_cons, if_pos rfl] at this
        subst hwx
        have ht : t = t2 := by
          refine ih t2 (b + 1) hr.2 hq.2 (fun a => ?_)
          by_cases hab : a = b
          · subst hab
            rw [Regs.get_below hr.2 (by omega), Regs.get_below hq.2 (by omega)]
          · have := h a
            rwa [Regs.get_cons, if_neg hab, Regs.get_cons, if_neg hab] at this
        rw [ht]
  exact key r q 0 hr hq h

end Sys2Proof.Machine
end

