-- ==== Sys2Proof/Laws/Run.lean ====
section
/-!
SUPPORT. The laws of running a command: every way to run one answers a next state; what that state holds; its frame.
-/
set_option Elab.async false
namespace Sys2Proof.Machine

/-! ### The next state of a footprint -/

/-- A command run within a footprint answers the finished state of its effect. -/
theorem State.runIn_eq (F : Foot) (f : State → State) (s : State) : s.runIn F f = .next (F.finish s (f s.begun)) := rfl

/-- A register of the next state: as the effect left it inside the footprint, as before outside. -/
theorem Foot.finish_rd (F : Foot) (s u : State) (a : Nat) :
    (F.finish s u).rd a = if F.holds a then u.rd a else s.rd a := by
  unfold State.rd Foot.finish
  simp only [Regs.norm_get]
  exact Regs.get_merge u.regs s.regs F.holds a

/-- A register inside the footprint. -/
theorem Foot.finish_rd_in {F : Foot} {s u : State} {a : Nat} (h : F.holds a = true) : (F.finish s u).rd a = u.rd a := by
  rw [Foot.finish_rd, if_pos h]

/-- A register outside the footprint. -/
theorem Foot.finish_rd_out {F : Foot} {s u : State} {a : Nat} (h : F.holds a = false) : (F.finish s u).rd a = s.rd a := by
  rw [Foot.finish_rd, h]; rfl

@[simp] theorem Foot.finish_clk (F : Foot) (s u : State) : (F.finish s u).clk = s.clk := rfl
@[simp] theorem Foot.finish_pending (F : Foot) (s u : State) : (F.finish s u).pending = s.pending := rfl
@[simp] theorem Foot.finish_regs_wf (F : Foot) (s u : State) : (F.finish s u).regs.wf = true := Regs.norm_wf _
@[simp] theorem Foot.finish_fab (F : Foot) (s u : State) : (F.finish s u).fab = u.fab := rfl
@[simp] theorem Foot.finish_mbx (F : Foot) (s u : State) : (F.finish s u).mbx = u.mbx := rfl
@[simp] theorem Foot.finish_fns (F : Foot) (s u : State) : (F.finish s u).fns = u.fns := rfl
@[simp] theorem Foot.finish_almanac (F : Foot) (s u : State) : (F.finish s u).almanac = u.almanac := rfl
@[simp] theorem Foot.finish_out (F : Foot) (s u : State) : (F.finish s u).out = u.out := rfl
@[simp] theorem Foot.finish_shadow (F : Foot) (s u : State) :
    (F.finish s u).shadow = if F.parts.contains .shadow then u.shadow else s.shadow := rfl
@[simp] theorem Foot.finish_pwr (F : Foot) (s u : State) :
    (F.finish s u).pwr = if F.parts.contains .pwr then u.pwr else s.pwr := rfl
@[simp] theorem Foot.finish_inp (F : Foot) (s u : State) :
    (F.finish s u).inp = if F.parts.contains .inp then u.inp else s.inp := rfl
@[simp] theorem Foot.finish_cst (F : Foot) (s u : State) :
    (F.finish s u).cst = if F.parts.contains .cst then u.cst else s.cst := rfl
@[simp] theorem Foot.finish_ypl (F : Foot) (s u : State) :
    (F.finish s u).ypl = if F.parts.contains .ypl then u.ypl else s.ypl := rfl
@[simp] theorem Foot.finish_saf (F : Foot) (s u : State) :
    (F.finish s u).saf = if F.parts.contains .saf then u.saf else s.saf := rfl
@[simp] theorem Foot.finish_adr (F : Foot) (s u : State) :
    (F.finish s u).adr = if F.parts.contains .adr then u.adr else s.adr := rfl
@[simp] theorem Foot.finish_psw (F : Foot) (s u : State) :
    (F.finish s u).psw = if F.parts.contains .psw then u.psw else s.psw := rfl
@[simp] theorem Foot.finish_mer (F : Foot) (s u : State) :
    (F.finish s u).mer = if F.parts.contains .mer then u.mer else s.mer := rfl
@[simp] theorem Foot.finish_trn (F : Foot) (s u : State) :
    (F.finish s u).trn = if F.parts.contains .trn then u.trn else s.trn := rfl
@[simp] theorem Foot.finish_pos (F : Foot) (s u : State) :
    (F.finish s u).pos = if F.parts.contains .pos then u.pos else s.pos := rfl
@[simp] theorem Foot.finish_gptp (F : Foot) (s u : State) :
    (F.finish s u).gptp = if F.parts.contains .gptp then u.gptp else s.gptp := rfl
@[simp] theorem Foot.finish_cam (F : Foot) (s u : State) :
    (F.finish s u).cam = if F.parts.contains .cam then u.cam else s.cam := rfl
@[simp] theorem Foot.finish_vxa (F : Foot) (s u : State) :
    (F.finish s u).vxa = if F.parts.contains .vxa then u.vxa else s.vxa := rfl
@[simp] theorem Foot.finish_ast (F : Foot) (s u : State) :
    (F.finish s u).ast = if F.parts.contains .ast then u.ast else s.ast := rfl
@[simp] theorem Foot.finish_pair (F : Foot) (s u : State) :
    (F.finish s u).pair = if F.parts.contains .pair then u.pair else s.pair := rfl
@[simp] theorem Foot.finish_can (F : Foot) (s u : State) :
    (F.finish s u).can = if F.parts.contains .can then u.can else s.can := rfl
@[simp] theorem Foot.finish_prm (F : Foot) (s u : State) :
    (F.finish s u).prm = if F.parts.contains .prm then u.prm else s.prm := rfl
@[simp] theorem Foot.finish_eth (F : Foot) (s u : State) :
    (F.finish s u).eth = if F.parts.contains .eth then u.eth else s.eth := rfl
@[simp] theorem Foot.finish_pnl (F : Foot) (s u : State) :
    (F.finish s u).pnl = if F.parts.contains .pnl then u.pnl else s.pnl := rfl
@[simp] theorem Foot.finish_flt (F : Foot) (s u : State) :
    (F.finish s u).flt = if F.parts.contains .flt then u.flt else s.flt := rfl
@[simp] theorem Foot.finish_upd (F : Foot) (s u : State) :
    (F.finish s u).upd = if F.parts.contains .upd then u.upd else s.upd := rfl

/-- The finished state keeps its frame. -/
theorem Foot.finish_frame (F : Foot) (s u : State) : Frame F s (F.finish s u) where
  clk := rfl
  pending := rfl
  regs := fun _ h => Foot.finish_rd_out h
  shadow := fun h => by rw [Foot.finish_shadow, h]; rfl
  pwr := fun h => by rw [Foot.finish_pwr, h]; rfl
  inp := fun h => by rw [Foot.finish_inp, h]; rfl
  cst := fun h => by rw [Foot.finish_cst, h]; rfl
  ypl := fun h => by rw [Foot.finish_ypl, h]; rfl
  saf := fun h => by rw [Foot.finish_saf, h]; rfl
  adr := fun h => by rw [Foot.finish_adr, h]; rfl
  psw := fun h => by rw [Foot.finish_psw, h]; rfl
  mer := fun h => by rw [Foot.finish_mer, h]; rfl
  trn := fun h => by rw [Foot.finish_trn, h]; rfl
  pos := fun h => by rw [Foot.finish_pos, h]; rfl
  gptp := fun h => by rw [Foot.finish_gptp, h]; rfl
  cam := fun h => by rw [Foot.finish_cam, h]; rfl
  vxa := fun h => by rw [Foot.finish_vxa, h]; rfl
  ast := fun h => by rw [Foot.finish_ast, h]; rfl
  pair := fun h => by rw [Foot.finish_pair, h]; rfl
  can := fun h => by rw [Foot.finish_can, h]; rfl
  prm := fun h => by rw [Foot.finish_prm, h]; rfl
  eth := fun h => by rw [Foot.finish_eth, h]; rfl
  pnl := fun h => by rw [Foot.finish_pnl, h]; rfl
  flt := fun h => by rw [Foot.finish_flt, h]; rfl
  upd := fun h => by rw [Foot.finish_upd, h]; rfl

/-- A command run within a footprint keeps its frame. -/
theorem State.runIn_frame {F : Foot} {f : State → State} {s t : State} (h : s.runIn F f = .next t) : Frame F s t := by
  rw [State.runIn_eq] at h
  cases h
  exact Foot.finish_frame F s _

/-! ### Every way to run a command answers a next state -/

/-- Outcomes that are a next state with the queue of waiting commands as it was, registers in canonical form and clocks that are
those before, or one of two given others. -/
def Ran (s : State) (ks : List Clk) (o : Host.Outcome State Fault Refusal) : Prop :=
  ∃ t, o = .next t ∧ t.pending = s.pending ∧ t.regs.wf = true ∧ t.clk ∈ ks

theorem State.run_ran (s : State) (f : State → State) : Ran s [s.clk] (s.run f) :=
  ⟨_, rfl, rfl, Regs.norm_wf _, by simp⟩

theorem State.runIn_ran (s : State) (F : Foot) (f : State → State) : Ran s [s.clk] (s.runIn F f) :=
  ⟨_, rfl, rfl, Regs.norm_wf _, by simp [Foot.merge]⟩

theorem State.runAt_ran (s : State) (k : Clk) (f : State → State) : Ran s [k] (s.runAt k f) :=
  ⟨_, rfl, rfl, Regs.norm_wf _, by simp⟩

theorem State.runReset_ran (s : State) (f : State → State) : Ran s [s.clk, s.clk.stop] (s.runReset f) := by
  refine ⟨_, rfl, rfl, Regs.norm_wf _, ?_⟩
  dsimp only
  split <;> simp

end Sys2Proof.Machine
end

