-- ==== Sys2Proof/Laws/State.lean ====
section
/-!
SUPPORT. The fields of State after each basic update: one lemma for each field an update leaves alone, true by rfl.
-/
set_option Elab.async false
namespace Sys2Proof.Machine

@[simp] theorem State.wr_pending (s : State) (a : Nat) (v : Word) : (s.wr a v).pending = s.pending := rfl
@[simp] theorem State.wr_clk (s : State) (a : Nat) (v : Word) : (s.wr a v).clk = s.clk := rfl
@[simp] theorem State.wr_shadow (s : State) (a : Nat) (v : Word) : (s.wr a v).shadow = s.shadow := rfl
@[simp] theorem State.wr_fab (s : State) (a : Nat) (v : Word) : (s.wr a v).fab = s.fab := rfl
@[simp] theorem State.wr_mbx (s : State) (a : Nat) (v : Word) : (s.wr a v).mbx = s.mbx := rfl
@[simp] theorem State.wr_fns (s : State) (a : Nat) (v : Word) : (s.wr a v).fns = s.fns := rfl
@[simp] theorem State.wr_pwr (s : State) (a : Nat) (v : Word) : (s.wr a v).pwr = s.pwr := rfl
@[simp] theorem State.wr_almanac (s : State) (a : Nat) (v : Word) : (s.wr a v).almanac = s.almanac := rfl
@[simp] theorem State.wr_inp (s : State) (a : Nat) (v : Word) : (s.wr a v).inp = s.inp := rfl
@[simp] theorem State.wr_cst (s : State) (a : Nat) (v : Word) : (s.wr a v).cst = s.cst := rfl
@[simp] theorem State.wr_ypl (s : State) (a : Nat) (v : Word) : (s.wr a v).ypl = s.ypl := rfl
@[simp] theorem State.wr_saf (s : State) (a : Nat) (v : Word) : (s.wr a v).saf = s.saf := rfl
@[simp] theorem State.wr_adr (s : State) (a : Nat) (v : Word) : (s.wr a v).adr = s.adr := rfl
@[simp] theorem State.wr_psw (s : State) (a : Nat) (v : Word) : (s.wr a v).psw = s.psw := rfl
@[simp] theorem State.wr_mer (s : State) (a : Nat) (v : Word) : (s.wr a v).mer = s.mer := rfl
@[simp] theorem State.wr_trn (s : State) (a : Nat) (v : Word) : (s.wr a v).trn = s.trn := rfl
@[simp] theorem State.wr_pos (s : State) (a : Nat) (v : Word) : (s.wr a v).pos = s.pos := rfl
@[simp] theorem State.wr_gptp (s : State) (a : Nat) (v : Word) : (s.wr a v).gptp = s.gptp := rfl
@[simp] theorem State.wr_cam (s : State) (a : Nat) (v : Word) : (s.wr a v).cam = s.cam := rfl
@[simp] theorem State.wr_vxa (s : State) (a : Nat) (v : Word) : (s.wr a v).vxa = s.vxa := rfl
@[simp] theorem State.wr_ast (s : State) (a : Nat) (v : Word) : (s.wr a v).ast = s.ast := rfl
@[simp] theorem State.wr_pair (s : State) (a : Nat) (v : Word) : (s.wr a v).pair = s.pair := rfl
@[simp] theorem State.wr_can (s : State) (a : Nat) (v : Word) : (s.wr a v).can = s.can := rfl
@[simp] theorem State.wr_prm (s : State) (a : Nat) (v : Word) : (s.wr a v).prm = s.prm := rfl
@[simp] theorem State.wr_eth (s : State) (a : Nat) (v : Word) : (s.wr a v).eth = s.eth := rfl
@[simp] theorem State.wr_pnl (s : State) (a : Nat) (v : Word) : (s.wr a v).pnl = s.pnl := rfl
@[simp] theorem State.wr_flt (s : State) (a : Nat) (v : Word) : (s.wr a v).flt = s.flt := rfl
@[simp] theorem State.wr_upd (s : State) (a : Nat) (v : Word) : (s.wr a v).upd = s.upd := rfl
@[simp] theorem State.wr_out (s : State) (a : Nat) (v : Word) : (s.wr a v).out = s.out := rfl

@[simp] theorem State.wfSet_pending (s : State) (a hi lo v : Nat) : (s.wf_ a hi lo v).pending = s.pending := rfl
@[simp] theorem State.wfSet_clk (s : State) (a hi lo v : Nat) : (s.wf_ a hi lo v).clk = s.clk := rfl
@[simp] theorem State.wfSet_shadow (s : State) (a hi lo v : Nat) : (s.wf_ a hi lo v).shadow = s.shadow := rfl
@[simp] theorem State.wfSet_fab (s : State) (a hi lo v : Nat) : (s.wf_ a hi lo v).fab = s.fab := rfl
@[simp] theorem State.wfSet_mbx (s : State) (a hi lo v : Nat) : (s.wf_ a hi lo v).mbx = s.mbx := rfl
@[simp] theorem State.wfSet_fns (s : State) (a hi lo v : Nat) : (s.wf_ a hi lo v).fns = s.fns := rfl
@[simp] theorem State.wfSet_pwr (s : State) (a hi lo v : Nat) : (s.wf_ a hi lo v).pwr = s.pwr := rfl
@[simp] theorem State.wfSet_almanac (s : State) (a hi lo v : Nat) : (s.wf_ a hi lo v).almanac = s.almanac := rfl
@[simp] theorem State.wfSet_inp (s : State) (a hi lo v : Nat) : (s.wf_ a hi lo v).inp = s.inp := rfl
@[simp] theorem State.wfSet_cst (s : State) (a hi lo v : Nat) : (s.wf_ a hi lo v).cst = s.cst := rfl
@[simp] theorem State.wfSet_ypl (s : State) (a hi lo v : Nat) : (s.wf_ a hi lo v).ypl = s.ypl := rfl
@[simp] theorem State.wfSet_saf (s : State) (a hi lo v : Nat) : (s.wf_ a hi lo v).saf = s.saf := rfl
@[simp] theorem State.wfSet_adr (s : State) (a hi lo v : Nat) : (s.wf_ a hi lo v).adr = s.adr := rfl
@[simp] theorem State.wfSet_psw (s : State) (a hi lo v : Nat) : (s.wf_ a hi lo v).psw = s.psw := rfl
@[simp] theorem State.wfSet_mer (s : State) (a hi lo v : Nat) : (s.wf_ a hi lo v).mer = s.mer := rfl
@[simp] theorem State.wfSet_trn (s : State) (a hi lo v : Nat) : (s.wf_ a hi lo v).trn = s.trn := rfl
@[simp] theorem State.wfSet_pos (s : State) (a hi lo v : Nat) : (s.wf_ a hi lo v).pos = s.pos := rfl
@[simp] theorem State.wfSet_gptp (s : State) (a hi lo v : Nat) : (s.wf_ a hi lo v).gptp = s.gptp := rfl
@[simp] theorem State.wfSet_cam (s : State) (a hi lo v : Nat) : (s.wf_ a hi lo v).cam = s.cam := rfl
@[simp] theorem State.wfSet_vxa (s : State) (a hi lo v : Nat) : (s.wf_ a hi lo v).vxa = s.vxa := rfl
@[simp] theorem State.wfSet_ast (s : State) (a hi lo v : Nat) : (s.wf_ a hi lo v).ast = s.ast := rfl
@[simp] theorem State.wfSet_pair (s : State) (a hi lo v : Nat) : (s.wf_ a hi lo v).pair = s.pair := rfl
@[simp] theorem State.wfSet_can (s : State) (a hi lo v : Nat) : (s.wf_ a hi lo v).can = s.can := rfl
@[simp] theorem State.wfSet_prm (s : State) (a hi lo v : Nat) : (s.wf_ a hi lo v).prm = s.prm := rfl
@[simp] theorem State.wfSet_eth (s : State) (a hi lo v : Nat) : (s.wf_ a hi lo v).eth = s.eth := rfl
@[simp] theorem State.wfSet_pnl (s : State) (a hi lo v : Nat) : (s.wf_ a hi lo v).pnl = s.pnl := rfl
@[simp] theorem State.wfSet_flt (s : State) (a hi lo v : Nat) : (s.wf_ a hi lo v).flt = s.flt := rfl
@[simp] theorem State.wfSet_upd (s : State) (a hi lo v : Nat) : (s.wf_ a hi lo v).upd = s.upd := rfl
@[simp] theorem State.wfSet_out (s : State) (a hi lo v : Nat) : (s.wf_ a hi lo v).out = s.out := rfl

@[simp] theorem State.wb_pending (s : State) (a b : Nat) (v : Bool) : (s.wb a b v).pending = s.pending := rfl
@[simp] theorem State.wb_clk (s : State) (a b : Nat) (v : Bool) : (s.wb a b v).clk = s.clk := rfl
@[simp] theorem State.wb_shadow (s : State) (a b : Nat) (v : Bool) : (s.wb a b v).shadow = s.shadow := rfl
@[simp] theorem State.wb_fab (s : State) (a b : Nat) (v : Bool) : (s.wb a b v).fab = s.fab := rfl
@[simp] theorem State.wb_mbx (s : State) (a b : Nat) (v : Bool) : (s.wb a b v).mbx = s.mbx := rfl
@[simp] theorem State.wb_fns (s : State) (a b : Nat) (v : Bool) : (s.wb a b v).fns = s.fns := rfl
@[simp] theorem State.wb_pwr (s : State) (a b : Nat) (v : Bool) : (s.wb a b v).pwr = s.pwr := rfl
@[simp] theorem State.wb_almanac (s : State) (a b : Nat) (v : Bool) : (s.wb a b v).almanac = s.almanac := rfl
@[simp] theorem State.wb_inp (s : State) (a b : Nat) (v : Bool) : (s.wb a b v).inp = s.inp := rfl
@[simp] theorem State.wb_cst (s : State) (a b : Nat) (v : Bool) : (s.wb a b v).cst = s.cst := rfl
@[simp] theorem State.wb_ypl (s : State) (a b : Nat) (v : Bool) : (s.wb a b v).ypl = s.ypl := rfl
@[simp] theorem State.wb_saf (s : State) (a b : Nat) (v : Bool) : (s.wb a b v).saf = s.saf := rfl
@[simp] theorem State.wb_adr (s : State) (a b : Nat) (v : Bool) : (s.wb a b v).adr = s.adr := rfl
@[simp] theorem State.wb_psw (s : State) (a b : Nat) (v : Bool) : (s.wb a b v).psw = s.psw := rfl
@[simp] theorem State.wb_mer (s : State) (a b : Nat) (v : Bool) : (s.wb a b v).mer = s.mer := rfl
@[simp] theorem State.wb_trn (s : State) (a b : Nat) (v : Bool) : (s.wb a b v).trn = s.trn := rfl
@[simp] theorem State.wb_pos (s : State) (a b : Nat) (v : Bool) : (s.wb a b v).pos = s.pos := rfl
@[simp] theorem State.wb_gptp (s : State) (a b : Nat) (v : Bool) : (s.wb a b v).gptp = s.gptp := rfl
@[simp] theorem State.wb_cam (s : State) (a b : Nat) (v : Bool) : (s.wb a b v).cam = s.cam := rfl
@[simp] theorem State.wb_vxa (s : State) (a b : Nat) (v : Bool) : (s.wb a b v).vxa = s.vxa := rfl
@[simp] theorem State.wb_ast (s : State) (a b : Nat) (v : Bool) : (s.wb a b v).ast = s.ast := rfl
@[simp] theorem State.wb_pair (s : State) (a b : Nat) (v : Bool) : (s.wb a b v).pair = s.pair := rfl
@[simp] theorem State.wb_can (s : State) (a b : Nat) (v : Bool) : (s.wb a b v).can = s.can := rfl
@[simp] theorem State.wb_prm (s : State) (a b : Nat) (v : Bool) : (s.wb a b v).prm = s.prm := rfl
@[simp] theorem State.wb_eth (s : State) (a b : Nat) (v : Bool) : (s.wb a b v).eth = s.eth := rfl
@[simp] theorem State.wb_pnl (s : State) (a b : Nat) (v : Bool) : (s.wb a b v).pnl = s.pnl := rfl
@[simp] theorem State.wb_flt (s : State) (a b : Nat) (v : Bool) : (s.wb a b v).flt = s.flt := rfl
@[simp] theorem State.wb_upd (s : State) (a b : Nat) (v : Bool) : (s.wb a b v).upd = s.upd := rfl
@[simp] theorem State.wb_out (s : State) (a b : Nat) (v : Bool) : (s.wb a b v).out = s.out := rfl

@[simp] theorem State.addCnt_pending (s : State) (a n : Nat) : (s.addCnt a n).pending = s.pending := rfl
@[simp] theorem State.addCnt_clk (s : State) (a n : Nat) : (s.addCnt a n).clk = s.clk := rfl
@[simp] theorem State.addCnt_shadow (s : State) (a n : Nat) : (s.addCnt a n).shadow = s.shadow := rfl
@[simp] theorem State.addCnt_fab (s : State) (a n : Nat) : (s.addCnt a n).fab = s.fab := rfl
@[simp] theorem State.addCnt_mbx (s : State) (a n : Nat) : (s.addCnt a n).mbx = s.mbx := rfl
@[simp] theorem State.addCnt_fns (s : State) (a n : Nat) : (s.addCnt a n).fns = s.fns := rfl
@[simp] theorem State.addCnt_pwr (s : State) (a n : Nat) : (s.addCnt a n).pwr = s.pwr := rfl
@[simp] theorem State.addCnt_almanac (s : State) (a n : Nat) : (s.addCnt a n).almanac = s.almanac := rfl
@[simp] theorem State.addCnt_inp (s : State) (a n : Nat) : (s.addCnt a n).inp = s.inp := rfl
@[simp] theorem State.addCnt_cst (s : State) (a n : Nat) : (s.addCnt a n).cst = s.cst := rfl
@[simp] theorem State.addCnt_ypl (s : State) (a n : Nat) : (s.addCnt a n).ypl = s.ypl := rfl
@[simp] theorem State.addCnt_saf (s : State) (a n : Nat) : (s.addCnt a n).saf = s.saf := rfl
@[simp] theorem State.addCnt_adr (s : State) (a n : Nat) : (s.addCnt a n).adr = s.adr := rfl
@[simp] theorem State.addCnt_psw (s : State) (a n : Nat) : (s.addCnt a n).psw = s.psw := rfl
@[simp] theorem State.addCnt_mer (s : State) (a n : Nat) : (s.addCnt a n).mer = s.mer := rfl
@[simp] theorem State.addCnt_trn (s : State) (a n : Nat) : (s.addCnt a n).trn = s.trn := rfl
@[simp] theorem State.addCnt_pos (s : State) (a n : Nat) : (s.addCnt a n).pos = s.pos := rfl
@[simp] theorem State.addCnt_gptp (s : State) (a n : Nat) : (s.addCnt a n).gptp = s.gptp := rfl
@[simp] theorem State.addCnt_cam (s : State) (a n : Nat) : (s.addCnt a n).cam = s.cam := rfl
@[simp] theorem State.addCnt_vxa (s : State) (a n : Nat) : (s.addCnt a n).vxa = s.vxa := rfl
@[simp] theorem State.addCnt_ast (s : State) (a n : Nat) : (s.addCnt a n).ast = s.ast := rfl
@[simp] theorem State.addCnt_pair (s : State) (a n : Nat) : (s.addCnt a n).pair = s.pair := rfl
@[simp] theorem State.addCnt_can (s : State) (a n : Nat) : (s.addCnt a n).can = s.can := rfl
@[simp] theorem State.addCnt_prm (s : State) (a n : Nat) : (s.addCnt a n).prm = s.prm := rfl
@[simp] theorem State.addCnt_eth (s : State) (a n : Nat) : (s.addCnt a n).eth = s.eth := rfl
@[simp] theorem State.addCnt_pnl (s : State) (a n : Nat) : (s.addCnt a n).pnl = s.pnl := rfl
@[simp] theorem State.addCnt_flt (s : State) (a n : Nat) : (s.addCnt a n).flt = s.flt := rfl
@[simp] theorem State.addCnt_upd (s : State) (a n : Nat) : (s.addCnt a n).upd = s.upd := rfl
@[simp] theorem State.addCnt_out (s : State) (a n : Nat) : (s.addCnt a n).out = s.out := rfl

@[simp] theorem State.inc_pending (s : State) (a : Nat) : (s.inc a).pending = s.pending := rfl
@[simp] theorem State.inc_clk (s : State) (a : Nat) : (s.inc a).clk = s.clk := rfl
@[simp] theorem State.inc_shadow (s : State) (a : Nat) : (s.inc a).shadow = s.shadow := rfl
@[simp] theorem State.inc_fab (s : State) (a : Nat) : (s.inc a).fab = s.fab := rfl
@[simp] theorem State.inc_mbx (s : State) (a : Nat) : (s.inc a).mbx = s.mbx := rfl
@[simp] theorem State.inc_fns (s : State) (a : Nat) : (s.inc a).fns = s.fns := rfl
@[simp] theorem State.inc_pwr (s : State) (a : Nat) : (s.inc a).pwr = s.pwr := rfl
@[simp] theorem State.inc_almanac (s : State) (a : Nat) : (s.inc a).almanac = s.almanac := rfl
@[simp] theorem State.inc_inp (s : State) (a : Nat) : (s.inc a).inp = s.inp := rfl
@[simp] theorem State.inc_cst (s : State) (a : Nat) : (s.inc a).cst = s.cst := rfl
@[simp] theorem State.inc_ypl (s : State) (a : Nat) : (s.inc a).ypl = s.ypl := rfl
@[simp] theorem State.inc_saf (s : State) (a : Nat) : (s.inc a).saf = s.saf := rfl
@[simp] theorem State.inc_adr (s : State) (a : Nat) : (s.inc a).adr = s.adr := rfl
@[simp] theorem State.inc_psw (s : State) (a : Nat) : (s.inc a).psw = s.psw := rfl
@[simp] theorem State.inc_mer (s : State) (a : Nat) : (s.inc a).mer = s.mer := rfl
@[simp] theorem State.inc_trn (s : State) (a : Nat) : (s.inc a).trn = s.trn := rfl
@[simp] theorem State.inc_pos (s : State) (a : Nat) : (s.inc a).pos = s.pos := rfl
@[simp] theorem State.inc_gptp (s : State) (a : Nat) : (s.inc a).gptp = s.gptp := rfl
@[simp] theorem State.inc_cam (s : State) (a : Nat) : (s.inc a).cam = s.cam := rfl
@[simp] theorem State.inc_vxa (s : State) (a : Nat) : (s.inc a).vxa = s.vxa := rfl
@[simp] theorem State.inc_ast (s : State) (a : Nat) : (s.inc a).ast = s.ast := rfl
@[simp] theorem State.inc_pair (s : State) (a : Nat) : (s.inc a).pair = s.pair := rfl
@[simp] theorem State.inc_can (s : State) (a : Nat) : (s.inc a).can = s.can := rfl
@[simp] theorem State.inc_prm (s : State) (a : Nat) : (s.inc a).prm = s.prm := rfl
@[simp] theorem State.inc_eth (s : State) (a : Nat) : (s.inc a).eth = s.eth := rfl
@[simp] theorem State.inc_pnl (s : State) (a : Nat) : (s.inc a).pnl = s.pnl := rfl
@[simp] theorem State.inc_flt (s : State) (a : Nat) : (s.inc a).flt = s.flt := rfl
@[simp] theorem State.inc_upd (s : State) (a : Nat) : (s.inc a).upd = s.upd := rfl
@[simp] theorem State.inc_out (s : State) (a : Nat) : (s.inc a).out = s.out := rfl

@[simp] theorem State.orW_pending (s : State) (a : Nat) (m : Word) : (s.orW a m).pending = s.pending := rfl
@[simp] theorem State.orW_clk (s : State) (a : Nat) (m : Word) : (s.orW a m).clk = s.clk := rfl
@[simp] theorem State.orW_shadow (s : State) (a : Nat) (m : Word) : (s.orW a m).shadow = s.shadow := rfl
@[simp] theorem State.orW_fab (s : State) (a : Nat) (m : Word) : (s.orW a m).fab = s.fab := rfl
@[simp] theorem State.orW_mbx (s : State) (a : Nat) (m : Word) : (s.orW a m).mbx = s.mbx := rfl
@[simp] theorem State.orW_fns (s : State) (a : Nat) (m : Word) : (s.orW a m).fns = s.fns := rfl
@[simp] theorem State.orW_pwr (s : State) (a : Nat) (m : Word) : (s.orW a m).pwr = s.pwr := rfl
@[simp] theorem State.orW_almanac (s : State) (a : Nat) (m : Word) : (s.orW a m).almanac = s.almanac := rfl
@[simp] theorem State.orW_inp (s : State) (a : Nat) (m : Word) : (s.orW a m).inp = s.inp := rfl
@[simp] theorem State.orW_cst (s : State) (a : Nat) (m : Word) : (s.orW a m).cst = s.cst := rfl
@[simp] theorem State.orW_ypl (s : State) (a : Nat) (m : Word) : (s.orW a m).ypl = s.ypl := rfl
@[simp] theorem State.orW_saf (s : State) (a : Nat) (m : Word) : (s.orW a m).saf = s.saf := rfl
@[simp] theorem State.orW_adr (s : State) (a : Nat) (m : Word) : (s.orW a m).adr = s.adr := rfl
@[simp] theorem State.orW_psw (s : State) (a : Nat) (m : Word) : (s.orW a m).psw = s.psw := rfl
@[simp] theorem State.orW_mer (s : State) (a : Nat) (m : Word) : (s.orW a m).mer = s.mer := rfl
@[simp] theorem State.orW_trn (s : State) (a : Nat) (m : Word) : (s.orW a m).trn = s.trn := rfl
@[simp] theorem State.orW_pos (s : State) (a : Nat) (m : Word) : (s.orW a m).pos = s.pos := rfl
@[simp] theorem State.orW_gptp (s : State) (a : Nat) (m : Word) : (s.orW a m).gptp = s.gptp := rfl
@[simp] theorem State.orW_cam (s : State) (a : Nat) (m : Word) : (s.orW a m).cam = s.cam := rfl
@[simp] theorem State.orW_vxa (s : State) (a : Nat) (m : Word) : (s.orW a m).vxa = s.vxa := rfl
@[simp] theorem State.orW_ast (s : State) (a : Nat) (m : Word) : (s.orW a m).ast = s.ast := rfl
@[simp] theorem State.orW_pair (s : State) (a : Nat) (m : Word) : (s.orW a m).pair = s.pair := rfl
@[simp] theorem State.orW_can (s : State) (a : Nat) (m : Word) : (s.orW a m).can = s.can := rfl
@[simp] theorem State.orW_prm (s : State) (a : Nat) (m : Word) : (s.orW a m).prm = s.prm := rfl
@[simp] theorem State.orW_eth (s : State) (a : Nat) (m : Word) : (s.orW a m).eth = s.eth := rfl
@[simp] theorem State.orW_pnl (s : State) (a : Nat) (m : Word) : (s.orW a m).pnl = s.pnl := rfl
@[simp] theorem State.orW_flt (s : State) (a : Nat) (m : Word) : (s.orW a m).flt = s.flt := rfl
@[simp] theorem State.orW_upd (s : State) (a : Nat) (m : Word) : (s.orW a m).upd = s.upd := rfl
@[simp] theorem State.orW_out (s : State) (a : Nat) (m : Word) : (s.orW a m).out = s.out := rfl

@[simp] theorem State.andNotW_pending (s : State) (a : Nat) (m : Word) : (s.andNotW a m).pending = s.pending := rfl
@[simp] theorem State.andNotW_clk (s : State) (a : Nat) (m : Word) : (s.andNotW a m).clk = s.clk := rfl
@[simp] theorem State.andNotW_shadow (s : State) (a : Nat) (m : Word) : (s.andNotW a m).shadow = s.shadow := rfl
@[simp] theorem State.andNotW_fab (s : State) (a : Nat) (m : Word) : (s.andNotW a m).fab = s.fab := rfl
@[simp] theorem State.andNotW_mbx (s : State) (a : Nat) (m : Word) : (s.andNotW a m).mbx = s.mbx := rfl
@[simp] theorem State.andNotW_fns (s : State) (a : Nat) (m : Word) : (s.andNotW a m).fns = s.fns := rfl
@[simp] theorem State.andNotW_pwr (s : State) (a : Nat) (m : Word) : (s.andNotW a m).pwr = s.pwr := rfl
@[simp] theorem State.andNotW_almanac (s : State) (a : Nat) (m : Word) : (s.andNotW a m).almanac = s.almanac := rfl
@[simp] theorem State.andNotW_inp (s : State) (a : Nat) (m : Word) : (s.andNotW a m).inp = s.inp := rfl
@[simp] theorem State.andNotW_cst (s : State) (a : Nat) (m : Word) : (s.andNotW a m).cst = s.cst := rfl
@[simp] theorem State.andNotW_ypl (s : State) (a : Nat) (m : Word) : (s.andNotW a m).ypl = s.ypl := rfl
@[simp] theorem State.andNotW_saf (s : State) (a : Nat) (m : Word) : (s.andNotW a m).saf = s.saf := rfl
@[simp] theorem State.andNotW_adr (s : State) (a : Nat) (m : Word) : (s.andNotW a m).adr = s.adr := rfl
@[simp] theorem State.andNotW_psw (s : State) (a : Nat) (m : Word) : (s.andNotW a m).psw = s.psw := rfl
@[simp] theorem State.andNotW_mer (s : State) (a : Nat) (m : Word) : (s.andNotW a m).mer = s.mer := rfl
@[simp] theorem State.andNotW_trn (s : State) (a : Nat) (m : Word) : (s.andNotW a m).trn = s.trn := rfl
@[simp] theorem State.andNotW_pos (s : State) (a : Nat) (m : Word) : (s.andNotW a m).pos = s.pos := rfl
@[simp] theorem State.andNotW_gptp (s : State) (a : Nat) (m : Word) : (s.andNotW a m).gptp = s.gptp := rfl
@[simp] theorem State.andNotW_cam (s : State) (a : Nat) (m : Word) : (s.andNotW a m).cam = s.cam := rfl
@[simp] theorem State.andNotW_vxa (s : State) (a : Nat) (m : Word) : (s.andNotW a m).vxa = s.vxa := rfl
@[simp] theorem State.andNotW_ast (s : State) (a : Nat) (m : Word) : (s.andNotW a m).ast = s.ast := rfl
@[simp] theorem State.andNotW_pair (s : State) (a : Nat) (m : Word) : (s.andNotW a m).pair = s.pair := rfl
@[simp] theorem State.andNotW_can (s : State) (a : Nat) (m : Word) : (s.andNotW a m).can = s.can := rfl
@[simp] theorem State.andNotW_prm (s : State) (a : Nat) (m : Word) : (s.andNotW a m).prm = s.prm := rfl
@[simp] theorem State.andNotW_eth (s : State) (a : Nat) (m : Word) : (s.andNotW a m).eth = s.eth := rfl
@[simp] theorem State.andNotW_pnl (s : State) (a : Nat) (m : Word) : (s.andNotW a m).pnl = s.pnl := rfl
@[simp] theorem State.andNotW_flt (s : State) (a : Nat) (m : Word) : (s.andNotW a m).flt = s.flt := rfl
@[simp] theorem State.andNotW_upd (s : State) (a : Nat) (m : Word) : (s.andNotW a m).upd = s.upd := rfl
@[simp] theorem State.andNotW_out (s : State) (a : Nat) (m : Word) : (s.andNotW a m).out = s.out := rfl

@[simp] theorem State.wr64_pending (s : State) (lo hi v : Nat) : (s.wr64 lo hi v).pending = s.pending := rfl
@[simp] theorem State.wr64_clk (s : State) (lo hi v : Nat) : (s.wr64 lo hi v).clk = s.clk := rfl
@[simp] theorem State.wr64_shadow (s : State) (lo hi v : Nat) : (s.wr64 lo hi v).shadow = s.shadow := rfl
@[simp] theorem State.wr64_fab (s : State) (lo hi v : Nat) : (s.wr64 lo hi v).fab = s.fab := rfl
@[simp] theorem State.wr64_mbx (s : State) (lo hi v : Nat) : (s.wr64 lo hi v).mbx = s.mbx := rfl
@[simp] theorem State.wr64_fns (s : State) (lo hi v : Nat) : (s.wr64 lo hi v).fns = s.fns := rfl
@[simp] theorem State.wr64_pwr (s : State) (lo hi v : Nat) : (s.wr64 lo hi v).pwr = s.pwr := rfl
@[simp] theorem State.wr64_almanac (s : State) (lo hi v : Nat) : (s.wr64 lo hi v).almanac = s.almanac := rfl
@[simp] theorem State.wr64_inp (s : State) (lo hi v : Nat) : (s.wr64 lo hi v).inp = s.inp := rfl
@[simp] theorem State.wr64_cst (s : State) (lo hi v : Nat) : (s.wr64 lo hi v).cst = s.cst := rfl
@[simp] theorem State.wr64_ypl (s : State) (lo hi v : Nat) : (s.wr64 lo hi v).ypl = s.ypl := rfl
@[simp] theorem State.wr64_saf (s : State) (lo hi v : Nat) : (s.wr64 lo hi v).saf = s.saf := rfl
@[simp] theorem State.wr64_adr (s : State) (lo hi v : Nat) : (s.wr64 lo hi v).adr = s.adr := rfl
@[simp] theorem State.wr64_psw (s : State) (lo hi v : Nat) : (s.wr64 lo hi v).psw = s.psw := rfl
@[simp] theorem State.wr64_mer (s : State) (lo hi v : Nat) : (s.wr64 lo hi v).mer = s.mer := rfl
@[simp] theorem State.wr64_trn (s : State) (lo hi v : Nat) : (s.wr64 lo hi v).trn = s.trn := rfl
@[simp] theorem State.wr64_pos (s : State) (lo hi v : Nat) : (s.wr64 lo hi v).pos = s.pos := rfl
@[simp] theorem State.wr64_gptp (s : State) (lo hi v : Nat) : (s.wr64 lo hi v).gptp = s.gptp := rfl
@[simp] theorem State.wr64_cam (s : State) (lo hi v : Nat) : (s.wr64 lo hi v).cam = s.cam := rfl
@[simp] theorem State.wr64_vxa (s : State) (lo hi v : Nat) : (s.wr64 lo hi v).vxa = s.vxa := rfl
@[simp] theorem State.wr64_ast (s : State) (lo hi v : Nat) : (s.wr64 lo hi v).ast = s.ast := rfl
@[simp] theorem State.wr64_pair (s : State) (lo hi v : Nat) : (s.wr64 lo hi v).pair = s.pair := rfl
@[simp] theorem State.wr64_can (s : State) (lo hi v : Nat) : (s.wr64 lo hi v).can = s.can := rfl
@[simp] theorem State.wr64_prm (s : State) (lo hi v : Nat) : (s.wr64 lo hi v).prm = s.prm := rfl
@[simp] theorem State.wr64_eth (s : State) (lo hi v : Nat) : (s.wr64 lo hi v).eth = s.eth := rfl
@[simp] theorem State.wr64_pnl (s : State) (lo hi v : Nat) : (s.wr64 lo hi v).pnl = s.pnl := rfl
@[simp] theorem State.wr64_flt (s : State) (lo hi v : Nat) : (s.wr64 lo hi v).flt = s.flt := rfl
@[simp] theorem State.wr64_upd (s : State) (lo hi v : Nat) : (s.wr64 lo hi v).upd = s.upd := rfl
@[simp] theorem State.wr64_out (s : State) (lo hi v : Nat) : (s.wr64 lo hi v).out = s.out := rfl

@[simp] theorem State.shadowWr_pending (s : State) (a g : Nat) (v : Word) : (s.shadowWr a g v).pending = s.pending := rfl
@[simp] theorem State.shadowWr_clk (s : State) (a g : Nat) (v : Word) : (s.shadowWr a g v).clk = s.clk := rfl
@[simp] theorem State.shadowWr_fab (s : State) (a g : Nat) (v : Word) : (s.shadowWr a g v).fab = s.fab := rfl
@[simp] theorem State.shadowWr_mbx (s : State) (a g : Nat) (v : Word) : (s.shadowWr a g v).mbx = s.mbx := rfl
@[simp] theorem State.shadowWr_fns (s : State) (a g : Nat) (v : Word) : (s.shadowWr a g v).fns = s.fns := rfl
@[simp] theorem State.shadowWr_pwr (s : State) (a g : Nat) (v : Word) : (s.shadowWr a g v).pwr = s.pwr := rfl
@[simp] theorem State.shadowWr_almanac (s : State) (a g : Nat) (v : Word) : (s.shadowWr a g v).almanac = s.almanac := rfl
@[simp] theorem State.shadowWr_inp (s : State) (a g : Nat) (v : Word) : (s.shadowWr a g v).inp = s.inp := rfl
@[simp] theorem State.shadowWr_cst (s : State) (a g : Nat) (v : Word) : (s.shadowWr a g v).cst = s.cst := rfl
@[simp] theorem State.shadowWr_ypl (s : State) (a g : Nat) (v : Word) : (s.shadowWr a g v).ypl = s.ypl := rfl
@[simp] theorem State.shadowWr_saf (s : State) (a g : Nat) (v : Word) : (s.shadowWr a g v).saf = s.saf := rfl
@[simp] theorem State.shadowWr_adr (s : State) (a g : Nat) (v : Word) : (s.shadowWr a g v).adr = s.adr := rfl
@[simp] theorem State.shadowWr_psw (s : State) (a g : Nat) (v : Word) : (s.shadowWr a g v).psw = s.psw := rfl
@[simp] theorem State.shadowWr_mer (s : State) (a g : Nat) (v : Word) : (s.shadowWr a g v).mer = s.mer := rfl
@[simp] theorem State.shadowWr_trn (s : State) (a g : Nat) (v : Word) : (s.shadowWr a g v).trn = s.trn := rfl
@[simp] theorem State.shadowWr_pos (s : State) (a g : Nat) (v : Word) : (s.shadowWr a g v).pos = s.pos := rfl
@[simp] theorem State.shadowWr_gptp (s : State) (a g : Nat) (v : Word) : (s.shadowWr a g v).gptp = s.gptp := rfl
@[simp] theorem State.shadowWr_cam (s : State) (a g : Nat) (v : Word) : (s.shadowWr a g v).cam = s.cam := rfl
@[simp] theorem State.shadowWr_vxa (s : State) (a g : Nat) (v : Word) : (s.shadowWr a g v).vxa = s.vxa := rfl
@[simp] theorem State.shadowWr_ast (s : State) (a g : Nat) (v : Word) : (s.shadowWr a g v).ast = s.ast := rfl
@[simp] theorem State.shadowWr_pair (s : State) (a g : Nat) (v : Word) : (s.shadowWr a g v).pair = s.pair := rfl
@[simp] theorem State.shadowWr_can (s : State) (a g : Nat) (v : Word) : (s.shadowWr a g v).can = s.can := rfl
@[simp] theorem State.shadowWr_prm (s : State) (a g : Nat) (v : Word) : (s.shadowWr a g v).prm = s.prm := rfl
@[simp] theorem State.shadowWr_eth (s : State) (a g : Nat) (v : Word) : (s.shadowWr a g v).eth = s.eth := rfl
@[simp] theorem State.shadowWr_pnl (s : State) (a g : Nat) (v : Word) : (s.shadowWr a g v).pnl = s.pnl := rfl
@[simp] theorem State.shadowWr_flt (s : State) (a g : Nat) (v : Word) : (s.shadowWr a g v).flt = s.flt := rfl
@[simp] theorem State.shadowWr_upd (s : State) (a g : Nat) (v : Word) : (s.shadowWr a g v).upd = s.upd := rfl
@[simp] theorem State.shadowWr_out (s : State) (a g : Nat) (v : Word) : (s.shadowWr a g v).out = s.out := rfl

@[simp] theorem State.setSig_pending (s : State) (n : Nat) (v : Word) : (s.setSig n v).pending = s.pending := rfl
@[simp] theorem State.setSig_clk (s : State) (n : Nat) (v : Word) : (s.setSig n v).clk = s.clk := rfl
@[simp] theorem State.setSig_shadow (s : State) (n : Nat) (v : Word) : (s.setSig n v).shadow = s.shadow := rfl
@[simp] theorem State.setSig_mbx (s : State) (n : Nat) (v : Word) : (s.setSig n v).mbx = s.mbx := rfl
@[simp] theorem State.setSig_fns (s : State) (n : Nat) (v : Word) : (s.setSig n v).fns = s.fns := rfl
@[simp] theorem State.setSig_pwr (s : State) (n : Nat) (v : Word) : (s.setSig n v).pwr = s.pwr := rfl
@[simp] theorem State.setSig_almanac (s : State) (n : Nat) (v : Word) : (s.setSig n v).almanac = s.almanac := rfl
@[simp] theorem State.setSig_inp (s : State) (n : Nat) (v : Word) : (s.setSig n v).inp = s.inp := rfl
@[simp] theorem State.setSig_cst (s : State) (n : Nat) (v : Word) : (s.setSig n v).cst = s.cst := rfl
@[simp] theorem State.setSig_ypl (s : State) (n : Nat) (v : Word) : (s.setSig n v).ypl = s.ypl := rfl
@[simp] theorem State.setSig_saf (s : State) (n : Nat) (v : Word) : (s.setSig n v).saf = s.saf := rfl
@[simp] theorem State.setSig_adr (s : State) (n : Nat) (v : Word) : (s.setSig n v).adr = s.adr := rfl
@[simp] theorem State.setSig_psw (s : State) (n : Nat) (v : Word) : (s.setSig n v).psw = s.psw := rfl
@[simp] theorem State.setSig_mer (s : State) (n : Nat) (v : Word) : (s.setSig n v).mer = s.mer := rfl
@[simp] theorem State.setSig_trn (s : State) (n : Nat) (v : Word) : (s.setSig n v).trn = s.trn := rfl
@[simp] theorem State.setSig_pos (s : State) (n : Nat) (v : Word) : (s.setSig n v).pos = s.pos := rfl
@[simp] theorem State.setSig_gptp (s : State) (n : Nat) (v : Word) : (s.setSig n v).gptp = s.gptp := rfl
@[simp] theorem State.setSig_cam (s : State) (n : Nat) (v : Word) : (s.setSig n v).cam = s.cam := rfl
@[simp] theorem State.setSig_vxa (s : State) (n : Nat) (v : Word) : (s.setSig n v).vxa = s.vxa := rfl
@[simp] theorem State.setSig_ast (s : State) (n : Nat) (v : Word) : (s.setSig n v).ast = s.ast := rfl
@[simp] theorem State.setSig_pair (s : State) (n : Nat) (v : Word) : (s.setSig n v).pair = s.pair := rfl
@[simp] theorem State.setSig_can (s : State) (n : Nat) (v : Word) : (s.setSig n v).can = s.can := rfl
@[simp] theorem State.setSig_prm (s : State) (n : Nat) (v : Word) : (s.setSig n v).prm = s.prm := rfl
@[simp] theorem State.setSig_eth (s : State) (n : Nat) (v : Word) : (s.setSig n v).eth = s.eth := rfl
@[simp] theorem State.setSig_pnl (s : State) (n : Nat) (v : Word) : (s.setSig n v).pnl = s.pnl := rfl
@[simp] theorem State.setSig_flt (s : State) (n : Nat) (v : Word) : (s.setSig n v).flt = s.flt := rfl
@[simp] theorem State.setSig_upd (s : State) (n : Nat) (v : Word) : (s.setSig n v).upd = s.upd := rfl
@[simp] theorem State.setSig_out (s : State) (n : Nat) (v : Word) : (s.setSig n v).out = s.out := rfl

@[simp] theorem State.dropSig_pending (s : State) (n : Nat) : (s.dropSig n).pending = s.pending := rfl
@[simp] theorem State.dropSig_clk (s : State) (n : Nat) : (s.dropSig n).clk = s.clk := rfl
@[simp] theorem State.dropSig_shadow (s : State) (n : Nat) : (s.dropSig n).shadow = s.shadow := rfl
@[simp] theorem State.dropSig_fab (s : State) (n : Nat) : (s.dropSig n).fab = s.fab := rfl
@[simp] theorem State.dropSig_mbx (s : State) (n : Nat) : (s.dropSig n).mbx = s.mbx := rfl
@[simp] theorem State.dropSig_fns (s : State) (n : Nat) : (s.dropSig n).fns = s.fns := rfl
@[simp] theorem State.dropSig_pwr (s : State) (n : Nat) : (s.dropSig n).pwr = s.pwr := rfl
@[simp] theorem State.dropSig_almanac (s : State) (n : Nat) : (s.dropSig n).almanac = s.almanac := rfl
@[simp] theorem State.dropSig_inp (s : State) (n : Nat) : (s.dropSig n).inp = s.inp := rfl
@[simp] theorem State.dropSig_cst (s : State) (n : Nat) : (s.dropSig n).cst = s.cst := rfl
@[simp] theorem State.dropSig_ypl (s : State) (n : Nat) : (s.dropSig n).ypl = s.ypl := rfl
@[simp] theorem State.dropSig_saf (s : State) (n : Nat) : (s.dropSig n).saf = s.saf := rfl
@[simp] theorem State.dropSig_adr (s : State) (n : Nat) : (s.dropSig n).adr = s.adr := rfl
@[simp] theorem State.dropSig_psw (s : State) (n : Nat) : (s.dropSig n).psw = s.psw := rfl
@[simp] theorem State.dropSig_mer (s : State) (n : Nat) : (s.dropSig n).mer = s.mer := rfl
@[simp] theorem State.dropSig_trn (s : State) (n : Nat) : (s.dropSig n).trn = s.trn := rfl
@[simp] theorem State.dropSig_pos (s : State) (n : Nat) : (s.dropSig n).pos = s.pos := rfl
@[simp] theorem State.dropSig_gptp (s : State) (n : Nat) : (s.dropSig n).gptp = s.gptp := rfl
@[simp] theorem State.dropSig_cam (s : State) (n : Nat) : (s.dropSig n).cam = s.cam := rfl
@[simp] theorem State.dropSig_vxa (s : State) (n : Nat) : (s.dropSig n).vxa = s.vxa := rfl
@[simp] theorem State.dropSig_ast (s : State) (n : Nat) : (s.dropSig n).ast = s.ast := rfl
@[simp] theorem State.dropSig_pair (s : State) (n : Nat) : (s.dropSig n).pair = s.pair := rfl
@[simp] theorem State.dropSig_can (s : State) (n : Nat) : (s.dropSig n).can = s.can := rfl
@[simp] theorem State.dropSig_prm (s : State) (n : Nat) : (s.dropSig n).prm = s.prm := rfl
@[simp] theorem State.dropSig_eth (s : State) (n : Nat) : (s.dropSig n).eth = s.eth := rfl
@[simp] theorem State.dropSig_pnl (s : State) (n : Nat) : (s.dropSig n).pnl = s.pnl := rfl
@[simp] theorem State.dropSig_flt (s : State) (n : Nat) : (s.dropSig n).flt = s.flt := rfl
@[simp] theorem State.dropSig_upd (s : State) (n : Nat) : (s.dropSig n).upd = s.upd := rfl
@[simp] theorem State.dropSig_out (s : State) (n : Nat) : (s.dropSig n).out = s.out := rfl

@[simp] theorem State.setFn_pending (s : State) (f : Nat) (g : Fn → Fn) : (s.setFn f g).pending = s.pending := rfl
@[simp] theorem State.setFn_clk (s : State) (f : Nat) (g : Fn → Fn) : (s.setFn f g).clk = s.clk := rfl
@[simp] theorem State.setFn_regs (s : State) (f : Nat) (g : Fn → Fn) : (s.setFn f g).regs = s.regs := rfl
@[simp] theorem State.setFn_shadow (s : State) (f : Nat) (g : Fn → Fn) : (s.setFn f g).shadow = s.shadow := rfl
@[simp] theorem State.setFn_fab (s : State) (f : Nat) (g : Fn → Fn) : (s.setFn f g).fab = s.fab := rfl
@[simp] theorem State.setFn_mbx (s : State) (f : Nat) (g : Fn → Fn) : (s.setFn f g).mbx = s.mbx := rfl
@[simp] theorem State.setFn_pwr (s : State) (f : Nat) (g : Fn → Fn) : (s.setFn f g).pwr = s.pwr := rfl
@[simp] theorem State.setFn_almanac (s : State) (f : Nat) (g : Fn → Fn) : (s.setFn f g).almanac = s.almanac := rfl
@[simp] theorem State.setFn_inp (s : State) (f : Nat) (g : Fn → Fn) : (s.setFn f g).inp = s.inp := rfl
@[simp] theorem State.setFn_cst (s : State) (f : Nat) (g : Fn → Fn) : (s.setFn f g).cst = s.cst := rfl
@[simp] theorem State.setFn_ypl (s : State) (f : Nat) (g : Fn → Fn) : (s.setFn f g).ypl = s.ypl := rfl
@[simp] theorem State.setFn_saf (s : State) (f : Nat) (g : Fn → Fn) : (s.setFn f g).saf = s.saf := rfl
@[simp] theorem State.setFn_adr (s : State) (f : Nat) (g : Fn → Fn) : (s.setFn f g).adr = s.adr := rfl
@[simp] theorem State.setFn_psw (s : State) (f : Nat) (g : Fn → Fn) : (s.setFn f g).psw = s.psw := rfl
@[simp] theorem State.setFn_mer (s : State) (f : Nat) (g : Fn → Fn) : (s.setFn f g).mer = s.mer := rfl
@[simp] theorem State.setFn_trn (s : State) (f : Nat) (g : Fn → Fn) : (s.setFn f g).trn = s.trn := rfl
@[simp] theorem State.setFn_pos (s : State) (f : Nat) (g : Fn → Fn) : (s.setFn f g).pos = s.pos := rfl
@[simp] theorem State.setFn_gptp (s : State) (f : Nat) (g : Fn → Fn) : (s.setFn f g).gptp = s.gptp := rfl
@[simp] theorem State.setFn_cam (s : State) (f : Nat) (g : Fn → Fn) : (s.setFn f g).cam = s.cam := rfl
@[simp] theorem State.setFn_vxa (s : State) (f : Nat) (g : Fn → Fn) : (s.setFn f g).vxa = s.vxa := rfl
@[simp] theorem State.setFn_ast (s : State) (f : Nat) (g : Fn → Fn) : (s.setFn f g).ast = s.ast := rfl
@[simp] theorem State.setFn_pair (s : State) (f : Nat) (g : Fn → Fn) : (s.setFn f g).pair = s.pair := rfl
@[simp] theorem State.setFn_can (s : State) (f : Nat) (g : Fn → Fn) : (s.setFn f g).can = s.can := rfl
@[simp] theorem State.setFn_prm (s : State) (f : Nat) (g : Fn → Fn) : (s.setFn f g).prm = s.prm := rfl
@[simp] theorem State.setFn_eth (s : State) (f : Nat) (g : Fn → Fn) : (s.setFn f g).eth = s.eth := rfl
@[simp] theorem State.setFn_pnl (s : State) (f : Nat) (g : Fn → Fn) : (s.setFn f g).pnl = s.pnl := rfl
@[simp] theorem State.setFn_flt (s : State) (f : Nat) (g : Fn → Fn) : (s.setFn f g).flt = s.flt := rfl
@[simp] theorem State.setFn_upd (s : State) (f : Nat) (g : Fn → Fn) : (s.setFn f g).upd = s.upd := rfl
@[simp] theorem State.setFn_out (s : State) (f : Nat) (g : Fn → Fn) : (s.setFn f g).out = s.out := rfl

@[simp] theorem State.setSes_pending (s : State) (k : Nat) (g : Session → Session) : (s.setSes k g).pending = s.pending := rfl
@[simp] theorem State.setSes_clk (s : State) (k : Nat) (g : Session → Session) : (s.setSes k g).clk = s.clk := rfl
@[simp] theorem State.setSes_regs (s : State) (k : Nat) (g : Session → Session) : (s.setSes k g).regs = s.regs := rfl
@[simp] theorem State.setSes_shadow (s : State) (k : Nat) (g : Session → Session) : (s.setSes k g).shadow = s.shadow := rfl
@[simp] theorem State.setSes_fab (s : State) (k : Nat) (g : Session → Session) : (s.setSes k g).fab = s.fab := rfl
@[simp] theorem State.setSes_fns (s : State) (k : Nat) (g : Session → Session) : (s.setSes k g).fns = s.fns := rfl
@[simp] theorem State.setSes_pwr (s : State) (k : Nat) (g : Session → Session) : (s.setSes k g).pwr = s.pwr := rfl
@[simp] theorem State.setSes_almanac (s : State) (k : Nat) (g : Session → Session) : (s.setSes k g).almanac = s.almanac := rfl
@[simp] theorem State.setSes_inp (s : State) (k : Nat) (g : Session → Session) : (s.setSes k g).inp = s.inp := rfl
@[simp] theorem State.setSes_cst (s : State) (k : Nat) (g : Session → Session) : (s.setSes k g).cst = s.cst := rfl
@[simp] theorem State.setSes_ypl (s : State) (k : Nat) (g : Session → Session) : (s.setSes k g).ypl = s.ypl := rfl
@[simp] theorem State.setSes_saf (s : State) (k : Nat) (g : Session → Session) : (s.setSes k g).saf = s.saf := rfl
@[simp] theorem State.setSes_adr (s : State) (k : Nat) (g : Session → Session) : (s.setSes k g).adr = s.adr := rfl
@[simp] theorem State.setSes_psw (s : State) (k : Nat) (g : Session → Session) : (s.setSes k g).psw = s.psw := rfl
@[simp] theorem State.setSes_mer (s : State) (k : Nat) (g : Session → Session) : (s.setSes k g).mer = s.mer := rfl
@[simp] theorem State.setSes_trn (s : State) (k : Nat) (g : Session → Session) : (s.setSes k g).trn = s.trn := rfl
@[simp] theorem State.setSes_pos (s : State) (k : Nat) (g : Session → Session) : (s.setSes k g).pos = s.pos := rfl
@[simp] theorem State.setSes_gptp (s : State) (k : Nat) (g : Session → Session) : (s.setSes k g).gptp = s.gptp := rfl
@[simp] theorem State.setSes_cam (s : State) (k : Nat) (g : Session → Session) : (s.setSes k g).cam = s.cam := rfl
@[simp] theorem State.setSes_vxa (s : State) (k : Nat) (g : Session → Session) : (s.setSes k g).vxa = s.vxa := rfl
@[simp] theorem State.setSes_ast (s : State) (k : Nat) (g : Session → Session) : (s.setSes k g).ast = s.ast := rfl
@[simp] theorem State.setSes_pair (s : State) (k : Nat) (g : Session → Session) : (s.setSes k g).pair = s.pair := rfl
@[simp] theorem State.setSes_can (s : State) (k : Nat) (g : Session → Session) : (s.setSes k g).can = s.can := rfl
@[simp] theorem State.setSes_prm (s : State) (k : Nat) (g : Session → Session) : (s.setSes k g).prm = s.prm := rfl
@[simp] theorem State.setSes_eth (s : State) (k : Nat) (g : Session → Session) : (s.setSes k g).eth = s.eth := rfl
@[simp] theorem State.setSes_pnl (s : State) (k : Nat) (g : Session → Session) : (s.setSes k g).pnl = s.pnl := rfl
@[simp] theorem State.setSes_flt (s : State) (k : Nat) (g : Session → Session) : (s.setSes k g).flt = s.flt := rfl
@[simp] theorem State.setSes_upd (s : State) (k : Nat) (g : Session → Session) : (s.setSes k g).upd = s.upd := rfl
@[simp] theorem State.setSes_out (s : State) (k : Nat) (g : Session → Session) : (s.setSes k g).out = s.out := rfl

@[simp] theorem State.setRing_pending (s : State) (n : Nat) (g : DataRing → DataRing) : (s.setRing n g).pending = s.pending := rfl
@[simp] theorem State.setRing_clk (s : State) (n : Nat) (g : DataRing → DataRing) : (s.setRing n g).clk = s.clk := rfl
@[simp] theorem State.setRing_regs (s : State) (n : Nat) (g : DataRing → DataRing) : (s.setRing n g).regs = s.regs := rfl
@[simp] theorem State.setRing_shadow (s : State) (n : Nat) (g : DataRing → DataRing) : (s.setRing n g).shadow = s.shadow := rfl
@[simp] theorem State.setRing_fab (s : State) (n : Nat) (g : DataRing → DataRing) : (s.setRing n g).fab = s.fab := rfl
@[simp] theorem State.setRing_fns (s : State) (n : Nat) (g : DataRing → DataRing) : (s.setRing n g).fns = s.fns := rfl
@[simp] theorem State.setRing_pwr (s : State) (n : Nat) (g : DataRing → DataRing) : (s.setRing n g).pwr = s.pwr := rfl
@[simp] theorem State.setRing_almanac (s : State) (n : Nat) (g : DataRing → DataRing) : (s.setRing n g).almanac = s.almanac := rfl
@[simp] theorem State.setRing_inp (s : State) (n : Nat) (g : DataRing → DataRing) : (s.setRing n g).inp = s.inp := rfl
@[simp] theorem State.setRing_cst (s : State) (n : Nat) (g : DataRing → DataRing) : (s.setRing n g).cst = s.cst := rfl
@[simp] theorem State.setRing_ypl (s : State) (n : Nat) (g : DataRing → DataRing) : (s.setRing n g).ypl = s.ypl := rfl
@[simp] theorem State.setRing_saf (s : State) (n : Nat) (g : DataRing → DataRing) : (s.setRing n g).saf = s.saf := rfl
@[simp] theorem State.setRing_adr (s : State) (n : Nat) (g : DataRing → DataRing) : (s.setRing n g).adr = s.adr := rfl
@[simp] theorem State.setRing_psw (s : State) (n : Nat) (g : DataRing → DataRing) : (s.setRing n g).psw = s.psw := rfl
@[simp] theorem State.setRing_mer (s : State) (n : Nat) (g : DataRing → DataRing) : (s.setRing n g).mer = s.mer := rfl
@[simp] theorem State.setRing_trn (s : State) (n : Nat) (g : DataRing → DataRing) : (s.setRing n g).trn = s.trn := rfl
@[simp] theorem State.setRing_pos (s : State) (n : Nat) (g : DataRing → DataRing) : (s.setRing n g).pos = s.pos := rfl
@[simp] theorem State.setRing_gptp (s : State) (n : Nat) (g : DataRing → DataRing) : (s.setRing n g).gptp = s.gptp := rfl
@[simp] theorem State.setRing_cam (s : State) (n : Nat) (g : DataRing → DataRing) : (s.setRing n g).cam = s.cam := rfl
@[simp] theorem State.setRing_vxa (s : State) (n : Nat) (g : DataRing → DataRing) : (s.setRing n g).vxa = s.vxa := rfl
@[simp] theorem State.setRing_ast (s : State) (n : Nat) (g : DataRing → DataRing) : (s.setRing n g).ast = s.ast := rfl
@[simp] theorem State.setRing_pair (s : State) (n : Nat) (g : DataRing → DataRing) : (s.setRing n g).pair = s.pair := rfl
@[simp] theorem State.setRing_can (s : State) (n : Nat) (g : DataRing → DataRing) : (s.setRing n g).can = s.can := rfl
@[simp] theorem State.setRing_prm (s : State) (n : Nat) (g : DataRing → DataRing) : (s.setRing n g).prm = s.prm := rfl
@[simp] theorem State.setRing_eth (s : State) (n : Nat) (g : DataRing → DataRing) : (s.setRing n g).eth = s.eth := rfl
@[simp] theorem State.setRing_pnl (s : State) (n : Nat) (g : DataRing → DataRing) : (s.setRing n g).pnl = s.pnl := rfl
@[simp] theorem State.setRing_flt (s : State) (n : Nat) (g : DataRing → DataRing) : (s.setRing n g).flt = s.flt := rfl
@[simp] theorem State.setRing_upd (s : State) (n : Nat) (g : DataRing → DataRing) : (s.setRing n g).upd = s.upd := rfl
@[simp] theorem State.setRing_out (s : State) (n : Nat) (g : DataRing → DataRing) : (s.setRing n g).out = s.out := rfl

@[simp] theorem State.takeInbox_pending (s : State) (op : Nat) (c : Cmd) : (s.takeInbox op c).pending = s.pending := rfl
@[simp] theorem State.takeInbox_clk (s : State) (op : Nat) (c : Cmd) : (s.takeInbox op c).clk = s.clk := rfl
@[simp] theorem State.takeInbox_regs (s : State) (op : Nat) (c : Cmd) : (s.takeInbox op c).regs = s.regs := rfl
@[simp] theorem State.takeInbox_shadow (s : State) (op : Nat) (c : Cmd) : (s.takeInbox op c).shadow = s.shadow := rfl
@[simp] theorem State.takeInbox_fab (s : State) (op : Nat) (c : Cmd) : (s.takeInbox op c).fab = s.fab := rfl
@[simp] theorem State.takeInbox_fns (s : State) (op : Nat) (c : Cmd) : (s.takeInbox op c).fns = s.fns := rfl
@[simp] theorem State.takeInbox_pwr (s : State) (op : Nat) (c : Cmd) : (s.takeInbox op c).pwr = s.pwr := rfl
@[simp] theorem State.takeInbox_almanac (s : State) (op : Nat) (c : Cmd) : (s.takeInbox op c).almanac = s.almanac := rfl
@[simp] theorem State.takeInbox_inp (s : State) (op : Nat) (c : Cmd) : (s.takeInbox op c).inp = s.inp := rfl
@[simp] theorem State.takeInbox_cst (s : State) (op : Nat) (c : Cmd) : (s.takeInbox op c).cst = s.cst := rfl
@[simp] theorem State.takeInbox_ypl (s : State) (op : Nat) (c : Cmd) : (s.takeInbox op c).ypl = s.ypl := rfl
@[simp] theorem State.takeInbox_saf (s : State) (op : Nat) (c : Cmd) : (s.takeInbox op c).saf = s.saf := rfl
@[simp] theorem State.takeInbox_adr (s : State) (op : Nat) (c : Cmd) : (s.takeInbox op c).adr = s.adr := rfl
@[simp] theorem State.takeInbox_psw (s : State) (op : Nat) (c : Cmd) : (s.takeInbox op c).psw = s.psw := rfl
@[simp] theorem State.takeInbox_mer (s : State) (op : Nat) (c : Cmd) : (s.takeInbox op c).mer = s.mer := rfl
@[simp] theorem State.takeInbox_trn (s : State) (op : Nat) (c : Cmd) : (s.takeInbox op c).trn = s.trn := rfl
@[simp] theorem State.takeInbox_pos (s : State) (op : Nat) (c : Cmd) : (s.takeInbox op c).pos = s.pos := rfl
@[simp] theorem State.takeInbox_gptp (s : State) (op : Nat) (c : Cmd) : (s.takeInbox op c).gptp = s.gptp := rfl
@[simp] theorem State.takeInbox_cam (s : State) (op : Nat) (c : Cmd) : (s.takeInbox op c).cam = s.cam := rfl
@[simp] theorem State.takeInbox_vxa (s : State) (op : Nat) (c : Cmd) : (s.takeInbox op c).vxa = s.vxa := rfl
@[simp] theorem State.takeInbox_ast (s : State) (op : Nat) (c : Cmd) : (s.takeInbox op c).ast = s.ast := rfl
@[simp] theorem State.takeInbox_pair (s : State) (op : Nat) (c : Cmd) : (s.takeInbox op c).pair = s.pair := rfl
@[simp] theorem State.takeInbox_can (s : State) (op : Nat) (c : Cmd) : (s.takeInbox op c).can = s.can := rfl
@[simp] theorem State.takeInbox_prm (s : State) (op : Nat) (c : Cmd) : (s.takeInbox op c).prm = s.prm := rfl
@[simp] theorem State.takeInbox_eth (s : State) (op : Nat) (c : Cmd) : (s.takeInbox op c).eth = s.eth := rfl
@[simp] theorem State.takeInbox_pnl (s : State) (op : Nat) (c : Cmd) : (s.takeInbox op c).pnl = s.pnl := rfl
@[simp] theorem State.takeInbox_flt (s : State) (op : Nat) (c : Cmd) : (s.takeInbox op c).flt = s.flt := rfl
@[simp] theorem State.takeInbox_upd (s : State) (op : Nat) (c : Cmd) : (s.takeInbox op c).upd = s.upd := rfl
@[simp] theorem State.takeInbox_out (s : State) (op : Nat) (c : Cmd) : (s.takeInbox op c).out = s.out := rfl

@[simp] theorem State.keep_pending (s : State) (k : Nat) (c : Cmd) (r : Option Slot) : (s.keep k c r).pending = s.pending := rfl
@[simp] theorem State.keep_clk (s : State) (k : Nat) (c : Cmd) (r : Option Slot) : (s.keep k c r).clk = s.clk := rfl
@[simp] theorem State.keep_regs (s : State) (k : Nat) (c : Cmd) (r : Option Slot) : (s.keep k c r).regs = s.regs := rfl
@[simp] theorem State.keep_shadow (s : State) (k : Nat) (c : Cmd) (r : Option Slot) : (s.keep k c r).shadow = s.shadow := rfl
@[simp] theorem State.keep_fab (s : State) (k : Nat) (c : Cmd) (r : Option Slot) : (s.keep k c r).fab = s.fab := rfl
@[simp] theorem State.keep_fns (s : State) (k : Nat) (c : Cmd) (r : Option Slot) : (s.keep k c r).fns = s.fns := rfl
@[simp] theorem State.keep_pwr (s : State) (k : Nat) (c : Cmd) (r : Option Slot) : (s.keep k c r).pwr = s.pwr := rfl
@[simp] theorem State.keep_almanac (s : State) (k : Nat) (c : Cmd) (r : Option Slot) : (s.keep k c r).almanac = s.almanac := rfl
@[simp] theorem State.keep_inp (s : State) (k : Nat) (c : Cmd) (r : Option Slot) : (s.keep k c r).inp = s.inp := rfl
@[simp] theorem State.keep_cst (s : State) (k : Nat) (c : Cmd) (r : Option Slot) : (s.keep k c r).cst = s.cst := rfl
@[simp] theorem State.keep_ypl (s : State) (k : Nat) (c : Cmd) (r : Option Slot) : (s.keep k c r).ypl = s.ypl := rfl
@[simp] theorem State.keep_saf (s : State) (k : Nat) (c : Cmd) (r : Option Slot) : (s.keep k c r).saf = s.saf := rfl
@[simp] theorem State.keep_adr (s : State) (k : Nat) (c : Cmd) (r : Option Slot) : (s.keep k c r).adr = s.adr := rfl
@[simp] theorem State.keep_psw (s : State) (k : Nat) (c : Cmd) (r : Option Slot) : (s.keep k c r).psw = s.psw := rfl
@[simp] theorem State.keep_mer (s : State) (k : Nat) (c : Cmd) (r : Option Slot) : (s.keep k c r).mer = s.mer := rfl
@[simp] theorem State.keep_trn (s : State) (k : Nat) (c : Cmd) (r : Option Slot) : (s.keep k c r).trn = s.trn := rfl
@[simp] theorem State.keep_pos (s : State) (k : Nat) (c : Cmd) (r : Option Slot) : (s.keep k c r).pos = s.pos := rfl
@[simp] theorem State.keep_gptp (s : State) (k : Nat) (c : Cmd) (r : Option Slot) : (s.keep k c r).gptp = s.gptp := rfl
@[simp] theorem State.keep_cam (s : State) (k : Nat) (c : Cmd) (r : Option Slot) : (s.keep k c r).cam = s.cam := rfl
@[simp] theorem State.keep_vxa (s : State) (k : Nat) (c : Cmd) (r : Option Slot) : (s.keep k c r).vxa = s.vxa := rfl
@[simp] theorem State.keep_ast (s : State) (k : Nat) (c : Cmd) (r : Option Slot) : (s.keep k c r).ast = s.ast := rfl
@[simp] theorem State.keep_pair (s : State) (k : Nat) (c : Cmd) (r : Option Slot) : (s.keep k c r).pair = s.pair := rfl
@[simp] theorem State.keep_can (s : State) (k : Nat) (c : Cmd) (r : Option Slot) : (s.keep k c r).can = s.can := rfl
@[simp] theorem State.keep_prm (s : State) (k : Nat) (c : Cmd) (r : Option Slot) : (s.keep k c r).prm = s.prm := rfl
@[simp] theorem State.keep_eth (s : State) (k : Nat) (c : Cmd) (r : Option Slot) : (s.keep k c r).eth = s.eth := rfl
@[simp] theorem State.keep_pnl (s : State) (k : Nat) (c : Cmd) (r : Option Slot) : (s.keep k c r).pnl = s.pnl := rfl
@[simp] theorem State.keep_flt (s : State) (k : Nat) (c : Cmd) (r : Option Slot) : (s.keep k c r).flt = s.flt := rfl
@[simp] theorem State.keep_upd (s : State) (k : Nat) (c : Cmd) (r : Option Slot) : (s.keep k c r).upd = s.upd := rfl
@[simp] theorem State.keep_out (s : State) (k : Nat) (c : Cmd) (r : Option Slot) : (s.keep k c r).out = s.out := rfl

/-! ### What a register reads after a write -/

theorem State.wr_rd (s : State) (a b : Nat) (v : Word) : (s.wr a v).rd b = if b = a then v else s.rd b := Regs.get_set _ _ _ _
@[simp] theorem State.wr_rd_same (s : State) (a : Nat) (v : Word) : (s.wr a v).rd a = v := by rw [State.wr_rd, if_pos rfl]
theorem State.wr_rd_ne (s : State) {a b : Nat} (v : Word) (h : b ≠ a) : (s.wr a v).rd b = s.rd b := by rw [State.wr_rd, if_neg h]
theorem State.wfSet_rd (s : State) (a hi lo v b : Nat) :
    (s.wf_ a hi lo v).rd b = if b = a then setFld (s.rd a) hi lo v else s.rd b := State.wr_rd _ _ _ _
theorem State.wb_rd (s : State) (a n : Nat) (v : Bool) (b : Nat) :
    (s.wb a n v).rd b = if b = a then setBit (s.rd a) n v else s.rd b := State.wr_rd _ _ _ _
theorem State.inc_rd (s : State) (a b : Nat) : (s.inc a).rd b = if b = a then s.rd a + 1#32 else s.rd b := State.wr_rd _ _ _ _
theorem State.addCnt_rd (s : State) (a n b : Nat) : (s.addCnt a n).rd b = if b = a then s.rd a + word n else s.rd b :=
  State.wr_rd _ _ _ _
theorem State.orW_rd (s : State) (a : Nat) (m : Word) (b : Nat) :
    (s.orW a m).rd b = if b = a then s.rd a ||| m else s.rd b := State.wr_rd _ _ _ _
theorem State.andNotW_rd (s : State) (a : Nat) (m : Word) (b : Nat) :
    (s.andNotW a m).rd b = if b = a then s.rd a &&& ~~~m else s.rd b := State.wr_rd _ _ _ _
theorem State.setSig_sig (s : State) (n : Nat) (v : Word) (h : n < 512) : (s.setSig n v).sig n = v := by
  have : R.FAB_SIG n ≠ R.FAB_SIG_VALID (n / 32) := by unfold R.FAB_SIG R.FAB_SIG_VALID; omega
  unfold State.sig State.setSig
  change ((s.wr _ v).wb _ _ true).rd _ = v
  rw [State.wb_rd, if_neg this, State.wr_rd_same]
/-- A register other than a signal's entry and validity bit after the signal was written. -/
theorem State.setSig_rd (s : State) (n : Nat) (v : Word) {b : Nat} (h : b ≠ R.FAB_SIG n) (h' : b ≠ R.FAB_SIG_VALID (n / 32)) :
    (s.setSig n v).rd b = s.rd b := by
  unfold State.setSig
  change ((s.wr _ v).wb _ _ true).rd _ = _
  rw [State.wb_rd, if_neg h', State.wr_rd_ne _ _ h]
/-- A register other than a signal's entry and validity bit after the signal became invalid. -/
theorem State.dropSig_rd (s : State) (n : Nat) {b : Nat} (h : b ≠ R.FAB_SIG n) (h' : b ≠ R.FAB_SIG_VALID (n / 32)) :
    (s.dropSig n).rd b = s.rd b := by
  unfold State.dropSig
  rw [State.wb_rd, if_neg h', State.wr_rd_ne _ _ h]
@[simp] theorem State.setFn_rd (s : State) (f : Nat) (g : Fn → Fn) (a : Nat) : (s.setFn f g).rd a = s.rd a := rfl
@[simp] theorem State.setSes_rd (s : State) (k : Nat) (g : Session → Session) (a : Nat) : (s.setSes k g).rd a = s.rd a := rfl
@[simp] theorem State.begun_rd (s : State) (a : Nat) : s.begun.rd a = s.rd a := rfl
@[simp] theorem State.begun_sig (s : State) (n : Nat) : s.begun.sig n = s.sig n := rfl
@[simp] theorem State.begun_bt (s : State) (a b : Nat) : s.begun.bt a b = s.bt a b := rfl
@[simp] theorem State.begun_fd (s : State) (a h l : Nat) : s.begun.fd a h l = s.fd a h l := rfl
@[simp] theorem State.begun_isRunning (s : State) (f : Nat) : s.begun.isRunning f = s.isRunning f := rfl
@[simp] theorem State.begun_dome (s : State) : s.begun.dome = s.dome := rfl
@[simp] theorem State.begun_pending (s : State) : s.begun.pending = s.pending := rfl
@[simp] theorem State.begun_clk (s : State) : s.begun.clk = s.clk := rfl
@[simp] theorem State.begun_regs (s : State) : s.begun.regs = s.regs := rfl
@[simp] theorem State.begun_shadow (s : State) : s.begun.shadow = s.shadow := rfl
@[simp] theorem State.begun_fab (s : State) : s.begun.fab = s.fab := rfl
@[simp] theorem State.begun_mbx (s : State) : s.begun.mbx = s.mbx := rfl
@[simp] theorem State.begun_fns (s : State) : s.begun.fns = s.fns := rfl
@[simp] theorem State.begun_pwr (s : State) : s.begun.pwr = s.pwr := rfl
@[simp] theorem State.begun_almanac (s : State) : s.begun.almanac = s.almanac := rfl
@[simp] theorem State.begun_inp (s : State) : s.begun.inp = s.inp := rfl
@[simp] theorem State.begun_cst (s : State) : s.begun.cst = s.cst := rfl
@[simp] theorem State.begun_ypl (s : State) : s.begun.ypl = s.ypl := rfl
@[simp] theorem State.begun_saf (s : State) : s.begun.saf = s.saf := rfl
@[simp] theorem State.begun_adr (s : State) : s.begun.adr = s.adr := rfl
@[simp] theorem State.begun_psw (s : State) : s.begun.psw = s.psw := rfl
@[simp] theorem State.begun_mer (s : State) : s.begun.mer = s.mer := rfl
@[simp] theorem State.begun_trn (s : State) : s.begun.trn = s.trn := rfl
@[simp] theorem State.begun_pos (s : State) : s.begun.pos = s.pos := rfl
@[simp] theorem State.begun_gptp (s : State) : s.begun.gptp = s.gptp := rfl
@[simp] theorem State.begun_cam (s : State) : s.begun.cam = s.cam := rfl
@[simp] theorem State.begun_vxa (s : State) : s.begun.vxa = s.vxa := rfl
@[simp] theorem State.begun_ast (s : State) : s.begun.ast = s.ast := rfl
@[simp] theorem State.begun_pair (s : State) : s.begun.pair = s.pair := rfl
@[simp] theorem State.begun_can (s : State) : s.begun.can = s.can := rfl
@[simp] theorem State.begun_prm (s : State) : s.begun.prm = s.prm := rfl
@[simp] theorem State.begun_eth (s : State) : s.begun.eth = s.eth := rfl
@[simp] theorem State.begun_pnl (s : State) : s.begun.pnl = s.pnl := rfl
@[simp] theorem State.begun_flt (s : State) : s.begun.flt = s.flt := rfl
@[simp] theorem State.begun_upd (s : State) : s.begun.upd = s.upd := rfl

end Sys2Proof.Machine
end

