-- ==== Sys2Proof/Laws/Units.lean ====
section
/-!
SUPPORT. The fields of State after an update of one unit, and what a register reads after it; each true by rfl.
-/
set_option Elab.async false
namespace Sys2Proof.Machine

@[simp] theorem State.setIn_pending (s : State) (f : Inputs → Inputs) : (s.setIn f).pending = s.pending := rfl
@[simp] theorem State.setIn_clk (s : State) (f : Inputs → Inputs) : (s.setIn f).clk = s.clk := rfl
@[simp] theorem State.setIn_regs (s : State) (f : Inputs → Inputs) : (s.setIn f).regs = s.regs := rfl
@[simp] theorem State.setIn_shadow (s : State) (f : Inputs → Inputs) : (s.setIn f).shadow = s.shadow := rfl
@[simp] theorem State.setIn_fab (s : State) (f : Inputs → Inputs) : (s.setIn f).fab = s.fab := rfl
@[simp] theorem State.setIn_mbx (s : State) (f : Inputs → Inputs) : (s.setIn f).mbx = s.mbx := rfl
@[simp] theorem State.setIn_fns (s : State) (f : Inputs → Inputs) : (s.setIn f).fns = s.fns := rfl
@[simp] theorem State.setIn_pwr (s : State) (f : Inputs → Inputs) : (s.setIn f).pwr = s.pwr := rfl
@[simp] theorem State.setIn_almanac (s : State) (f : Inputs → Inputs) : (s.setIn f).almanac = s.almanac := rfl
@[simp] theorem State.setIn_inp (s : State) (f : Inputs → Inputs) : (s.setIn f).inp = f s.inp := rfl
@[simp] theorem State.setIn_cst (s : State) (f : Inputs → Inputs) : (s.setIn f).cst = s.cst := rfl
@[simp] theorem State.setIn_ypl (s : State) (f : Inputs → Inputs) : (s.setIn f).ypl = s.ypl := rfl
@[simp] theorem State.setIn_saf (s : State) (f : Inputs → Inputs) : (s.setIn f).saf = s.saf := rfl
@[simp] theorem State.setIn_adr (s : State) (f : Inputs → Inputs) : (s.setIn f).adr = s.adr := rfl
@[simp] theorem State.setIn_psw (s : State) (f : Inputs → Inputs) : (s.setIn f).psw = s.psw := rfl
@[simp] theorem State.setIn_mer (s : State) (f : Inputs → Inputs) : (s.setIn f).mer = s.mer := rfl
@[simp] theorem State.setIn_trn (s : State) (f : Inputs → Inputs) : (s.setIn f).trn = s.trn := rfl
@[simp] theorem State.setIn_pos (s : State) (f : Inputs → Inputs) : (s.setIn f).pos = s.pos := rfl
@[simp] theorem State.setIn_gptp (s : State) (f : Inputs → Inputs) : (s.setIn f).gptp = s.gptp := rfl
@[simp] theorem State.setIn_cam (s : State) (f : Inputs → Inputs) : (s.setIn f).cam = s.cam := rfl
@[simp] theorem State.setIn_vxa (s : State) (f : Inputs → Inputs) : (s.setIn f).vxa = s.vxa := rfl
@[simp] theorem State.setIn_ast (s : State) (f : Inputs → Inputs) : (s.setIn f).ast = s.ast := rfl
@[simp] theorem State.setIn_pair (s : State) (f : Inputs → Inputs) : (s.setIn f).pair = s.pair := rfl
@[simp] theorem State.setIn_can (s : State) (f : Inputs → Inputs) : (s.setIn f).can = s.can := rfl
@[simp] theorem State.setIn_prm (s : State) (f : Inputs → Inputs) : (s.setIn f).prm = s.prm := rfl
@[simp] theorem State.setIn_eth (s : State) (f : Inputs → Inputs) : (s.setIn f).eth = s.eth := rfl
@[simp] theorem State.setIn_pnl (s : State) (f : Inputs → Inputs) : (s.setIn f).pnl = s.pnl := rfl
@[simp] theorem State.setIn_flt (s : State) (f : Inputs → Inputs) : (s.setIn f).flt = s.flt := rfl
@[simp] theorem State.setIn_upd (s : State) (f : Inputs → Inputs) : (s.setIn f).upd = s.upd := rfl
@[simp] theorem State.setIn_out (s : State) (f : Inputs → Inputs) : (s.setIn f).out = s.out := rfl
@[simp] theorem State.setIn_rd (s : State) (f : Inputs → Inputs) (a : Nat) : (s.setIn f).rd a = s.rd a := rfl

@[simp] theorem State.setAdr_pending (s : State) (f : Adr → Adr) : (s.setAdr f).pending = s.pending := rfl
@[simp] theorem State.setAdr_clk (s : State) (f : Adr → Adr) : (s.setAdr f).clk = s.clk := rfl
@[simp] theorem State.setAdr_regs (s : State) (f : Adr → Adr) : (s.setAdr f).regs = s.regs := rfl
@[simp] theorem State.setAdr_shadow (s : State) (f : Adr → Adr) : (s.setAdr f).shadow = s.shadow := rfl
@[simp] theorem State.setAdr_fab (s : State) (f : Adr → Adr) : (s.setAdr f).fab = s.fab := rfl
@[simp] theorem State.setAdr_mbx (s : State) (f : Adr → Adr) : (s.setAdr f).mbx = s.mbx := rfl
@[simp] theorem State.setAdr_fns (s : State) (f : Adr → Adr) : (s.setAdr f).fns = s.fns := rfl
@[simp] theorem State.setAdr_pwr (s : State) (f : Adr → Adr) : (s.setAdr f).pwr = s.pwr := rfl
@[simp] theorem State.setAdr_almanac (s : State) (f : Adr → Adr) : (s.setAdr f).almanac = s.almanac := rfl
@[simp] theorem State.setAdr_inp (s : State) (f : Adr → Adr) : (s.setAdr f).inp = s.inp := rfl
@[simp] theorem State.setAdr_cst (s : State) (f : Adr → Adr) : (s.setAdr f).cst = s.cst := rfl
@[simp] theorem State.setAdr_ypl (s : State) (f : Adr → Adr) : (s.setAdr f).ypl = s.ypl := rfl
@[simp] theorem State.setAdr_saf (s : State) (f : Adr → Adr) : (s.setAdr f).saf = s.saf := rfl
@[simp] theorem State.setAdr_adr (s : State) (f : Adr → Adr) : (s.setAdr f).adr = f s.adr := rfl
@[simp] theorem State.setAdr_psw (s : State) (f : Adr → Adr) : (s.setAdr f).psw = s.psw := rfl
@[simp] theorem State.setAdr_mer (s : State) (f : Adr → Adr) : (s.setAdr f).mer = s.mer := rfl
@[simp] theorem State.setAdr_trn (s : State) (f : Adr → Adr) : (s.setAdr f).trn = s.trn := rfl
@[simp] theorem State.setAdr_pos (s : State) (f : Adr → Adr) : (s.setAdr f).pos = s.pos := rfl
@[simp] theorem State.setAdr_gptp (s : State) (f : Adr → Adr) : (s.setAdr f).gptp = s.gptp := rfl
@[simp] theorem State.setAdr_cam (s : State) (f : Adr → Adr) : (s.setAdr f).cam = s.cam := rfl
@[simp] theorem State.setAdr_vxa (s : State) (f : Adr → Adr) : (s.setAdr f).vxa = s.vxa := rfl
@[simp] theorem State.setAdr_ast (s : State) (f : Adr → Adr) : (s.setAdr f).ast = s.ast := rfl
@[simp] theorem State.setAdr_pair (s : State) (f : Adr → Adr) : (s.setAdr f).pair = s.pair := rfl
@[simp] theorem State.setAdr_can (s : State) (f : Adr → Adr) : (s.setAdr f).can = s.can := rfl
@[simp] theorem State.setAdr_prm (s : State) (f : Adr → Adr) : (s.setAdr f).prm = s.prm := rfl
@[simp] theorem State.setAdr_eth (s : State) (f : Adr → Adr) : (s.setAdr f).eth = s.eth := rfl
@[simp] theorem State.setAdr_pnl (s : State) (f : Adr → Adr) : (s.setAdr f).pnl = s.pnl := rfl
@[simp] theorem State.setAdr_flt (s : State) (f : Adr → Adr) : (s.setAdr f).flt = s.flt := rfl
@[simp] theorem State.setAdr_upd (s : State) (f : Adr → Adr) : (s.setAdr f).upd = s.upd := rfl
@[simp] theorem State.setAdr_out (s : State) (f : Adr → Adr) : (s.setAdr f).out = s.out := rfl
@[simp] theorem State.setAdr_rd (s : State) (f : Adr → Adr) (a : Nat) : (s.setAdr f).rd a = s.rd a := rfl

@[simp] theorem State.setCam_pending (s : State) (f : Cam → Cam) : (s.setCam f).pending = s.pending := rfl
@[simp] theorem State.setCam_clk (s : State) (f : Cam → Cam) : (s.setCam f).clk = s.clk := rfl
@[simp] theorem State.setCam_regs (s : State) (f : Cam → Cam) : (s.setCam f).regs = s.regs := rfl
@[simp] theorem State.setCam_shadow (s : State) (f : Cam → Cam) : (s.setCam f).shadow = s.shadow := rfl
@[simp] theorem State.setCam_fab (s : State) (f : Cam → Cam) : (s.setCam f).fab = s.fab := rfl
@[simp] theorem State.setCam_mbx (s : State) (f : Cam → Cam) : (s.setCam f).mbx = s.mbx := rfl
@[simp] theorem State.setCam_fns (s : State) (f : Cam → Cam) : (s.setCam f).fns = s.fns := rfl
@[simp] theorem State.setCam_pwr (s : State) (f : Cam → Cam) : (s.setCam f).pwr = s.pwr := rfl
@[simp] theorem State.setCam_almanac (s : State) (f : Cam → Cam) : (s.setCam f).almanac = s.almanac := rfl
@[simp] theorem State.setCam_inp (s : State) (f : Cam → Cam) : (s.setCam f).inp = s.inp := rfl
@[simp] theorem State.setCam_cst (s : State) (f : Cam → Cam) : (s.setCam f).cst = s.cst := rfl
@[simp] theorem State.setCam_ypl (s : State) (f : Cam → Cam) : (s.setCam f).ypl = s.ypl := rfl
@[simp] theorem State.setCam_saf (s : State) (f : Cam → Cam) : (s.setCam f).saf = s.saf := rfl
@[simp] theorem State.setCam_adr (s : State) (f : Cam → Cam) : (s.setCam f).adr = s.adr := rfl
@[simp] theorem State.setCam_psw (s : State) (f : Cam → Cam) : (s.setCam f).psw = s.psw := rfl
@[simp] theorem State.setCam_mer (s : State) (f : Cam → Cam) : (s.setCam f).mer = s.mer := rfl
@[simp] theorem State.setCam_trn (s : State) (f : Cam → Cam) : (s.setCam f).trn = s.trn := rfl
@[simp] theorem State.setCam_pos (s : State) (f : Cam → Cam) : (s.setCam f).pos = s.pos := rfl
@[simp] theorem State.setCam_gptp (s : State) (f : Cam → Cam) : (s.setCam f).gptp = s.gptp := rfl
@[simp] theorem State.setCam_cam (s : State) (f : Cam → Cam) : (s.setCam f).cam = f s.cam := rfl
@[simp] theorem State.setCam_vxa (s : State) (f : Cam → Cam) : (s.setCam f).vxa = s.vxa := rfl
@[simp] theorem State.setCam_ast (s : State) (f : Cam → Cam) : (s.setCam f).ast = s.ast := rfl
@[simp] theorem State.setCam_pair (s : State) (f : Cam → Cam) : (s.setCam f).pair = s.pair := rfl
@[simp] theorem State.setCam_can (s : State) (f : Cam → Cam) : (s.setCam f).can = s.can := rfl
@[simp] theorem State.setCam_prm (s : State) (f : Cam → Cam) : (s.setCam f).prm = s.prm := rfl
@[simp] theorem State.setCam_eth (s : State) (f : Cam → Cam) : (s.setCam f).eth = s.eth := rfl
@[simp] theorem State.setCam_pnl (s : State) (f : Cam → Cam) : (s.setCam f).pnl = s.pnl := rfl
@[simp] theorem State.setCam_flt (s : State) (f : Cam → Cam) : (s.setCam f).flt = s.flt := rfl
@[simp] theorem State.setCam_upd (s : State) (f : Cam → Cam) : (s.setCam f).upd = s.upd := rfl
@[simp] theorem State.setCam_out (s : State) (f : Cam → Cam) : (s.setCam f).out = s.out := rfl
@[simp] theorem State.setCam_rd (s : State) (f : Cam → Cam) (a : Nat) : (s.setCam f).rd a = s.rd a := rfl

@[simp] theorem State.setCan_pending (s : State) (f : Can → Can) : (s.setCan f).pending = s.pending := rfl
@[simp] theorem State.setCan_clk (s : State) (f : Can → Can) : (s.setCan f).clk = s.clk := rfl
@[simp] theorem State.setCan_regs (s : State) (f : Can → Can) : (s.setCan f).regs = s.regs := rfl
@[simp] theorem State.setCan_shadow (s : State) (f : Can → Can) : (s.setCan f).shadow = s.shadow := rfl
@[simp] theorem State.setCan_fab (s : State) (f : Can → Can) : (s.setCan f).fab = s.fab := rfl
@[simp] theorem State.setCan_mbx (s : State) (f : Can → Can) : (s.setCan f).mbx = s.mbx := rfl
@[simp] theorem State.setCan_fns (s : State) (f : Can → Can) : (s.setCan f).fns = s.fns := rfl
@[simp] theorem State.setCan_pwr (s : State) (f : Can → Can) : (s.setCan f).pwr = s.pwr := rfl
@[simp] theorem State.setCan_almanac (s : State) (f : Can → Can) : (s.setCan f).almanac = s.almanac := rfl
@[simp] theorem State.setCan_inp (s : State) (f : Can → Can) : (s.setCan f).inp = s.inp := rfl
@[simp] theorem State.setCan_cst (s : State) (f : Can → Can) : (s.setCan f).cst = s.cst := rfl
@[simp] theorem State.setCan_ypl (s : State) (f : Can → Can) : (s.setCan f).ypl = s.ypl := rfl
@[simp] theorem State.setCan_saf (s : State) (f : Can → Can) : (s.setCan f).saf = s.saf := rfl
@[simp] theorem State.setCan_adr (s : State) (f : Can → Can) : (s.setCan f).adr = s.adr := rfl
@[simp] theorem State.setCan_psw (s : State) (f : Can → Can) : (s.setCan f).psw = s.psw := rfl
@[simp] theorem State.setCan_mer (s : State) (f : Can → Can) : (s.setCan f).mer = s.mer := rfl
@[simp] theorem State.setCan_trn (s : State) (f : Can → Can) : (s.setCan f).trn = s.trn := rfl
@[simp] theorem State.setCan_pos (s : State) (f : Can → Can) : (s.setCan f).pos = s.pos := rfl
@[simp] theorem State.setCan_gptp (s : State) (f : Can → Can) : (s.setCan f).gptp = s.gptp := rfl
@[simp] theorem State.setCan_cam (s : State) (f : Can → Can) : (s.setCan f).cam = s.cam := rfl
@[simp] theorem State.setCan_vxa (s : State) (f : Can → Can) : (s.setCan f).vxa = s.vxa := rfl
@[simp] theorem State.setCan_ast (s : State) (f : Can → Can) : (s.setCan f).ast = s.ast := rfl
@[simp] theorem State.setCan_pair (s : State) (f : Can → Can) : (s.setCan f).pair = s.pair := rfl
@[simp] theorem State.setCan_can (s : State) (f : Can → Can) : (s.setCan f).can = f s.can := rfl
@[simp] theorem State.setCan_prm (s : State) (f : Can → Can) : (s.setCan f).prm = s.prm := rfl
@[simp] theorem State.setCan_eth (s : State) (f : Can → Can) : (s.setCan f).eth = s.eth := rfl
@[simp] theorem State.setCan_pnl (s : State) (f : Can → Can) : (s.setCan f).pnl = s.pnl := rfl
@[simp] theorem State.setCan_flt (s : State) (f : Can → Can) : (s.setCan f).flt = s.flt := rfl
@[simp] theorem State.setCan_upd (s : State) (f : Can → Can) : (s.setCan f).upd = s.upd := rfl
@[simp] theorem State.setCan_out (s : State) (f : Can → Can) : (s.setCan f).out = s.out := rfl
@[simp] theorem State.setCan_rd (s : State) (f : Can → Can) (a : Nat) : (s.setCan f).rd a = s.rd a := rfl

@[simp] theorem State.setCst_pending (s : State) (f : Cst → Cst) : (s.setCst f).pending = s.pending := rfl
@[simp] theorem State.setCst_clk (s : State) (f : Cst → Cst) : (s.setCst f).clk = s.clk := rfl
@[simp] theorem State.setCst_regs (s : State) (f : Cst → Cst) : (s.setCst f).regs = s.regs := rfl
@[simp] theorem State.setCst_shadow (s : State) (f : Cst → Cst) : (s.setCst f).shadow = s.shadow := rfl
@[simp] theorem State.setCst_fab (s : State) (f : Cst → Cst) : (s.setCst f).fab = s.fab := rfl
@[simp] theorem State.setCst_mbx (s : State) (f : Cst → Cst) : (s.setCst f).mbx = s.mbx := rfl
@[simp] theorem State.setCst_fns (s : State) (f : Cst → Cst) : (s.setCst f).fns = s.fns := rfl
@[simp] theorem State.setCst_pwr (s : State) (f : Cst → Cst) : (s.setCst f).pwr = s.pwr := rfl
@[simp] theorem State.setCst_almanac (s : State) (f : Cst → Cst) : (s.setCst f).almanac = s.almanac := rfl
@[simp] theorem State.setCst_inp (s : State) (f : Cst → Cst) : (s.setCst f).inp = s.inp := rfl
@[simp] theorem State.setCst_cst (s : State) (f : Cst → Cst) : (s.setCst f).cst = f s.cst := rfl
@[simp] theorem State.setCst_ypl (s : State) (f : Cst → Cst) : (s.setCst f).ypl = s.ypl := rfl
@[simp] theorem State.setCst_saf (s : State) (f : Cst → Cst) : (s.setCst f).saf = s.saf := rfl
@[simp] theorem State.setCst_adr (s : State) (f : Cst → Cst) : (s.setCst f).adr = s.adr := rfl
@[simp] theorem State.setCst_psw (s : State) (f : Cst → Cst) : (s.setCst f).psw = s.psw := rfl
@[simp] theorem State.setCst_mer (s : State) (f : Cst → Cst) : (s.setCst f).mer = s.mer := rfl
@[simp] theorem State.setCst_trn (s : State) (f : Cst → Cst) : (s.setCst f).trn = s.trn := rfl
@[simp] theorem State.setCst_pos (s : State) (f : Cst → Cst) : (s.setCst f).pos = s.pos := rfl
@[simp] theorem State.setCst_gptp (s : State) (f : Cst → Cst) : (s.setCst f).gptp = s.gptp := rfl
@[simp] theorem State.setCst_cam (s : State) (f : Cst → Cst) : (s.setCst f).cam = s.cam := rfl
@[simp] theorem State.setCst_vxa (s : State) (f : Cst → Cst) : (s.setCst f).vxa = s.vxa := rfl
@[simp] theorem State.setCst_ast (s : State) (f : Cst → Cst) : (s.setCst f).ast = s.ast := rfl
@[simp] theorem State.setCst_pair (s : State) (f : Cst → Cst) : (s.setCst f).pair = s.pair := rfl
@[simp] theorem State.setCst_can (s : State) (f : Cst → Cst) : (s.setCst f).can = s.can := rfl
@[simp] theorem State.setCst_prm (s : State) (f : Cst → Cst) : (s.setCst f).prm = s.prm := rfl
@[simp] theorem State.setCst_eth (s : State) (f : Cst → Cst) : (s.setCst f).eth = s.eth := rfl
@[simp] theorem State.setCst_pnl (s : State) (f : Cst → Cst) : (s.setCst f).pnl = s.pnl := rfl
@[simp] theorem State.setCst_flt (s : State) (f : Cst → Cst) : (s.setCst f).flt = s.flt := rfl
@[simp] theorem State.setCst_upd (s : State) (f : Cst → Cst) : (s.setCst f).upd = s.upd := rfl
@[simp] theorem State.setCst_out (s : State) (f : Cst → Cst) : (s.setCst f).out = s.out := rfl
@[simp] theorem State.setCst_rd (s : State) (f : Cst → Cst) (a : Nat) : (s.setCst f).rd a = s.rd a := rfl

@[simp] theorem State.setEth_pending (s : State) (f : Eth → Eth) : (s.setEth f).pending = s.pending := rfl
@[simp] theorem State.setEth_clk (s : State) (f : Eth → Eth) : (s.setEth f).clk = s.clk := rfl
@[simp] theorem State.setEth_regs (s : State) (f : Eth → Eth) : (s.setEth f).regs = s.regs := rfl
@[simp] theorem State.setEth_shadow (s : State) (f : Eth → Eth) : (s.setEth f).shadow = s.shadow := rfl
@[simp] theorem State.setEth_fab (s : State) (f : Eth → Eth) : (s.setEth f).fab = s.fab := rfl
@[simp] theorem State.setEth_mbx (s : State) (f : Eth → Eth) : (s.setEth f).mbx = s.mbx := rfl
@[simp] theorem State.setEth_fns (s : State) (f : Eth → Eth) : (s.setEth f).fns = s.fns := rfl
@[simp] theorem State.setEth_pwr (s : State) (f : Eth → Eth) : (s.setEth f).pwr = s.pwr := rfl
@[simp] theorem State.setEth_almanac (s : State) (f : Eth → Eth) : (s.setEth f).almanac = s.almanac := rfl
@[simp] theorem State.setEth_inp (s : State) (f : Eth → Eth) : (s.setEth f).inp = s.inp := rfl
@[simp] theorem State.setEth_cst (s : State) (f : Eth → Eth) : (s.setEth f).cst = s.cst := rfl
@[simp] theorem State.setEth_ypl (s : State) (f : Eth → Eth) : (s.setEth f).ypl = s.ypl := rfl
@[simp] theorem State.setEth_saf (s : State) (f : Eth → Eth) : (s.setEth f).saf = s.saf := rfl
@[simp] theorem State.setEth_adr (s : State) (f : Eth → Eth) : (s.setEth f).adr = s.adr := rfl
@[simp] theorem State.setEth_psw (s : State) (f : Eth → Eth) : (s.setEth f).psw = s.psw := rfl
@[simp] theorem State.setEth_mer (s : State) (f : Eth → Eth) : (s.setEth f).mer = s.mer := rfl
@[simp] theorem State.setEth_trn (s : State) (f : Eth → Eth) : (s.setEth f).trn = s.trn := rfl
@[simp] theorem State.setEth_pos (s : State) (f : Eth → Eth) : (s.setEth f).pos = s.pos := rfl
@[simp] theorem State.setEth_gptp (s : State) (f : Eth → Eth) : (s.setEth f).gptp = s.gptp := rfl
@[simp] theorem State.setEth_cam (s : State) (f : Eth → Eth) : (s.setEth f).cam = s.cam := rfl
@[simp] theorem State.setEth_vxa (s : State) (f : Eth → Eth) : (s.setEth f).vxa = s.vxa := rfl
@[simp] theorem State.setEth_ast (s : State) (f : Eth → Eth) : (s.setEth f).ast = s.ast := rfl
@[simp] theorem State.setEth_pair (s : State) (f : Eth → Eth) : (s.setEth f).pair = s.pair := rfl
@[simp] theorem State.setEth_can (s : State) (f : Eth → Eth) : (s.setEth f).can = s.can := rfl
@[simp] theorem State.setEth_prm (s : State) (f : Eth → Eth) : (s.setEth f).prm = s.prm := rfl
@[simp] theorem State.setEth_eth (s : State) (f : Eth → Eth) : (s.setEth f).eth = f s.eth := rfl
@[simp] theorem State.setEth_pnl (s : State) (f : Eth → Eth) : (s.setEth f).pnl = s.pnl := rfl
@[simp] theorem State.setEth_flt (s : State) (f : Eth → Eth) : (s.setEth f).flt = s.flt := rfl
@[simp] theorem State.setEth_upd (s : State) (f : Eth → Eth) : (s.setEth f).upd = s.upd := rfl
@[simp] theorem State.setEth_out (s : State) (f : Eth → Eth) : (s.setEth f).out = s.out := rfl
@[simp] theorem State.setEth_rd (s : State) (f : Eth → Eth) (a : Nat) : (s.setEth f).rd a = s.rd a := rfl

@[simp] theorem State.setGptp_pending (s : State) (f : Gptp → Gptp) : (s.setGptp f).pending = s.pending := rfl
@[simp] theorem State.setGptp_clk (s : State) (f : Gptp → Gptp) : (s.setGptp f).clk = s.clk := rfl
@[simp] theorem State.setGptp_regs (s : State) (f : Gptp → Gptp) : (s.setGptp f).regs = s.regs := rfl
@[simp] theorem State.setGptp_shadow (s : State) (f : Gptp → Gptp) : (s.setGptp f).shadow = s.shadow := rfl
@[simp] theorem State.setGptp_fab (s : State) (f : Gptp → Gptp) : (s.setGptp f).fab = s.fab := rfl
@[simp] theorem State.setGptp_mbx (s : State) (f : Gptp → Gptp) : (s.setGptp f).mbx = s.mbx := rfl
@[simp] theorem State.setGptp_fns (s : State) (f : Gptp → Gptp) : (s.setGptp f).fns = s.fns := rfl
@[simp] theorem State.setGptp_pwr (s : State) (f : Gptp → Gptp) : (s.setGptp f).pwr = s.pwr := rfl
@[simp] theorem State.setGptp_almanac (s : State) (f : Gptp → Gptp) : (s.setGptp f).almanac = s.almanac := rfl
@[simp] theorem State.setGptp_inp (s : State) (f : Gptp → Gptp) : (s.setGptp f).inp = s.inp := rfl
@[simp] theorem State.setGptp_cst (s : State) (f : Gptp → Gptp) : (s.setGptp f).cst = s.cst := rfl
@[simp] theorem State.setGptp_ypl (s : State) (f : Gptp → Gptp) : (s.setGptp f).ypl = s.ypl := rfl
@[simp] theorem State.setGptp_saf (s : State) (f : Gptp → Gptp) : (s.setGptp f).saf = s.saf := rfl
@[simp] theorem State.setGptp_adr (s : State) (f : Gptp → Gptp) : (s.setGptp f).adr = s.adr := rfl
@[simp] theorem State.setGptp_psw (s : State) (f : Gptp → Gptp) : (s.setGptp f).psw = s.psw := rfl
@[simp] theorem State.setGptp_mer (s : State) (f : Gptp → Gptp) : (s.setGptp f).mer = s.mer := rfl
@[simp] theorem State.setGptp_trn (s : State) (f : Gptp → Gptp) : (s.setGptp f).trn = s.trn := rfl
@[simp] theorem State.setGptp_pos (s : State) (f : Gptp → Gptp) : (s.setGptp f).pos = s.pos := rfl
@[simp] theorem State.setGptp_gptp (s : State) (f : Gptp → Gptp) : (s.setGptp f).gptp = f s.gptp := rfl
@[simp] theorem State.setGptp_cam (s : State) (f : Gptp → Gptp) : (s.setGptp f).cam = s.cam := rfl
@[simp] theorem State.setGptp_vxa (s : State) (f : Gptp → Gptp) : (s.setGptp f).vxa = s.vxa := rfl
@[simp] theorem State.setGptp_ast (s : State) (f : Gptp → Gptp) : (s.setGptp f).ast = s.ast := rfl
@[simp] theorem State.setGptp_pair (s : State) (f : Gptp → Gptp) : (s.setGptp f).pair = s.pair := rfl
@[simp] theorem State.setGptp_can (s : State) (f : Gptp → Gptp) : (s.setGptp f).can = s.can := rfl
@[simp] theorem State.setGptp_prm (s : State) (f : Gptp → Gptp) : (s.setGptp f).prm = s.prm := rfl
@[simp] theorem State.setGptp_eth (s : State) (f : Gptp → Gptp) : (s.setGptp f).eth = s.eth := rfl
@[simp] theorem State.setGptp_pnl (s : State) (f : Gptp → Gptp) : (s.setGptp f).pnl = s.pnl := rfl
@[simp] theorem State.setGptp_flt (s : State) (f : Gptp → Gptp) : (s.setGptp f).flt = s.flt := rfl
@[simp] theorem State.setGptp_upd (s : State) (f : Gptp → Gptp) : (s.setGptp f).upd = s.upd := rfl
@[simp] theorem State.setGptp_out (s : State) (f : Gptp → Gptp) : (s.setGptp f).out = s.out := rfl
@[simp] theorem State.setGptp_rd (s : State) (f : Gptp → Gptp) (a : Nat) : (s.setGptp f).rd a = s.rd a := rfl

@[simp] theorem State.setFlt_pending (s : State) (f : Flt → Flt) : (s.setFlt f).pending = s.pending := rfl
@[simp] theorem State.setFlt_clk (s : State) (f : Flt → Flt) : (s.setFlt f).clk = s.clk := rfl
@[simp] theorem State.setFlt_regs (s : State) (f : Flt → Flt) : (s.setFlt f).regs = s.regs := rfl
@[simp] theorem State.setFlt_shadow (s : State) (f : Flt → Flt) : (s.setFlt f).shadow = s.shadow := rfl
@[simp] theorem State.setFlt_fab (s : State) (f : Flt → Flt) : (s.setFlt f).fab = s.fab := rfl
@[simp] theorem State.setFlt_mbx (s : State) (f : Flt → Flt) : (s.setFlt f).mbx = s.mbx := rfl
@[simp] theorem State.setFlt_fns (s : State) (f : Flt → Flt) : (s.setFlt f).fns = s.fns := rfl
@[simp] theorem State.setFlt_pwr (s : State) (f : Flt → Flt) : (s.setFlt f).pwr = s.pwr := rfl
@[simp] theorem State.setFlt_almanac (s : State) (f : Flt → Flt) : (s.setFlt f).almanac = s.almanac := rfl
@[simp] theorem State.setFlt_inp (s : State) (f : Flt → Flt) : (s.setFlt f).inp = s.inp := rfl
@[simp] theorem State.setFlt_cst (s : State) (f : Flt → Flt) : (s.setFlt f).cst = s.cst := rfl
@[simp] theorem State.setFlt_ypl (s : State) (f : Flt → Flt) : (s.setFlt f).ypl = s.ypl := rfl
@[simp] theorem State.setFlt_saf (s : State) (f : Flt → Flt) : (s.setFlt f).saf = s.saf := rfl
@[simp] theorem State.setFlt_adr (s : State) (f : Flt → Flt) : (s.setFlt f).adr = s.adr := rfl
@[simp] theorem State.setFlt_psw (s : State) (f : Flt → Flt) : (s.setFlt f).psw = s.psw := rfl
@[simp] theorem State.setFlt_mer (s : State) (f : Flt → Flt) : (s.setFlt f).mer = s.mer := rfl
@[simp] theorem State.setFlt_trn (s : State) (f : Flt → Flt) : (s.setFlt f).trn = s.trn := rfl
@[simp] theorem State.setFlt_pos (s : State) (f : Flt → Flt) : (s.setFlt f).pos = s.pos := rfl
@[simp] theorem State.setFlt_gptp (s : State) (f : Flt → Flt) : (s.setFlt f).gptp = s.gptp := rfl
@[simp] theorem State.setFlt_cam (s : State) (f : Flt → Flt) : (s.setFlt f).cam = s.cam := rfl
@[simp] theorem State.setFlt_vxa (s : State) (f : Flt → Flt) : (s.setFlt f).vxa = s.vxa := rfl
@[simp] theorem State.setFlt_ast (s : State) (f : Flt → Flt) : (s.setFlt f).ast = s.ast := rfl
@[simp] theorem State.setFlt_pair (s : State) (f : Flt → Flt) : (s.setFlt f).pair = s.pair := rfl
@[simp] theorem State.setFlt_can (s : State) (f : Flt → Flt) : (s.setFlt f).can = s.can := rfl
@[simp] theorem State.setFlt_prm (s : State) (f : Flt → Flt) : (s.setFlt f).prm = s.prm := rfl
@[simp] theorem State.setFlt_eth (s : State) (f : Flt → Flt) : (s.setFlt f).eth = s.eth := rfl
@[simp] theorem State.setFlt_pnl (s : State) (f : Flt → Flt) : (s.setFlt f).pnl = s.pnl := rfl
@[simp] theorem State.setFlt_flt (s : State) (f : Flt → Flt) : (s.setFlt f).flt = f s.flt := rfl
@[simp] theorem State.setFlt_upd (s : State) (f : Flt → Flt) : (s.setFlt f).upd = s.upd := rfl
@[simp] theorem State.setFlt_out (s : State) (f : Flt → Flt) : (s.setFlt f).out = s.out := rfl
@[simp] theorem State.setFlt_rd (s : State) (f : Flt → Flt) (a : Nat) : (s.setFlt f).rd a = s.rd a := rfl

@[simp] theorem State.setAst_pending (s : State) (f : Ast → Ast) : (s.setAst f).pending = s.pending := rfl
@[simp] theorem State.setAst_clk (s : State) (f : Ast → Ast) : (s.setAst f).clk = s.clk := rfl
@[simp] theorem State.setAst_regs (s : State) (f : Ast → Ast) : (s.setAst f).regs = s.regs := rfl
@[simp] theorem State.setAst_shadow (s : State) (f : Ast → Ast) : (s.setAst f).shadow = s.shadow := rfl
@[simp] theorem State.setAst_fab (s : State) (f : Ast → Ast) : (s.setAst f).fab = s.fab := rfl
@[simp] theorem State.setAst_mbx (s : State) (f : Ast → Ast) : (s.setAst f).mbx = s.mbx := rfl
@[simp] theorem State.setAst_fns (s : State) (f : Ast → Ast) : (s.setAst f).fns = s.fns := rfl
@[simp] theorem State.setAst_pwr (s : State) (f : Ast → Ast) : (s.setAst f).pwr = s.pwr := rfl
@[simp] theorem State.setAst_almanac (s : State) (f : Ast → Ast) : (s.setAst f).almanac = s.almanac := rfl
@[simp] theorem State.setAst_inp (s : State) (f : Ast → Ast) : (s.setAst f).inp = s.inp := rfl
@[simp] theorem State.setAst_cst (s : State) (f : Ast → Ast) : (s.setAst f).cst = s.cst := rfl
@[simp] theorem State.setAst_ypl (s : State) (f : Ast → Ast) : (s.setAst f).ypl = s.ypl := rfl
@[simp] theorem State.setAst_saf (s : State) (f : Ast → Ast) : (s.setAst f).saf = s.saf := rfl
@[simp] theorem State.setAst_adr (s : State) (f : Ast → Ast) : (s.setAst f).adr = s.adr := rfl
@[simp] theorem State.setAst_psw (s : State) (f : Ast → Ast) : (s.setAst f).psw = s.psw := rfl
@[simp] theorem State.setAst_mer (s : State) (f : Ast → Ast) : (s.setAst f).mer = s.mer := rfl
@[simp] theorem State.setAst_trn (s : State) (f : Ast → Ast) : (s.setAst f).trn = s.trn := rfl
@[simp] theorem State.setAst_pos (s : State) (f : Ast → Ast) : (s.setAst f).pos = s.pos := rfl
@[simp] theorem State.setAst_gptp (s : State) (f : Ast → Ast) : (s.setAst f).gptp = s.gptp := rfl
@[simp] theorem State.setAst_cam (s : State) (f : Ast → Ast) : (s.setAst f).cam = s.cam := rfl
@[simp] theorem State.setAst_vxa (s : State) (f : Ast → Ast) : (s.setAst f).vxa = s.vxa := rfl
@[simp] theorem State.setAst_ast (s : State) (f : Ast → Ast) : (s.setAst f).ast = f s.ast := rfl
@[simp] theorem State.setAst_pair (s : State) (f : Ast → Ast) : (s.setAst f).pair = s.pair := rfl
@[simp] theorem State.setAst_can (s : State) (f : Ast → Ast) : (s.setAst f).can = s.can := rfl
@[simp] theorem State.setAst_prm (s : State) (f : Ast → Ast) : (s.setAst f).prm = s.prm := rfl
@[simp] theorem State.setAst_eth (s : State) (f : Ast → Ast) : (s.setAst f).eth = s.eth := rfl
@[simp] theorem State.setAst_pnl (s : State) (f : Ast → Ast) : (s.setAst f).pnl = s.pnl := rfl
@[simp] theorem State.setAst_flt (s : State) (f : Ast → Ast) : (s.setAst f).flt = s.flt := rfl
@[simp] theorem State.setAst_upd (s : State) (f : Ast → Ast) : (s.setAst f).upd = s.upd := rfl
@[simp] theorem State.setAst_out (s : State) (f : Ast → Ast) : (s.setAst f).out = s.out := rfl
@[simp] theorem State.setAst_rd (s : State) (f : Ast → Ast) (a : Nat) : (s.setAst f).rd a = s.rd a := rfl

@[simp] theorem State.setPsw_pending (s : State) (f : Psw → Psw) : (s.setPsw f).pending = s.pending := rfl
@[simp] theorem State.setPsw_clk (s : State) (f : Psw → Psw) : (s.setPsw f).clk = s.clk := rfl
@[simp] theorem State.setPsw_regs (s : State) (f : Psw → Psw) : (s.setPsw f).regs = s.regs := rfl
@[simp] theorem State.setPsw_shadow (s : State) (f : Psw → Psw) : (s.setPsw f).shadow = s.shadow := rfl
@[simp] theorem State.setPsw_fab (s : State) (f : Psw → Psw) : (s.setPsw f).fab = s.fab := rfl
@[simp] theorem State.setPsw_mbx (s : State) (f : Psw → Psw) : (s.setPsw f).mbx = s.mbx := rfl
@[simp] theorem State.setPsw_fns (s : State) (f : Psw → Psw) : (s.setPsw f).fns = s.fns := rfl
@[simp] theorem State.setPsw_pwr (s : State) (f : Psw → Psw) : (s.setPsw f).pwr = s.pwr := rfl
@[simp] theorem State.setPsw_almanac (s : State) (f : Psw → Psw) : (s.setPsw f).almanac = s.almanac := rfl
@[simp] theorem State.setPsw_inp (s : State) (f : Psw → Psw) : (s.setPsw f).inp = s.inp := rfl
@[simp] theorem State.setPsw_cst (s : State) (f : Psw → Psw) : (s.setPsw f).cst = s.cst := rfl
@[simp] theorem State.setPsw_ypl (s : State) (f : Psw → Psw) : (s.setPsw f).ypl = s.ypl := rfl
@[simp] theorem State.setPsw_saf (s : State) (f : Psw → Psw) : (s.setPsw f).saf = s.saf := rfl
@[simp] theorem State.setPsw_adr (s : State) (f : Psw → Psw) : (s.setPsw f).adr = s.adr := rfl
@[simp] theorem State.setPsw_psw (s : State) (f : Psw → Psw) : (s.setPsw f).psw = f s.psw := rfl
@[simp] theorem State.setPsw_mer (s : State) (f : Psw → Psw) : (s.setPsw f).mer = s.mer := rfl
@[simp] theorem State.setPsw_trn (s : State) (f : Psw → Psw) : (s.setPsw f).trn = s.trn := rfl
@[simp] theorem State.setPsw_pos (s : State) (f : Psw → Psw) : (s.setPsw f).pos = s.pos := rfl
@[simp] theorem State.setPsw_gptp (s : State) (f : Psw → Psw) : (s.setPsw f).gptp = s.gptp := rfl
@[simp] theorem State.setPsw_cam (s : State) (f : Psw → Psw) : (s.setPsw f).cam = s.cam := rfl
@[simp] theorem State.setPsw_vxa (s : State) (f : Psw → Psw) : (s.setPsw f).vxa = s.vxa := rfl
@[simp] theorem State.setPsw_ast (s : State) (f : Psw → Psw) : (s.setPsw f).ast = s.ast := rfl
@[simp] theorem State.setPsw_pair (s : State) (f : Psw → Psw) : (s.setPsw f).pair = s.pair := rfl
@[simp] theorem State.setPsw_can (s : State) (f : Psw → Psw) : (s.setPsw f).can = s.can := rfl
@[simp] theorem State.setPsw_prm (s : State) (f : Psw → Psw) : (s.setPsw f).prm = s.prm := rfl
@[simp] theorem State.setPsw_eth (s : State) (f : Psw → Psw) : (s.setPsw f).eth = s.eth := rfl
@[simp] theorem State.setPsw_pnl (s : State) (f : Psw → Psw) : (s.setPsw f).pnl = s.pnl := rfl
@[simp] theorem State.setPsw_flt (s : State) (f : Psw → Psw) : (s.setPsw f).flt = s.flt := rfl
@[simp] theorem State.setPsw_upd (s : State) (f : Psw → Psw) : (s.setPsw f).upd = s.upd := rfl
@[simp] theorem State.setPsw_out (s : State) (f : Psw → Psw) : (s.setPsw f).out = s.out := rfl
@[simp] theorem State.setPsw_rd (s : State) (f : Psw → Psw) (a : Nat) : (s.setPsw f).rd a = s.rd a := rfl

@[simp] theorem State.setMer_pending (s : State) (f : Mer → Mer) : (s.setMer f).pending = s.pending := rfl
@[simp] theorem State.setMer_clk (s : State) (f : Mer → Mer) : (s.setMer f).clk = s.clk := rfl
@[simp] theorem State.setMer_regs (s : State) (f : Mer → Mer) : (s.setMer f).regs = s.regs := rfl
@[simp] theorem State.setMer_shadow (s : State) (f : Mer → Mer) : (s.setMer f).shadow = s.shadow := rfl
@[simp] theorem State.setMer_fab (s : State) (f : Mer → Mer) : (s.setMer f).fab = s.fab := rfl
@[simp] theorem State.setMer_mbx (s : State) (f : Mer → Mer) : (s.setMer f).mbx = s.mbx := rfl
@[simp] theorem State.setMer_fns (s : State) (f : Mer → Mer) : (s.setMer f).fns = s.fns := rfl
@[simp] theorem State.setMer_pwr (s : State) (f : Mer → Mer) : (s.setMer f).pwr = s.pwr := rfl
@[simp] theorem State.setMer_almanac (s : State) (f : Mer → Mer) : (s.setMer f).almanac = s.almanac := rfl
@[simp] theorem State.setMer_inp (s : State) (f : Mer → Mer) : (s.setMer f).inp = s.inp := rfl
@[simp] theorem State.setMer_cst (s : State) (f : Mer → Mer) : (s.setMer f).cst = s.cst := rfl
@[simp] theorem State.setMer_ypl (s : State) (f : Mer → Mer) : (s.setMer f).ypl = s.ypl := rfl
@[simp] theorem State.setMer_saf (s : State) (f : Mer → Mer) : (s.setMer f).saf = s.saf := rfl
@[simp] theorem State.setMer_adr (s : State) (f : Mer → Mer) : (s.setMer f).adr = s.adr := rfl
@[simp] theorem State.setMer_psw (s : State) (f : Mer → Mer) : (s.setMer f).psw = s.psw := rfl
@[simp] theorem State.setMer_mer (s : State) (f : Mer → Mer) : (s.setMer f).mer = f s.mer := rfl
@[simp] theorem State.setMer_trn (s : State) (f : Mer → Mer) : (s.setMer f).trn = s.trn := rfl
@[simp] theorem State.setMer_pos (s : State) (f : Mer → Mer) : (s.setMer f).pos = s.pos := rfl
@[simp] theorem State.setMer_gptp (s : State) (f : Mer → Mer) : (s.setMer f).gptp = s.gptp := rfl
@[simp] theorem State.setMer_cam (s : State) (f : Mer → Mer) : (s.setMer f).cam = s.cam := rfl
@[simp] theorem State.setMer_vxa (s : State) (f : Mer → Mer) : (s.setMer f).vxa = s.vxa := rfl
@[simp] theorem State.setMer_ast (s : State) (f : Mer → Mer) : (s.setMer f).ast = s.ast := rfl
@[simp] theorem State.setMer_pair (s : State) (f : Mer → Mer) : (s.setMer f).pair = s.pair := rfl
@[simp] theorem State.setMer_can (s : State) (f : Mer → Mer) : (s.setMer f).can = s.can := rfl
@[simp] theorem State.setMer_prm (s : State) (f : Mer → Mer) : (s.setMer f).prm = s.prm := rfl
@[simp] theorem State.setMer_eth (s : State) (f : Mer → Mer) : (s.setMer f).eth = s.eth := rfl
@[simp] theorem State.setMer_pnl (s : State) (f : Mer → Mer) : (s.setMer f).pnl = s.pnl := rfl
@[simp] theorem State.setMer_flt (s : State) (f : Mer → Mer) : (s.setMer f).flt = s.flt := rfl
@[simp] theorem State.setMer_upd (s : State) (f : Mer → Mer) : (s.setMer f).upd = s.upd := rfl
@[simp] theorem State.setMer_out (s : State) (f : Mer → Mer) : (s.setMer f).out = s.out := rfl
@[simp] theorem State.setMer_rd (s : State) (f : Mer → Mer) (a : Nat) : (s.setMer f).rd a = s.rd a := rfl

@[simp] theorem State.setPair_pending (s : State) (f : Pair → Pair) : (s.setPair f).pending = s.pending := rfl
@[simp] theorem State.setPair_clk (s : State) (f : Pair → Pair) : (s.setPair f).clk = s.clk := rfl
@[simp] theorem State.setPair_regs (s : State) (f : Pair → Pair) : (s.setPair f).regs = s.regs := rfl
@[simp] theorem State.setPair_shadow (s : State) (f : Pair → Pair) : (s.setPair f).shadow = s.shadow := rfl
@[simp] theorem State.setPair_fab (s : State) (f : Pair → Pair) : (s.setPair f).fab = s.fab := rfl
@[simp] theorem State.setPair_mbx (s : State) (f : Pair → Pair) : (s.setPair f).mbx = s.mbx := rfl
@[simp] theorem State.setPair_fns (s : State) (f : Pair → Pair) : (s.setPair f).fns = s.fns := rfl
@[simp] theorem State.setPair_pwr (s : State) (f : Pair → Pair) : (s.setPair f).pwr = s.pwr := rfl
@[simp] theorem State.setPair_almanac (s : State) (f : Pair → Pair) : (s.setPair f).almanac = s.almanac := rfl
@[simp] theorem State.setPair_inp (s : State) (f : Pair → Pair) : (s.setPair f).inp = s.inp := rfl
@[simp] theorem State.setPair_cst (s : State) (f : Pair → Pair) : (s.setPair f).cst = s.cst := rfl
@[simp] theorem State.setPair_ypl (s : State) (f : Pair → Pair) : (s.setPair f).ypl = s.ypl := rfl
@[simp] theorem State.setPair_saf (s : State) (f : Pair → Pair) : (s.setPair f).saf = s.saf := rfl
@[simp] theorem State.setPair_adr (s : State) (f : Pair → Pair) : (s.setPair f).adr = s.adr := rfl
@[simp] theorem State.setPair_psw (s : State) (f : Pair → Pair) : (s.setPair f).psw = s.psw := rfl
@[simp] theorem State.setPair_mer (s : State) (f : Pair → Pair) : (s.setPair f).mer = s.mer := rfl
@[simp] theorem State.setPair_trn (s : State) (f : Pair → Pair) : (s.setPair f).trn = s.trn := rfl
@[simp] theorem State.setPair_pos (s : State) (f : Pair → Pair) : (s.setPair f).pos = s.pos := rfl
@[simp] theorem State.setPair_gptp (s : State) (f : Pair → Pair) : (s.setPair f).gptp = s.gptp := rfl
@[simp] theorem State.setPair_cam (s : State) (f : Pair → Pair) : (s.setPair f).cam = s.cam := rfl
@[simp] theorem State.setPair_vxa (s : State) (f : Pair → Pair) : (s.setPair f).vxa = s.vxa := rfl
@[simp] theorem State.setPair_ast (s : State) (f : Pair → Pair) : (s.setPair f).ast = s.ast := rfl
@[simp] theorem State.setPair_pair (s : State) (f : Pair → Pair) : (s.setPair f).pair = f s.pair := rfl
@[simp] theorem State.setPair_can (s : State) (f : Pair → Pair) : (s.setPair f).can = s.can := rfl
@[simp] theorem State.setPair_prm (s : State) (f : Pair → Pair) : (s.setPair f).prm = s.prm := rfl
@[simp] theorem State.setPair_eth (s : State) (f : Pair → Pair) : (s.setPair f).eth = s.eth := rfl
@[simp] theorem State.setPair_pnl (s : State) (f : Pair → Pair) : (s.setPair f).pnl = s.pnl := rfl
@[simp] theorem State.setPair_flt (s : State) (f : Pair → Pair) : (s.setPair f).flt = s.flt := rfl
@[simp] theorem State.setPair_upd (s : State) (f : Pair → Pair) : (s.setPair f).upd = s.upd := rfl
@[simp] theorem State.setPair_out (s : State) (f : Pair → Pair) : (s.setPair f).out = s.out := rfl
@[simp] theorem State.setPair_rd (s : State) (f : Pair → Pair) (a : Nat) : (s.setPair f).rd a = s.rd a := rfl

@[simp] theorem State.setPnl_pending (s : State) (f : Pnl → Pnl) : (s.setPnl f).pending = s.pending := rfl
@[simp] theorem State.setPnl_clk (s : State) (f : Pnl → Pnl) : (s.setPnl f).clk = s.clk := rfl
@[simp] theorem State.setPnl_regs (s : State) (f : Pnl → Pnl) : (s.setPnl f).regs = s.regs := rfl
@[simp] theorem State.setPnl_shadow (s : State) (f : Pnl → Pnl) : (s.setPnl f).shadow = s.shadow := rfl
@[simp] theorem State.setPnl_fab (s : State) (f : Pnl → Pnl) : (s.setPnl f).fab = s.fab := rfl
@[simp] theorem State.setPnl_mbx (s : State) (f : Pnl → Pnl) : (s.setPnl f).mbx = s.mbx := rfl
@[simp] theorem State.setPnl_fns (s : State) (f : Pnl → Pnl) : (s.setPnl f).fns = s.fns := rfl
@[simp] theorem State.setPnl_pwr (s : State) (f : Pnl → Pnl) : (s.setPnl f).pwr = s.pwr := rfl
@[simp] theorem State.setPnl_almanac (s : State) (f : Pnl → Pnl) : (s.setPnl f).almanac = s.almanac := rfl
@[simp] theorem State.setPnl_inp (s : State) (f : Pnl → Pnl) : (s.setPnl f).inp = s.inp := rfl
@[simp] theorem State.setPnl_cst (s : State) (f : Pnl → Pnl) : (s.setPnl f).cst = s.cst := rfl
@[simp] theorem State.setPnl_ypl (s : State) (f : Pnl → Pnl) : (s.setPnl f).ypl = s.ypl := rfl
@[simp] theorem State.setPnl_saf (s : State) (f : Pnl → Pnl) : (s.setPnl f).saf = s.saf := rfl
@[simp] theorem State.setPnl_adr (s : State) (f : Pnl → Pnl) : (s.setPnl f).adr = s.adr := rfl
@[simp] theorem State.setPnl_psw (s : State) (f : Pnl → Pnl) : (s.setPnl f).psw = s.psw := rfl
@[simp] theorem State.setPnl_mer (s : State) (f : Pnl → Pnl) : (s.setPnl f).mer = s.mer := rfl
@[simp] theorem State.setPnl_trn (s : State) (f : Pnl → Pnl) : (s.setPnl f).trn = s.trn := rfl
@[simp] theorem State.setPnl_pos (s : State) (f : Pnl → Pnl) : (s.setPnl f).pos = s.pos := rfl
@[simp] theorem State.setPnl_gptp (s : State) (f : Pnl → Pnl) : (s.setPnl f).gptp = s.gptp := rfl
@[simp] theorem State.setPnl_cam (s : State) (f : Pnl → Pnl) : (s.setPnl f).cam = s.cam := rfl
@[simp] theorem State.setPnl_vxa (s : State) (f : Pnl → Pnl) : (s.setPnl f).vxa = s.vxa := rfl
@[simp] theorem State.setPnl_ast (s : State) (f : Pnl → Pnl) : (s.setPnl f).ast = s.ast := rfl
@[simp] theorem State.setPnl_pair (s : State) (f : Pnl → Pnl) : (s.setPnl f).pair = s.pair := rfl
@[simp] theorem State.setPnl_can (s : State) (f : Pnl → Pnl) : (s.setPnl f).can = s.can := rfl
@[simp] theorem State.setPnl_prm (s : State) (f : Pnl → Pnl) : (s.setPnl f).prm = s.prm := rfl
@[simp] theorem State.setPnl_eth (s : State) (f : Pnl → Pnl) : (s.setPnl f).eth = s.eth := rfl
@[simp] theorem State.setPnl_pnl (s : State) (f : Pnl → Pnl) : (s.setPnl f).pnl = f s.pnl := rfl
@[simp] theorem State.setPnl_flt (s : State) (f : Pnl → Pnl) : (s.setPnl f).flt = s.flt := rfl
@[simp] theorem State.setPnl_upd (s : State) (f : Pnl → Pnl) : (s.setPnl f).upd = s.upd := rfl
@[simp] theorem State.setPnl_out (s : State) (f : Pnl → Pnl) : (s.setPnl f).out = s.out := rfl
@[simp] theorem State.setPnl_rd (s : State) (f : Pnl → Pnl) (a : Nat) : (s.setPnl f).rd a = s.rd a := rfl

@[simp] theorem State.setPrm_pending (s : State) (f : Prm → Prm) : (s.setPrm f).pending = s.pending := rfl
@[simp] theorem State.setPrm_clk (s : State) (f : Prm → Prm) : (s.setPrm f).clk = s.clk := rfl
@[simp] theorem State.setPrm_regs (s : State) (f : Prm → Prm) : (s.setPrm f).regs = s.regs := rfl
@[simp] theorem State.setPrm_shadow (s : State) (f : Prm → Prm) : (s.setPrm f).shadow = s.shadow := rfl
@[simp] theorem State.setPrm_fab (s : State) (f : Prm → Prm) : (s.setPrm f).fab = s.fab := rfl
@[simp] theorem State.setPrm_mbx (s : State) (f : Prm → Prm) : (s.setPrm f).mbx = s.mbx := rfl
@[simp] theorem State.setPrm_fns (s : State) (f : Prm → Prm) : (s.setPrm f).fns = s.fns := rfl
@[simp] theorem State.setPrm_pwr (s : State) (f : Prm → Prm) : (s.setPrm f).pwr = s.pwr := rfl
@[simp] theorem State.setPrm_almanac (s : State) (f : Prm → Prm) : (s.setPrm f).almanac = s.almanac := rfl
@[simp] theorem State.setPrm_inp (s : State) (f : Prm → Prm) : (s.setPrm f).inp = s.inp := rfl
@[simp] theorem State.setPrm_cst (s : State) (f : Prm → Prm) : (s.setPrm f).cst = s.cst := rfl
@[simp] theorem State.setPrm_ypl (s : State) (f : Prm → Prm) : (s.setPrm f).ypl = s.ypl := rfl
@[simp] theorem State.setPrm_saf (s : State) (f : Prm → Prm) : (s.setPrm f).saf = s.saf := rfl
@[simp] theorem State.setPrm_adr (s : State) (f : Prm → Prm) : (s.setPrm f).adr = s.adr := rfl
@[simp] theorem State.setPrm_psw (s : State) (f : Prm → Prm) : (s.setPrm f).psw = s.psw := rfl
@[simp] theorem State.setPrm_mer (s : State) (f : Prm → Prm) : (s.setPrm f).mer = s.mer := rfl
@[simp] theorem State.setPrm_trn (s : State) (f : Prm → Prm) : (s.setPrm f).trn = s.trn := rfl
@[simp] theorem State.setPrm_pos (s : State) (f : Prm → Prm) : (s.setPrm f).pos = s.pos := rfl
@[simp] theorem State.setPrm_gptp (s : State) (f : Prm → Prm) : (s.setPrm f).gptp = s.gptp := rfl
@[simp] theorem State.setPrm_cam (s : State) (f : Prm → Prm) : (s.setPrm f).cam = s.cam := rfl
@[simp] theorem State.setPrm_vxa (s : State) (f : Prm → Prm) : (s.setPrm f).vxa = s.vxa := rfl
@[simp] theorem State.setPrm_ast (s : State) (f : Prm → Prm) : (s.setPrm f).ast = s.ast := rfl
@[simp] theorem State.setPrm_pair (s : State) (f : Prm → Prm) : (s.setPrm f).pair = s.pair := rfl
@[simp] theorem State.setPrm_can (s : State) (f : Prm → Prm) : (s.setPrm f).can = s.can := rfl
@[simp] theorem State.setPrm_prm (s : State) (f : Prm → Prm) : (s.setPrm f).prm = f s.prm := rfl
@[simp] theorem State.setPrm_eth (s : State) (f : Prm → Prm) : (s.setPrm f).eth = s.eth := rfl
@[simp] theorem State.setPrm_pnl (s : State) (f : Prm → Prm) : (s.setPrm f).pnl = s.pnl := rfl
@[simp] theorem State.setPrm_flt (s : State) (f : Prm → Prm) : (s.setPrm f).flt = s.flt := rfl
@[simp] theorem State.setPrm_upd (s : State) (f : Prm → Prm) : (s.setPrm f).upd = s.upd := rfl
@[simp] theorem State.setPrm_out (s : State) (f : Prm → Prm) : (s.setPrm f).out = s.out := rfl
@[simp] theorem State.setPrm_rd (s : State) (f : Prm → Prm) (a : Nat) : (s.setPrm f).rd a = s.rd a := rfl

@[simp] theorem State.setPos_pending (s : State) (f : Pos → Pos) : (s.setPos f).pending = s.pending := rfl
@[simp] theorem State.setPos_clk (s : State) (f : Pos → Pos) : (s.setPos f).clk = s.clk := rfl
@[simp] theorem State.setPos_regs (s : State) (f : Pos → Pos) : (s.setPos f).regs = s.regs := rfl
@[simp] theorem State.setPos_shadow (s : State) (f : Pos → Pos) : (s.setPos f).shadow = s.shadow := rfl
@[simp] theorem State.setPos_fab (s : State) (f : Pos → Pos) : (s.setPos f).fab = s.fab := rfl
@[simp] theorem State.setPos_mbx (s : State) (f : Pos → Pos) : (s.setPos f).mbx = s.mbx := rfl
@[simp] theorem State.setPos_fns (s : State) (f : Pos → Pos) : (s.setPos f).fns = s.fns := rfl
@[simp] theorem State.setPos_pwr (s : State) (f : Pos → Pos) : (s.setPos f).pwr = s.pwr := rfl
@[simp] theorem State.setPos_almanac (s : State) (f : Pos → Pos) : (s.setPos f).almanac = s.almanac := rfl
@[simp] theorem State.setPos_inp (s : State) (f : Pos → Pos) : (s.setPos f).inp = s.inp := rfl
@[simp] theorem State.setPos_cst (s : State) (f : Pos → Pos) : (s.setPos f).cst = s.cst := rfl
@[simp] theorem State.setPos_ypl (s : State) (f : Pos → Pos) : (s.setPos f).ypl = s.ypl := rfl
@[simp] theorem State.setPos_saf (s : State) (f : Pos → Pos) : (s.setPos f).saf = s.saf := rfl
@[simp] theorem State.setPos_adr (s : State) (f : Pos → Pos) : (s.setPos f).adr = s.adr := rfl
@[simp] theorem State.setPos_psw (s : State) (f : Pos → Pos) : (s.setPos f).psw = s.psw := rfl
@[simp] theorem State.setPos_mer (s : State) (f : Pos → Pos) : (s.setPos f).mer = s.mer := rfl
@[simp] theorem State.setPos_trn (s : State) (f : Pos → Pos) : (s.setPos f).trn = s.trn := rfl
@[simp] theorem State.setPos_pos (s : State) (f : Pos → Pos) : (s.setPos f).pos = f s.pos := rfl
@[simp] theorem State.setPos_gptp (s : State) (f : Pos → Pos) : (s.setPos f).gptp = s.gptp := rfl
@[simp] theorem State.setPos_cam (s : State) (f : Pos → Pos) : (s.setPos f).cam = s.cam := rfl
@[simp] theorem State.setPos_vxa (s : State) (f : Pos → Pos) : (s.setPos f).vxa = s.vxa := rfl
@[simp] theorem State.setPos_ast (s : State) (f : Pos → Pos) : (s.setPos f).ast = s.ast := rfl
@[simp] theorem State.setPos_pair (s : State) (f : Pos → Pos) : (s.setPos f).pair = s.pair := rfl
@[simp] theorem State.setPos_can (s : State) (f : Pos → Pos) : (s.setPos f).can = s.can := rfl
@[simp] theorem State.setPos_prm (s : State) (f : Pos → Pos) : (s.setPos f).prm = s.prm := rfl
@[simp] theorem State.setPos_eth (s : State) (f : Pos → Pos) : (s.setPos f).eth = s.eth := rfl
@[simp] theorem State.setPos_pnl (s : State) (f : Pos → Pos) : (s.setPos f).pnl = s.pnl := rfl
@[simp] theorem State.setPos_flt (s : State) (f : Pos → Pos) : (s.setPos f).flt = s.flt := rfl
@[simp] theorem State.setPos_upd (s : State) (f : Pos → Pos) : (s.setPos f).upd = s.upd := rfl
@[simp] theorem State.setPos_out (s : State) (f : Pos → Pos) : (s.setPos f).out = s.out := rfl
@[simp] theorem State.setPos_rd (s : State) (f : Pos → Pos) (a : Nat) : (s.setPos f).rd a = s.rd a := rfl

@[simp] theorem State.setRec_pending (s : State) (f : Recorder → Recorder) : (s.setRec f).pending = s.pending := rfl
@[simp] theorem State.setRec_clk (s : State) (f : Recorder → Recorder) : (s.setRec f).clk = s.clk := rfl
@[simp] theorem State.setRec_regs (s : State) (f : Recorder → Recorder) : (s.setRec f).regs = s.regs := rfl
@[simp] theorem State.setRec_shadow (s : State) (f : Recorder → Recorder) : (s.setRec f).shadow = s.shadow := rfl
@[simp] theorem State.setRec_fab (s : State) (f : Recorder → Recorder) : (s.setRec f).fab = s.fab := rfl
@[simp] theorem State.setRec_mbx (s : State) (f : Recorder → Recorder) : (s.setRec f).mbx = s.mbx := rfl
@[simp] theorem State.setRec_fns (s : State) (f : Recorder → Recorder) : (s.setRec f).fns = s.fns := rfl
@[simp] theorem State.setRec_pwr (s : State) (f : Recorder → Recorder) : (s.setRec f).pwr = s.pwr := rfl
@[simp] theorem State.setRec_almanac (s : State) (f : Recorder → Recorder) : (s.setRec f).almanac = f s.almanac := rfl
@[simp] theorem State.setRec_inp (s : State) (f : Recorder → Recorder) : (s.setRec f).inp = s.inp := rfl
@[simp] theorem State.setRec_cst (s : State) (f : Recorder → Recorder) : (s.setRec f).cst = s.cst := rfl
@[simp] theorem State.setRec_ypl (s : State) (f : Recorder → Recorder) : (s.setRec f).ypl = s.ypl := rfl
@[simp] theorem State.setRec_saf (s : State) (f : Recorder → Recorder) : (s.setRec f).saf = s.saf := rfl
@[simp] theorem State.setRec_adr (s : State) (f : Recorder → Recorder) : (s.setRec f).adr = s.adr := rfl
@[simp] theorem State.setRec_psw (s : State) (f : Recorder → Recorder) : (s.setRec f).psw = s.psw := rfl
@[simp] theorem State.setRec_mer (s : State) (f : Recorder → Recorder) : (s.setRec f).mer = s.mer := rfl
@[simp] theorem State.setRec_trn (s : State) (f : Recorder → Recorder) : (s.setRec f).trn = s.trn := rfl
@[simp] theorem State.setRec_pos (s : State) (f : Recorder → Recorder) : (s.setRec f).pos = s.pos := rfl
@[simp] theorem State.setRec_gptp (s : State) (f : Recorder → Recorder) : (s.setRec f).gptp = s.gptp := rfl
@[simp] theorem State.setRec_cam (s : State) (f : Recorder → Recorder) : (s.setRec f).cam = s.cam := rfl
@[simp] theorem State.setRec_vxa (s : State) (f : Recorder → Recorder) : (s.setRec f).vxa = s.vxa := rfl
@[simp] theorem State.setRec_ast (s : State) (f : Recorder → Recorder) : (s.setRec f).ast = s.ast := rfl
@[simp] theorem State.setRec_pair (s : State) (f : Recorder → Recorder) : (s.setRec f).pair = s.pair := rfl
@[simp] theorem State.setRec_can (s : State) (f : Recorder → Recorder) : (s.setRec f).can = s.can := rfl
@[simp] theorem State.setRec_prm (s : State) (f : Recorder → Recorder) : (s.setRec f).prm = s.prm := rfl
@[simp] theorem State.setRec_eth (s : State) (f : Recorder → Recorder) : (s.setRec f).eth = s.eth := rfl
@[simp] theorem State.setRec_pnl (s : State) (f : Recorder → Recorder) : (s.setRec f).pnl = s.pnl := rfl
@[simp] theorem State.setRec_flt (s : State) (f : Recorder → Recorder) : (s.setRec f).flt = s.flt := rfl
@[simp] theorem State.setRec_upd (s : State) (f : Recorder → Recorder) : (s.setRec f).upd = s.upd := rfl
@[simp] theorem State.setRec_out (s : State) (f : Recorder → Recorder) : (s.setRec f).out = s.out := rfl
@[simp] theorem State.setRec_rd (s : State) (f : Recorder → Recorder) (a : Nat) : (s.setRec f).rd a = s.rd a := rfl

@[simp] theorem State.setSaf_pending (s : State) (f : Saf → Saf) : (s.setSaf f).pending = s.pending := rfl
@[simp] theorem State.setSaf_clk (s : State) (f : Saf → Saf) : (s.setSaf f).clk = s.clk := rfl
@[simp] theorem State.setSaf_regs (s : State) (f : Saf → Saf) : (s.setSaf f).regs = s.regs := rfl
@[simp] theorem State.setSaf_shadow (s : State) (f : Saf → Saf) : (s.setSaf f).shadow = s.shadow := rfl
@[simp] theorem State.setSaf_fab (s : State) (f : Saf → Saf) : (s.setSaf f).fab = s.fab := rfl
@[simp] theorem State.setSaf_mbx (s : State) (f : Saf → Saf) : (s.setSaf f).mbx = s.mbx := rfl
@[simp] theorem State.setSaf_fns (s : State) (f : Saf → Saf) : (s.setSaf f).fns = s.fns := rfl
@[simp] theorem State.setSaf_pwr (s : State) (f : Saf → Saf) : (s.setSaf f).pwr = s.pwr := rfl
@[simp] theorem State.setSaf_almanac (s : State) (f : Saf → Saf) : (s.setSaf f).almanac = s.almanac := rfl
@[simp] theorem State.setSaf_inp (s : State) (f : Saf → Saf) : (s.setSaf f).inp = s.inp := rfl
@[simp] theorem State.setSaf_cst (s : State) (f : Saf → Saf) : (s.setSaf f).cst = s.cst := rfl
@[simp] theorem State.setSaf_ypl (s : State) (f : Saf → Saf) : (s.setSaf f).ypl = s.ypl := rfl
@[simp] theorem State.setSaf_saf (s : State) (f : Saf → Saf) : (s.setSaf f).saf = f s.saf := rfl
@[simp] theorem State.setSaf_adr (s : State) (f : Saf → Saf) : (s.setSaf f).adr = s.adr := rfl
@[simp] theorem State.setSaf_psw (s : State) (f : Saf → Saf) : (s.setSaf f).psw = s.psw := rfl
@[simp] theorem State.setSaf_mer (s : State) (f : Saf → Saf) : (s.setSaf f).mer = s.mer := rfl
@[simp] theorem State.setSaf_trn (s : State) (f : Saf → Saf) : (s.setSaf f).trn = s.trn := rfl
@[simp] theorem State.setSaf_pos (s : State) (f : Saf → Saf) : (s.setSaf f).pos = s.pos := rfl
@[simp] theorem State.setSaf_gptp (s : State) (f : Saf → Saf) : (s.setSaf f).gptp = s.gptp := rfl
@[simp] theorem State.setSaf_cam (s : State) (f : Saf → Saf) : (s.setSaf f).cam = s.cam := rfl
@[simp] theorem State.setSaf_vxa (s : State) (f : Saf → Saf) : (s.setSaf f).vxa = s.vxa := rfl
@[simp] theorem State.setSaf_ast (s : State) (f : Saf → Saf) : (s.setSaf f).ast = s.ast := rfl
@[simp] theorem State.setSaf_pair (s : State) (f : Saf → Saf) : (s.setSaf f).pair = s.pair := rfl
@[simp] theorem State.setSaf_can (s : State) (f : Saf → Saf) : (s.setSaf f).can = s.can := rfl
@[simp] theorem State.setSaf_prm (s : State) (f : Saf → Saf) : (s.setSaf f).prm = s.prm := rfl
@[simp] theorem State.setSaf_eth (s : State) (f : Saf → Saf) : (s.setSaf f).eth = s.eth := rfl
@[simp] theorem State.setSaf_pnl (s : State) (f : Saf → Saf) : (s.setSaf f).pnl = s.pnl := rfl
@[simp] theorem State.setSaf_flt (s : State) (f : Saf → Saf) : (s.setSaf f).flt = s.flt := rfl
@[simp] theorem State.setSaf_upd (s : State) (f : Saf → Saf) : (s.setSaf f).upd = s.upd := rfl
@[simp] theorem State.setSaf_out (s : State) (f : Saf → Saf) : (s.setSaf f).out = s.out := rfl
@[simp] theorem State.setSaf_rd (s : State) (f : Saf → Saf) (a : Nat) : (s.setSaf f).rd a = s.rd a := rfl

@[simp] theorem State.setPwr_pending (s : State) (f : Power → Power) : (s.setPwr f).pending = s.pending := rfl
@[simp] theorem State.setPwr_clk (s : State) (f : Power → Power) : (s.setPwr f).clk = s.clk := rfl
@[simp] theorem State.setPwr_regs (s : State) (f : Power → Power) : (s.setPwr f).regs = s.regs := rfl
@[simp] theorem State.setPwr_shadow (s : State) (f : Power → Power) : (s.setPwr f).shadow = s.shadow := rfl
@[simp] theorem State.setPwr_fab (s : State) (f : Power → Power) : (s.setPwr f).fab = s.fab := rfl
@[simp] theorem State.setPwr_mbx (s : State) (f : Power → Power) : (s.setPwr f).mbx = s.mbx := rfl
@[simp] theorem State.setPwr_fns (s : State) (f : Power → Power) : (s.setPwr f).fns = s.fns := rfl
@[simp] theorem State.setPwr_pwr (s : State) (f : Power → Power) : (s.setPwr f).pwr = f s.pwr := rfl
@[simp] theorem State.setPwr_almanac (s : State) (f : Power → Power) : (s.setPwr f).almanac = s.almanac := rfl
@[simp] theorem State.setPwr_inp (s : State) (f : Power → Power) : (s.setPwr f).inp = s.inp := rfl
@[simp] theorem State.setPwr_cst (s : State) (f : Power → Power) : (s.setPwr f).cst = s.cst := rfl
@[simp] theorem State.setPwr_ypl (s : State) (f : Power → Power) : (s.setPwr f).ypl = s.ypl := rfl
@[simp] theorem State.setPwr_saf (s : State) (f : Power → Power) : (s.setPwr f).saf = s.saf := rfl
@[simp] theorem State.setPwr_adr (s : State) (f : Power → Power) : (s.setPwr f).adr = s.adr := rfl
@[simp] theorem State.setPwr_psw (s : State) (f : Power → Power) : (s.setPwr f).psw = s.psw := rfl
@[simp] theorem State.setPwr_mer (s : State) (f : Power → Power) : (s.setPwr f).mer = s.mer := rfl
@[simp] theorem State.setPwr_trn (s : State) (f : Power → Power) : (s.setPwr f).trn = s.trn := rfl
@[simp] theorem State.setPwr_pos (s : State) (f : Power → Power) : (s.setPwr f).pos = s.pos := rfl
@[simp] theorem State.setPwr_gptp (s : State) (f : Power → Power) : (s.setPwr f).gptp = s.gptp := rfl
@[simp] theorem State.setPwr_cam (s : State) (f : Power → Power) : (s.setPwr f).cam = s.cam := rfl
@[simp] theorem State.setPwr_vxa (s : State) (f : Power → Power) : (s.setPwr f).vxa = s.vxa := rfl
@[simp] theorem State.setPwr_ast (s : State) (f : Power → Power) : (s.setPwr f).ast = s.ast := rfl
@[simp] theorem State.setPwr_pair (s : State) (f : Power → Power) : (s.setPwr f).pair = s.pair := rfl
@[simp] theorem State.setPwr_can (s : State) (f : Power → Power) : (s.setPwr f).can = s.can := rfl
@[simp] theorem State.setPwr_prm (s : State) (f : Power → Power) : (s.setPwr f).prm = s.prm := rfl
@[simp] theorem State.setPwr_eth (s : State) (f : Power → Power) : (s.setPwr f).eth = s.eth := rfl
@[simp] theorem State.setPwr_pnl (s : State) (f : Power → Power) : (s.setPwr f).pnl = s.pnl := rfl
@[simp] theorem State.setPwr_flt (s : State) (f : Power → Power) : (s.setPwr f).flt = s.flt := rfl
@[simp] theorem State.setPwr_upd (s : State) (f : Power → Power) : (s.setPwr f).upd = s.upd := rfl
@[simp] theorem State.setPwr_out (s : State) (f : Power → Power) : (s.setPwr f).out = s.out := rfl
@[simp] theorem State.setPwr_rd (s : State) (f : Power → Power) (a : Nat) : (s.setPwr f).rd a = s.rd a := rfl

@[simp] theorem State.setTrn_pending (s : State) (f : Trn → Trn) : (s.setTrn f).pending = s.pending := rfl
@[simp] theorem State.setTrn_clk (s : State) (f : Trn → Trn) : (s.setTrn f).clk = s.clk := rfl
@[simp] theorem State.setTrn_regs (s : State) (f : Trn → Trn) : (s.setTrn f).regs = s.regs := rfl
@[simp] theorem State.setTrn_shadow (s : State) (f : Trn → Trn) : (s.setTrn f).shadow = s.shadow := rfl
@[simp] theorem State.setTrn_fab (s : State) (f : Trn → Trn) : (s.setTrn f).fab = s.fab := rfl
@[simp] theorem State.setTrn_mbx (s : State) (f : Trn → Trn) : (s.setTrn f).mbx = s.mbx := rfl
@[simp] theorem State.setTrn_fns (s : State) (f : Trn → Trn) : (s.setTrn f).fns = s.fns := rfl
@[simp] theorem State.setTrn_pwr (s : State) (f : Trn → Trn) : (s.setTrn f).pwr = s.pwr := rfl
@[simp] theorem State.setTrn_almanac (s : State) (f : Trn → Trn) : (s.setTrn f).almanac = s.almanac := rfl
@[simp] theorem State.setTrn_inp (s : State) (f : Trn → Trn) : (s.setTrn f).inp = s.inp := rfl
@[simp] theorem State.setTrn_cst (s : State) (f : Trn → Trn) : (s.setTrn f).cst = s.cst := rfl
@[simp] theorem State.setTrn_ypl (s : State) (f : Trn → Trn) : (s.setTrn f).ypl = s.ypl := rfl
@[simp] theorem State.setTrn_saf (s : State) (f : Trn → Trn) : (s.setTrn f).saf = s.saf := rfl
@[simp] theorem State.setTrn_adr (s : State) (f : Trn → Trn) : (s.setTrn f).adr = s.adr := rfl
@[simp] theorem State.setTrn_psw (s : State) (f : Trn → Trn) : (s.setTrn f).psw = s.psw := rfl
@[simp] theorem State.setTrn_mer (s : State) (f : Trn → Trn) : (s.setTrn f).mer = s.mer := rfl
@[simp] theorem State.setTrn_trn (s : State) (f : Trn → Trn) : (s.setTrn f).trn = f s.trn := rfl
@[simp] theorem State.setTrn_pos (s : State) (f : Trn → Trn) : (s.setTrn f).pos = s.pos := rfl
@[simp] theorem State.setTrn_gptp (s : State) (f : Trn → Trn) : (s.setTrn f).gptp = s.gptp := rfl
@[simp] theorem State.setTrn_cam (s : State) (f : Trn → Trn) : (s.setTrn f).cam = s.cam := rfl
@[simp] theorem State.setTrn_vxa (s : State) (f : Trn → Trn) : (s.setTrn f).vxa = s.vxa := rfl
@[simp] theorem State.setTrn_ast (s : State) (f : Trn → Trn) : (s.setTrn f).ast = s.ast := rfl
@[simp] theorem State.setTrn_pair (s : State) (f : Trn → Trn) : (s.setTrn f).pair = s.pair := rfl
@[simp] theorem State.setTrn_can (s : State) (f : Trn → Trn) : (s.setTrn f).can = s.can := rfl
@[simp] theorem State.setTrn_prm (s : State) (f : Trn → Trn) : (s.setTrn f).prm = s.prm := rfl
@[simp] theorem State.setTrn_eth (s : State) (f : Trn → Trn) : (s.setTrn f).eth = s.eth := rfl
@[simp] theorem State.setTrn_pnl (s : State) (f : Trn → Trn) : (s.setTrn f).pnl = s.pnl := rfl
@[simp] theorem State.setTrn_flt (s : State) (f : Trn → Trn) : (s.setTrn f).flt = s.flt := rfl
@[simp] theorem State.setTrn_upd (s : State) (f : Trn → Trn) : (s.setTrn f).upd = s.upd := rfl
@[simp] theorem State.setTrn_out (s : State) (f : Trn → Trn) : (s.setTrn f).out = s.out := rfl
@[simp] theorem State.setTrn_rd (s : State) (f : Trn → Trn) (a : Nat) : (s.setTrn f).rd a = s.rd a := rfl

@[simp] theorem State.setUpd_pending (s : State) (f : Upd → Upd) : (s.setUpd f).pending = s.pending := rfl
@[simp] theorem State.setUpd_clk (s : State) (f : Upd → Upd) : (s.setUpd f).clk = s.clk := rfl
@[simp] theorem State.setUpd_regs (s : State) (f : Upd → Upd) : (s.setUpd f).regs = s.regs := rfl
@[simp] theorem State.setUpd_shadow (s : State) (f : Upd → Upd) : (s.setUpd f).shadow = s.shadow := rfl
@[simp] theorem State.setUpd_fab (s : State) (f : Upd → Upd) : (s.setUpd f).fab = s.fab := rfl
@[simp] theorem State.setUpd_mbx (s : State) (f : Upd → Upd) : (s.setUpd f).mbx = s.mbx := rfl
@[simp] theorem State.setUpd_fns (s : State) (f : Upd → Upd) : (s.setUpd f).fns = s.fns := rfl
@[simp] theorem State.setUpd_pwr (s : State) (f : Upd → Upd) : (s.setUpd f).pwr = s.pwr := rfl
@[simp] theorem State.setUpd_almanac (s : State) (f : Upd → Upd) : (s.setUpd f).almanac = s.almanac := rfl
@[simp] theorem State.setUpd_inp (s : State) (f : Upd → Upd) : (s.setUpd f).inp = s.inp := rfl
@[simp] theorem State.setUpd_cst (s : State) (f : Upd → Upd) : (s.setUpd f).cst = s.cst := rfl
@[simp] theorem State.setUpd_ypl (s : State) (f : Upd → Upd) : (s.setUpd f).ypl = s.ypl := rfl
@[simp] theorem State.setUpd_saf (s : State) (f : Upd → Upd) : (s.setUpd f).saf = s.saf := rfl
@[simp] theorem State.setUpd_adr (s : State) (f : Upd → Upd) : (s.setUpd f).adr = s.adr := rfl
@[simp] theorem State.setUpd_psw (s : State) (f : Upd → Upd) : (s.setUpd f).psw = s.psw := rfl
@[simp] theorem State.setUpd_mer (s : State) (f : Upd → Upd) : (s.setUpd f).mer = s.mer := rfl
@[simp] theorem State.setUpd_trn (s : State) (f : Upd → Upd) : (s.setUpd f).trn = s.trn := rfl
@[simp] theorem State.setUpd_pos (s : State) (f : Upd → Upd) : (s.setUpd f).pos = s.pos := rfl
@[simp] theorem State.setUpd_gptp (s : State) (f : Upd → Upd) : (s.setUpd f).gptp = s.gptp := rfl
@[simp] theorem State.setUpd_cam (s : State) (f : Upd → Upd) : (s.setUpd f).cam = s.cam := rfl
@[simp] theorem State.setUpd_vxa (s : State) (f : Upd → Upd) : (s.setUpd f).vxa = s.vxa := rfl
@[simp] theorem State.setUpd_ast (s : State) (f : Upd → Upd) : (s.setUpd f).ast = s.ast := rfl
@[simp] theorem State.setUpd_pair (s : State) (f : Upd → Upd) : (s.setUpd f).pair = s.pair := rfl
@[simp] theorem State.setUpd_can (s : State) (f : Upd → Upd) : (s.setUpd f).can = s.can := rfl
@[simp] theorem State.setUpd_prm (s : State) (f : Upd → Upd) : (s.setUpd f).prm = s.prm := rfl
@[simp] theorem State.setUpd_eth (s : State) (f : Upd → Upd) : (s.setUpd f).eth = s.eth := rfl
@[simp] theorem State.setUpd_pnl (s : State) (f : Upd → Upd) : (s.setUpd f).pnl = s.pnl := rfl
@[simp] theorem State.setUpd_flt (s : State) (f : Upd → Upd) : (s.setUpd f).flt = s.flt := rfl
@[simp] theorem State.setUpd_upd (s : State) (f : Upd → Upd) : (s.setUpd f).upd = f s.upd := rfl
@[simp] theorem State.setUpd_out (s : State) (f : Upd → Upd) : (s.setUpd f).out = s.out := rfl
@[simp] theorem State.setUpd_rd (s : State) (f : Upd → Upd) (a : Nat) : (s.setUpd f).rd a = s.rd a := rfl

@[simp] theorem State.setYpl_pending (s : State) (f : Ypl → Ypl) : (s.setYpl f).pending = s.pending := rfl
@[simp] theorem State.setYpl_clk (s : State) (f : Ypl → Ypl) : (s.setYpl f).clk = s.clk := rfl
@[simp] theorem State.setYpl_regs (s : State) (f : Ypl → Ypl) : (s.setYpl f).regs = s.regs := rfl
@[simp] theorem State.setYpl_shadow (s : State) (f : Ypl → Ypl) : (s.setYpl f).shadow = s.shadow := rfl
@[simp] theorem State.setYpl_fab (s : State) (f : Ypl → Ypl) : (s.setYpl f).fab = s.fab := rfl
@[simp] theorem State.setYpl_mbx (s : State) (f : Ypl → Ypl) : (s.setYpl f).mbx = s.mbx := rfl
@[simp] theorem State.setYpl_fns (s : State) (f : Ypl → Ypl) : (s.setYpl f).fns = s.fns := rfl
@[simp] theorem State.setYpl_pwr (s : State) (f : Ypl → Ypl) : (s.setYpl f).pwr = s.pwr := rfl
@[simp] theorem State.setYpl_almanac (s : State) (f : Ypl → Ypl) : (s.setYpl f).almanac = s.almanac := rfl
@[simp] theorem State.setYpl_inp (s : State) (f : Ypl → Ypl) : (s.setYpl f).inp = s.inp := rfl
@[simp] theorem State.setYpl_cst (s : State) (f : Ypl → Ypl) : (s.setYpl f).cst = s.cst := rfl
@[simp] theorem State.setYpl_ypl (s : State) (f : Ypl → Ypl) : (s.setYpl f).ypl = f s.ypl := rfl
@[simp] theorem State.setYpl_saf (s : State) (f : Ypl → Ypl) : (s.setYpl f).saf = s.saf := rfl
@[simp] theorem State.setYpl_adr (s : State) (f : Ypl → Ypl) : (s.setYpl f).adr = s.adr := rfl
@[simp] theorem State.setYpl_psw (s : State) (f : Ypl → Ypl) : (s.setYpl f).psw = s.psw := rfl
@[simp] theorem State.setYpl_mer (s : State) (f : Ypl → Ypl) : (s.setYpl f).mer = s.mer := rfl
@[simp] theorem State.setYpl_trn (s : State) (f : Ypl → Ypl) : (s.setYpl f).trn = s.trn := rfl
@[simp] theorem State.setYpl_pos (s : State) (f : Ypl → Ypl) : (s.setYpl f).pos = s.pos := rfl
@[simp] theorem State.setYpl_gptp (s : State) (f : Ypl → Ypl) : (s.setYpl f).gptp = s.gptp := rfl
@[simp] theorem State.setYpl_cam (s : State) (f : Ypl → Ypl) : (s.setYpl f).cam = s.cam := rfl
@[simp] theorem State.setYpl_vxa (s : State) (f : Ypl → Ypl) : (s.setYpl f).vxa = s.vxa := rfl
@[simp] theorem State.setYpl_ast (s : State) (f : Ypl → Ypl) : (s.setYpl f).ast = s.ast := rfl
@[simp] theorem State.setYpl_pair (s : State) (f : Ypl → Ypl) : (s.setYpl f).pair = s.pair := rfl
@[simp] theorem State.setYpl_can (s : State) (f : Ypl → Ypl) : (s.setYpl f).can = s.can := rfl
@[simp] theorem State.setYpl_prm (s : State) (f : Ypl → Ypl) : (s.setYpl f).prm = s.prm := rfl
@[simp] theorem State.setYpl_eth (s : State) (f : Ypl → Ypl) : (s.setYpl f).eth = s.eth := rfl
@[simp] theorem State.setYpl_pnl (s : State) (f : Ypl → Ypl) : (s.setYpl f).pnl = s.pnl := rfl
@[simp] theorem State.setYpl_flt (s : State) (f : Ypl → Ypl) : (s.setYpl f).flt = s.flt := rfl
@[simp] theorem State.setYpl_upd (s : State) (f : Ypl → Ypl) : (s.setYpl f).upd = s.upd := rfl
@[simp] theorem State.setYpl_out (s : State) (f : Ypl → Ypl) : (s.setYpl f).out = s.out := rfl
@[simp] theorem State.setYpl_rd (s : State) (f : Ypl → Ypl) (a : Nat) : (s.setYpl f).rd a = s.rd a := rfl

end Sys2Proof.Machine
end

