-- ==== Sys2Proof/Laws/Shared.lean ====
section
/-!
SUPPORT. What the shared operations can do: events, notifications, rings and mailbox answers stay within what functions share
(`Foot.shared`), and so leave every unit's own part, time and the queue alone.
-/
set_option Elab.async false
namespace Sys2Proof.Machine

/-- Nothing changes. -/
theorem Frame.refl (F : Foot) (s : State) : Frame F s s := by constructor <;> intros <;> rfl

/-- One frame after another. -/
theorem Frame.trans {F : Foot} {s t u : State} (a : Frame F s t) (b : Frame F t u) : Frame F s u where
  clk := b.clk.trans a.clk
  pending := b.pending.trans a.pending
  regs := fun x h => (b.regs x h).trans (a.regs x h)
  shadow := fun h => (b.shadow h).trans (a.shadow h)
  pwr := fun h => (b.pwr h).trans (a.pwr h)
  inp := fun h => (b.inp h).trans (a.inp h)
  cst := fun h => (b.cst h).trans (a.cst h)
  ypl := fun h => (b.ypl h).trans (a.ypl h)
  saf := fun h => (b.saf h).trans (a.saf h)
  adr := fun h => (b.adr h).trans (a.adr h)
  psw := fun h => (b.psw h).trans (a.psw h)
  mer := fun h => (b.mer h).trans (a.mer h)
  trn := fun h => (b.trn h).trans (a.trn h)
  pos := fun h => (b.pos h).trans (a.pos h)
  gptp := fun h => (b.gptp h).trans (a.gptp h)
  cam := fun h => (b.cam h).trans (a.cam h)
  vxa := fun h => (b.vxa h).trans (a.vxa h)
  ast := fun h => (b.ast h).trans (a.ast h)
  pair := fun h => (b.pair h).trans (a.pair h)
  can := fun h => (b.can h).trans (a.can h)
  prm := fun h => (b.prm h).trans (a.prm h)
  eth := fun h => (b.eth h).trans (a.eth h)
  pnl := fun h => (b.pnl h).trans (a.pnl h)
  flt := fun h => (b.flt h).trans (a.flt h)
  upd := fun h => (b.upd h).trans (a.upd h)

/-- Writing a register of a shared window. -/
theorem State.wr_shared {a : Nat} (h : Foot.shared.holds a = true) (s : State) (v : Word) : Frame .shared s (s.wr a v) := by
  constructor <;> intros <;> first
    | rfl
    | (rename_i b hb; exact State.wr_rd_ne s v (fun e => by rw [e, h] at hb; cases hb))

/-- An address of the mailbox's window is shared. -/
theorem Foot.shared_mbx {a : Nat} (h : 0xE0020000 ≤ a) (h' : a < 0xE0030000) : Foot.shared.holds a = true := by
  unfold Foot.holds Win.has Win.mbx
  have : (decide (0xE0020000 ≤ a) && decide (a < 0xE0020000 + 0x10000)) = true := by
    rw [Bool.and_eq_true, decide_eq_true_eq, decide_eq_true_eq]; omega
  rw [this]; simp

/-- An address of the recorder's window is shared. -/
theorem Foot.shared_rec {a : Nat} (h : 0xE0280000 ≤ a) (h' : a < 0xE0290000) : Foot.shared.holds a = true := by
  unfold Foot.holds Win.has Win.rec_
  have : (decide (0xE0280000 ≤ a) && decide (a < 0xE0280000 + 0x10000)) = true := by
    rw [Bool.and_eq_true, decide_eq_true_eq, decide_eq_true_eq]; omega
  rw [this]; simp

/-- An address of the fabric's window is shared. -/
theorem Foot.shared_fab {a : Nat} (h : 0xE0010000 ≤ a) (h' : a < 0xE0020000) : Foot.shared.holds a = true := by
  unfold Foot.holds Win.has Win.fab
  have : (decide (0xE0010000 ≤ a) && decide (a < 0xE0010000 + 0x10000)) = true := by
    rw [Bool.and_eq_true, decide_eq_true_eq, decide_eq_true_eq]; omega
  rw [this]; simp

/-- A change of the mailbox, the functions, the recorder, the fabric or what is sent. -/
theorem State.shared_update (s : State) (fab : Fabric) (mbx : Mailbox) (fns : List Fn) (rec_ : Recorder) (out : List OutMsg) :
    Frame .shared s { s with fab := fab, mbx := mbx, fns := fns, almanac := rec_, out := out } := by
  constructor <;> intros <;> rfl

theorem State.setSes_shared (s : State) (k : Nat) (g : Session → Session) : Frame .shared s (s.setSes k g) := by
  constructor <;> intros <;> rfl

theorem State.setFn_shared (s : State) (f : Nat) (g : Fn → Fn) : Frame .shared s (s.setFn f g) := by
  constructor <;> intros <;> rfl

theorem State.raiseIrq_shared (s : State) : Frame .shared s s.raiseIrq := by
  unfold State.raiseIrq
  dsimp only
  split
  · constructor <;> intros <;> rfl
  · split <;> (constructor <;> intros <;> rfl)

/-- The module advances a producer index. -/
theorem State.advanceProd_shared (s : State) {n : Nat} (h : n < 128) : Frame .shared s (s.advanceProd n) := by
  have e : Frame .shared s ((s.inc (R.MBX_Q_PROD n)).wb (R.MBX_IRQ_PEND (n / 32)) (n % 32) true) :=
    Frame.trans (State.wr_shared (Foot.shared_mbx (by unfold R.MBX_Q_PROD; omega) (by unfold R.MBX_Q_PROD; omega)) s _)
      (State.wr_shared (Foot.shared_mbx (by unfold R.MBX_IRQ_PEND; omega) (by unfold R.MBX_IRQ_PEND; omega)) _ _)
  unfold State.advanceProd
  dsimp only
  split
  · exact e.trans (State.raiseIrq_shared _)
  · exact e

/-- The module writes the bytes of a slot into a ring. -/
theorem State.publishBytes_shared (s : State) {n : Nat} (h : n < 128) (b : List Byte) : Frame .shared s (s.publishBytes n b) :=
  Frame.trans (by constructor <;> intros <;> rfl) (State.advanceProd_shared _ h)

/-- The module writes a slot into a ring, an extended payload into the session's window. -/
theorem State.publish_shared (s : State) {n : Nat} (h : n < 128) (x : Slot) : Frame .shared s (s.publish n x) := by
  unfold State.publish
  dsimp only
  refine Frame.trans ?_ (State.publishBytes_shared _ h _)
  split
  · constructor <;> intros <;> rfl
  · exact Frame.refl _ _

theorem State.sendSlot_shared (s : State) (k : Nat) {n : Nat} (h : n < 128) (x : Slot) : Frame .shared s (s.sendSlot k n x) := by
  unfold State.sendSlot
  split
  · constructor <;> intros <;> rfl
  · exact State.publish_shared s h x

theorem State.notifySes_shared (s : State) {k : Nat} (h : k < 16) (cls : Nat) (p : List Byte) :
    Frame .shared s (s.notifySes k cls p) := by
  have hn : 32 + k < 128 := by omega
  have hl : Frame .shared s (s.inc R.MBX_NOTIF_LOST) := State.wr_shared (Foot.shared_mbx (by decide) (by decide)) s _
  have hs (x : Slot) (g : Session → Session) : Frame .shared s ((s.sendSlot k (32 + k) x).setSes k g) :=
    (State.sendSlot_shared s k hn x).trans (State.setSes_shared _ _ _)
  unfold State.notifySes
  dsimp only
  repeat' split
  all_goals first
    | exact State.setSes_shared _ _ _
    | exact hs _ _
    | exact hl

/-- A notification stays within what functions share. -/
theorem State.notify_shared (s : State) (f code : Nat) (p : List Byte) : Frame .shared s (s.notify f code p) := by
  have key : ∀ (l : List Nat), (∀ k ∈ l, k < 16) → ∀ s : State, Frame .shared s (l.foldl (fun (t : State) k =>
      let x := t.ses k
      if x.isOpen && bit x.mask f then t.notifySes k (256 * f + code) p else t) s) := by
    intro l
    induction l with
    | nil => intro _ s; exact Frame.refl _ _
    | cons k l ih =>
      intro hl s
      rw [List.foldl_cons]
      refine Frame.trans ?_ (ih (fun j hj => hl j (by simp [hj])) _)
      dsimp only
      split
      · exact State.notifySes_shared _ (hl k (by simp)) _ _
      · exact Frame.refl _ _
  exact key _ (by intro k hk; simpa using hk) s

theorem State.setRec_shared (s : State) (r : Recorder) : Frame .shared s { s with almanac := r } := by
  constructor <;> intros <;> rfl

/-- A recorder loss stays within what functions share. -/
theorem State.recLoss_shared (s : State) (sev : Nat) : Frame .shared s (s.recLoss sev) := by
  have hl : Foot.shared.holds (lossReg sev) = true := by
    unfold lossReg; split <;> exact Foot.shared_rec (by decide) (by decide)
  have e : Frame .shared s (s.inc (lossReg sev)) := State.wr_shared hl s _
  have e2 : Frame .shared s ((s.inc (lossReg sev)).inc R.REC_FRZ_OVF) :=
    e.trans (State.wr_shared (Foot.shared_rec (by decide) (by decide)) _ _)
  unfold State.recLoss
  dsimp only
  refine Frame.trans ?_ (State.notify_shared _ _ _ _)
  split
  · exact e2.trans (State.setRec_shared _ _)
  · exact e.trans (State.setRec_shared _ _)

/-- An event stays within what functions share. -/
theorem State.postRaw_shared (s : State) (code src sev : Nat) (w : List Word) :
    Frame .shared s (s.postRaw code src sev w) := by
  have key : ∀ t : State, Frame .shared s t → Frame .shared s
      (if t.almanac.fifo.length < 64 then
        { t with almanac := { t.almanac with fifo := t.almanac.fifo ++
          [{ code := code, src := src, sev := sev, words := w, tb := t.evTime, op := (t.rd R.SYS_OP_SECONDS).toNat,
             cyc := (t.rd R.SYS_PWR_CYCLES).toNat, aon := t.power < 2 }] } }
      else t.recLoss sev) := by
    intro t ht
    split
    · exact ht.trans (State.setRec_shared _ _)
    · exact ht.trans (State.recLoss_shared _ _)
  unfold State.postRaw
  refine key _ ?_
  split
  · exact State.setFn_shared _ _ _
  · exact Frame.refl _ _

theorem State.post_shared (s : State) (f : Nat) (e : Ev) : Frame .shared s (s.post f e) := State.postRaw_shared _ _ _ _ _

@[simp] theorem State.notify_clk (s : State) (f code : Nat) (p : List Byte) : (s.notify f code p).clk = s.clk := (State.notify_shared s f code p).clk
@[simp] theorem State.notify_pending (s : State) (f code : Nat) (p : List Byte) : (s.notify f code p).pending = s.pending := (State.notify_shared s f code p).pending
@[simp] theorem State.notify_shadow (s : State) (f code : Nat) (p : List Byte) : (s.notify f code p).shadow = s.shadow :=
  (State.notify_shared s f code p).shadow rfl
@[simp] theorem State.notify_pwr (s : State) (f code : Nat) (p : List Byte) : (s.notify f code p).pwr = s.pwr :=
  (State.notify_shared s f code p).pwr rfl
@[simp] theorem State.notify_inp (s : State) (f code : Nat) (p : List Byte) : (s.notify f code p).inp = s.inp :=
  (State.notify_shared s f code p).inp rfl
@[simp] theorem State.notify_cst (s : State) (f code : Nat) (p : List Byte) : (s.notify f code p).cst = s.cst :=
  (State.notify_shared s f code p).cst rfl
@[simp] theorem State.notify_ypl (s : State) (f code : Nat) (p : List Byte) : (s.notify f code p).ypl = s.ypl :=
  (State.notify_shared s f code p).ypl rfl
@[simp] theorem State.notify_saf (s : State) (f code : Nat) (p : List Byte) : (s.notify f code p).saf = s.saf :=
  (State.notify_shared s f code p).saf rfl
@[simp] theorem State.notify_adr (s : State) (f code : Nat) (p : List Byte) : (s.notify f code p).adr = s.adr :=
  (State.notify_shared s f code p).adr rfl
@[simp] theorem State.notify_psw (s : State) (f code : Nat) (p : List Byte) : (s.notify f code p).psw = s.psw :=
  (State.notify_shared s f code p).psw rfl
@[simp] theorem State.notify_mer (s : State) (f code : Nat) (p : List Byte) : (s.notify f code p).mer = s.mer :=
  (State.notify_shared s f code p).mer rfl
@[simp] theorem State.notify_trn (s : State) (f code : Nat) (p : List Byte) : (s.notify f code p).trn = s.trn :=
  (State.notify_shared s f code p).trn rfl
@[simp] theorem State.notify_pos (s : State) (f code : Nat) (p : List Byte) : (s.notify f code p).pos = s.pos :=
  (State.notify_shared s f code p).pos rfl
@[simp] theorem State.notify_gptp (s : State) (f code : Nat) (p : List Byte) : (s.notify f code p).gptp = s.gptp :=
  (State.notify_shared s f code p).gptp rfl
@[simp] theorem State.notify_cam (s : State) (f code : Nat) (p : List Byte) : (s.notify f code p).cam = s.cam :=
  (State.notify_shared s f code p).cam rfl
@[simp] theorem State.notify_vxa (s : State) (f code : Nat) (p : List Byte) : (s.notify f code p).vxa = s.vxa :=
  (State.notify_shared s f code p).vxa rfl
@[simp] theorem State.notify_ast (s : State) (f code : Nat) (p : List Byte) : (s.notify f code p).ast = s.ast :=
  (State.notify_shared s f code p).ast rfl
@[simp] theorem State.notify_pair (s : State) (f code : Nat) (p : List Byte) : (s.notify f code p).pair = s.pair :=
  (State.notify_shared s f code p).pair rfl
@[simp] theorem State.notify_can (s : State) (f code : Nat) (p : List Byte) : (s.notify f code p).can = s.can :=
  (State.notify_shared s f code p).can rfl
@[simp] theorem State.notify_prm (s : State) (f code : Nat) (p : List Byte) : (s.notify f code p).prm = s.prm :=
  (State.notify_shared s f code p).prm rfl
@[simp] theorem State.notify_eth (s : State) (f code : Nat) (p : List Byte) : (s.notify f code p).eth = s.eth :=
  (State.notify_shared s f code p).eth rfl
@[simp] theorem State.notify_pnl (s : State) (f code : Nat) (p : List Byte) : (s.notify f code p).pnl = s.pnl :=
  (State.notify_shared s f code p).pnl rfl
@[simp] theorem State.notify_flt (s : State) (f code : Nat) (p : List Byte) : (s.notify f code p).flt = s.flt :=
  (State.notify_shared s f code p).flt rfl
@[simp] theorem State.notify_upd (s : State) (f code : Nat) (p : List Byte) : (s.notify f code p).upd = s.upd :=
  (State.notify_shared s f code p).upd rfl
theorem State.notify_rd (s : State) (f code : Nat) (p : List Byte) {a : Nat} (h : Foot.shared.holds a = false) :
    (s.notify f code p).rd a = s.rd a := (State.notify_shared s f code p).regs a h

@[simp] theorem State.recLoss_clk (s : State) (sev : Nat) : (s.recLoss sev).clk = s.clk := (State.recLoss_shared s sev).clk
@[simp] theorem State.recLoss_pending (s : State) (sev : Nat) : (s.recLoss sev).pending = s.pending := (State.recLoss_shared s sev).pending
@[simp] theorem State.recLoss_shadow (s : State) (sev : Nat) : (s.recLoss sev).shadow = s.shadow :=
  (State.recLoss_shared s sev).shadow rfl
@[simp] theorem State.recLoss_pwr (s : State) (sev : Nat) : (s.recLoss sev).pwr = s.pwr :=
  (State.recLoss_shared s sev).pwr rfl
@[simp] theorem State.recLoss_inp (s : State) (sev : Nat) : (s.recLoss sev).inp = s.inp :=
  (State.recLoss_shared s sev).inp rfl
@[simp] theorem State.recLoss_cst (s : State) (sev : Nat) : (s.recLoss sev).cst = s.cst :=
  (State.recLoss_shared s sev).cst rfl
@[simp] theorem State.recLoss_ypl (s : State) (sev : Nat) : (s.recLoss sev).ypl = s.ypl :=
  (State.recLoss_shared s sev).ypl rfl
@[simp] theorem State.recLoss_saf (s : State) (sev : Nat) : (s.recLoss sev).saf = s.saf :=
  (State.recLoss_shared s sev).saf rfl
@[simp] theorem State.recLoss_adr (s : State) (sev : Nat) : (s.recLoss sev).adr = s.adr :=
  (State.recLoss_shared s sev).adr rfl
@[simp] theorem State.recLoss_psw (s : State) (sev : Nat) : (s.recLoss sev).psw = s.psw :=
  (State.recLoss_shared s sev).psw rfl
@[simp] theorem State.recLoss_mer (s : State) (sev : Nat) : (s.recLoss sev).mer = s.mer :=
  (State.recLoss_shared s sev).mer rfl
@[simp] theorem State.recLoss_trn (s : State) (sev : Nat) : (s.recLoss sev).trn = s.trn :=
  (State.recLoss_shared s sev).trn rfl
@[simp] theorem State.recLoss_pos (s : State) (sev : Nat) : (s.recLoss sev).pos = s.pos :=
  (State.recLoss_shared s sev).pos rfl
@[simp] theorem State.recLoss_gptp (s : State) (sev : Nat) : (s.recLoss sev).gptp = s.gptp :=
  (State.recLoss_shared s sev).gptp rfl
@[simp] theorem State.recLoss_cam (s : State) (sev : Nat) : (s.recLoss sev).cam = s.cam :=
  (State.recLoss_shared s sev).cam rfl
@[simp] theorem State.recLoss_vxa (s : State) (sev : Nat) : (s.recLoss sev).vxa = s.vxa :=
  (State.recLoss_shared s sev).vxa rfl
@[simp] theorem State.recLoss_ast (s : State) (sev : Nat) : (s.recLoss sev).ast = s.ast :=
  (State.recLoss_shared s sev).ast rfl
@[simp] theorem State.recLoss_pair (s : State) (sev : Nat) : (s.recLoss sev).pair = s.pair :=
  (State.recLoss_shared s sev).pair rfl
@[simp] theorem State.recLoss_can (s : State) (sev : Nat) : (s.recLoss sev).can = s.can :=
  (State.recLoss_shared s sev).can rfl
@[simp] theorem State.recLoss_prm (s : State) (sev : Nat) : (s.recLoss sev).prm = s.prm :=
  (State.recLoss_shared s sev).prm rfl
@[simp] theorem State.recLoss_eth (s : State) (sev : Nat) : (s.recLoss sev).eth = s.eth :=
  (State.recLoss_shared s sev).eth rfl
@[simp] theorem State.recLoss_pnl (s : State) (sev : Nat) : (s.recLoss sev).pnl = s.pnl :=
  (State.recLoss_shared s sev).pnl rfl
@[simp] theorem State.recLoss_flt (s : State) (sev : Nat) : (s.recLoss sev).flt = s.flt :=
  (State.recLoss_shared s sev).flt rfl
@[simp] theorem State.recLoss_upd (s : State) (sev : Nat) : (s.recLoss sev).upd = s.upd :=
  (State.recLoss_shared s sev).upd rfl
theorem State.recLoss_rd (s : State) (sev : Nat) {a : Nat} (h : Foot.shared.holds a = false) :
    (s.recLoss sev).rd a = s.rd a := (State.recLoss_shared s sev).regs a h

@[simp] theorem State.postRaw_clk (s : State) (code src sev : Nat) (w : List Word) : (s.postRaw code src sev w).clk = s.clk := (State.postRaw_shared s code src sev w).clk
@[simp] theorem State.postRaw_pending (s : State) (code src sev : Nat) (w : List Word) : (s.postRaw code src sev w).pending = s.pending := (State.postRaw_shared s code src sev w).pending
@[simp] theorem State.postRaw_shadow (s : State) (code src sev : Nat) (w : List Word) : (s.postRaw code src sev w).shadow = s.shadow :=
  (State.postRaw_shared s code src sev w).shadow rfl
@[simp] theorem State.postRaw_pwr (s : State) (code src sev : Nat) (w : List Word) : (s.postRaw code src sev w).pwr = s.pwr :=
  (State.postRaw_shared s code src sev w).pwr rfl
@[simp] theorem State.postRaw_inp (s : State) (code src sev : Nat) (w : List Word) : (s.postRaw code src sev w).inp = s.inp :=
  (State.postRaw_shared s code src sev w).inp rfl
@[simp] theorem State.postRaw_cst (s : State) (code src sev : Nat) (w : List Word) : (s.postRaw code src sev w).cst = s.cst :=
  (State.postRaw_shared s code src sev w).cst rfl
@[simp] theorem State.postRaw_ypl (s : State) (code src sev : Nat) (w : List Word) : (s.postRaw code src sev w).ypl = s.ypl :=
  (State.postRaw_shared s code src sev w).ypl rfl
@[simp] theorem State.postRaw_saf (s : State) (code src sev : Nat) (w : List Word) : (s.postRaw code src sev w).saf = s.saf :=
  (State.postRaw_shared s code src sev w).saf rfl
@[simp] theorem State.postRaw_adr (s : State) (code src sev : Nat) (w : List Word) : (s.postRaw code src sev w).adr = s.adr :=
  (State.postRaw_shared s code src sev w).adr rfl
@[simp] theorem State.postRaw_psw (s : State) (code src sev : Nat) (w : List Word) : (s.postRaw code src sev w).psw = s.psw :=
  (State.postRaw_shared s code src sev w).psw rfl
@[simp] theorem State.postRaw_mer (s : State) (code src sev : Nat) (w : List Word) : (s.postRaw code src sev w).mer = s.mer :=
  (State.postRaw_shared s code src sev w).mer rfl
@[simp] theorem State.postRaw_trn (s : State) (code src sev : Nat) (w : List Word) : (s.postRaw code src sev w).trn = s.trn :=
  (State.postRaw_shared s code src sev w).trn rfl
@[simp] theorem State.postRaw_pos (s : State) (code src sev : Nat) (w : List Word) : (s.postRaw code src sev w).pos = s.pos :=
  (State.postRaw_shared s code src sev w).pos rfl
@[simp] theorem State.postRaw_gptp (s : State) (code src sev : Nat) (w : List Word) : (s.postRaw code src sev w).gptp = s.gptp :=
  (State.postRaw_shared s code src sev w).gptp rfl
@[simp] theorem State.postRaw_cam (s : State) (code src sev : Nat) (w : List Word) : (s.postRaw code src sev w).cam = s.cam :=
  (State.postRaw_shared s code src sev w).cam rfl
@[simp] theorem State.postRaw_vxa (s : State) (code src sev : Nat) (w : List Word) : (s.postRaw code src sev w).vxa = s.vxa :=
  (State.postRaw_shared s code src sev w).vxa rfl
@[simp] theorem State.postRaw_ast (s : State) (code src sev : Nat) (w : List Word) : (s.postRaw code src sev w).ast = s.ast :=
  (State.postRaw_shared s code src sev w).ast rfl
@[simp] theorem State.postRaw_pair (s : State) (code src sev : Nat) (w : List Word) : (s.postRaw code src sev w).pair = s.pair :=
  (State.postRaw_shared s code src sev w).pair rfl
@[simp] theorem State.postRaw_can (s : State) (code src sev : Nat) (w : List Word) : (s.postRaw code src sev w).can = s.can :=
  (State.postRaw_shared s code src sev w).can rfl
@[simp] theorem State.postRaw_prm (s : State) (code src sev : Nat) (w : List Word) : (s.postRaw code src sev w).prm = s.prm :=
  (State.postRaw_shared s code src sev w).prm rfl
@[simp] theorem State.postRaw_eth (s : State) (code src sev : Nat) (w : List Word) : (s.postRaw code src sev w).eth = s.eth :=
  (State.postRaw_shared s code src sev w).eth rfl
@[simp] theorem State.postRaw_pnl (s : State) (code src sev : Nat) (w : List Word) : (s.postRaw code src sev w).pnl = s.pnl :=
  (State.postRaw_shared s code src sev w).pnl rfl
@[simp] theorem State.postRaw_flt (s : State) (code src sev : Nat) (w : List Word) : (s.postRaw code src sev w).flt = s.flt :=
  (State.postRaw_shared s code src sev w).flt rfl
@[simp] theorem State.postRaw_upd (s : State) (code src sev : Nat) (w : List Word) : (s.postRaw code src sev w).upd = s.upd :=
  (State.postRaw_shared s code src sev w).upd rfl
theorem State.postRaw_rd (s : State) (code src sev : Nat) (w : List Word) {a : Nat} (h : Foot.shared.holds a = false) :
    (s.postRaw code src sev w).rd a = s.rd a := (State.postRaw_shared s code src sev w).regs a h

@[simp] theorem State.post_clk (s : State) (f : Nat) (e : Ev) : (s.post f e).clk = s.clk := (State.post_shared s f e).clk
@[simp] theorem State.post_pending (s : State) (f : Nat) (e : Ev) : (s.post f e).pending = s.pending := (State.post_shared s f e).pending
@[simp] theorem State.post_shadow (s : State) (f : Nat) (e : Ev) : (s.post f e).shadow = s.shadow :=
  (State.post_shared s f e).shadow rfl
@[simp] theorem State.post_pwr (s : State) (f : Nat) (e : Ev) : (s.post f e).pwr = s.pwr :=
  (State.post_shared s f e).pwr rfl
@[simp] theorem State.post_inp (s : State) (f : Nat) (e : Ev) : (s.post f e).inp = s.inp :=
  (State.post_shared s f e).inp rfl
@[simp] theorem State.post_cst (s : State) (f : Nat) (e : Ev) : (s.post f e).cst = s.cst :=
  (State.post_shared s f e).cst rfl
@[simp] theorem State.post_ypl (s : State) (f : Nat) (e : Ev) : (s.post f e).ypl = s.ypl :=
  (State.post_shared s f e).ypl rfl
@[simp] theorem State.post_saf (s : State) (f : Nat) (e : Ev) : (s.post f e).saf = s.saf :=
  (State.post_shared s f e).saf rfl
@[simp] theorem State.post_adr (s : State) (f : Nat) (e : Ev) : (s.post f e).adr = s.adr :=
  (State.post_shared s f e).adr rfl
@[simp] theorem State.post_psw (s : State) (f : Nat) (e : Ev) : (s.post f e).psw = s.psw :=
  (State.post_shared s f e).psw rfl
@[simp] theorem State.post_mer (s : State) (f : Nat) (e : Ev) : (s.post f e).mer = s.mer :=
  (State.post_shared s f e).mer rfl
@[simp] theorem State.post_trn (s : State) (f : Nat) (e : Ev) : (s.post f e).trn = s.trn :=
  (State.post_shared s f e).trn rfl
@[simp] theorem State.post_pos (s : State) (f : Nat) (e : Ev) : (s.post f e).pos = s.pos :=
  (State.post_shared s f e).pos rfl
@[simp] theorem State.post_gptp (s : State) (f : Nat) (e : Ev) : (s.post f e).gptp = s.gptp :=
  (State.post_shared s f e).gptp rfl
@[simp] theorem State.post_cam (s : State) (f : Nat) (e : Ev) : (s.post f e).cam = s.cam :=
  (State.post_shared s f e).cam rfl
@[simp] theorem State.post_vxa (s : State) (f : Nat) (e : Ev) : (s.post f e).vxa = s.vxa :=
  (State.post_shared s f e).vxa rfl
@[simp] theorem State.post_ast (s : State) (f : Nat) (e : Ev) : (s.post f e).ast = s.ast :=
  (State.post_shared s f e).ast rfl
@[simp] theorem State.post_pair (s : State) (f : Nat) (e : Ev) : (s.post f e).pair = s.pair :=
  (State.post_shared s f e).pair rfl
@[simp] theorem State.post_can (s : State) (f : Nat) (e : Ev) : (s.post f e).can = s.can :=
  (State.post_shared s f e).can rfl
@[simp] theorem State.post_prm (s : State) (f : Nat) (e : Ev) : (s.post f e).prm = s.prm :=
  (State.post_shared s f e).prm rfl
@[simp] theorem State.post_eth (s : State) (f : Nat) (e : Ev) : (s.post f e).eth = s.eth :=
  (State.post_shared s f e).eth rfl
@[simp] theorem State.post_pnl (s : State) (f : Nat) (e : Ev) : (s.post f e).pnl = s.pnl :=
  (State.post_shared s f e).pnl rfl
@[simp] theorem State.post_flt (s : State) (f : Nat) (e : Ev) : (s.post f e).flt = s.flt :=
  (State.post_shared s f e).flt rfl
@[simp] theorem State.post_upd (s : State) (f : Nat) (e : Ev) : (s.post f e).upd = s.upd :=
  (State.post_shared s f e).upd rfl
theorem State.post_rd (s : State) (f : Nat) (e : Ev) {a : Nat} (h : Foot.shared.holds a = false) :
    (s.post f e).rd a = s.rd a := (State.post_shared s f e).regs a h

/-- What a bus access does to waiting guards leaves the functions alone. -/
theorem State.reached_fns (s : State) (ini : Initiator) (b : Nat) : (s.reached ini b).fns = s.fns := by
  unfold State.reached State.guardInterrupt State.guardExpire State.guardErr State.guardDrop
  split <;> (try split) <;> (try split) <;> simp_all

/-- A write that a row of the table names takes effect where its domain answers and its writer may write (R66, R80): the guard of
the block is served first, and the bus answers. -/
theorem State.owned_done {s : State} {ini : Initiator} {f : Nat} {w : Win} {d : Domain} (g : State → State)
    (hd : s.domainUp d = true) (he : ini = .host → s.expert f = true) :
    s.owned ini f w d g = (g (s.reached ini w.1)).busDone ini := by
  have h : (s.reached ini w.1).expert f = s.expert f := by unfold State.expert State.fn; rw [State.reached_fns]
  unfold State.owned
  simp only [hd, h, Bool.not_true, Bool.false_eq_true, if_false]
  cases ini <;> simp_all

end Sys2Proof.Machine
end

