-- ==== Sys2Proof/Laws/Command.lean ====
section
/-!
SUPPORT. The laws of mailbox commands: what an accepted command's state holds when its body begins, and that it ends with
what its body gives.
-/
set_option Elab.async false
namespace Sys2Proof.Machine

/-- Acceptance does not depend on what was sent before. -/
theorem Accepted.begun {f b role : Nat} {c : Cmd} {k : Nat} {s : State} (h : Accepted f b role c k s) :
    Accepted f b role c k s.begun := ⟨h.dome, h.turn, h.session, h.fresh, h.opened, h.bar⟩

/-- An accepted command ends with what its body gives. -/
theorem State.command_accepted {f b role : Nat} {c : Cmd} {k : Nat} {s : State} (h : Accepted f b role c k s)
    (body : Nat → State → Reply × State) :
    s.command f b role c body = State.respond k (256 * f + b) c (body k (s.enter f (256 * f + b) k c)) := by
  have hd : ¬ s.dome < 2 := by have := h.dome; omega
  have hf : (s.ses k).kept.find? (fun e => e.seq == c.seq) = none := by
    rw [List.find?_eq_none]
    intro e he
    simpa using h.fresh e he
  unfold State.command
  simp only [h.turn, Bool.not_true, Bool.and_false, Bool.false_eq_true, if_false]
  rw [if_neg hd]
  simp only [h.session, hf, h.opened, h.bar, Bool.not_true, Bool.false_eq_true, if_false]

@[simp] theorem State.enter_pending (s : State) (f op k : Nat) (c : Cmd) : (s.enter f op k c).pending = s.pending := by
  unfold State.enter; dsimp only; split <;> rfl
@[simp] theorem State.enter_clk (s : State) (f op k : Nat) (c : Cmd) : (s.enter f op k c).clk = s.clk := by
  unfold State.enter; dsimp only; split <;> rfl
@[simp] theorem State.enter_regs (s : State) (f op k : Nat) (c : Cmd) : (s.enter f op k c).regs = s.regs := by
  unfold State.enter; dsimp only; split <;> rfl
@[simp] theorem State.enter_shadow (s : State) (f op k : Nat) (c : Cmd) : (s.enter f op k c).shadow = s.shadow := by
  unfold State.enter; dsimp only; split <;> rfl
@[simp] theorem State.enter_fab (s : State) (f op k : Nat) (c : Cmd) : (s.enter f op k c).fab = s.fab := by
  unfold State.enter; dsimp only; split <;> rfl
@[simp] theorem State.enter_fns (s : State) (f op k : Nat) (c : Cmd) : (s.enter f op k c).fns = s.fns := by
  unfold State.enter; dsimp only; split <;> rfl
@[simp] theorem State.enter_pwr (s : State) (f op k : Nat) (c : Cmd) : (s.enter f op k c).pwr = s.pwr := by
  unfold State.enter; dsimp only; split <;> rfl
@[simp] theorem State.enter_almanac (s : State) (f op k : Nat) (c : Cmd) : (s.enter f op k c).almanac = s.almanac := by
  unfold State.enter; dsimp only; split <;> rfl
@[simp] theorem State.enter_inp (s : State) (f op k : Nat) (c : Cmd) : (s.enter f op k c).inp = s.inp := by
  unfold State.enter; dsimp only; split <;> rfl
@[simp] theorem State.enter_cst (s : State) (f op k : Nat) (c : Cmd) : (s.enter f op k c).cst = s.cst := by
  unfold State.enter; dsimp only; split <;> rfl
@[simp] theorem State.enter_ypl (s : State) (f op k : Nat) (c : Cmd) : (s.enter f op k c).ypl = s.ypl := by
  unfold State.enter; dsimp only; split <;> rfl
@[simp] theorem State.enter_saf (s : State) (f op k : Nat) (c : Cmd) : (s.enter f op k c).saf = s.saf := by
  unfold State.enter; dsimp only; split <;> rfl
@[simp] theorem State.enter_adr (s : State) (f op k : Nat) (c : Cmd) : (s.enter f op k c).adr = s.adr := by
  unfold State.enter; dsimp only; split <;> rfl
@[simp] theorem State.enter_psw (s : State) (f op k : Nat) (c : Cmd) : (s.enter f op k c).psw = s.psw := by
  unfold State.enter; dsimp only; split <;> rfl
@[simp] theorem State.enter_mer (s : State) (f op k : Nat) (c : Cmd) : (s.enter f op k c).mer = s.mer := by
  unfold State.enter; dsimp only; split <;> rfl
@[simp] theorem State.enter_trn (s : State) (f op k : Nat) (c : Cmd) : (s.enter f op k c).trn = s.trn := by
  unfold State.enter; dsimp only; split <;> rfl
@[simp] theorem State.enter_pos (s : State) (f op k : Nat) (c : Cmd) : (s.enter f op k c).pos = s.pos := by
  unfold State.enter; dsimp only; split <;> rfl
@[simp] theorem State.enter_gptp (s : State) (f op k : Nat) (c : Cmd) : (s.enter f op k c).gptp = s.gptp := by
  unfold State.enter; dsimp only; split <;> rfl
@[simp] theorem State.enter_cam (s : State) (f op k : Nat) (c : Cmd) : (s.enter f op k c).cam = s.cam := by
  unfold State.enter; dsimp only; split <;> rfl
@[simp] theorem State.enter_vxa (s : State) (f op k : Nat) (c : Cmd) : (s.enter f op k c).vxa = s.vxa := by
  unfold State.enter; dsimp only; split <;> rfl
@[simp] theorem State.enter_ast (s : State) (f op k : Nat) (c : Cmd) : (s.enter f op k c).ast = s.ast := by
  unfold State.enter; dsimp only; split <;> rfl
@[simp] theorem State.enter_pair (s : State) (f op k : Nat) (c : Cmd) : (s.enter f op k c).pair = s.pair := by
  unfold State.enter; dsimp only; split <;> rfl
@[simp] theorem State.enter_can (s : State) (f op k : Nat) (c : Cmd) : (s.enter f op k c).can = s.can := by
  unfold State.enter; dsimp only; split <;> rfl
@[simp] theorem State.enter_prm (s : State) (f op k : Nat) (c : Cmd) : (s.enter f op k c).prm = s.prm := by
  unfold State.enter; dsimp only; split <;> rfl
@[simp] theorem State.enter_eth (s : State) (f op k : Nat) (c : Cmd) : (s.enter f op k c).eth = s.eth := by
  unfold State.enter; dsimp only; split <;> rfl
@[simp] theorem State.enter_pnl (s : State) (f op k : Nat) (c : Cmd) : (s.enter f op k c).pnl = s.pnl := by
  unfold State.enter; dsimp only; split <;> rfl
@[simp] theorem State.enter_flt (s : State) (f op k : Nat) (c : Cmd) : (s.enter f op k c).flt = s.flt := by
  unfold State.enter; dsimp only; split <;> rfl
@[simp] theorem State.enter_out (s : State) (f op k : Nat) (c : Cmd) : (s.enter f op k c).out = s.out := by
  unfold State.enter; dsimp only; split <;> rfl
@[simp] theorem State.enter_rd (s : State) (f op k : Nat) (c : Cmd) (a : Nat) : (s.enter f op k c).rd a = s.rd a := by
  unfold State.enter; dsimp only; split <;> rfl
@[simp] theorem State.enter_bt (s : State) (f op k : Nat) (c : Cmd) (a b : Nat) : (s.enter f op k c).bt a b = s.bt a b := by
  unfold State.bt; rw [State.enter_rd]
@[simp] theorem State.enter_fd (s : State) (f op k : Nat) (c : Cmd) (a h l : Nat) :
    (s.enter f op k c).fd a h l = s.fd a h l := by unfold State.fd; rw [State.enter_rd]
@[simp] theorem State.enter_running (s : State) (f op k : Nat) (c : Cmd) :
    (s.enter f op k c).mbx.running = s.mbx.running := by unfold State.enter; dsimp only; split <;> rfl
@[simp] theorem State.enter_rings (s : State) (f op k : Nat) (c : Cmd) :
    (s.enter f op k c).mbx.rings = s.mbx.rings := by unfold State.enter; dsimp only; split <;> rfl
@[simp] theorem State.enter_isRunning (s : State) (f op k : Nat) (c : Cmd) (g : Nat) :
    (s.enter f op k c).isRunning g = s.isRunning g := by unfold State.enter; dsimp only; split <;> rfl
@[simp] theorem State.enter_fn (s : State) (f op k : Nat) (c : Cmd) (g : Nat) :
    (s.enter f op k c).fn g = s.fn g := by unfold State.enter; dsimp only; split <;> rfl
@[simp] theorem State.enter_expert (s : State) (f op k : Nat) (c : Cmd) (g : Nat) :
    (s.enter f op k c).expert g = s.expert g := by unfold State.enter; dsimp only; split <;> rfl

end Sys2Proof.Machine
end

