-- ==== Sys2Proof/Laws/Begun.lean ====
section
/-!
SUPPORT. What a command's effect reads of the state is what the state held when it came: each reading of the state before the
effect begins, and when a mailbox command's body begins.
-/
set_option Elab.async false
namespace Sys2Proof.Machine

@[simp] theorem State.begun_ch (s : State) (n : Nat) : s.begun.ch n = s.ch n := rfl
@[simp] theorem State.begun_bank (s : State) (k : Nat) : s.begun.bank k = s.bank k := rfl
@[simp] theorem State.begun_tb2 (s : State) : s.begun.tb2 = s.tb2 := rfl
@[simp] theorem State.begun_tickEarly (s : State) : s.begun.tickEarly = s.tickEarly := rfl
@[simp] theorem State.begun_adrMode (s : State) (n : Nat) : s.begun.adrMode n = s.adrMode n := rfl
@[simp] theorem State.begun_adrEn (s : State) (n : Nat) : s.begun.adrEn n = s.adrEn n := rfl
@[simp] theorem State.begun_adrProf (s : State) (n : Nat) : s.begun.adrProf n = s.adrProf n := rfl
@[simp] theorem State.begun_adrOpenTh (s : State) (n : Nat) : s.begun.adrOpenTh n = s.adrOpenTh n := rfl
@[simp] theorem State.begun_adrMot (s : State) (n : Nat) : s.begun.adrMot n = s.adrMot n := rfl
@[simp] theorem State.begun_adrDmin (s : State) (n : Nat) : s.begun.adrDmin n = s.adrDmin n := rfl
@[simp] theorem State.begun_line (s : State) (i : Nat) : s.begun.line i = s.line i := rfl
@[simp] theorem State.begun_bankEff (s : State) (k : Nat) : s.begun.bankEff k = s.bankEff k := rfl
@[simp] theorem State.begun_bankMay (s : State) (k : Nat) : s.begun.bankMay k = s.bankMay k := rfl
@[simp] theorem State.begun_adrCmd (s : State) (n : Nat) : s.begun.adrCmd n = s.adrCmd n := rfl
@[simp] theorem State.begun_adrProp (s : State) (n : Nat) : s.begun.adrProp n = s.adrProp n := rfl
@[simp] theorem State.begun_bankSampler (s : State) (k : Nat) : s.begun.bankSampler k = s.bankSampler k := rfl
@[simp] theorem State.begun_bstTarget (s : State) : s.begun.bstTarget = s.bstTarget := rfl
@[simp] theorem State.begun_bstMay (s : State) : s.begun.bstMay = s.bstMay := rfl
@[simp] theorem State.begun_bstLowm (s : State) : s.begun.bstLowm = s.bstLowm := rfl
@[simp] theorem State.begun_bstSpillAt (s : State) : s.begun.bstSpillAt = s.bstSpillAt := rfl
@[simp] theorem State.begun_adrTemp (s : State) (n : Nat) : s.begun.adrTemp n = s.adrTemp n := rfl
@[simp] theorem State.begun_adrBandAt (s : State) (n act : Nat) : s.begun.adrBandAt n act = s.adrBandAt n act := rfl
@[simp] theorem State.begun_adrTrim (s : State) (n : Nat) : s.begun.adrTrim n = s.adrTrim n := rfl
@[simp] theorem State.begun_adrState (s : State) (n : Nat) : s.begun.adrState n = s.adrState n := rfl
@[simp] theorem State.begun_bankSrc (s : State) (k : Nat) : s.begun.bankSrc k = s.bankSrc k := rfl
@[simp] theorem State.begun_adrNoSig (s : State) (n : Nat) : s.begun.adrNoSig n = s.adrNoSig n := rfl
@[simp] theorem State.begun_bankGuarded (s : State) (n : Nat) : s.begun.bankGuarded n = s.bankGuarded n := rfl
@[simp] theorem State.begun_bankFree (s : State) (n : Nat) : s.begun.bankFree n = s.bankFree n := rfl
@[simp] theorem State.begun_adrFirst (s : State) (wI wT : Word) : s.begun.adrFirst wI wT = s.adrFirst wI wT := rfl
@[simp] theorem State.begun_adrFlow (s : State) (n x : Nat) : s.begun.adrFlow n x = s.adrFlow n x := rfl
@[simp] theorem State.begun_bankWaiters (s : State) (k : Nat) : s.begun.bankWaiters k = s.bankWaiters k := rfl
@[simp] theorem State.begun_deferMax (s : State) (k : Nat) : s.begun.deferMax k = s.deferMax k := rfl
@[simp] theorem State.begun_dithF (s : State) (n : Nat) : s.begun.dithF n = s.dithF n := rfl
@[simp] theorem State.begun_dithPos (s : State) (n : Nat) : s.begun.dithPos n = s.dithPos n := rfl
@[simp] theorem State.begun_dithDue (s : State) (n : Nat) : s.begun.dithDue n = s.dithDue n := rfl
@[simp] theorem State.begun_adrTarget (s : State) (n : Nat) : s.begun.adrTarget n = s.adrTarget n := rfl
@[simp] theorem State.begun_adrChanged (s : State) : s.begun.adrChanged = s.adrChanged := rfl
@[simp] theorem State.begun_adrShorted (s : State) (n : Nat) : s.begun.adrShorted n = s.adrShorted n := rfl
@[simp] theorem State.begun_adrDriven (s : State) (n p : Nat) : s.begun.adrDriven n p = s.adrDriven n p := rfl
@[simp] theorem State.begun_adrDestOff (s : State) (n : Nat) : s.begun.adrDestOff n = s.adrDestOff n := rfl
@[simp] theorem State.begun_adrStatus (s : State) : s.begun.adrStatus = s.adrStatus := rfl
@[simp] theorem State.begun_adrCfgCheck (s : State) (p : List Byte) : s.begun.adrCfgCheck p = s.adrCfgCheck p := rfl
@[simp] theorem State.begun_camStr (s : State) (i : Nat) : s.begun.camStr i = s.camStr i := rfl
@[simp] theorem State.begun_camCtx (s : State) (c : Nat) : s.begun.camCtx c = s.camCtx c := rfl
@[simp] theorem State.begun_camEnc (s : State) (e : Nat) : s.begun.camEnc e = s.camEnc e := rfl
@[simp] theorem State.begun_frame? (s : State) (uid : Nat) : s.begun.frame? uid = s.frame? uid := rfl
@[simp] theorem State.begun_camCur (s : State) (i : Nat) : s.begun.camCur i = s.camCur i := rfl
@[simp] theorem State.begun_camRuns (s : State) : s.begun.camRuns = s.camRuns := rfl
@[simp] theorem State.begun_camCfg (s : State) (c : Nat) : s.begun.camCfg c = s.camCfg c := rfl
@[simp] theorem State.begun_camOwner (s : State) (i : Nat) : s.begun.camOwner i = s.camOwner i := rfl
@[simp] theorem State.begun_camInline (s : State) (i : Nat) : s.begun.camInline i = s.camInline i := rfl
@[simp] theorem State.begun_camStripe (s : State) : s.begun.camStripe = s.camStripe := rfl
@[simp] theorem State.begun_camReady (s : State) (f : CamFrame) : s.begun.camReady f = s.camReady f := rfl
@[simp] theorem State.begun_camFor (s : State) (f : CamFrame) : s.begun.camFor f = s.camFor f := rfl
@[simp] theorem State.begun_camNext (s : State) (c : Nat) : s.begun.camNext c = s.camNext c := rfl
@[simp] theorem State.begun_camTblGet (s : State) (c t i : Nat) : s.begun.camTblGet c t i = s.camTblGet c t i := rfl
@[simp] theorem State.begun_camTblRead (s : State) : s.begun.camTblRead = s.camTblRead := rfl
@[simp] theorem State.begun_camStatus (s : State) : s.begun.camStatus = s.camStatus := rfl
@[simp] theorem State.begun_vxaStatus (s : State) : s.begun.vxaStatus = s.vxaStatus := rfl
@[simp] theorem State.begun_lin (s : State) (k : Nat) : s.begun.lin k = s.lin k := rfl
@[simp] theorem State.begun_canName (s : State) (n : Nat) : s.begun.canName n = s.canName n := rfl
@[simp] theorem State.begun_canAddr (s : State) (n : Nat) : s.begun.canAddr n = s.canAddr n := rfl
@[simp] theorem State.begun_canClaim (s : State) (n : Nat) : s.begun.canClaim n = s.canClaim n := rfl
@[simp] theorem State.begun_canReady (s : State) (n t : Nat) : s.begun.canReady n t = s.canReady n t := rfl
@[simp] theorem State.begun_canJasper (s : State) (n : Nat) (x : CanRx) : s.begun.canJasper n x = s.canJasper n x := rfl
@[simp] theorem State.begun_canObject (s : State) (n : Nat) (x : CanRx) : s.begun.canObject n x = s.canObject n x := rfl
@[simp] theorem State.begun_canWakeRate (s : State) (n : Nat) : s.begun.canWakeRate n = s.canWakeRate n := rfl
@[simp] theorem State.begun_canWakes (s : State) (n : Nat) (x : CanRx) : s.begun.canWakes n x = s.canWakes n x := rfl
@[simp] theorem State.begun_canRaw (s : State) (e : Nat) : s.begun.canRaw e = s.canRaw e := rfl
@[simp] theorem State.begun_canFields (s : State) (bus obj : Nat) : s.begun.canFields bus obj = s.canFields bus obj := rfl
@[simp] theorem State.begun_canData (s : State) (bus obj len : Nat) : s.begun.canData bus obj len = s.canData bus obj len := rfl
@[simp] theorem State.begun_linBit (s : State) (k : Nat) : s.begun.linBit k = s.linBit k := rfl
@[simp] theorem State.begun_canStatus (s : State) : s.begun.canStatus = s.canStatus := rfl
@[simp] theorem State.begun_canForced (s : State) (n : Nat) : s.begun.canForced n = s.canForced n := rfl
@[simp] theorem State.begun_canCfgCheck (s : State) (p : List Byte) : s.begun.canCfgCheck p = s.canCfgCheck p := rfl
@[simp] theorem State.begun_canCtl (s : State) (n : Nat) : s.begun.canCtl n = s.canCtl n := rfl
@[simp] theorem State.begun_canState (s : State) (n : Nat) : s.begun.canState n = s.canState n := rfl
@[simp] theorem State.begun_cstW (s : State) (a : Nat) : s.begun.cstW a = s.cstW a := rfl
@[simp] theorem State.begun_cstF (s : State) (a hi lo : Nat) : s.begun.cstF a hi lo = s.cstF a hi lo := rfl
@[simp] theorem State.begun_cstN (s : State) : s.begun.cstN = s.cstN := rfl
@[simp] theorem State.begun_cstAmp (s : State) (i : Nat) : s.begun.cstAmp i = s.cstAmp i := rfl
@[simp] theorem State.begun_cstU (s : State) (i : Nat) : s.begun.cstU i = s.cstU i := rfl
@[simp] theorem State.begun_cstClip (s : State) (i : Nat) (v : Int) : s.begun.cstClip i v = s.cstClip i v := rfl
@[simp] theorem State.begun_cstUsed (s : State) (i : Nat) : s.begun.cstUsed i = s.cstUsed i := rfl
@[simp] theorem State.begun_cstOvr (s : State) (i : Nat) : s.begun.cstOvr i = s.cstOvr i := rfl
@[simp] theorem State.begun_cstDith (s : State) : s.begun.cstDith = s.cstDith := rfl
@[simp] theorem State.begun_cstActive (s : State) : s.begun.cstActive = s.cstActive := rfl
@[simp] theorem State.begun_cstM (s : State) (i : Nat) : s.begun.cstM i = s.cstM i := rfl
@[simp] theorem State.begun_cstConflict (s : State) : s.begun.cstConflict = s.cstConflict := rfl
@[simp] theorem State.begun_cstDither (s : State) (i k : Nat) : s.begun.cstDither i k = s.cstDither i k := rfl
@[simp] theorem State.begun_cstHoldLen (s : State) : s.begun.cstHoldLen = s.cstHoldLen := rfl
@[simp] theorem State.begun_cstPhase (s : State) : s.begun.cstPhase = s.cstPhase := rfl
@[simp] theorem State.begun_cstFull (s : State) : s.begun.cstFull = s.cstFull := rfl
@[simp] theorem State.begun_frzActive (s : State) (f : Nat) : s.begun.frzActive f = s.frzActive f := rfl
@[simp] theorem State.begun_cstTermInvalid (s : State) : s.begun.cstTermInvalid = s.cstTermInvalid := rfl
@[simp] theorem State.begun_cstTicks (s : State) : s.begun.cstTicks = s.cstTicks := rfl
@[simp] theorem State.begun_cstStatus (s : State) : s.begun.cstStatus = s.cstStatus := rfl
@[simp] theorem State.begun_cstCfgCheck (s : State) (p : List Byte) : s.begun.cstCfgCheck p = s.cstCfgCheck p := rfl
@[simp] theorem State.begun_fnBlocked (s : State) (f : Nat) : s.begun.fnBlocked f = s.fnBlocked f := rfl
@[simp] theorem State.begun_cfgBlocked (s : State) (f : Nat) (p : List Byte) : s.begun.cfgBlocked f p = s.cfgBlocked f p := rfl
@[simp] theorem State.begun_sysStatus (s : State) : s.begun.sysStatus = s.sysStatus := rfl
@[simp] theorem State.begun_updStatus (s : State) : s.begun.updStatus = s.updStatus := rfl
@[simp] theorem State.begun_linkStatus (s : State) (k : Nat) : s.begun.linkStatus k = s.linkStatus k := rfl
@[simp] theorem State.begun_fnStatus (s : State) (f k : Nat) : s.begun.fnStatus f k = s.fnStatus f k := rfl
@[simp] theorem State.begun_commonStatus (s : State) (f : Nat) : s.begun.commonStatus f = s.commonStatus f := rfl
@[simp] theorem State.begun_infoBytes (s : State) (f : Nat) : s.begun.infoBytes f = s.infoBytes f := rfl
@[simp] theorem State.begun_foreign (s : State) (c : Cmd) : s.begun.foreign c = s.foreign c := rfl
@[simp] theorem State.begun_cfgState (s : State) (f : Nat) : s.begun.cfgState f = s.cfgState f := rfl
@[simp] theorem State.begun_starts (s : State) (f : Nat) : s.begun.starts f = s.starts f := rfl
@[simp] theorem State.begun_ethPort (s : State) (k : Nat) : s.begun.ethPort k = s.ethPort k := rfl
@[simp] theorem State.begun_ethF (s : State) (a : Nat) : s.begun.ethF a = s.ethF a := rfl
@[simp] theorem State.begun_ethRate (s : State) (k : Nat) : s.begun.ethRate k = s.ethRate k := rfl
@[simp] theorem State.begun_ethTime (s : State) (k len : Nat) : s.begun.ethTime k len = s.ethTime k len := rfl
@[simp] theorem State.begun_gclPort (s : State) : s.begun.gclPort = s.gclPort := rfl
@[simp] theorem State.begun_gclRead (s : State) (a : Nat) : s.begun.gclRead a = s.gclRead a := rfl
@[simp] theorem State.begun_syncPeriod (s : State) : s.begun.syncPeriod = s.syncPeriod := rfl
@[simp] theorem State.begun_clockClass (s : State) : s.begun.clockClass = s.clockClass := rfl
@[simp] theorem State.begun_ethStatus (s : State) : s.begun.ethStatus = s.ethStatus := rfl
@[simp] theorem State.begun_ethTakes (s : State) (k : Nat) : s.begun.ethTakes k = s.ethTakes k := rfl
@[simp] theorem State.begun_ethVlan (s : State) (x : EthRx) : s.begun.ethVlan x = s.ethVlan x := rfl
@[simp] theorem State.begun_ethFilter (s : State) (x : EthRx) (vid : Nat) : s.begun.ethFilter x vid = s.ethFilter x vid := rfl
@[simp] theorem State.begun_appHeld (s : State) : s.begun.appHeld = s.appHeld := rfl
@[simp] theorem State.begun_ethForModule (s : State) (x : EthRx) (vid : Nat) : s.begun.ethForModule x vid = s.ethForModule x vid := rfl
@[simp] theorem State.begun_ethForIsland (s : State) (x : EthRx) : s.begun.ethForIsland x = s.ethForIsland x := rfl
@[simp] theorem State.begun_ugCmp (s : State) (g : Nat) : s.begun.ugCmp g = s.ugCmp g := rfl
@[simp] theorem State.begun_ugHostMay (s : State) (g : Nat) : s.begun.ugHostMay g = s.ugHostMay g := rfl
@[simp] theorem State.begun_locked (s : State) (x : Nat) (r : RegRow) : s.begun.locked x r = s.locked x r := rfl
@[simp] theorem State.begun_busFailed (s : State) (ini : Initiator) : s.begun.busFailed ini = s.busFailed ini := rfl
@[simp] theorem State.begun_fltCfg (s : State) : s.begun.fltCfg = s.fltCfg := rfl
@[simp] theorem State.begun_fltFlag (s : State) (b : Nat) : s.begun.fltFlag b = s.fltFlag b := rfl
@[simp] theorem State.begun_fltUnit (s : State) : s.begun.fltUnit = s.fltUnit := rfl
@[simp] theorem State.begun_fltHop (s : State) : s.begun.fltHop = s.fltHop := rfl
@[simp] theorem State.begun_fltEp (s : State) (i : Nat) : s.begun.fltEp i = s.fltEp i := rfl
@[simp] theorem State.begun_fltNextEp (s : State) (i : Nat) : s.begun.fltNextEp i = s.fltNextEp i := rfl
@[simp] theorem State.begun_fltRecord (s : State) (epoch : Nat) : s.begun.fltRecord epoch = s.fltRecord epoch := rfl
@[simp] theorem State.begun_fltFrom (s : State) (p : FltPeer) : s.begun.fltFrom p = s.fltFrom p := rfl
@[simp] theorem State.begun_fltDue (s : State) (op : FltOpHdr) : s.begun.fltDue op = s.fltDue op := rfl
@[simp] theorem State.begun_fltCovered (s : State) : s.begun.fltCovered = s.fltCovered := rfl
@[simp] theorem State.begun_fltRdv (s : State) : s.begun.fltRdv = s.fltRdv := rfl
@[simp] theorem State.begun_fltAttached (s : State) : s.begun.fltAttached = s.fltAttached := rfl
@[simp] theorem State.begun_fltStatus (s : State) : s.begun.fltStatus = s.fltStatus := rfl
@[simp] theorem State.begun_faulted (s : State) : s.begun.faulted = s.faulted := rfl
@[simp] theorem State.begun_cfgCheck (s : State) (f : Nat) (p : List Byte) : s.begun.cfgCheck f p = s.cfgCheck f p := rfl
@[simp] theorem State.begun_astSrc (s : State) (k : Nat) : s.begun.astSrc k = s.astSrc k := rfl
@[simp] theorem State.begun_astW (s : State) (a : Nat) : s.begun.astW a = s.astW a := rfl
@[simp] theorem State.begun_astF (s : State) (a hi lo : Nat) : s.begun.astF a hi lo = s.astF a hi lo := rfl
@[simp] theorem State.begun_astRuns (s : State) : s.begun.astRuns = s.astRuns := rfl
@[simp] theorem State.begun_astPeriod (s : State) (k : Nat) : s.begun.astPeriod k = s.astPeriod k := rfl
@[simp] theorem State.begun_odoMotion (s : State) (ta tb : Int) : s.begun.odoMotion ta tb = s.odoMotion ta tb := rfl
@[simp] theorem State.begun_trackMotion (s : State) (ta tb : Int) : s.begun.trackMotion ta tb = s.trackMotion ta tb := rfl
@[simp] theorem State.begun_odoRates (s : State) (t : Int) : s.begun.odoRates t = s.odoRates t := rfl
@[simp] theorem State.begun_egoInv (s : State) (ta tb : Int) : s.begun.egoInv ta tb = s.egoInv ta tb := rfl
@[simp] theorem State.begun_astMount (s : State) (k : Nat) (d : AstDet) : s.begun.astMount k d = s.astMount k d := rfl
@[simp] theorem State.begun_astTransform (s : State) (l : AstList) (d : AstDet) : s.begun.astTransform l d = s.astTransform l d := rfl
@[simp] theorem State.begun_astEstimate (s : State) (k : Nat) (ds : List AstDet) : s.begun.astEstimate k ds = s.astEstimate k ds := rfl
@[simp] theorem State.begun_astRaw (s : State) (k time : Nat) : s.begun.astRaw k time = s.astRaw k time := rfl
@[simp] theorem State.begun_astBound (s : State) (x : AstRx) (k : Nat) : s.begun.astBound x k = s.astBound x k := rfl
@[simp] theorem State.begun_astMatch (s : State) (x : AstRx) : s.begun.astMatch x = s.astMatch x := rfl
@[simp] theorem State.begun_astPredict (s : State) (t : AstTrack) (tb : Int) : s.begun.astPredict t tb = s.astPredict t tb := rfl
@[simp] theorem State.begun_astGate (s : State) (m : AstMeas) : s.begun.astGate m = s.astGate m := rfl
@[simp] theorem State.begun_astCost (s : State) (t : AstTrack) (m : AstMeas) : s.begun.astCost t m = s.astCost t m := rfl
@[simp] theorem State.begun_astSolve (s : State) (ms : List AstMeas) : s.begun.astSolve ms = s.astSolve ms := rfl
@[simp] theorem State.begun_astStatus (s : State) : s.begun.astStatus = s.astStatus := rfl
@[simp] theorem State.begun_diState (s : State) (n : Nat) : s.begun.diState n = s.diState n := rfl
@[simp] theorem State.begun_diBreak (s : State) (n : Nat) : s.begun.diBreak n = s.diBreak n := rfl
@[simp] theorem State.begun_vfsMissing (s : State) (g : Nat) : s.begun.vfsMissing g = s.vfsMissing g := rfl
@[simp] theorem State.begun_diDeb (s : State) (n : Nat) : s.begun.diDeb n = s.diDeb n := rfl
@[simp] theorem State.begun_diReest (s : State) (n stamp : Nat) : s.begun.diReest n stamp = s.diReest n stamp := rfl
@[simp] theorem State.begun_diRead (s : State) (n : Nat) (level : Bool) (ua : Nat) : s.begun.diRead n level ua = s.diRead n level ua := rfl
@[simp] theorem State.begun_ain (s : State) (n : Nat) : s.begun.ain n = s.ain n := rfl
@[simp] theorem State.begun_supOn (s : State) (i : Nat) : s.begun.supOn i = s.supOn i := rfl
@[simp] theorem State.begun_ainRef (s : State) (n : Nat) : s.begun.ainRef n = s.ainRef n := rfl
@[simp] theorem State.begun_ainMode (s : State) (n : Nat) : s.begun.ainMode n = s.ainMode n := rfl
@[simp] theorem State.begun_ainRefBad (s : State) (n : Nat) : s.begun.ainRefBad n = s.ainRefBad n := rfl
@[simp] theorem State.begun_ainConds (s : State) (n : Nat) (x : Int) : s.begun.ainConds n x = s.ainConds n x := rfl
@[simp] theorem State.begun_ainFltt (s : State) (n : Nat) : s.begun.ainFltt n = s.ainFltt n := rfl
@[simp] theorem State.begun_ainCode (s : State) (n : Nat) : s.begun.ainCode n = s.ainCode n := rfl
@[simp] theorem State.begun_ainFrame (s : State) : s.begun.ainFrame = s.ainFrame := rfl
@[simp] theorem State.begun_ainDone (s : State) (n : Nat) : s.begun.ainDone n = s.ainDone n := rfl
@[simp] theorem State.begun_quadOf (s : State) (j : Nat) : s.begun.quadOf j = s.quadOf j := rfl
@[simp] theorem State.begun_spdVr (s : State) (j : Nat) : s.begun.spdVr j = s.spdVr j := rfl
@[simp] theorem State.begun_supAllowed (s : State) : s.begun.supAllowed = s.supAllowed := rfl
@[simp] theorem State.begun_sntLim (s : State) (ch : Nat) : s.begun.sntLim ch = s.sntLim ch := rfl
@[simp] theorem State.begun_dinStatus (s : State) : s.begun.dinStatus = s.dinStatus := rfl
@[simp] theorem State.begun_ainStatus (s : State) : s.begun.ainStatus = s.ainStatus := rfl
@[simp] theorem State.begun_sntStatus (s : State) : s.begun.sntStatus = s.sntStatus := rfl
@[simp] theorem State.begun_inputsOff (s : State) : s.begun.inputsOff = s.inputsOff := rfl
@[simp] theorem State.begun_sw (s : State) (n : Nat) : s.begun.sw n = s.sw n := rfl
@[simp] theorem State.begun_grp (s : State) (g : Nat) : s.begun.grp g = s.grp g := rfl
@[simp] theorem State.begun_pswMode (s : State) (n : Nat) : s.begun.pswMode n = s.pswMode n := rfl
@[simp] theorem State.begun_pswSteady (s : State) (n : Nat) : s.begun.pswSteady n = s.pswSteady n := rfl
@[simp] theorem State.begun_pswInrush (s : State) (n : Nat) : s.begun.pswInrush n = s.pswInrush n := rfl
@[simp] theorem State.begun_pswInrT (s : State) (n : Nat) : s.begun.pswInrT n = s.pswInrT n := rfl
@[simp] theorem State.begun_grpEff (s : State) (g : Nat) : s.begun.grpEff g = s.grpEff g := rfl
@[simp] theorem State.begun_grpUv (s : State) (g : Nat) : s.begun.grpUv g = s.grpUv g := rfl
@[simp] theorem State.begun_pswState (s : State) (n : Nat) : s.begun.pswState n = s.pswState n := rfl
@[simp] theorem State.begun_pswNoSig (s : State) (n : Nat) : s.begun.pswNoSig n = s.pswNoSig n := rfl
@[simp] theorem State.begun_pswFree (s : State) (n : Nat) : s.begun.pswFree n = s.pswFree n := rfl
@[simp] theorem State.begun_pswDome (s : State) : s.begun.pswDome = s.pswDome := rfl
@[simp] theorem State.begun_pswShare (s : State) (n : Nat) : s.begun.pswShare n = s.pswShare n := rfl
@[simp] theorem State.begun_pswThreshold (s : State) (n : Nat) : s.begun.pswThreshold n = s.pswThreshold n := rfl
@[simp] theorem State.begun_grpUvOnMv (s : State) (g : Nat) : s.begun.grpUvOnMv g = s.grpUvOnMv g := rfl
@[simp] theorem State.begun_pswOlStep (s : State) (n : Nat) : s.begun.pswOlStep n = s.pswOlStep n := rfl
@[simp] theorem State.begun_pswDriven (s : State) (n : Nat) : s.begun.pswDriven n = s.pswDriven n := rfl
@[simp] theorem State.begun_pswDestOff (s : State) (n : Nat) : s.begun.pswDestOff n = s.pswDestOff n := rfl
@[simp] theorem State.begun_pswStatus (s : State) : s.begun.pswStatus = s.pswStatus := rfl
@[simp] theorem State.begun_pswCfgCheck (s : State) (p : List Byte) : s.begun.pswCfgCheck p = s.pswCfgCheck p := rfl
@[simp] theorem State.begun_consValid (s : State) (n : Nat) (v : Word) : s.begun.consValid n v = s.consValid n v := rfl
@[simp] theorem State.begun_extCheck (s : State) (k : Nat) (x : HostSlot) : s.begun.extCheck k x = s.extCheck k x := rfl
@[simp] theorem State.begun_hostAt (s : State) (n i : Nat) : s.begun.hostAt n i = s.hostAt n i := rfl
@[simp] theorem State.begun_unacked (s : State) (n : Nat) : s.begun.unacked n = s.unacked n := rfl
@[simp] theorem State.begun_srcBlocked (s : State) (src : Nat) : s.begun.srcBlocked src = s.srcBlocked src := rfl
@[simp] theorem State.begun_sessionsUsed (s : State) : s.begun.sessionsUsed = s.sessionsUsed := rfl
@[simp] theorem State.begun_keptOpen (s : State) (ip port : Nat) (c : Cmd) : s.begun.keptOpen ip port c = s.keptOpen ip port c := rfl
@[simp] theorem State.begun_authOk (s : State) (h : Challenge) (at_ : Nat) (mac : List Byte) : s.begun.authOk h at_ mac = s.authOk h at_ mac := rfl
@[simp] theorem State.begun_slot (s : State) (m : Nat) : s.begun.slot m = s.slot m := rfl
@[simp] theorem State.begun_merDoff (s : State) (m : Nat) : s.begun.merDoff m = s.merDoff m := rfl
@[simp] theorem State.begun_merPar (s : State) (m : Nat) : s.begun.merPar m = s.merPar m := rfl
@[simp] theorem State.begun_merConflict (s : State) : s.begun.merConflict = s.merConflict := rfl
@[simp] theorem State.begun_merStatus (s : State) : s.begun.merStatus = s.merStatus := rfl
@[simp] theorem State.begun_merWord (s : State) (p : List Byte) (m o : Nat) : s.begun.merWord p m o = s.merWord p m o := rfl
@[simp] theorem State.begun_merCfgCheck (s : State) (p : List Byte) : s.begun.merCfgCheck p = s.merCfgCheck p := rfl
@[simp] theorem State.begun_rd_ (s : State) (a : Nat) : s.begun.rd a = s.rd a := rfl
@[simp] theorem State.begun_rd64 (s : State) (lo hi : Nat) : s.begun.rd64 lo hi = s.rd64 lo hi := rfl
@[simp] theorem State.begun_shadowRd (s : State) (a : Nat) : s.begun.shadowRd a = s.shadowRd a := rfl
@[simp] theorem State.begun_tbReached (s : State) (t : Nat) : s.begun.tbReached t = s.tbReached t := rfl
@[simp] theorem State.begun_tbPast (s : State) (t d : Nat) : s.begun.tbPast t d = s.tbPast t d := rfl
@[simp] theorem State.begun_sigI (s : State) (n : Nat) : s.begun.sigI n = s.sigI n := rfl
@[simp] theorem State.begun_sigOk (s : State) (n : Nat) : s.begun.sigOk n = s.sigOk n := rfl
@[simp] theorem State.begun_lat (s : State) (n : Nat) : s.begun.lat n = s.lat n := rfl
@[simp] theorem State.begun_fn (s : State) (f : Nat) : s.begun.fn f = s.fn f := rfl
@[simp] theorem State.begun_expert (s : State) (f : Nat) : s.begun.expert f = s.expert f := rfl
@[simp] theorem State.begun_plant (s : State) : s.begun.plant = s.plant := rfl
@[simp] theorem State.begun_sysProfile (s : State) : s.begun.sysProfile = s.sysProfile := rfl
@[simp] theorem State.begun_power (s : State) : s.begun.power = s.power := rfl
@[simp] theorem State.begun_fieldOn (s : State) : s.begun.fieldOn = s.fieldOn := rfl
@[simp] theorem State.begun_pairGate (s : State) : s.begun.pairGate = s.pairGate := rfl
@[simp] theorem State.begun_pairHeld (s : State) : s.begun.pairHeld = s.pairHeld := rfl
@[simp] theorem State.begun_domainUp (s : State) (d : Domain) : s.begun.domainUp d = s.domainUp d := rfl
@[simp] theorem State.begun_guardOf (s : State) (ini : Initiator) (blk : Nat) : s.begun.guardOf ini blk = s.guardOf ini blk := rfl
@[simp] theorem State.begun_ses (s : State) (k : Nat) : s.begun.ses k = s.ses k := rfl
@[simp] theorem State.begun_ringSize (s : State) (n : Nat) : s.begun.ringSize n = s.ringSize n := rfl
@[simp] theorem State.begun_ringUsed (s : State) (n : Nat) : s.begun.ringUsed n = s.ringUsed n := rfl
@[simp] theorem State.begun_ringRoom (s : State) (n : Nat) : s.begun.ringRoom n = s.ringRoom n := rfl
@[simp] theorem State.begun_extPlace (s : State) (k len : Nat) : s.begun.extPlace k len = s.extPlace k len := rfl
@[simp] theorem State.begun_respRoom (s : State) (q : Nat) (x : Slot) : s.begun.respRoom q x = s.respRoom q x := rfl
@[simp] theorem State.begun_notifRoom (s : State) (k : Nat) : s.begun.notifRoom k = s.notifRoom k := rfl
@[simp] theorem State.begun_aonTicks (s : State) (d : Nat) : s.begun.aonTicks d = s.aonTicks d := rfl
@[simp] theorem State.begun_evTime (s : State) : s.begun.evTime = s.evTime := rfl
@[simp] theorem State.begun_arrivedAt (s : State) (op : Nat) (c : Cmd) : s.begun.arrivedAt op c = s.arrivedAt op c := rfl
@[simp] theorem State.begun_turn (s : State) (op : Nat) (c : Cmd) : s.begun.turn op c = s.turn op c := rfl
@[simp] theorem State.begun_sessionOf (s : State) (c : Cmd) : s.begun.sessionOf c = s.sessionOf c := rfl
@[simp] theorem State.begun_busy (s : State) (f : Nat) : s.begun.busy f = s.busy f := rfl
@[simp] theorem State.begun_bar (s : State) (f b role k : Nat) : s.begun.bar f b role k = s.bar f b role k := rfl
@[simp] theorem State.begun_freeRing (s : State) : s.begun.freeRing = s.freeRing := rfl
@[simp] theorem State.begun_ring? (s : State) (n : Nat) : s.begun.ring? n = s.ring? n := rfl
@[simp] theorem State.begun_sramFits (s : State) (more : List Nat) : s.begun.sramFits more = s.sramFits more := rfl
@[simp] theorem State.begun_domeUp (s : State) : s.begun.domeUp = s.domeUp := rfl
@[simp] theorem State.begun_pairLink (s : State) : s.begun.pairLink = s.pairLink := rfl
@[simp] theorem State.begun_within (s : State) (t : Option Nat) (d : Nat) : s.begun.within t d = s.within t d := rfl
@[simp] theorem State.begun_pairFree (s : State) : s.begun.pairFree = s.pairFree := rfl
@[simp] theorem State.begun_pairAuth (s : State) : s.begun.pairAuth = s.pairAuth := rfl
@[simp] theorem State.begun_pairCfgCrc (s : State) : s.begun.pairCfgCrc = s.pairCfgCrc := rfl
@[simp] theorem State.begun_pairYplPart (s : State) : s.begun.pairYplPart = s.pairYplPart := rfl
@[simp] theorem State.begun_pairGather (s : State) : s.begun.pairGather = s.pairGather := rfl
@[simp] theorem State.begun_pairFrame (s : State) (kind term ans : Nat) : s.begun.pairFrame kind term ans = s.pairFrame kind term ans := rfl
@[simp] theorem State.begun_pairKind (s : State) : s.begun.pairKind = s.pairKind := rfl
@[simp] theorem State.begun_pairStatus (s : State) (st : Word) : s.begun.pairStatus st = s.pairStatus st := rfl
@[simp] theorem State.begun_pairLive (s : State) : s.begun.pairLive = s.pairLive := rfl
@[simp] theorem State.begun_pnlState (s : State) : s.begun.pnlState = s.pnlState := rfl
@[simp] theorem State.begun_pnlRect (s : State) (q : Nat) : s.begun.pnlRect q = s.pnlRect q := rfl
@[simp] theorem State.begun_pnlRuns (s : State) : s.begun.pnlRuns = s.pnlRuns := rfl
@[simp] theorem State.begun_pnlMay (s : State) : s.begun.pnlMay = s.pnlMay := rfl
@[simp] theorem State.begun_togLine (s : State) (t : PnlTog) (l : Nat) : s.begun.togLine t l = s.togLine t l := rfl
@[simp] theorem State.begun_pnlGoOn (s : State) : s.begun.pnlGoOn = s.pnlGoOn := rfl
@[simp] theorem State.begun_pnlFbRead (s : State) : s.begun.pnlFbRead = s.pnlFbRead := rfl
@[simp] theorem State.begun_pnlIdle (s : State) : s.begun.pnlIdle = s.pnlIdle := rfl
@[simp] theorem State.begun_pnlStatus (s : State) : s.begun.pnlStatus = s.pnlStatus := rfl
@[simp] theorem State.begun_prmStatus (s : State) : s.begun.prmStatus = s.prmStatus := rfl
@[simp] theorem State.begun_posOn (s : State) : s.begun.posOn = s.posOn := rfl
@[simp] theorem State.begun_gpst (s : State) : s.begun.gpst = s.gpst := rfl
@[simp] theorem State.begun_gpsAt (s : State) (tb : Nat) : s.begun.gpsAt tb = s.gpsAt tb := rfl
@[simp] theorem State.begun_timeValid (s : State) : s.begun.timeValid = s.timeValid := rfl
@[simp] theorem State.begun_posPeriod (s : State) : s.begun.posPeriod = s.posPeriod := rfl
@[simp] theorem State.begun_posUses (s : State) (u : Nat × Nat) : s.begun.posUses u = s.posUses u := rfl
@[simp] theorem State.begun_posSats (s : State) (us : List (Nat × Nat)) : s.begun.posSats us = s.posSats us := rfl
@[simp] theorem State.begun_posCorrOk (s : State) (tb : Nat) : s.begun.posCorrOk tb = s.posCorrOk tb := rfl
@[simp] theorem State.begun_posQuality (s : State) (tb : Nat) (x : PosSol) : s.begun.posQuality tb x = s.posQuality tb x := rfl
@[simp] theorem State.begun_posHeading (s : State) (x : PosSol) : s.begun.posHeading x = s.posHeading x := rfl
@[simp] theorem State.begun_posOdo (s : State) : s.begun.posOdo = s.posOdo := rfl
@[simp] theorem State.begun_aonCount (s : State) : s.begun.aonCount = s.aonCount := rfl
@[simp] theorem State.begun_sentryBytes (s : State) : s.begun.sentryBytes = s.sentryBytes := rfl
@[simp] theorem State.begun_posStatusBytes (s : State) : s.begun.posStatusBytes = s.posStatusBytes := rfl
@[simp] theorem State.begun_dipTh (s : State) (i : Nat) : s.begun.dipTh i = s.dipTh i := rfl
@[simp] theorem State.begun_aonAbsent (s : State) : s.begun.aonAbsent = s.aonAbsent := rfl
@[simp] theorem State.begun_timerDue (s : State) : s.begun.timerDue = s.timerDue := rfl
@[simp] theorem State.begun_dinWakes (s : State) (d : WakeIn) : s.begun.dinWakes d = s.dinWakes d := rfl
@[simp] theorem State.begun_keptAwake (s : State) : s.begun.keptAwake = s.keptAwake := rfl
@[simp] theorem State.begun_prmSectOk (s : State) (e : PrmSect) : s.begun.prmSectOk e = s.prmSectOk e := rfl
@[simp] theorem State.begun_recFrozen (s : State) : s.begun.recFrozen = s.recFrozen := rfl
@[simp] theorem State.begun_recReady (s : State) : s.begun.recReady = s.recReady := rfl
@[simp] theorem State.begun_recClass (s : State) (cls : Nat) : s.begun.recClass cls = s.recClass cls := rfl
@[simp] theorem State.begun_recFaults (s : State) : s.begun.recFaults = s.recFaults := rfl
@[simp] theorem State.begun_recOldest (s : State) (sev : Nat) : s.begun.recOldest sev = s.recOldest sev := rfl
@[simp] theorem State.begun_recVictim (s : State) (sev : Nat) : s.begun.recVictim sev = s.recVictim sev := rfl
@[simp] theorem State.begun_recStatus (s : State) : s.begun.recStatus = s.recStatus := rfl
@[simp] theorem State.begun_freeIndex (s : State) : s.begun.freeIndex = s.freeIndex := rfl
@[simp] theorem State.begun_claimValue (s : State) : s.begun.claimValue = s.claimValue := rfl
@[simp] theorem State.begun_latches (s : State) (ini : Initiator) : s.begun.latches ini = s.latches ini := rfl
@[simp] theorem State.begun_liveReg (s : State) (ini : Initiator) (a : Nat) : s.begun.liveReg ini a = s.liveReg ini a := rfl
@[simp] theorem State.begun_peek (s : State) (ini : Initiator) (a : Nat) (r : RegRow) : s.begun.peek ini a r = s.peek ini a r := rfl
@[simp] theorem State.begun_busRead (s : State) (ini : Initiator) (a : Nat) : s.begun.busRead ini a = s.busRead ini a := rfl
@[simp] theorem State.begun_si (s : State) (i : Nat) : s.begun.si i = s.si i := rfl
@[simp] theorem State.begun_mon (s : State) (m : Nat) : s.begun.mon m = s.mon m := rfl
@[simp] theorem State.begun_so (s : State) (n : Nat) : s.begun.so n = s.so n := rfl
@[simp] theorem State.begun_conn (s : State) (c : Nat) : s.begun.conn c = s.conn c := rfl
@[simp] theorem State.begun_siChan (s : State) (i : Nat) : s.begun.siChan i = s.siChan i := rfl
@[simp] theorem State.begun_siActive (s : State) (i : Nat) : s.begun.siActive i = s.siActive i := rfl
@[simp] theorem State.begun_safV (s : State) (m input : Nat) : s.begun.safV m input = s.safV m input := rfl
@[simp] theorem State.begun_monVA (s : State) (m : Nat) : s.begun.monVA m = s.monVA m := rfl
@[simp] theorem State.begun_monVB (s : State) (m : Nat) : s.begun.monVB m = s.monVB m := rfl
@[simp] theorem State.begun_monSpeed (s : State) (m : Nat) : s.begun.monSpeed m = s.monSpeed m := rfl
@[simp] theorem State.begun_monDiffers (s : State) (m : Nat) : s.begun.monDiffers m = s.monDiffers m := rfl
@[simp] theorem State.begun_safLatched (s : State) (cause obj : Nat) : s.begun.safLatched cause obj = s.safLatched cause obj := rfl
@[simp] theorem State.begun_monStill (s : State) (m : Nat) : s.begun.monStill m = s.monStill m := rfl
@[simp] theorem State.begun_safStill (s : State) : s.begun.safStill = s.safStill := rfl
@[simp] theorem State.begun_safMons (s : State) : s.begun.safMons = s.safMons := rfl
@[simp] theorem State.begun_edmFree (s : State) (n : Nat) : s.begun.edmFree n = s.edmFree n := rfl
@[simp] theorem State.begun_safLinesFor (s : State) (st : Nat) : s.begun.safLinesFor st = s.safLinesFor st := rfl
@[simp] theorem State.begun_jspProduced (s : State) : s.begun.jspProduced = s.jspProduced := rfl
@[simp] theorem State.begun_tpRuns (s : State) : s.begun.tpRuns = s.tpRuns := rfl
@[simp] theorem State.begun_safTriggers (s : State) : s.begun.safTriggers = s.safTriggers := rfl
@[simp] theorem State.begun_safGone (s : State) (f : Nat × Nat) : s.begun.safGone f = s.safGone f := rfl
@[simp] theorem State.begun_tpMasked (s : State) (i : Nat) : s.begun.tpMasked i = s.tpMasked i := rfl
@[simp] theorem State.begun_safAgrees (s : State) : s.begun.safAgrees = s.safAgrees := rfl
@[simp] theorem State.begun_safStatus (s : State) : s.begun.safStatus = s.safStatus := rfl
@[simp] theorem State.begun_gptpValid (s : State) (port : Nat) : s.begun.gptpValid port = s.gptpValid port := rfl
@[simp] theorem State.begun_avtpTb (s : State) (arrival ts : Nat) : s.begun.avtpTb arrival ts = s.avtpTb arrival ts := rfl
@[simp] theorem State.begun_tch (s : State) (n : Nat) : s.begun.tch n = s.tch n := rfl
@[simp] theorem State.begun_trnPathRuns (s : State) (p : Nat) : s.begun.trnPathRuns p = s.trnPathRuns p := rfl
@[simp] theorem State.begun_trnCan (s : State) (w : Word) : s.begun.trnCan w = s.trnCan w := rfl
@[simp] theorem State.begun_trnMine (s : State) (q : TrnReq) (n : Nat) : s.begun.trnMine q n = s.trnMine q n := rfl
@[simp] theorem State.begun_trnRate (s : State) : s.begun.trnRate = s.trnRate := rfl
@[simp] theorem State.begun_trnDomeAid (s : State) : s.begun.trnDomeAid = s.trnDomeAid := rfl
@[simp] theorem State.begun_trnStatus (s : State) : s.begun.trnStatus = s.trnStatus := rfl
@[simp] theorem State.begun_updSafe (s : State) : s.begun.updSafe = s.updSafe := rfl
@[simp] theorem State.begun_yplField (s : State) : s.begun.yplField = s.yplField := rfl
@[simp] theorem State.begun_yplW (s : State) (a : Nat) : s.begun.yplW a = s.yplW a := rfl
@[simp] theorem State.begun_yplF (s : State) (a hi lo : Nat) : s.begun.yplF a hi lo = s.yplF a hi lo := rfl
@[simp] theorem State.begun_yplDoneW (s : State) (a : Nat) : s.begun.yplDoneW a = s.yplDoneW a := rfl
@[simp] theorem State.begun_yplDoneF (s : State) (a hi lo : Nat) : s.begun.yplDoneF a hi lo = s.yplDoneF a hi lo := rfl
@[simp] theorem State.begun_yplCrop (s : State) : s.begun.yplCrop = s.yplCrop := rfl
@[simp] theorem State.begun_yplTaps (s : State) : s.begun.yplTaps = s.yplTaps := rfl
@[simp] theorem State.begun_yplWidth (s : State) (p : YplPose) : s.begun.yplWidth p = s.yplWidth p := rfl
@[simp] theorem State.begun_yplBar (s : State) (f : YplField) (w : Nat) (p : YplPose) : s.begun.yplBar f w p = s.yplBar f w p := rfl
@[simp] theorem State.begun_yplStrip (s : State) (f : YplField) (p q : YplPose) : s.begun.yplStrip f p q = s.yplStrip f p q := rfl
@[simp] theorem State.begun_yplWorked (s : State) : s.begun.yplWorked = s.yplWorked := rfl
@[simp] theorem State.begun_yplWorkedMid (s : State) : s.begun.yplWorkedMid = s.yplWorkedMid := rfl
@[simp] theorem State.begun_yplMayOpen (s : State) : s.begun.yplMayOpen = s.yplMayOpen := rfl
@[simp] theorem State.begun_yplFind (s : State) (id : Nat) : s.begun.yplFind id = s.yplFind id := rfl
@[simp] theorem State.begun_yplStatus (s : State) : s.begun.yplStatus = s.yplStatus := rfl

@[simp] theorem State.enter_ch (s : State) (f op k : Nat) (c : Cmd) (n : Nat) :
    (s.enter f op k c).ch n = s.ch n := by unfold State.enter; dsimp only; split <;> rfl
@[simp] theorem State.enter_bank (s : State) (f op k : Nat) (c : Cmd) (k' : Nat) :
    (s.enter f op k c).bank k' = s.bank k' := by unfold State.enter; dsimp only; split <;> rfl
@[simp] theorem State.enter_tb2 (s : State) (f op k : Nat) (c : Cmd) :
    (s.enter f op k c).tb2 = s.tb2 := by unfold State.enter; dsimp only; split <;> rfl
@[simp] theorem State.enter_tickEarly (s : State) (f op k : Nat) (c : Cmd) :
    (s.enter f op k c).tickEarly = s.tickEarly := by unfold State.enter; dsimp only; split <;> rfl
@[simp] theorem State.enter_adrMode (s : State) (f op k : Nat) (c : Cmd) (n : Nat) :
    (s.enter f op k c).adrMode n = s.adrMode n := by unfold State.enter; dsimp only; split <;> rfl
@[simp] theorem State.enter_adrEn (s : State) (f op k : Nat) (c : Cmd) (n : Nat) :
    (s.enter f op k c).adrEn n = s.adrEn n := by unfold State.enter; dsimp only; split <;> rfl
@[simp] theorem State.enter_adrProf (s : State) (f op k : Nat) (c : Cmd) (n : Nat) :
    (s.enter f op k c).adrProf n = s.adrProf n := by unfold State.enter; dsimp only; split <;> rfl
@[simp] theorem State.enter_adrOpenTh (s : State) (f op k : Nat) (c : Cmd) (n : Nat) :
    (s.enter f op k c).adrOpenTh n = s.adrOpenTh n := by unfold State.enter; dsimp only; split <;> rfl
@[simp] theorem State.enter_adrMot (s : State) (f op k : Nat) (c : Cmd) (n : Nat) :
    (s.enter f op k c).adrMot n = s.adrMot n := by unfold State.enter; dsimp only; split <;> rfl
@[simp] theorem State.enter_adrDmin (s : State) (f op k : Nat) (c : Cmd) (n : Nat) :
    (s.enter f op k c).adrDmin n = s.adrDmin n := by unfold State.enter; dsimp only; split <;> rfl
@[simp] theorem State.enter_line (s : State) (f op k : Nat) (c : Cmd) (i : Nat) :
    (s.enter f op k c).line i = s.line i := by unfold State.enter; dsimp only; split <;> rfl
@[simp] theorem State.enter_bankEff (s : State) (f op k : Nat) (c : Cmd) (k' : Nat) :
    (s.enter f op k c).bankEff k' = s.bankEff k' := by unfold State.enter; dsimp only; split <;> rfl
@[simp] theorem State.enter_bankMay (s : State) (f op k : Nat) (c : Cmd) (k' : Nat) :
    (s.enter f op k c).bankMay k' = s.bankMay k' := by unfold State.enter; dsimp only; split <;> rfl
@[simp] theorem State.enter_adrCmd (s : State) (f op k : Nat) (c : Cmd) (n : Nat) :
    (s.enter f op k c).adrCmd n = s.adrCmd n := by unfold State.enter; dsimp only; split <;> rfl
@[simp] theorem State.enter_adrProp (s : State) (f op k : Nat) (c : Cmd) (n : Nat) :
    (s.enter f op k c).adrProp n = s.adrProp n := by unfold State.enter; dsimp only; split <;> rfl
@[simp] theorem State.enter_bankSampler (s : State) (f op k : Nat) (c : Cmd) (k' : Nat) :
    (s.enter f op k c).bankSampler k' = s.bankSampler k' := by unfold State.enter; dsimp only; split <;> rfl
@[simp] theorem State.enter_bstTarget (s : State) (f op k : Nat) (c : Cmd) :
    (s.enter f op k c).bstTarget = s.bstTarget := by unfold State.enter; dsimp only; split <;> rfl
@[simp] theorem State.enter_bstMay (s : State) (f op k : Nat) (c : Cmd) :
    (s.enter f op k c).bstMay = s.bstMay := by unfold State.enter; dsimp only; split <;> rfl
@[simp] theorem State.enter_bstLowm (s : State) (f op k : Nat) (c : Cmd) :
    (s.enter f op k c).bstLowm = s.bstLowm := by unfold State.enter; dsimp only; split <;> rfl
@[simp] theorem State.enter_bstSpillAt (s : State) (f op k : Nat) (c : Cmd) :
    (s.enter f op k c).bstSpillAt = s.bstSpillAt := by unfold State.enter; dsimp only; split <;> rfl
@[simp] theorem State.enter_adrTemp (s : State) (f op k : Nat) (c : Cmd) (n : Nat) :
    (s.enter f op k c).adrTemp n = s.adrTemp n := by unfold State.enter; dsimp only; split <;> rfl
@[simp] theorem State.enter_adrBandAt (s : State) (f op k : Nat) (c : Cmd) (n act : Nat) :
    (s.enter f op k c).adrBandAt n act = s.adrBandAt n act := by unfold State.enter; dsimp only; split <;> rfl
@[simp] theorem State.enter_adrTrim (s : State) (f op k : Nat) (c : Cmd) (n : Nat) :
    (s.enter f op k c).adrTrim n = s.adrTrim n := by unfold State.enter; dsimp only; split <;> rfl
@[simp] theorem State.enter_adrState (s : State) (f op k : Nat) (c : Cmd) (n : Nat) :
    (s.enter f op k c).adrState n = s.adrState n := by unfold State.enter; dsimp only; split <;> rfl
@[simp] theorem State.enter_bankSrc (s : State) (f op k : Nat) (c : Cmd) (k' : Nat) :
    (s.enter f op k c).bankSrc k' = s.bankSrc k' := by unfold State.enter; dsimp only; split <;> rfl
@[simp] theorem State.enter_adrNoSig (s : State) (f op k : Nat) (c : Cmd) (n : Nat) :
    (s.enter f op k c).adrNoSig n = s.adrNoSig n := by unfold State.enter; dsimp only; split <;> rfl
@[simp] theorem State.enter_bankGuarded (s : State) (f op k : Nat) (c : Cmd) (n : Nat) :
    (s.enter f op k c).bankGuarded n = s.bankGuarded n := by unfold State.enter; dsimp only; split <;> rfl
@[simp] theorem State.enter_bankFree (s : State) (f op k : Nat) (c : Cmd) (n : Nat) :
    (s.enter f op k c).bankFree n = s.bankFree n := by unfold State.enter; dsimp only; split <;> rfl
@[simp] theorem State.enter_adrFirst (s : State) (f op k : Nat) (c : Cmd) (wI wT : Word) :
    (s.enter f op k c).adrFirst wI wT = s.adrFirst wI wT := by unfold State.enter; dsimp only; split <;> rfl
@[simp] theorem State.enter_adrFlow (s : State) (f op k : Nat) (c : Cmd) (n x : Nat) :
    (s.enter f op k c).adrFlow n x = s.adrFlow n x := by unfold State.enter; dsimp only; split <;> rfl
@[simp] theorem State.enter_bankWaiters (s : State) (f op k : Nat) (c : Cmd) (k' : Nat) :
    (s.enter f op k c).bankWaiters k' = s.bankWaiters k' := by unfold State.enter; dsimp only; split <;> rfl
@[simp] theorem State.enter_deferMax (s : State) (f op k : Nat) (c : Cmd) (k' : Nat) :
    (s.enter f op k c).deferMax k' = s.deferMax k' := by unfold State.enter; dsimp only; split <;> rfl
@[simp] theorem State.enter_dithF (s : State) (f op k : Nat) (c : Cmd) (n : Nat) :
    (s.enter f op k c).dithF n = s.dithF n := by unfold State.enter; dsimp only; split <;> rfl
@[simp] theorem State.enter_dithPos (s : State) (f op k : Nat) (c : Cmd) (n : Nat) :
    (s.enter f op k c).dithPos n = s.dithPos n := by unfold State.enter; dsimp only; split <;> rfl
@[simp] theorem State.enter_dithDue (s : State) (f op k : Nat) (c : Cmd) (n : Nat) :
    (s.enter f op k c).dithDue n = s.dithDue n := by unfold State.enter; dsimp only; split <;> rfl
@[simp] theorem State.enter_adrTarget (s : State) (f op k : Nat) (c : Cmd) (n : Nat) :
    (s.enter f op k c).adrTarget n = s.adrTarget n := by unfold State.enter; dsimp only; split <;> rfl
@[simp] theorem State.enter_adrChanged (s : State) (f op k : Nat) (c : Cmd) :
    (s.enter f op k c).adrChanged = s.adrChanged := by unfold State.enter; dsimp only; split <;> rfl
@[simp] theorem State.enter_adrShorted (s : State) (f op k : Nat) (c : Cmd) (n : Nat) :
    (s.enter f op k c).adrShorted n = s.adrShorted n := by unfold State.enter; dsimp only; split <;> rfl
@[simp] theorem State.enter_adrDriven (s : State) (f op k : Nat) (c : Cmd) (n p : Nat) :
    (s.enter f op k c).adrDriven n p = s.adrDriven n p := by unfold State.enter; dsimp only; split <;> rfl
@[simp] theorem State.enter_adrDestOff (s : State) (f op k : Nat) (c : Cmd) (n : Nat) :
    (s.enter f op k c).adrDestOff n = s.adrDestOff n := by unfold State.enter; dsimp only; split <;> rfl
@[simp] theorem State.enter_adrStatus (s : State) (f op k : Nat) (c : Cmd) :
    (s.enter f op k c).adrStatus = s.adrStatus := by unfold State.enter; dsimp only; split <;> rfl
@[simp] theorem State.enter_adrCfgCheck (s : State) (f op k : Nat) (c : Cmd) (p : List Byte) :
    (s.enter f op k c).adrCfgCheck p = s.adrCfgCheck p := by unfold State.enter; dsimp only; split <;> rfl
@[simp] theorem State.enter_camStr (s : State) (f op k : Nat) (c : Cmd) (i : Nat) :
    (s.enter f op k c).camStr i = s.camStr i := by unfold State.enter; dsimp only; split <;> rfl
@[simp] theorem State.enter_camCtx (s : State) (f op k : Nat) (c : Cmd) (c' : Nat) :
    (s.enter f op k c).camCtx c' = s.camCtx c' := by unfold State.enter; dsimp only; split <;> rfl
@[simp] theorem State.enter_camEnc (s : State) (f op k : Nat) (c : Cmd) (e : Nat) :
    (s.enter f op k c).camEnc e = s.camEnc e := by unfold State.enter; dsimp only; split <;> rfl
@[simp] theorem State.enter_frame? (s : State) (f op k : Nat) (c : Cmd) (uid : Nat) :
    (s.enter f op k c).frame? uid = s.frame? uid := by unfold State.enter; dsimp only; split <;> rfl
@[simp] theorem State.enter_camCur (s : State) (f op k : Nat) (c : Cmd) (i : Nat) :
    (s.enter f op k c).camCur i = s.camCur i := by unfold State.enter; dsimp only; split <;> rfl
@[simp] theorem State.enter_camRuns (s : State) (f op k : Nat) (c : Cmd) :
    (s.enter f op k c).camRuns = s.camRuns := by unfold State.enter; dsimp only; split <;> rfl
@[simp] theorem State.enter_camCfg (s : State) (f op k : Nat) (c : Cmd) (c' : Nat) :
    (s.enter f op k c).camCfg c' = s.camCfg c' := by unfold State.enter; dsimp only; split <;> rfl
@[simp] theorem State.enter_camOwner (s : State) (f op k : Nat) (c : Cmd) (i : Nat) :
    (s.enter f op k c).camOwner i = s.camOwner i := by unfold State.enter; dsimp only; split <;> rfl
@[simp] theorem State.enter_camInline (s : State) (f op k : Nat) (c : Cmd) (i : Nat) :
    (s.enter f op k c).camInline i = s.camInline i := by unfold State.enter; dsimp only; split <;> rfl
@[simp] theorem State.enter_camStripe (s : State) (f op k : Nat) (c : Cmd) :
    (s.enter f op k c).camStripe = s.camStripe := by unfold State.enter; dsimp only; split <;> rfl
@[simp] theorem State.enter_camReady (s : State) (f op k : Nat) (c : Cmd) (f' : CamFrame) :
    (s.enter f op k c).camReady f' = s.camReady f' := by unfold State.enter; dsimp only; split <;> rfl
@[simp] theorem State.enter_camFor (s : State) (f op k : Nat) (c : Cmd) (f' : CamFrame) :
    (s.enter f op k c).camFor f' = s.camFor f' := by unfold State.enter; dsimp only; split <;> rfl
@[simp] theorem State.enter_camNext (s : State) (f op k : Nat) (c : Cmd) (c' : Nat) :
    (s.enter f op k c).camNext c' = s.camNext c' := by unfold State.enter; dsimp only; split <;> rfl
@[simp] theorem State.enter_camTblGet (s : State) (f op k : Nat) (c : Cmd) (c' t i : Nat) :
    (s.enter f op k c).camTblGet c' t i = s.camTblGet c' t i := by unfold State.enter; dsimp only; split <;> rfl
@[simp] theorem State.enter_camTblRead (s : State) (f op k : Nat) (c : Cmd) :
    (s.enter f op k c).camTblRead = s.camTblRead := by unfold State.enter; dsimp only; split <;> rfl
@[simp] theorem State.enter_camStatus (s : State) (f op k : Nat) (c : Cmd) :
    (s.enter f op k c).camStatus = s.camStatus := by unfold State.enter; dsimp only; split <;> rfl
@[simp] theorem State.enter_vxaStatus (s : State) (f op k : Nat) (c : Cmd) :
    (s.enter f op k c).vxaStatus = s.vxaStatus := by unfold State.enter; dsimp only; split <;> rfl
@[simp] theorem State.enter_lin (s : State) (f op k : Nat) (c : Cmd) (k' : Nat) :
    (s.enter f op k c).lin k' = s.lin k' := by unfold State.enter; dsimp only; split <;> rfl
@[simp] theorem State.enter_canName (s : State) (f op k : Nat) (c : Cmd) (n : Nat) :
    (s.enter f op k c).canName n = s.canName n := by unfold State.enter; dsimp only; split <;> rfl
@[simp] theorem State.enter_canAddr (s : State) (f op k : Nat) (c : Cmd) (n : Nat) :
    (s.enter f op k c).canAddr n = s.canAddr n := by unfold State.enter; dsimp only; split <;> rfl
@[simp] theorem State.enter_canClaim (s : State) (f op k : Nat) (c : Cmd) (n : Nat) :
    (s.enter f op k c).canClaim n = s.canClaim n := by unfold State.enter; dsimp only; split <;> rfl
@[simp] theorem State.enter_canReady (s : State) (f op k : Nat) (c : Cmd) (n t : Nat) :
    (s.enter f op k c).canReady n t = s.canReady n t := by unfold State.enter; dsimp only; split <;> rfl
@[simp] theorem State.enter_canJasper (s : State) (f op k : Nat) (c : Cmd) (n : Nat) (x : CanRx) :
    (s.enter f op k c).canJasper n x = s.canJasper n x := by unfold State.enter; dsimp only; split <;> rfl
@[simp] theorem State.enter_canObject (s : State) (f op k : Nat) (c : Cmd) (n : Nat) (x : CanRx) :
    (s.enter f op k c).canObject n x = s.canObject n x := by unfold State.enter; dsimp only; split <;> rfl
@[simp] theorem State.enter_canWakeRate (s : State) (f op k : Nat) (c : Cmd) (n : Nat) :
    (s.enter f op k c).canWakeRate n = s.canWakeRate n := by unfold State.enter; dsimp only; split <;> rfl
@[simp] theorem State.enter_canWakes (s : State) (f op k : Nat) (c : Cmd) (n : Nat) (x : CanRx) :
    (s.enter f op k c).canWakes n x = s.canWakes n x := by unfold State.enter; dsimp only; split <;> rfl
@[simp] theorem State.enter_canRaw (s : State) (f op k : Nat) (c : Cmd) (e : Nat) :
    (s.enter f op k c).canRaw e = s.canRaw e := by unfold State.enter; dsimp only; split <;> rfl
@[simp] theorem State.enter_canFields (s : State) (f op k : Nat) (c : Cmd) (bus obj : Nat) :
    (s.enter f op k c).canFields bus obj = s.canFields bus obj := by unfold State.enter; dsimp only; split <;> rfl
@[simp] theorem State.enter_canData (s : State) (f op k : Nat) (c : Cmd) (bus obj len : Nat) :
    (s.enter f op k c).canData bus obj len = s.canData bus obj len := by unfold State.enter; dsimp only; split <;> rfl
@[simp] theorem State.enter_linBit (s : State) (f op k : Nat) (c : Cmd) (k' : Nat) :
    (s.enter f op k c).linBit k' = s.linBit k' := by unfold State.enter; dsimp only; split <;> rfl
@[simp] theorem State.enter_canStatus (s : State) (f op k : Nat) (c : Cmd) :
    (s.enter f op k c).canStatus = s.canStatus := by unfold State.enter; dsimp only; split <;> rfl
@[simp] theorem State.enter_canForced (s : State) (f op k : Nat) (c : Cmd) (n : Nat) :
    (s.enter f op k c).canForced n = s.canForced n := by unfold State.enter; dsimp only; split <;> rfl
@[simp] theorem State.enter_canCfgCheck (s : State) (f op k : Nat) (c : Cmd) (p : List Byte) :
    (s.enter f op k c).canCfgCheck p = s.canCfgCheck p := by unfold State.enter; dsimp only; split <;> rfl
@[simp] theorem State.enter_canCtl (s : State) (f op k : Nat) (c : Cmd) (n : Nat) :
    (s.enter f op k c).canCtl n = s.canCtl n := by unfold State.enter; dsimp only; split <;> rfl
@[simp] theorem State.enter_canState (s : State) (f op k : Nat) (c : Cmd) (n : Nat) :
    (s.enter f op k c).canState n = s.canState n := by unfold State.enter; dsimp only; split <;> rfl
@[simp] theorem State.enter_cstW (s : State) (f op k : Nat) (c : Cmd) (a : Nat) :
    (s.enter f op k c).cstW a = s.cstW a := by unfold State.enter; dsimp only; split <;> rfl
@[simp] theorem State.enter_cstF (s : State) (f op k : Nat) (c : Cmd) (a hi lo : Nat) :
    (s.enter f op k c).cstF a hi lo = s.cstF a hi lo := by unfold State.enter; dsimp only; split <;> rfl
@[simp] theorem State.enter_cstN (s : State) (f op k : Nat) (c : Cmd) :
    (s.enter f op k c).cstN = s.cstN := by unfold State.enter; dsimp only; split <;> rfl
@[simp] theorem State.enter_cstAmp (s : State) (f op k : Nat) (c : Cmd) (i : Nat) :
    (s.enter f op k c).cstAmp i = s.cstAmp i := by unfold State.enter; dsimp only; split <;> rfl
@[simp] theorem State.enter_cstU (s : State) (f op k : Nat) (c : Cmd) (i : Nat) :
    (s.enter f op k c).cstU i = s.cstU i := by unfold State.enter; dsimp only; split <;> rfl
@[simp] theorem State.enter_cstClip (s : State) (f op k : Nat) (c : Cmd) (i : Nat) (v : Int) :
    (s.enter f op k c).cstClip i v = s.cstClip i v := by unfold State.enter; dsimp only; split <;> rfl
@[simp] theorem State.enter_cstUsed (s : State) (f op k : Nat) (c : Cmd) (i : Nat) :
    (s.enter f op k c).cstUsed i = s.cstUsed i := by unfold State.enter; dsimp only; split <;> rfl
@[simp] theorem State.enter_cstOvr (s : State) (f op k : Nat) (c : Cmd) (i : Nat) :
    (s.enter f op k c).cstOvr i = s.cstOvr i := by unfold State.enter; dsimp only; split <;> rfl
@[simp] theorem State.enter_cstDith (s : State) (f op k : Nat) (c : Cmd) :
    (s.enter f op k c).cstDith = s.cstDith := by unfold State.enter; dsimp only; split <;> rfl
@[simp] theorem State.enter_cstActive (s : State) (f op k : Nat) (c : Cmd) :
    (s.enter f op k c).cstActive = s.cstActive := by unfold State.enter; dsimp only; split <;> rfl
@[simp] theorem State.enter_cstM (s : State) (f op k : Nat) (c : Cmd) (i : Nat) :
    (s.enter f op k c).cstM i = s.cstM i := by unfold State.enter; dsimp only; split <;> rfl
@[simp] theorem State.enter_cstConflict (s : State) (f op k : Nat) (c : Cmd) :
    (s.enter f op k c).cstConflict = s.cstConflict := by unfold State.enter; dsimp only; split <;> rfl
@[simp] theorem State.enter_cstDither (s : State) (f op k : Nat) (c : Cmd) (i k' : Nat) :
    (s.enter f op k c).cstDither i k' = s.cstDither i k' := by unfold State.enter; dsimp only; split <;> rfl
@[simp] theorem State.enter_cstHoldLen (s : State) (f op k : Nat) (c : Cmd) :
    (s.enter f op k c).cstHoldLen = s.cstHoldLen := by unfold State.enter; dsimp only; split <;> rfl
@[simp] theorem State.enter_cstPhase (s : State) (f op k : Nat) (c : Cmd) :
    (s.enter f op k c).cstPhase = s.cstPhase := by unfold State.enter; dsimp only; split <;> rfl
@[simp] theorem State.enter_cstFull (s : State) (f op k : Nat) (c : Cmd) :
    (s.enter f op k c).cstFull = s.cstFull := by unfold State.enter; dsimp only; split <;> rfl
@[simp] theorem State.enter_frzActive (s : State) (f op k : Nat) (c : Cmd) (f' : Nat) :
    (s.enter f op k c).frzActive f' = s.frzActive f' := by unfold State.enter; dsimp only; split <;> rfl
@[simp] theorem State.enter_cstTermInvalid (s : State) (f op k : Nat) (c : Cmd) :
    (s.enter f op k c).cstTermInvalid = s.cstTermInvalid := by unfold State.enter; dsimp only; split <;> rfl
@[simp] theorem State.enter_cstTicks (s : State) (f op k : Nat) (c : Cmd) :
    (s.enter f op k c).cstTicks = s.cstTicks := by unfold State.enter; dsimp only; split <;> rfl
@[simp] theorem State.enter_cstStatus (s : State) (f op k : Nat) (c : Cmd) :
    (s.enter f op k c).cstStatus = s.cstStatus := by unfold State.enter; dsimp only; split <;> rfl
@[simp] theorem State.enter_cstCfgCheck (s : State) (f op k : Nat) (c : Cmd) (p : List Byte) :
    (s.enter f op k c).cstCfgCheck p = s.cstCfgCheck p := by unfold State.enter; dsimp only; split <;> rfl
@[simp] theorem State.enter_fnBlocked (s : State) (f op k : Nat) (c : Cmd) (f' : Nat) :
    (s.enter f op k c).fnBlocked f' = s.fnBlocked f' := by unfold State.enter; dsimp only; split <;> rfl
@[simp] theorem State.enter_cfgBlocked (s : State) (f op k : Nat) (c : Cmd) (f' : Nat) (p : List Byte) :
    (s.enter f op k c).cfgBlocked f' p = s.cfgBlocked f' p := by unfold State.enter; dsimp only; split <;> rfl
@[simp] theorem State.enter_sysStatus (s : State) (f op k : Nat) (c : Cmd) :
    (s.enter f op k c).sysStatus = s.sysStatus := by unfold State.enter; dsimp only; split <;> rfl
@[simp] theorem State.enter_updStatus (s : State) (f op k : Nat) (c : Cmd) :
    (s.enter f op k c).updStatus = s.updStatus := by unfold State.enter; dsimp only; split <;> rfl
@[simp] theorem State.enter_commonStatus (s : State) (f op k : Nat) (c : Cmd) (f' : Nat) :
    (s.enter f op k c).commonStatus f' = s.commonStatus f' := by unfold State.enter; dsimp only; split <;> rfl
@[simp] theorem State.enter_infoBytes (s : State) (f op k : Nat) (c : Cmd) (f' : Nat) :
    (s.enter f op k c).infoBytes f' = s.infoBytes f' := by unfold State.enter; dsimp only; split <;> rfl
@[simp] theorem State.enter_cfgState (s : State) (f op k : Nat) (c : Cmd) (f' : Nat) :
    (s.enter f op k c).cfgState f' = s.cfgState f' := by unfold State.enter; dsimp only; split <;> rfl
@[simp] theorem State.enter_starts (s : State) (f op k : Nat) (c : Cmd) (f' : Nat) :
    (s.enter f op k c).starts f' = s.starts f' := by unfold State.enter; dsimp only; split <;> rfl
@[simp] theorem State.enter_ethPort (s : State) (f op k : Nat) (c : Cmd) (k' : Nat) :
    (s.enter f op k c).ethPort k' = s.ethPort k' := by unfold State.enter; dsimp only; split <;> rfl
@[simp] theorem State.enter_ethF (s : State) (f op k : Nat) (c : Cmd) (a : Nat) :
    (s.enter f op k c).ethF a = s.ethF a := by unfold State.enter; dsimp only; split <;> rfl
@[simp] theorem State.enter_ethRate (s : State) (f op k : Nat) (c : Cmd) (k' : Nat) :
    (s.enter f op k c).ethRate k' = s.ethRate k' := by unfold State.enter; dsimp only; split <;> rfl
@[simp] theorem State.enter_ethTime (s : State) (f op k : Nat) (c : Cmd) (k' len : Nat) :
    (s.enter f op k c).ethTime k' len = s.ethTime k' len := by unfold State.enter; dsimp only; split <;> rfl
@[simp] theorem State.enter_gclPort (s : State) (f op k : Nat) (c : Cmd) :
    (s.enter f op k c).gclPort = s.gclPort := by unfold State.enter; dsimp only; split <;> rfl
@[simp] theorem State.enter_gclRead (s : State) (f op k : Nat) (c : Cmd) (a : Nat) :
    (s.enter f op k c).gclRead a = s.gclRead a := by unfold State.enter; dsimp only; split <;> rfl
@[simp] theorem State.enter_syncPeriod (s : State) (f op k : Nat) (c : Cmd) :
    (s.enter f op k c).syncPeriod = s.syncPeriod := by unfold State.enter; dsimp only; split <;> rfl
@[simp] theorem State.enter_clockClass (s : State) (f op k : Nat) (c : Cmd) :
    (s.enter f op k c).clockClass = s.clockClass := by unfold State.enter; dsimp only; split <;> rfl
@[simp] theorem State.enter_ethStatus (s : State) (f op k : Nat) (c : Cmd) :
    (s.enter f op k c).ethStatus = s.ethStatus := by unfold State.enter; dsimp only; split <;> rfl
@[simp] theorem State.enter_ethTakes (s : State) (f op k : Nat) (c : Cmd) (k' : Nat) :
    (s.enter f op k c).ethTakes k' = s.ethTakes k' := by unfold State.enter; dsimp only; split <;> rfl
@[simp] theorem State.enter_ethVlan (s : State) (f op k : Nat) (c : Cmd) (x : EthRx) :
    (s.enter f op k c).ethVlan x = s.ethVlan x := by unfold State.enter; dsimp only; split <;> rfl
@[simp] theorem State.enter_ethFilter (s : State) (f op k : Nat) (c : Cmd) (x : EthRx) (vid : Nat) :
    (s.enter f op k c).ethFilter x vid = s.ethFilter x vid := by unfold State.enter; dsimp only; split <;> rfl
@[simp] theorem State.enter_appHeld (s : State) (f op k : Nat) (c : Cmd) :
    (s.enter f op k c).appHeld = s.appHeld := by unfold State.enter; dsimp only; split <;> rfl
@[simp] theorem State.enter_ethForModule (s : State) (f op k : Nat) (c : Cmd) (x : EthRx) (vid : Nat) :
    (s.enter f op k c).ethForModule x vid = s.ethForModule x vid := by unfold State.enter; dsimp only; split <;> rfl
@[simp] theorem State.enter_ethForIsland (s : State) (f op k : Nat) (c : Cmd) (x : EthRx) :
    (s.enter f op k c).ethForIsland x = s.ethForIsland x := by unfold State.enter; dsimp only; split <;> rfl
@[simp] theorem State.enter_ugCmp (s : State) (f op k : Nat) (c : Cmd) (g : Nat) :
    (s.enter f op k c).ugCmp g = s.ugCmp g := by unfold State.enter; dsimp only; split <;> rfl
@[simp] theorem State.enter_ugHostMay (s : State) (f op k : Nat) (c : Cmd) (g : Nat) :
    (s.enter f op k c).ugHostMay g = s.ugHostMay g := by unfold State.enter; dsimp only; split <;> rfl
@[simp] theorem State.enter_locked (s : State) (f op k : Nat) (c : Cmd) (x : Nat) (r : RegRow) :
    (s.enter f op k c).locked x r = s.locked x r := by unfold State.enter; dsimp only; split <;> rfl
@[simp] theorem State.enter_busFailed (s : State) (f op k : Nat) (c : Cmd) (ini : Initiator) :
    (s.enter f op k c).busFailed ini = s.busFailed ini := by unfold State.enter; dsimp only; split <;> rfl
@[simp] theorem State.enter_fltCfg (s : State) (f op k : Nat) (c : Cmd) :
    (s.enter f op k c).fltCfg = s.fltCfg := by unfold State.enter; dsimp only; split <;> rfl
@[simp] theorem State.enter_fltFlag (s : State) (f op k : Nat) (c : Cmd) (b : Nat) :
    (s.enter f op k c).fltFlag b = s.fltFlag b := by unfold State.enter; dsimp only; split <;> rfl
@[simp] theorem State.enter_fltUnit (s : State) (f op k : Nat) (c : Cmd) :
    (s.enter f op k c).fltUnit = s.fltUnit := by unfold State.enter; dsimp only; split <;> rfl
@[simp] theorem State.enter_fltHop (s : State) (f op k : Nat) (c : Cmd) :
    (s.enter f op k c).fltHop = s.fltHop := by unfold State.enter; dsimp only; split <;> rfl
@[simp] theorem State.enter_fltEp (s : State) (f op k : Nat) (c : Cmd) (i : Nat) :
    (s.enter f op k c).fltEp i = s.fltEp i := by unfold State.enter; dsimp only; split <;> rfl
@[simp] theorem State.enter_fltNextEp (s : State) (f op k : Nat) (c : Cmd) (i : Nat) :
    (s.enter f op k c).fltNextEp i = s.fltNextEp i := by unfold State.enter; dsimp only; split <;> rfl
@[simp] theorem State.enter_fltRecord (s : State) (f op k : Nat) (c : Cmd) (epoch : Nat) :
    (s.enter f op k c).fltRecord epoch = s.fltRecord epoch := by unfold State.enter; dsimp only; split <;> rfl
@[simp] theorem State.enter_fltFrom (s : State) (f op k : Nat) (c : Cmd) (p : FltPeer) :
    (s.enter f op k c).fltFrom p = s.fltFrom p := by unfold State.enter; dsimp only; split <;> rfl
@[simp] theorem State.enter_fltDue (s : State) (f op k : Nat) (c : Cmd) (op' : FltOpHdr) :
    (s.enter f op k c).fltDue op' = s.fltDue op' := by unfold State.enter; dsimp only; split <;> rfl
@[simp] theorem State.enter_fltCovered (s : State) (f op k : Nat) (c : Cmd) :
    (s.enter f op k c).fltCovered = s.fltCovered := by unfold State.enter; dsimp only; split <;> rfl
@[simp] theorem State.enter_fltRdv (s : State) (f op k : Nat) (c : Cmd) :
    (s.enter f op k c).fltRdv = s.fltRdv := by unfold State.enter; dsimp only; split <;> rfl
@[simp] theorem State.enter_fltAttached (s : State) (f op k : Nat) (c : Cmd) :
    (s.enter f op k c).fltAttached = s.fltAttached := by unfold State.enter; dsimp only; split <;> rfl
@[simp] theorem State.enter_fltStatus (s : State) (f op k : Nat) (c : Cmd) :
    (s.enter f op k c).fltStatus = s.fltStatus := by unfold State.enter; dsimp only; split <;> rfl
@[simp] theorem State.enter_faulted (s : State) (f op k : Nat) (c : Cmd) :
    (s.enter f op k c).faulted = s.faulted := by unfold State.enter; dsimp only; split <;> rfl
@[simp] theorem State.enter_cfgCheck (s : State) (f op k : Nat) (c : Cmd) (f' : Nat) (p : List Byte) :
    (s.enter f op k c).cfgCheck f' p = s.cfgCheck f' p := by unfold State.enter; dsimp only; split <;> rfl
@[simp] theorem State.enter_astSrc (s : State) (f op k : Nat) (c : Cmd) (k' : Nat) :
    (s.enter f op k c).astSrc k' = s.astSrc k' := by unfold State.enter; dsimp only; split <;> rfl
@[simp] theorem State.enter_astW (s : State) (f op k : Nat) (c : Cmd) (a : Nat) :
    (s.enter f op k c).astW a = s.astW a := by unfold State.enter; dsimp only; split <;> rfl
@[simp] theorem State.enter_astF (s : State) (f op k : Nat) (c : Cmd) (a hi lo : Nat) :
    (s.enter f op k c).astF a hi lo = s.astF a hi lo := by unfold State.enter; dsimp only; split <;> rfl
@[simp] theorem State.enter_astRuns (s : State) (f op k : Nat) (c : Cmd) :
    (s.enter f op k c).astRuns = s.astRuns := by unfold State.enter; dsimp only; split <;> rfl
@[simp] theorem State.enter_astPeriod (s : State) (f op k : Nat) (c : Cmd) (k' : Nat) :
    (s.enter f op k c).astPeriod k' = s.astPeriod k' := by unfold State.enter; dsimp only; split <;> rfl
@[simp] theorem State.enter_odoMotion (s : State) (f op k : Nat) (c : Cmd) (ta tb : Int) :
    (s.enter f op k c).odoMotion ta tb = s.odoMotion ta tb := by unfold State.enter; dsimp only; split <;> rfl
@[simp] theorem State.enter_trackMotion (s : State) (f op k : Nat) (c : Cmd) (ta tb : Int) :
    (s.enter f op k c).trackMotion ta tb = s.trackMotion ta tb := by unfold State.enter; dsimp only; split <;> rfl
@[simp] theorem State.enter_odoRates (s : State) (f op k : Nat) (c : Cmd) (t : Int) :
    (s.enter f op k c).odoRates t = s.odoRates t := by unfold State.enter; dsimp only; split <;> rfl
@[simp] theorem State.enter_egoInv (s : State) (f op k : Nat) (c : Cmd) (ta tb : Int) :
    (s.enter f op k c).egoInv ta tb = s.egoInv ta tb := by unfold State.enter; dsimp only; split <;> rfl
@[simp] theorem State.enter_astMount (s : State) (f op k : Nat) (c : Cmd) (k' : Nat) (d : AstDet) :
    (s.enter f op k c).astMount k' d = s.astMount k' d := by unfold State.enter; dsimp only; split <;> rfl
@[simp] theorem State.enter_astTransform (s : State) (f op k : Nat) (c : Cmd) (l : AstList) (d : AstDet) :
    (s.enter f op k c).astTransform l d = s.astTransform l d := by unfold State.enter; dsimp only; split <;> rfl
@[simp] theorem State.enter_astEstimate (s : State) (f op k : Nat) (c : Cmd) (k' : Nat) (ds : List AstDet) :
    (s.enter f op k c).astEstimate k' ds = s.astEstimate k' ds := by unfold State.enter; dsimp only; split <;> rfl
@[simp] theorem State.enter_astRaw (s : State) (f op k : Nat) (c : Cmd) (k' time : Nat) :
    (s.enter f op k c).astRaw k' time = s.astRaw k' time := by unfold State.enter; dsimp only; split <;> rfl
@[simp] theorem State.enter_astBound (s : State) (f op k : Nat) (c : Cmd) (x : AstRx) (k' : Nat) :
    (s.enter f op k c).astBound x k' = s.astBound x k' := by unfold State.enter; dsimp only; split <;> rfl
@[simp] theorem State.enter_astMatch (s : State) (f op k : Nat) (c : Cmd) (x : AstRx) :
    (s.enter f op k c).astMatch x = s.astMatch x := by unfold State.enter; dsimp only; split <;> rfl
@[simp] theorem State.enter_astPredict (s : State) (f op k : Nat) (c : Cmd) (t : AstTrack) (tb : Int) :
    (s.enter f op k c).astPredict t tb = s.astPredict t tb := by unfold State.enter; dsimp only; split <;> rfl
@[simp] theorem State.enter_astGate (s : State) (f op k : Nat) (c : Cmd) (m : AstMeas) :
    (s.enter f op k c).astGate m = s.astGate m := by unfold State.enter; dsimp only; split <;> rfl
@[simp] theorem State.enter_astCost (s : State) (f op k : Nat) (c : Cmd) (t : AstTrack) (m : AstMeas) :
    (s.enter f op k c).astCost t m = s.astCost t m := by unfold State.enter; dsimp only; split <;> rfl
@[simp] theorem State.enter_astSolve (s : State) (f op k : Nat) (c : Cmd) (ms : List AstMeas) :
    (s.enter f op k c).astSolve ms = s.astSolve ms := by unfold State.enter; dsimp only; split <;> rfl
@[simp] theorem State.enter_astStatus (s : State) (f op k : Nat) (c : Cmd) :
    (s.enter f op k c).astStatus = s.astStatus := by unfold State.enter; dsimp only; split <;> rfl
@[simp] theorem State.enter_diState (s : State) (f op k : Nat) (c : Cmd) (n : Nat) :
    (s.enter f op k c).diState n = s.diState n := by unfold State.enter; dsimp only; split <;> rfl
@[simp] theorem State.enter_diBreak (s : State) (f op k : Nat) (c : Cmd) (n : Nat) :
    (s.enter f op k c).diBreak n = s.diBreak n := by unfold State.enter; dsimp only; split <;> rfl
@[simp] theorem State.enter_vfsMissing (s : State) (f op k : Nat) (c : Cmd) (g : Nat) :
    (s.enter f op k c).vfsMissing g = s.vfsMissing g := by unfold State.enter; dsimp only; split <;> rfl
@[simp] theorem State.enter_diDeb (s : State) (f op k : Nat) (c : Cmd) (n : Nat) :
    (s.enter f op k c).diDeb n = s.diDeb n := by unfold State.enter; dsimp only; split <;> rfl
@[simp] theorem State.enter_diReest (s : State) (f op k : Nat) (c : Cmd) (n stamp : Nat) :
    (s.enter f op k c).diReest n stamp = s.diReest n stamp := by unfold State.enter; dsimp only; split <;> rfl
@[simp] theorem State.enter_diRead (s : State) (f op k : Nat) (c : Cmd) (n : Nat) (level : Bool) (ua : Nat) :
    (s.enter f op k c).diRead n level ua = s.diRead n level ua := by unfold State.enter; dsimp only; split <;> rfl
@[simp] theorem State.enter_ain (s : State) (f op k : Nat) (c : Cmd) (n : Nat) :
    (s.enter f op k c).ain n = s.ain n := by unfold State.enter; dsimp only; split <;> rfl
@[simp] theorem State.enter_supOn (s : State) (f op k : Nat) (c : Cmd) (i : Nat) :
    (s.enter f op k c).supOn i = s.supOn i := by unfold State.enter; dsimp only; split <;> rfl
@[simp] theorem State.enter_ainRef (s : State) (f op k : Nat) (c : Cmd) (n : Nat) :
    (s.enter f op k c).ainRef n = s.ainRef n := by unfold State.enter; dsimp only; split <;> rfl
@[simp] theorem State.enter_ainMode (s : State) (f op k : Nat) (c : Cmd) (n : Nat) :
    (s.enter f op k c).ainMode n = s.ainMode n := by unfold State.enter; dsimp only; split <;> rfl
@[simp] theorem State.enter_ainRefBad (s : State) (f op k : Nat) (c : Cmd) (n : Nat) :
    (s.enter f op k c).ainRefBad n = s.ainRefBad n := by unfold State.enter; dsimp only; split <;> rfl
@[simp] theorem State.enter_ainConds (s : State) (f op k : Nat) (c : Cmd) (n : Nat) (x : Int) :
    (s.enter f op k c).ainConds n x = s.ainConds n x := by unfold State.enter; dsimp only; split <;> rfl
@[simp] theorem State.enter_ainFltt (s : State) (f op k : Nat) (c : Cmd) (n : Nat) :
    (s.enter f op k c).ainFltt n = s.ainFltt n := by unfold State.enter; dsimp only; split <;> rfl
@[simp] theorem State.enter_ainCode (s : State) (f op k : Nat) (c : Cmd) (n : Nat) :
    (s.enter f op k c).ainCode n = s.ainCode n := by unfold State.enter; dsimp only; split <;> rfl
@[simp] theorem State.enter_ainFrame (s : State) (f op k : Nat) (c : Cmd) :
    (s.enter f op k c).ainFrame = s.ainFrame := by unfold State.enter; dsimp only; split <;> rfl
@[simp] theorem State.enter_ainDone (s : State) (f op k : Nat) (c : Cmd) (n : Nat) :
    (s.enter f op k c).ainDone n = s.ainDone n := by unfold State.enter; dsimp only; split <;> rfl
@[simp] theorem State.enter_quadOf (s : State) (f op k : Nat) (c : Cmd) (j : Nat) :
    (s.enter f op k c).quadOf j = s.quadOf j := by unfold State.enter; dsimp only; split <;> rfl
@[simp] theorem State.enter_spdVr (s : State) (f op k : Nat) (c : Cmd) (j : Nat) :
    (s.enter f op k c).spdVr j = s.spdVr j := by unfold State.enter; dsimp only; split <;> rfl
@[simp] theorem State.enter_supAllowed (s : State) (f op k : Nat) (c : Cmd) :
    (s.enter f op k c).supAllowed = s.supAllowed := by unfold State.enter; dsimp only; split <;> rfl
@[simp] theorem State.enter_sntLim (s : State) (f op k : Nat) (c : Cmd) (ch : Nat) :
    (s.enter f op k c).sntLim ch = s.sntLim ch := by unfold State.enter; dsimp only; split <;> rfl
@[simp] theorem State.enter_dinStatus (s : State) (f op k : Nat) (c : Cmd) :
    (s.enter f op k c).dinStatus = s.dinStatus := by unfold State.enter; dsimp only; split <;> rfl
@[simp] theorem State.enter_ainStatus (s : State) (f op k : Nat) (c : Cmd) :
    (s.enter f op k c).ainStatus = s.ainStatus := by unfold State.enter; dsimp only; split <;> rfl
@[simp] theorem State.enter_sntStatus (s : State) (f op k : Nat) (c : Cmd) :
    (s.enter f op k c).sntStatus = s.sntStatus := by unfold State.enter; dsimp only; split <;> rfl
@[simp] theorem State.enter_inputsOff (s : State) (f op k : Nat) (c : Cmd) :
    (s.enter f op k c).inputsOff = s.inputsOff := by unfold State.enter; dsimp only; split <;> rfl
@[simp] theorem State.enter_sw (s : State) (f op k : Nat) (c : Cmd) (n : Nat) :
    (s.enter f op k c).sw n = s.sw n := by unfold State.enter; dsimp only; split <;> rfl
@[simp] theorem State.enter_grp (s : State) (f op k : Nat) (c : Cmd) (g : Nat) :
    (s.enter f op k c).grp g = s.grp g := by unfold State.enter; dsimp only; split <;> rfl
@[simp] theorem State.enter_pswMode (s : State) (f op k : Nat) (c : Cmd) (n : Nat) :
    (s.enter f op k c).pswMode n = s.pswMode n := by unfold State.enter; dsimp only; split <;> rfl
@[simp] theorem State.enter_pswSteady (s : State) (f op k : Nat) (c : Cmd) (n : Nat) :
    (s.enter f op k c).pswSteady n = s.pswSteady n := by unfold State.enter; dsimp only; split <;> rfl
@[simp] theorem State.enter_pswInrush (s : State) (f op k : Nat) (c : Cmd) (n : Nat) :
    (s.enter f op k c).pswInrush n = s.pswInrush n := by unfold State.enter; dsimp only; split <;> rfl
@[simp] theorem State.enter_pswInrT (s : State) (f op k : Nat) (c : Cmd) (n : Nat) :
    (s.enter f op k c).pswInrT n = s.pswInrT n := by unfold State.enter; dsimp only; split <;> rfl
@[simp] theorem State.enter_grpEff (s : State) (f op k : Nat) (c : Cmd) (g : Nat) :
    (s.enter f op k c).grpEff g = s.grpEff g := by unfold State.enter; dsimp only; split <;> rfl
@[simp] theorem State.enter_grpUv (s : State) (f op k : Nat) (c : Cmd) (g : Nat) :
    (s.enter f op k c).grpUv g = s.grpUv g := by unfold State.enter; dsimp only; split <;> rfl
@[simp] theorem State.enter_pswState (s : State) (f op k : Nat) (c : Cmd) (n : Nat) :
    (s.enter f op k c).pswState n = s.pswState n := by unfold State.enter; dsimp only; split <;> rfl
@[simp] theorem State.enter_pswNoSig (s : State) (f op k : Nat) (c : Cmd) (n : Nat) :
    (s.enter f op k c).pswNoSig n = s.pswNoSig n := by unfold State.enter; dsimp only; split <;> rfl
@[simp] theorem State.enter_pswFree (s : State) (f op k : Nat) (c : Cmd) (n : Nat) :
    (s.enter f op k c).pswFree n = s.pswFree n := by unfold State.enter; dsimp only; split <;> rfl
@[simp] theorem State.enter_pswDome (s : State) (f op k : Nat) (c : Cmd) :
    (s.enter f op k c).pswDome = s.pswDome := by unfold State.enter; dsimp only; split <;> rfl
@[simp] theorem State.enter_pswShare (s : State) (f op k : Nat) (c : Cmd) (n : Nat) :
    (s.enter f op k c).pswShare n = s.pswShare n := by unfold State.enter; dsimp only; split <;> rfl
@[simp] theorem State.enter_pswThreshold (s : State) (f op k : Nat) (c : Cmd) (n : Nat) :
    (s.enter f op k c).pswThreshold n = s.pswThreshold n := by unfold State.enter; dsimp only; split <;> rfl
@[simp] theorem State.enter_grpUvOnMv (s : State) (f op k : Nat) (c : Cmd) (g : Nat) :
    (s.enter f op k c).grpUvOnMv g = s.grpUvOnMv g := by unfold State.enter; dsimp only; split <;> rfl
@[simp] theorem State.enter_pswOlStep (s : State) (f op k : Nat) (c : Cmd) (n : Nat) :
    (s.enter f op k c).pswOlStep n = s.pswOlStep n := by unfold State.enter; dsimp only; split <;> rfl
@[simp] theorem State.enter_pswDriven (s : State) (f op k : Nat) (c : Cmd) (n : Nat) :
    (s.enter f op k c).pswDriven n = s.pswDriven n := by unfold State.enter; dsimp only; split <;> rfl
@[simp] theorem State.enter_pswDestOff (s : State) (f op k : Nat) (c : Cmd) (n : Nat) :
    (s.enter f op k c).pswDestOff n = s.pswDestOff n := by unfold State.enter; dsimp only; split <;> rfl
@[simp] theorem State.enter_pswStatus (s : State) (f op k : Nat) (c : Cmd) :
    (s.enter f op k c).pswStatus = s.pswStatus := by unfold State.enter; dsimp only; split <;> rfl
@[simp] theorem State.enter_pswCfgCheck (s : State) (f op k : Nat) (c : Cmd) (p : List Byte) :
    (s.enter f op k c).pswCfgCheck p = s.pswCfgCheck p := by unfold State.enter; dsimp only; split <;> rfl
@[simp] theorem State.enter_consValid (s : State) (f op k : Nat) (c : Cmd) (n : Nat) (v : Word) :
    (s.enter f op k c).consValid n v = s.consValid n v := by unfold State.enter; dsimp only; split <;> rfl
@[simp] theorem State.enter_hostAt (s : State) (f op k : Nat) (c : Cmd) (n i : Nat) :
    (s.enter f op k c).hostAt n i = s.hostAt n i := by unfold State.enter; dsimp only; split <;> rfl
@[simp] theorem State.enter_unacked (s : State) (f op k : Nat) (c : Cmd) (n : Nat) :
    (s.enter f op k c).unacked n = s.unacked n := by unfold State.enter; dsimp only; split <;> rfl
@[simp] theorem State.enter_srcBlocked (s : State) (f op k : Nat) (c : Cmd) (src : Nat) :
    (s.enter f op k c).srcBlocked src = s.srcBlocked src := by unfold State.enter; dsimp only; split <;> rfl
@[simp] theorem State.enter_keptOpen (s : State) (f op k : Nat) (c : Cmd) (ip port : Nat) (c' : Cmd) :
    (s.enter f op k c).keptOpen ip port c' = s.keptOpen ip port c' := by unfold State.enter; dsimp only; split <;> rfl
@[simp] theorem State.enter_authOk (s : State) (f op k : Nat) (c : Cmd) (h : Challenge) (at_ : Nat) (mac : List Byte) :
    (s.enter f op k c).authOk h at_ mac = s.authOk h at_ mac := by unfold State.enter; dsimp only; split <;> rfl
@[simp] theorem State.enter_slot (s : State) (f op k : Nat) (c : Cmd) (m : Nat) :
    (s.enter f op k c).slot m = s.slot m := by unfold State.enter; dsimp only; split <;> rfl
@[simp] theorem State.enter_merDoff (s : State) (f op k : Nat) (c : Cmd) (m : Nat) :
    (s.enter f op k c).merDoff m = s.merDoff m := by unfold State.enter; dsimp only; split <;> rfl
@[simp] theorem State.enter_merPar (s : State) (f op k : Nat) (c : Cmd) (m : Nat) :
    (s.enter f op k c).merPar m = s.merPar m := by unfold State.enter; dsimp only; split <;> rfl
@[simp] theorem State.enter_merConflict (s : State) (f op k : Nat) (c : Cmd) :
    (s.enter f op k c).merConflict = s.merConflict := by unfold State.enter; dsimp only; split <;> rfl
@[simp] theorem State.enter_merStatus (s : State) (f op k : Nat) (c : Cmd) :
    (s.enter f op k c).merStatus = s.merStatus := by unfold State.enter; dsimp only; split <;> rfl
@[simp] theorem State.enter_merWord (s : State) (f op k : Nat) (c : Cmd) (p : List Byte) (m o : Nat) :
    (s.enter f op k c).merWord p m o = s.merWord p m o := by unfold State.enter; dsimp only; split <;> rfl
@[simp] theorem State.enter_merCfgCheck (s : State) (f op k : Nat) (c : Cmd) (p : List Byte) :
    (s.enter f op k c).merCfgCheck p = s.merCfgCheck p := by unfold State.enter; dsimp only; split <;> rfl
@[simp] theorem State.enter_rd64 (s : State) (f op k : Nat) (c : Cmd) (lo hi : Nat) :
    (s.enter f op k c).rd64 lo hi = s.rd64 lo hi := by unfold State.enter; dsimp only; split <;> rfl
@[simp] theorem State.enter_shadowRd (s : State) (f op k : Nat) (c : Cmd) (a : Nat) :
    (s.enter f op k c).shadowRd a = s.shadowRd a := by unfold State.enter; dsimp only; split <;> rfl
@[simp] theorem State.enter_tbReached (s : State) (f op k : Nat) (c : Cmd) (t : Nat) :
    (s.enter f op k c).tbReached t = s.tbReached t := by unfold State.enter; dsimp only; split <;> rfl
@[simp] theorem State.enter_tbPast (s : State) (f op k : Nat) (c : Cmd) (t d : Nat) :
    (s.enter f op k c).tbPast t d = s.tbPast t d := by unfold State.enter; dsimp only; split <;> rfl
@[simp] theorem State.enter_sig (s : State) (f op k : Nat) (c : Cmd) (n : Nat) :
    (s.enter f op k c).sig n = s.sig n := by unfold State.enter; dsimp only; split <;> rfl
@[simp] theorem State.enter_sigI (s : State) (f op k : Nat) (c : Cmd) (n : Nat) :
    (s.enter f op k c).sigI n = s.sigI n := by unfold State.enter; dsimp only; split <;> rfl
@[simp] theorem State.enter_sigOk (s : State) (f op k : Nat) (c : Cmd) (n : Nat) :
    (s.enter f op k c).sigOk n = s.sigOk n := by unfold State.enter; dsimp only; split <;> rfl
@[simp] theorem State.enter_lat (s : State) (f op k : Nat) (c : Cmd) (n : Nat) :
    (s.enter f op k c).lat n = s.lat n := by unfold State.enter; dsimp only; split <;> rfl
@[simp] theorem State.enter_dome (s : State) (f op k : Nat) (c : Cmd) :
    (s.enter f op k c).dome = s.dome := by unfold State.enter; dsimp only; split <;> rfl
@[simp] theorem State.enter_plant (s : State) (f op k : Nat) (c : Cmd) :
    (s.enter f op k c).plant = s.plant := by unfold State.enter; dsimp only; split <;> rfl
@[simp] theorem State.enter_sysProfile (s : State) (f op k : Nat) (c : Cmd) :
    (s.enter f op k c).sysProfile = s.sysProfile := by unfold State.enter; dsimp only; split <;> rfl
@[simp] theorem State.enter_power (s : State) (f op k : Nat) (c : Cmd) :
    (s.enter f op k c).power = s.power := by unfold State.enter; dsimp only; split <;> rfl
@[simp] theorem State.enter_fieldOn (s : State) (f op k : Nat) (c : Cmd) :
    (s.enter f op k c).fieldOn = s.fieldOn := by unfold State.enter; dsimp only; split <;> rfl
@[simp] theorem State.enter_pairGate (s : State) (f op k : Nat) (c : Cmd) :
    (s.enter f op k c).pairGate = s.pairGate := by unfold State.enter; dsimp only; split <;> rfl
@[simp] theorem State.enter_pairHeld (s : State) (f op k : Nat) (c : Cmd) :
    (s.enter f op k c).pairHeld = s.pairHeld := by unfold State.enter; dsimp only; split <;> rfl
@[simp] theorem State.enter_domainUp (s : State) (f op k : Nat) (c : Cmd) (d : Domain) :
    (s.enter f op k c).domainUp d = s.domainUp d := by unfold State.enter; dsimp only; split <;> rfl
@[simp] theorem State.enter_guardOf (s : State) (f op k : Nat) (c : Cmd) (ini : Initiator) (blk : Nat) :
    (s.enter f op k c).guardOf ini blk = s.guardOf ini blk := by unfold State.enter; dsimp only; split <;> rfl
@[simp] theorem State.enter_ringSize (s : State) (f op k : Nat) (c : Cmd) (n : Nat) :
    (s.enter f op k c).ringSize n = s.ringSize n := by unfold State.enter; dsimp only; split <;> rfl
@[simp] theorem State.enter_ringUsed (s : State) (f op k : Nat) (c : Cmd) (n : Nat) :
    (s.enter f op k c).ringUsed n = s.ringUsed n := by unfold State.enter; dsimp only; split <;> rfl
@[simp] theorem State.enter_ringRoom (s : State) (f op k : Nat) (c : Cmd) (n : Nat) :
    (s.enter f op k c).ringRoom n = s.ringRoom n := by unfold State.enter; dsimp only; split <;> rfl
@[simp] theorem State.enter_extPlace (s : State) (f op k : Nat) (c : Cmd) (k' len : Nat) :
    (s.enter f op k c).extPlace k' len = s.extPlace k' len := by unfold State.enter; dsimp only; split <;> rfl
@[simp] theorem State.enter_respRoom (s : State) (f op k : Nat) (c : Cmd) (q : Nat) (x : Slot) :
    (s.enter f op k c).respRoom q x = s.respRoom q x := by unfold State.enter; dsimp only; split <;> rfl
@[simp] theorem State.enter_aonTicks (s : State) (f op k : Nat) (c : Cmd) (d : Nat) :
    (s.enter f op k c).aonTicks d = s.aonTicks d := by unfold State.enter; dsimp only; split <;> rfl
@[simp] theorem State.enter_evTime (s : State) (f op k : Nat) (c : Cmd) :
    (s.enter f op k c).evTime = s.evTime := by unfold State.enter; dsimp only; split <;> rfl
@[simp] theorem State.enter_busy (s : State) (f op k : Nat) (c : Cmd) (f' : Nat) :
    (s.enter f op k c).busy f' = s.busy f' := by unfold State.enter; dsimp only; split <;> rfl
@[simp] theorem State.enter_freeRing (s : State) (f op k : Nat) (c : Cmd) :
    (s.enter f op k c).freeRing = s.freeRing := by unfold State.enter; dsimp only; split <;> rfl
@[simp] theorem State.enter_ring? (s : State) (f op k : Nat) (c : Cmd) (n : Nat) :
    (s.enter f op k c).ring? n = s.ring? n := by unfold State.enter; dsimp only; split <;> rfl
@[simp] theorem State.enter_sramFits (s : State) (f op k : Nat) (c : Cmd) (more : List Nat) :
    (s.enter f op k c).sramFits more = s.sramFits more := by unfold State.enter; dsimp only; split <;> rfl
@[simp] theorem State.enter_domeUp (s : State) (f op k : Nat) (c : Cmd) :
    (s.enter f op k c).domeUp = s.domeUp := by unfold State.enter; dsimp only; split <;> rfl
@[simp] theorem State.enter_pairLink (s : State) (f op k : Nat) (c : Cmd) :
    (s.enter f op k c).pairLink = s.pairLink := by unfold State.enter; dsimp only; split <;> rfl
@[simp] theorem State.enter_within (s : State) (f op k : Nat) (c : Cmd) (t : Option Nat) (d : Nat) :
    (s.enter f op k c).within t d = s.within t d := by unfold State.enter; dsimp only; split <;> rfl
@[simp] theorem State.enter_pairFree (s : State) (f op k : Nat) (c : Cmd) :
    (s.enter f op k c).pairFree = s.pairFree := by unfold State.enter; dsimp only; split <;> rfl
@[simp] theorem State.enter_pairAuth (s : State) (f op k : Nat) (c : Cmd) :
    (s.enter f op k c).pairAuth = s.pairAuth := by unfold State.enter; dsimp only; split <;> rfl
@[simp] theorem State.enter_pairCfgCrc (s : State) (f op k : Nat) (c : Cmd) :
    (s.enter f op k c).pairCfgCrc = s.pairCfgCrc := by unfold State.enter; dsimp only; split <;> rfl
@[simp] theorem State.enter_pairYplPart (s : State) (f op k : Nat) (c : Cmd) :
    (s.enter f op k c).pairYplPart = s.pairYplPart := by unfold State.enter; dsimp only; split <;> rfl
@[simp] theorem State.enter_pairGather (s : State) (f op k : Nat) (c : Cmd) :
    (s.enter f op k c).pairGather = s.pairGather := by unfold State.enter; dsimp only; split <;> rfl
@[simp] theorem State.enter_pairFrame (s : State) (f op k : Nat) (c : Cmd) (kind term ans : Nat) :
    (s.enter f op k c).pairFrame kind term ans = s.pairFrame kind term ans := by unfold State.enter; dsimp only; split <;> rfl
@[simp] theorem State.enter_pairKind (s : State) (f op k : Nat) (c : Cmd) :
    (s.enter f op k c).pairKind = s.pairKind := by unfold State.enter; dsimp only; split <;> rfl
@[simp] theorem State.enter_pairStatus (s : State) (f op k : Nat) (c : Cmd) (st : Word) :
    (s.enter f op k c).pairStatus st = s.pairStatus st := by unfold State.enter; dsimp only; split <;> rfl
@[simp] theorem State.enter_pairLive (s : State) (f op k : Nat) (c : Cmd) :
    (s.enter f op k c).pairLive = s.pairLive := by unfold State.enter; dsimp only; split <;> rfl
@[simp] theorem State.enter_pnlState (s : State) (f op k : Nat) (c : Cmd) :
    (s.enter f op k c).pnlState = s.pnlState := by unfold State.enter; dsimp only; split <;> rfl
@[simp] theorem State.enter_pnlRect (s : State) (f op k : Nat) (c : Cmd) (q : Nat) :
    (s.enter f op k c).pnlRect q = s.pnlRect q := by unfold State.enter; dsimp only; split <;> rfl
@[simp] theorem State.enter_pnlRuns (s : State) (f op k : Nat) (c : Cmd) :
    (s.enter f op k c).pnlRuns = s.pnlRuns := by unfold State.enter; dsimp only; split <;> rfl
@[simp] theorem State.enter_pnlMay (s : State) (f op k : Nat) (c : Cmd) :
    (s.enter f op k c).pnlMay = s.pnlMay := by unfold State.enter; dsimp only; split <;> rfl
@[simp] theorem State.enter_togLine (s : State) (f op k : Nat) (c : Cmd) (t : PnlTog) (l : Nat) :
    (s.enter f op k c).togLine t l = s.togLine t l := by unfold State.enter; dsimp only; split <;> rfl
@[simp] theorem State.enter_pnlGoOn (s : State) (f op k : Nat) (c : Cmd) :
    (s.enter f op k c).pnlGoOn = s.pnlGoOn := by unfold State.enter; dsimp only; split <;> rfl
@[simp] theorem State.enter_pnlFbRead (s : State) (f op k : Nat) (c : Cmd) :
    (s.enter f op k c).pnlFbRead = s.pnlFbRead := by unfold State.enter; dsimp only; split <;> rfl
@[simp] theorem State.enter_pnlIdle (s : State) (f op k : Nat) (c : Cmd) :
    (s.enter f op k c).pnlIdle = s.pnlIdle := by unfold State.enter; dsimp only; split <;> rfl
@[simp] theorem State.enter_pnlStatus (s : State) (f op k : Nat) (c : Cmd) :
    (s.enter f op k c).pnlStatus = s.pnlStatus := by unfold State.enter; dsimp only; split <;> rfl
@[simp] theorem State.enter_prmStatus (s : State) (f op k : Nat) (c : Cmd) :
    (s.enter f op k c).prmStatus = s.prmStatus := by unfold State.enter; dsimp only; split <;> rfl
@[simp] theorem State.enter_posOn (s : State) (f op k : Nat) (c : Cmd) :
    (s.enter f op k c).posOn = s.posOn := by unfold State.enter; dsimp only; split <;> rfl
@[simp] theorem State.enter_gpst (s : State) (f op k : Nat) (c : Cmd) :
    (s.enter f op k c).gpst = s.gpst := by unfold State.enter; dsimp only; split <;> rfl
@[simp] theorem State.enter_gpsAt (s : State) (f op k : Nat) (c : Cmd) (tb : Nat) :
    (s.enter f op k c).gpsAt tb = s.gpsAt tb := by unfold State.enter; dsimp only; split <;> rfl
@[simp] theorem State.enter_timeValid (s : State) (f op k : Nat) (c : Cmd) :
    (s.enter f op k c).timeValid = s.timeValid := by unfold State.enter; dsimp only; split <;> rfl
@[simp] theorem State.enter_posPeriod (s : State) (f op k : Nat) (c : Cmd) :
    (s.enter f op k c).posPeriod = s.posPeriod := by unfold State.enter; dsimp only; split <;> rfl
@[simp] theorem State.enter_posUses (s : State) (f op k : Nat) (c : Cmd) (u : Nat × Nat) :
    (s.enter f op k c).posUses u = s.posUses u := by unfold State.enter; dsimp only; split <;> rfl
@[simp] theorem State.enter_posSats (s : State) (f op k : Nat) (c : Cmd) (us : List (Nat × Nat)) :
    (s.enter f op k c).posSats us = s.posSats us := by unfold State.enter; dsimp only; split <;> rfl
@[simp] theorem State.enter_posCorrOk (s : State) (f op k : Nat) (c : Cmd) (tb : Nat) :
    (s.enter f op k c).posCorrOk tb = s.posCorrOk tb := by unfold State.enter; dsimp only; split <;> rfl
@[simp] theorem State.enter_posQuality (s : State) (f op k : Nat) (c : Cmd) (tb : Nat) (x : PosSol) :
    (s.enter f op k c).posQuality tb x = s.posQuality tb x := by unfold State.enter; dsimp only; split <;> rfl
@[simp] theorem State.enter_posHeading (s : State) (f op k : Nat) (c : Cmd) (x : PosSol) :
    (s.enter f op k c).posHeading x = s.posHeading x := by unfold State.enter; dsimp only; split <;> rfl
@[simp] theorem State.enter_posOdo (s : State) (f op k : Nat) (c : Cmd) :
    (s.enter f op k c).posOdo = s.posOdo := by unfold State.enter; dsimp only; split <;> rfl
@[simp] theorem State.enter_aonCount (s : State) (f op k : Nat) (c : Cmd) :
    (s.enter f op k c).aonCount = s.aonCount := by unfold State.enter; dsimp only; split <;> rfl
@[simp] theorem State.enter_sentryBytes (s : State) (f op k : Nat) (c : Cmd) :
    (s.enter f op k c).sentryBytes = s.sentryBytes := by unfold State.enter; dsimp only; split <;> rfl
@[simp] theorem State.enter_posStatusBytes (s : State) (f op k : Nat) (c : Cmd) :
    (s.enter f op k c).posStatusBytes = s.posStatusBytes := by unfold State.enter; dsimp only; split <;> rfl
@[simp] theorem State.enter_dipTh (s : State) (f op k : Nat) (c : Cmd) (i : Nat) :
    (s.enter f op k c).dipTh i = s.dipTh i := by unfold State.enter; dsimp only; split <;> rfl
@[simp] theorem State.enter_aonAbsent (s : State) (f op k : Nat) (c : Cmd) :
    (s.enter f op k c).aonAbsent = s.aonAbsent := by unfold State.enter; dsimp only; split <;> rfl
@[simp] theorem State.enter_timerDue (s : State) (f op k : Nat) (c : Cmd) :
    (s.enter f op k c).timerDue = s.timerDue := by unfold State.enter; dsimp only; split <;> rfl
@[simp] theorem State.enter_dinWakes (s : State) (f op k : Nat) (c : Cmd) (d : WakeIn) :
    (s.enter f op k c).dinWakes d = s.dinWakes d := by unfold State.enter; dsimp only; split <;> rfl
@[simp] theorem State.enter_prmSectOk (s : State) (f op k : Nat) (c : Cmd) (e : PrmSect) :
    (s.enter f op k c).prmSectOk e = s.prmSectOk e := by unfold State.enter; dsimp only; split <;> rfl
@[simp] theorem State.enter_recClass (s : State) (f op k : Nat) (c : Cmd) (cls : Nat) :
    (s.enter f op k c).recClass cls = s.recClass cls := by unfold State.enter; dsimp only; split <;> rfl
@[simp] theorem State.enter_recFaults (s : State) (f op k : Nat) (c : Cmd) :
    (s.enter f op k c).recFaults = s.recFaults := by unfold State.enter; dsimp only; split <;> rfl
@[simp] theorem State.enter_recOldest (s : State) (f op k : Nat) (c : Cmd) (sev : Nat) :
    (s.enter f op k c).recOldest sev = s.recOldest sev := by unfold State.enter; dsimp only; split <;> rfl
@[simp] theorem State.enter_recVictim (s : State) (f op k : Nat) (c : Cmd) (sev : Nat) :
    (s.enter f op k c).recVictim sev = s.recVictim sev := by unfold State.enter; dsimp only; split <;> rfl
@[simp] theorem State.enter_recStatus (s : State) (f op k : Nat) (c : Cmd) :
    (s.enter f op k c).recStatus = s.recStatus := by unfold State.enter; dsimp only; split <;> rfl
@[simp] theorem State.enter_latches (s : State) (f op k : Nat) (c : Cmd) (ini : Initiator) :
    (s.enter f op k c).latches ini = s.latches ini := by unfold State.enter; dsimp only; split <;> rfl
@[simp] theorem State.enter_si (s : State) (f op k : Nat) (c : Cmd) (i : Nat) :
    (s.enter f op k c).si i = s.si i := by unfold State.enter; dsimp only; split <;> rfl
@[simp] theorem State.enter_mon (s : State) (f op k : Nat) (c : Cmd) (m : Nat) :
    (s.enter f op k c).mon m = s.mon m := by unfold State.enter; dsimp only; split <;> rfl
@[simp] theorem State.enter_so (s : State) (f op k : Nat) (c : Cmd) (n : Nat) :
    (s.enter f op k c).so n = s.so n := by unfold State.enter; dsimp only; split <;> rfl
@[simp] theorem State.enter_conn (s : State) (f op k : Nat) (c : Cmd) (c' : Nat) :
    (s.enter f op k c).conn c' = s.conn c' := by unfold State.enter; dsimp only; split <;> rfl
@[simp] theorem State.enter_siChan (s : State) (f op k : Nat) (c : Cmd) (i : Nat) :
    (s.enter f op k c).siChan i = s.siChan i := by unfold State.enter; dsimp only; split <;> rfl
@[simp] theorem State.enter_siActive (s : State) (f op k : Nat) (c : Cmd) (i : Nat) :
    (s.enter f op k c).siActive i = s.siActive i := by unfold State.enter; dsimp only; split <;> rfl
@[simp] theorem State.enter_safV (s : State) (f op k : Nat) (c : Cmd) (m input : Nat) :
    (s.enter f op k c).safV m input = s.safV m input := by unfold State.enter; dsimp only; split <;> rfl
@[simp] theorem State.enter_monVA (s : State) (f op k : Nat) (c : Cmd) (m : Nat) :
    (s.enter f op k c).monVA m = s.monVA m := by unfold State.enter; dsimp only; split <;> rfl
@[simp] theorem State.enter_monVB (s : State) (f op k : Nat) (c : Cmd) (m : Nat) :
    (s.enter f op k c).monVB m = s.monVB m := by unfold State.enter; dsimp only; split <;> rfl
@[simp] theorem State.enter_monSpeed (s : State) (f op k : Nat) (c : Cmd) (m : Nat) :
    (s.enter f op k c).monSpeed m = s.monSpeed m := by unfold State.enter; dsimp only; split <;> rfl
@[simp] theorem State.enter_monDiffers (s : State) (f op k : Nat) (c : Cmd) (m : Nat) :
    (s.enter f op k c).monDiffers m = s.monDiffers m := by unfold State.enter; dsimp only; split <;> rfl
@[simp] theorem State.enter_safLatched (s : State) (f op k : Nat) (c : Cmd) (cause obj : Nat) :
    (s.enter f op k c).safLatched cause obj = s.safLatched cause obj := by unfold State.enter; dsimp only; split <;> rfl
@[simp] theorem State.enter_monStill (s : State) (f op k : Nat) (c : Cmd) (m : Nat) :
    (s.enter f op k c).monStill m = s.monStill m := by unfold State.enter; dsimp only; split <;> rfl
@[simp] theorem State.enter_safStill (s : State) (f op k : Nat) (c : Cmd) :
    (s.enter f op k c).safStill = s.safStill := by unfold State.enter; dsimp only; split <;> rfl
@[simp] theorem State.enter_safMons (s : State) (f op k : Nat) (c : Cmd) :
    (s.enter f op k c).safMons = s.safMons := by unfold State.enter; dsimp only; split <;> rfl
@[simp] theorem State.enter_edmFree (s : State) (f op k : Nat) (c : Cmd) (n : Nat) :
    (s.enter f op k c).edmFree n = s.edmFree n := by unfold State.enter; dsimp only; split <;> rfl
@[simp] theorem State.enter_safLinesFor (s : State) (f op k : Nat) (c : Cmd) (st : Nat) :
    (s.enter f op k c).safLinesFor st = s.safLinesFor st := by unfold State.enter; dsimp only; split <;> rfl
@[simp] theorem State.enter_jspProduced (s : State) (f op k : Nat) (c : Cmd) :
    (s.enter f op k c).jspProduced = s.jspProduced := by unfold State.enter; dsimp only; split <;> rfl
@[simp] theorem State.enter_tpRuns (s : State) (f op k : Nat) (c : Cmd) :
    (s.enter f op k c).tpRuns = s.tpRuns := by unfold State.enter; dsimp only; split <;> rfl
@[simp] theorem State.enter_safTriggers (s : State) (f op k : Nat) (c : Cmd) :
    (s.enter f op k c).safTriggers = s.safTriggers := by unfold State.enter; dsimp only; split <;> rfl
@[simp] theorem State.enter_safGone (s : State) (f op k : Nat) (c : Cmd) (f' : Nat × Nat) :
    (s.enter f op k c).safGone f' = s.safGone f' := by unfold State.enter; dsimp only; split <;> rfl
@[simp] theorem State.enter_tpMasked (s : State) (f op k : Nat) (c : Cmd) (i : Nat) :
    (s.enter f op k c).tpMasked i = s.tpMasked i := by unfold State.enter; dsimp only; split <;> rfl
@[simp] theorem State.enter_safAgrees (s : State) (f op k : Nat) (c : Cmd) :
    (s.enter f op k c).safAgrees = s.safAgrees := by unfold State.enter; dsimp only; split <;> rfl
@[simp] theorem State.enter_safStatus (s : State) (f op k : Nat) (c : Cmd) :
    (s.enter f op k c).safStatus = s.safStatus := by unfold State.enter; dsimp only; split <;> rfl
@[simp] theorem State.enter_gptpValid (s : State) (f op k : Nat) (c : Cmd) (port : Nat) :
    (s.enter f op k c).gptpValid port = s.gptpValid port := by unfold State.enter; dsimp only; split <;> rfl
@[simp] theorem State.enter_avtpTb (s : State) (f op k : Nat) (c : Cmd) (arrival ts : Nat) :
    (s.enter f op k c).avtpTb arrival ts = s.avtpTb arrival ts := by unfold State.enter; dsimp only; split <;> rfl
@[simp] theorem State.enter_tch (s : State) (f op k : Nat) (c : Cmd) (n : Nat) :
    (s.enter f op k c).tch n = s.tch n := by unfold State.enter; dsimp only; split <;> rfl
@[simp] theorem State.enter_trnPathRuns (s : State) (f op k : Nat) (c : Cmd) (p : Nat) :
    (s.enter f op k c).trnPathRuns p = s.trnPathRuns p := by unfold State.enter; dsimp only; split <;> rfl
@[simp] theorem State.enter_trnCan (s : State) (f op k : Nat) (c : Cmd) (w : Word) :
    (s.enter f op k c).trnCan w = s.trnCan w := by unfold State.enter; dsimp only; split <;> rfl
@[simp] theorem State.enter_trnMine (s : State) (f op k : Nat) (c : Cmd) (q : TrnReq) (n : Nat) :
    (s.enter f op k c).trnMine q n = s.trnMine q n := by unfold State.enter; dsimp only; split <;> rfl
@[simp] theorem State.enter_trnRate (s : State) (f op k : Nat) (c : Cmd) :
    (s.enter f op k c).trnRate = s.trnRate := by unfold State.enter; dsimp only; split <;> rfl
@[simp] theorem State.enter_trnDomeAid (s : State) (f op k : Nat) (c : Cmd) :
    (s.enter f op k c).trnDomeAid = s.trnDomeAid := by unfold State.enter; dsimp only; split <;> rfl
@[simp] theorem State.enter_trnStatus (s : State) (f op k : Nat) (c : Cmd) :
    (s.enter f op k c).trnStatus = s.trnStatus := by unfold State.enter; dsimp only; split <;> rfl
@[simp] theorem State.enter_updSafe (s : State) (f op k : Nat) (c : Cmd) :
    (s.enter f op k c).updSafe = s.updSafe := by unfold State.enter; dsimp only; split <;> rfl
@[simp] theorem State.enter_yplField (s : State) (f op k : Nat) (c : Cmd) :
    (s.enter f op k c).yplField = s.yplField := by unfold State.enter; dsimp only; split <;> rfl
@[simp] theorem State.enter_yplW (s : State) (f op k : Nat) (c : Cmd) (a : Nat) :
    (s.enter f op k c).yplW a = s.yplW a := by unfold State.enter; dsimp only; split <;> rfl
@[simp] theorem State.enter_yplF (s : State) (f op k : Nat) (c : Cmd) (a hi lo : Nat) :
    (s.enter f op k c).yplF a hi lo = s.yplF a hi lo := by unfold State.enter; dsimp only; split <;> rfl
@[simp] theorem State.enter_yplDoneW (s : State) (f op k : Nat) (c : Cmd) (a : Nat) :
    (s.enter f op k c).yplDoneW a = s.yplDoneW a := by unfold State.enter; dsimp only; split <;> rfl
@[simp] theorem State.enter_yplDoneF (s : State) (f op k : Nat) (c : Cmd) (a hi lo : Nat) :
    (s.enter f op k c).yplDoneF a hi lo = s.yplDoneF a hi lo := by unfold State.enter; dsimp only; split <;> rfl
@[simp] theorem State.enter_yplCrop (s : State) (f op k : Nat) (c : Cmd) :
    (s.enter f op k c).yplCrop = s.yplCrop := by unfold State.enter; dsimp only; split <;> rfl
@[simp] theorem State.enter_yplTaps (s : State) (f op k : Nat) (c : Cmd) :
    (s.enter f op k c).yplTaps = s.yplTaps := by unfold State.enter; dsimp only; split <;> rfl
@[simp] theorem State.enter_yplWidth (s : State) (f op k : Nat) (c : Cmd) (p : YplPose) :
    (s.enter f op k c).yplWidth p = s.yplWidth p := by unfold State.enter; dsimp only; split <;> rfl
@[simp] theorem State.enter_yplBar (s : State) (f op k : Nat) (c : Cmd) (f' : YplField) (w : Nat) (p : YplPose) :
    (s.enter f op k c).yplBar f' w p = s.yplBar f' w p := by unfold State.enter; dsimp only; split <;> rfl
@[simp] theorem State.enter_yplStrip (s : State) (f op k : Nat) (c : Cmd) (f' : YplField) (p q : YplPose) :
    (s.enter f op k c).yplStrip f' p q = s.yplStrip f' p q := by unfold State.enter; dsimp only; split <;> rfl
@[simp] theorem State.enter_yplWorked (s : State) (f op k : Nat) (c : Cmd) :
    (s.enter f op k c).yplWorked = s.yplWorked := by unfold State.enter; dsimp only; split <;> rfl
@[simp] theorem State.enter_yplWorkedMid (s : State) (f op k : Nat) (c : Cmd) :
    (s.enter f op k c).yplWorkedMid = s.yplWorkedMid := by unfold State.enter; dsimp only; split <;> rfl
@[simp] theorem State.enter_yplMayOpen (s : State) (f op k : Nat) (c : Cmd) :
    (s.enter f op k c).yplMayOpen = s.yplMayOpen := by unfold State.enter; dsimp only; split <;> rfl
@[simp] theorem State.enter_yplFind (s : State) (f op k : Nat) (c : Cmd) (id : Nat) :
    (s.enter f op k c).yplFind id = s.yplFind id := by unfold State.enter; dsimp only; split <;> rfl
@[simp] theorem State.enter_yplStatus (s : State) (f op k : Nat) (c : Cmd) :
    (s.enter f op k c).yplStatus = s.yplStatus := by unfold State.enter; dsimp only; split <;> rfl

/-! ### When the body of a command begins -/

@[simp] theorem State.entered_pending (s : State) (f b k : Nat) (c : Cmd) : (s.entered f b k c).pending = s.pending := by
  unfold State.entered; rw [State.enter_pending, State.begun_pending]
@[simp] theorem State.entered_clk (s : State) (f b k : Nat) (c : Cmd) : (s.entered f b k c).clk = s.clk := by
  unfold State.entered; rw [State.enter_clk, State.begun_clk]
@[simp] theorem State.entered_regs (s : State) (f b k : Nat) (c : Cmd) : (s.entered f b k c).regs = s.regs := by
  unfold State.entered; rw [State.enter_regs, State.begun_regs]
@[simp] theorem State.entered_shadow (s : State) (f b k : Nat) (c : Cmd) : (s.entered f b k c).shadow = s.shadow := by
  unfold State.entered; rw [State.enter_shadow, State.begun_shadow]
@[simp] theorem State.entered_fab (s : State) (f b k : Nat) (c : Cmd) : (s.entered f b k c).fab = s.fab := by
  unfold State.entered; rw [State.enter_fab, State.begun_fab]
@[simp] theorem State.entered_fns (s : State) (f b k : Nat) (c : Cmd) : (s.entered f b k c).fns = s.fns := by
  unfold State.entered; rw [State.enter_fns, State.begun_fns]
@[simp] theorem State.entered_pwr (s : State) (f b k : Nat) (c : Cmd) : (s.entered f b k c).pwr = s.pwr := by
  unfold State.entered; rw [State.enter_pwr, State.begun_pwr]
@[simp] theorem State.entered_almanac (s : State) (f b k : Nat) (c : Cmd) : (s.entered f b k c).almanac = s.almanac := by
  unfold State.entered; rw [State.enter_almanac, State.begun_almanac]
@[simp] theorem State.entered_inp (s : State) (f b k : Nat) (c : Cmd) : (s.entered f b k c).inp = s.inp := by
  unfold State.entered; rw [State.enter_inp, State.begun_inp]
@[simp] theorem State.entered_cst (s : State) (f b k : Nat) (c : Cmd) : (s.entered f b k c).cst = s.cst := by
  unfold State.entered; rw [State.enter_cst, State.begun_cst]
@[simp] theorem State.entered_ypl (s : State) (f b k : Nat) (c : Cmd) : (s.entered f b k c).ypl = s.ypl := by
  unfold State.entered; rw [State.enter_ypl, State.begun_ypl]
@[simp] theorem State.entered_saf (s : State) (f b k : Nat) (c : Cmd) : (s.entered f b k c).saf = s.saf := by
  unfold State.entered; rw [State.enter_saf, State.begun_saf]
@[simp] theorem State.entered_adr (s : State) (f b k : Nat) (c : Cmd) : (s.entered f b k c).adr = s.adr := by
  unfold State.entered; rw [State.enter_adr, State.begun_adr]
@[simp] theorem State.entered_psw (s : State) (f b k : Nat) (c : Cmd) : (s.entered f b k c).psw = s.psw := by
  unfold State.entered; rw [State.enter_psw, State.begun_psw]
@[simp] theorem State.entered_mer (s : State) (f b k : Nat) (c : Cmd) : (s.entered f b k c).mer = s.mer := by
  unfold State.entered; rw [State.enter_mer, State.begun_mer]
@[simp] theorem State.entered_trn (s : State) (f b k : Nat) (c : Cmd) : (s.entered f b k c).trn = s.trn := by
  unfold State.entered; rw [State.enter_trn, State.begun_trn]
@[simp] theorem State.entered_pos (s : State) (f b k : Nat) (c : Cmd) : (s.entered f b k c).pos = s.pos := by
  unfold State.entered; rw [State.enter_pos, State.begun_pos]
@[simp] theorem State.entered_gptp (s : State) (f b k : Nat) (c : Cmd) : (s.entered f b k c).gptp = s.gptp := by
  unfold State.entered; rw [State.enter_gptp, State.begun_gptp]
@[simp] theorem State.entered_cam (s : State) (f b k : Nat) (c : Cmd) : (s.entered f b k c).cam = s.cam := by
  unfold State.entered; rw [State.enter_cam, State.begun_cam]
@[simp] theorem State.entered_vxa (s : State) (f b k : Nat) (c : Cmd) : (s.entered f b k c).vxa = s.vxa := by
  unfold State.entered; rw [State.enter_vxa, State.begun_vxa]
@[simp] theorem State.entered_ast (s : State) (f b k : Nat) (c : Cmd) : (s.entered f b k c).ast = s.ast := by
  unfold State.entered; rw [State.enter_ast, State.begun_ast]
@[simp] theorem State.entered_pair (s : State) (f b k : Nat) (c : Cmd) : (s.entered f b k c).pair = s.pair := by
  unfold State.entered; rw [State.enter_pair, State.begun_pair]
@[simp] theorem State.entered_can (s : State) (f b k : Nat) (c : Cmd) : (s.entered f b k c).can = s.can := by
  unfold State.entered; rw [State.enter_can, State.begun_can]
@[simp] theorem State.entered_prm (s : State) (f b k : Nat) (c : Cmd) : (s.entered f b k c).prm = s.prm := by
  unfold State.entered; rw [State.enter_prm, State.begun_prm]
@[simp] theorem State.entered_eth (s : State) (f b k : Nat) (c : Cmd) : (s.entered f b k c).eth = s.eth := by
  unfold State.entered; rw [State.enter_eth, State.begun_eth]
@[simp] theorem State.entered_pnl (s : State) (f b k : Nat) (c : Cmd) : (s.entered f b k c).pnl = s.pnl := by
  unfold State.entered; rw [State.enter_pnl, State.begun_pnl]
@[simp] theorem State.entered_flt (s : State) (f b k : Nat) (c : Cmd) : (s.entered f b k c).flt = s.flt := by
  unfold State.entered; rw [State.enter_flt, State.begun_flt]
@[simp] theorem State.entered_running (s : State) (f b k : Nat) (c : Cmd) : (s.entered f b k c).mbx.running = s.mbx.running := by
  unfold State.entered; rw [State.enter_running]; rfl
@[simp] theorem State.entered_rings (s : State) (f b k : Nat) (c : Cmd) : (s.entered f b k c).mbx.rings = s.mbx.rings := by
  unfold State.entered; rw [State.enter_rings]; rfl
@[simp] theorem State.entered_ch (s : State) (f b k : Nat) (c : Cmd) (n : Nat) :
    (s.entered f b k c).ch n = s.ch n := by unfold State.entered; rw [State.enter_ch]; rfl
@[simp] theorem State.entered_bank (s : State) (f b k : Nat) (c : Cmd) (k' : Nat) :
    (s.entered f b k c).bank k' = s.bank k' := by unfold State.entered; rw [State.enter_bank]; rfl
@[simp] theorem State.entered_tb2 (s : State) (f b k : Nat) (c : Cmd) :
    (s.entered f b k c).tb2 = s.tb2 := by unfold State.entered; rw [State.enter_tb2]; rfl
@[simp] theorem State.entered_tickEarly (s : State) (f b k : Nat) (c : Cmd) :
    (s.entered f b k c).tickEarly = s.tickEarly := by unfold State.entered; rw [State.enter_tickEarly]; rfl
@[simp] theorem State.entered_adrMode (s : State) (f b k : Nat) (c : Cmd) (n : Nat) :
    (s.entered f b k c).adrMode n = s.adrMode n := by unfold State.entered; rw [State.enter_adrMode]; rfl
@[simp] theorem State.entered_adrEn (s : State) (f b k : Nat) (c : Cmd) (n : Nat) :
    (s.entered f b k c).adrEn n = s.adrEn n := by unfold State.entered; rw [State.enter_adrEn]; rfl
@[simp] theorem State.entered_adrProf (s : State) (f b k : Nat) (c : Cmd) (n : Nat) :
    (s.entered f b k c).adrProf n = s.adrProf n := by unfold State.entered; rw [State.enter_adrProf]; rfl
@[simp] theorem State.entered_adrOpenTh (s : State) (f b k : Nat) (c : Cmd) (n : Nat) :
    (s.entered f b k c).adrOpenTh n = s.adrOpenTh n := by unfold State.entered; rw [State.enter_adrOpenTh]; rfl
@[simp] theorem State.entered_adrMot (s : State) (f b k : Nat) (c : Cmd) (n : Nat) :
    (s.entered f b k c).adrMot n = s.adrMot n := by unfold State.entered; rw [State.enter_adrMot]; rfl
@[simp] theorem State.entered_adrDmin (s : State) (f b k : Nat) (c : Cmd) (n : Nat) :
    (s.entered f b k c).adrDmin n = s.adrDmin n := by unfold State.entered; rw [State.enter_adrDmin]; rfl
@[simp] theorem State.entered_line (s : State) (f b k : Nat) (c : Cmd) (i : Nat) :
    (s.entered f b k c).line i = s.line i := by unfold State.entered; rw [State.enter_line]; rfl
@[simp] theorem State.entered_bankEff (s : State) (f b k : Nat) (c : Cmd) (k' : Nat) :
    (s.entered f b k c).bankEff k' = s.bankEff k' := by unfold State.entered; rw [State.enter_bankEff]; rfl
@[simp] theorem State.entered_bankMay (s : State) (f b k : Nat) (c : Cmd) (k' : Nat) :
    (s.entered f b k c).bankMay k' = s.bankMay k' := by unfold State.entered; rw [State.enter_bankMay]; rfl
@[simp] theorem State.entered_adrCmd (s : State) (f b k : Nat) (c : Cmd) (n : Nat) :
    (s.entered f b k c).adrCmd n = s.adrCmd n := by unfold State.entered; rw [State.enter_adrCmd]; rfl
@[simp] theorem State.entered_adrProp (s : State) (f b k : Nat) (c : Cmd) (n : Nat) :
    (s.entered f b k c).adrProp n = s.adrProp n := by unfold State.entered; rw [State.enter_adrProp]; rfl
@[simp] theorem State.entered_bankSampler (s : State) (f b k : Nat) (c : Cmd) (k' : Nat) :
    (s.entered f b k c).bankSampler k' = s.bankSampler k' := by unfold State.entered; rw [State.enter_bankSampler]; rfl
@[simp] theorem State.entered_bstTarget (s : State) (f b k : Nat) (c : Cmd) :
    (s.entered f b k c).bstTarget = s.bstTarget := by unfold State.entered; rw [State.enter_bstTarget]; rfl
@[simp] theorem State.entered_bstMay (s : State) (f b k : Nat) (c : Cmd) :
    (s.entered f b k c).bstMay = s.bstMay := by unfold State.entered; rw [State.enter_bstMay]; rfl
@[simp] theorem State.entered_bstLowm (s : State) (f b k : Nat) (c : Cmd) :
    (s.entered f b k c).bstLowm = s.bstLowm := by unfold State.entered; rw [State.enter_bstLowm]; rfl
@[simp] theorem State.entered_bstSpillAt (s : State) (f b k : Nat) (c : Cmd) :
    (s.entered f b k c).bstSpillAt = s.bstSpillAt := by unfold State.entered; rw [State.enter_bstSpillAt]; rfl
@[simp] theorem State.entered_adrTemp (s : State) (f b k : Nat) (c : Cmd) (n : Nat) :
    (s.entered f b k c).adrTemp n = s.adrTemp n := by unfold State.entered; rw [State.enter_adrTemp]; rfl
@[simp] theorem State.entered_adrBandAt (s : State) (f b k : Nat) (c : Cmd) (n act : Nat) :
    (s.entered f b k c).adrBandAt n act = s.adrBandAt n act := by unfold State.entered; rw [State.enter_adrBandAt]; rfl
@[simp] theorem State.entered_adrTrim (s : State) (f b k : Nat) (c : Cmd) (n : Nat) :
    (s.entered f b k c).adrTrim n = s.adrTrim n := by unfold State.entered; rw [State.enter_adrTrim]; rfl
@[simp] theorem State.entered_adrState (s : State) (f b k : Nat) (c : Cmd) (n : Nat) :
    (s.entered f b k c).adrState n = s.adrState n := by unfold State.entered; rw [State.enter_adrState]; rfl
@[simp] theorem State.entered_bankSrc (s : State) (f b k : Nat) (c : Cmd) (k' : Nat) :
    (s.entered f b k c).bankSrc k' = s.bankSrc k' := by unfold State.entered; rw [State.enter_bankSrc]; rfl
@[simp] theorem State.entered_adrNoSig (s : State) (f b k : Nat) (c : Cmd) (n : Nat) :
    (s.entered f b k c).adrNoSig n = s.adrNoSig n := by unfold State.entered; rw [State.enter_adrNoSig]; rfl
@[simp] theorem State.entered_bankGuarded (s : State) (f b k : Nat) (c : Cmd) (n : Nat) :
    (s.entered f b k c).bankGuarded n = s.bankGuarded n := by unfold State.entered; rw [State.enter_bankGuarded]; rfl
@[simp] theorem State.entered_bankFree (s : State) (f b k : Nat) (c : Cmd) (n : Nat) :
    (s.entered f b k c).bankFree n = s.bankFree n := by unfold State.entered; rw [State.enter_bankFree]; rfl
@[simp] theorem State.entered_adrFirst (s : State) (f b k : Nat) (c : Cmd) (wI wT : Word) :
    (s.entered f b k c).adrFirst wI wT = s.adrFirst wI wT := by unfold State.entered; rw [State.enter_adrFirst]; rfl
@[simp] theorem State.entered_adrFlow (s : State) (f b k : Nat) (c : Cmd) (n x : Nat) :
    (s.entered f b k c).adrFlow n x = s.adrFlow n x := by unfold State.entered; rw [State.enter_adrFlow]; rfl
@[simp] theorem State.entered_bankWaiters (s : State) (f b k : Nat) (c : Cmd) (k' : Nat) :
    (s.entered f b k c).bankWaiters k' = s.bankWaiters k' := by unfold State.entered; rw [State.enter_bankWaiters]; rfl
@[simp] theorem State.entered_deferMax (s : State) (f b k : Nat) (c : Cmd) (k' : Nat) :
    (s.entered f b k c).deferMax k' = s.deferMax k' := by unfold State.entered; rw [State.enter_deferMax]; rfl
@[simp] theorem State.entered_dithF (s : State) (f b k : Nat) (c : Cmd) (n : Nat) :
    (s.entered f b k c).dithF n = s.dithF n := by unfold State.entered; rw [State.enter_dithF]; rfl
@[simp] theorem State.entered_dithPos (s : State) (f b k : Nat) (c : Cmd) (n : Nat) :
    (s.entered f b k c).dithPos n = s.dithPos n := by unfold State.entered; rw [State.enter_dithPos]; rfl
@[simp] theorem State.entered_dithDue (s : State) (f b k : Nat) (c : Cmd) (n : Nat) :
    (s.entered f b k c).dithDue n = s.dithDue n := by unfold State.entered; rw [State.enter_dithDue]; rfl
@[simp] theorem State.entered_adrTarget (s : State) (f b k : Nat) (c : Cmd) (n : Nat) :
    (s.entered f b k c).adrTarget n = s.adrTarget n := by unfold State.entered; rw [State.enter_adrTarget]; rfl
@[simp] theorem State.entered_adrChanged (s : State) (f b k : Nat) (c : Cmd) :
    (s.entered f b k c).adrChanged = s.adrChanged := by unfold State.entered; rw [State.enter_adrChanged]; rfl
@[simp] theorem State.entered_adrShorted (s : State) (f b k : Nat) (c : Cmd) (n : Nat) :
    (s.entered f b k c).adrShorted n = s.adrShorted n := by unfold State.entered; rw [State.enter_adrShorted]; rfl
@[simp] theorem State.entered_adrDriven (s : State) (f b k : Nat) (c : Cmd) (n p : Nat) :
    (s.entered f b k c).adrDriven n p = s.adrDriven n p := by unfold State.entered; rw [State.enter_adrDriven]; rfl
@[simp] theorem State.entered_adrDestOff (s : State) (f b k : Nat) (c : Cmd) (n : Nat) :
    (s.entered f b k c).adrDestOff n = s.adrDestOff n := by unfold State.entered; rw [State.enter_adrDestOff]; rfl
@[simp] theorem State.entered_adrStatus (s : State) (f b k : Nat) (c : Cmd) :
    (s.entered f b k c).adrStatus = s.adrStatus := by unfold State.entered; rw [State.enter_adrStatus]; rfl
@[simp] theorem State.entered_adrCfgCheck (s : State) (f b k : Nat) (c : Cmd) (p : List Byte) :
    (s.entered f b k c).adrCfgCheck p = s.adrCfgCheck p := by unfold State.entered; rw [State.enter_adrCfgCheck]; rfl
@[simp] theorem State.entered_camStr (s : State) (f b k : Nat) (c : Cmd) (i : Nat) :
    (s.entered f b k c).camStr i = s.camStr i := by unfold State.entered; rw [State.enter_camStr]; rfl
@[simp] theorem State.entered_camCtx (s : State) (f b k : Nat) (c : Cmd) (c' : Nat) :
    (s.entered f b k c).camCtx c' = s.camCtx c' := by unfold State.entered; rw [State.enter_camCtx]; rfl
@[simp] theorem State.entered_camEnc (s : State) (f b k : Nat) (c : Cmd) (e : Nat) :
    (s.entered f b k c).camEnc e = s.camEnc e := by unfold State.entered; rw [State.enter_camEnc]; rfl
@[simp] theorem State.entered_frame? (s : State) (f b k : Nat) (c : Cmd) (uid : Nat) :
    (s.entered f b k c).frame? uid = s.frame? uid := by unfold State.entered; rw [State.enter_frame?]; rfl
@[simp] theorem State.entered_camCur (s : State) (f b k : Nat) (c : Cmd) (i : Nat) :
    (s.entered f b k c).camCur i = s.camCur i := by unfold State.entered; rw [State.enter_camCur]; rfl
@[simp] theorem State.entered_camRuns (s : State) (f b k : Nat) (c : Cmd) :
    (s.entered f b k c).camRuns = s.camRuns := by unfold State.entered; rw [State.enter_camRuns]; rfl
@[simp] theorem State.entered_camCfg (s : State) (f b k : Nat) (c : Cmd) (c' : Nat) :
    (s.entered f b k c).camCfg c' = s.camCfg c' := by unfold State.entered; rw [State.enter_camCfg]; rfl
@[simp] theorem State.entered_camOwner (s : State) (f b k : Nat) (c : Cmd) (i : Nat) :
    (s.entered f b k c).camOwner i = s.camOwner i := by unfold State.entered; rw [State.enter_camOwner]; rfl
@[simp] theorem State.entered_camInline (s : State) (f b k : Nat) (c : Cmd) (i : Nat) :
    (s.entered f b k c).camInline i = s.camInline i := by unfold State.entered; rw [State.enter_camInline]; rfl
@[simp] theorem State.entered_camStripe (s : State) (f b k : Nat) (c : Cmd) :
    (s.entered f b k c).camStripe = s.camStripe := by unfold State.entered; rw [State.enter_camStripe]; rfl
@[simp] theorem State.entered_camReady (s : State) (f b k : Nat) (c : Cmd) (f' : CamFrame) :
    (s.entered f b k c).camReady f' = s.camReady f' := by unfold State.entered; rw [State.enter_camReady]; rfl
@[simp] theorem State.entered_camFor (s : State) (f b k : Nat) (c : Cmd) (f' : CamFrame) :
    (s.entered f b k c).camFor f' = s.camFor f' := by unfold State.entered; rw [State.enter_camFor]; rfl
@[simp] theorem State.entered_camNext (s : State) (f b k : Nat) (c : Cmd) (c' : Nat) :
    (s.entered f b k c).camNext c' = s.camNext c' := by unfold State.entered; rw [State.enter_camNext]; rfl
@[simp] theorem State.entered_camTblGet (s : State) (f b k : Nat) (c : Cmd) (c' t i : Nat) :
    (s.entered f b k c).camTblGet c' t i = s.camTblGet c' t i := by unfold State.entered; rw [State.enter_camTblGet]; rfl
@[simp] theorem State.entered_camTblRead (s : State) (f b k : Nat) (c : Cmd) :
    (s.entered f b k c).camTblRead = s.camTblRead := by unfold State.entered; rw [State.enter_camTblRead]; rfl
@[simp] theorem State.entered_camStatus (s : State) (f b k : Nat) (c : Cmd) :
    (s.entered f b k c).camStatus = s.camStatus := by unfold State.entered; rw [State.enter_camStatus]; rfl
@[simp] theorem State.entered_vxaStatus (s : State) (f b k : Nat) (c : Cmd) :
    (s.entered f b k c).vxaStatus = s.vxaStatus := by unfold State.entered; rw [State.enter_vxaStatus]; rfl
@[simp] theorem State.entered_lin (s : State) (f b k : Nat) (c : Cmd) (k' : Nat) :
    (s.entered f b k c).lin k' = s.lin k' := by unfold State.entered; rw [State.enter_lin]; rfl
@[simp] theorem State.entered_canName (s : State) (f b k : Nat) (c : Cmd) (n : Nat) :
    (s.entered f b k c).canName n = s.canName n := by unfold State.entered; rw [State.enter_canName]; rfl
@[simp] theorem State.entered_canAddr (s : State) (f b k : Nat) (c : Cmd) (n : Nat) :
    (s.entered f b k c).canAddr n = s.canAddr n := by unfold State.entered; rw [State.enter_canAddr]; rfl
@[simp] theorem State.entered_canClaim (s : State) (f b k : Nat) (c : Cmd) (n : Nat) :
    (s.entered f b k c).canClaim n = s.canClaim n := by unfold State.entered; rw [State.enter_canClaim]; rfl
@[simp] theorem State.entered_canReady (s : State) (f b k : Nat) (c : Cmd) (n t : Nat) :
    (s.entered f b k c).canReady n t = s.canReady n t := by unfold State.entered; rw [State.enter_canReady]; rfl
@[simp] theorem State.entered_canJasper (s : State) (f b k : Nat) (c : Cmd) (n : Nat) (x : CanRx) :
    (s.entered f b k c).canJasper n x = s.canJasper n x := by unfold State.entered; rw [State.enter_canJasper]; rfl
@[simp] theorem State.entered_canObject (s : State) (f b k : Nat) (c : Cmd) (n : Nat) (x : CanRx) :
    (s.entered f b k c).canObject n x = s.canObject n x := by unfold State.entered; rw [State.enter_canObject]; rfl
@[simp] theorem State.entered_canWakeRate (s : State) (f b k : Nat) (c : Cmd) (n : Nat) :
    (s.entered f b k c).canWakeRate n = s.canWakeRate n := by unfold State.entered; rw [State.enter_canWakeRate]; rfl
@[simp] theorem State.entered_canWakes (s : State) (f b k : Nat) (c : Cmd) (n : Nat) (x : CanRx) :
    (s.entered f b k c).canWakes n x = s.canWakes n x := by unfold State.entered; rw [State.enter_canWakes]; rfl
@[simp] theorem State.entered_canRaw (s : State) (f b k : Nat) (c : Cmd) (e : Nat) :
    (s.entered f b k c).canRaw e = s.canRaw e := by unfold State.entered; rw [State.enter_canRaw]; rfl
@[simp] theorem State.entered_canFields (s : State) (f b k : Nat) (c : Cmd) (bus obj : Nat) :
    (s.entered f b k c).canFields bus obj = s.canFields bus obj := by unfold State.entered; rw [State.enter_canFields]; rfl
@[simp] theorem State.entered_canData (s : State) (f b k : Nat) (c : Cmd) (bus obj len : Nat) :
    (s.entered f b k c).canData bus obj len = s.canData bus obj len := by unfold State.entered; rw [State.enter_canData]; rfl
@[simp] theorem State.entered_linBit (s : State) (f b k : Nat) (c : Cmd) (k' : Nat) :
    (s.entered f b k c).linBit k' = s.linBit k' := by unfold State.entered; rw [State.enter_linBit]; rfl
@[simp] theorem State.entered_canStatus (s : State) (f b k : Nat) (c : Cmd) :
    (s.entered f b k c).canStatus = s.canStatus := by unfold State.entered; rw [State.enter_canStatus]; rfl
@[simp] theorem State.entered_canForced (s : State) (f b k : Nat) (c : Cmd) (n : Nat) :
    (s.entered f b k c).canForced n = s.canForced n := by unfold State.entered; rw [State.enter_canForced]; rfl
@[simp] theorem State.entered_canCfgCheck (s : State) (f b k : Nat) (c : Cmd) (p : List Byte) :
    (s.entered f b k c).canCfgCheck p = s.canCfgCheck p := by unfold State.entered; rw [State.enter_canCfgCheck]; rfl
@[simp] theorem State.entered_canCtl (s : State) (f b k : Nat) (c : Cmd) (n : Nat) :
    (s.entered f b k c).canCtl n = s.canCtl n := by unfold State.entered; rw [State.enter_canCtl]; rfl
@[simp] theorem State.entered_canState (s : State) (f b k : Nat) (c : Cmd) (n : Nat) :
    (s.entered f b k c).canState n = s.canState n := by unfold State.entered; rw [State.enter_canState]; rfl
@[simp] theorem State.entered_cstW (s : State) (f b k : Nat) (c : Cmd) (a : Nat) :
    (s.entered f b k c).cstW a = s.cstW a := by unfold State.entered; rw [State.enter_cstW]; rfl
@[simp] theorem State.entered_cstF (s : State) (f b k : Nat) (c : Cmd) (a hi lo : Nat) :
    (s.entered f b k c).cstF a hi lo = s.cstF a hi lo := by unfold State.entered; rw [State.enter_cstF]; rfl
@[simp] theorem State.entered_cstN (s : State) (f b k : Nat) (c : Cmd) :
    (s.entered f b k c).cstN = s.cstN := by unfold State.entered; rw [State.enter_cstN]; rfl
@[simp] theorem State.entered_cstAmp (s : State) (f b k : Nat) (c : Cmd) (i : Nat) :
    (s.entered f b k c).cstAmp i = s.cstAmp i := by unfold State.entered; rw [State.enter_cstAmp]; rfl
@[simp] theorem State.entered_cstU (s : State) (f b k : Nat) (c : Cmd) (i : Nat) :
    (s.entered f b k c).cstU i = s.cstU i := by unfold State.entered; rw [State.enter_cstU]; rfl
@[simp] theorem State.entered_cstClip (s : State) (f b k : Nat) (c : Cmd) (i : Nat) (v : Int) :
    (s.entered f b k c).cstClip i v = s.cstClip i v := by unfold State.entered; rw [State.enter_cstClip]; rfl
@[simp] theorem State.entered_cstUsed (s : State) (f b k : Nat) (c : Cmd) (i : Nat) :
    (s.entered f b k c).cstUsed i = s.cstUsed i := by unfold State.entered; rw [State.enter_cstUsed]; rfl
@[simp] theorem State.entered_cstOvr (s : State) (f b k : Nat) (c : Cmd) (i : Nat) :
    (s.entered f b k c).cstOvr i = s.cstOvr i := by unfold State.entered; rw [State.enter_cstOvr]; rfl
@[simp] theorem State.entered_cstDith (s : State) (f b k : Nat) (c : Cmd) :
    (s.entered f b k c).cstDith = s.cstDith := by unfold State.entered; rw [State.enter_cstDith]; rfl
@[simp] theorem State.entered_cstActive (s : State) (f b k : Nat) (c : Cmd) :
    (s.entered f b k c).cstActive = s.cstActive := by unfold State.entered; rw [State.enter_cstActive]; rfl
@[simp] theorem State.entered_cstM (s : State) (f b k : Nat) (c : Cmd) (i : Nat) :
    (s.entered f b k c).cstM i = s.cstM i := by unfold State.entered; rw [State.enter_cstM]; rfl
@[simp] theorem State.entered_cstConflict (s : State) (f b k : Nat) (c : Cmd) :
    (s.entered f b k c).cstConflict = s.cstConflict := by unfold State.entered; rw [State.enter_cstConflict]; rfl
@[simp] theorem State.entered_cstDither (s : State) (f b k : Nat) (c : Cmd) (i k' : Nat) :
    (s.entered f b k c).cstDither i k' = s.cstDither i k' := by unfold State.entered; rw [State.enter_cstDither]; rfl
@[simp] theorem State.entered_cstHoldLen (s : State) (f b k : Nat) (c : Cmd) :
    (s.entered f b k c).cstHoldLen = s.cstHoldLen := by unfold State.entered; rw [State.enter_cstHoldLen]; rfl
@[simp] theorem State.entered_cstPhase (s : State) (f b k : Nat) (c : Cmd) :
    (s.entered f b k c).cstPhase = s.cstPhase := by unfold State.entered; rw [State.enter_cstPhase]; rfl
@[simp] theorem State.entered_cstFull (s : State) (f b k : Nat) (c : Cmd) :
    (s.entered f b k c).cstFull = s.cstFull := by unfold State.entered; rw [State.enter_cstFull]; rfl
@[simp] theorem State.entered_frzActive (s : State) (f b k : Nat) (c : Cmd) (f' : Nat) :
    (s.entered f b k c).frzActive f' = s.frzActive f' := by unfold State.entered; rw [State.enter_frzActive]; rfl
@[simp] theorem State.entered_cstTermInvalid (s : State) (f b k : Nat) (c : Cmd) :
    (s.entered f b k c).cstTermInvalid = s.cstTermInvalid := by unfold State.entered; rw [State.enter_cstTermInvalid]; rfl
@[simp] theorem State.entered_cstTicks (s : State) (f b k : Nat) (c : Cmd) :
    (s.entered f b k c).cstTicks = s.cstTicks := by unfold State.entered; rw [State.enter_cstTicks]; rfl
@[simp] theorem State.entered_cstStatus (s : State) (f b k : Nat) (c : Cmd) :
    (s.entered f b k c).cstStatus = s.cstStatus := by unfold State.entered; rw [State.enter_cstStatus]; rfl
@[simp] theorem State.entered_cstCfgCheck (s : State) (f b k : Nat) (c : Cmd) (p : List Byte) :
    (s.entered f b k c).cstCfgCheck p = s.cstCfgCheck p := by unfold State.entered; rw [State.enter_cstCfgCheck]; rfl
@[simp] theorem State.entered_fnBlocked (s : State) (f b k : Nat) (c : Cmd) (f' : Nat) :
    (s.entered f b k c).fnBlocked f' = s.fnBlocked f' := by unfold State.entered; rw [State.enter_fnBlocked]; rfl
@[simp] theorem State.entered_cfgBlocked (s : State) (f b k : Nat) (c : Cmd) (f' : Nat) (p : List Byte) :
    (s.entered f b k c).cfgBlocked f' p = s.cfgBlocked f' p := by unfold State.entered; rw [State.enter_cfgBlocked]; rfl
@[simp] theorem State.entered_sysStatus (s : State) (f b k : Nat) (c : Cmd) :
    (s.entered f b k c).sysStatus = s.sysStatus := by unfold State.entered; rw [State.enter_sysStatus]; rfl
@[simp] theorem State.entered_updStatus (s : State) (f b k : Nat) (c : Cmd) :
    (s.entered f b k c).updStatus = s.updStatus := by unfold State.entered; rw [State.enter_updStatus]; rfl
@[simp] theorem State.entered_commonStatus (s : State) (f b k : Nat) (c : Cmd) (f' : Nat) :
    (s.entered f b k c).commonStatus f' = s.commonStatus f' := by unfold State.entered; rw [State.enter_commonStatus]; rfl
@[simp] theorem State.entered_infoBytes (s : State) (f b k : Nat) (c : Cmd) (f' : Nat) :
    (s.entered f b k c).infoBytes f' = s.infoBytes f' := by unfold State.entered; rw [State.enter_infoBytes]; rfl
@[simp] theorem State.entered_cfgState (s : State) (f b k : Nat) (c : Cmd) (f' : Nat) :
    (s.entered f b k c).cfgState f' = s.cfgState f' := by unfold State.entered; rw [State.enter_cfgState]; rfl
@[simp] theorem State.entered_starts (s : State) (f b k : Nat) (c : Cmd) (f' : Nat) :
    (s.entered f b k c).starts f' = s.starts f' := by unfold State.entered; rw [State.enter_starts]; rfl
@[simp] theorem State.entered_ethPort (s : State) (f b k : Nat) (c : Cmd) (k' : Nat) :
    (s.entered f b k c).ethPort k' = s.ethPort k' := by unfold State.entered; rw [State.enter_ethPort]; rfl
@[simp] theorem State.entered_ethF (s : State) (f b k : Nat) (c : Cmd) (a : Nat) :
    (s.entered f b k c).ethF a = s.ethF a := by unfold State.entered; rw [State.enter_ethF]; rfl
@[simp] theorem State.entered_ethRate (s : State) (f b k : Nat) (c : Cmd) (k' : Nat) :
    (s.entered f b k c).ethRate k' = s.ethRate k' := by unfold State.entered; rw [State.enter_ethRate]; rfl
@[simp] theorem State.entered_ethTime (s : State) (f b k : Nat) (c : Cmd) (k' len : Nat) :
    (s.entered f b k c).ethTime k' len = s.ethTime k' len := by unfold State.entered; rw [State.enter_ethTime]; rfl
@[simp] theorem State.entered_gclPort (s : State) (f b k : Nat) (c : Cmd) :
    (s.entered f b k c).gclPort = s.gclPort := by unfold State.entered; rw [State.enter_gclPort]; rfl
@[simp] theorem State.entered_gclRead (s : State) (f b k : Nat) (c : Cmd) (a : Nat) :
    (s.entered f b k c).gclRead a = s.gclRead a := by unfold State.entered; rw [State.enter_gclRead]; rfl
@[simp] theorem State.entered_syncPeriod (s : State) (f b k : Nat) (c : Cmd) :
    (s.entered f b k c).syncPeriod = s.syncPeriod := by unfold State.entered; rw [State.enter_syncPeriod]; rfl
@[simp] theorem State.entered_clockClass (s : State) (f b k : Nat) (c : Cmd) :
    (s.entered f b k c).clockClass = s.clockClass := by unfold State.entered; rw [State.enter_clockClass]; rfl
@[simp] theorem State.entered_ethStatus (s : State) (f b k : Nat) (c : Cmd) :
    (s.entered f b k c).ethStatus = s.ethStatus := by unfold State.entered; rw [State.enter_ethStatus]; rfl
@[simp] theorem State.entered_ethTakes (s : State) (f b k : Nat) (c : Cmd) (k' : Nat) :
    (s.entered f b k c).ethTakes k' = s.ethTakes k' := by unfold State.entered; rw [State.enter_ethTakes]; rfl
@[simp] theorem State.entered_ethVlan (s : State) (f b k : Nat) (c : Cmd) (x : EthRx) :
    (s.entered f b k c).ethVlan x = s.ethVlan x := by unfold State.entered; rw [State.enter_ethVlan]; rfl
@[simp] theorem State.entered_ethFilter (s : State) (f b k : Nat) (c : Cmd) (x : EthRx) (vid : Nat) :
    (s.entered f b k c).ethFilter x vid = s.ethFilter x vid := by unfold State.entered; rw [State.enter_ethFilter]; rfl
@[simp] theorem State.entered_appHeld (s : State) (f b k : Nat) (c : Cmd) :
    (s.entered f b k c).appHeld = s.appHeld := by unfold State.entered; rw [State.enter_appHeld]; rfl
@[simp] theorem State.entered_ethForModule (s : State) (f b k : Nat) (c : Cmd) (x : EthRx) (vid : Nat) :
    (s.entered f b k c).ethForModule x vid = s.ethForModule x vid := by unfold State.entered; rw [State.enter_ethForModule]; rfl
@[simp] theorem State.entered_ethForIsland (s : State) (f b k : Nat) (c : Cmd) (x : EthRx) :
    (s.entered f b k c).ethForIsland x = s.ethForIsland x := by unfold State.entered; rw [State.enter_ethForIsland]; rfl
@[simp] theorem State.entered_ugCmp (s : State) (f b k : Nat) (c : Cmd) (g : Nat) :
    (s.entered f b k c).ugCmp g = s.ugCmp g := by unfold State.entered; rw [State.enter_ugCmp]; rfl
@[simp] theorem State.entered_ugHostMay (s : State) (f b k : Nat) (c : Cmd) (g : Nat) :
    (s.entered f b k c).ugHostMay g = s.ugHostMay g := by unfold State.entered; rw [State.enter_ugHostMay]; rfl
@[simp] theorem State.entered_locked (s : State) (f b k : Nat) (c : Cmd) (x : Nat) (r : RegRow) :
    (s.entered f b k c).locked x r = s.locked x r := by unfold State.entered; rw [State.enter_locked]; rfl
@[simp] theorem State.entered_busFailed (s : State) (f b k : Nat) (c : Cmd) (ini : Initiator) :
    (s.entered f b k c).busFailed ini = s.busFailed ini := by unfold State.entered; rw [State.enter_busFailed]; rfl
@[simp] theorem State.entered_fltCfg (s : State) (f b k : Nat) (c : Cmd) :
    (s.entered f b k c).fltCfg = s.fltCfg := by unfold State.entered; rw [State.enter_fltCfg]; rfl
@[simp] theorem State.entered_fltFlag (s : State) (f b k : Nat) (c : Cmd) (b' : Nat) :
    (s.entered f b k c).fltFlag b' = s.fltFlag b' := by unfold State.entered; rw [State.enter_fltFlag]; rfl
@[simp] theorem State.entered_fltUnit (s : State) (f b k : Nat) (c : Cmd) :
    (s.entered f b k c).fltUnit = s.fltUnit := by unfold State.entered; rw [State.enter_fltUnit]; rfl
@[simp] theorem State.entered_fltHop (s : State) (f b k : Nat) (c : Cmd) :
    (s.entered f b k c).fltHop = s.fltHop := by unfold State.entered; rw [State.enter_fltHop]; rfl
@[simp] theorem State.entered_fltEp (s : State) (f b k : Nat) (c : Cmd) (i : Nat) :
    (s.entered f b k c).fltEp i = s.fltEp i := by unfold State.entered; rw [State.enter_fltEp]; rfl
@[simp] theorem State.entered_fltNextEp (s : State) (f b k : Nat) (c : Cmd) (i : Nat) :
    (s.entered f b k c).fltNextEp i = s.fltNextEp i := by unfold State.entered; rw [State.enter_fltNextEp]; rfl
@[simp] theorem State.entered_fltRecord (s : State) (f b k : Nat) (c : Cmd) (epoch : Nat) :
    (s.entered f b k c).fltRecord epoch = s.fltRecord epoch := by unfold State.entered; rw [State.enter_fltRecord]; rfl
@[simp] theorem State.entered_fltFrom (s : State) (f b k : Nat) (c : Cmd) (p : FltPeer) :
    (s.entered f b k c).fltFrom p = s.fltFrom p := by unfold State.entered; rw [State.enter_fltFrom]; rfl
@[simp] theorem State.entered_fltDue (s : State) (f b k : Nat) (c : Cmd) (op : FltOpHdr) :
    (s.entered f b k c).fltDue op = s.fltDue op := by unfold State.entered; rw [State.enter_fltDue]; rfl
@[simp] theorem State.entered_fltCovered (s : State) (f b k : Nat) (c : Cmd) :
    (s.entered f b k c).fltCovered = s.fltCovered := by unfold State.entered; rw [State.enter_fltCovered]; rfl
@[simp] theorem State.entered_fltRdv (s : State) (f b k : Nat) (c : Cmd) :
    (s.entered f b k c).fltRdv = s.fltRdv := by unfold State.entered; rw [State.enter_fltRdv]; rfl
@[simp] theorem State.entered_fltAttached (s : State) (f b k : Nat) (c : Cmd) :
    (s.entered f b k c).fltAttached = s.fltAttached := by unfold State.entered; rw [State.enter_fltAttached]; rfl
@[simp] theorem State.entered_fltStatus (s : State) (f b k : Nat) (c : Cmd) :
    (s.entered f b k c).fltStatus = s.fltStatus := by unfold State.entered; rw [State.enter_fltStatus]; rfl
@[simp] theorem State.entered_faulted (s : State) (f b k : Nat) (c : Cmd) :
    (s.entered f b k c).faulted = s.faulted := by unfold State.entered; rw [State.enter_faulted]; rfl
@[simp] theorem State.entered_cfgCheck (s : State) (f b k : Nat) (c : Cmd) (f' : Nat) (p : List Byte) :
    (s.entered f b k c).cfgCheck f' p = s.cfgCheck f' p := by unfold State.entered; rw [State.enter_cfgCheck]; rfl
@[simp] theorem State.entered_astSrc (s : State) (f b k : Nat) (c : Cmd) (k' : Nat) :
    (s.entered f b k c).astSrc k' = s.astSrc k' := by unfold State.entered; rw [State.enter_astSrc]; rfl
@[simp] theorem State.entered_astW (s : State) (f b k : Nat) (c : Cmd) (a : Nat) :
    (s.entered f b k c).astW a = s.astW a := by unfold State.entered; rw [State.enter_astW]; rfl
@[simp] theorem State.entered_astF (s : State) (f b k : Nat) (c : Cmd) (a hi lo : Nat) :
    (s.entered f b k c).astF a hi lo = s.astF a hi lo := by unfold State.entered; rw [State.enter_astF]; rfl
@[simp] theorem State.entered_astRuns (s : State) (f b k : Nat) (c : Cmd) :
    (s.entered f b k c).astRuns = s.astRuns := by unfold State.entered; rw [State.enter_astRuns]; rfl
@[simp] theorem State.entered_astPeriod (s : State) (f b k : Nat) (c : Cmd) (k' : Nat) :
    (s.entered f b k c).astPeriod k' = s.astPeriod k' := by unfold State.entered; rw [State.enter_astPeriod]; rfl
@[simp] theorem State.entered_odoMotion (s : State) (f b k : Nat) (c : Cmd) (ta tb : Int) :
    (s.entered f b k c).odoMotion ta tb = s.odoMotion ta tb := by unfold State.entered; rw [State.enter_odoMotion]; rfl
@[simp] theorem State.entered_trackMotion (s : State) (f b k : Nat) (c : Cmd) (ta tb : Int) :
    (s.entered f b k c).trackMotion ta tb = s.trackMotion ta tb := by unfold State.entered; rw [State.enter_trackMotion]; rfl
@[simp] theorem State.entered_odoRates (s : State) (f b k : Nat) (c : Cmd) (t : Int) :
    (s.entered f b k c).odoRates t = s.odoRates t := by unfold State.entered; rw [State.enter_odoRates]; rfl
@[simp] theorem State.entered_egoInv (s : State) (f b k : Nat) (c : Cmd) (ta tb : Int) :
    (s.entered f b k c).egoInv ta tb = s.egoInv ta tb := by unfold State.entered; rw [State.enter_egoInv]; rfl
@[simp] theorem State.entered_astMount (s : State) (f b k : Nat) (c : Cmd) (k' : Nat) (d : AstDet) :
    (s.entered f b k c).astMount k' d = s.astMount k' d := by unfold State.entered; rw [State.enter_astMount]; rfl
@[simp] theorem State.entered_astTransform (s : State) (f b k : Nat) (c : Cmd) (l : AstList) (d : AstDet) :
    (s.entered f b k c).astTransform l d = s.astTransform l d := by unfold State.entered; rw [State.enter_astTransform]; rfl
@[simp] theorem State.entered_astEstimate (s : State) (f b k : Nat) (c : Cmd) (k' : Nat) (ds : List AstDet) :
    (s.entered f b k c).astEstimate k' ds = s.astEstimate k' ds := by unfold State.entered; rw [State.enter_astEstimate]; rfl
@[simp] theorem State.entered_astRaw (s : State) (f b k : Nat) (c : Cmd) (k' time : Nat) :
    (s.entered f b k c).astRaw k' time = s.astRaw k' time := by unfold State.entered; rw [State.enter_astRaw]; rfl
@[simp] theorem State.entered_astBound (s : State) (f b k : Nat) (c : Cmd) (x : AstRx) (k' : Nat) :
    (s.entered f b k c).astBound x k' = s.astBound x k' := by unfold State.entered; rw [State.enter_astBound]; rfl
@[simp] theorem State.entered_astMatch (s : State) (f b k : Nat) (c : Cmd) (x : AstRx) :
    (s.entered f b k c).astMatch x = s.astMatch x := by unfold State.entered; rw [State.enter_astMatch]; rfl
@[simp] theorem State.entered_astPredict (s : State) (f b k : Nat) (c : Cmd) (t : AstTrack) (tb : Int) :
    (s.entered f b k c).astPredict t tb = s.astPredict t tb := by unfold State.entered; rw [State.enter_astPredict]; rfl
@[simp] theorem State.entered_astGate (s : State) (f b k : Nat) (c : Cmd) (m : AstMeas) :
    (s.entered f b k c).astGate m = s.astGate m := by unfold State.entered; rw [State.enter_astGate]; rfl
@[simp] theorem State.entered_astCost (s : State) (f b k : Nat) (c : Cmd) (t : AstTrack) (m : AstMeas) :
    (s.entered f b k c).astCost t m = s.astCost t m := by unfold State.entered; rw [State.enter_astCost]; rfl
@[simp] theorem State.entered_astSolve (s : State) (f b k : Nat) (c : Cmd) (ms : List AstMeas) :
    (s.entered f b k c).astSolve ms = s.astSolve ms := by unfold State.entered; rw [State.enter_astSolve]; rfl
@[simp] theorem State.entered_astStatus (s : State) (f b k : Nat) (c : Cmd) :
    (s.entered f b k c).astStatus = s.astStatus := by unfold State.entered; rw [State.enter_astStatus]; rfl
@[simp] theorem State.entered_diState (s : State) (f b k : Nat) (c : Cmd) (n : Nat) :
    (s.entered f b k c).diState n = s.diState n := by unfold State.entered; rw [State.enter_diState]; rfl
@[simp] theorem State.entered_diBreak (s : State) (f b k : Nat) (c : Cmd) (n : Nat) :
    (s.entered f b k c).diBreak n = s.diBreak n := by unfold State.entered; rw [State.enter_diBreak]; rfl
@[simp] theorem State.entered_vfsMissing (s : State) (f b k : Nat) (c : Cmd) (g : Nat) :
    (s.entered f b k c).vfsMissing g = s.vfsMissing g := by unfold State.entered; rw [State.enter_vfsMissing]; rfl
@[simp] theorem State.entered_diDeb (s : State) (f b k : Nat) (c : Cmd) (n : Nat) :
    (s.entered f b k c).diDeb n = s.diDeb n := by unfold State.entered; rw [State.enter_diDeb]; rfl
@[simp] theorem State.entered_diReest (s : State) (f b k : Nat) (c : Cmd) (n stamp : Nat) :
    (s.entered f b k c).diReest n stamp = s.diReest n stamp := by unfold State.entered; rw [State.enter_diReest]; rfl
@[simp] theorem State.entered_diRead (s : State) (f b k : Nat) (c : Cmd) (n : Nat) (level : Bool) (ua : Nat) :
    (s.entered f b k c).diRead n level ua = s.diRead n level ua := by unfold State.entered; rw [State.enter_diRead]; rfl
@[simp] theorem State.entered_ain (s : State) (f b k : Nat) (c : Cmd) (n : Nat) :
    (s.entered f b k c).ain n = s.ain n := by unfold State.entered; rw [State.enter_ain]; rfl
@[simp] theorem State.entered_supOn (s : State) (f b k : Nat) (c : Cmd) (i : Nat) :
    (s.entered f b k c).supOn i = s.supOn i := by unfold State.entered; rw [State.enter_supOn]; rfl
@[simp] theorem State.entered_ainRef (s : State) (f b k : Nat) (c : Cmd) (n : Nat) :
    (s.entered f b k c).ainRef n = s.ainRef n := by unfold State.entered; rw [State.enter_ainRef]; rfl
@[simp] theorem State.entered_ainMode (s : State) (f b k : Nat) (c : Cmd) (n : Nat) :
    (s.entered f b k c).ainMode n = s.ainMode n := by unfold State.entered; rw [State.enter_ainMode]; rfl
@[simp] theorem State.entered_ainRefBad (s : State) (f b k : Nat) (c : Cmd) (n : Nat) :
    (s.entered f b k c).ainRefBad n = s.ainRefBad n := by unfold State.entered; rw [State.enter_ainRefBad]; rfl
@[simp] theorem State.entered_ainConds (s : State) (f b k : Nat) (c : Cmd) (n : Nat) (x : Int) :
    (s.entered f b k c).ainConds n x = s.ainConds n x := by unfold State.entered; rw [State.enter_ainConds]; rfl
@[simp] theorem State.entered_ainFltt (s : State) (f b k : Nat) (c : Cmd) (n : Nat) :
    (s.entered f b k c).ainFltt n = s.ainFltt n := by unfold State.entered; rw [State.enter_ainFltt]; rfl
@[simp] theorem State.entered_ainCode (s : State) (f b k : Nat) (c : Cmd) (n : Nat) :
    (s.entered f b k c).ainCode n = s.ainCode n := by unfold State.entered; rw [State.enter_ainCode]; rfl
@[simp] theorem State.entered_ainFrame (s : State) (f b k : Nat) (c : Cmd) :
    (s.entered f b k c).ainFrame = s.ainFrame := by unfold State.entered; rw [State.enter_ainFrame]; rfl
@[simp] theorem State.entered_ainDone (s : State) (f b k : Nat) (c : Cmd) (n : Nat) :
    (s.entered f b k c).ainDone n = s.ainDone n := by unfold State.entered; rw [State.enter_ainDone]; rfl
@[simp] theorem State.entered_quadOf (s : State) (f b k : Nat) (c : Cmd) (j : Nat) :
    (s.entered f b k c).quadOf j = s.quadOf j := by unfold State.entered; rw [State.enter_quadOf]; rfl
@[simp] theorem State.entered_spdVr (s : State) (f b k : Nat) (c : Cmd) (j : Nat) :
    (s.entered f b k c).spdVr j = s.spdVr j := by unfold State.entered; rw [State.enter_spdVr]; rfl
@[simp] theorem State.entered_supAllowed (s : State) (f b k : Nat) (c : Cmd) :
    (s.entered f b k c).supAllowed = s.supAllowed := by unfold State.entered; rw [State.enter_supAllowed]; rfl
@[simp] theorem State.entered_sntLim (s : State) (f b k : Nat) (c : Cmd) (ch : Nat) :
    (s.entered f b k c).sntLim ch = s.sntLim ch := by unfold State.entered; rw [State.enter_sntLim]; rfl
@[simp] theorem State.entered_dinStatus (s : State) (f b k : Nat) (c : Cmd) :
    (s.entered f b k c).dinStatus = s.dinStatus := by unfold State.entered; rw [State.enter_dinStatus]; rfl
@[simp] theorem State.entered_ainStatus (s : State) (f b k : Nat) (c : Cmd) :
    (s.entered f b k c).ainStatus = s.ainStatus := by unfold State.entered; rw [State.enter_ainStatus]; rfl
@[simp] theorem State.entered_sntStatus (s : State) (f b k : Nat) (c : Cmd) :
    (s.entered f b k c).sntStatus = s.sntStatus := by unfold State.entered; rw [State.enter_sntStatus]; rfl
@[simp] theorem State.entered_inputsOff (s : State) (f b k : Nat) (c : Cmd) :
    (s.entered f b k c).inputsOff = s.inputsOff := by unfold State.entered; rw [State.enter_inputsOff]; rfl
@[simp] theorem State.entered_sw (s : State) (f b k : Nat) (c : Cmd) (n : Nat) :
    (s.entered f b k c).sw n = s.sw n := by unfold State.entered; rw [State.enter_sw]; rfl
@[simp] theorem State.entered_grp (s : State) (f b k : Nat) (c : Cmd) (g : Nat) :
    (s.entered f b k c).grp g = s.grp g := by unfold State.entered; rw [State.enter_grp]; rfl
@[simp] theorem State.entered_pswMode (s : State) (f b k : Nat) (c : Cmd) (n : Nat) :
    (s.entered f b k c).pswMode n = s.pswMode n := by unfold State.entered; rw [State.enter_pswMode]; rfl
@[simp] theorem State.entered_pswSteady (s : State) (f b k : Nat) (c : Cmd) (n : Nat) :
    (s.entered f b k c).pswSteady n = s.pswSteady n := by unfold State.entered; rw [State.enter_pswSteady]; rfl
@[simp] theorem State.entered_pswInrush (s : State) (f b k : Nat) (c : Cmd) (n : Nat) :
    (s.entered f b k c).pswInrush n = s.pswInrush n := by unfold State.entered; rw [State.enter_pswInrush]; rfl
@[simp] theorem State.entered_pswInrT (s : State) (f b k : Nat) (c : Cmd) (n : Nat) :
    (s.entered f b k c).pswInrT n = s.pswInrT n := by unfold State.entered; rw [State.enter_pswInrT]; rfl
@[simp] theorem State.entered_grpEff (s : State) (f b k : Nat) (c : Cmd) (g : Nat) :
    (s.entered f b k c).grpEff g = s.grpEff g := by unfold State.entered; rw [State.enter_grpEff]; rfl
@[simp] theorem State.entered_grpUv (s : State) (f b k : Nat) (c : Cmd) (g : Nat) :
    (s.entered f b k c).grpUv g = s.grpUv g := by unfold State.entered; rw [State.enter_grpUv]; rfl
@[simp] theorem State.entered_pswState (s : State) (f b k : Nat) (c : Cmd) (n : Nat) :
    (s.entered f b k c).pswState n = s.pswState n := by unfold State.entered; rw [State.enter_pswState]; rfl
@[simp] theorem State.entered_pswNoSig (s : State) (f b k : Nat) (c : Cmd) (n : Nat) :
    (s.entered f b k c).pswNoSig n = s.pswNoSig n := by unfold State.entered; rw [State.enter_pswNoSig]; rfl
@[simp] theorem State.entered_pswFree (s : State) (f b k : Nat) (c : Cmd) (n : Nat) :
    (s.entered f b k c).pswFree n = s.pswFree n := by unfold State.entered; rw [State.enter_pswFree]; rfl
@[simp] theorem State.entered_pswDome (s : State) (f b k : Nat) (c : Cmd) :
    (s.entered f b k c).pswDome = s.pswDome := by unfold State.entered; rw [State.enter_pswDome]; rfl
@[simp] theorem State.entered_pswShare (s : State) (f b k : Nat) (c : Cmd) (n : Nat) :
    (s.entered f b k c).pswShare n = s.pswShare n := by unfold State.entered; rw [State.enter_pswShare]; rfl
@[simp] theorem State.entered_pswThreshold (s : State) (f b k : Nat) (c : Cmd) (n : Nat) :
    (s.entered f b k c).pswThreshold n = s.pswThreshold n := by unfold State.entered; rw [State.enter_pswThreshold]; rfl
@[simp] theorem State.entered_grpUvOnMv (s : State) (f b k : Nat) (c : Cmd) (g : Nat) :
    (s.entered f b k c).grpUvOnMv g = s.grpUvOnMv g := by unfold State.entered; rw [State.enter_grpUvOnMv]; rfl
@[simp] theorem State.entered_pswOlStep (s : State) (f b k : Nat) (c : Cmd) (n : Nat) :
    (s.entered f b k c).pswOlStep n = s.pswOlStep n := by unfold State.entered; rw [State.enter_pswOlStep]; rfl
@[simp] theorem State.entered_pswDriven (s : State) (f b k : Nat) (c : Cmd) (n : Nat) :
    (s.entered f b k c).pswDriven n = s.pswDriven n := by unfold State.entered; rw [State.enter_pswDriven]; rfl
@[simp] theorem State.entered_pswDestOff (s : State) (f b k : Nat) (c : Cmd) (n : Nat) :
    (s.entered f b k c).pswDestOff n = s.pswDestOff n := by unfold State.entered; rw [State.enter_pswDestOff]; rfl
@[simp] theorem State.entered_pswStatus (s : State) (f b k : Nat) (c : Cmd) :
    (s.entered f b k c).pswStatus = s.pswStatus := by unfold State.entered; rw [State.enter_pswStatus]; rfl
@[simp] theorem State.entered_pswCfgCheck (s : State) (f b k : Nat) (c : Cmd) (p : List Byte) :
    (s.entered f b k c).pswCfgCheck p = s.pswCfgCheck p := by unfold State.entered; rw [State.enter_pswCfgCheck]; rfl
@[simp] theorem State.entered_consValid (s : State) (f b k : Nat) (c : Cmd) (n : Nat) (v : Word) :
    (s.entered f b k c).consValid n v = s.consValid n v := by unfold State.entered; rw [State.enter_consValid]; rfl
@[simp] theorem State.entered_hostAt (s : State) (f b k : Nat) (c : Cmd) (n i : Nat) :
    (s.entered f b k c).hostAt n i = s.hostAt n i := by unfold State.entered; rw [State.enter_hostAt]; rfl
@[simp] theorem State.entered_unacked (s : State) (f b k : Nat) (c : Cmd) (n : Nat) :
    (s.entered f b k c).unacked n = s.unacked n := by unfold State.entered; rw [State.enter_unacked]; rfl
@[simp] theorem State.entered_srcBlocked (s : State) (f b k : Nat) (c : Cmd) (src : Nat) :
    (s.entered f b k c).srcBlocked src = s.srcBlocked src := by unfold State.entered; rw [State.enter_srcBlocked]; rfl
@[simp] theorem State.entered_keptOpen (s : State) (f b k : Nat) (c : Cmd) (ip port : Nat) (c' : Cmd) :
    (s.entered f b k c).keptOpen ip port c' = s.keptOpen ip port c' := by unfold State.entered; rw [State.enter_keptOpen]; rfl
@[simp] theorem State.entered_authOk (s : State) (f b k : Nat) (c : Cmd) (h : Challenge) (at_ : Nat) (mac : List Byte) :
    (s.entered f b k c).authOk h at_ mac = s.authOk h at_ mac := by unfold State.entered; rw [State.enter_authOk]; rfl
@[simp] theorem State.entered_slot (s : State) (f b k : Nat) (c : Cmd) (m : Nat) :
    (s.entered f b k c).slot m = s.slot m := by unfold State.entered; rw [State.enter_slot]; rfl
@[simp] theorem State.entered_merDoff (s : State) (f b k : Nat) (c : Cmd) (m : Nat) :
    (s.entered f b k c).merDoff m = s.merDoff m := by unfold State.entered; rw [State.enter_merDoff]; rfl
@[simp] theorem State.entered_merPar (s : State) (f b k : Nat) (c : Cmd) (m : Nat) :
    (s.entered f b k c).merPar m = s.merPar m := by unfold State.entered; rw [State.enter_merPar]; rfl
@[simp] theorem State.entered_merConflict (s : State) (f b k : Nat) (c : Cmd) :
    (s.entered f b k c).merConflict = s.merConflict := by unfold State.entered; rw [State.enter_merConflict]; rfl
@[simp] theorem State.entered_merStatus (s : State) (f b k : Nat) (c : Cmd) :
    (s.entered f b k c).merStatus = s.merStatus := by unfold State.entered; rw [State.enter_merStatus]; rfl
@[simp] theorem State.entered_merWord (s : State) (f b k : Nat) (c : Cmd) (p : List Byte) (m o : Nat) :
    (s.entered f b k c).merWord p m o = s.merWord p m o := by unfold State.entered; rw [State.enter_merWord]; rfl
@[simp] theorem State.entered_merCfgCheck (s : State) (f b k : Nat) (c : Cmd) (p : List Byte) :
    (s.entered f b k c).merCfgCheck p = s.merCfgCheck p := by unfold State.entered; rw [State.enter_merCfgCheck]; rfl
@[simp] theorem State.entered_rd (s : State) (f b k : Nat) (c : Cmd) (a : Nat) :
    (s.entered f b k c).rd a = s.rd a := by unfold State.entered; rw [State.enter_rd]; rfl
@[simp] theorem State.entered_fd (s : State) (f b k : Nat) (c : Cmd) (a hi lo : Nat) :
    (s.entered f b k c).fd a hi lo = s.fd a hi lo := by unfold State.entered; rw [State.enter_fd]; rfl
@[simp] theorem State.entered_bt (s : State) (f b k : Nat) (c : Cmd) (a b' : Nat) :
    (s.entered f b k c).bt a b' = s.bt a b' := by unfold State.entered; rw [State.enter_bt]; rfl
@[simp] theorem State.entered_rd64 (s : State) (f b k : Nat) (c : Cmd) (lo hi : Nat) :
    (s.entered f b k c).rd64 lo hi = s.rd64 lo hi := by unfold State.entered; rw [State.enter_rd64]; rfl
@[simp] theorem State.entered_shadowRd (s : State) (f b k : Nat) (c : Cmd) (a : Nat) :
    (s.entered f b k c).shadowRd a = s.shadowRd a := by unfold State.entered; rw [State.enter_shadowRd]; rfl
@[simp] theorem State.entered_tbReached (s : State) (f b k : Nat) (c : Cmd) (t : Nat) :
    (s.entered f b k c).tbReached t = s.tbReached t := by unfold State.entered; rw [State.enter_tbReached]; rfl
@[simp] theorem State.entered_tbPast (s : State) (f b k : Nat) (c : Cmd) (t d : Nat) :
    (s.entered f b k c).tbPast t d = s.tbPast t d := by unfold State.entered; rw [State.enter_tbPast]; rfl
@[simp] theorem State.entered_sig (s : State) (f b k : Nat) (c : Cmd) (n : Nat) :
    (s.entered f b k c).sig n = s.sig n := by unfold State.entered; rw [State.enter_sig]; rfl
@[simp] theorem State.entered_sigI (s : State) (f b k : Nat) (c : Cmd) (n : Nat) :
    (s.entered f b k c).sigI n = s.sigI n := by unfold State.entered; rw [State.enter_sigI]; rfl
@[simp] theorem State.entered_sigOk (s : State) (f b k : Nat) (c : Cmd) (n : Nat) :
    (s.entered f b k c).sigOk n = s.sigOk n := by unfold State.entered; rw [State.enter_sigOk]; rfl
@[simp] theorem State.entered_lat (s : State) (f b k : Nat) (c : Cmd) (n : Nat) :
    (s.entered f b k c).lat n = s.lat n := by unfold State.entered; rw [State.enter_lat]; rfl
@[simp] theorem State.entered_fn (s : State) (f b k : Nat) (c : Cmd) (f' : Nat) :
    (s.entered f b k c).fn f' = s.fn f' := by unfold State.entered; rw [State.enter_fn]; rfl
@[simp] theorem State.entered_isRunning (s : State) (f b k : Nat) (c : Cmd) (f' : Nat) :
    (s.entered f b k c).isRunning f' = s.isRunning f' := by unfold State.entered; rw [State.enter_isRunning]; rfl
@[simp] theorem State.entered_expert (s : State) (f b k : Nat) (c : Cmd) (f' : Nat) :
    (s.entered f b k c).expert f' = s.expert f' := by unfold State.entered; rw [State.enter_expert]; rfl
@[simp] theorem State.entered_dome (s : State) (f b k : Nat) (c : Cmd) :
    (s.entered f b k c).dome = s.dome := by unfold State.entered; rw [State.enter_dome]; rfl
@[simp] theorem State.entered_plant (s : State) (f b k : Nat) (c : Cmd) :
    (s.entered f b k c).plant = s.plant := by unfold State.entered; rw [State.enter_plant]; rfl
@[simp] theorem State.entered_sysProfile (s : State) (f b k : Nat) (c : Cmd) :
    (s.entered f b k c).sysProfile = s.sysProfile := by unfold State.entered; rw [State.enter_sysProfile]; rfl
@[simp] theorem State.entered_power (s : State) (f b k : Nat) (c : Cmd) :
    (s.entered f b k c).power = s.power := by unfold State.entered; rw [State.enter_power]; rfl
@[simp] theorem State.entered_fieldOn (s : State) (f b k : Nat) (c : Cmd) :
    (s.entered f b k c).fieldOn = s.fieldOn := by unfold State.entered; rw [State.enter_fieldOn]; rfl
@[simp] theorem State.entered_pairGate (s : State) (f b k : Nat) (c : Cmd) :
    (s.entered f b k c).pairGate = s.pairGate := by unfold State.entered; rw [State.enter_pairGate]; rfl
@[simp] theorem State.entered_pairHeld (s : State) (f b k : Nat) (c : Cmd) :
    (s.entered f b k c).pairHeld = s.pairHeld := by unfold State.entered; rw [State.enter_pairHeld]; rfl
@[simp] theorem State.entered_domainUp (s : State) (f b k : Nat) (c : Cmd) (d : Domain) :
    (s.entered f b k c).domainUp d = s.domainUp d := by unfold State.entered; rw [State.enter_domainUp]; rfl
@[simp] theorem State.entered_guardOf (s : State) (f b k : Nat) (c : Cmd) (ini : Initiator) (blk : Nat) :
    (s.entered f b k c).guardOf ini blk = s.guardOf ini blk := by unfold State.entered; rw [State.enter_guardOf]; rfl
@[simp] theorem State.entered_ringSize (s : State) (f b k : Nat) (c : Cmd) (n : Nat) :
    (s.entered f b k c).ringSize n = s.ringSize n := by unfold State.entered; rw [State.enter_ringSize]; rfl
@[simp] theorem State.entered_ringUsed (s : State) (f b k : Nat) (c : Cmd) (n : Nat) :
    (s.entered f b k c).ringUsed n = s.ringUsed n := by unfold State.entered; rw [State.enter_ringUsed]; rfl
@[simp] theorem State.entered_ringRoom (s : State) (f b k : Nat) (c : Cmd) (n : Nat) :
    (s.entered f b k c).ringRoom n = s.ringRoom n := by unfold State.entered; rw [State.enter_ringRoom]; rfl
@[simp] theorem State.entered_extPlace (s : State) (f b k : Nat) (c : Cmd) (k' len : Nat) :
    (s.entered f b k c).extPlace k' len = s.extPlace k' len := by unfold State.entered; rw [State.enter_extPlace]; rfl
@[simp] theorem State.entered_respRoom (s : State) (f b k : Nat) (c : Cmd) (q : Nat) (x : Slot) :
    (s.entered f b k c).respRoom q x = s.respRoom q x := by unfold State.entered; rw [State.enter_respRoom]; rfl
@[simp] theorem State.entered_aonTicks (s : State) (f b k : Nat) (c : Cmd) (d : Nat) :
    (s.entered f b k c).aonTicks d = s.aonTicks d := by unfold State.entered; rw [State.enter_aonTicks]; rfl
@[simp] theorem State.entered_evTime (s : State) (f b k : Nat) (c : Cmd) :
    (s.entered f b k c).evTime = s.evTime := by unfold State.entered; rw [State.enter_evTime]; rfl
@[simp] theorem State.entered_busy (s : State) (f b k : Nat) (c : Cmd) (f' : Nat) :
    (s.entered f b k c).busy f' = s.busy f' := by unfold State.entered; rw [State.enter_busy]; rfl
@[simp] theorem State.entered_freeRing (s : State) (f b k : Nat) (c : Cmd) :
    (s.entered f b k c).freeRing = s.freeRing := by unfold State.entered; rw [State.enter_freeRing]; rfl
@[simp] theorem State.entered_ring? (s : State) (f b k : Nat) (c : Cmd) (n : Nat) :
    (s.entered f b k c).ring? n = s.ring? n := by unfold State.entered; rw [State.enter_ring?]; rfl
@[simp] theorem State.entered_sramFits (s : State) (f b k : Nat) (c : Cmd) (more : List Nat) :
    (s.entered f b k c).sramFits more = s.sramFits more := by unfold State.entered; rw [State.enter_sramFits]; rfl
@[simp] theorem State.entered_domeUp (s : State) (f b k : Nat) (c : Cmd) :
    (s.entered f b k c).domeUp = s.domeUp := by unfold State.entered; rw [State.enter_domeUp]; rfl
@[simp] theorem State.entered_pairLink (s : State) (f b k : Nat) (c : Cmd) :
    (s.entered f b k c).pairLink = s.pairLink := by unfold State.entered; rw [State.enter_pairLink]; rfl
@[simp] theorem State.entered_within (s : State) (f b k : Nat) (c : Cmd) (t : Option Nat) (d : Nat) :
    (s.entered f b k c).within t d = s.within t d := by unfold State.entered; rw [State.enter_within]; rfl
@[simp] theorem State.entered_pairFree (s : State) (f b k : Nat) (c : Cmd) :
    (s.entered f b k c).pairFree = s.pairFree := by unfold State.entered; rw [State.enter_pairFree]; rfl
@[simp] theorem State.entered_pairAuth (s : State) (f b k : Nat) (c : Cmd) :
    (s.entered f b k c).pairAuth = s.pairAuth := by unfold State.entered; rw [State.enter_pairAuth]; rfl
@[simp] theorem State.entered_pairCfgCrc (s : State) (f b k : Nat) (c : Cmd) :
    (s.entered f b k c).pairCfgCrc = s.pairCfgCrc := by unfold State.entered; rw [State.enter_pairCfgCrc]; rfl
@[simp] theorem State.entered_pairYplPart (s : State) (f b k : Nat) (c : Cmd) :
    (s.entered f b k c).pairYplPart = s.pairYplPart := by unfold State.entered; rw [State.enter_pairYplPart]; rfl
@[simp] theorem State.entered_pairGather (s : State) (f b k : Nat) (c : Cmd) :
    (s.entered f b k c).pairGather = s.pairGather := by unfold State.entered; rw [State.enter_pairGather]; rfl
@[simp] theorem State.entered_pairFrame (s : State) (f b k : Nat) (c : Cmd) (kind term ans : Nat) :
    (s.entered f b k c).pairFrame kind term ans = s.pairFrame kind term ans := by unfold State.entered; rw [State.enter_pairFrame]; rfl
@[simp] theorem State.entered_pairKind (s : State) (f b k : Nat) (c : Cmd) :
    (s.entered f b k c).pairKind = s.pairKind := by unfold State.entered; rw [State.enter_pairKind]; rfl
@[simp] theorem State.entered_pairStatus (s : State) (f b k : Nat) (c : Cmd) (st : Word) :
    (s.entered f b k c).pairStatus st = s.pairStatus st := by unfold State.entered; rw [State.enter_pairStatus]; rfl
@[simp] theorem State.entered_pairLive (s : State) (f b k : Nat) (c : Cmd) :
    (s.entered f b k c).pairLive = s.pairLive := by unfold State.entered; rw [State.enter_pairLive]; rfl
@[simp] theorem State.entered_pnlState (s : State) (f b k : Nat) (c : Cmd) :
    (s.entered f b k c).pnlState = s.pnlState := by unfold State.entered; rw [State.enter_pnlState]; rfl
@[simp] theorem State.entered_pnlRect (s : State) (f b k : Nat) (c : Cmd) (q : Nat) :
    (s.entered f b k c).pnlRect q = s.pnlRect q := by unfold State.entered; rw [State.enter_pnlRect]; rfl
@[simp] theorem State.entered_pnlRuns (s : State) (f b k : Nat) (c : Cmd) :
    (s.entered f b k c).pnlRuns = s.pnlRuns := by unfold State.entered; rw [State.enter_pnlRuns]; rfl
@[simp] theorem State.entered_pnlMay (s : State) (f b k : Nat) (c : Cmd) :
    (s.entered f b k c).pnlMay = s.pnlMay := by unfold State.entered; rw [State.enter_pnlMay]; rfl
@[simp] theorem State.entered_togLine (s : State) (f b k : Nat) (c : Cmd) (t : PnlTog) (l : Nat) :
    (s.entered f b k c).togLine t l = s.togLine t l := by unfold State.entered; rw [State.enter_togLine]; rfl
@[simp] theorem State.entered_pnlGoOn (s : State) (f b k : Nat) (c : Cmd) :
    (s.entered f b k c).pnlGoOn = s.pnlGoOn := by unfold State.entered; rw [State.enter_pnlGoOn]; rfl
@[simp] theorem State.entered_pnlFbRead (s : State) (f b k : Nat) (c : Cmd) :
    (s.entered f b k c).pnlFbRead = s.pnlFbRead := by unfold State.entered; rw [State.enter_pnlFbRead]; rfl
@[simp] theorem State.entered_pnlIdle (s : State) (f b k : Nat) (c : Cmd) :
    (s.entered f b k c).pnlIdle = s.pnlIdle := by unfold State.entered; rw [State.enter_pnlIdle]; rfl
@[simp] theorem State.entered_pnlStatus (s : State) (f b k : Nat) (c : Cmd) :
    (s.entered f b k c).pnlStatus = s.pnlStatus := by unfold State.entered; rw [State.enter_pnlStatus]; rfl
@[simp] theorem State.entered_prmStatus (s : State) (f b k : Nat) (c : Cmd) :
    (s.entered f b k c).prmStatus = s.prmStatus := by unfold State.entered; rw [State.enter_prmStatus]; rfl
@[simp] theorem State.entered_posOn (s : State) (f b k : Nat) (c : Cmd) :
    (s.entered f b k c).posOn = s.posOn := by unfold State.entered; rw [State.enter_posOn]; rfl
@[simp] theorem State.entered_gpst (s : State) (f b k : Nat) (c : Cmd) :
    (s.entered f b k c).gpst = s.gpst := by unfold State.entered; rw [State.enter_gpst]; rfl
@[simp] theorem State.entered_gpsAt (s : State) (f b k : Nat) (c : Cmd) (tb : Nat) :
    (s.entered f b k c).gpsAt tb = s.gpsAt tb := by unfold State.entered; rw [State.enter_gpsAt]; rfl
@[simp] theorem State.entered_timeValid (s : State) (f b k : Nat) (c : Cmd) :
    (s.entered f b k c).timeValid = s.timeValid := by unfold State.entered; rw [State.enter_timeValid]; rfl
@[simp] theorem State.entered_posPeriod (s : State) (f b k : Nat) (c : Cmd) :
    (s.entered f b k c).posPeriod = s.posPeriod := by unfold State.entered; rw [State.enter_posPeriod]; rfl
@[simp] theorem State.entered_posUses (s : State) (f b k : Nat) (c : Cmd) (u : Nat × Nat) :
    (s.entered f b k c).posUses u = s.posUses u := by unfold State.entered; rw [State.enter_posUses]; rfl
@[simp] theorem State.entered_posSats (s : State) (f b k : Nat) (c : Cmd) (us : List (Nat × Nat)) :
    (s.entered f b k c).posSats us = s.posSats us := by unfold State.entered; rw [State.enter_posSats]; rfl
@[simp] theorem State.entered_posCorrOk (s : State) (f b k : Nat) (c : Cmd) (tb : Nat) :
    (s.entered f b k c).posCorrOk tb = s.posCorrOk tb := by unfold State.entered; rw [State.enter_posCorrOk]; rfl
@[simp] theorem State.entered_posQuality (s : State) (f b k : Nat) (c : Cmd) (tb : Nat) (x : PosSol) :
    (s.entered f b k c).posQuality tb x = s.posQuality tb x := by unfold State.entered; rw [State.enter_posQuality]; rfl
@[simp] theorem State.entered_posHeading (s : State) (f b k : Nat) (c : Cmd) (x : PosSol) :
    (s.entered f b k c).posHeading x = s.posHeading x := by unfold State.entered; rw [State.enter_posHeading]; rfl
@[simp] theorem State.entered_posOdo (s : State) (f b k : Nat) (c : Cmd) :
    (s.entered f b k c).posOdo = s.posOdo := by unfold State.entered; rw [State.enter_posOdo]; rfl
@[simp] theorem State.entered_aonCount (s : State) (f b k : Nat) (c : Cmd) :
    (s.entered f b k c).aonCount = s.aonCount := by unfold State.entered; rw [State.enter_aonCount]; rfl
@[simp] theorem State.entered_sentryBytes (s : State) (f b k : Nat) (c : Cmd) :
    (s.entered f b k c).sentryBytes = s.sentryBytes := by unfold State.entered; rw [State.enter_sentryBytes]; rfl
@[simp] theorem State.entered_posStatusBytes (s : State) (f b k : Nat) (c : Cmd) :
    (s.entered f b k c).posStatusBytes = s.posStatusBytes := by unfold State.entered; rw [State.enter_posStatusBytes]; rfl
@[simp] theorem State.entered_dipTh (s : State) (f b k : Nat) (c : Cmd) (i : Nat) :
    (s.entered f b k c).dipTh i = s.dipTh i := by unfold State.entered; rw [State.enter_dipTh]; rfl
@[simp] theorem State.entered_aonAbsent (s : State) (f b k : Nat) (c : Cmd) :
    (s.entered f b k c).aonAbsent = s.aonAbsent := by unfold State.entered; rw [State.enter_aonAbsent]; rfl
@[simp] theorem State.entered_timerDue (s : State) (f b k : Nat) (c : Cmd) :
    (s.entered f b k c).timerDue = s.timerDue := by unfold State.entered; rw [State.enter_timerDue]; rfl
@[simp] theorem State.entered_dinWakes (s : State) (f b k : Nat) (c : Cmd) (d : WakeIn) :
    (s.entered f b k c).dinWakes d = s.dinWakes d := by unfold State.entered; rw [State.enter_dinWakes]; rfl
@[simp] theorem State.entered_prmSectOk (s : State) (f b k : Nat) (c : Cmd) (e : PrmSect) :
    (s.entered f b k c).prmSectOk e = s.prmSectOk e := by unfold State.entered; rw [State.enter_prmSectOk]; rfl
@[simp] theorem State.entered_recClass (s : State) (f b k : Nat) (c : Cmd) (cls : Nat) :
    (s.entered f b k c).recClass cls = s.recClass cls := by unfold State.entered; rw [State.enter_recClass]; rfl
@[simp] theorem State.entered_recFaults (s : State) (f b k : Nat) (c : Cmd) :
    (s.entered f b k c).recFaults = s.recFaults := by unfold State.entered; rw [State.enter_recFaults]; rfl
@[simp] theorem State.entered_recOldest (s : State) (f b k : Nat) (c : Cmd) (sev : Nat) :
    (s.entered f b k c).recOldest sev = s.recOldest sev := by unfold State.entered; rw [State.enter_recOldest]; rfl
@[simp] theorem State.entered_recVictim (s : State) (f b k : Nat) (c : Cmd) (sev : Nat) :
    (s.entered f b k c).recVictim sev = s.recVictim sev := by unfold State.entered; rw [State.enter_recVictim]; rfl
@[simp] theorem State.entered_recStatus (s : State) (f b k : Nat) (c : Cmd) :
    (s.entered f b k c).recStatus = s.recStatus := by unfold State.entered; rw [State.enter_recStatus]; rfl
@[simp] theorem State.entered_latches (s : State) (f b k : Nat) (c : Cmd) (ini : Initiator) :
    (s.entered f b k c).latches ini = s.latches ini := by unfold State.entered; rw [State.enter_latches]; rfl
@[simp] theorem State.entered_si (s : State) (f b k : Nat) (c : Cmd) (i : Nat) :
    (s.entered f b k c).si i = s.si i := by unfold State.entered; rw [State.enter_si]; rfl
@[simp] theorem State.entered_mon (s : State) (f b k : Nat) (c : Cmd) (m : Nat) :
    (s.entered f b k c).mon m = s.mon m := by unfold State.entered; rw [State.enter_mon]; rfl
@[simp] theorem State.entered_so (s : State) (f b k : Nat) (c : Cmd) (n : Nat) :
    (s.entered f b k c).so n = s.so n := by unfold State.entered; rw [State.enter_so]; rfl
@[simp] theorem State.entered_conn (s : State) (f b k : Nat) (c : Cmd) (c' : Nat) :
    (s.entered f b k c).conn c' = s.conn c' := by unfold State.entered; rw [State.enter_conn]; rfl
@[simp] theorem State.entered_siChan (s : State) (f b k : Nat) (c : Cmd) (i : Nat) :
    (s.entered f b k c).siChan i = s.siChan i := by unfold State.entered; rw [State.enter_siChan]; rfl
@[simp] theorem State.entered_siActive (s : State) (f b k : Nat) (c : Cmd) (i : Nat) :
    (s.entered f b k c).siActive i = s.siActive i := by unfold State.entered; rw [State.enter_siActive]; rfl
@[simp] theorem State.entered_safV (s : State) (f b k : Nat) (c : Cmd) (m input : Nat) :
    (s.entered f b k c).safV m input = s.safV m input := by unfold State.entered; rw [State.enter_safV]; rfl
@[simp] theorem State.entered_monVA (s : State) (f b k : Nat) (c : Cmd) (m : Nat) :
    (s.entered f b k c).monVA m = s.monVA m := by unfold State.entered; rw [State.enter_monVA]; rfl
@[simp] theorem State.entered_monVB (s : State) (f b k : Nat) (c : Cmd) (m : Nat) :
    (s.entered f b k c).monVB m = s.monVB m := by unfold State.entered; rw [State.enter_monVB]; rfl
@[simp] theorem State.entered_monSpeed (s : State) (f b k : Nat) (c : Cmd) (m : Nat) :
    (s.entered f b k c).monSpeed m = s.monSpeed m := by unfold State.entered; rw [State.enter_monSpeed]; rfl
@[simp] theorem State.entered_monDiffers (s : State) (f b k : Nat) (c : Cmd) (m : Nat) :
    (s.entered f b k c).monDiffers m = s.monDiffers m := by unfold State.entered; rw [State.enter_monDiffers]; rfl
@[simp] theorem State.entered_safLatched (s : State) (f b k : Nat) (c : Cmd) (cause obj : Nat) :
    (s.entered f b k c).safLatched cause obj = s.safLatched cause obj := by unfold State.entered; rw [State.enter_safLatched]; rfl
@[simp] theorem State.entered_monStill (s : State) (f b k : Nat) (c : Cmd) (m : Nat) :
    (s.entered f b k c).monStill m = s.monStill m := by unfold State.entered; rw [State.enter_monStill]; rfl
@[simp] theorem State.entered_safStill (s : State) (f b k : Nat) (c : Cmd) :
    (s.entered f b k c).safStill = s.safStill := by unfold State.entered; rw [State.enter_safStill]; rfl
@[simp] theorem State.entered_safMons (s : State) (f b k : Nat) (c : Cmd) :
    (s.entered f b k c).safMons = s.safMons := by unfold State.entered; rw [State.enter_safMons]; rfl
@[simp] theorem State.entered_edmFree (s : State) (f b k : Nat) (c : Cmd) (n : Nat) :
    (s.entered f b k c).edmFree n = s.edmFree n := by unfold State.entered; rw [State.enter_edmFree]; rfl
@[simp] theorem State.entered_safLinesFor (s : State) (f b k : Nat) (c : Cmd) (st : Nat) :
    (s.entered f b k c).safLinesFor st = s.safLinesFor st := by unfold State.entered; rw [State.enter_safLinesFor]; rfl
@[simp] theorem State.entered_jspProduced (s : State) (f b k : Nat) (c : Cmd) :
    (s.entered f b k c).jspProduced = s.jspProduced := by unfold State.entered; rw [State.enter_jspProduced]; rfl
@[simp] theorem State.entered_tpRuns (s : State) (f b k : Nat) (c : Cmd) :
    (s.entered f b k c).tpRuns = s.tpRuns := by unfold State.entered; rw [State.enter_tpRuns]; rfl
@[simp] theorem State.entered_safTriggers (s : State) (f b k : Nat) (c : Cmd) :
    (s.entered f b k c).safTriggers = s.safTriggers := by unfold State.entered; rw [State.enter_safTriggers]; rfl
@[simp] theorem State.entered_safGone (s : State) (f b k : Nat) (c : Cmd) (f' : Nat × Nat) :
    (s.entered f b k c).safGone f' = s.safGone f' := by unfold State.entered; rw [State.enter_safGone]; rfl
@[simp] theorem State.entered_tpMasked (s : State) (f b k : Nat) (c : Cmd) (i : Nat) :
    (s.entered f b k c).tpMasked i = s.tpMasked i := by unfold State.entered; rw [State.enter_tpMasked]; rfl
@[simp] theorem State.entered_safAgrees (s : State) (f b k : Nat) (c : Cmd) :
    (s.entered f b k c).safAgrees = s.safAgrees := by unfold State.entered; rw [State.enter_safAgrees]; rfl
@[simp] theorem State.entered_safStatus (s : State) (f b k : Nat) (c : Cmd) :
    (s.entered f b k c).safStatus = s.safStatus := by unfold State.entered; rw [State.enter_safStatus]; rfl
@[simp] theorem State.entered_gptpValid (s : State) (f b k : Nat) (c : Cmd) (port : Nat) :
    (s.entered f b k c).gptpValid port = s.gptpValid port := by unfold State.entered; rw [State.enter_gptpValid]; rfl
@[simp] theorem State.entered_avtpTb (s : State) (f b k : Nat) (c : Cmd) (arrival ts : Nat) :
    (s.entered f b k c).avtpTb arrival ts = s.avtpTb arrival ts := by unfold State.entered; rw [State.enter_avtpTb]; rfl
@[simp] theorem State.entered_tch (s : State) (f b k : Nat) (c : Cmd) (n : Nat) :
    (s.entered f b k c).tch n = s.tch n := by unfold State.entered; rw [State.enter_tch]; rfl
@[simp] theorem State.entered_trnPathRuns (s : State) (f b k : Nat) (c : Cmd) (p : Nat) :
    (s.entered f b k c).trnPathRuns p = s.trnPathRuns p := by unfold State.entered; rw [State.enter_trnPathRuns]; rfl
@[simp] theorem State.entered_trnCan (s : State) (f b k : Nat) (c : Cmd) (w : Word) :
    (s.entered f b k c).trnCan w = s.trnCan w := by unfold State.entered; rw [State.enter_trnCan]; rfl
@[simp] theorem State.entered_trnMine (s : State) (f b k : Nat) (c : Cmd) (q : TrnReq) (n : Nat) :
    (s.entered f b k c).trnMine q n = s.trnMine q n := by unfold State.entered; rw [State.enter_trnMine]; rfl
@[simp] theorem State.entered_trnRate (s : State) (f b k : Nat) (c : Cmd) :
    (s.entered f b k c).trnRate = s.trnRate := by unfold State.entered; rw [State.enter_trnRate]; rfl
@[simp] theorem State.entered_trnDomeAid (s : State) (f b k : Nat) (c : Cmd) :
    (s.entered f b k c).trnDomeAid = s.trnDomeAid := by unfold State.entered; rw [State.enter_trnDomeAid]; rfl
@[simp] theorem State.entered_trnStatus (s : State) (f b k : Nat) (c : Cmd) :
    (s.entered f b k c).trnStatus = s.trnStatus := by unfold State.entered; rw [State.enter_trnStatus]; rfl
@[simp] theorem State.entered_updSafe (s : State) (f b k : Nat) (c : Cmd) :
    (s.entered f b k c).updSafe = s.updSafe := by unfold State.entered; rw [State.enter_updSafe]; rfl
@[simp] theorem State.entered_yplField (s : State) (f b k : Nat) (c : Cmd) :
    (s.entered f b k c).yplField = s.yplField := by unfold State.entered; rw [State.enter_yplField]; rfl
@[simp] theorem State.entered_yplW (s : State) (f b k : Nat) (c : Cmd) (a : Nat) :
    (s.entered f b k c).yplW a = s.yplW a := by unfold State.entered; rw [State.enter_yplW]; rfl
@[simp] theorem State.entered_yplF (s : State) (f b k : Nat) (c : Cmd) (a hi lo : Nat) :
    (s.entered f b k c).yplF a hi lo = s.yplF a hi lo := by unfold State.entered; rw [State.enter_yplF]; rfl
@[simp] theorem State.entered_yplDoneW (s : State) (f b k : Nat) (c : Cmd) (a : Nat) :
    (s.entered f b k c).yplDoneW a = s.yplDoneW a := by unfold State.entered; rw [State.enter_yplDoneW]; rfl
@[simp] theorem State.entered_yplDoneF (s : State) (f b k : Nat) (c : Cmd) (a hi lo : Nat) :
    (s.entered f b k c).yplDoneF a hi lo = s.yplDoneF a hi lo := by unfold State.entered; rw [State.enter_yplDoneF]; rfl
@[simp] theorem State.entered_yplCrop (s : State) (f b k : Nat) (c : Cmd) :
    (s.entered f b k c).yplCrop = s.yplCrop := by unfold State.entered; rw [State.enter_yplCrop]; rfl
@[simp] theorem State.entered_yplTaps (s : State) (f b k : Nat) (c : Cmd) :
    (s.entered f b k c).yplTaps = s.yplTaps := by unfold State.entered; rw [State.enter_yplTaps]; rfl
@[simp] theorem State.entered_yplWidth (s : State) (f b k : Nat) (c : Cmd) (p : YplPose) :
    (s.entered f b k c).yplWidth p = s.yplWidth p := by unfold State.entered; rw [State.enter_yplWidth]; rfl
@[simp] theorem State.entered_yplBar (s : State) (f b k : Nat) (c : Cmd) (f' : YplField) (w : Nat) (p : YplPose) :
    (s.entered f b k c).yplBar f' w p = s.yplBar f' w p := by unfold State.entered; rw [State.enter_yplBar]; rfl
@[simp] theorem State.entered_yplStrip (s : State) (f b k : Nat) (c : Cmd) (f' : YplField) (p q : YplPose) :
    (s.entered f b k c).yplStrip f' p q = s.yplStrip f' p q := by unfold State.entered; rw [State.enter_yplStrip]; rfl
@[simp] theorem State.entered_yplWorked (s : State) (f b k : Nat) (c : Cmd) :
    (s.entered f b k c).yplWorked = s.yplWorked := by unfold State.entered; rw [State.enter_yplWorked]; rfl
@[simp] theorem State.entered_yplWorkedMid (s : State) (f b k : Nat) (c : Cmd) :
    (s.entered f b k c).yplWorkedMid = s.yplWorkedMid := by unfold State.entered; rw [State.enter_yplWorkedMid]; rfl
@[simp] theorem State.entered_yplMayOpen (s : State) (f b k : Nat) (c : Cmd) :
    (s.entered f b k c).yplMayOpen = s.yplMayOpen := by unfold State.entered; rw [State.enter_yplMayOpen]; rfl
@[simp] theorem State.entered_yplFind (s : State) (f b k : Nat) (c : Cmd) (id : Nat) :
    (s.entered f b k c).yplFind id = s.yplFind id := by unfold State.entered; rw [State.enter_yplFind]; rfl
@[simp] theorem State.entered_yplStatus (s : State) (f b k : Nat) (c : Cmd) :
    (s.entered f b k c).yplStatus = s.yplStatus := by unfold State.entered; rw [State.enter_yplStatus]; rfl

end Sys2Proof.Machine
end

