-- ==== Sys2Proof/Laws/Bits.lean ====
section
/-!
SUPPORT. The laws of bit fields: what a bit or a field reads after a field was replaced.
-/
set_option Elab.async false
namespace Sys2Proof.Machine

/-- A bit of the word that holds a number. -/
theorem bit_word (n i : Nat) : bit (word n) i = (decide (i < 32) && n.testBit i) := by
  unfold bit word; exact BitVec.getLsbD_ofNat 32 n i

/-- A bit of a word one of whose fields was replaced. -/
theorem bit_setFld (w : Word) (hi lo v i : Nat) (h : i < 32) :
    bit (setFld w hi lo v) i = if lo ≤ i ∧ i ≤ hi then v.testBit (i - lo) else bit w i := by
  unfold setFld
  have hm : bit (word ((2 ^ (hi + 1 - lo) - 1) <<< lo)) i = decide (lo ≤ i ∧ i ≤ hi) := by
    rw [bit_word, Nat.testBit_shiftLeft, Nat.testBit_two_pow_sub_one]
    by_cases a : lo ≤ i
    · by_cases b : i ≤ hi
      · have : i - lo < hi + 1 - lo := by omega
        simp [a, b, h, this]
      · have : ¬ i - lo < hi + 1 - lo := by omega
        simp [b, this]
    · simp [a]
  have hv : bit (word (v <<< lo)) i = (decide (lo ≤ i) && v.testBit (i - lo)) := by
    rw [bit_word, Nat.testBit_shiftLeft]; simp [h]
  unfold bit at hm hv ⊢
  rw [BitVec.getLsbD_or, BitVec.getLsbD_and, BitVec.getLsbD_and, BitVec.getLsbD_not, hm, hv]
  by_cases c : lo ≤ i ∧ i ≤ hi
  · simp [c, h]
  · simp [c, h]

/-- A bit after it was set or cleared. -/
@[simp] theorem bit_setBit_same (w : Word) {b : Nat} (h : b < 32) (v : Bool) : bit (setBit w b v) b = v := by
  unfold setBit
  rw [bit_setFld _ _ _ _ _ h]
  cases v <;> simp

/-- A bit after another was set or cleared. -/
theorem bit_setBit_ne (w : Word) {b i : Nat} (h : i < 32) (hne : i ≠ b) (v : Bool) : bit (setBit w b v) i = bit w i := by
  unfold setBit
  rw [bit_setFld _ _ _ _ _ h, if_neg (by omega)]

/-- The bits of a field. -/
theorem fld_testBit (w : Word) (hi lo j : Nat) :
    (fld w hi lo).testBit j = (decide (j < hi + 1 - lo) && bit w (lo + j)) := by
  unfold fld bit
  rw [Nat.testBit_mod_two_pow, Nat.testBit_shiftRight, BitVec.getLsbD]

/-- A field after it was replaced. -/
theorem fld_setFld_same (w : Word) {hi lo : Nat} (h : hi < 32) (v : Nat) :
    fld (setFld w hi lo v) hi lo = v % 2 ^ (hi + 1 - lo) := by
  apply Nat.eq_of_testBit_eq
  intro j
  rw [fld_testBit, Nat.testBit_mod_two_pow]
  by_cases hj : j < hi + 1 - lo
  · rw [bit_setFld _ _ _ _ _ (by omega), if_pos (by omega)]
    simp
  · simp [hj]

/-- A field after another was replaced. -/
theorem fld_setFld_ne (w : Word) {hi lo hi' lo' : Nat} (h : hi < 32) (hd : hi < lo' ∨ hi' < lo) (v : Nat) :
    fld (setFld w hi' lo' v) hi lo = fld w hi lo := by
  apply Nat.eq_of_testBit_eq
  intro j
  rw [fld_testBit, fld_testBit]
  by_cases hj : j < hi + 1 - lo
  · rw [bit_setFld _ _ _ _ _ (by omega), if_neg (by omega)]
  · simp [hj]

/-- A bit after a field that does not hold it was replaced. -/
theorem bit_setFld_ne (w : Word) {hi lo i : Nat} (h : i < 32) (hd : i < lo ∨ hi < i) (v : Nat) :
    bit (setFld w hi lo v) i = bit w i := by
  rw [bit_setFld _ _ _ _ _ h, if_neg (by omega)]

/-- A field after a bit outside it was set or cleared. -/
theorem fld_setBit_ne (w : Word) {hi lo b : Nat} (h : hi < 32) (hd : b < lo ∨ hi < b) (v : Bool) :
    fld (setBit w b v) hi lo = fld w hi lo := fld_setFld_ne w h (by omega) _

end Sys2Proof.Machine
end

