-- ==== Sys2Proof/Laws/Fields.lean ====
section
/-!
SUPPORT. The laws of a register's bits and fields in State after another update.
-/
set_option Elab.async false
namespace Sys2Proof.Machine

/-- A bit of a register after it was set or cleared. -/
@[simp] theorem State.wb_bt_same (s : State) (a : Nat) {b : Nat} (h : b < 32) (v : Bool) : (s.wb a b v).bt a b = v := by
  unfold State.bt; rw [State.wb_rd, if_pos rfl, bit_setBit_same _ h]

/-- A bit of a register after another bit of it was set or cleared. -/
theorem State.wb_bt_ne (s : State) (a : Nat) {b i : Nat} (h : i < 32) (hne : i ≠ b) (v : Bool) :
    (s.wb a b v).bt a i = s.bt a i := by
  unfold State.bt; rw [State.wb_rd, if_pos rfl, bit_setBit_ne _ h hne]

/-- A bit of a register after another register was written. -/
theorem State.wb_bt_other (s : State) {a c : Nat} (hne : c ≠ a) (b i : Nat) (v : Bool) : (s.wb a b v).bt c i = s.bt c i := by
  unfold State.bt; rw [State.wb_rd, if_neg hne]

/-- A field of a register after it was replaced. -/
theorem State.wfSet_fd_same (s : State) (a : Nat) {hi lo : Nat} (h : hi < 32) (v : Nat) :
    (s.wf_ a hi lo v).fd a hi lo = v % 2 ^ (hi + 1 - lo) := by
  unfold State.fd; rw [State.wfSet_rd, if_pos rfl, fld_setFld_same _ h]

/-- A field of a register after another field of it was replaced. -/
theorem State.wfSet_fd_ne (s : State) (a : Nat) {hi lo hi' lo' : Nat} (h : hi < 32) (hd : hi < lo' ∨ hi' < lo) (v : Nat) :
    (s.wf_ a hi' lo' v).fd a hi lo = s.fd a hi lo := by
  unfold State.fd; rw [State.wfSet_rd, if_pos rfl, fld_setFld_ne _ h hd]

/-- A bit of a register after a field of it that does not hold the bit was replaced. -/
theorem State.wfSet_bt_ne (s : State) (a : Nat) {hi lo i : Nat} (h : i < 32) (hd : i < lo ∨ hi < i) (v : Nat) :
    (s.wf_ a hi lo v).bt a i = s.bt a i := by
  unfold State.bt; rw [State.wfSet_rd, if_pos rfl, bit_setFld_ne _ h hd]

/-- A field of a register after a bit outside it was set or cleared. -/
theorem State.wb_fd_ne (s : State) (a : Nat) {hi lo b : Nat} (h : hi < 32) (hd : b < lo ∨ hi < b) (v : Bool) :
    (s.wb a b v).fd a hi lo = s.fd a hi lo := by
  unfold State.fd; rw [State.wb_rd, if_pos rfl, fld_setBit_ne _ h hd]

end Sys2Proof.Machine
end

