-- ==== Sys2Proof/Laws/Complete.lean ====
section
/-!
SUPPORT. How a completion is shown: a command run within its footprint answers the finished state of its effect, and an accepted
mailbox command ends with what its body gives; and how the windows of a footprint are used.
-/
set_option Elab.async false
namespace Sys2Proof.Machine

/-- A command run within a footprint completes with what holds of the finished state of its effect. -/
theorem State.runIn_complete {F : Foot} {f : State → State} {s : State} {P : State → Prop}
    (h : P (F.finish s (f s.begun))) : ∃ t, s.runIn F f = .next t ∧ P t := ⟨_, rfl, h⟩

/-- A command that may reach the whole machine completes with what holds of the settled state of its effect. -/
theorem State.run_complete {f : State → State} {s : State} {P : State → Prop}
    (h : P (s.settle (f s.begun))) : ∃ t, s.run f = .next t ∧ P t := ⟨_, rfl, h⟩

/-- A command run within a footprint answers the finished state of what its effect leaves. -/
theorem State.runIn_next {F : Foot} {f : State → State} {s u : State} (h : f s.begun = u) :
    s.runIn F f = .next (F.finish s u) := by rw [State.runIn_eq, h]

/-- A command that may reach the whole machine answers the settled state of what its effect leaves. -/
theorem State.run_next {f : State → State} {s u : State} (h : f s.begun = u) : s.run f = .next (s.settle u) := by
  rw [← h]; rfl

/-- A command that may reset the device answers the settled state of what its effect leaves. -/
theorem State.runReset_next {f : State → State} {s u : State} (h : f s.begun = u) :
    s.runReset f = .next (s.resettle u) := by rw [← h]; rfl

/-- A command that acts at a boundary of the clocks answers the settled state of what its effect leaves. -/
theorem State.runAt_next {k : Clk} {f : State → State} {s u : State} (h : f { s.begun with clk := k } = u) :
    s.runAt k f = .next (s.settleAt k u) := by rw [← h]; rfl

/-- A register of the state settled after a command that may reset the device. -/
@[simp] theorem State.resettle_rd (s u : State) (a : Nat) : (s.resettle u).rd a = u.rd a := Regs.norm_get _ _

/-- A register of the state settled at a boundary of the clocks. -/
@[simp] theorem State.settleAt_rd (s u : State) (k : Clk) (a : Nat) : (s.settleAt k u).rd a = u.rd a := Regs.norm_get _ _

/-- A register of the settled state. -/
@[simp] theorem State.settle_rd (s u : State) (a : Nat) : (s.settle u).rd a = u.rd a := Regs.norm_get _ _

/-- A register of a window of the footprint lies inside the footprint. -/
theorem Foot.holds_win {F : Foot} {a : Nat} (w : Win) (hw : w ∈ F.wins) (h : w.1 ≤ a) (h' : a < w.1 + w.2) :
    F.holds a = true := by
  have : (F.wins.any fun w => w.has a) = true := by
    rw [List.any_eq_true]; exact ⟨w, hw, by simp [Win.has, h, h']⟩
  unfold Foot.holds; rw [this]; simp

/-- A register every footprint holds. -/
theorem Foot.holds_shared {F : Foot} {a : Nat} (h : Foot.shared.holds a = true) : F.holds a = true := by
  unfold Foot.holds at h ⊢
  simp only [Foot.shared, List.any_nil, Bool.or_false, Bool.false_and] at h
  rw [h]; simp

/-- A register outside the windows of the fabric, the mailbox and the recorder is not shared. -/
theorem Foot.shared_not {a : Nat} (h : ¬ (0xE0010000 ≤ a ∧ a < 0xE0030000)) (h' : ¬ (0xE0280000 ≤ a ∧ a < 0xE0290000)) :
    Foot.shared.holds a = false := by
  have h1 : Win.fab.has a = false := by
    cases e : Win.fab.has a
    · rfl
    · have e := Bool.and_eq_true_iff.1 e
      have a1 : 0xE0010000 ≤ a := of_decide_eq_true e.1
      have a2 : a < 0xE0010000 + 0x10000 := of_decide_eq_true e.2
      omega
  have h2 : Win.mbx.has a = false := by
    cases e : Win.mbx.has a
    · rfl
    · have e := Bool.and_eq_true_iff.1 e
      have a1 : 0xE0020000 ≤ a := of_decide_eq_true e.1
      have a2 : a < 0xE0020000 + 0x10000 := of_decide_eq_true e.2
      omega
  have h3 : Win.rec_.has a = false := by
    cases e : Win.rec_.has a
    · rfl
    · have e := Bool.and_eq_true_iff.1 e
      have a1 : 0xE0280000 ≤ a := of_decide_eq_true e.1
      have a2 : a < 0xE0280000 + 0x10000 := of_decide_eq_true e.2
      omega
  unfold Foot.holds
  rw [h1, h2, h3]; rfl

/-- An accepted command ends with what its body gives, begun with nothing sent. -/
theorem Accepted.command {f b role : Nat} {c : Cmd} {k : Nat} {s : State} (h : Accepted f b role c k s)
    (body : Nat → State → Reply × State) :
    s.begun.command f b role c body = State.respond k (256 * f + b) c (body k (s.entered f b k c)) :=
  State.command_accepted h.begun body

/-- An accepted command whose body answers OK. -/
theorem State.command_answersOK {F : Foot} {f b role : Nat} {c : Cmd} {k : Nat} {s : State}
    {body : Nat → State → Reply × State} {P : State → List Byte → Prop} {u : State} {p : List Byte}
    (h : Accepted f b role c k s) (hb : body k (s.entered f b k c) = (.now stOK p, u)) (hP : P u p) :
    AnswersOK F (256 * f + b) k c s (s.runIn F (fun s => s.command f b role c body)) P := by
  refine ⟨u, p, ?_, hP⟩
  rw [State.runIn_eq, State.command_accepted h.begun]
  change _ = _
  rw [show s.begun.enter f (256 * f + b) k c = s.entered f b k c from rfl, hb]
  rfl

/-- An accepted command whose body runs on. -/
theorem State.command_runsOn {F : Foot} {f b role : Nat} {c : Cmd} {k : Nat} {s : State}
    {body : Nat → State → Reply × State} {P : State → List Byte → Prop} {u : State} {p : List Byte}
    (h : Accepted f b role c k s) (hb : body k (s.entered f b k c) = (.later, u))
    (hr : { fn := f, opcode := 256 * f + b, cmd := c, since := s.clk.tb, progress := s.clk.tb, status := stOK,
            payload := p } ∈ u.mbx.running) (hP : P u p) :
    RunsOn F f (256 * f + b) k c s (s.runIn F (fun s => s.command f b role c body)) P := by
  refine ⟨u, p, ?_, hr, hP⟩
  rw [State.runIn_eq, State.command_accepted h.begun]
  change _ = _
  rw [show s.begun.enter f (256 * f + b) k c = s.entered f b k c from rfl, hb]
  rfl

/-- A data ring opens where its size is one the spec allows, a ring is free and the SRAM has room (R44). -/
theorem State.openRing_ok {s : State} {n log2 : Nat} (k f kind param : Nat) (transfer : Bool) (recs : List (List Byte))
    (h1 : 4 ≤ log2) (h2 : log2 ≤ 10) (h3 : s.freeRing = some n) (h4 : s.sramFits [log2] = true) :
    ∃ u, s.openRing k f kind param log2 transfer recs = .ok (n, u) := by
  unfold State.openRing
  rw [if_neg (by simp; omega), h3]
  simp only [h4, Bool.not_true, Bool.false_eq_true, if_false]
  exact ⟨_, rfl⟩

end Sys2Proof.Machine
end

