-- ==== Sys2Proof/Laws/Ends.lean ====
section
/-!
SUPPORT. For each command one lemma that says how it ends: within its footprint where it has one, else with a next state whose
queue, registers and clocks are as `Ran` says.
-/
set_option Elab.async false
namespace Sys2Proof.Machine

theorem execControlTick_ends (s : State) :
    Ran s [s.clk] (execControlTick s) ∨ ∃ tb rest, s.clk.due = tb :: rest ∧ Ran s [s.clk.tickNext tb rest] (execControlTick s) := by
  unfold execControlTick
  split
  · exact .inl (State.run_ran s _)
  · rename_i tb rest h
    exact .inr ⟨tb, rest, h, State.runAt_ran s _ _⟩

theorem execPairCycleBoundary_ends (m : Measure) (s : State) :
    Ran s [s.clk] (execPairCycleBoundary m s) ∨ ∃ tb rest, s.clk.due = tb :: rest ∧ Ran s [s.clk.tickNext tb rest] (execPairCycleBoundary m s) := by
  unfold execPairCycleBoundary
  split
  · exact .inl (State.run_ran s _)
  · rename_i tb rest h
    split
    · exact .inl (State.run_ran s _)
    · exact .inr ⟨tb, rest, h, State.runAt_ran s _ _⟩

theorem execSpeedZeroTimeout_ends (j : Nat) (s : State) : ∃ x_, execSpeedZeroTimeout j s = .next (Foot.finish Foot.inputs s x_) := by
  unfold execSpeedZeroTimeout; exact ⟨_, rfl⟩

theorem execRegisterWrite_ends (ini : Initiator) (addr : Nat) (bits : Nat) (v : BitVec 64) (s : State) : Ran s [s.clk] (execRegisterWrite ini addr bits v s) := by
  unfold execRegisterWrite; exact State.run_ran s _

theorem execBitAliasAccess_ends (ini : Initiator) (addr : Nat) (w : Option Word) (s : State) : Ran s [s.clk] (execBitAliasAccess ini addr w s) := by
  unfold execBitAliasAccess; exact State.run_ran s _

theorem execGuardFirstWrite_ends (ini : Initiator) (addr : Nat) (v : Word) (s : State) : Ran s [s.clk] (execGuardFirstWrite ini addr v s) := by
  unfold execGuardFirstWrite; exact State.run_ran s _

theorem execGuardCompanionWrite_ends (ini : Initiator) (addr : Nat) (v : Word) (s : State) : Ran s [s.clk] (execGuardCompanionWrite ini addr v s) := by
  unfold execGuardCompanionWrite; exact State.run_ran s _

theorem execGuardTimeout_ends (ini : Initiator) (blk : Nat) (s : State) : ∃ x_, execGuardTimeout ini blk s = .next (Foot.finish Foot.shared s x_) := by
  unfold execGuardTimeout; exact ⟨_, rfl⟩

theorem execStallWatchdog_ends (ini : Initiator) (addr : Nat) (isWrite : Bool) (s : State) : ∃ x_, execStallWatchdog ini addr isWrite s = .next (Foot.finish Foot.shared s x_) := by
  unfold execStallWatchdog; exact ⟨_, rfl⟩

theorem execFabSigHostWrite_ends (n : Nat) (v : Word) (s : State) : Ran s [s.clk] (execFabSigHostWrite n v s) := by
  unfold execFabSigHostWrite; exact State.run_ran s _

theorem execSigHostAgeExpiry_ends (n : Nat) (s : State) : ∃ x_, execSigHostAgeExpiry n s = .next (Foot.finish Foot.shared s x_) := by
  unfold execSigHostAgeExpiry; exact ⟨_, rfl⟩

theorem execTbNowLoRead_ends (ini : Initiator) (s : State) : ∃ x_, execTbNowLoRead ini s = .next (Foot.finish Foot.shared s x_) := by
  unfold execTbNowLoRead; exact ⟨_, rfl⟩

theorem execTbTickCountLoRead_ends (ini : Initiator) (s : State) : ∃ x_, execTbTickCountLoRead ini s = .next (Foot.finish Foot.shared s x_) := by
  unfold execTbTickCountLoRead; exact ⟨_, rfl⟩

theorem execUpdStrobeWrite_ends (ini : Initiator) (v : Word) (s : State) : Ran s [s.clk] (execUpdStrobeWrite ini v s) := by
  unfold execUpdStrobeWrite; exact State.run_ran s _

theorem execFabUgCfgWrite_ends (ini : Initiator) (g : Nat) (v : Word) (s : State) : Ran s [s.clk] (execFabUgCfgWrite ini g v s) := by
  unfold execFabUgCfgWrite; exact State.run_ran s _

theorem execUgTbcmpStrobe_ends (g : Nat) (s : State) : Ran s [s.clk] (execUgTbcmpStrobe g s) := by
  unfold execUgTbcmpStrobe; exact State.run_ran s _

theorem execGlobalSnapshot_ends (ini : Initiator) (v : Word) (s : State) : Ran s [s.clk] (execGlobalSnapshot ini v s) := by
  unfold execGlobalSnapshot; exact State.run_ran s _

theorem execSysBootlockWrite_ends (ini : Initiator) (v : Word) (s : State) : Ran s [s.clk] (execSysBootlockWrite ini v s) := by
  unfold execSysBootlockWrite; exact State.run_ran s _

theorem execMbxClaimRead_ends (ini : Initiator) (s : State) : ∃ x_, execMbxClaimRead ini s = .next (Foot.finish Foot.shared s x_) := by
  unfold execMbxClaimRead; exact ⟨_, rfl⟩

theorem execClaimReservationLapse_ends (k : Nat) (s : State) : ∃ x_, execClaimReservationLapse k s = .next (Foot.finish Foot.shared s x_) := by
  unfold execClaimReservationLapse; exact ⟨_, rfl⟩

theorem execBootstrapRingPlacement_ends (k : Nat) (s : State) : ∃ x_, execBootstrapRingPlacement k s = .next (Foot.finish Foot.shared s x_) := by
  unfold execBootstrapRingPlacement; exact ⟨_, rfl⟩

theorem execSessionRingPlacement_ends (k : Nat) (s : State) : ∃ x_, execSessionRingPlacement k s = .next (Foot.finish Foot.shared s x_) := by
  unfold execSessionRingPlacement; exact ⟨_, rfl⟩

theorem execMbxQProdWrite_ends (n : Nat) (v : Word) (slots : List HostSlot) (s : State) : ∃ x_, execMbxQProdWrite n v slots s = .next (Foot.finish Foot.shared s x_) := by
  unfold execMbxQProdWrite; exact ⟨_, rfl⟩

theorem execMbxQConsWrite_ends (n : Nat) (v : Word) (s : State) : ∃ x_, execMbxQConsWrite n v s = .next (Foot.finish Foot.shared s x_) := by
  unfold execMbxQConsWrite; exact ⟨_, rfl⟩

theorem execIrqHoldoffExpiry_ends (s : State) : ∃ x_, execIrqHoldoffExpiry s = .next (Foot.finish Foot.shared s x_) := by
  unfold execIrqHoldoffExpiry; exact ⟨_, rfl⟩

theorem execNotifHoldoffExpiry_ends (k : Nat) (cls : Nat) (s : State) : ∃ x_, execNotifHoldoffExpiry k cls s = .next (Foot.finish Foot.shared s x_) := by
  unfold execNotifHoldoffExpiry; exact ⟨_, rfl⟩

theorem execKmpDatagramRx_ends (ip : Nat) (port : Nat) (p : List Byte) (s : State) : ∃ x_, execKmpDatagramRx ip port p s = .next (Foot.finish (Foot.shared.and [] [.eth]) s x_) := by
  unfold execKmpDatagramRx; exact ⟨_, rfl⟩

theorem execIpv4ReassemblyTimeout_ends (ip : Nat) (ident : Nat) (s : State) : ∃ x_, execIpv4ReassemblyTimeout ip ident s = .next (Foot.finish Foot.shared s x_) := by
  unfold execIpv4ReassemblyTimeout; exact ⟨_, rfl⟩

theorem execUdpDataResend_ends (n : Nat) (s : State) : ∃ x_, execUdpDataResend n s = .next (Foot.finish Foot.shared s x_) := by
  unfold execUdpDataResend; exact ⟨_, rfl⟩

theorem execLinkOpenKeepExpiry_ends (ip : Nat) (port : Nat) (s : State) : ∃ x_, execLinkOpenKeepExpiry ip port s = .next (Foot.finish Foot.shared s x_) := by
  unfold execLinkOpenKeepExpiry; exact ⟨_, rfl⟩

theorem execAuthBlockExpiry_ends (src : Nat) (s : State) : ∃ x_, execAuthBlockExpiry src s = .next (Foot.finish Foot.shared s x_) := by
  unfold execAuthBlockExpiry; exact ⟨_, rfl⟩

theorem execSessionIdleTimeout_ends (k : Nat) (loop : Nat) (s : State) : Ran s [s.clk] (execSessionIdleTimeout k loop s) := by
  unfold execSessionIdleTimeout; exact State.run_ran s _

theorem execProgressNotify_ends (fn : Nat) (permille : Nat) (s : State) : ∃ x_, execProgressNotify fn permille s = .next (Foot.finish Foot.shared s x_) := by
  unfold execProgressNotify; exact ⟨_, rfl⟩

theorem execGetInfo_ends (fn : Nat) (c : Cmd) (s : State) : ∃ x_, execGetInfo fn c s = .next (Foot.finish Foot.upd s x_) := by
  unfold execGetInfo; exact ⟨_, rfl⟩

theorem execGetStatus_ends (fn : Nat) (c : Cmd) (s : State) : ∃ x_, execGetStatus fn c s = .next (Foot.finish Foot.upd s x_) := by
  unfold execGetStatus; exact ⟨_, rfl⟩

theorem execConfigure_ends (fn : Nat) (c : Cmd) (s : State) : ∃ x_, execConfigure fn c s = .next (Foot.finish Foot.upd s x_) := by
  unfold execConfigure; exact ⟨_, rfl⟩

theorem execApply_ends (fn : Nat) (c : Cmd) (s : State) : Ran s [s.clk] (execApply fn c s) := by
  unfold execApply; exact State.run_ran s _

theorem execStart_ends (fn : Nat) (c : Cmd) (s : State) : Ran s [s.clk] (execStart fn c s) := by
  unfold execStart; exact State.run_ran s _

theorem execStop_ends (fn : Nat) (c : Cmd) (s : State) : Ran s [s.clk] (execStop fn c s) := by
  unfold execStop; exact State.run_ran s _

theorem execReinit_ends (fn : Nat) (c : Cmd) (loop : Nat) (s : State) : Ran s [s.clk] (execReinit fn c loop s) := by
  unfold execReinit; exact State.run_ran s _

theorem execReinitComplete_ends (fn : Nat) (ok : Bool) (s : State) : Ran s [s.clk] (execReinitComplete fn ok s) := by
  unfold execReinitComplete; exact State.run_ran s _

theorem execSetExpert_ends (fn : Nat) (c : Cmd) (loop : Nat) (s : State) : Ran s [s.clk] (execSetExpert fn c loop s) := by
  unfold execSetExpert; exact State.run_ran s _

theorem execExpertTransfer_ends (fn : Nat) (s : State) : ∃ x_, execExpertTransfer fn s = .next (Foot.finish (Foot.shared.and [.pos] [.eth, .pos]) s x_) := by
  unfold execExpertTransfer; exact ⟨_, rfl⟩

theorem execLinkOpen_ends (c : Cmd) (s : State) : ∃ x_, execLinkOpen c s = .next (Foot.finish Foot.shared s x_) := by
  unfold execLinkOpen; exact ⟨_, rfl⟩

theorem execLinkAuth_ends (c : Cmd) (s : State) : ∃ x_, execLinkAuth c s = .next (Foot.finish Foot.shared s x_) := by
  unfold execLinkAuth; exact ⟨_, rfl⟩

theorem execLinkClose_ends (c : Cmd) (loop : Nat) (s : State) : Ran s [s.clk] (execLinkClose c loop s) := by
  unfold execLinkClose; exact State.run_ran s _

theorem execLinkPing_ends (c : Cmd) (s : State) : ∃ x_, execLinkPing c s = .next (Foot.finish Foot.shared s x_) := by
  unfold execLinkPing; exact ⟨_, rfl⟩

theorem execLinkSubscribe_ends (c : Cmd) (s : State) : ∃ x_, execLinkSubscribe c s = .next (Foot.finish Foot.shared s x_) := by
  unfold execLinkSubscribe; exact ⟨_, rfl⟩

theorem execLinkDataAck_ends (c : Cmd) (s : State) : ∃ x_, execLinkDataAck c s = .next (Foot.finish Foot.shared s x_) := by
  unfold execLinkDataAck; exact ⟨_, rfl⟩

theorem execLinkKeySet_ends (c : Cmd) (s : State) : ∃ x_, execLinkKeySet c s = .next (Foot.finish (Foot.shared.and [.prm] [.prm]) s x_) := by
  unfold execLinkKeySet; exact ⟨_, rfl⟩

theorem execSupplyDipBegin_ends (i : Nat) (mv : Nat) (s : State) : ∃ x_, execSupplyDipBegin i mv s = .next (Foot.finish Foot.pwr s x_) := by
  unfold execSupplyDipBegin; exact ⟨_, rfl⟩

theorem execSupplyDipEnd_ends (i : Nat) (mv : Nat) (s : State) : ∃ x_, execSupplyDipEnd i mv s = .next (Foot.finish Foot.pwr s x_) := by
  unfold execSupplyDipEnd; exact ⟨_, rfl⟩

theorem execVrstShed_ends (mv : Nat) (s : State) : ∃ x_, execVrstShed mv s = .next (Foot.finish (Foot.pwr.and [.adr, .cam, .gptp, .pair, .prm, .psw, .saf] [.adb, .adr, .ain, .cam, .eth, .prm, .psw]) s x_) := by
  unfold execVrstShed; exact ⟨_, rfl⟩

theorem execVbatRiseVrst_ends (mv : Nat) (s : State) : Ran s [s.clk, s.clk.stop] (execVbatRiseVrst mv s) := by
  unfold execVbatRiseVrst; exact State.runReset_ran s _

theorem execHoldupRecovered_ends (s : State) : Ran s [s.clk, s.clk.stop] (execHoldupRecovered s) := by
  unfold execHoldupRecovered; exact State.runReset_ran s _

theorem execHoldupExpiry_ends (s : State) : Ran s [s.clk, s.clk.stop] (execHoldupExpiry s) := by
  unfold execHoldupExpiry; exact State.runReset_ran s _

theorem execOvervoltageShed_ends (mv : Nat) (s : State) : ∃ x_, execOvervoltageShed mv s = .next (Foot.finish (Foot.pwr.and [.adr, .cam, .gptp, .psw, .saf] [.adb, .adr, .ain, .cam, .eth, .psw]) s x_) := by
  unfold execOvervoltageShed; exact ⟨_, rfl⟩

theorem execOvervoltageRecover_ends (mv : Nat) (s : State) : ∃ x_, execOvervoltageRecover mv s = .next (Foot.finish (Foot.pwr.and [.adr, .cam, .psw, .saf] [.adb, .adr, .ain, .psw]) s x_) := by
  unfold execOvervoltageRecover; exact ⟨_, rfl⟩

theorem execPswGroupOvervoltage_ends (g : Nat) (mv : Nat) (s : State) : ∃ x_, execPswGroupOvervoltage g mv s = .next (Foot.finish (Foot.psw.and [.pwr] []) s x_) := by
  unfold execPswGroupOvervoltage; exact ⟨_, rfl⟩

theorem execClockLoss_ends (tcxo : Bool) (s : State) : Ran s [s.clk] (execClockLoss tcxo s) ∨ Ran s [{ s.clk with lost := true }] (execClockLoss tcxo s) := by
  unfold execClockLoss
  split
  · exact .inl (State.run_ran s _)
  · exact .inr (State.runAt_ran s _ _)

theorem execXtal32Fail_ends (s : State) : ∃ x_, execXtal32Fail s = .next (Foot.finish Foot.pwr s x_) := by
  unfold execXtal32Fail; exact ⟨_, rfl⟩

theorem execTempThreshold_ends (i : Nat) (t : Int) (s : State) : ∃ x_, execTempThreshold i t s = .next (Foot.finish (Foot.pwr.and [.adr, .vxa] [.adb]) s x_) := by
  unfold execTempThreshold; exact ⟨_, rfl⟩

theorem execKeyOff_ends (s : State) : ∃ x_, execKeyOff s = .next (Foot.finish Foot.pwr s x_) := by
  unfold execKeyOff; exact ⟨_, rfl⟩

theorem execKeyOn_ends (s : State) : Ran s [s.clk, s.clk.stop] (execKeyOn s) := by
  unfold execKeyOn; exact State.runReset_ran s _

theorem execKeyoffShutdown_ends (loop : Nat) (s : State) : Ran s [s.clk] (execKeyoffShutdown loop s) := by
  unfold execKeyoffShutdown; exact State.run_ran s _

theorem execKeyoffFinal_ends (susp : Bool) (s : State) : Ran s [s.clk, s.clk.stop] (execKeyoffFinal susp s) := by
  unfold execKeyoffFinal; exact State.runReset_ran s _

theorem execKeepAwakeExpiry_ends (k : Nat) (s : State) : ∃ x_, execKeepAwakeExpiry k s = .next (Foot.finish Foot.pwr s x_) := by
  unfold execKeepAwakeExpiry; exact ⟨_, rfl⟩

theorem execStandbyTimeout_ends (loop : Nat) (s : State) : Ran s [s.clk, s.clk.stop] (execStandbyTimeout loop s) := by
  unfold execStandbyTimeout; exact State.runReset_ran s _

theorem execSentryAonLow_ends (mv : Nat) (since : Nat) (s : State) : ∃ x_, execSentryAonLow mv since s = .next (Foot.finish (Foot.pwr.and [.pos] []) s x_) := by
  unfold execSentryAonLow; exact ⟨_, rfl⟩

theorem execPowerOffHoldEnd_ends (s : State) : Ran s [s.clk, s.clk.stop] (execPowerOffHoldEnd s) := by
  unfold execPowerOffHoldEnd; exact State.runReset_ran s _

theorem execWake_ends (w : WakeIn) (s : State) : Ran s [s.clk, s.clk.stop] (execWake w s) := by
  unfold execWake; exact State.runReset_ran s _

theorem execCounterMirrorWrite_ends (s : State) : ∃ x_, execCounterMirrorWrite s = .next (Foot.finish (Foot.pwr.and [.prm] [.prm]) s x_) := by
  unfold execCounterMirrorWrite; exact ⟨_, rfl⟩

theorem execPowerOnReset_ends (s : State) : Ran s [s.clk, s.clk.stop] (execPowerOnReset s) := by
  unfold execPowerOnReset; exact State.runReset_ran s _

theorem execBrownOutReset_ends (s : State) : Ran s [s.clk, s.clk.stop] (execBrownOutReset s) := by
  unfold execBrownOutReset; exact State.runReset_ran s _

theorem execPinReset_ends (us : Nat) (s : State) : Ran s [s.clk, s.clk.stop] (execPinReset us s) := by
  unfold execPinReset; exact State.runReset_ran s _

theorem execWatchdogReset_ends (s : State) : Ran s [s.clk, s.clk.stop] (execWatchdogReset s) := by
  unfold execWatchdogReset; exact State.runReset_ran s _

theorem execDeviceReset_ends (s : State) : Ran s [s.clk, s.clk.stop] (execDeviceReset s) := by
  unfold execDeviceReset; exact State.runReset_ran s _

theorem execContainerVerified_ends (ok : Bool) (s : State) : ∃ x_, execContainerVerified ok s = .next (Foot.finish (Foot.pwr.and [.adr, .eth, .psw, .saf, .upd] [.adb, .adr, .psw]) s x_) := by
  unfold execContainerVerified; exact ⟨_, rfl⟩

theorem execInitComplete_ends (subOk : Nat) (loop : Nat) (s : State) : Ran s [s.clk] (execInitComplete subOk loop s) := by
  unfold execInitComplete; exact State.run_ran s _

theorem execFunctionFault_ends (fn : Nat) (s : State) : Ran s [s.clk] (execFunctionFault fn s) := by
  unfold execFunctionFault; exact State.run_ran s _

theorem execSysStart_ends (c : Cmd) (s : State) : Ran s [s.clk] (execSysStart c s) := by
  unfold execSysStart; exact State.run_ran s _

theorem execSysStop_ends (c : Cmd) (s : State) : Ran s [s.clk] (execSysStop c s) := by
  unfold execSysStop; exact State.run_ran s _

theorem execSysDeviceReset_ends (c : Cmd) (s : State) : ∃ x_, execSysDeviceReset c s = .next (Foot.finish Foot.pwr s x_) := by
  unfold execSysDeviceReset; exact ⟨_, rfl⟩

theorem execSysPowerCycle_ends (c : Cmd) (s : State) : ∃ x_, execSysPowerCycle c s = .next (Foot.finish Foot.pwr s x_) := by
  unfold execSysPowerCycle; exact ⟨_, rfl⟩

theorem execSysKeepAwake_ends (c : Cmd) (s : State) : ∃ x_, execSysKeepAwake c s = .next (Foot.finish Foot.pwr s x_) := by
  unfold execSysKeepAwake; exact ⟨_, rfl⟩

theorem execSysShutdownNow_ends (c : Cmd) (s : State) : Ran s [s.clk] (execSysShutdownNow c s) := by
  unfold execSysShutdownNow; exact State.run_ran s _

theorem execDiEdge_ends (n : Nat) (level : Bool) (ua : Sample) (s : State) : ∃ x_, execDiEdge n level ua s = .next (Foot.finish Foot.inputs s x_) := by
  unfold execDiEdge; exact ⟨_, rfl⟩

theorem execDinFifoHiRead_ends (ini : Initiator) (s : State) : ∃ x_, execDinFifoHiRead ini s = .next (Foot.finish Foot.inputs s x_) := by
  unfold execDinFifoHiRead; exact ⟨_, rfl⟩

theorem execDiWireBreak_ends (n : Nat) (ua : Sample) (s : State) : ∃ x_, execDiWireBreak n ua s = .next (Foot.finish Foot.inputs s x_) := by
  unfold execDiWireBreak; exact ⟨_, rfl⟩

theorem execDiBreakClear_ends (ua : Reading) (s : State) : ∃ x_, execDiBreakClear ua s = .next (Foot.finish Foot.inputs s x_) := by
  unfold execDiBreakClear; exact ⟨_, rfl⟩

theorem execFieldSupplyChange_ends (g : Nat) (mv : Nat) (s : State) : ∃ x_, execFieldSupplyChange g mv s = .next (Foot.finish Foot.inputs s x_) := by
  unfold execFieldSupplyChange; exact ⟨_, rfl⟩

theorem execDinReadEdges_ends (c : Cmd) (s : State) : ∃ x_, execDinReadEdges c s = .next (Foot.finish Foot.inputs s x_) := by
  unfold execDinReadEdges; exact ⟨_, rfl⟩

theorem execAinFaultEnter_ends (kind : Nat) (n : Nat) (on : Bool) (s : State) : ∃ x_, execAinFaultEnter kind n on s = .next (Foot.finish Foot.inputs s x_) := by
  unfold execAinFaultEnter; exact ⟨_, rfl⟩

theorem execAin4maTrip_ends (n : Nat) (s : State) : ∃ x_, execAin4maTrip n s = .next (Foot.finish Foot.inputs s x_) := by
  unfold execAin4maTrip; exact ⟨_, rfl⟩

theorem execAin4maReconnect_ends (n : Nat) (s : State) : ∃ x_, execAin4maReconnect n s = .next (Foot.finish Foot.inputs s x_) := by
  unfold execAin4maReconnect; exact ⟨_, rfl⟩

theorem execSupplyTrip_ends (i : Nat) (s : State) : ∃ x_, execSupplyTrip i s = .next (Foot.finish Foot.inputs s x_) := by
  unfold execSupplyTrip; exact ⟨_, rfl⟩

theorem execSupplyRetry_ends (i : Nat) (s : State) : ∃ x_, execSupplyRetry i s = .next (Foot.finish Foot.inputs s x_) := by
  unfold execSupplyRetry; exact ⟨_, rfl⟩

theorem execSupplyTripCountReset_ends (i : Nat) (s : State) : ∃ x_, execSupplyTripCountReset i s = .next (Foot.finish Foot.inputs s x_) := by
  unfold execSupplyTripCountReset; exact ⟨_, rfl⟩

theorem execAinSupRestartWrite_ends (ini : Initiator) (v : Word) (s : State) : ∃ x_, execAinSupRestartWrite ini v s = .next (Foot.finish Foot.inputs s x_) := by
  unfold execAinSupRestartWrite; exact ⟨_, rfl⟩

theorem execAinSupRestart_ends (c : Cmd) (s : State) : ∃ x_, execAinSupRestart c s = .next (Foot.finish Foot.inputs s x_) := by
  unfold execAinSupRestart; exact ⟨_, rfl⟩

theorem execAinBridgeTare_ends (c : Cmd) (s : State) : ∃ x_, execAinBridgeTare c s = .next (Foot.finish Foot.inputs s x_) := by
  unfold execAinBridgeTare; exact ⟨_, rfl⟩

theorem execAcuWindowEnd_ends (s : State) : ∃ x_, execAcuWindowEnd s = .next (Foot.finish Foot.inputs s x_) := by
  unfold execAcuWindowEnd; exact ⟨_, rfl⟩

theorem execSentFrame_ends (ch : Nat) (f : SentRx) (s : State) : ∃ x_, execSentFrame ch f s = .next (Foot.finish Foot.inputs s x_) := by
  unfold execSentFrame; exact ⟨_, rfl⟩

theorem execSentTimeout_ends (ch : Nat) (s : State) : ∃ x_, execSentTimeout ch s = .next (Foot.finish Foot.inputs s x_) := by
  unfold execSentTimeout; exact ⟨_, rfl⟩

theorem execSentSlowMessage_ends (ch : Nat) (id : Nat) (ty : Nat) (data : Nat) (crc : Nat) (s : State) : ∃ x_, execSentSlowMessage ch id ty data crc s = .next (Foot.finish Foot.inputs s x_) := by
  unfold execSentSlowMessage; exact ⟨_, rfl⟩

theorem execSntSlowTable_ends (c : Cmd) (s : State) : ∃ x_, execSntSlowTable c s = .next (Foot.finish Foot.inputs s x_) := by
  unfold execSntSlowTable; exact ⟨_, rfl⟩

theorem execCstSample_ends (s : State) : ∃ x_, execCstSample s = .next (Foot.finish (Foot.cst.and [.pos, .shadow] [.mer]) s x_) := by
  unfold execCstSample; exact ⟨_, rfl⟩

theorem execCstHoldEnd_ends (s : State) : ∃ x_, execCstHoldEnd s = .next (Foot.finish (Foot.cst.and [.pos] []) s x_) := by
  unfold execCstHoldEnd; exact ⟨_, rfl⟩

theorem execCstBlockEnd_ends (s : State) : ∃ x_, execCstBlockEnd s = .next (Foot.finish (Foot.cst.and [.pos] []) s x_) := by
  unfold execCstBlockEnd; exact ⟨_, rfl⟩

theorem execCstLptSample_ends (s : State) : ∃ x_, execCstLptSample s = .next (Foot.finish Foot.cst s x_) := by
  unfold execCstLptSample; exact ⟨_, rfl⟩

theorem execCstOvrWrite_ends (ini : Initiator) (v : Word) (s : State) : ∃ x_, execCstOvrWrite ini v s = .next (Foot.finish (Foot.cst.and [.pos] []) s x_) := by
  unfold execCstOvrWrite; exact ⟨_, rfl⟩

theorem execCstSetMode_ends (c : Cmd) (s : State) : ∃ x_, execCstSetMode c s = .next (Foot.finish Foot.cst s x_) := by
  unfold execCstSetMode; exact ⟨_, rfl⟩

theorem execCstOverride_ends (c : Cmd) (s : State) : ∃ x_, execCstOverride c s = .next (Foot.finish (Foot.cst.and [.pos] []) s x_) := by
  unfold execCstOverride; exact ⟨_, rfl⟩

theorem execCstAccept_ends (c : Cmd) (s : State) : ∃ x_, execCstAccept c s = .next (Foot.finish (Foot.cst.and [.pos] []) s x_) := by
  unfold execCstAccept; exact ⟨_, rfl⟩

theorem execCstWeights_ends (c : Cmd) (s : State) : ∃ x_, execCstWeights c s = .next (Foot.finish (Foot.cst.and [.pos] []) s x_) := by
  unfold execCstWeights; exact ⟨_, rfl⟩

theorem execCstReadMf_ends (c : Cmd) (s : State) : ∃ x_, execCstReadMf c s = .next (Foot.finish Foot.cst s x_) := by
  unfold execCstReadMf; exact ⟨_, rfl⟩

theorem execYplSample_ends (s : State) : ∃ x_, execYplSample s = .next (Foot.finish Foot.ypl s x_) := by
  unfold execYplSample; exact ⟨_, rfl⟩

theorem execYplInverseReady_ends (s : State) : ∃ x_, execYplInverseReady s = .next (Foot.finish Foot.ypl s x_) := by
  unfold execYplInverseReady; exact ⟨_, rfl⟩

theorem execYplCalComputeDone_ends (s : State) : ∃ x_, execYplCalComputeDone s = .next (Foot.finish (Foot.ypl.and [.prm, .shadow] [.prm]) s x_) := by
  unfold execYplCalComputeDone; exact ⟨_, rfl⟩

theorem execYplCalTimeout_ends (s : State) : ∃ x_, execYplCalTimeout s = .next (Foot.finish Foot.ypl s x_) := by
  unfold execYplCalTimeout; exact ⟨_, rfl⟩

theorem execYplTileLoaded_ends (s : State) : ∃ x_, execYplTileLoaded s = .next (Foot.finish Foot.ypl s x_) := by
  unfold execYplTileLoaded; exact ⟨_, rfl⟩

theorem execYplCheckpoint_ends (s : State) : ∃ x_, execYplCheckpoint s = .next (Foot.finish Foot.ypl s x_) := by
  unfold execYplCheckpoint; exact ⟨_, rfl⟩

theorem execYplClosingEnd_ends (s : State) : ∃ x_, execYplClosingEnd s = .next (Foot.finish Foot.ypl s x_) := by
  unfold execYplClosingEnd; exact ⟨_, rfl⟩

theorem execYplFieldCtrlOpen_ends (ini : Initiator) (s : State) : ∃ x_, execYplFieldCtrlOpen ini s = .next (Foot.finish Foot.ypl s x_) := by
  unfold execYplFieldCtrlOpen; exact ⟨_, rfl⟩

theorem execYplFieldCtrlResume_ends (ini : Initiator) (s : State) : ∃ x_, execYplFieldCtrlResume ini s = .next (Foot.finish Foot.ypl s x_) := by
  unfold execYplFieldCtrlResume; exact ⟨_, rfl⟩

theorem execYplFieldCtrlClose_ends (ini : Initiator) (s : State) : ∃ x_, execYplFieldCtrlClose ini s = .next (Foot.finish Foot.ypl s x_) := by
  unfold execYplFieldCtrlClose; exact ⟨_, rfl⟩

theorem execYplFieldOpen_ends (c : Cmd) (s : State) : ∃ x_, execYplFieldOpen c s = .next (Foot.finish Foot.ypl s x_) := by
  unfold execYplFieldOpen; exact ⟨_, rfl⟩

theorem execYplFieldClose_ends (c : Cmd) (s : State) : ∃ x_, execYplFieldClose c s = .next (Foot.finish Foot.ypl s x_) := by
  unfold execYplFieldClose; exact ⟨_, rfl⟩

theorem execYplCalKernel_ends (c : Cmd) (s : State) : ∃ x_, execYplCalKernel c s = .next (Foot.finish Foot.ypl s x_) := by
  unfold execYplCalKernel; exact ⟨_, rfl⟩

theorem execYplKernelSet_ends (c : Cmd) (s : State) : ∃ x_, execYplKernelSet c s = .next (Foot.finish (Foot.ypl.and [.prm, .shadow] [.prm]) s x_) := by
  unfold execYplKernelSet; exact ⟨_, rfl⟩

theorem execYplKernelGet_ends (c : Cmd) (s : State) : ∃ x_, execYplKernelGet c s = .next (Foot.finish Foot.ypl s x_) := by
  unfold execYplKernelGet; exact ⟨_, rfl⟩

theorem execYplTileRead_ends (c : Cmd) (s : State) : ∃ x_, execYplTileRead c s = .next (Foot.finish Foot.ypl s x_) := by
  unfold execYplTileRead; exact ⟨_, rfl⟩

theorem execYplExport_ends (c : Cmd) (s : State) : ∃ x_, execYplExport c s = .next (Foot.finish Foot.ypl s x_) := by
  unfold execYplExport; exact ⟨_, rfl⟩

theorem execYplExportRead_ends (c : Cmd) (s : State) : ∃ x_, execYplExportRead c s = .next (Foot.finish Foot.ypl s x_) := by
  unfold execYplExportRead; exact ⟨_, rfl⟩

theorem execYplWeigh_ends (c : Cmd) (s : State) : ∃ x_, execYplWeigh c s = .next (Foot.finish Foot.ypl s x_) := by
  unfold execYplWeigh; exact ⟨_, rfl⟩

theorem execMerStIWrite_ends (ini : Initiator) (m : Nat) (v : Word) (s : State) : ∃ x_, execMerStIWrite ini m v s = .next (Foot.finish Foot.mer s x_) := by
  unfold execMerStIWrite; exact ⟨_, rfl⟩

theorem execMerSetpoint_ends (c : Cmd) (s : State) : ∃ x_, execMerSetpoint c s = .next (Foot.finish (Foot.mer.and [.shadow] []) s x_) := by
  unfold execMerSetpoint; exact ⟨_, rfl⟩

theorem execMerSetGains_ends (c : Cmd) (s : State) : ∃ x_, execMerSetGains c s = .next (Foot.finish (Foot.mer.and [.shadow] []) s x_) := by
  unfold execMerSetGains; exact ⟨_, rfl⟩

theorem execMerIntSet_ends (c : Cmd) (s : State) : ∃ x_, execMerIntSet c s = .next (Foot.finish Foot.mer s x_) := by
  unfold execMerIntSet; exact ⟨_, rfl⟩

theorem execMerReadSlot_ends (c : Cmd) (s : State) : ∃ x_, execMerReadSlot c s = .next (Foot.finish Foot.mer s x_) := by
  unfold execMerReadSlot; exact ⟨_, rfl⟩

theorem execAdrEvtDurWrite_ends (ini : Initiator) (n : Nat) (v : Word) (s : State) : ∃ x_, execAdrEvtDurWrite ini n v s = .next (Foot.finish (Foot.adr.and [.shadow] []) s x_) := by
  unfold execAdrEvtDurWrite; exact ⟨_, rfl⟩

theorem execAdrEventStart_ends (n : Nat) (s : State) : ∃ x_, execAdrEventStart n s = .next (Foot.finish Foot.adr s x_) := by
  unfold execAdrEventStart; exact ⟨_, rfl⟩

theorem execAdrBoostEnd_ends (n : Nat) (s : State) : ∃ x_, execAdrBoostEnd n s = .next (Foot.finish Foot.adr s x_) := by
  unfold execAdrBoostEnd; exact ⟨_, rfl⟩

theorem execAdrBoostTimeout_ends (n : Nat) (s : State) : ∃ x_, execAdrBoostTimeout n s = .next (Foot.finish Foot.adr s x_) := by
  unfold execAdrBoostTimeout; exact ⟨_, rfl⟩

theorem execAdrBankIlim_ends (k : Nat) (s : State) : ∃ x_, execAdrBankIlim k s = .next (Foot.finish Foot.adr s x_) := by
  unfold execAdrBankIlim; exact ⟨_, rfl⟩

theorem execAdrPeakEnd_ends (n : Nat) (s : State) : ∃ x_, execAdrPeakEnd n s = .next (Foot.finish Foot.adr s x_) := by
  unfold execAdrPeakEnd; exact ⟨_, rfl⟩

theorem execAdrHoldReached_ends (n : Nat) (s : State) : ∃ x_, execAdrHoldReached n s = .next (Foot.finish Foot.adr s x_) := by
  unfold execAdrHoldReached; exact ⟨_, rfl⟩

theorem execAdrEventEnd_ends (n : Nat) (s : State) : ∃ x_, execAdrEventEnd n s = .next (Foot.finish Foot.adr s x_) := by
  unfold execAdrEventEnd; exact ⟨_, rfl⟩

theorem execAdrDecayEnd_ends (n : Nat) (s : State) : ∃ x_, execAdrDecayEnd n s = .next (Foot.finish Foot.adr s x_) := by
  unfold execAdrDecayEnd; exact ⟨_, rfl⟩

theorem execAdrDecayTimeout_ends (n : Nat) (s : State) : ∃ x_, execAdrDecayTimeout n s = .next (Foot.finish Foot.adr s x_) := by
  unfold execAdrDecayTimeout; exact ⟨_, rfl⟩

theorem execAdrCloseWindowEnd_ends (n : Nat) (s : State) : ∃ x_, execAdrCloseWindowEnd n s = .next (Foot.finish Foot.adr s x_) := by
  unfold execAdrCloseWindowEnd; exact ⟨_, rfl⟩

theorem execAdrDeferTimeout_ends (n : Nat) (s : State) : ∃ x_, execAdrDeferTimeout n s = .next (Foot.finish Foot.adr s x_) := by
  unfold execAdrDeferTimeout; exact ⟨_, rfl⟩

theorem execAdrShort_ends (n : Nat) (s : State) : ∃ x_, execAdrShort n s = .next (Foot.finish Foot.adr s x_) := by
  unfold execAdrShort; exact ⟨_, rfl⟩

theorem execAdrShortRetry_ends (n : Nat) (s : State) : ∃ x_, execAdrShortRetry n s = .next (Foot.finish Foot.adr s x_) := by
  unfold execAdrShortRetry; exact ⟨_, rfl⟩

theorem execAdrOpen_ends (n : Nat) (on : Bool) (s : State) : ∃ x_, execAdrOpen n on s = .next (Foot.finish Foot.adr s x_) := by
  unfold execAdrOpen; exact ⟨_, rfl⟩

theorem execAdrDitherPeriod_ends (n : Nat) (s : State) : ∃ x_, execAdrDitherPeriod n s = .next (Foot.finish Foot.adr s x_) := by
  unfold execAdrDitherPeriod; exact ⟨_, rfl⟩

theorem execAdrTempEstimateExpiry_ends (n : Nat) (s : State) : ∃ x_, execAdrTempEstimateExpiry n s = .next (Foot.finish Foot.adr s x_) := by
  unfold execAdrTempEstimateExpiry; exact ⟨_, rfl⟩

theorem execAdrChCmdWrite_ends (ini : Initiator) (n : Nat) (v : Word) (s : State) : ∃ x_, execAdrChCmdWrite ini n v s = .next (Foot.finish Foot.adr s x_) := by
  unfold execAdrChCmdWrite; exact ⟨_, rfl⟩

theorem execAdrFaultWrite_ends (ini : Initiator) (w : Nat) (v : Word) (s : State) : ∃ x_, execAdrFaultWrite ini w v s = .next (Foot.finish Foot.adr s x_) := by
  unfold execAdrFaultWrite; exact ⟨_, rfl⟩

theorem execAdrBoostSpill_ends (mv : Nat) (s : State) : ∃ x_, execAdrBoostSpill mv s = .next (Foot.finish Foot.adr s x_) := by
  unfold execAdrBoostSpill; exact ⟨_, rfl⟩

theorem execAdrEvent_ends (c : Cmd) (s : State) : ∃ x_, execAdrEvent c s = .next (Foot.finish (Foot.adr.and [.shadow] []) s x_) := by
  unfold execAdrEvent; exact ⟨_, rfl⟩

theorem execAdrSetCurrent_ends (c : Cmd) (s : State) : ∃ x_, execAdrSetCurrent c s = .next (Foot.finish Foot.adr s x_) := by
  unfold execAdrSetCurrent; exact ⟨_, rfl⟩

theorem execAdrSwitch_ends (c : Cmd) (s : State) : ∃ x_, execAdrSwitch c s = .next (Foot.finish Foot.adr s x_) := by
  unfold execAdrSwitch; exact ⟨_, rfl⟩

theorem execAdrChClear_ends (c : Cmd) (s : State) : ∃ x_, execAdrChClear c s = .next (Foot.finish Foot.adr s x_) := by
  unfold execAdrChClear; exact ⟨_, rfl⟩

theorem execAdrReadCh_ends (c : Cmd) (s : State) : ∃ x_, execAdrReadCh c s = .next (Foot.finish Foot.adr s x_) := by
  unfold execAdrReadCh; exact ⟨_, rfl⟩

theorem execAdrBoostSet_ends (c : Cmd) (s : State) : ∃ x_, execAdrBoostSet c s = .next (Foot.finish (Foot.adr.and [.prm, .shadow] [.prm]) s x_) := by
  unfold execAdrBoostSet; exact ⟨_, rfl⟩

theorem execAdrBankSet_ends (c : Cmd) (s : State) : ∃ x_, execAdrBankSet c s = .next (Foot.finish (Foot.adr.and [.prm, .shadow] [.prm]) s x_) := by
  unfold execAdrBankSet; exact ⟨_, rfl⟩

theorem execAdrBankRead_ends (c : Cmd) (s : State) : ∃ x_, execAdrBankRead c s = .next (Foot.finish Foot.adr s x_) := by
  unfold execAdrBankRead; exact ⟨_, rfl⟩

theorem execAdrReadMot_ends (c : Cmd) (s : State) : ∃ x_, execAdrReadMot c s = .next (Foot.finish Foot.adr s x_) := by
  unfold execAdrReadMot; exact ⟨_, rfl⟩

theorem execPswPwmPeriod_ends (n : Nat) (s : State) : ∃ x_, execPswPwmPeriod n s = .next (Foot.finish Foot.psw s x_) := by
  unfold execPswPwmPeriod; exact ⟨_, rfl⟩

theorem execPswInrushEnd_ends (n : Nat) (s : State) : ∃ x_, execPswInrushEnd n s = .next (Foot.finish Foot.psw s x_) := by
  unfold execPswInrushEnd; exact ⟨_, rfl⟩

theorem execPswOcTrip_ends (ma : Reading) (s : State) : ∃ x_, execPswOcTrip ma s = .next (Foot.finish Foot.psw s x_) := by
  unfold execPswOcTrip; exact ⟨_, rfl⟩

theorem execPswRetry_ends (n : Nat) (s : State) : ∃ x_, execPswRetry n s = .next (Foot.finish Foot.psw s x_) := by
  unfold execPswRetry; exact ⟨_, rfl⟩

theorem execPswRcntReset_ends (n : Nat) (s : State) : ∃ x_, execPswRcntReset n s = .next (Foot.finish Foot.psw s x_) := by
  unfold execPswRcntReset; exact ⟨_, rfl⟩

theorem execPswThermalTrip_ends (n : Nat) (tj : Int) (s : State) : ∃ x_, execPswThermalTrip n tj s = .next (Foot.finish Foot.psw s x_) := by
  unfold execPswThermalTrip; exact ⟨_, rfl⟩

theorem execPswUndervoltage_ends (g : Nat) (mv : Nat) (s : State) : ∃ x_, execPswUndervoltage g mv s = .next (Foot.finish Foot.psw s x_) := by
  unfold execPswUndervoltage; exact ⟨_, rfl⟩

theorem execPswUvRestart_ends (g : Nat) (mv : Sample) (s : State) : ∃ x_, execPswUvRestart g mv s = .next (Foot.finish Foot.psw s x_) := by
  unfold execPswUvRestart; exact ⟨_, rfl⟩

theorem execPswStaggerTurnOn_ends (g : Nat) (s : State) : ∃ x_, execPswStaggerTurnOn g s = .next (Foot.finish Foot.psw s x_) := by
  unfold execPswStaggerTurnOn; exact ⟨_, rfl⟩

theorem execPswBudgetShed_ends (g : Nat) (s : State) : ∃ x_, execPswBudgetShed g s = .next (Foot.finish Foot.psw s x_) := by
  unfold execPswBudgetShed; exact ⟨_, rfl⟩

theorem execPswOpenLoad_ends (n : Nat) (ma : Nat) (s : State) : ∃ x_, execPswOpenLoad n ma s = .next (Foot.finish Foot.psw s x_) := by
  unfold execPswOpenLoad; exact ⟨_, rfl⟩

theorem execPswHoldoffEnd_ends (n : Nat) (s : State) : ∃ x_, execPswHoldoffEnd n s = .next (Foot.finish Foot.psw s x_) := by
  unfold execPswHoldoffEnd; exact ⟨_, rfl⟩

theorem execPswLatchedWrite_ends (ini : Initiator) (v : Word) (s : State) : ∃ x_, execPswLatchedWrite ini v s = .next (Foot.finish Foot.psw s x_) := by
  unfold execPswLatchedWrite; exact ⟨_, rfl⟩

theorem execPswSwitch_ends (c : Cmd) (s : State) : ∃ x_, execPswSwitch c s = .next (Foot.finish (Foot.psw.and [.shadow] []) s x_) := by
  unfold execPswSwitch; exact ⟨_, rfl⟩

theorem execPswChClear_ends (c : Cmd) (s : State) : ∃ x_, execPswChClear c s = .next (Foot.finish Foot.psw s x_) := by
  unfold execPswChClear; exact ⟨_, rfl⟩

theorem execPswReadCh_ends (c : Cmd) (s : State) : ∃ x_, execPswReadCh c s = .next (Foot.finish Foot.psw s x_) := by
  unfold execPswReadCh; exact ⟨_, rfl⟩

theorem execPswGroupSet_ends (c : Cmd) (s : State) : ∃ x_, execPswGroupSet c s = .next (Foot.finish (Foot.psw.and [.prm, .shadow] [.prm]) s x_) := by
  unfold execPswGroupSet; exact ⟨_, rfl⟩

theorem execTrnMsBoundary_ends (ms : List TrnMs) (fe : List (Nat × Nat)) (s : State) : ∃ x_, execTrnMsBoundary ms fe s = .next (Foot.finish Foot.trn s x_) := by
  unfold execTrnMsBoundary; exact ⟨_, rfl⟩

theorem execTrnEpoch_ends (es : List TrnEp) (s : State) : ∃ x_, execTrnEpoch es s = .next (Foot.finish (Foot.trn.and [.pos] []) s x_) := by
  unfold execTrnEpoch; exact ⟨_, rfl⟩

theorem execTrnAcqReqWrite_ends (ini : Initiator) (e : Nat) (v : Word) (s : State) : ∃ x_, execTrnAcqReqWrite ini e v s = .next (Foot.finish Foot.trn s x_) := by
  unfold execTrnAcqReqWrite; exact ⟨_, rfl⟩

theorem execTrnSweepEnd_ends (e : Nat) (r : TrnSweep) (s : State) : ∃ x_, execTrnSweepEnd e r s = .next (Foot.finish Foot.trn s x_) := by
  unfold execTrnSweepEnd; exact ⟨_, rfl⟩

theorem execTrnAcqResCRead_ends (ini : Initiator) (e : Nat) (s : State) : ∃ x_, execTrnAcqResCRead ini e s = .next (Foot.finish Foot.trn s x_) := by
  unfold execTrnAcqResCRead; exact ⟨_, rfl⟩

theorem execTrnPullinEnd_ends (n : Nat) (s : State) : ∃ x_, execTrnPullinEnd n s = .next (Foot.finish Foot.trn s x_) := by
  unfold execTrnPullinEnd; exact ⟨_, rfl⟩

theorem execTrnCarrLock_ends (n : Nat) (on : Bool) (s : State) : ∃ x_, execTrnCarrLock n on s = .next (Foot.finish Foot.trn s x_) := by
  unfold execTrnCarrLock; exact ⟨_, rfl⟩

theorem execTrnLost_ends (n : Nat) (s : State) : ∃ x_, execTrnLost n s = .next (Foot.finish Foot.trn s x_) := by
  unfold execTrnLost; exact ⟨_, rfl⟩

theorem execTrnCoastEnd_ends (n : Nat) (s : State) : ∃ x_, execTrnCoastEnd n s = .next (Foot.finish Foot.trn s x_) := by
  unfold execTrnCoastEnd; exact ⟨_, rfl⟩

theorem execTrnHandoverPass_ends (n : Nat) (pw : List Nat) (s : State) : ∃ x_, execTrnHandoverPass n pw s = .next (Foot.finish Foot.trn s x_) := by
  unfold execTrnHandoverPass; exact ⟨_, rfl⟩

theorem execTrnHandoverTimeout_ends (n : Nat) (s : State) : ∃ x_, execTrnHandoverTimeout n s = .next (Foot.finish Foot.trn s x_) := by
  unfold execTrnHandoverTimeout; exact ⟨_, rfl⟩

theorem execTrnNavUnit_ends (n : Nat) (u : TrnNav) (s : State) : ∃ x_, execTrnNavUnit n u s = .next (Foot.finish Foot.trn s x_) := by
  unfold execTrnNavUnit; exact ⟨_, rfl⟩

theorem execTrnAntFault_ends (a : Nat) (ma : Nat) (s : State) : ∃ x_, execTrnAntFault a ma s = .next (Foot.finish Foot.trn s x_) := by
  unfold execTrnAntFault; exact ⟨_, rfl⟩

theorem execTrnAntRetry_ends (a : Nat) (ma : Nat) (s : State) : ∃ x_, execTrnAntRetry a ma s = .next (Foot.finish Foot.trn s x_) := by
  unfold execTrnAntRetry; exact ⟨_, rfl⟩

theorem execTrnRxtHiWrite_ends (ini : Initiator) (v : Word) (s : State) : ∃ x_, execTrnRxtHiWrite ini v s = .next (Foot.finish Foot.trn s x_) := by
  unfold execTrnRxtHiWrite; exact ⟨_, rfl⟩

theorem execTrnChannel_ends (c : Cmd) (s : State) : ∃ x_, execTrnChannel c s = .next (Foot.finish (Foot.trn.and [.shadow] []) s x_) := by
  unfold execTrnChannel; exact ⟨_, rfl⟩

theorem execTrnAcquire_ends (c : Cmd) (s : State) : ∃ x_, execTrnAcquire c s = .next (Foot.finish Foot.trn s x_) := by
  unfold execTrnAcquire; exact ⟨_, rfl⟩

theorem execTrnRawOpen_ends (c : Cmd) (s : State) : ∃ x_, execTrnRawOpen c s = .next (Foot.finish Foot.trn s x_) := by
  unfold execTrnRawOpen; exact ⟨_, rfl⟩

theorem execTrnRawClose_ends (c : Cmd) (s : State) : ∃ x_, execTrnRawClose c s = .next (Foot.finish Foot.trn s x_) := by
  unfold execTrnRawClose; exact ⟨_, rfl⟩

theorem execTrnReadCh_ends (c : Cmd) (s : State) : ∃ x_, execTrnReadCh c s = .next (Foot.finish Foot.trn s x_) := by
  unfold execTrnReadCh; exact ⟨_, rfl⟩

theorem execPosSolution_ends (x : PosSol) (s : State) : ∃ x_, execPosSolution x s = .next (Foot.finish (Foot.pos.and [.trn] [.eth, .trn]) s x_) := by
  unfold execPosSolution; exact ⟨_, rfl⟩

theorem execPosOutput_ends (s : State) : ∃ x_, execPosOutput s = .next (Foot.finish Foot.pos s x_) := by
  unfold execPosOutput; exact ⟨_, rfl⟩

theorem execPosRtcmFrame_ends (src : Nat) (p : List Byte) (s : State) : ∃ x_, execPosRtcmFrame src p s = .next (Foot.finish Foot.pos s x_) := by
  unfold execPosRtcmFrame; exact ⟨_, rfl⟩

theorem execPosCorrAgeExpiry_ends (s : State) : ∃ x_, execPosCorrAgeExpiry s = .next (Foot.finish (Foot.pos.and [] [.eth]) s x_) := by
  unfold execPosCorrAgeExpiry; exact ⟨_, rfl⟩

theorem execPosDrExpiry_ends (s : State) : ∃ x_, execPosDrExpiry s = .next (Foot.finish (Foot.pos.and [] [.eth]) s x_) := by
  unfold execPosDrExpiry; exact ⟨_, rfl⟩

theorem execPosDiscipline_ends (s : State) : ∃ x_, execPosDiscipline s = .next (Foot.finish (Foot.pos.and [] [.eth]) s x_) := by
  unfold execPosDiscipline; exact ⟨_, rfl⟩

theorem execPosPps_ends (s : State) : ∃ x_, execPosPps s = .next (Foot.finish Foot.pos s x_) := by
  unfold execPosPps; exact ⟨_, rfl⟩

theorem execPosPpsEnd_ends (s : State) : ∃ x_, execPosPpsEnd s = .next (Foot.finish Foot.pos s x_) := by
  unfold execPosPpsEnd; exact ⟨_, rfl⟩

theorem execSentryBurst_ends (hits : List SentryHit) (s : State) : ∃ x_, execSentryBurst hits s = .next (Foot.finish Foot.pos s x_) := by
  unfold execSentryBurst; exact ⟨_, rfl⟩

theorem execSentrySnapshot_ends (p : List Byte) (s : State) : ∃ x_, execSentrySnapshot p s = .next (Foot.finish Foot.pos s x_) := by
  unfold execSentrySnapshot; exact ⟨_, rfl⟩

theorem execPosRtcm_ends (c : Cmd) (s : State) : ∃ x_, execPosRtcm c s = .next (Foot.finish Foot.pos s x_) := by
  unfold execPosRtcm; exact ⟨_, rfl⟩

theorem execPosRtcmSrc_ends (c : Cmd) (s : State) : ∃ x_, execPosRtcmSrc c s = .next (Foot.finish Foot.pos s x_) := by
  unfold execPosRtcmSrc; exact ⟨_, rfl⟩

theorem execPosOrigin_ends (c : Cmd) (s : State) : ∃ x_, execPosOrigin c s = .next (Foot.finish Foot.pos s x_) := by
  unfold execPosOrigin; exact ⟨_, rfl⟩

theorem execPosSentrySet_ends (c : Cmd) (s : State) : ∃ x_, execPosSentrySet c s = .next (Foot.finish (Foot.pos.and [.prm] [.prm]) s x_) := by
  unfold execPosSentrySet; exact ⟨_, rfl⟩

theorem execPosSentryRead_ends (c : Cmd) (s : State) : ∃ x_, execPosSentryRead c s = .next (Foot.finish Foot.pos s x_) := by
  unfold execPosSentryRead; exact ⟨_, rfl⟩

theorem execPosSnapSolve_ends (c : Cmd) (s : State) : ∃ x_, execPosSnapSolve c s = .next (Foot.finish Foot.pos s x_) := by
  unfold execPosSnapSolve; exact ⟨_, rfl⟩

theorem execPosSentryClear_ends (c : Cmd) (s : State) : ∃ x_, execPosSentryClear c s = .next (Foot.finish Foot.pos s x_) := by
  unfold execPosSentryClear; exact ⟨_, rfl⟩

theorem execCamSegment_ends (port : Nat) (x : CamSeg) (s : State) : ∃ x_, execCamSegment port x s = .next (Foot.finish Foot.cam s x_) := by
  unfold execCamSegment; exact ⟨_, rfl⟩

theorem execCamFrameCloseTimeout_ends (port : Nat) (s : State) : ∃ x_, execCamFrameCloseTimeout port s = .next (Foot.finish Foot.cam s x_) := by
  unfold execCamFrameCloseTimeout; exact ⟨_, rfl⟩

theorem execCamStreamLost_ends (port : Nat) (s : State) : ∃ x_, execCamStreamLost port s = .next (Foot.finish Foot.cam s x_) := by
  unfold execCamStreamLost; exact ⟨_, rfl⟩

theorem execCamIspComplete_ends (ctx : Nat) (s : State) : ∃ x_, execCamIspComplete ctx s = .next (Foot.finish Foot.cam s x_) := by
  unfold execCamIspComplete; exact ⟨_, rfl⟩

theorem execCamEncAuComplete_ends (e : Nat) (au : List Byte) (s : State) : ∃ x_, execCamEncAuComplete e au s = .next (Foot.finish Foot.cam s x_) := by
  unfold execCamEncAuComplete; exact ⟨_, rfl⟩

theorem execCamLoadUpdate_ends (load : Nat) (s : State) : ∃ x_, execCamLoadUpdate load s = .next (Foot.finish Foot.cam s x_) := by
  unfold execCamLoadUpdate; exact ⟨_, rfl⟩

theorem execCamTblDataAccess_ends (ini : Initiator) (w : Option Word) (s : State) : ∃ x_, execCamTblDataAccess ini w s = .next (Foot.finish Foot.cam s x_) := by
  unfold execCamTblDataAccess; exact ⟨_, rfl⟩

theorem execCamCtxRelWrite_ends (ini : Initiator) (ctx : Nat) (v : Word) (s : State) : ∃ x_, execCamCtxRelWrite ini ctx v s = .next (Foot.finish Foot.cam s x_) := by
  unfold execCamCtxRelWrite; exact ⟨_, rfl⟩

theorem execCamEncCmdWrite_ends (ini : Initiator) (e : Nat) (v : Word) (s : State) : ∃ x_, execCamEncCmdWrite ini e v s = .next (Foot.finish Foot.cam s x_) := by
  unfold execCamEncCmdWrite; exact ⟨_, rfl⟩

theorem execCamEncRdWrite_ends (ini : Initiator) (e : Nat) (v : Word) (s : State) : ∃ x_, execCamEncRdWrite ini e v s = .next (Foot.finish Foot.cam s x_) := by
  unfold execCamEncRdWrite; exact ⟨_, rfl⟩

theorem execCamRingOpen_ends (c : Cmd) (s : State) : ∃ x_, execCamRingOpen c s = .next (Foot.finish Foot.cam s x_) := by
  unfold execCamRingOpen; exact ⟨_, rfl⟩

theorem execCamEncOpen_ends (c : Cmd) (s : State) : ∃ x_, execCamEncOpen c s = .next (Foot.finish Foot.cam s x_) := by
  unfold execCamEncOpen; exact ⟨_, rfl⟩

theorem execCamBuffers_ends (c : Cmd) (s : State) : ∃ x_, execCamBuffers c s = .next (Foot.finish Foot.cam s x_) := by
  unfold execCamBuffers; exact ⟨_, rfl⟩

theorem execCamRelease_ends (c : Cmd) (s : State) : ∃ x_, execCamRelease c s = .next (Foot.finish Foot.cam s x_) := by
  unfold execCamRelease; exact ⟨_, rfl⟩

theorem execCamTableSet_ends (c : Cmd) (s : State) : ∃ x_, execCamTableSet c s = .next (Foot.finish (Foot.cam.and [.prm, .shadow] [.prm]) s x_) := by
  unfold execCamTableSet; exact ⟨_, rfl⟩

theorem execCamM2mSubmit_ends (c : Cmd) (mem : List Byte) (s : State) : ∃ x_, execCamM2mSubmit c mem s = .next (Foot.finish Foot.cam s x_) := by
  unfold execCamM2mSubmit; exact ⟨_, rfl⟩

theorem execCamEncIdr_ends (c : Cmd) (s : State) : ∃ x_, execCamEncIdr c s = .next (Foot.finish Foot.cam s x_) := by
  unfold execCamEncIdr; exact ⟨_, rfl⟩

theorem execAstListPart_ends (x : AstRx) (s : State) : ∃ x_, execAstListPart x s = .next (Foot.finish Foot.ast s x_) := by
  unfold execAstListPart; exact ⟨_, rfl⟩

theorem execAstPartTimeout_ends (k : Nat) (s : State) : ∃ x_, execAstPartTimeout k s = .next (Foot.finish Foot.ast s x_) := by
  unfold execAstPartTimeout; exact ⟨_, rfl⟩

theorem execAstSubGoWrite_ends (ini : Initiator) (v : Word) (mem : List Byte) (s : State) : ∃ x_, execAstSubGoWrite ini v mem s = .next (Foot.finish Foot.ast s x_) := by
  unfold execAstSubGoWrite; exact ⟨_, rfl⟩

theorem execAstEgoSample_ends (s : State) : ∃ x_, execAstEgoSample s = .next (Foot.finish Foot.ast s x_) := by
  unfold execAstEgoSample; exact ⟨_, rfl⟩

theorem execAstFusionCycle_ends (us : Nat) (s : State) : ∃ x_, execAstFusionCycle us s = .next (Foot.finish Foot.ast s x_) := by
  unfold execAstFusionCycle; exact ⟨_, rfl⟩

theorem execAstSourceLost_ends (k : Nat) (s : State) : ∃ x_, execAstSourceLost k s = .next (Foot.finish Foot.ast s x_) := by
  unfold execAstSourceLost; exact ⟨_, rfl⟩

theorem execAstRingOpen_ends (c : Cmd) (s : State) : ∃ x_, execAstRingOpen c s = .next (Foot.finish Foot.ast s x_) := by
  unfold execAstRingOpen; exact ⟨_, rfl⟩

theorem execAstRingClose_ends (c : Cmd) (s : State) : ∃ x_, execAstRingClose c s = .next (Foot.finish Foot.ast s x_) := by
  unfold execAstRingClose; exact ⟨_, rfl⟩

theorem execAstList_ends (c : Cmd) (s : State) : ∃ x_, execAstList c s = .next (Foot.finish Foot.ast s x_) := by
  unfold execAstList; exact ⟨_, rfl⟩

theorem execAstReadTrack_ends (c : Cmd) (s : State) : ∃ x_, execAstReadTrack c s = .next (Foot.finish Foot.ast s x_) := by
  unfold execAstReadTrack; exact ⟨_, rfl⟩

theorem execAstClear_ends (c : Cmd) (s : State) : ∃ x_, execAstClear c s = .next (Foot.finish Foot.ast s x_) := by
  unfold execAstClear; exact ⟨_, rfl⟩

theorem execSafCycle_ends (x : SafIn) (s : State) : ∃ x_, execSafCycle x s = .next (Foot.finish (Foot.saf.and [.adr, .psw] [.adb, .adr, .psw]) s x_) := by
  unfold execSafCycle; exact ⟨_, rfl⟩

theorem execSafDiscrepancy_ends (i : Nat) (s : State) : ∃ x_, execSafDiscrepancy i s = .next (Foot.finish Foot.saf s x_) := by
  unfold execSafDiscrepancy; exact ⟨_, rfl⟩

theorem execSafSpeedDiscrepancy_ends (m : Nat) (s : State) : ∃ x_, execSafSpeedDiscrepancy m s = .next (Foot.finish Foot.saf s x_) := by
  unfold execSafSpeedDiscrepancy; exact ⟨_, rfl⟩

theorem execSafTestPulse_ends (k : Nat) (x : SafTp) (s : State) : ∃ x_, execSafTestPulse k x s = .next (Foot.finish Foot.saf s x_) := by
  unfold execSafTestPulse; exact ⟨_, rfl⟩

theorem execSafStandstill_ends (m : Nat) (s : State) : ∃ x_, execSafStandstill m s = .next (Foot.finish (Foot.saf.and [.adr, .psw] [.adb, .adr, .psw]) s x_) := by
  unfold execSafStandstill; exact ⟨_, rfl⟩

theorem execSafTMaxExpiry_ends (s : State) : ∃ x_, execSafTMaxExpiry s = .next (Foot.finish (Foot.saf.and [.adr, .psw] [.adb, .adr, .psw]) s x_) := by
  unfold execSafTMaxExpiry; exact ⟨_, rfl⟩

theorem execSafSoTest_ends (n : Nat) (ok : Bool) (s : State) : ∃ x_, execSafSoTest n ok s = .next (Foot.finish Foot.saf s x_) := by
  unfold execSafSoTest; exact ⟨_, rfl⟩

theorem execSafEdmTimeout_ends (n : Nat) (s : State) : ∃ x_, execSafEdmTimeout n s = .next (Foot.finish Foot.saf s x_) := by
  unfold execSafEdmTimeout; exact ⟨_, rfl⟩

theorem execSafResetInput_ends (i : Nat) (s : State) : ∃ x_, execSafResetInput i s = .next (Foot.finish (Foot.saf.and [.adr, .psw] [.adb, .adr, .psw]) s x_) := by
  unfold execSafResetInput; exact ⟨_, rfl⟩

theorem execSafetyReset_ends (s : State) : Ran s [s.clk, s.clk.stop] (execSafetyReset s) := by
  unfold execSafetyReset; exact State.runReset_ran s _

theorem execSafSelfTestDone_ends (ok : Bool) (addr : Nat) (dip : Nat) (image : Bool) (s : State) : ∃ x_, execSafSelfTestDone ok addr dip image s = .next (Foot.finish (Foot.saf.and [.adr, .psw] [.adb, .adr, .psw]) s x_) := by
  unfold execSafSelfTestDone; exact ⟨_, rfl⟩

theorem execSafReadyCheck_ends (s : State) : ∃ x_, execSafReadyCheck s = .next (Foot.finish (Foot.saf.and [.adr, .psw] [.adb, .adr, .psw]) s x_) := by
  unfold execSafReadyCheck; exact ⟨_, rfl⟩

theorem execSafSealChange_ends (obj : Nat) (s : State) : ∃ x_, execSafSealChange obj s = .next (Foot.finish (Foot.saf.and [.adr, .psw] [.adb, .adr, .psw]) s x_) := by
  unfold execSafSealChange; exact ⟨_, rfl⟩

theorem execSafStopReq_ends (c : Cmd) (s : State) : ∃ x_, execSafStopReq c s = .next (Foot.finish Foot.saf s x_) := by
  unfold execSafStopReq; exact ⟨_, rfl⟩

theorem execSafReadParams_ends (c : Cmd) (s : State) : ∃ x_, execSafReadParams c s = .next (Foot.finish Foot.saf s x_) := by
  unfold execSafReadParams; exact ⟨_, rfl⟩

theorem execSafFaultLog_ends (c : Cmd) (s : State) : ∃ x_, execSafFaultLog c s = .next (Foot.finish Foot.saf s x_) := by
  unfold execSafFaultLog; exact ⟨_, rfl⟩

theorem execSafParamWrite_ends (c : Cmd) (s : State) : ∃ x_, execSafParamWrite c s = .next (Foot.finish Foot.saf s x_) := by
  unfold execSafParamWrite; exact ⟨_, rfl⟩

theorem execJasperFrameRx_ends (n : Nat) (p : List Byte) (s : State) : ∃ x_, execJasperFrameRx n p s = .next (Foot.finish Foot.saf s x_) := by
  unfold execJasperFrameRx; exact ⟨_, rfl⟩

theorem execJasperWatchdog_ends (n : Nat) (s : State) : ∃ x_, execJasperWatchdog n s = .next (Foot.finish Foot.saf s x_) := by
  unfold execJasperWatchdog; exact ⟨_, rfl⟩

theorem execJasperProduce_ends (n : Nat) (s : State) : ∃ x_, execJasperProduce n s = .next (Foot.finish Foot.saf s x_) := by
  unfold execJasperProduce; exact ⟨_, rfl⟩

theorem execCanFrameRx_ends (n : Nat) (x : CanRx) (s : State) : ∃ x_, execCanFrameRx n x s = .next (Foot.finish (Foot.can.and [.adr, .ast, .pair, .pos, .psw, .saf] [.adb, .adr, .ast, .pair, .pos, .psw]) s x_) := by
  unfold execCanFrameRx; exact ⟨_, rfl⟩

theorem execCanTxComplete_ends (n : Nat) (sof : Nat) (res : Nat) (s : State) : ∃ x_, execCanTxComplete n sof res s = .next (Foot.finish (Foot.can.and [.saf] []) s x_) := by
  unfold execCanTxComplete; exact ⟨_, rfl⟩

theorem execCanBusError_ends (n : Nat) (dt : Nat) (dr : Nat) (lec : Nat) (s : State) : ∃ x_, execCanBusError n dt dr lec s = .next (Foot.finish (Foot.can.and [.saf] []) s x_) := by
  unfold execCanBusError; exact ⟨_, rfl⟩

theorem execCanRecoveryStart_ends (n : Nat) (s : State) : ∃ x_, execCanRecoveryStart n s = .next (Foot.finish Foot.can s x_) := by
  unfold execCanRecoveryStart; exact ⟨_, rfl⟩

theorem execCanRecoveryDone_ends (n : Nat) (s : State) : ∃ x_, execCanRecoveryDone n s = .next (Foot.finish Foot.can s x_) := by
  unfold execCanRecoveryDone; exact ⟨_, rfl⟩

theorem execCanImportTimeout_ends (i : Nat) (s : State) : ∃ x_, execCanImportTimeout i s = .next (Foot.finish Foot.can s x_) := by
  unfold execCanImportTimeout; exact ⟨_, rfl⟩

theorem execCanClaimTimeout_ends (n : Nat) (s : State) : ∃ x_, execCanClaimTimeout n s = .next (Foot.finish Foot.can s x_) := by
  unfold execCanClaimTimeout; exact ⟨_, rfl⟩

theorem execCanTxqCtrlWrite_ends (ini : Initiator) (n : Nat) (v : Word) (s : State) : ∃ x_, execCanTxqCtrlWrite ini n v s = .next (Foot.finish Foot.can s x_) := by
  unfold execCanTxqCtrlWrite; exact ⟨_, rfl⟩

theorem execCanCtrlRecoverWrite_ends (ini : Initiator) (n : Nat) (s : State) : ∃ x_, execCanCtrlRecoverWrite ini n s = .next (Foot.finish Foot.can s x_) := by
  unfold execCanCtrlRecoverWrite; exact ⟨_, rfl⟩

theorem execLinSlot_ends (k : Nat) (s : State) : ∃ x_, execLinSlot k s = .next (Foot.finish Foot.can s x_) := by
  unfold execLinSlot; exact ⟨_, rfl⟩

theorem execLinResponseRx_ends (k : Nat) (p : List Byte) (s : State) : ∃ x_, execLinResponseRx k p s = .next (Foot.finish Foot.can s x_) := by
  unfold execLinResponseRx; exact ⟨_, rfl⟩

theorem execLinResponseTimeout_ends (k : Nat) (s : State) : ∃ x_, execLinResponseTimeout k s = .next (Foot.finish Foot.can s x_) := by
  unfold execLinResponseTimeout; exact ⟨_, rfl⟩

theorem execCanSend_ends (c : Cmd) (s : State) : ∃ x_, execCanSend c s = .next (Foot.finish Foot.can s x_) := by
  unfold execCanSend; exact ⟨_, rfl⟩

theorem execCanRingOpen_ends (c : Cmd) (s : State) : ∃ x_, execCanRingOpen c s = .next (Foot.finish Foot.can s x_) := by
  unfold execCanRingOpen; exact ⟨_, rfl⟩

theorem execCanRecover_ends (c : Cmd) (s : State) : ∃ x_, execCanRecover c s = .next (Foot.finish Foot.can s x_) := by
  unfold execCanRecover; exact ⟨_, rfl⟩

theorem execCanSleep_ends (c : Cmd) (s : State) : ∃ x_, execCanSleep c s = .next (Foot.finish Foot.can s x_) := by
  unfold execCanSleep; exact ⟨_, rfl⟩

theorem execCanExportSet_ends (c : Cmd) (s : State) : ∃ x_, execCanExportSet c s = .next (Foot.finish Foot.can s x_) := by
  unfold execCanExportSet; exact ⟨_, rfl⟩

theorem execLinSleep_ends (c : Cmd) (s : State) : ∃ x_, execLinSleep c s = .next (Foot.finish Foot.can s x_) := by
  unfold execLinSleep; exact ⟨_, rfl⟩

theorem execEthFrameRx_ends (x : EthRx) (s : State) : ∃ x_, execEthFrameRx x s = .next (Foot.finish (Foot.eth.and [.ast, .cam, .can, .saf] [.ast, .cam]) s x_) := by
  unfold execEthFrameRx; exact ⟨_, rfl⟩

theorem execEthLinkChange_ends (k : Nat) (x : EthLink) (s : State) : ∃ x_, execEthLinkChange k x s = .next (Foot.finish Foot.eth s x_) := by
  unfold execEthLinkChange; exact ⟨_, rfl⟩

theorem execEthPtpSync_ends (gm : Nat) (g : Nat) (s : State) : ∃ x_, execEthPtpSync gm g s = .next (Foot.finish Foot.eth s x_) := by
  unfold execEthPtpSync; exact ⟨_, rfl⟩

theorem execEthSyncTimeout_ends (s : State) : ∃ x_, execEthSyncTimeout s = .next (Foot.finish Foot.eth s x_) := by
  unfold execEthSyncTimeout; exact ⟨_, rfl⟩

theorem execEthSyncSend_ends (best : Bool) (s : State) : ∃ x_, execEthSyncSend best s = .next (Foot.finish Foot.eth s x_) := by
  unfold execEthSyncSend; exact ⟨_, rfl⟩

theorem execEthServoTrim_ends (s : State) : ∃ x_, execEthServoTrim s = .next (Foot.finish Foot.eth s x_) := by
  unfold execEthServoTrim; exact ⟨_, rfl⟩

theorem execEthGclGoWrite_ends (ini : Initiator) (v : Word) (s : State) : ∃ x_, execEthGclGoWrite ini v s = .next (Foot.finish Foot.eth s x_) := by
  unfold execEthGclGoWrite; exact ⟨_, rfl⟩

theorem execEthGclSwitch_ends (k : Nat) (s : State) : ∃ x_, execEthGclSwitch k s = .next (Foot.finish Foot.eth s x_) := by
  unfold execEthGclSwitch; exact ⟨_, rfl⟩

theorem execEthGclDataAccess_ends (ini : Initiator) (w : Option Word) (s : State) : ∃ x_, execEthGclDataAccess ini w s = .next (Foot.finish Foot.eth s x_) := by
  unfold execEthGclDataAccess; exact ⟨_, rfl⟩

theorem execEthPtpGLoRead_ends (ini : Initiator) (s : State) : ∃ x_, execEthPtpGLoRead ini s = .next (Foot.finish Foot.eth s x_) := by
  unfold execEthPtpGLoRead; exact ⟨_, rfl⟩

theorem execSerFrameEnd_ends (n : Nat) (x : SerRx) (s : State) : ∃ x_, execSerFrameEnd n x s = .next (Foot.finish Foot.eth s x_) := by
  unfold execSerFrameEnd; exact ⟨_, rfl⟩

theorem execEthTimeGet_ends (c : Cmd) (s : State) : ∃ x_, execEthTimeGet c s = .next (Foot.finish Foot.eth s x_) := by
  unfold execEthTimeGet; exact ⟨_, rfl⟩

theorem execEthGclSet_ends (c : Cmd) (s : State) : ∃ x_, execEthGclSet c s = .next (Foot.finish (Foot.eth.and [.prm] [.prm]) s x_) := by
  unfold execEthGclSet; exact ⟨_, rfl⟩

theorem execEthTrimSet_ends (c : Cmd) (s : State) : ∃ x_, execEthTrimSet c s = .next (Foot.finish Foot.eth s x_) := by
  unfold execEthTrimSet; exact ⟨_, rfl⟩

theorem execEthSerOpen_ends (c : Cmd) (s : State) : ∃ x_, execEthSerOpen c s = .next (Foot.finish Foot.eth s x_) := by
  unfold execEthSerOpen; exact ⟨_, rfl⟩

theorem execEthSerSend_ends (c : Cmd) (s : State) : ∃ x_, execEthSerSend c s = .next (Foot.finish Foot.eth s x_) := by
  unfold execEthSerSend; exact ⟨_, rfl⟩

theorem execPairBeaconRx_ends (can : Bool) (p : List Byte) (ack : Option Nat) (s : State) : ∃ x_, execPairBeaconRx can p ack s = .next (Foot.finish (Foot.pair.and [.adr, .can, .psw] [.adb, .adr, .psw]) s x_) := by
  unfold execPairBeaconRx; exact ⟨_, rfl⟩

theorem execPairCanBeacon_ends (s : State) : ∃ x_, execPairCanBeacon s = .next (Foot.finish (Foot.pair.and [.can] []) s x_) := by
  unfold execPairCanBeacon; exact ⟨_, rfl⟩

theorem execPairLeaseExpiry_ends (s : State) : ∃ x_, execPairLeaseExpiry s = .next (Foot.finish (Foot.pair.and [.adr, .psw] [.adb, .adr, .psw]) s x_) := by
  unfold execPairLeaseExpiry; exact ⟨_, rfl⟩

theorem execPairGuardEnd_ends (s : State) : ∃ x_, execPairGuardEnd s = .next (Foot.finish Foot.pair s x_) := by
  unfold execPairGuardEnd; exact ⟨_, rfl⟩

theorem execPairAliveChange_ends (mv : Nat) (since : Nat) (s : State) : ∃ x_, execPairAliveChange mv since s = .next (Foot.finish Foot.pair s x_) := by
  unfold execPairAliveChange; exact ⟨_, rfl⟩

theorem execPairPeerDeadEnd_ends (s : State) : ∃ x_, execPairPeerDeadEnd s = .next (Foot.finish Foot.pair s x_) := by
  unfold execPairPeerDeadEnd; exact ⟨_, rfl⟩

theorem execPairPartitionTimeout_ends (s : State) : ∃ x_, execPairPartitionTimeout s = .next (Foot.finish (Foot.pair.and [.adr, .psw] [.adb, .adr, .psw]) s x_) := by
  unfold execPairPartitionTimeout; exact ⟨_, rfl⟩

theorem execPairSoloTimeout_ends (s : State) : ∃ x_, execPairSoloTimeout s = .next (Foot.finish (Foot.pair.and [.adr, .psw] [.adb, .adr, .psw]) s x_) := by
  unfold execPairSoloTimeout; exact ⟨_, rfl⟩

theorem execPairCopyRx_ends (x : PairCopy) (s : State) : ∃ x_, execPairCopyRx x s = .next (Foot.finish Foot.pair s x_) := by
  unfold execPairCopyRx; exact ⟨_, rfl⟩

theorem execPairGateConfirm_ends (off : Bool) (s : State) : ∃ x_, execPairGateConfirm off s = .next (Foot.finish (Foot.pair.and [.can] []) s x_) := by
  unfold execPairGateConfirm; exact ⟨_, rfl⟩

theorem execPairRevertHoldExpiry_ends (s : State) : ∃ x_, execPairRevertHoldExpiry s = .next (Foot.finish Foot.pair s x_) := by
  unfold execPairRevertHoldExpiry; exact ⟨_, rfl⟩

theorem execPairSwap_ends (c : Cmd) (s : State) : ∃ x_, execPairSwap c s = .next (Foot.finish Foot.pair s x_) := by
  unfold execPairSwap; exact ⟨_, rfl⟩

theorem execPairRevert_ends (c : Cmd) (s : State) : ∃ x_, execPairRevert c s = .next (Foot.finish Foot.pair s x_) := by
  unfold execPairRevert; exact ⟨_, rfl⟩

theorem execFltHeartbeat_ends (s : State) : ∃ x_, execFltHeartbeat s = .next (Foot.finish Foot.flt s x_) := by
  unfold execFltHeartbeat; exact ⟨_, rfl⟩

theorem execFltParentLost_ends (s : State) : ∃ x_, execFltParentLost s = .next (Foot.finish Foot.flt s x_) := by
  unfold execFltParentLost; exact ⟨_, rfl⟩

theorem execFltHandshake_ends (x : FltHs) (s : State) : ∃ x_, execFltHandshake x s = .next (Foot.finish Foot.flt s x_) := by
  unfold execFltHandshake; exact ⟨_, rfl⟩

theorem execFltHandshakeRetry_ends (s : State) : ∃ x_, execFltHandshakeRetry s = .next (Foot.finish Foot.flt s x_) := by
  unfold execFltHandshakeRetry; exact ⟨_, rfl⟩

theorem execFltKeyUpdate_ends (s : State) : ∃ x_, execFltKeyUpdate s = .next (Foot.finish Foot.flt s x_) := by
  unfold execFltKeyUpdate; exact ⟨_, rfl⟩

theorem execFltHeartbeatRx_ends (h : FltHdr) (s : State) : ∃ x_, execFltHeartbeatRx h s = .next (Foot.finish ({ Foot.flt with snaps := true } : Foot) s x_) := by
  unfold execFltHeartbeatRx; exact ⟨_, rfl⟩

theorem execFltCoverageSend_ends (s : State) : ∃ x_, execFltCoverageSend s = .next (Foot.finish Foot.flt s x_) := by
  unfold execFltCoverageSend; exact ⟨_, rfl⟩

theorem execFltCoverageRx_ends (h : FltHdr) (x : FltTile) (s : State) : ∃ x_, execFltCoverageRx h x s = .next (Foot.finish ({ Foot.flt.and [.ypl] [] with snaps := true } : Foot) s x_) := by
  unfold execFltCoverageRx; exact ⟨_, rfl⟩

theorem execFltRtcmRx_ends (h : FltHdr) (p : List Byte) (s : State) : ∃ x_, execFltRtcmRx h p s = .next (Foot.finish ({ Foot.flt.and [.pos] [.pos] with snaps := true } : Foot) s x_) := by
  unfold execFltRtcmRx; exact ⟨_, rfl⟩

theorem execFltRdvSend_ends (s : State) : ∃ x_, execFltRdvSend s = .next (Foot.finish Foot.flt s x_) := by
  unfold execFltRdvSend; exact ⟨_, rfl⟩

theorem execFltRdvRx_ends (h : FltHdr) (group : Nat) (p : List Byte) (s : State) : ∃ x_, execFltRdvRx h group p s = .next (Foot.finish ({ Foot.flt with snaps := true } : Foot) s x_) := by
  unfold execFltRdvRx; exact ⟨_, rfl⟩

theorem execFltBroadcastRx_ends (h : FltHdr) (op : FltOpHdr) (s : State) : ∃ x_, execFltBroadcastRx h op s = .next (Foot.finish ({ Foot.flt with snaps := true } : Foot) s x_) := by
  unfold execFltBroadcastRx; exact ⟨_, rfl⟩

theorem execFltBarrierRx_ends (h : FltHdr) (op : FltOpHdr) (tag : Nat) (auto : Bool) (s : State) : ∃ x_, execFltBarrierRx h op tag auto s = .next (Foot.finish ({ Foot.flt with snaps := true } : Foot) s x_) := by
  unfold execFltBarrierRx; exact ⟨_, rfl⟩

theorem execFltMarkerRx_ends (h : FltHdr) (op : FltOpHdr) (reset : Bool) (s : State) : ∃ x_, execFltMarkerRx h op reset s = .next (Foot.finish ({ Foot.flt.and [.ypl] [] with snaps := true } : Foot) s x_) := by
  unfold execFltMarkerRx; exact ⟨_, rfl⟩

theorem execFltReportRx_ends (h : FltHdr) (r : FltRep) (s : State) : ∃ x_, execFltReportRx h r s = .next (Foot.finish ({ Foot.flt with snaps := true } : Foot) s x_) := by
  unfold execFltReportRx; exact ⟨_, rfl⟩

theorem execFltReportDeadline_ends (s : State) : ∃ x_, execFltReportDeadline s = .next (Foot.finish Foot.flt s x_) := by
  unfold execFltReportDeadline; exact ⟨_, rfl⟩

theorem execFltCaSet_ends (c : Cmd) (s : State) : ∃ x_, execFltCaSet c s = .next (Foot.finish (Foot.flt.and [.prm] [.prm]) s x_) := by
  unfold execFltCaSet; exact ⟨_, rfl⟩

theorem execFltArrive_ends (c : Cmd) (s : State) : ∃ x_, execFltArrive c s = .next (Foot.finish Foot.flt s x_) := by
  unfold execFltArrive; exact ⟨_, rfl⟩

theorem execFltRdvOpen_ends (c : Cmd) (s : State) : ∃ x_, execFltRdvOpen c s = .next (Foot.finish Foot.flt s x_) := by
  unfold execFltRdvOpen; exact ⟨_, rfl⟩

theorem execFltTileUpload_ends (c : Cmd) (s : State) : ∃ x_, execFltTileUpload c s = .next (Foot.finish Foot.flt s x_) := by
  unfold execFltTileUpload; exact ⟨_, rfl⟩

theorem execFltSentryUpload_ends (c : Cmd) (s : State) : ∃ x_, execFltSentryUpload c s = .next (Foot.finish Foot.flt s x_) := by
  unfold execFltSentryUpload; exact ⟨_, rfl⟩

theorem execRecEventPost_ends (s : State) : ∃ x_, execRecEventPost s = .next (Foot.finish (Foot.shared.and [.pnl] []) s x_) := by
  unfold execRecEventPost; exact ⟨_, rfl⟩

theorem execRecSnapshotRead_ends (s : State) : ∃ x_, execRecSnapshotRead s = .next (Foot.finish (Foot.shared.and [] [.cam, .eth, .pnl]) s x_) := by
  unfold execRecSnapshotRead; exact ⟨_, rfl⟩

theorem execRecOpenTimeout_ends (s : State) : ∃ x_, execRecOpenTimeout s = .next (Foot.finish Foot.shared s x_) := by
  unfold execRecOpenTimeout; exact ⟨_, rfl⟩

theorem execRecCommit_ends (ok : Bool) (s : State) : ∃ x_, execRecCommit ok s = .next (Foot.finish Foot.shared s x_) := by
  unfold execRecCommit; exact ⟨_, rfl⟩

theorem execRecEraseDone_ends (s : State) : ∃ x_, execRecEraseDone s = .next (Foot.finish Foot.shared s x_) := by
  unfold execRecEraseDone; exact ⟨_, rfl⟩

theorem execRecFreezeTimeout_ends (k : Nat) (s : State) : ∃ x_, execRecFreezeTimeout k s = .next (Foot.finish Foot.shared s x_) := by
  unfold execRecFreezeTimeout; exact ⟨_, rfl⟩

theorem execRecAlarmToken_ends (s : State) : ∃ x_, execRecAlarmToken s = .next (Foot.finish Foot.shared s x_) := by
  unfold execRecAlarmToken; exact ⟨_, rfl⟩

theorem execRecAlarmSummary_ends (s : State) : ∃ x_, execRecAlarmSummary s = .next (Foot.finish Foot.shared s x_) := by
  unfold execRecAlarmSummary; exact ⟨_, rfl⟩

theorem execRecRead_ends (c : Cmd) (s : State) : ∃ x_, execRecRead c s = .next (Foot.finish Foot.shared s x_) := by
  unfold execRecRead; exact ⟨_, rfl⟩

theorem execRecFreeze_ends (c : Cmd) (s : State) : ∃ x_, execRecFreeze c s = .next (Foot.finish Foot.shared s x_) := by
  unfold execRecFreeze; exact ⟨_, rfl⟩

theorem execRecFlush_ends (c : Cmd) (s : State) : ∃ x_, execRecFlush c s = .next (Foot.finish Foot.shared s x_) := by
  unfold execRecFlush; exact ⟨_, rfl⟩

theorem execRecPost_ends (c : Cmd) (s : State) : ∃ x_, execRecPost c s = .next (Foot.finish Foot.shared s x_) := by
  unfold execRecPost; exact ⟨_, rfl⟩

theorem execRecClassSet_ends (c : Cmd) (s : State) : ∃ x_, execRecClassSet c s = .next (Foot.finish (Foot.shared.and [.prm] [.prm]) s x_) := by
  unfold execRecClassSet; exact ⟨_, rfl⟩

theorem execRecClassGet_ends (c : Cmd) (s : State) : ∃ x_, execRecClassGet c s = .next (Foot.finish Foot.shared s x_) := by
  unfold execRecClassGet; exact ⟨_, rfl⟩

theorem execRecCatalogue_ends (c : Cmd) (s : State) : ∃ x_, execRecCatalogue c s = .next (Foot.finish Foot.shared s x_) := by
  unfold execRecCatalogue; exact ⟨_, rfl⟩

theorem execPnlCmdUpdate_ends (ini : Initiator) (v : Word) (loop : Nat) (s : State) : ∃ x_, execPnlCmdUpdate ini v loop s = .next (Foot.finish Foot.pnl s x_) := by
  unfold execPnlCmdUpdate; exact ⟨_, rfl⟩

theorem execPnlLineDone_ends (s : State) : ∃ x_, execPnlLineDone s = .next (Foot.finish Foot.pnl s x_) := by
  unfold execPnlLineDone; exact ⟨_, rfl⟩

theorem execPnlAutoUpdate_ends (loop : Nat) (s : State) : ∃ x_, execPnlAutoUpdate loop s = .next (Foot.finish Foot.pnl s x_) := by
  unfold execPnlAutoUpdate; exact ⟨_, rfl⟩

theorem execPnlCrackCheck_ends (loop : Nat) (s : State) : ∃ x_, execPnlCrackCheck loop s = .next (Foot.finish Foot.pnl s x_) := by
  unfold execPnlCrackCheck; exact ⟨_, rfl⟩

theorem execPnlBlinkToggle_ends (q : Nat) (s : State) : ∃ x_, execPnlBlinkToggle q s = .next (Foot.finish Foot.pnl s x_) := by
  unfold execPnlBlinkToggle; exact ⟨_, rfl⟩

theorem execPnlFbDataAccess_ends (ini : Initiator) (w : Option Word) (s : State) : ∃ x_, execPnlFbDataAccess ini w s = .next (Foot.finish Foot.pnl s x_) := by
  unfold execPnlFbDataAccess; exact ⟨_, rfl⟩

theorem execPnlText_ends (c : Cmd) (s : State) : ∃ x_, execPnlText c s = .next (Foot.finish Foot.pnl s x_) := by
  unfold execPnlText; exact ⟨_, rfl⟩

theorem execPnlBitmap_ends (c : Cmd) (s : State) : ∃ x_, execPnlBitmap c s = .next (Foot.finish Foot.pnl s x_) := by
  unfold execPnlBitmap; exact ⟨_, rfl⟩

theorem execPnlBlink_ends (c : Cmd) (s : State) : ∃ x_, execPnlBlink c s = .next (Foot.finish Foot.pnl s x_) := by
  unfold execPnlBlink; exact ⟨_, rfl⟩

theorem execPnlUpdate_ends (c : Cmd) (loop : Nat) (s : State) : ∃ x_, execPnlUpdate c loop s = .next (Foot.finish Foot.pnl s x_) := by
  unfold execPnlUpdate; exact ⟨_, rfl⟩

theorem execUpdBegin_ends (c : Cmd) (s : State) : ∃ x_, execUpdBegin c s = .next (Foot.finish (Foot.upd.and [.adr, .psw, .saf] [.adb, .adr, .psw]) s x_) := by
  unfold execUpdBegin; exact ⟨_, rfl⟩

theorem execUpdBlock_ends (c : Cmd) (fails : Nat) (s : State) : ∃ x_, execUpdBlock c fails s = .next (Foot.finish Foot.upd s x_) := by
  unfold execUpdBlock; exact ⟨_, rfl⟩

theorem execUpdEnd_ends (c : Cmd) (s : State) : ∃ x_, execUpdEnd c s = .next (Foot.finish Foot.upd s x_) := by
  unfold execUpdEnd; exact ⟨_, rfl⟩

theorem execUpdActivate_ends (c : Cmd) (s : State) : ∃ x_, execUpdActivate c s = .next (Foot.finish (Foot.upd.and [.can, .pwr] [.can]) s x_) := by
  unfold execUpdActivate; exact ⟨_, rfl⟩

theorem execUpdAbort_ends (c : Cmd) (s : State) : ∃ x_, execUpdAbort c s = .next (Foot.finish (Foot.upd.and [.adr, .psw, .saf] [.adb, .adr, .psw, .sys]) s x_) := by
  unfold execUpdAbort; exact ⟨_, rfl⟩

theorem execUpdKeyoffWaitExpiry_ends (s : State) : ∃ x_, execUpdKeyoffWaitExpiry s = .next (Foot.finish Foot.upd s x_) := by
  unfold execUpdKeyoffWaitExpiry; exact ⟨_, rfl⟩

theorem execPrmCompactionDone_ends (s : State) : ∃ x_, execPrmCompactionDone s = .next (Foot.finish Foot.prm s x_) := by
  unfold execPrmCompactionDone; exact ⟨_, rfl⟩

theorem execPrmCalExport_ends (c : Cmd) (s : State) : ∃ x_, execPrmCalExport c s = .next (Foot.finish Foot.prm s x_) := by
  unfold execPrmCalExport; exact ⟨_, rfl⟩

theorem execPrmCalWrite_ends (c : Cmd) (s : State) : ∃ x_, execPrmCalWrite c s = .next (Foot.finish Foot.prm s x_) := by
  unfold execPrmCalWrite; exact ⟨_, rfl⟩

theorem execPrmConfigExport_ends (c : Cmd) (s : State) : ∃ x_, execPrmConfigExport c s = .next (Foot.finish Foot.prm s x_) := by
  unfold execPrmConfigExport; exact ⟨_, rfl⟩

theorem execPrmConfigImport_ends (c : Cmd) (s : State) : ∃ x_, execPrmConfigImport c s = .next (Foot.finish Foot.prm s x_) := by
  unfold execPrmConfigImport; exact ⟨_, rfl⟩

theorem execPrmSet_ends (c : Cmd) (s : State) : ∃ x_, execPrmSet c s = .next (Foot.finish Foot.prm s x_) := by
  unfold execPrmSet; exact ⟨_, rfl⟩

theorem execPllLock_ends (s : State) : Ran s [s.clk] (execPllLock s) ∨ Ran s [{ s.clk.stop with running := true }] (execPllLock s) := by
  unfold execPllLock
  split
  · exact .inl (State.run_ran s _)
  · exact .inr (State.runAt_ran s _ _)

theorem execEthSwitchReload_ends (s : State) : ∃ x_, execEthSwitchReload s = .next (Foot.finish Foot.eth s x_) := by
  unfold execEthSwitchReload; exact ⟨_, rfl⟩

theorem execAonPowerLoss_ends (s : State) : Ran s [s.clk, s.clk.stop] (execAonPowerLoss s) := by
  unfold execAonPowerLoss; exact State.runReset_ran s _

theorem execPwrHoldRelease_ends (s : State) : Ran s [s.clk, s.clk.stop] (execPwrHoldRelease s) := by
  unfold execPwrHoldRelease; exact State.runReset_ran s _

theorem execAinConversion_ends (n : Nat) (x : Nat) (s : State) : ∃ x_, execAinConversion n x s = .next (Foot.finish Foot.inputs s x_) := by
  unfold execAinConversion; exact ⟨_, rfl⟩

theorem execBridgeCode_ends (k : Nat) (code : Int) (s : State) : ∃ x_, execBridgeCode k code s = .next (Foot.finish Foot.inputs s x_) := by
  unfold execBridgeCode; exact ⟨_, rfl⟩

theorem execSpeedEdge_ends (j : Nat) (up : Bool) (both : Bool) (stamp : Nat) (s : State) : ∃ x_, execSpeedEdge j up both stamp s = .next (Foot.finish Foot.inputs s x_) := by
  unfold execSpeedEdge; exact ⟨_, rfl⟩

theorem execAcuImpact_ends (a : Nat) (xs : List Int) (s : State) : ∃ x_, execAcuImpact a xs s = .next (Foot.finish Foot.inputs s x_) := by
  unfold execAcuImpact; exact ⟨_, rfl⟩

theorem execAdrRegulationDecision_ends (n : Nat) (x : Nat) (s : State) : ∃ x_, execAdrRegulationDecision n x s = .next (Foot.finish Foot.adr s x_) := by
  unfold execAdrRegulationDecision; exact ⟨_, rfl⟩

theorem execBoostConverterSwitch_ends (mv : Nat) (mj : Nat) (s : State) : ∃ x_, execBoostConverterSwitch mv mj s = .next (Foot.finish Foot.adr s x_) := by
  unfold execBoostConverterSwitch; exact ⟨_, rfl⟩

theorem execPosInertialSample_ends (x : PosEst) (s : State) : ∃ x_, execPosInertialSample x s = .next (Foot.finish (Foot.pos.and [] [.eth]) s x_) := by
  unfold execPosInertialSample; exact ⟨_, rfl⟩

theorem execIspStripeComplete_ends (inl : Nat) (stripe : Bool) (s : State) : ∃ x_, execIspStripeComplete inl stripe s = .next (Foot.finish Foot.cam s x_) := by
  unfold execIspStripeComplete; exact ⟨_, rfl⟩

theorem execEthGateInterval_ends (k : Nat) (s : State) : ∃ x_, execEthGateInterval k s = .next (Foot.finish Foot.eth s x_) := by
  unfold execEthGateInterval; exact ⟨_, rfl⟩

theorem execSerTransmitDone_ends (n : Nat) (s : State) : ∃ x_, execSerTransmitDone n s = .next (Foot.finish Foot.eth s x_) := by
  unfold execSerTransmitDone; exact ⟨_, rfl⟩

theorem execUsbVbusOvercurrent_ends (u : Nat) (ma : Nat) (s : State) : ∃ x_, execUsbVbusOvercurrent u ma s = .next (Foot.finish Foot.eth s x_) := by
  unfold execUsbVbusOvercurrent; exact ⟨_, rfl⟩

theorem execPairLinkChange_ends (up : Bool) (s : State) : ∃ x_, execPairLinkChange up s = .next (Foot.finish Foot.pair s x_) := by
  unfold execPairLinkChange; exact ⟨_, rfl⟩

theorem execClassCCommandDone_ends (fn : Nat) (s : State) : ∃ x_, execClassCCommandDone fn s = .next (Foot.finish (Foot.shared.and [.inp, .prm, .saf, .shadow, .upd] [.ain, .din, .prm, .snt]) s x_) := by
  unfold execClassCCommandDone; exact ⟨_, rfl⟩

end Sys2Proof.Machine
end

