-- ==== Sys2Proof/WellFormed.lean ====
section
/-!
DEFINITION. When the operands of a command lie in the ranges the spec gives them (array indices, field widths).
-/
namespace Sys2Proof

/-- A mailbox command fits its slot header (R41): an 8-bit session index, a 16-bit sequence, and a payload no longer
than R43 and R55 allow. -/
def cmdWf (c : Cmd) : Bool :=
  decide (c.session < 256) && decide (c.seq < 65536) && decide (c.payload.length ≤ 65536)

/-- Whether every operand of a command lies in its range. -/
def Instr.wf : Instr → Bool
  | .controlTick => true
  | .pairCycleBoundary _ => true
  | .speedZeroTimeout j => decide (j < 12)
  | .registerWrite _ addr bits _ => decide (addr < 2^32) && decide (bits < 65)
  | .bitAliasAccess _ addr _ => decide (addr < 2^32)
  | .guardFirstWrite _ addr _ => decide (addr < 2^32)
  | .guardCompanionWrite _ addr _ => decide (addr < 2^32)
  | .guardTimeout _ blk => decide (blk < 2^32)
  | .stallWatchdog _ addr _ => decide (addr < 2^32)
  | .fabSigHostWrite n _ => decide (n < 512)
  | .sigHostAgeExpiry n => decide (n < 512)
  | .tbNowLoRead _ => true
  | .tbTickCountLoRead _ => true
  | .updStrobeWrite _ _ => true
  | .fabUgCfgWrite _ g _ => decide (g < 16)
  | .ugTbcmpStrobe g => decide (g < 16)
  | .globalSnapshot _ _ => true
  | .sysBootlockWrite _ _ => true
  | .mbxClaimRead _ => true
  | .claimReservationLapse k => decide (k < 16)
  | .bootstrapRingPlacement k => decide (k < 16)
  | .sessionRingPlacement k => decide (k < 16)
  | .mbxQProdWrite n _ _ => decide (n < 128)
  | .mbxQConsWrite n _ => decide (n < 128)
  | .irqHoldoffExpiry => true
  | .notifHoldoffExpiry k cls => decide (k < 16) && decide (cls < 65536)
  | .kmpDatagramRx ip port _ => decide (ip < 2^32) && decide (port < 65536)
  | .ipv4ReassemblyTimeout ip ident => decide (ip < 2^32) && decide (ident < 65536)
  | .udpDataResend n => decide (n < 128)
  | .linkOpenKeepExpiry ip port => decide (ip < 2^32) && decide (port < 65536)
  | .authBlockExpiry _ => true
  | .sessionIdleTimeout k loop => decide (k < 16) && decide (loop < 65536)
  | .progressNotify fn permille => decide (fn < 24) && decide (permille < 1001)
  | .getInfo fn c => decide (fn < 256) && cmdWf c
  | .getStatus fn c => decide (fn < 256) && cmdWf c
  | .configure fn c => decide (fn < 256) && cmdWf c
  | .apply fn c => decide (fn < 256) && cmdWf c
  | .start fn c => decide (fn < 256) && cmdWf c
  | .stop fn c => decide (fn < 256) && cmdWf c
  | .reinit fn c loop => decide (fn < 256) && cmdWf c && decide (loop < 65536)
  | .reinitComplete fn _ => decide (fn < 24)
  | .setExpert fn c loop => decide (fn < 256) && cmdWf c && decide (loop < 65536)
  | .expertTransfer fn => decide (fn < 24)
  | .linkOpen c => cmdWf c
  | .linkAuth c => cmdWf c
  | .linkClose c loop => cmdWf c && decide (loop < 65536)
  | .linkPing c => cmdWf c
  | .linkSubscribe c => cmdWf c
  | .linkDataAck c => cmdWf c
  | .linkKeySet c => cmdWf c
  | .supplyDipBegin i _ => decide (i < 10)
  | .supplyDipEnd i _ => decide (i < 10)
  | .vrstShed _ => true
  | .vbatRiseVrst _ => true
  | .holdupRecovered => true
  | .holdupExpiry => true
  | .overvoltageShed _ => true
  | .overvoltageRecover _ => true
  | .pswGroupOvervoltage g _ => decide (g < 4)
  | .clockLoss _ => true
  | .xtal32Fail => true
  | .tempThreshold i _ => decide (i < 10)
  | .keyOff => true
  | .keyOn => true
  | .keyoffShutdown loop => decide (loop < 65536)
  | .keyoffFinal _ => true
  | .keepAwakeExpiry k => decide (k < 16)
  | .standbyTimeout loop => decide (loop < 65536)
  | .sentryAonLow _ _ => true
  | .powerOffHoldEnd => true
  | .wake w => decide (w.src < 8)
  | .counterMirrorWrite => true
  | .powerOnReset => true
  | .brownOutReset => true
  | .pinReset _ => true
  | .watchdogReset => true
  | .deviceReset => true
  | .containerVerified _ => true
  | .initComplete _ loop => decide (loop < 65536)
  | .functionFault fn => decide (fn < 24)
  | .sysStart c => cmdWf c
  | .sysStop c => cmdWf c
  | .sysDeviceReset c => cmdWf c
  | .sysPowerCycle c => cmdWf c
  | .sysKeepAwake c => cmdWf c
  | .sysShutdownNow c => cmdWf c
  | .diEdge n _ _ => decide (n < 40)
  | .dinFifoHiRead _ => true
  | .diWireBreak n _ => decide (n < 40)
  | .diBreakClear ua => decide (ua.n < 40)
  | .fieldSupplyChange g _ => decide (g < 4)
  | .dinReadEdges c => cmdWf c
  | .ainFaultEnter kind n _ => decide (kind < 3) && decide (n < 24)
  | .ain4maTrip n => decide (n < 24)
  | .ain4maReconnect n => decide (n < 24)
  | .supplyTrip i => decide (i < 3)
  | .supplyRetry i => decide (i < 3)
  | .supplyTripCountReset i => decide (i < 3)
  | .ainSupRestartWrite _ _ => true
  | .ainSupRestart c => cmdWf c
  | .ainBridgeTare c => cmdWf c
  | .acuWindowEnd => true
  | .sentFrame ch _ => decide (ch < 16)
  | .sentTimeout ch => decide (ch < 16)
  | .sentSlowMessage ch id ty data crc => decide (ch < 16) && decide (id < 256) && decide (ty < 3) && decide (data < 65536) && decide (crc < 64)
  | .sntSlowTable c => cmdWf c
  | .cstSample => true
  | .cstHoldEnd => true
  | .cstBlockEnd => true
  | .cstLptSample => true
  | .cstOvrWrite _ _ => true
  | .cstSetMode c => cmdWf c
  | .cstOverride c => cmdWf c
  | .cstAccept c => cmdWf c
  | .cstWeights c => cmdWf c
  | .cstReadMf c => cmdWf c
  | .yplSample => true
  | .yplInverseReady => true
  | .yplCalComputeDone => true
  | .yplCalTimeout => true
  | .yplTileLoaded => true
  | .yplCheckpoint => true
  | .yplClosingEnd => true
  | .yplFieldCtrlOpen _ => true
  | .yplFieldCtrlResume _ => true
  | .yplFieldCtrlClose _ => true
  | .yplFieldOpen c => cmdWf c
  | .yplFieldClose c => cmdWf c
  | .yplCalKernel c => cmdWf c
  | .yplKernelSet c => cmdWf c
  | .yplKernelGet c => cmdWf c
  | .yplTileRead c => cmdWf c
  | .yplExport c => cmdWf c
  | .yplExportRead c => cmdWf c
  | .yplWeigh c => cmdWf c
  | .merStIWrite _ m _ => decide (m < 64)
  | .merSetpoint c => cmdWf c
  | .merSetGains c => cmdWf c
  | .merIntSet c => cmdWf c
  | .merReadSlot c => cmdWf c
  | .adrEvtDurWrite _ n _ => decide (n < 48)
  | .adrEventStart n => decide (n < 48)
  | .adrBoostEnd n => decide (n < 48)
  | .adrBoostTimeout n => decide (n < 48)
  | .adrBankIlim k => decide (k < 12)
  | .adrPeakEnd n => decide (n < 48)
  | .adrHoldReached n => decide (n < 48)
  | .adrEventEnd n => decide (n < 48)
  | .adrDecayEnd n => decide (n < 48)
  | .adrDecayTimeout n => decide (n < 48)
  | .adrCloseWindowEnd n => decide (n < 48)
  | .adrDeferTimeout n => decide (n < 48)
  | .adrShort n => decide (n < 48)
  | .adrShortRetry n => decide (n < 48)
  | .adrOpen n _ => decide (n < 48)
  | .adrDitherPeriod n => decide (n < 48)
  | .adrTempEstimateExpiry n => decide (n < 48)
  | .adrChCmdWrite _ n _ => decide (n < 48)
  | .adrFaultWrite _ w _ => decide (w < 2)
  | .adrBoostSpill mv => decide (mv < 65536)
  | .adrEvent c => cmdWf c
  | .adrSetCurrent c => cmdWf c
  | .adrSwitch c => cmdWf c
  | .adrChClear c => cmdWf c
  | .adrReadCh c => cmdWf c
  | .adrBoostSet c => cmdWf c
  | .adrBankSet c => cmdWf c
  | .adrBankRead c => cmdWf c
  | .adrReadMot c => cmdWf c
  | .pswPwmPeriod n => decide (n < 16)
  | .pswInrushEnd n => decide (n < 16)
  | .pswOcTrip ma => decide (ma.n < 16)
  | .pswRetry n => decide (n < 16)
  | .pswRcntReset n => decide (n < 16)
  | .pswThermalTrip n _ => decide (n < 16)
  | .pswUndervoltage g _ => decide (g < 4)
  | .pswUvRestart g _ => decide (g < 4)
  | .pswStaggerTurnOn g => decide (g < 4)
  | .pswBudgetShed g => decide (g < 4)
  | .pswOpenLoad n _ => decide (n < 16)
  | .pswHoldoffEnd n => decide (n < 16)
  | .pswLatchedWrite _ _ => true
  | .pswSwitch c => cmdWf c
  | .pswChClear c => cmdWf c
  | .pswReadCh c => cmdWf c
  | .pswGroupSet c => cmdWf c
  | .trnMsBoundary _ _ => true
  | .trnEpoch _ => true
  | .trnAcqReqWrite _ e _ => decide (e < 2)
  | .trnSweepEnd e _ => decide (e < 2)
  | .trnAcqResCRead _ e => decide (e < 2)
  | .trnPullinEnd n => decide (n < 128)
  | .trnCarrLock n _ => decide (n < 128)
  | .trnLost n => decide (n < 128)
  | .trnCoastEnd n => decide (n < 128)
  | .trnHandoverPass n _ => decide (n < 128)
  | .trnHandoverTimeout n => decide (n < 128)
  | .trnNavUnit n _ => decide (n < 128)
  | .trnAntFault a _ => decide (a < 2)
  | .trnAntRetry a _ => decide (a < 2)
  | .trnRxtHiWrite _ _ => true
  | .trnChannel c => cmdWf c
  | .trnAcquire c => cmdWf c
  | .trnRawOpen c => cmdWf c
  | .trnRawClose c => cmdWf c
  | .trnReadCh c => cmdWf c
  | .posSolution _ => true
  | .posOutput => true
  | .posRtcmFrame src _ => decide (src < 2)
  | .posCorrAgeExpiry => true
  | .posDrExpiry => true
  | .posDiscipline => true
  | .posPps => true
  | .posPpsEnd => true
  | .sentryBurst _ => true
  | .sentrySnapshot _ => true
  | .posRtcm c => cmdWf c
  | .posRtcmSrc c => cmdWf c
  | .posOrigin c => cmdWf c
  | .posSentrySet c => cmdWf c
  | .posSentryRead c => cmdWf c
  | .posSnapSolve c => cmdWf c
  | .posSentryClear c => cmdWf c
  | .camSegment port _ => decide (port < 6)
  | .camFrameCloseTimeout port => decide (port < 6)
  | .camStreamLost port => decide (port < 6)
  | .camIspComplete ctx => decide (ctx < 8)
  | .camEncAuComplete e _ => decide (e < 2)
  | .camLoadUpdate load => decide (load < 1024)
  | .camTblDataAccess _ _ => true
  | .camCtxRelWrite _ ctx _ => decide (ctx < 8)
  | .camEncCmdWrite _ e _ => decide (e < 2)
  | .camEncRdWrite _ e _ => decide (e < 2)
  | .camRingOpen c => cmdWf c
  | .camEncOpen c => cmdWf c
  | .camBuffers c => cmdWf c
  | .camRelease c => cmdWf c
  | .camTableSet c => cmdWf c
  | .camM2mSubmit c _ => cmdWf c
  | .camEncIdr c => cmdWf c
  | .astListPart _ => true
  | .astPartTimeout k => decide (k < 16)
  | .astSubGoWrite _ _ _ => true
  | .astEgoSample => true
  | .astFusionCycle us => decide (us < 65536)
  | .astSourceLost k => decide (k < 16)
  | .astRingOpen c => cmdWf c
  | .astRingClose c => cmdWf c
  | .astList c => cmdWf c
  | .astReadTrack c => cmdWf c
  | .astClear c => cmdWf c
  | .safCycle _ => true
  | .safDiscrepancy i => decide (i < 8)
  | .safSpeedDiscrepancy m => decide (m < 4)
  | .safTestPulse k _ => decide (k < 4)
  | .safStandstill m => decide (m < 4)
  | .safTMaxExpiry => true
  | .safSoTest n _ => decide (n < 4)
  | .safEdmTimeout n => decide (n < 4)
  | .safResetInput i => decide (i < 16)
  | .safetyReset => true
  | .safSelfTestDone _ addr dip _ => decide (addr < 256) && decide (dip < 256)
  | .safReadyCheck => true
  | .safSealChange obj => decide (obj < 10)
  | .safStopReq c => cmdWf c
  | .safReadParams c => cmdWf c
  | .safFaultLog c => cmdWf c
  | .safParamWrite c => cmdWf c
  | .jasperFrameRx n _ => decide (n < 32)
  | .jasperWatchdog n => decide (n < 32)
  | .jasperProduce n => decide (n < 32)
  | .canFrameRx n _ => decide (n < 16)
  | .canTxComplete n _ res => decide (n < 16) && decide (res < 4)
  | .canBusError n dt dr lec => decide (n < 16) && decide (dt < 9) && decide (dr < 9) && decide (lec < 8)
  | .canRecoveryStart n => decide (n < 16)
  | .canRecoveryDone n => decide (n < 16)
  | .canImportTimeout i => decide (i < 64)
  | .canClaimTimeout n => decide (n < 16)
  | .canTxqCtrlWrite _ n _ => decide (n < 16)
  | .canCtrlRecoverWrite _ n => decide (n < 16)
  | .linSlot k => decide (k < 4)
  | .linResponseRx k _ => decide (k < 4)
  | .linResponseTimeout k => decide (k < 4)
  | .canSend c => cmdWf c
  | .canRingOpen c => cmdWf c
  | .canRecover c => cmdWf c
  | .canSleep c => cmdWf c
  | .canExportSet c => cmdWf c
  | .linSleep c => cmdWf c
  | .ethFrameRx _ => true
  | .ethLinkChange k _ => decide (k < 13)
  | .ethPtpSync gm _ => decide (gm < 2^64)
  | .ethSyncTimeout => true
  | .ethSyncSend _ => true
  | .ethServoTrim => true
  | .ethGclGoWrite _ _ => true
  | .ethGclSwitch k => decide (k < 13)
  | .ethGclDataAccess _ _ => true
  | .ethPtpGLoRead _ => true
  | .serFrameEnd n _ => decide (n < 10)
  | .ethTimeGet c => cmdWf c
  | .ethGclSet c => cmdWf c
  | .ethTrimSet c => cmdWf c
  | .ethSerOpen c => cmdWf c
  | .ethSerSend c => cmdWf c
  | .pairBeaconRx _ _ _ => true
  | .pairCanBeacon => true
  | .pairLeaseExpiry => true
  | .pairGuardEnd => true
  | .pairAliveChange _ _ => true
  | .pairPeerDeadEnd => true
  | .pairPartitionTimeout => true
  | .pairSoloTimeout => true
  | .pairCopyRx _ => true
  | .pairGateConfirm _ => true
  | .pairRevertHoldExpiry => true
  | .pairSwap c => cmdWf c
  | .pairRevert c => cmdWf c
  | .fltHeartbeat => true
  | .fltParentLost => true
  | .fltHandshake _ => true
  | .fltHandshakeRetry => true
  | .fltKeyUpdate => true
  | .fltHeartbeatRx _ => true
  | .fltCoverageSend => true
  | .fltCoverageRx _ _ => true
  | .fltRtcmRx _ _ => true
  | .fltRdvSend => true
  | .fltRdvRx _ group _ => decide (group < 256)
  | .fltBroadcastRx _ _ => true
  | .fltBarrierRx _ _ tag _ => decide (tag < 2^32)
  | .fltMarkerRx _ _ _ => true
  | .fltReportRx _ _ => true
  | .fltReportDeadline => true
  | .fltCaSet c => cmdWf c
  | .fltArrive c => cmdWf c
  | .fltRdvOpen c => cmdWf c
  | .fltTileUpload c => cmdWf c
  | .fltSentryUpload c => cmdWf c
  | .recEventPost => true
  | .recSnapshotRead => true
  | .recOpenTimeout => true
  | .recCommit _ => true
  | .recEraseDone => true
  | .recFreezeTimeout k => decide (k < 16)
  | .recAlarmToken => true
  | .recAlarmSummary => true
  | .recRead c => cmdWf c
  | .recFreeze c => cmdWf c
  | .recFlush c => cmdWf c
  | .recPost c => cmdWf c
  | .recClassSet c => cmdWf c
  | .recClassGet c => cmdWf c
  | .recCatalogue c => cmdWf c
  | .pnlCmdUpdate _ _ loop => decide (loop < 65536)
  | .pnlLineDone => true
  | .pnlAutoUpdate loop => decide (loop < 65536)
  | .pnlCrackCheck loop => decide (loop < 65536)
  | .pnlBlinkToggle q => decide (q < 4)
  | .pnlFbDataAccess _ _ => true
  | .pnlText c => cmdWf c
  | .pnlBitmap c => cmdWf c
  | .pnlBlink c => cmdWf c
  | .pnlUpdate c loop => cmdWf c && decide (loop < 65536)
  | .updBegin c => cmdWf c
  | .updBlock c fails => cmdWf c && decide (fails < 3)
  | .updEnd c => cmdWf c
  | .updActivate c => cmdWf c
  | .updAbort c => cmdWf c
  | .updKeyoffWaitExpiry => true
  | .prmCompactionDone => true
  | .prmCalExport c => cmdWf c
  | .prmCalWrite c => cmdWf c
  | .prmConfigExport c => cmdWf c
  | .prmConfigImport c => cmdWf c
  | .prmSet c => cmdWf c
  | .pllLock => true
  | .ethSwitchReload => true
  | .aonPowerLoss => true
  | .pwrHoldRelease => true
  | .ainConversion n _ => decide (n < 24)
  | .bridgeCode k _ => decide (k < 4)
  | .speedEdge j _ _ _ => decide (j < 12)
  | .acuImpact a _ => decide (a < 8)
  | .adrRegulationDecision n x => decide (n < 48) && decide (x < 4096)
  | .boostConverterSwitch mv _ => decide (mv < 65536)
  | .posInertialSample _ => true
  | .ispStripeComplete _ _ => true
  | .ethGateInterval k => decide (k < 13)
  | .serTransmitDone n => decide (n < 10)
  | .usbVbusOvercurrent u _ => decide (u < 2)
  | .pairLinkChange _ => true
  | .classCCommandDone fn => decide (fn < 24)

end Sys2Proof
end

