-- ==== Sys2Proof/Laws/PerInstr.lean ====
section
/-!
SUPPORT. One lemma per constructor of Instr, for statements about all commands: a well-formed command carries a mailbox slot whose
header fields fit (R41).
-/
set_option Elab.async false
namespace Sys2Proof.Laws.Indexed

/-- The mailbox slots a command carries. -/
def slots : Instr → List Cmd
  | .controlTick => []
  | .pairCycleBoundary _ => []
  | .speedZeroTimeout _ => []
  | .registerWrite _ _ _ _ => []
  | .bitAliasAccess _ _ _ => []
  | .guardFirstWrite _ _ _ => []
  | .guardCompanionWrite _ _ _ => []
  | .guardTimeout _ _ => []
  | .stallWatchdog _ _ _ => []
  | .fabSigHostWrite _ _ => []
  | .sigHostAgeExpiry _ => []
  | .tbNowLoRead _ => []
  | .tbTickCountLoRead _ => []
  | .updStrobeWrite _ _ => []
  | .fabUgCfgWrite _ _ _ => []
  | .ugTbcmpStrobe _ => []
  | .globalSnapshot _ _ => []
  | .sysBootlockWrite _ _ => []
  | .mbxClaimRead _ => []
  | .claimReservationLapse _ => []
  | .bootstrapRingPlacement _ => []
  | .sessionRingPlacement _ => []
  | .mbxQProdWrite _ _ _ => []
  | .mbxQConsWrite _ _ => []
  | .irqHoldoffExpiry => []
  | .notifHoldoffExpiry _ _ => []
  | .kmpDatagramRx _ _ _ => []
  | .ipv4ReassemblyTimeout _ _ => []
  | .udpDataResend _ => []
  | .linkOpenKeepExpiry _ _ => []
  | .authBlockExpiry _ => []
  | .sessionIdleTimeout _ _ => []
  | .progressNotify _ _ => []
  | .getInfo _ c => [c]
  | .getStatus _ c => [c]
  | .configure _ c => [c]
  | .apply _ c => [c]
  | .start _ c => [c]
  | .stop _ c => [c]
  | .reinit _ c _ => [c]
  | .reinitComplete _ _ => []
  | .setExpert _ c _ => [c]
  | .expertTransfer _ => []
  | .linkOpen c => [c]
  | .linkAuth c => [c]
  | .linkClose c _ => [c]
  | .linkPing c => [c]
  | .linkSubscribe c => [c]
  | .linkDataAck c => [c]
  | .linkKeySet c => [c]
  | .supplyDipBegin _ _ => []
  | .supplyDipEnd _ _ => []
  | .vrstShed _ => []
  | .vbatRiseVrst _ => []
  | .holdupRecovered => []
  | .holdupExpiry => []
  | .overvoltageShed _ => []
  | .overvoltageRecover _ => []
  | .pswGroupOvervoltage _ _ => []
  | .clockLoss _ => []
  | .xtal32Fail => []
  | .tempThreshold _ _ => []
  | .keyOff => []
  | .keyOn => []
  | .keyoffShutdown _ => []
  | .keyoffFinal _ => []
  | .keepAwakeExpiry _ => []
  | .standbyTimeout _ => []
  | .sentryAonLow _ _ => []
  | .powerOffHoldEnd => []
  | .wake _ => []
  | .counterMirrorWrite => []
  | .powerOnReset => []
  | .brownOutReset => []
  | .pinReset _ => []
  | .watchdogReset => []
  | .deviceReset => []
  | .containerVerified _ => []
  | .initComplete _ _ => []
  | .functionFault _ => []
  | .sysStart c => [c]
  | .sysStop c => [c]
  | .sysDeviceReset c => [c]
  | .sysPowerCycle c => [c]
  | .sysKeepAwake c => [c]
  | .sysShutdownNow c => [c]
  | .diEdge _ _ _ => []
  | .dinFifoHiRead _ => []
  | .diWireBreak _ _ => []
  | .diBreakClear _ => []
  | .fieldSupplyChange _ _ => []
  | .dinReadEdges c => [c]
  | .ainFaultEnter _ _ _ => []
  | .ain4maTrip _ => []
  | .ain4maReconnect _ => []
  | .supplyTrip _ => []
  | .supplyRetry _ => []
  | .supplyTripCountReset _ => []
  | .ainSupRestartWrite _ _ => []
  | .ainSupRestart c => [c]
  | .ainBridgeTare c => [c]
  | .acuWindowEnd => []
  | .sentFrame _ _ => []
  | .sentTimeout _ => []
  | .sentSlowMessage _ _ _ _ _ => []
  | .sntSlowTable c => [c]
  | .cstSample => []
  | .cstHoldEnd => []
  | .cstBlockEnd => []
  | .cstLptSample => []
  | .cstOvrWrite _ _ => []
  | .cstSetMode c => [c]
  | .cstOverride c => [c]
  | .cstAccept c => [c]
  | .cstWeights c => [c]
  | .cstReadMf c => [c]
  | .yplSample => []
  | .yplInverseReady => []
  | .yplCalComputeDone => []
  | .yplCalTimeout => []
  | .yplTileLoaded => []
  | .yplCheckpoint => []
  | .yplClosingEnd => []
  | .yplFieldCtrlOpen _ => []
  | .yplFieldCtrlResume _ => []
  | .yplFieldCtrlClose _ => []
  | .yplFieldOpen c => [c]
  | .yplFieldClose c => [c]
  | .yplCalKernel c => [c]
  | .yplKernelSet c => [c]
  | .yplKernelGet c => [c]
  | .yplTileRead c => [c]
  | .yplExport c => [c]
  | .yplExportRead c => [c]
  | .yplWeigh c => [c]
  | .merStIWrite _ _ _ => []
  | .merSetpoint c => [c]
  | .merSetGains c => [c]
  | .merIntSet c => [c]
  | .merReadSlot c => [c]
  | .adrEvtDurWrite _ _ _ => []
  | .adrEventStart _ => []
  | .adrBoostEnd _ => []
  | .adrBoostTimeout _ => []
  | .adrBankIlim _ => []
  | .adrPeakEnd _ => []
  | .adrHoldReached _ => []
  | .adrEventEnd _ => []
  | .adrDecayEnd _ => []
  | .adrDecayTimeout _ => []
  | .adrCloseWindowEnd _ => []
  | .adrDeferTimeout _ => []
  | .adrShort _ => []
  | .adrShortRetry _ => []
  | .adrOpen _ _ => []
  | .adrDitherPeriod _ => []
  | .adrTempEstimateExpiry _ => []
  | .adrChCmdWrite _ _ _ => []
  | .adrFaultWrite _ _ _ => []
  | .adrBoostSpill _ => []
  | .adrEvent c => [c]
  | .adrSetCurrent c => [c]
  | .adrSwitch c => [c]
  | .adrChClear c => [c]
  | .adrReadCh c => [c]
  | .adrBoostSet c => [c]
  | .adrBankSet c => [c]
  | .adrBankRead c => [c]
  | .adrReadMot c => [c]
  | .pswPwmPeriod _ => []
  | .pswInrushEnd _ => []
  | .pswOcTrip _ => []
  | .pswRetry _ => []
  | .pswRcntReset _ => []
  | .pswThermalTrip _ _ => []
  | .pswUndervoltage _ _ => []
  | .pswUvRestart _ _ => []
  | .pswStaggerTurnOn _ => []
  | .pswBudgetShed _ => []
  | .pswOpenLoad _ _ => []
  | .pswHoldoffEnd _ => []
  | .pswLatchedWrite _ _ => []
  | .pswSwitch c => [c]
  | .pswChClear c => [c]
  | .pswReadCh c => [c]
  | .pswGroupSet c => [c]
  | .trnMsBoundary _ _ => []
  | .trnEpoch _ => []
  | .trnAcqReqWrite _ _ _ => []
  | .trnSweepEnd _ _ => []
  | .trnAcqResCRead _ _ => []
  | .trnPullinEnd _ => []
  | .trnCarrLock _ _ => []
  | .trnLost _ => []
  | .trnCoastEnd _ => []
  | .trnHandoverPass _ _ => []
  | .trnHandoverTimeout _ => []
  | .trnNavUnit _ _ => []
  | .trnAntFault _ _ => []
  | .trnAntRetry _ _ => []
  | .trnRxtHiWrite _ _ => []
  | .trnChannel c => [c]
  | .trnAcquire c => [c]
  | .trnRawOpen c => [c]
  | .trnRawClose c => [c]
  | .trnReadCh c => [c]
  | .posSolution _ => []
  | .posOutput => []
  | .posRtcmFrame _ _ => []
  | .posCorrAgeExpiry => []
  | .posDrExpiry => []
  | .posDiscipline => []
  | .posPps => []
  | .posPpsEnd => []
  | .sentryBurst _ => []
  | .sentrySnapshot _ => []
  | .posRtcm c => [c]
  | .posRtcmSrc c => [c]
  | .posOrigin c => [c]
  | .posSentrySet c => [c]
  | .posSentryRead c => [c]
  | .posSnapSolve c => [c]
  | .posSentryClear c => [c]
  | .camSegment _ _ => []
  | .camFrameCloseTimeout _ => []
  | .camStreamLost _ => []
  | .camIspComplete _ => []
  | .camEncAuComplete _ _ => []
  | .camLoadUpdate _ => []
  | .camTblDataAccess _ _ => []
  | .camCtxRelWrite _ _ _ => []
  | .camEncCmdWrite _ _ _ => []
  | .camEncRdWrite _ _ _ => []
  | .camRingOpen c => [c]
  | .camEncOpen c => [c]
  | .camBuffers c => [c]
  | .camRelease c => [c]
  | .camTableSet c => [c]
  | .camM2mSubmit c _ => [c]
  | .camEncIdr c => [c]
  | .astListPart _ => []
  | .astPartTimeout _ => []
  | .astSubGoWrite _ _ _ => []
  | .astEgoSample => []
  | .astFusionCycle _ => []
  | .astSourceLost _ => []
  | .astRingOpen c => [c]
  | .astRingClose c => [c]
  | .astList c => [c]
  | .astReadTrack c => [c]
  | .astClear c => [c]
  | .safCycle _ => []
  | .safDiscrepancy _ => []
  | .safSpeedDiscrepancy _ => []
  | .safTestPulse _ _ => []
  | .safStandstill _ => []
  | .safTMaxExpiry => []
  | .safSoTest _ _ => []
  | .safEdmTimeout _ => []
  | .safResetInput _ => []
  | .safetyReset => []
  | .safSelfTestDone _ _ _ _ => []
  | .safReadyCheck => []
  | .safSealChange _ => []
  | .safStopReq c => [c]
  | .safReadParams c => [c]
  | .safFaultLog c => [c]
  | .safParamWrite c => [c]
  | .jasperFrameRx _ _ => []
  | .jasperWatchdog _ => []
  | .jasperProduce _ => []
  | .canFrameRx _ _ => []
  | .canTxComplete _ _ _ => []
  | .canBusError _ _ _ _ => []
  | .canRecoveryStart _ => []
  | .canRecoveryDone _ => []
  | .canImportTimeout _ => []
  | .canClaimTimeout _ => []
  | .canTxqCtrlWrite _ _ _ => []
  | .canCtrlRecoverWrite _ _ => []
  | .linSlot _ => []
  | .linResponseRx _ _ => []
  | .linResponseTimeout _ => []
  | .canSend c => [c]
  | .canRingOpen c => [c]
  | .canRecover c => [c]
  | .canSleep c => [c]
  | .canExportSet c => [c]
  | .linSleep c => [c]
  | .ethFrameRx _ => []
  | .ethLinkChange _ _ => []
  | .ethPtpSync _ _ => []
  | .ethSyncTimeout => []
  | .ethSyncSend _ => []
  | .ethServoTrim => []
  | .ethGclGoWrite _ _ => []
  | .ethGclSwitch _ => []
  | .ethGclDataAccess _ _ => []
  | .ethPtpGLoRead _ => []
  | .serFrameEnd _ _ => []
  | .ethTimeGet c => [c]
  | .ethGclSet c => [c]
  | .ethTrimSet c => [c]
  | .ethSerOpen c => [c]
  | .ethSerSend c => [c]
  | .pairBeaconRx _ _ _ => []
  | .pairCanBeacon => []
  | .pairLeaseExpiry => []
  | .pairGuardEnd => []
  | .pairAliveChange _ _ => []
  | .pairPeerDeadEnd => []
  | .pairPartitionTimeout => []
  | .pairSoloTimeout => []
  | .pairCopyRx _ => []
  | .pairGateConfirm _ => []
  | .pairRevertHoldExpiry => []
  | .pairSwap c => [c]
  | .pairRevert c => [c]
  | .fltHeartbeat => []
  | .fltParentLost => []
  | .fltHandshake _ => []
  | .fltHandshakeRetry => []
  | .fltKeyUpdate => []
  | .fltHeartbeatRx _ => []
  | .fltCoverageSend => []
  | .fltCoverageRx _ _ => []
  | .fltRtcmRx _ _ => []
  | .fltRdvSend => []
  | .fltRdvRx _ _ _ => []
  | .fltBroadcastRx _ _ => []
  | .fltBarrierRx _ _ _ _ => []
  | .fltMarkerRx _ _ _ => []
  | .fltReportRx _ _ => []
  | .fltReportDeadline => []
  | .fltCaSet c => [c]
  | .fltArrive c => [c]
  | .fltRdvOpen c => [c]
  | .fltTileUpload c => [c]
  | .fltSentryUpload c => [c]
  | .recEventPost => []
  | .recSnapshotRead => []
  | .recOpenTimeout => []
  | .recCommit _ => []
  | .recEraseDone => []
  | .recFreezeTimeout _ => []
  | .recAlarmToken => []
  | .recAlarmSummary => []
  | .recRead c => [c]
  | .recFreeze c => [c]
  | .recFlush c => [c]
  | .recPost c => [c]
  | .recClassSet c => [c]
  | .recClassGet c => [c]
  | .recCatalogue c => [c]
  | .pnlCmdUpdate _ _ _ => []
  | .pnlLineDone => []
  | .pnlAutoUpdate _ => []
  | .pnlCrackCheck _ => []
  | .pnlBlinkToggle _ => []
  | .pnlFbDataAccess _ _ => []
  | .pnlText c => [c]
  | .pnlBitmap c => [c]
  | .pnlBlink c => [c]
  | .pnlUpdate c _ => [c]
  | .updBegin c => [c]
  | .updBlock c _ => [c]
  | .updEnd c => [c]
  | .updActivate c => [c]
  | .updAbort c => [c]
  | .updKeyoffWaitExpiry => []
  | .prmCompactionDone => []
  | .prmCalExport c => [c]
  | .prmCalWrite c => [c]
  | .prmConfigExport c => [c]
  | .prmConfigImport c => [c]
  | .prmSet c => [c]
  | .pllLock => []
  | .ethSwitchReload => []
  | .aonPowerLoss => []
  | .pwrHoldRelease => []
  | .ainConversion _ _ => []
  | .bridgeCode _ _ => []
  | .speedEdge _ _ _ _ => []
  | .acuImpact _ _ => []
  | .adrRegulationDecision _ _ => []
  | .boostConverterSwitch _ _ => []
  | .posInertialSample _ => []
  | .ispStripeComplete _ _ => []
  | .ethGateInterval _ => []
  | .serTransmitDone _ => []
  | .usbVbusOvercurrent _ _ => []
  | .pairLinkChange _ => []
  | .classCCommandDone _ => []

/-- A well-formed command carries slots whose session index, sequence number and length fit their fields. -/
def Statement (i : Instr) : Prop := i.wf = true → ∀ c ∈ slots i, cmdWf c = true

theorem none_carried {i : Instr} (h : slots i = []) : Statement i := by
  intro _ c hc; rw [h] at hc; cases hc

theorem one_carried {i : Instr} {c : Cmd} (h : slots i = [c]) (hw : i.wf = true → cmdWf c = true) : Statement i := by
  intro hi d hd; rw [h, List.mem_singleton] at hd; rw [hd]; exact hw hi

theorem controlTick : Statement (.controlTick) := none_carried rfl
theorem pairCycleBoundary (a0 : Measure) : Statement (.pairCycleBoundary a0) := none_carried rfl
theorem speedZeroTimeout (a0 : Nat) : Statement (.speedZeroTimeout a0) := none_carried rfl
theorem registerWrite (a0 : Initiator) (a1 : Nat) (a2 : Nat) (a3 : BitVec 64) : Statement (.registerWrite a0 a1 a2 a3) := none_carried rfl
theorem bitAliasAccess (a0 : Initiator) (a1 : Nat) (a2 : Option Word) : Statement (.bitAliasAccess a0 a1 a2) := none_carried rfl
theorem guardFirstWrite (a0 : Initiator) (a1 : Nat) (a2 : Word) : Statement (.guardFirstWrite a0 a1 a2) := none_carried rfl
theorem guardCompanionWrite (a0 : Initiator) (a1 : Nat) (a2 : Word) : Statement (.guardCompanionWrite a0 a1 a2) := none_carried rfl
theorem guardTimeout (a0 : Initiator) (a1 : Nat) : Statement (.guardTimeout a0 a1) := none_carried rfl
theorem stallWatchdog (a0 : Initiator) (a1 : Nat) (a2 : Bool) : Statement (.stallWatchdog a0 a1 a2) := none_carried rfl
theorem fabSigHostWrite (a0 : Nat) (a1 : Word) : Statement (.fabSigHostWrite a0 a1) := none_carried rfl
theorem sigHostAgeExpiry (a0 : Nat) : Statement (.sigHostAgeExpiry a0) := none_carried rfl
theorem tbNowLoRead (a0 : Initiator) : Statement (.tbNowLoRead a0) := none_carried rfl
theorem tbTickCountLoRead (a0 : Initiator) : Statement (.tbTickCountLoRead a0) := none_carried rfl
theorem updStrobeWrite (a0 : Initiator) (a1 : Word) : Statement (.updStrobeWrite a0 a1) := none_carried rfl
theorem fabUgCfgWrite (a0 : Initiator) (a1 : Nat) (a2 : Word) : Statement (.fabUgCfgWrite a0 a1 a2) := none_carried rfl
theorem ugTbcmpStrobe (a0 : Nat) : Statement (.ugTbcmpStrobe a0) := none_carried rfl
theorem globalSnapshot (a0 : Initiator) (a1 : Word) : Statement (.globalSnapshot a0 a1) := none_carried rfl
theorem sysBootlockWrite (a0 : Initiator) (a1 : Word) : Statement (.sysBootlockWrite a0 a1) := none_carried rfl
theorem mbxClaimRead (a0 : Initiator) : Statement (.mbxClaimRead a0) := none_carried rfl
theorem claimReservationLapse (a0 : Nat) : Statement (.claimReservationLapse a0) := none_carried rfl
theorem bootstrapRingPlacement (a0 : Nat) : Statement (.bootstrapRingPlacement a0) := none_carried rfl
theorem sessionRingPlacement (a0 : Nat) : Statement (.sessionRingPlacement a0) := none_carried rfl
theorem mbxQProdWrite (a0 : Nat) (a1 : Word) (a2 : List HostSlot) : Statement (.mbxQProdWrite a0 a1 a2) := none_carried rfl
theorem mbxQConsWrite (a0 : Nat) (a1 : Word) : Statement (.mbxQConsWrite a0 a1) := none_carried rfl
theorem irqHoldoffExpiry : Statement (.irqHoldoffExpiry) := none_carried rfl
theorem notifHoldoffExpiry (a0 : Nat) (a1 : Nat) : Statement (.notifHoldoffExpiry a0 a1) := none_carried rfl
theorem kmpDatagramRx (a0 : Nat) (a1 : Nat) (a2 : List Byte) : Statement (.kmpDatagramRx a0 a1 a2) := none_carried rfl
theorem ipv4ReassemblyTimeout (a0 : Nat) (a1 : Nat) : Statement (.ipv4ReassemblyTimeout a0 a1) := none_carried rfl
theorem udpDataResend (a0 : Nat) : Statement (.udpDataResend a0) := none_carried rfl
theorem linkOpenKeepExpiry (a0 : Nat) (a1 : Nat) : Statement (.linkOpenKeepExpiry a0 a1) := none_carried rfl
theorem authBlockExpiry (a0 : Nat) : Statement (.authBlockExpiry a0) := none_carried rfl
theorem sessionIdleTimeout (a0 : Nat) (a1 : Nat) : Statement (.sessionIdleTimeout a0 a1) := none_carried rfl
theorem progressNotify (a0 : Nat) (a1 : Nat) : Statement (.progressNotify a0 a1) := none_carried rfl
theorem getInfo (a0 : Nat) (c : Cmd) : Statement (.getInfo a0 c) := one_carried rfl (fun h => (Bool.and_eq_true_iff.1 h).2)
theorem getStatus (a0 : Nat) (c : Cmd) : Statement (.getStatus a0 c) := one_carried rfl (fun h => (Bool.and_eq_true_iff.1 h).2)
theorem configure (a0 : Nat) (c : Cmd) : Statement (.configure a0 c) := one_carried rfl (fun h => (Bool.and_eq_true_iff.1 h).2)
theorem apply (a0 : Nat) (c : Cmd) : Statement (.apply a0 c) := one_carried rfl (fun h => (Bool.and_eq_true_iff.1 h).2)
theorem start (a0 : Nat) (c : Cmd) : Statement (.start a0 c) := one_carried rfl (fun h => (Bool.and_eq_true_iff.1 h).2)
theorem stop (a0 : Nat) (c : Cmd) : Statement (.stop a0 c) := one_carried rfl (fun h => (Bool.and_eq_true_iff.1 h).2)
theorem reinit (a0 : Nat) (c : Cmd) (a2 : Nat) : Statement (.reinit a0 c a2) :=
  one_carried rfl (fun h => (Bool.and_eq_true_iff.1 (Bool.and_eq_true_iff.1 h).1).2)
theorem reinitComplete (a0 : Nat) (a1 : Bool) : Statement (.reinitComplete a0 a1) := none_carried rfl
theorem setExpert (a0 : Nat) (c : Cmd) (a2 : Nat) : Statement (.setExpert a0 c a2) :=
  one_carried rfl (fun h => (Bool.and_eq_true_iff.1 (Bool.and_eq_true_iff.1 h).1).2)
theorem expertTransfer (a0 : Nat) : Statement (.expertTransfer a0) := none_carried rfl
theorem linkOpen (c : Cmd) : Statement (.linkOpen c) := one_carried rfl (fun h => h)
theorem linkAuth (c : Cmd) : Statement (.linkAuth c) := one_carried rfl (fun h => h)
theorem linkClose (c : Cmd) (a1 : Nat) : Statement (.linkClose c a1) := one_carried rfl (fun h => (Bool.and_eq_true_iff.1 h).1)
theorem linkPing (c : Cmd) : Statement (.linkPing c) := one_carried rfl (fun h => h)
theorem linkSubscribe (c : Cmd) : Statement (.linkSubscribe c) := one_carried rfl (fun h => h)
theorem linkDataAck (c : Cmd) : Statement (.linkDataAck c) := one_carried rfl (fun h => h)
theorem linkKeySet (c : Cmd) : Statement (.linkKeySet c) := one_carried rfl (fun h => h)
theorem supplyDipBegin (a0 : Nat) (a1 : Nat) : Statement (.supplyDipBegin a0 a1) := none_carried rfl
theorem supplyDipEnd (a0 : Nat) (a1 : Nat) : Statement (.supplyDipEnd a0 a1) := none_carried rfl
theorem vrstShed (a0 : Nat) : Statement (.vrstShed a0) := none_carried rfl
theorem vbatRiseVrst (a0 : Nat) : Statement (.vbatRiseVrst a0) := none_carried rfl
theorem holdupRecovered : Statement (.holdupRecovered) := none_carried rfl
theorem holdupExpiry : Statement (.holdupExpiry) := none_carried rfl
theorem overvoltageShed (a0 : Nat) : Statement (.overvoltageShed a0) := none_carried rfl
theorem overvoltageRecover (a0 : Nat) : Statement (.overvoltageRecover a0) := none_carried rfl
theorem pswGroupOvervoltage (a0 : Nat) (a1 : Nat) : Statement (.pswGroupOvervoltage a0 a1) := none_carried rfl
theorem clockLoss (a0 : Bool) : Statement (.clockLoss a0) := none_carried rfl
theorem xtal32Fail : Statement (.xtal32Fail) := none_carried rfl
theorem tempThreshold (a0 : Nat) (a1 : Int) : Statement (.tempThreshold a0 a1) := none_carried rfl
theorem keyOff : Statement (.keyOff) := none_carried rfl
theorem keyOn : Statement (.keyOn) := none_carried rfl
theorem keyoffShutdown (a0 : Nat) : Statement (.keyoffShutdown a0) := none_carried rfl
theorem keyoffFinal (a0 : Bool) : Statement (.keyoffFinal a0) := none_carried rfl
theorem keepAwakeExpiry (a0 : Nat) : Statement (.keepAwakeExpiry a0) := none_carried rfl
theorem standbyTimeout (a0 : Nat) : Statement (.standbyTimeout a0) := none_carried rfl
theorem sentryAonLow (a0 : Nat) (a1 : Nat) : Statement (.sentryAonLow a0 a1) := none_carried rfl
theorem powerOffHoldEnd : Statement (.powerOffHoldEnd) := none_carried rfl
theorem wake (a0 : WakeIn) : Statement (.wake a0) := none_carried rfl
theorem counterMirrorWrite : Statement (.counterMirrorWrite) := none_carried rfl
theorem powerOnReset : Statement (.powerOnReset) := none_carried rfl
theorem brownOutReset : Statement (.brownOutReset) := none_carried rfl
theorem pinReset (a0 : Nat) : Statement (.pinReset a0) := none_carried rfl
theorem watchdogReset : Statement (.watchdogReset) := none_carried rfl
theorem deviceReset : Statement (.deviceReset) := none_carried rfl
theorem containerVerified (a0 : Bool) : Statement (.containerVerified a0) := none_carried rfl
theorem initComplete (a0 : Nat) (a1 : Nat) : Statement (.initComplete a0 a1) := none_carried rfl
theorem functionFault (a0 : Nat) : Statement (.functionFault a0) := none_carried rfl
theorem sysStart (c : Cmd) : Statement (.sysStart c) := one_carried rfl (fun h => h)
theorem sysStop (c : Cmd) : Statement (.sysStop c) := one_carried rfl (fun h => h)
theorem sysDeviceReset (c : Cmd) : Statement (.sysDeviceReset c) := one_carried rfl (fun h => h)
theorem sysPowerCycle (c : Cmd) : Statement (.sysPowerCycle c) := one_carried rfl (fun h => h)
theorem sysKeepAwake (c : Cmd) : Statement (.sysKeepAwake c) := one_carried rfl (fun h => h)
theorem sysShutdownNow (c : Cmd) : Statement (.sysShutdownNow c) := one_carried rfl (fun h => h)
theorem diEdge (a0 : Nat) (a1 : Bool) (a2 : Sample) : Statement (.diEdge a0 a1 a2) := none_carried rfl
theorem dinFifoHiRead (a0 : Initiator) : Statement (.dinFifoHiRead a0) := none_carried rfl
theorem diWireBreak (a0 : Nat) (a1 : Sample) : Statement (.diWireBreak a0 a1) := none_carried rfl
theorem diBreakClear (a0 : Reading) : Statement (.diBreakClear a0) := none_carried rfl
theorem fieldSupplyChange (a0 : Nat) (a1 : Nat) : Statement (.fieldSupplyChange a0 a1) := none_carried rfl
theorem dinReadEdges (c : Cmd) : Statement (.dinReadEdges c) := one_carried rfl (fun h => h)
theorem ainFaultEnter (a0 : Nat) (a1 : Nat) (a2 : Bool) : Statement (.ainFaultEnter a0 a1 a2) := none_carried rfl
theorem ain4maTrip (a0 : Nat) : Statement (.ain4maTrip a0) := none_carried rfl
theorem ain4maReconnect (a0 : Nat) : Statement (.ain4maReconnect a0) := none_carried rfl
theorem supplyTrip (a0 : Nat) : Statement (.supplyTrip a0) := none_carried rfl
theorem supplyRetry (a0 : Nat) : Statement (.supplyRetry a0) := none_carried rfl
theorem supplyTripCountReset (a0 : Nat) : Statement (.supplyTripCountReset a0) := none_carried rfl
theorem ainSupRestartWrite (a0 : Initiator) (a1 : Word) : Statement (.ainSupRestartWrite a0 a1) := none_carried rfl
theorem ainSupRestart (c : Cmd) : Statement (.ainSupRestart c) := one_carried rfl (fun h => h)
theorem ainBridgeTare (c : Cmd) : Statement (.ainBridgeTare c) := one_carried rfl (fun h => h)
theorem acuWindowEnd : Statement (.acuWindowEnd) := none_carried rfl
theorem sentFrame (a0 : Nat) (a1 : SentRx) : Statement (.sentFrame a0 a1) := none_carried rfl
theorem sentTimeout (a0 : Nat) : Statement (.sentTimeout a0) := none_carried rfl
theorem sentSlowMessage (a0 : Nat) (a1 : Nat) (a2 : Nat) (a3 : Nat) (a4 : Nat) : Statement (.sentSlowMessage a0 a1 a2 a3 a4) := none_carried rfl
theorem sntSlowTable (c : Cmd) : Statement (.sntSlowTable c) := one_carried rfl (fun h => h)
theorem cstSample : Statement (.cstSample) := none_carried rfl
theorem cstHoldEnd : Statement (.cstHoldEnd) := none_carried rfl
theorem cstBlockEnd : Statement (.cstBlockEnd) := none_carried rfl
theorem cstLptSample : Statement (.cstLptSample) := none_carried rfl
theorem cstOvrWrite (a0 : Initiator) (a1 : Word) : Statement (.cstOvrWrite a0 a1) := none_carried rfl
theorem cstSetMode (c : Cmd) : Statement (.cstSetMode c) := one_carried rfl (fun h => h)
theorem cstOverride (c : Cmd) : Statement (.cstOverride c) := one_carried rfl (fun h => h)
theorem cstAccept (c : Cmd) : Statement (.cstAccept c) := one_carried rfl (fun h => h)
theorem cstWeights (c : Cmd) : Statement (.cstWeights c) := one_carried rfl (fun h => h)
theorem cstReadMf (c : Cmd) : Statement (.cstReadMf c) := one_carried rfl (fun h => h)
theorem yplSample : Statement (.yplSample) := none_carried rfl
theorem yplInverseReady : Statement (.yplInverseReady) := none_carried rfl
theorem yplCalComputeDone : Statement (.yplCalComputeDone) := none_carried rfl
theorem yplCalTimeout : Statement (.yplCalTimeout) := none_carried rfl
theorem yplTileLoaded : Statement (.yplTileLoaded) := none_carried rfl
theorem yplCheckpoint : Statement (.yplCheckpoint) := none_carried rfl
theorem yplClosingEnd : Statement (.yplClosingEnd) := none_carried rfl
theorem yplFieldCtrlOpen (a0 : Initiator) : Statement (.yplFieldCtrlOpen a0) := none_carried rfl
theorem yplFieldCtrlResume (a0 : Initiator) : Statement (.yplFieldCtrlResume a0) := none_carried rfl
theorem yplFieldCtrlClose (a0 : Initiator) : Statement (.yplFieldCtrlClose a0) := none_carried rfl
theorem yplFieldOpen (c : Cmd) : Statement (.yplFieldOpen c) := one_carried rfl (fun h => h)
theorem yplFieldClose (c : Cmd) : Statement (.yplFieldClose c) := one_carried rfl (fun h => h)
theorem yplCalKernel (c : Cmd) : Statement (.yplCalKernel c) := one_carried rfl (fun h => h)
theorem yplKernelSet (c : Cmd) : Statement (.yplKernelSet c) := one_carried rfl (fun h => h)
theorem yplKernelGet (c : Cmd) : Statement (.yplKernelGet c) := one_carried rfl (fun h => h)
theorem yplTileRead (c : Cmd) : Statement (.yplTileRead c) := one_carried rfl (fun h => h)
theorem yplExport (c : Cmd) : Statement (.yplExport c) := one_carried rfl (fun h => h)
theorem yplExportRead (c : Cmd) : Statement (.yplExportRead c) := one_carried rfl (fun h => h)
theorem yplWeigh (c : Cmd) : Statement (.yplWeigh c) := one_carried rfl (fun h => h)
theorem merStIWrite (a0 : Initiator) (a1 : Nat) (a2 : Word) : Statement (.merStIWrite a0 a1 a2) := none_carried rfl
theorem merSetpoint (c : Cmd) : Statement (.merSetpoint c) := one_carried rfl (fun h => h)
theorem merSetGains (c : Cmd) : Statement (.merSetGains c) := one_carried rfl (fun h => h)
theorem merIntSet (c : Cmd) : Statement (.merIntSet c) := one_carried rfl (fun h => h)
theorem merReadSlot (c : Cmd) : Statement (.merReadSlot c) := one_carried rfl (fun h => h)
theorem adrEvtDurWrite (a0 : Initiator) (a1 : Nat) (a2 : Word) : Statement (.adrEvtDurWrite a0 a1 a2) := none_carried rfl
theorem adrEventStart (a0 : Nat) : Statement (.adrEventStart a0) := none_carried rfl
theorem adrBoostEnd (a0 : Nat) : Statement (.adrBoostEnd a0) := none_carried rfl
theorem adrBoostTimeout (a0 : Nat) : Statement (.adrBoostTimeout a0) := none_carried rfl
theorem adrBankIlim (a0 : Nat) : Statement (.adrBankIlim a0) := none_carried rfl
theorem adrPeakEnd (a0 : Nat) : Statement (.adrPeakEnd a0) := none_carried rfl
theorem adrHoldReached (a0 : Nat) : Statement (.adrHoldReached a0) := none_carried rfl
theorem adrEventEnd (a0 : Nat) : Statement (.adrEventEnd a0) := none_carried rfl
theorem adrDecayEnd (a0 : Nat) : Statement (.adrDecayEnd a0) := none_carried rfl
theorem adrDecayTimeout (a0 : Nat) : Statement (.adrDecayTimeout a0) := none_carried rfl
theorem adrCloseWindowEnd (a0 : Nat) : Statement (.adrCloseWindowEnd a0) := none_carried rfl
theorem adrDeferTimeout (a0 : Nat) : Statement (.adrDeferTimeout a0) := none_carried rfl
theorem adrShort (a0 : Nat) : Statement (.adrShort a0) := none_carried rfl
theorem adrShortRetry (a0 : Nat) : Statement (.adrShortRetry a0) := none_carried rfl
theorem adrOpen (a0 : Nat) (a1 : Bool) : Statement (.adrOpen a0 a1) := none_carried rfl
theorem adrDitherPeriod (a0 : Nat) : Statement (.adrDitherPeriod a0) := none_carried rfl
theorem adrTempEstimateExpiry (a0 : Nat) : Statement (.adrTempEstimateExpiry a0) := none_carried rfl
theorem adrChCmdWrite (a0 : Initiator) (a1 : Nat) (a2 : Word) : Statement (.adrChCmdWrite a0 a1 a2) := none_carried rfl
theorem adrFaultWrite (a0 : Initiator) (a1 : Nat) (a2 : Word) : Statement (.adrFaultWrite a0 a1 a2) := none_carried rfl
theorem adrBoostSpill (a0 : Nat) : Statement (.adrBoostSpill a0) := none_carried rfl
theorem adrEvent (c : Cmd) : Statement (.adrEvent c) := one_carried rfl (fun h => h)
theorem adrSetCurrent (c : Cmd) : Statement (.adrSetCurrent c) := one_carried rfl (fun h => h)
theorem adrSwitch (c : Cmd) : Statement (.adrSwitch c) := one_carried rfl (fun h => h)
theorem adrChClear (c : Cmd) : Statement (.adrChClear c) := one_carried rfl (fun h => h)
theorem adrReadCh (c : Cmd) : Statement (.adrReadCh c) := one_carried rfl (fun h => h)
theorem adrBoostSet (c : Cmd) : Statement (.adrBoostSet c) := one_carried rfl (fun h => h)
theorem adrBankSet (c : Cmd) : Statement (.adrBankSet c) := one_carried rfl (fun h => h)
theorem adrBankRead (c : Cmd) : Statement (.adrBankRead c) := one_carried rfl (fun h => h)
theorem adrReadMot (c : Cmd) : Statement (.adrReadMot c) := one_carried rfl (fun h => h)
theorem pswPwmPeriod (a0 : Nat) : Statement (.pswPwmPeriod a0) := none_carried rfl
theorem pswInrushEnd (a0 : Nat) : Statement (.pswInrushEnd a0) := none_carried rfl
theorem pswOcTrip (a0 : Reading) : Statement (.pswOcTrip a0) := none_carried rfl
theorem pswRetry (a0 : Nat) : Statement (.pswRetry a0) := none_carried rfl
theorem pswRcntReset (a0 : Nat) : Statement (.pswRcntReset a0) := none_carried rfl
theorem pswThermalTrip (a0 : Nat) (a1 : Int) : Statement (.pswThermalTrip a0 a1) := none_carried rfl
theorem pswUndervoltage (a0 : Nat) (a1 : Nat) : Statement (.pswUndervoltage a0 a1) := none_carried rfl
theorem pswUvRestart (a0 : Nat) (a1 : Sample) : Statement (.pswUvRestart a0 a1) := none_carried rfl
theorem pswStaggerTurnOn (a0 : Nat) : Statement (.pswStaggerTurnOn a0) := none_carried rfl
theorem pswBudgetShed (a0 : Nat) : Statement (.pswBudgetShed a0) := none_carried rfl
theorem pswOpenLoad (a0 : Nat) (a1 : Nat) : Statement (.pswOpenLoad a0 a1) := none_carried rfl
theorem pswHoldoffEnd (a0 : Nat) : Statement (.pswHoldoffEnd a0) := none_carried rfl
theorem pswLatchedWrite (a0 : Initiator) (a1 : Word) : Statement (.pswLatchedWrite a0 a1) := none_carried rfl
theorem pswSwitch (c : Cmd) : Statement (.pswSwitch c) := one_carried rfl (fun h => h)
theorem pswChClear (c : Cmd) : Statement (.pswChClear c) := one_carried rfl (fun h => h)
theorem pswReadCh (c : Cmd) : Statement (.pswReadCh c) := one_carried rfl (fun h => h)
theorem pswGroupSet (c : Cmd) : Statement (.pswGroupSet c) := one_carried rfl (fun h => h)
theorem trnMsBoundary (a0 : List TrnMs) (a1 : List (Nat × Nat)) : Statement (.trnMsBoundary a0 a1) := none_carried rfl
theorem trnEpoch (a0 : List TrnEp) : Statement (.trnEpoch a0) := none_carried rfl
theorem trnAcqReqWrite (a0 : Initiator) (a1 : Nat) (a2 : Word) : Statement (.trnAcqReqWrite a0 a1 a2) := none_carried rfl
theorem trnSweepEnd (a0 : Nat) (a1 : TrnSweep) : Statement (.trnSweepEnd a0 a1) := none_carried rfl
theorem trnAcqResCRead (a0 : Initiator) (a1 : Nat) : Statement (.trnAcqResCRead a0 a1) := none_carried rfl
theorem trnPullinEnd (a0 : Nat) : Statement (.trnPullinEnd a0) := none_carried rfl
theorem trnCarrLock (a0 : Nat) (a1 : Bool) : Statement (.trnCarrLock a0 a1) := none_carried rfl
theorem trnLost (a0 : Nat) : Statement (.trnLost a0) := none_carried rfl
theorem trnCoastEnd (a0 : Nat) : Statement (.trnCoastEnd a0) := none_carried rfl
theorem trnHandoverPass (a0 : Nat) (a1 : List Nat) : Statement (.trnHandoverPass a0 a1) := none_carried rfl
theorem trnHandoverTimeout (a0 : Nat) : Statement (.trnHandoverTimeout a0) := none_carried rfl
theorem trnNavUnit (a0 : Nat) (a1 : TrnNav) : Statement (.trnNavUnit a0 a1) := none_carried rfl
theorem trnAntFault (a0 : Nat) (a1 : Nat) : Statement (.trnAntFault a0 a1) := none_carried rfl
theorem trnAntRetry (a0 : Nat) (a1 : Nat) : Statement (.trnAntRetry a0 a1) := none_carried rfl
theorem trnRxtHiWrite (a0 : Initiator) (a1 : Word) : Statement (.trnRxtHiWrite a0 a1) := none_carried rfl
theorem trnChannel (c : Cmd) : Statement (.trnChannel c) := one_carried rfl (fun h => h)
theorem trnAcquire (c : Cmd) : Statement (.trnAcquire c) := one_carried rfl (fun h => h)
theorem trnRawOpen (c : Cmd) : Statement (.trnRawOpen c) := one_carried rfl (fun h => h)
theorem trnRawClose (c : Cmd) : Statement (.trnRawClose c) := one_carried rfl (fun h => h)
theorem trnReadCh (c : Cmd) : Statement (.trnReadCh c) := one_carried rfl (fun h => h)
theorem posSolution (a0 : PosSol) : Statement (.posSolution a0) := none_carried rfl
theorem posOutput : Statement (.posOutput) := none_carried rfl
theorem posRtcmFrame (a0 : Nat) (a1 : List Byte) : Statement (.posRtcmFrame a0 a1) := none_carried rfl
theorem posCorrAgeExpiry : Statement (.posCorrAgeExpiry) := none_carried rfl
theorem posDrExpiry : Statement (.posDrExpiry) := none_carried rfl
theorem posDiscipline : Statement (.posDiscipline) := none_carried rfl
theorem posPps : Statement (.posPps) := none_carried rfl
theorem posPpsEnd : Statement (.posPpsEnd) := none_carried rfl
theorem sentryBurst (a0 : List SentryHit) : Statement (.sentryBurst a0) := none_carried rfl
theorem sentrySnapshot (a0 : List Byte) : Statement (.sentrySnapshot a0) := none_carried rfl
theorem posRtcm (c : Cmd) : Statement (.posRtcm c) := one_carried rfl (fun h => h)
theorem posRtcmSrc (c : Cmd) : Statement (.posRtcmSrc c) := one_carried rfl (fun h => h)
theorem posOrigin (c : Cmd) : Statement (.posOrigin c) := one_carried rfl (fun h => h)
theorem posSentrySet (c : Cmd) : Statement (.posSentrySet c) := one_carried rfl (fun h => h)
theorem posSentryRead (c : Cmd) : Statement (.posSentryRead c) := one_carried rfl (fun h => h)
theorem posSnapSolve (c : Cmd) : Statement (.posSnapSolve c) := one_carried rfl (fun h => h)
theorem posSentryClear (c : Cmd) : Statement (.posSentryClear c) := one_carried rfl (fun h => h)
theorem camSegment (a0 : Nat) (a1 : CamSeg) : Statement (.camSegment a0 a1) := none_carried rfl
theorem camFrameCloseTimeout (a0 : Nat) : Statement (.camFrameCloseTimeout a0) := none_carried rfl
theorem camStreamLost (a0 : Nat) : Statement (.camStreamLost a0) := none_carried rfl
theorem camIspComplete (a0 : Nat) : Statement (.camIspComplete a0) := none_carried rfl
theorem camEncAuComplete (a0 : Nat) (a1 : List Byte) : Statement (.camEncAuComplete a0 a1) := none_carried rfl
theorem camLoadUpdate (a0 : Nat) : Statement (.camLoadUpdate a0) := none_carried rfl
theorem camTblDataAccess (a0 : Initiator) (a1 : Option Word) : Statement (.camTblDataAccess a0 a1) := none_carried rfl
theorem camCtxRelWrite (a0 : Initiator) (a1 : Nat) (a2 : Word) : Statement (.camCtxRelWrite a0 a1 a2) := none_carried rfl
theorem camEncCmdWrite (a0 : Initiator) (a1 : Nat) (a2 : Word) : Statement (.camEncCmdWrite a0 a1 a2) := none_carried rfl
theorem camEncRdWrite (a0 : Initiator) (a1 : Nat) (a2 : Word) : Statement (.camEncRdWrite a0 a1 a2) := none_carried rfl
theorem camRingOpen (c : Cmd) : Statement (.camRingOpen c) := one_carried rfl (fun h => h)
theorem camEncOpen (c : Cmd) : Statement (.camEncOpen c) := one_carried rfl (fun h => h)
theorem camBuffers (c : Cmd) : Statement (.camBuffers c) := one_carried rfl (fun h => h)
theorem camRelease (c : Cmd) : Statement (.camRelease c) := one_carried rfl (fun h => h)
theorem camTableSet (c : Cmd) : Statement (.camTableSet c) := one_carried rfl (fun h => h)
theorem camM2mSubmit (c : Cmd) (a1 : List Byte) : Statement (.camM2mSubmit c a1) := one_carried rfl (fun h => h)
theorem camEncIdr (c : Cmd) : Statement (.camEncIdr c) := one_carried rfl (fun h => h)
theorem astListPart (a0 : AstRx) : Statement (.astListPart a0) := none_carried rfl
theorem astPartTimeout (a0 : Nat) : Statement (.astPartTimeout a0) := none_carried rfl
theorem astSubGoWrite (a0 : Initiator) (a1 : Word) (a2 : List Byte) : Statement (.astSubGoWrite a0 a1 a2) := none_carried rfl
theorem astEgoSample : Statement (.astEgoSample) := none_carried rfl
theorem astFusionCycle (a0 : Nat) : Statement (.astFusionCycle a0) := none_carried rfl
theorem astSourceLost (a0 : Nat) : Statement (.astSourceLost a0) := none_carried rfl
theorem astRingOpen (c : Cmd) : Statement (.astRingOpen c) := one_carried rfl (fun h => h)
theorem astRingClose (c : Cmd) : Statement (.astRingClose c) := one_carried rfl (fun h => h)
theorem astList (c : Cmd) : Statement (.astList c) := one_carried rfl (fun h => h)
theorem astReadTrack (c : Cmd) : Statement (.astReadTrack c) := one_carried rfl (fun h => h)
theorem astClear (c : Cmd) : Statement (.astClear c) := one_carried rfl (fun h => h)
theorem safCycle (a0 : SafIn) : Statement (.safCycle a0) := none_carried rfl
theorem safDiscrepancy (a0 : Nat) : Statement (.safDiscrepancy a0) := none_carried rfl
theorem safSpeedDiscrepancy (a0 : Nat) : Statement (.safSpeedDiscrepancy a0) := none_carried rfl
theorem safTestPulse (a0 : Nat) (a1 : SafTp) : Statement (.safTestPulse a0 a1) := none_carried rfl
theorem safStandstill (a0 : Nat) : Statement (.safStandstill a0) := none_carried rfl
theorem safTMaxExpiry : Statement (.safTMaxExpiry) := none_carried rfl
theorem safSoTest (a0 : Nat) (a1 : Bool) : Statement (.safSoTest a0 a1) := none_carried rfl
theorem safEdmTimeout (a0 : Nat) : Statement (.safEdmTimeout a0) := none_carried rfl
theorem safResetInput (a0 : Nat) : Statement (.safResetInput a0) := none_carried rfl
theorem safetyReset : Statement (.safetyReset) := none_carried rfl
theorem safSelfTestDone (a0 : Bool) (a1 : Nat) (a2 : Nat) (a3 : Bool) : Statement (.safSelfTestDone a0 a1 a2 a3) := none_carried rfl
theorem safReadyCheck : Statement (.safReadyCheck) := none_carried rfl
theorem safSealChange (a0 : Nat) : Statement (.safSealChange a0) := none_carried rfl
theorem safStopReq (c : Cmd) : Statement (.safStopReq c) := one_carried rfl (fun h => h)
theorem safReadParams (c : Cmd) : Statement (.safReadParams c) := one_carried rfl (fun h => h)
theorem safFaultLog (c : Cmd) : Statement (.safFaultLog c) := one_carried rfl (fun h => h)
theorem safParamWrite (c : Cmd) : Statement (.safParamWrite c) := one_carried rfl (fun h => h)
theorem jasperFrameRx (a0 : Nat) (a1 : List Byte) : Statement (.jasperFrameRx a0 a1) := none_carried rfl
theorem jasperWatchdog (a0 : Nat) : Statement (.jasperWatchdog a0) := none_carried rfl
theorem jasperProduce (a0 : Nat) : Statement (.jasperProduce a0) := none_carried rfl
theorem canFrameRx (a0 : Nat) (a1 : CanRx) : Statement (.canFrameRx a0 a1) := none_carried rfl
theorem canTxComplete (a0 : Nat) (a1 : Nat) (a2 : Nat) : Statement (.canTxComplete a0 a1 a2) := none_carried rfl
theorem canBusError (a0 : Nat) (a1 : Nat) (a2 : Nat) (a3 : Nat) : Statement (.canBusError a0 a1 a2 a3) := none_carried rfl
theorem canRecoveryStart (a0 : Nat) : Statement (.canRecoveryStart a0) := none_carried rfl
theorem canRecoveryDone (a0 : Nat) : Statement (.canRecoveryDone a0) := none_carried rfl
theorem canImportTimeout (a0 : Nat) : Statement (.canImportTimeout a0) := none_carried rfl
theorem canClaimTimeout (a0 : Nat) : Statement (.canClaimTimeout a0) := none_carried rfl
theorem canTxqCtrlWrite (a0 : Initiator) (a1 : Nat) (a2 : Word) : Statement (.canTxqCtrlWrite a0 a1 a2) := none_carried rfl
theorem canCtrlRecoverWrite (a0 : Initiator) (a1 : Nat) : Statement (.canCtrlRecoverWrite a0 a1) := none_carried rfl
theorem linSlot (a0 : Nat) : Statement (.linSlot a0) := none_carried rfl
theorem linResponseRx (a0 : Nat) (a1 : List Byte) : Statement (.linResponseRx a0 a1) := none_carried rfl
theorem linResponseTimeout (a0 : Nat) : Statement (.linResponseTimeout a0) := none_carried rfl
theorem canSend (c : Cmd) : Statement (.canSend c) := one_carried rfl (fun h => h)
theorem canRingOpen (c : Cmd) : Statement (.canRingOpen c) := one_carried rfl (fun h => h)
theorem canRecover (c : Cmd) : Statement (.canRecover c) := one_carried rfl (fun h => h)
theorem canSleep (c : Cmd) : Statement (.canSleep c) := one_carried rfl (fun h => h)
theorem canExportSet (c : Cmd) : Statement (.canExportSet c) := one_carried rfl (fun h => h)
theorem linSleep (c : Cmd) : Statement (.linSleep c) := one_carried rfl (fun h => h)
theorem ethFrameRx (a0 : EthRx) : Statement (.ethFrameRx a0) := none_carried rfl
theorem ethLinkChange (a0 : Nat) (a1 : EthLink) : Statement (.ethLinkChange a0 a1) := none_carried rfl
theorem ethPtpSync (a0 : Nat) (a1 : Nat) : Statement (.ethPtpSync a0 a1) := none_carried rfl
theorem ethSyncTimeout : Statement (.ethSyncTimeout) := none_carried rfl
theorem ethSyncSend (a0 : Bool) : Statement (.ethSyncSend a0) := none_carried rfl
theorem ethServoTrim : Statement (.ethServoTrim) := none_carried rfl
theorem ethGclGoWrite (a0 : Initiator) (a1 : Word) : Statement (.ethGclGoWrite a0 a1) := none_carried rfl
theorem ethGclSwitch (a0 : Nat) : Statement (.ethGclSwitch a0) := none_carried rfl
theorem ethGclDataAccess (a0 : Initiator) (a1 : Option Word) : Statement (.ethGclDataAccess a0 a1) := none_carried rfl
theorem ethPtpGLoRead (a0 : Initiator) : Statement (.ethPtpGLoRead a0) := none_carried rfl
theorem serFrameEnd (a0 : Nat) (a1 : SerRx) : Statement (.serFrameEnd a0 a1) := none_carried rfl
theorem ethTimeGet (c : Cmd) : Statement (.ethTimeGet c) := one_carried rfl (fun h => h)
theorem ethGclSet (c : Cmd) : Statement (.ethGclSet c) := one_carried rfl (fun h => h)
theorem ethTrimSet (c : Cmd) : Statement (.ethTrimSet c) := one_carried rfl (fun h => h)
theorem ethSerOpen (c : Cmd) : Statement (.ethSerOpen c) := one_carried rfl (fun h => h)
theorem ethSerSend (c : Cmd) : Statement (.ethSerSend c) := one_carried rfl (fun h => h)
theorem pairBeaconRx (a0 : Bool) (a1 : List Byte) (a2 : Option Nat) : Statement (.pairBeaconRx a0 a1 a2) := none_carried rfl
theorem pairCanBeacon : Statement (.pairCanBeacon) := none_carried rfl
theorem pairLeaseExpiry : Statement (.pairLeaseExpiry) := none_carried rfl
theorem pairGuardEnd : Statement (.pairGuardEnd) := none_carried rfl
theorem pairAliveChange (a0 : Nat) (a1 : Nat) : Statement (.pairAliveChange a0 a1) := none_carried rfl
theorem pairPeerDeadEnd : Statement (.pairPeerDeadEnd) := none_carried rfl
theorem pairPartitionTimeout : Statement (.pairPartitionTimeout) := none_carried rfl
theorem pairSoloTimeout : Statement (.pairSoloTimeout) := none_carried rfl
theorem pairCopyRx (a0 : PairCopy) : Statement (.pairCopyRx a0) := none_carried rfl
theorem pairGateConfirm (a0 : Bool) : Statement (.pairGateConfirm a0) := none_carried rfl
theorem pairRevertHoldExpiry : Statement (.pairRevertHoldExpiry) := none_carried rfl
theorem pairSwap (c : Cmd) : Statement (.pairSwap c) := one_carried rfl (fun h => h)
theorem pairRevert (c : Cmd) : Statement (.pairRevert c) := one_carried rfl (fun h => h)
theorem fltHeartbeat : Statement (.fltHeartbeat) := none_carried rfl
theorem fltParentLost : Statement (.fltParentLost) := none_carried rfl
theorem fltHandshake (a0 : FltHs) : Statement (.fltHandshake a0) := none_carried rfl
theorem fltHandshakeRetry : Statement (.fltHandshakeRetry) := none_carried rfl
theorem fltKeyUpdate : Statement (.fltKeyUpdate) := none_carried rfl
theorem fltHeartbeatRx (a0 : FltHdr) : Statement (.fltHeartbeatRx a0) := none_carried rfl
theorem fltCoverageSend : Statement (.fltCoverageSend) := none_carried rfl
theorem fltCoverageRx (a0 : FltHdr) (a1 : FltTile) : Statement (.fltCoverageRx a0 a1) := none_carried rfl
theorem fltRtcmRx (a0 : FltHdr) (a1 : List Byte) : Statement (.fltRtcmRx a0 a1) := none_carried rfl
theorem fltRdvSend : Statement (.fltRdvSend) := none_carried rfl
theorem fltRdvRx (a0 : FltHdr) (a1 : Nat) (a2 : List Byte) : Statement (.fltRdvRx a0 a1 a2) := none_carried rfl
theorem fltBroadcastRx (a0 : FltHdr) (a1 : FltOpHdr) : Statement (.fltBroadcastRx a0 a1) := none_carried rfl
theorem fltBarrierRx (a0 : FltHdr) (a1 : FltOpHdr) (a2 : Nat) (a3 : Bool) : Statement (.fltBarrierRx a0 a1 a2 a3) := none_carried rfl
theorem fltMarkerRx (a0 : FltHdr) (a1 : FltOpHdr) (a2 : Bool) : Statement (.fltMarkerRx a0 a1 a2) := none_carried rfl
theorem fltReportRx (a0 : FltHdr) (a1 : FltRep) : Statement (.fltReportRx a0 a1) := none_carried rfl
theorem fltReportDeadline : Statement (.fltReportDeadline) := none_carried rfl
theorem fltCaSet (c : Cmd) : Statement (.fltCaSet c) := one_carried rfl (fun h => h)
theorem fltArrive (c : Cmd) : Statement (.fltArrive c) := one_carried rfl (fun h => h)
theorem fltRdvOpen (c : Cmd) : Statement (.fltRdvOpen c) := one_carried rfl (fun h => h)
theorem fltTileUpload (c : Cmd) : Statement (.fltTileUpload c) := one_carried rfl (fun h => h)
theorem fltSentryUpload (c : Cmd) : Statement (.fltSentryUpload c) := one_carried rfl (fun h => h)
theorem recEventPost : Statement (.recEventPost) := none_carried rfl
theorem recSnapshotRead : Statement (.recSnapshotRead) := none_carried rfl
theorem recOpenTimeout : Statement (.recOpenTimeout) := none_carried rfl
theorem recCommit (a0 : Bool) : Statement (.recCommit a0) := none_carried rfl
theorem recEraseDone : Statement (.recEraseDone) := none_carried rfl
theorem recFreezeTimeout (a0 : Nat) : Statement (.recFreezeTimeout a0) := none_carried rfl
theorem recAlarmToken : Statement (.recAlarmToken) := none_carried rfl
theorem recAlarmSummary : Statement (.recAlarmSummary) := none_carried rfl
theorem recRead (c : Cmd) : Statement (.recRead c) := one_carried rfl (fun h => h)
theorem recFreeze (c : Cmd) : Statement (.recFreeze c) := one_carried rfl (fun h => h)
theorem recFlush (c : Cmd) : Statement (.recFlush c) := one_carried rfl (fun h => h)
theorem recPost (c : Cmd) : Statement (.recPost c) := one_carried rfl (fun h => h)
theorem recClassSet (c : Cmd) : Statement (.recClassSet c) := one_carried rfl (fun h => h)
theorem recClassGet (c : Cmd) : Statement (.recClassGet c) := one_carried rfl (fun h => h)
theorem recCatalogue (c : Cmd) : Statement (.recCatalogue c) := one_carried rfl (fun h => h)
theorem pnlCmdUpdate (a0 : Initiator) (a1 : Word) (a2 : Nat) : Statement (.pnlCmdUpdate a0 a1 a2) := none_carried rfl
theorem pnlLineDone : Statement (.pnlLineDone) := none_carried rfl
theorem pnlAutoUpdate (a0 : Nat) : Statement (.pnlAutoUpdate a0) := none_carried rfl
theorem pnlCrackCheck (a0 : Nat) : Statement (.pnlCrackCheck a0) := none_carried rfl
theorem pnlBlinkToggle (a0 : Nat) : Statement (.pnlBlinkToggle a0) := none_carried rfl
theorem pnlFbDataAccess (a0 : Initiator) (a1 : Option Word) : Statement (.pnlFbDataAccess a0 a1) := none_carried rfl
theorem pnlText (c : Cmd) : Statement (.pnlText c) := one_carried rfl (fun h => h)
theorem pnlBitmap (c : Cmd) : Statement (.pnlBitmap c) := one_carried rfl (fun h => h)
theorem pnlBlink (c : Cmd) : Statement (.pnlBlink c) := one_carried rfl (fun h => h)
theorem pnlUpdate (c : Cmd) (a1 : Nat) : Statement (.pnlUpdate c a1) := one_carried rfl (fun h => (Bool.and_eq_true_iff.1 h).1)
theorem updBegin (c : Cmd) : Statement (.updBegin c) := one_carried rfl (fun h => h)
theorem updBlock (c : Cmd) (a1 : Nat) : Statement (.updBlock c a1) := one_carried rfl (fun h => (Bool.and_eq_true_iff.1 h).1)
theorem updEnd (c : Cmd) : Statement (.updEnd c) := one_carried rfl (fun h => h)
theorem updActivate (c : Cmd) : Statement (.updActivate c) := one_carried rfl (fun h => h)
theorem updAbort (c : Cmd) : Statement (.updAbort c) := one_carried rfl (fun h => h)
theorem updKeyoffWaitExpiry : Statement (.updKeyoffWaitExpiry) := none_carried rfl
theorem prmCompactionDone : Statement (.prmCompactionDone) := none_carried rfl
theorem prmCalExport (c : Cmd) : Statement (.prmCalExport c) := one_carried rfl (fun h => h)
theorem prmCalWrite (c : Cmd) : Statement (.prmCalWrite c) := one_carried rfl (fun h => h)
theorem prmConfigExport (c : Cmd) : Statement (.prmConfigExport c) := one_carried rfl (fun h => h)
theorem prmConfigImport (c : Cmd) : Statement (.prmConfigImport c) := one_carried rfl (fun h => h)
theorem prmSet (c : Cmd) : Statement (.prmSet c) := one_carried rfl (fun h => h)
theorem pllLock : Statement (.pllLock) := none_carried rfl
theorem ethSwitchReload : Statement (.ethSwitchReload) := none_carried rfl
theorem aonPowerLoss : Statement (.aonPowerLoss) := none_carried rfl
theorem pwrHoldRelease : Statement (.pwrHoldRelease) := none_carried rfl
theorem ainConversion (a0 : Nat) (a1 : Nat) : Statement (.ainConversion a0 a1) := none_carried rfl
theorem bridgeCode (a0 : Nat) (a1 : Int) : Statement (.bridgeCode a0 a1) := none_carried rfl
theorem speedEdge (a0 : Nat) (a1 : Bool) (a2 : Bool) (a3 : Nat) : Statement (.speedEdge a0 a1 a2 a3) := none_carried rfl
theorem acuImpact (a0 : Nat) (a1 : List Int) : Statement (.acuImpact a0 a1) := none_carried rfl
theorem adrRegulationDecision (a0 : Nat) (a1 : Nat) : Statement (.adrRegulationDecision a0 a1) := none_carried rfl
theorem boostConverterSwitch (a0 : Nat) (a1 : Nat) : Statement (.boostConverterSwitch a0 a1) := none_carried rfl
theorem posInertialSample (a0 : PosEst) : Statement (.posInertialSample a0) := none_carried rfl
theorem ispStripeComplete (a0 : Nat) (a1 : Bool) : Statement (.ispStripeComplete a0 a1) := none_carried rfl
theorem ethGateInterval (a0 : Nat) : Statement (.ethGateInterval a0) := none_carried rfl
theorem serTransmitDone (a0 : Nat) : Statement (.serTransmitDone a0) := none_carried rfl
theorem usbVbusOvercurrent (a0 : Nat) (a1 : Nat) : Statement (.usbVbusOvercurrent a0 a1) := none_carried rfl
theorem pairLinkChange (a0 : Bool) : Statement (.pairLinkChange a0) := none_carried rfl
theorem classCCommandDone (a0 : Nat) : Statement (.classCCommandDone a0) := none_carried rfl

end Sys2Proof.Laws.Indexed
end

