-- ==== Sys2Proof/Tests/Slice0.lean ====
section
/-!
SUPPORT. Tests: operands that well-formedness refuses; for every statement with hypotheses a state and operands that meet them; the
spec's worked examples, whose expected values are the spec's own.
-/
set_option Elab.async false
namespace Sys2Proof.Tests
open Sys2Proof Sys2Proof.Machine

/-! ### States and operands for the tests -/

/-- A machine in RUN with Dome READY, session 0 open as OEM, every function running. -/
def ww : State := { clk := { running := true, now := 1000000000000, tb := 1000000000000, tickCount := 2000000, tickStamp := 990000000000 }
                    regs := [(R.MBX_DOME_STATE, 2#32), (R.PWR_STATE, 3#32), (R.FAB_DOMAIN, 15#32)], pwr := { coreOn := true }
                    mbx := { sessions := { isOpen := true, role := 3 } :: List.replicate 15 {} }
                    fns := List.replicate 24 { state := .running } }

/-- `ww` with register values. -/
def wr (l : List (Nat × Word)) : State := { ww with regs := l ++ ww.regs }

/-- A command of session 0 with a payload. -/
def cm (p : List Byte) : Cmd := { origin := .ring 0, session := 0, seq := 1, crc := 0#32, payload := p }

/-- Bytes from their values. -/
def bs (l : List Nat) : List Byte := l.map byte

/-- `n` zero bytes. -/
def zs (n : Nat) : List Byte := List.replicate n 0#8

/-- `ww` with session 0 as given. -/
def wses (x : Session) : State := { ww with mbx := { sessions := x :: List.replicate 15 {} } }

/-- `ww` with function `f` as given. -/
def wfn (f : Nat) (x : Fn) : State := { ww with fns := updAt ww.fns f (fun _ => x) }

/-- A running command of function `f`. -/
def rn (f op : Nat) (p : List Byte) : Running :=
  { fn := f, opcode := op, cmd := cm [], since := 0, progress := 0, status := 0, payload := p }

/-- Data ring 48 of function `f`, of session 0. -/
def dr (f kind param : Nat) : DataRing :=
  { ring := 48, fn := f, kind := kind, param := param, session := 0, log2 := 4, transfer := false, ended := false, waiting := [],
    sent := 0, skipped := 0, lost := 0 }

/-- `ww` with that ring. -/
def wdr (f kind param : Nat) : State := { ww with mbx := { ww.mbx with rings := [dr f kind param] } }

/-- `ww` with the power record changed. -/
def wpw (f : Power → Power) : State := { ww with pwr := f ww.pwr }

/-- `ww` in hold-up since VBAT fell, with the rise given. -/
def whold (rose : Option Nat) : State :=
  wpw (fun p => { p with holdup := true, fellAt := some 999990000000, roseAt := rose, confAt := rose })

/-- `ww` with the inputs changed. -/
def win (f : Inputs → Inputs) : State := { wr [(R.DIN_GRP_STATUS, 0#32), (R.AIN_SUP_STATUS, 0x10101#32)] with inp := f ww.inp }

/-- `ww` with register values and function `f` in EXPERT. -/
def wex (f : Nat) (l : List (Nat × Word)) : State := { wr l with fns := updAt ww.fns f (fun x => { x with owner := some 0 }) }

/-- A field of Yield Plate with one cell. -/
def yf (id : Nat) : YplField := { id := id, lat := 0, lon := 0, crop := 0, grid := 0#32, cells := [{ i := 0, j := 0 }], at_ := 0 }

/-- `ww` with register values and Yield Plate as given. -/
def wyp (l : List (Nat × Word)) (y : Ypl) : State := { wr l with ypl := y }

/-- `ww` with register values and channel 0 of the actuator drive as given. -/
def wch (l : List (Nat × Word)) (c : AdrCh) : State :=
  { wr l with adr := { run := true, chs := c :: List.replicate 47 {}, banks := List.replicate 12 { on := true } } }

/-- `ww` with register values and load switch 0 as given, all override lines present. -/
def wsw (l : List (Nat × Word)) (c : PswCh) : State :=
  { wr l with psw := { chs := c :: List.replicate 15 {} }, saf := { lines := 0x1FFFF }, fns := updAt ww.fns 8 (fun _ => {}) }

/-- `ww` with load-switch group 0 as given. -/
def wgr (g : PswGrp) (c : PswCh) : State := { ww with psw := { chs := [c], grps := [g] } }

/-- `ww` with register values and tracking channel 0 as given. -/
def wtr (l : List (Nat × Word)) (c : TrnCh) : State :=
  { wr l with trn := { run := true, chs := c :: List.replicate 127 {}, lastEpoch := 5000000000 } }

/-- `ww` with Position as given. -/
def wpo (l : List (Nat × Word)) (p : Pos) : State := { wr l with pos := p, trn := { lastEpoch := 5000000000 } }

/-- `ww` with the cameras as given. -/
def wca (l : List (Nat × Word)) (c : Cam) : State := { wr l with cam := c }

/-- A frame of stream 0. -/
def fr : CamFrame :=
  { uid := 1, stream := 0, ctx := some 0, num := 0, sof := 0, first := 5, w := 64, h := 64, bayer := 0, begun := true, ready := true }

/-- `ww` with the island as given. -/
def wsf (x : Saf) : State := { ww with saf := x }

/-- A live island with parameter bytes. -/
def sf (p : List Byte) : Saf := { tested := true, parOk := true, par := p, ms := 100000 }

/-- `ww` with register values and CAN as given. -/
def wcn (l : List (Nat × Word)) (x : Can) : State := { wr l with can := x }

/-- The bytes before its CRC of a parameter set for place B with nothing in use. -/
def parBody : List Byte :=
  (List.range 1764).map (fun i => byte (if i = 0 || i = 2 then 1 else if i = 8 then 0xE8 else if i = 9 then 6 else if i = 204 then 10
    else if i = 92 || i = 116 || i = 140 || i = 164 || i = 189 || i = 193 || i = 197 || i = 201 then 255 else 0))

/-- `ww` with register values and the Ethernet switch as given. -/
def wet (l : List (Nat × Word)) (e : Eth) : State := { wr l with eth := e }

/-- `ww` with register values and the pair as given. -/
def wpa (l : List (Nat × Word)) (p : Pair) : State := { wr l with pair := p }

/-- An Ethernet frame at port 0. -/
def ef (fcs : Bool) : EthRx := { port := 13, dst := 2, src := 4, vid := 0, pcp := 0, len := 64, fcs := fcs, pay := .other [] }

/-- `ww` with register values and the fleet link as given. -/
def wfl (l : List (Nat × Word)) (x : Flt) : State := { wr l with flt := x }

/-- `ww` with the configuration applied to the fleet function. -/
def wfc (p : List Byte) (x : Flt) : State := { wfn 18 { state := .running, applied := some p } with flt := x }

/-- A request of the acquisition engines. -/
def rq : TrnReq := { sig := 0, ant := 0, sv := 1, nc := 1, verify := 0, auto := none, centre := 0, span := 0, th := 5, host := true }

/-- A staged record that waits for its snapshot. -/
def rc : Record :=
  { code := 0, src := 0, sev := 0, flags := 0, opFirst := 0, opLast := 0, cycles := 0, repeats := 0, words := [], nwords := 0, tb := 0,
    seq := 0, snapTodo := true }

/-- A calibration set of zeros for this unit. -/
def calPay : List Byte := zs 12288 ++ leBytes 8 Config.serial.toNat ++ zs 64

/-- A configuration file without sections. -/
def cfgPay : List Byte :=
  let b := bs [0x4C, 0x4D, 0x43, 0x46, 1] ++ zs 19 ++ bs [68] ++ zs 39
  b ++ leBytes 4 (crc32c b).toNat

/-! ### Well-formedness -/

/-- For every check on an operand a command that fails it, which the check refuses. -/
theorem test_wf_refuses_1 :
    ([.speedZeroTimeout 12, .registerWrite .host 4294967296 0 0#64, .registerWrite .host 0 65 0#64,
     .bitAliasAccess .host 4294967296 none, .guardFirstWrite .host 4294967296 0#32, .guardCompanionWrite .host 4294967296 0#32,
     .guardTimeout .host 4294967296, .stallWatchdog .host 4294967296 false, .fabSigHostWrite 512 0#32, .sigHostAgeExpiry 512,
     .fabUgCfgWrite .host 16 0#32, .ugTbcmpStrobe 16, .claimReservationLapse 16, .bootstrapRingPlacement 16,
     .sessionRingPlacement 16, .mbxQProdWrite 128 0#32 [], .mbxQConsWrite 128 0#32, .notifHoldoffExpiry 16 0,
     .notifHoldoffExpiry 0 65536, .kmpDatagramRx 4294967296 0 [], .kmpDatagramRx 0 65536 [], .ipv4ReassemblyTimeout 4294967296 0,
     .ipv4ReassemblyTimeout 0 65536, .udpDataResend 128] : List Instr).all (fun i => !i.wf) = true := by decide +kernel

theorem test_wf_refuses_2 :
    ([.linkOpenKeepExpiry 4294967296 0, .linkOpenKeepExpiry 0 65536, .sessionIdleTimeout 16 0, .sessionIdleTimeout 0 65536,
     .progressNotify 24 0, .progressNotify 0 1001, .getInfo 256 (cm []), .getInfo 0 { cm [] with session := 256 },
     .getStatus 256 (cm []), .getStatus 0 { cm [] with session := 256 }, .configure 256 (cm []),
     .configure 0 { cm [] with session := 256 }, .apply 256 (cm []), .apply 0 { cm [] with session := 256 }, .start 256 (cm []),
     .start 0 { cm [] with session := 256 }, .stop 256 (cm []), .stop 0 { cm [] with session := 256 }, .reinit 256 (cm []) 0,
     .reinit 0 (cm []) 65536, .reinit 0 { cm [] with session := 256 } 0, .reinitComplete 24 false, .setExpert 256 (cm []) 0,
     .setExpert 0 (cm []) 65536] : List Instr).all (fun i => !i.wf) = true := by decide +kernel

theorem test_wf_refuses_3 :
    ([.setExpert 0 { cm [] with session := 256 } 0, .expertTransfer 24, .linkOpen { cm [] with session := 256 },
     .linkAuth { cm [] with session := 256 }, .linkClose (cm []) 65536, .linkClose { cm [] with session := 256 } 0,
     .linkPing { cm [] with session := 256 }, .linkSubscribe { cm [] with session := 256 },
     .linkDataAck { cm [] with session := 256 }, .linkKeySet { cm [] with session := 256 }, .supplyDipBegin 10 0,
     .supplyDipEnd 10 0, .pswGroupOvervoltage 4 0, .tempThreshold 10 0, .keyoffShutdown 65536, .keepAwakeExpiry 16,
     .standbyTimeout 65536, .wake { src := 8 }, .initComplete 0 65536, .functionFault 24, .sysStart { cm [] with session := 256 },
     .sysStop { cm [] with session := 256 }, .sysDeviceReset { cm [] with session := 256 },
     .sysPowerCycle { cm [] with session := 256 }] : List Instr).all (fun i => !i.wf) = true := by decide +kernel

theorem test_wf_refuses_4 :
    ([.sysKeepAwake { cm [] with session := 256 }, .sysShutdownNow { cm [] with session := 256 }, .diEdge 40 false default,
     .diWireBreak 40 default, .diBreakClear { n := 40, val := 0 }, .fieldSupplyChange 4 0, .dinReadEdges { cm [] with session := 256 },
     .ainFaultEnter 3 0 false, .ainFaultEnter 0 24 false, .ain4maTrip 24, .ain4maReconnect 24, .supplyTrip 3, .supplyRetry 3,
     .supplyTripCountReset 3, .ainSupRestart { cm [] with session := 256 }, .ainBridgeTare { cm [] with session := 256 },
     .sentFrame 16 default, .sentTimeout 16, .sentSlowMessage 16 0 0 0 0, .sentSlowMessage 0 256 0 0 0,
     .sentSlowMessage 0 0 3 0 0, .sentSlowMessage 0 0 0 65536 0, .sentSlowMessage 0 0 0 0 64, .sntSlowTable { cm [] with session := 256 },
     .cstSetMode { cm [] with session := 256 }] : List Instr).all (fun i => !i.wf) = true := by decide +kernel

theorem test_wf_refuses_5 :
    ([.cstOverride { cm [] with session := 256 }, .cstAccept { cm [] with session := 256 },
     .cstWeights { cm [] with session := 256 }, .cstReadMf { cm [] with session := 256 },
     .yplFieldOpen { cm [] with session := 256 }, .yplFieldClose { cm [] with session := 256 },
     .yplCalKernel { cm [] with session := 256 }, .yplKernelSet { cm [] with session := 256 },
     .yplKernelGet { cm [] with session := 256 }, .yplTileRead { cm [] with session := 256 },
     .yplExport { cm [] with session := 256 }, .yplExportRead { cm [] with session := 256 },
     .yplWeigh { cm [] with session := 256 }, .merStIWrite .host 64 0#32, .merSetpoint { cm [] with session := 256 },
     .merSetGains { cm [] with session := 256 }, .merIntSet { cm [] with session := 256 },
     .merReadSlot { cm [] with session := 256 }, .adrEvtDurWrite .host 48 0#32, .adrEventStart 48, .adrBoostEnd 48,
     .adrBoostTimeout 48, .adrBankIlim 12, .adrPeakEnd 48] : List Instr).all (fun i => !i.wf) = true := by decide +kernel

theorem test_wf_refuses_6 :
    ([.adrHoldReached 48, .adrEventEnd 48, .adrDecayEnd 48, .adrDecayTimeout 48, .adrCloseWindowEnd 48, .adrDeferTimeout 48,
     .adrShort 48, .adrShortRetry 48, .adrOpen 48 false, .adrDitherPeriod 48, .adrTempEstimateExpiry 48,
     .adrChCmdWrite .host 48 0#32, .adrFaultWrite .host 2 0#32, .adrBoostSpill 65536, .adrEvent { cm [] with session := 256 },
     .adrSetCurrent { cm [] with session := 256 }, .adrSwitch { cm [] with session := 256 },
     .adrChClear { cm [] with session := 256 }, .adrReadCh { cm [] with session := 256 },
     .adrBoostSet { cm [] with session := 256 }, .adrBankSet { cm [] with session := 256 },
     .adrBankRead { cm [] with session := 256 }, .adrReadMot { cm [] with session := 256 }, .pswPwmPeriod 16] : List Instr).all (fun i => !i.wf) = true := by decide +kernel

theorem test_wf_refuses_7 :
    ([.pswInrushEnd 16, .pswOcTrip { n := 16, val := 0 }, .pswRetry 16, .pswRcntReset 16, .pswThermalTrip 16 0, .pswUndervoltage 4 0,
     .pswUvRestart 4 default, .pswStaggerTurnOn 4, .pswBudgetShed 4, .pswOpenLoad 16 0, .pswHoldoffEnd 16,
     .pswSwitch { cm [] with session := 256 }, .pswChClear { cm [] with session := 256 },
     .pswReadCh { cm [] with session := 256 }, .pswGroupSet { cm [] with session := 256 }, .trnAcqReqWrite .host 2 0#32,
     .trnSweepEnd 2 default, .trnAcqResCRead .host 2, .trnPullinEnd 128, .trnCarrLock 128 false, .trnLost 128, .trnCoastEnd 128,
     .trnHandoverPass 128 [], .trnHandoverTimeout 128] : List Instr).all (fun i => !i.wf) = true := by decide +kernel

theorem test_wf_refuses_8 :
    ([.trnNavUnit 128 default, .trnAntFault 2 0, .trnAntRetry 2 0, .trnChannel { cm [] with session := 256 },
     .trnAcquire { cm [] with session := 256 }, .trnRawOpen { cm [] with session := 256 },
     .trnRawClose { cm [] with session := 256 }, .trnReadCh { cm [] with session := 256 }, .posRtcmFrame 2 [],
     .posRtcm { cm [] with session := 256 }, .posRtcmSrc { cm [] with session := 256 }, .posOrigin { cm [] with session := 256 },
     .posSentrySet { cm [] with session := 256 }, .posSentryRead { cm [] with session := 256 },
     .posSnapSolve { cm [] with session := 256 }, .posSentryClear { cm [] with session := 256 }, .camSegment 6 default,
     .camFrameCloseTimeout 6, .camStreamLost 6, .camIspComplete 8, .camEncAuComplete 2 [], .camLoadUpdate 1024,
     .camCtxRelWrite .host 8 0#32, .camEncCmdWrite .host 2 0#32] : List Instr).all (fun i => !i.wf) = true := by decide +kernel

theorem test_wf_refuses_9 :
    ([.camEncRdWrite .host 2 0#32, .camRingOpen { cm [] with session := 256 }, .camEncOpen { cm [] with session := 256 },
     .camBuffers { cm [] with session := 256 }, .camRelease { cm [] with session := 256 },
     .camTableSet { cm [] with session := 256 }, .camM2mSubmit { cm [] with session := 256 } [],
     .camEncIdr { cm [] with session := 256 }, .astPartTimeout 16, .astFusionCycle 65536, .astSourceLost 16,
     .astRingOpen { cm [] with session := 256 }, .astRingClose { cm [] with session := 256 },
     .astList { cm [] with session := 256 }, .astReadTrack { cm [] with session := 256 },
     .astClear { cm [] with session := 256 }, .safDiscrepancy 8, .safSpeedDiscrepancy 4, .safTestPulse 4 default,
     .safStandstill 4, .safSoTest 4 false, .safEdmTimeout 4, .safResetInput 16, .safSelfTestDone false 256 0 false] : List Instr).all (fun i => !i.wf) = true := by decide +kernel

theorem test_wf_refuses_10 :
    ([.safSelfTestDone false 0 256 false, .safSealChange 10, .safStopReq { cm [] with session := 256 },
     .safReadParams { cm [] with session := 256 }, .safFaultLog { cm [] with session := 256 },
     .safParamWrite { cm [] with session := 256 }, .jasperFrameRx 32 [], .jasperWatchdog 32, .jasperProduce 32,
     .canFrameRx 16 default, .canTxComplete 16 0 0, .canTxComplete 0 0 4, .canBusError 16 0 0 0, .canBusError 0 9 0 0,
     .canBusError 0 0 9 0, .canBusError 0 0 0 8, .canRecoveryStart 16, .canRecoveryDone 16, .canImportTimeout 64,
     .canClaimTimeout 16, .canTxqCtrlWrite .host 16 0#32, .canCtrlRecoverWrite .host 16, .linSlot 4, .linResponseRx 4 []] : List Instr).all (fun i => !i.wf) = true := by decide +kernel

theorem test_wf_refuses_11 :
    ([.linResponseTimeout 4, .canSend { cm [] with session := 256 }, .canRingOpen { cm [] with session := 256 },
     .canRecover { cm [] with session := 256 }, .canSleep { cm [] with session := 256 },
     .canExportSet { cm [] with session := 256 }, .linSleep { cm [] with session := 256 }, .ethLinkChange 13 default,
     .ethPtpSync 18446744073709551616 0, .ethGclSwitch 13, .serFrameEnd 10 default, .ethTimeGet { cm [] with session := 256 },
     .ethGclSet { cm [] with session := 256 }, .ethTrimSet { cm [] with session := 256 },
     .ethSerOpen { cm [] with session := 256 }, .ethSerSend { cm [] with session := 256 },
     .pairSwap { cm [] with session := 256 }, .pairRevert { cm [] with session := 256 }, .fltRdvRx default 256 [],
     .fltBarrierRx default default 4294967296 false, .fltCaSet { cm [] with session := 256 },
     .fltArrive { cm [] with session := 256 }, .fltRdvOpen { cm [] with session := 256 },
     .fltTileUpload { cm [] with session := 256 }] : List Instr).all (fun i => !i.wf) = true := by decide +kernel

theorem test_wf_refuses_12 :
    ([.fltSentryUpload { cm [] with session := 256 }, .recFreezeTimeout 16, .recRead { cm [] with session := 256 },
     .recFreeze { cm [] with session := 256 }, .recFlush { cm [] with session := 256 }, .recPost { cm [] with session := 256 },
     .recClassSet { cm [] with session := 256 }, .recClassGet { cm [] with session := 256 },
     .recCatalogue { cm [] with session := 256 }, .pnlCmdUpdate .host 0#32 65536, .pnlAutoUpdate 65536, .pnlCrackCheck 65536,
     .pnlBlinkToggle 4, .pnlText { cm [] with session := 256 }, .pnlBitmap { cm [] with session := 256 },
     .pnlBlink { cm [] with session := 256 }, .pnlUpdate (cm []) 65536, .pnlUpdate { cm [] with session := 256 } 0,
     .updBegin { cm [] with session := 256 }, .updBlock (cm []) 3, .updBlock { cm [] with session := 256 } 0,
     .updEnd { cm [] with session := 256 }, .updActivate { cm [] with session := 256 }, .updAbort { cm [] with session := 256 }] : List Instr).all (fun i => !i.wf) = true := by decide +kernel

theorem test_wf_refuses_13 :
    ([.prmCalExport { cm [] with session := 256 }, .prmCalWrite { cm [] with session := 256 },
     .prmConfigExport { cm [] with session := 256 }, .prmConfigImport { cm [] with session := 256 },
     .prmSet { cm [] with session := 256 }, .ainConversion 24 0, .bridgeCode 4 0, .speedEdge 12 false false 0, .acuImpact 8 [],
     .adrRegulationDecision 48 0, .adrRegulationDecision 0 4096, .boostConverterSwitch 65536 0, .ethGateInterval 13,
     .serTransmitDone 10, .usbVbusOvercurrent 2 0, .classCCommandDone 24] : List Instr).all (fun i => !i.wf) = true := by decide +kernel

/-- A payload longer than any slot carries is refused, as is a sequence number of 17 bits. -/

theorem test_wf_refuses_slots :
    (∀ p : List Byte, 65536 < p.length → cmdWf (cm p) = false) ∧ cmdWf { cm [] with seq := 65536 } = false := by
  refine ⟨fun p h => ?_, by decide⟩
  have : ¬ p.length ≤ 65536 := by omega
  simp [cmdWf, cm, this]

/-! ### Witnesses -/

/-- `Accepted` as a check. -/
def accB (f b role : Nat) (c : Cmd) (k : Nat) (s : State) : Bool :=
  decide (2 ≤ s.dome) && s.turn (256 * f + b) c && decide (s.sessionOf c = some k) && (s.ses k).kept.all (fun e => e.seq != c.seq) && (s.ses k).isOpen &&
    (s.bar f b role k == none)

theorem accB_accepted {f b role : Nat} {c : Cmd} {k : Nat} {s : State} (h : accB f b role c k s = true) :
    Accepted f b role c k s := by
  simp only [accB, Bool.and_eq_true, decide_eq_true_eq, List.all_eq_true, bne_iff_ne, beq_iff_eq] at h
  exact ⟨h.1.1.1.1.1, h.1.1.1.1.2, h.1.1.1.2, h.1.1.2, h.1.2, h.2⟩

theorem u8_zs (b : Byte) (m k : Nat) : u8 (b :: zs m) (k + 1) = 0 := by
  simp [u8, zs, List.getD_eq_getElem?_getD, List.getElem?_replicate]
  split <;> rfl

theorem i32_zs (m n : Nat) : i32 (1#8 :: zs m) (4 * n) = if n = 0 then 1 else 0 := by
  cases n with
  | zero => simp only [i32, w32, u32, u16, u8_zs, Nat.mul_zero]; rfl
  | succ n => simp only [i32, w32, u32, u16, show 4 * (n + 1) = (4 * n + 3) + 1 from rfl, u8_zs]; rfl

theorem isum_zs : 0 < isum ((List.range 256).map (fun n => i32 (cm (1#8 :: zs 1027)).payload (4 * n))) := by
  have h : (fun n => i32 (cm (1#8 :: zs 1027)).payload (4 * n)) = fun n => if n = 0 then 1 else 0 := by
    funext n; exact i32_zs 1027 n
  rw [h]; decide +kernel

theorem w32_wBytes (a : List Byte) (x : Word) : w32 (a ++ wBytes x) a.length = x := by
  have hx := x.isLt
  apply BitVec.eq_of_toNat_eq
  simp [w32, u32, u16, u8, wBytes, leBytes, List.getD_eq_getElem?_getD, word, byte, Nat.add_assoc]
  omega

theorem parBody_length : parBody.length = 1764 := by simp [parBody]

/-- That parameter set with its CRC. -/
def parSet : List Byte := parBody ++ wBytes (crc32c parBody)

theorem parSet_ok : safSetOk 0 (u8 parSet 2) parSet = true := by
  have h := w32_wBytes parBody (crc32c parBody)
  rw [parBody_length] at h
  have ht : (parBody ++ wBytes (crc32c parBody)).take 1764 = parBody := List.take_left' parBody_length
  have h2 : u8 parSet 2 = 1 := by decide +kernel
  rw [h2, parSet]
  unfold safSetOk
  rw [h, ht]
  simp only [Bool.and_eq_true, beq_self_eq_true, and_true]
  decide +kernel

theorem leNat_leBytes (n v : Nat) : leNat (leBytes n v) = v % 256 ^ n := by
  induction n generalizing v with
  | zero => simp [leNat, leBytes, Nat.mod_one]
  | succ n ih =>
    rw [leBytes, leNat, ih, Nat.pow_succ, Nat.mul_comm (256 ^ n) 256, Nat.mod_mul]; simp [byte]

theorem slice_mid (n : Nat) (x y : List Byte) : slice (zs n ++ x ++ y) n x.length = x := by
  have h : (zs n).length = n := List.length_replicate ..
  rw [slice, List.append_assoc, List.drop_left' h, List.take_left' rfl]

theorem calPay_serial : leNat (slice (cm calPay).payload 12288 8) = Config.serial.toNat := by
  have h := Config.serial.isLt
  have hd : slice (cm calPay).payload 12288 8 = leBytes 8 Config.serial.toNat := slice_mid 12288 (leBytes 8 _) (zs 64)
  rw [hd, leNat_leBytes]; omega

theorem witness_FabricCommandsComplete :
(∃ (ini : Initiator) (a : Nat) (v : BitVec 64) (s : State), (s.begun.write32 ini a (v.extractLsb' 0 32)).busFailed ini =
      false) ∧
(∃ (ini : Initiator) (blk : Nat) (g : GuardPend) (s : State), s.guardOf ini blk = some g ∧ g.at_ + 256 ≤ s.clk.now) ∧
(∃ (n : Nat) (t0 : Nat) (s : State), s.fab.sigAt.lookup n = some t0 ∧ s.fd R.FAB_SIG_HOST_AGE 15 0 ≠ 0 ∧ n < 512 ∧ s.tbPast t0
      (tbMs (s.fd R.FAB_SIG_HOST_AGE 15 0)) = true) ∧
(∃ (s : State), s.domainUp .fab = true) ∧
(∃ (s : State), s.domainUp .fab = true) ∧
(∃ (g : Nat) (s : State), g < 16 ∧ ugArmed (s.rd (R.FAB_UG_CFG g)) = true ∧ s.tbReached (s.ugCmp g) = true) :=
  ⟨⟨.dome, R.FAB_SIG_HOST_AGE, 0#64, ww, by decide +kernel⟩,
   ⟨.host, 0xE0010000, { ini := .host, block := 0xE0010000, addr := 0xE0010000, value := 1#32, at_ := 999999999744 },
    { ww with fab := { guards := [{ ini := .host, block := 0xE0010000, addr := 0xE0010000, value := 1#32, at_ := 999999999744 }] } },
    by decide +kernel, by decide +kernel⟩,
   ⟨0x180, 0, { (wr [(R.FAB_SIG_HOST_AGE, 0x1#32)]) with fab := { sigAt := [(0x180, 0)] } }, by decide +kernel, by
    decide +kernel, by decide +kernel, by decide +kernel⟩,
   ⟨ww, by decide +kernel⟩,
   ⟨ww, by decide +kernel⟩,
   ⟨0, (wr [(R.FAB_UG_CFG 0, 0x12#32)]), by decide +kernel, by decide +kernel, by decide +kernel⟩⟩

theorem witness_CommonCommandsComplete :
(∃ (fn : Nat) (c : Cmd) (k : Nat) (s : State), Accepted fn 0x00 0 c k s ∧ c.payload = []) ∧
(∃ (fn : Nat) (c : Cmd) (k : Nat) (s : State), Accepted fn 0x01 0 c k s ∧ c.payload = [] ∧ (s.fn fn).state ≠ .unused) ∧
(∃ (fn : Nat) (c : Cmd) (k : Nat) (s : State), Accepted fn 0x02 1 c k s ∧ commonRefusal fn 0x02 = none ∧ fn ≠ 2 ∧ s.cfgState
      fn = true ∧ (s.entered fn 0x02 k c).cfgCheck fn c.payload = stOK) ∧
(∃ (c : Cmd) (k : Nat) (s : State), Accepted 2 0x02 1 c k s ∧ s.cfgState 2 = true ∧ (s.entered 2 0x02 k c).cfgCheck 2
      c.payload = stOK) ∧
(∃ (fn : Nat) (c : Cmd) (k : Nat) (q : List Byte) (s : State), Accepted fn 0x03 1 c k s ∧ commonRefusal fn 0x03 = none ∧
      c.payload = [] ∧ s.cfgState fn = true ∧ s.prm.importing = false ∧ (s.fn fn).pending = some q ∧ fn ≠ 3 ∧ fn ≠ 4 ∧ fn ≠ 13
      ∧ fn ≠ 15) ∧
(∃ (fn : Nat) (c : Cmd) (k : Nat) (p : List Byte) (q : List Byte) (s : State) (t : State), Accepted fn 0x03 1 c k s ∧
      commonRefusal fn 0x03 = none ∧ c.payload = [] ∧ s.cfgState fn = true ∧ s.prm.importing = false ∧ ((s.fn fn).pending =
      some q ∧ p = cfgMerge fn ((s.fn fn).applied.getD []) q ∨ (s.fn fn).pending = none ∧ p = (s.fn fn).applied.getD [] ∧ q =
      cfgWhole fn p) ∧ (s.entered fn 0x03 k c).cfgBlocked fn p = false ∧ (fn = 13 → p = [] ∨ camApplyOk p = true) ∧ t =
      ((((s.entered fn 0x03 k c).fnApply fn q).setFn fn (fun x =>
      { x with pending := none, applied := some p, state := if x.state = .stopped then .configured else x.state })).prmTxn
      (fun y => y.setConfig fn p)).answer k (256 * fn + 3) c stOK []) ∧
(∃ (fn : Nat) (c : Cmd) (k : Nat) (s : State), Accepted fn 0x04 0 c k s ∧ serviceFn fn = false ∧ c.payload.length = (if fn = 8
      then 1 else 0) ∧ (fn = 8 → u8 c.payload 0 ≤ 2) ∧ ((s.fn fn).state = .configured ∨ fn = 23 ∧ (s.fn fn).state = .stopped)
      ∧ s.power = 3 ∧ s.fnBlocked fn = false) ∧
(∃ (fn : Nat) (c : Cmd) (k : Nat) (s : State), Accepted fn 0x05 0 c k s ∧ serviceFn fn = false ∧ c.payload = [] ∧ (s.fn
      fn).state = .running) ∧
(∃ (fn : Nat) (c : Cmd) (k : Nat) (s : State), Accepted fn 0x0E 1 c k s ∧ commonRefusal fn 0x0E = none ∧ c.payload = [] ∧
      (s.fn fn).owner = none) ∧
(∃ (fn : Nat) (p : List Byte) (s : State), (s.fn fn).state = .reinit ∧ (s.fn fn).applied = some p ∧ (s.fn fn).reply = none ∧
      fn ≠ 0x13 ∧ fn ≠ 0x16) ∧
(∃ (fn : Nat) (k : Nat) (op : Nat) (c : Cmd) (s : State), (s.fn fn).state = .reinit ∧ (s.fn fn).applied = none ∧ (s.fn
      fn).reply = some (k, op, c)) ∧
(∃ (fn : Nat) (c : Cmd) (k : Nat) (s : State), Accepted fn 0x0F 2 c k s ∧ commonRefusal fn 0x0F = none ∧ c.payload.length = 1
      ∧ u8 c.payload 0 = 1 ∧ (s.ses k).udp = none ∧ (s.fn fn).state = .running ∧ (s.fn fn).owner = none ∧ (s.fn fn).transfer =
      none ∧ controlFns.contains fn = false) ∧
(∃ (fn : Nat) (c : Cmd) (k : Nat) (s : State), Accepted fn 0x0F 2 c k s ∧ commonRefusal fn 0x0F = none ∧ c.payload.length = 1
      ∧ u8 c.payload 0 = 1 ∧ (s.ses k).udp = none ∧ (s.fn fn).state = .running ∧ (s.fn fn).owner = none ∧ (s.fn fn).transfer =
      none ∧ controlFns.contains fn = true) ∧
(∃ (fn : Nat) (c : Cmd) (k : Nat) (s : State), Accepted fn 0x0F 2 c k s ∧ commonRefusal fn 0x0F = none ∧ c.payload.length = 1
      ∧ u8 c.payload 0 = 0 ∧ (s.fn fn).owner.isSome = true) ∧
(∃ (fn : Nat) (k : Nat) (t0 : Nat) (c : Cmd) (s : State), (s.fn fn).transfer = some (t0, c) ∧ t0 < s.clk.tickCount ∧
      s.sessionOf c = some k) ∧
(∃ (fn : Nat) (s : State), (s.fn fn).state ≠ .faulted ∧ (s.fn fn).state ≠ .unused) :=
  ⟨⟨0, (cm []), 0, ww, accB_accepted (by decide +kernel), by decide +kernel⟩,
   ⟨0, (cm []), 0, ww, accB_accepted (by decide +kernel), by decide +kernel, by decide +kernel⟩,
   ⟨20, (cm (bs [1, 0, 0, 0])), 0, ww, accB_accepted (by decide +kernel), by decide +kernel, by decide +kernel, by
    decide +kernel, by decide +kernel⟩,
   ⟨(cm (zs 8)), 0, ww, accB_accepted (by decide +kernel), by decide +kernel, by decide +kernel⟩,
   ⟨2, (cm []), 0, zs 4, (wfn 2 { pending := some (zs 4) }), accB_accepted (by decide +kernel), by decide +kernel, by
    decide +kernel, by decide +kernel, by decide +kernel, by decide +kernel, by decide +kernel, by decide +kernel, by
    decide +kernel, by decide +kernel⟩,
   ⟨2, (cm []), 0, cfgMerge 2 [] (zs 8), zs 8, (wfn 2 { pending := some (zs 8) }), _, accB_accepted (by decide +kernel), by
    decide +kernel, by decide +kernel, by decide +kernel, by decide +kernel, .inl ⟨by decide +kernel, by decide +kernel⟩, by
    decide +kernel, by decide +kernel, rfl⟩,
   ⟨2, (cm []), 0, (wfn 2 { state := .configured }), accB_accepted (by decide +kernel), by decide +kernel, by decide +kernel, by
    decide +kernel, by decide +kernel, by decide +kernel, by decide +kernel⟩,
   ⟨2, (cm []), 0, ww, accB_accepted (by decide +kernel), by decide +kernel, by decide +kernel, by decide +kernel⟩,
   ⟨2, (cm []), 0, ww, accB_accepted (by decide +kernel), by decide +kernel, by decide +kernel, by decide +kernel⟩,
   ⟨2, [1#8], (wfn 2 { state := .reinit, applied := some [1#8] }), by decide +kernel, by decide +kernel, by decide +kernel, by
    decide +kernel, by decide +kernel⟩,
   ⟨2, 0, 0, (cm []), (wfn 2 { state := .reinit, reply := some (0, 0, cm []) }), by decide +kernel, by decide +kernel, by
    decide +kernel⟩,
   ⟨13, (cm (bs [1])), 0, ww, accB_accepted (by decide +kernel), by decide +kernel, by decide +kernel, by decide +kernel, by
    decide +kernel, by decide +kernel, by decide +kernel, by decide +kernel, by decide +kernel⟩,
   ⟨2, (cm (bs [1])), 0, ww, accB_accepted (by decide +kernel), by decide +kernel, by decide +kernel, by decide +kernel, by
    decide +kernel, by decide +kernel, by decide +kernel, by decide +kernel, by decide +kernel⟩,
   ⟨13, (cm (bs [0])), 0, (wex 13 []), accB_accepted (by decide +kernel), by decide +kernel, by decide +kernel, by
    decide +kernel, by decide +kernel⟩,
   ⟨2, 0, 0, cm [1#8], (wfn 2 { transfer := some (0, cm [1#8]) }), by decide +kernel, by decide +kernel, by decide +kernel⟩,
   ⟨0, ww, by decide +kernel, by decide +kernel⟩⟩

theorem witness_SystemCommandsComplete :
(∃ (c : Cmd) (k : Nat) (s : State), Accepted 1 0x04 0 c k s ∧ c.payload = [] ∧ s.pwr.held ≠ 3 ∧ s.power = 3 ∧ (List.range
      24).any (fun f => s.starts f && s.fnBlocked f) = false) ∧
(∃ (c : Cmd) (k : Nat) (s : State), Accepted 1 0x05 1 c k s ∧ c.payload = [] ∧ s.pwr.held ≠ 2) ∧
(∃ (c : Cmd) (k : Nat) (s : State), Accepted 1 0x10 1 c k s ∧ c.payload = [] ∧ s.pwr.resetDue = none) ∧
(∃ (c : Cmd) (k : Nat) (s : State), Accepted 1 0x11 1 c k s ∧ c.payload = [] ∧ s.pwr.cycleDue = none) ∧
(∃ (c : Cmd) (k : Nat) (s : State), Accepted 1 0x12 0 c k s ∧ c.payload.length = 2 ∧ u16 c.payload 0 ≤ 3600) ∧
(∃ (c : Cmd) (k : Nat) (s : State), Accepted 1 0x13 0 c k s ∧ c.payload.length = 1 ∧ u8 c.payload 0 ≤ 2 ∧ s.bt R.PWR_STATE 8 =
      false ∧ s.pwr.keyOff ≠ .shutdown) ∧
(∃ (fn : Nat) (r : Running) (x : State × Nat × List Byte) (s : State), s.mbx.running.find? (fun r => r.fn == fn) = some r ∧
      s.begun.classCEnd r = some x) ∧
(∃ (tb : Nat) (l : List Nat) (s : State), s.clk.due = tb :: l) ∧
(∃ (tb : Nat) (l : List Nat) (s : State), s.clk.due = tb :: l ∧ (s.clk.tickCount + 1) % 20 = 0) :=
  ⟨⟨(cm []), 0, ww, accB_accepted (by decide +kernel), by decide +kernel, by decide +kernel, by decide +kernel, by
    decide +kernel⟩,
   ⟨(cm []), 0, { ww with pwr := { held := 3 } }, accB_accepted (by decide +kernel), by decide +kernel, by decide +kernel⟩,
   ⟨(cm []), 0, ww, accB_accepted (by decide +kernel), by decide +kernel, by decide +kernel⟩,
   ⟨(cm []), 0, ww, accB_accepted (by decide +kernel), by decide +kernel, by decide +kernel⟩,
   ⟨(cm (zs 2)), 0, ww, accB_accepted (by decide +kernel), by decide +kernel, by decide +kernel⟩,
   ⟨(cm (zs 1)), 0, (wr [(R.PWR_STATE, 0x3#32)]), accB_accepted (by decide +kernel), by decide +kernel, by decide +kernel, by
    decide +kernel, by decide +kernel⟩,
   ⟨21, rn 21 0x1511 [], ((({ ww with mbx := { running := [rn 21 0x1511 []] } } : State).begun.classCEnd (rn 21 0x1511 [])).getD
    (ww, 0, [])), { ww with mbx := { running := [rn 21 0x1511 []] } }, by decide +kernel, rfl⟩,
   ⟨5, [], { ww with clk := { due := [5], running := true } }, by decide +kernel⟩,
   ⟨5, [], { ww with clk := { due := [5], running := true, tickCount := 19 } }, by decide +kernel, by decide +kernel⟩⟩

theorem witness_MailboxEventsComplete :
(∃ (k : Nat) (s : State), s.domainUp .fab = true ∧ s.freeIndex = some k) ∧
(∃ (k : Nat) (s : State), ((s.ses k).place = .claimed ∨ (s.ses k).place = .bootstrap) ∧ (s.ses k).sawOpen = false ∧ s.tbPast
      (s.ses k).claimAt (tbMs 1000) = true) ∧
(∃ (k : Nat) (s : State), (s.ses k).place = .claimed ∧ 2 ≤ s.dome) ∧
(∃ (k : Nat) (s : State), (s.ses k).place = .awaitPlace ∧ (s.rd (R.MBX_Q_CONS (16 + k)) - word (s.ses k).authIndex).toNat <
      2147483648) ∧
(∃ (t0 : Nat) (s : State), s.mbx.irqSince = some t0 ∧ s.tbPast t0 (50 * s.fd R.MBX_IRQ_HOLDOFF 15 0) = true ∧ s.mbx.irqHeld =
      false) ∧
(∃ (t0 : Nat) (s : State), s.mbx.irqSince = some t0 ∧ s.tbPast t0 (50 * s.fd R.MBX_IRQ_HOLDOFF 15 0) = true ∧ s.mbx.irqHeld =
      true) ∧
(∃ (n : Nat) (ip : Nat) (port : Nat) (r : DataRing) (s : State), s.ring? n = some r ∧ (s.ses r.session).udp = some (ip, port)
      ∧ s.unacked n ≠ []) ∧
(∃ (src : Nat) (s : State), s.srcBlocked src = false) ∧
(∃ (k : Nat) (s : State), ((s.ses k).isOpen = true ∨ (s.ses k).sawOpen = true) ∧ s.power ≠ 2 ∧ s.tbPast (s.ses k).lastCmd
      (tbMs 300000) = true) ∧
(∃ (fn : Nat) (k : Nat) (r : Running) (s : State), s.mbx.running.find? (fun r => r.fn == fn) = some r ∧ s.sessionOf r.cmd =
      some k ∧ (s.ses k).progWait = [] ∧ s.notifRoom k = true) :=
  ⟨⟨1, ww, by decide +kernel, by decide +kernel⟩,
   ⟨0, wses { place := .claimed }, by decide +kernel, by decide +kernel, by decide +kernel⟩,
   ⟨0, wses { place := .claimed }, by decide +kernel, by decide +kernel⟩,
   ⟨0, wses { place := .awaitPlace }, by decide +kernel, by decide +kernel⟩,
   ⟨0, { ww with mbx := { irqSince := some 0 } }, by decide +kernel, by decide +kernel, by decide +kernel⟩,
   ⟨0, { ww with mbx := { irqSince := some 0, irqHeld := true } }, by decide +kernel, by decide +kernel, by decide +kernel⟩,
   ⟨48, 1, 2, dr 3 0 0,
    { ww with mbx := { sessions := [{ udp := some (1, 2) }], rings := [dr 3 0 0], slots := [{ ring := 48, index := 0, place := 0, bytes := [], sentAt := 0 }] } },
    by decide +kernel, by decide +kernel, by decide +kernel⟩,
   ⟨0, ww, by decide +kernel⟩,
   ⟨0, ww, by decide +kernel, by decide +kernel, by decide +kernel⟩,
   ⟨21, 0, rn 21 0x1511 [], { ww with mbx := { sessions := [{ udp := some (1, 2) }], running := [rn 21 0x1511 []] } }, by
    decide +kernel, by decide +kernel, by decide +kernel, by decide +kernel⟩⟩

theorem witness_LinkCommandsComplete :
(∃ (c : Cmd) (q : Nat) (s : State), c.origin = .ring q ∧ 2 ≤ s.dome ∧ s.turn 0x10 c = true ∧ q < 16 ∧ s.bt (R.MBX_Q_CFG q) 15
      = true ∧ (∀ e ∈ (s.ses q).kept, e.seq ≠ c.seq)) ∧
(∃ (c : Cmd) (ip : Nat) (port : Nat) (s : State), c.origin = .udp ip port ∧ 2 ≤ s.dome ∧ s.turn 0x10 c = true ∧ s.sessionOf c
      = none ∧ s.keptOpen ip port c = none) ∧
(∃ (c : Cmd) (k : Nat) (h : Challenge) (s : State), 2 ≤ s.dome ∧ s.turn 0x11 c = true ∧ s.sessionOf c = some k ∧ (∀ e ∈ (s.ses
      k).kept, e.seq ≠ c.seq) ∧ (s.ses k).isOpen = false ∧ c.payload.length = 32 ∧ (s.ses k).challenge = some h ∧ k <
      s.mbx.sessions.length ∧ s.authOk h (s.arrivedAt 0x11 c) c.payload = true) ∧
(∃ (c : Cmd) (k : Nat) (s : State), Accepted 0 0x12 0 c k s ∧ c.payload = []) ∧
(∃ (c : Cmd) (k : Nat) (s : State), Accepted 0 0x13 0 c k s ∧ c.payload = []) ∧
(∃ (c : Cmd) (k : Nat) (s : State), Accepted 0 0x14 0 c k s ∧ c.payload.length = 4) ∧
(∃ (c : Cmd) (k : Nat) (s : State), Accepted 0 0x15 0 c k s ∧ c.payload.length = 8 ∧ s.mbx.rings.any (fun r => r.ring == u8
      c.payload 0 && r.session == k) = true ∧ s.consValid (u8 c.payload 0) (w32 c.payload 4) = true) ∧
(∃ (c : Cmd) (k : Nat) (s : State), Accepted 0 0x16 2 c k s ∧ c.payload.length = 36 ∧ 1 ≤ u8 c.payload 0 ∧ u8 c.payload 0 ≤ 31
      ∧ u8 c.payload 1 ≤ 2 ∧ u8 c.payload 1 ≤ (s.ses k).role ∧ s.prm.store.keys.getD (u8 c.payload 0) none = none ∧
      s.prm.importing = false) :=
  ⟨⟨(cm []), 0, (wr [(R.MBX_Q_CFG 0, 0x8000#32)]), by decide +kernel, by decide +kernel, by decide +kernel, by decide +kernel, by
    decide +kernel, by decide +kernel⟩,
   ⟨{ cm [] with origin := .udp 0 0 }, 0, 0, (wr [(R.MBX_Q_CFG 0, 0x8000#32)]), by decide +kernel, by decide +kernel, by
    decide +kernel, by decide +kernel, by decide +kernel⟩,
   ⟨cm (hmac256 (leBytes 32 7) (leBytes 32 5)), 0, { value := 5#256, at_ := 1000000000000, key := 1, role := 1 },
    { wses { challenge := some { value := 5#256, at_ := 1000000000000, key := 1, role := 1 } } with prm := { store := { keys := [none, some (2, 7#256)] } } },
    by decide +kernel, by decide +kernel, by decide +kernel, by decide +kernel, by decide +kernel, by decide +kernel, by
    decide +kernel, by decide +kernel, by decide +kernel⟩,
   ⟨(cm []), 0, ww, accB_accepted (by decide +kernel), by decide +kernel⟩,
   ⟨(cm []), 0, ww, accB_accepted (by decide +kernel), by decide +kernel⟩,
   ⟨(cm (zs 4)), 0, ww, accB_accepted (by decide +kernel), by decide +kernel⟩,
   ⟨cm (bs [48, 0, 0, 0, 0, 0, 0, 0]), 0, (wdr 3 0 0), accB_accepted (by decide +kernel), by decide +kernel, by decide +kernel,
    by decide +kernel⟩,
   ⟨(cm (bs [1] ++ zs 35)), 0, { ww with prm := { store := { keys := List.replicate 32 none } } }, accB_accepted (by
    decide +kernel), by decide +kernel, by decide +kernel, by decide +kernel, by decide +kernel, by decide +kernel, by
    decide +kernel, by decide +kernel⟩⟩

theorem witness_MeridianCommandsComplete :
(∃ (ini : Initiator) (s : State), s.domainUp .ctl = true ∧ (ini = .host → s.expert fMER = true)) ∧
(∃ (c : Cmd) (k : Nat) (es : List (Nat × Word)) (s : State), Accepted fMER 0x10 0 c k s ∧ 1 ≤ u8 c.payload 0 ∧ u8 c.payload 0
      ≤ 5 ∧ c.payload.length = 4 + 8 * u8 c.payload 0 ∧ es = (List.range (u8 c.payload 0)).map (fun i => (u8 c.payload (4 + 8
      * i), w32 c.payload (8 + 8 * i))) ∧ (∀ e ∈ es, e.1 < 64) ∧ s.isRunning fCST = false) ∧
(∃ (c : Cmd) (k : Nat) (s : State), Accepted fMER 0x11 1 c k s ∧ c.payload.length = 28 ∧ u8 c.payload 0 < 64) ∧
(∃ (c : Cmd) (k : Nat) (s : State), Accepted fMER 0x12 1 c k s ∧ c.payload.length = 8 ∧ u8 c.payload 0 < 64 ∧ (i32 c.payload
      4).natAbs ≤ s.fd (R.MER_IMAX (u8 c.payload 0)) 30 0) ∧
(∃ (c : Cmd) (k : Nat) (s : State), Accepted fMER 0x13 0 c k s ∧ c.payload.length = 1 ∧ u8 c.payload 0 < 64) :=
  ⟨⟨.dome, ww, by decide +kernel, by decide +kernel⟩,
   ⟨(cm (bs [1] ++ zs 11)), 0, [(0, 0#32)], wfn 8 { }, accB_accepted (by decide +kernel), by decide +kernel, by decide +kernel,
    by decide +kernel, by decide +kernel, by decide +kernel, by decide +kernel⟩,
   ⟨(cm (zs 28)), 0, ww, accB_accepted (by decide +kernel), by decide +kernel, by decide +kernel⟩,
   ⟨(cm (zs 8)), 0, ww, accB_accepted (by decide +kernel), by decide +kernel, by decide +kernel, by decide +kernel⟩,
   ⟨(cm (zs 1)), 0, ww, accB_accepted (by decide +kernel), by decide +kernel, by decide +kernel⟩⟩

theorem witness_PowerEventsComplete :
(∃ (i : Nat) (mv : Nat) (s : State), i < 10 ∧ s.pwr.aonOn = true ∧ s.pwr.dipSince.getD i none = none ∧ mv < s.dipTh i) ∧
(∃ (i : Nat) (mv : Nat) (t0 : Nat) (s : State), i < 10 ∧ s.pwr.dipSince.getD i none = some t0 ∧ s.dipTh i + 500 < mv) ∧
(∃ (s : State), s.power = 3 ∧ s.dome ≠ 0 ∧ s.clk.running = true ∧ s.tbPast s.pwr.mirrorTb (tbMs 60000) = true) ∧
(∃ (mv : Nat) (s : State), mv < 7500 ∧ s.pwr.vbatOk = true ∧ s.pwr.coreOn = true ∧ s.pwr.holdup = false) ∧
(∃ (mv : Nat) (s : State), 38000 < mv ∧ s.pwr.overShed = false ∧ s.pwr.coreOn = true) ∧
(∃ (mv : Nat) (s : State), mv < 37000 ∧ s.pwr.overShed = true) ∧
(∃ (t0 : Int) (s : State), s.pwr.vxaHot = false ∧ 11500 < t0) ∧
(∃ (s : State), s.bt R.PWR_STATE 8 = true ∧ s.power = 3 ∧ s.pwr.coreOn = true ∧ s.pwr.keyOff = .none) ∧
(∃ (s : State), s.bt R.PWR_STATE 8 = false ∧ s.power = 3 ∧ s.pwr.coreOn = true ∧ s.pwr.keyOff = .delay) ∧
(∃ (s : State), s.pwr.keyOff = .delay ∧ s.pwr.keyTb + tbMs (1000 * s.fd R.PWR_KEYOFF_CFG 25 16) ≤ s.clk.tb ∧ s.keptAwake =
      false ∧ s.dome ≠ 5) ∧
(∃ (s : State), s.pwr.keyOff = .shutdown ∧ s.pwr.step3Done = true ∧ s.pwr.step2At + fabS 5 ≤ s.clk.now ∧ s.pwr.target = 0) ∧
(∃ (s : State), s.pwr.keyOff = .shutdown ∧ s.pwr.step3Done = true ∧ s.pwr.step2At + fabS 5 ≤ s.clk.now ∧ s.pwr.target = 1) ∧
(∃ (s : State), s.pwr.keyOff = .shutdown ∧ s.pwr.step3Done = true ∧ s.pwr.step2At + fabS 5 ≤ s.clk.now ∧ s.pwr.target = 2) ∧
(∃ (k : Nat) (s : State), (s.ses k).keepAwake.any (fun t => t ≤ s.clk.tb) = true) ∧
(∃ (s : State), s.power = 2 ∧ s.fd R.PWR_KEYOFF_CFG 15 8 ≠ 0 ∧ s.pwr.offAt + fabS (3600 * s.fd R.PWR_KEYOFF_CFG 15 8) ≤
      s.clk.now ∧ s.pwr.step3Done = false) ∧
(∃ (s : State), s.power = 2 ∧ s.fd R.PWR_KEYOFF_CFG 15 8 ≠ 0 ∧ s.pwr.offAt + fabS (3600 * s.fd R.PWR_KEYOFF_CFG 15 8) ≤
      s.clk.now ∧ s.pwr.step3Done = true ∧ s.pnlIdle = true) ∧
(∃ (mv : Nat) (since : Nat) (s : State), s.power = 1 ∧ mv < s.dipTh 1 ∧ since + fabS 60 ≤ s.clk.now) ∧
(∃ (s : State), s.pwr.aonOn = true) :=
  ⟨⟨0, 0, ww, by decide +kernel, by decide +kernel, by decide +kernel, by decide +kernel⟩,
   ⟨0, 18501, 7, wpw (fun p => { p with dipSince := some 7 :: List.replicate 9 none }), by decide +kernel, by decide +kernel, by
    decide +kernel⟩,
   ⟨ww, by decide +kernel, by decide +kernel, by decide +kernel, by decide +kernel⟩,
   ⟨0, ww, by decide +kernel, by decide +kernel, by decide +kernel, by decide +kernel⟩,
   ⟨38001, ww, by decide +kernel, by decide +kernel, by decide +kernel⟩,
   ⟨36999, wpw (fun p => { p with overShed := true }), by decide +kernel, by decide +kernel⟩,
   ⟨11501, ww, by decide +kernel, by decide +kernel⟩,
   ⟨(wr [(R.PWR_STATE, 0x103#32)]), by decide +kernel, by decide +kernel, by decide +kernel, by decide +kernel⟩,
   ⟨{ (wr [(R.PWR_STATE, 0x3#32)]) with pwr := { coreOn := true, keyOff := .delay } }, by decide +kernel, by decide +kernel, by
    decide +kernel, by decide +kernel⟩,
   ⟨{ ww with pwr := { coreOn := true, keyOff := .delay } }, by decide +kernel, by decide +kernel, by decide +kernel, by
    decide +kernel⟩,
   ⟨wpw (fun p => { p with keyOff := .shutdown, step3Done := true }), by decide +kernel, by decide +kernel, by decide +kernel, by
    decide +kernel⟩,
   ⟨wpw (fun p => { p with keyOff := .shutdown, step3Done := true, target := 1 }), by decide +kernel, by decide +kernel, by
    decide +kernel, by decide +kernel⟩,
   ⟨wpw (fun p => { p with keyOff := .shutdown, step3Done := true, target := 2 }), by decide +kernel, by decide +kernel, by
    decide +kernel, by decide +kernel⟩,
   ⟨0, wses { keepAwake := some 5 }, by decide +kernel⟩,
   ⟨{ (wr [(R.PWR_KEYOFF_CFG, 0x100#32), (R.PWR_STATE, 0x2#32)]) with clk := { now := 100000000000000, tb := 1000000000000 } },
    by decide +kernel, by decide +kernel, by decide +kernel, by decide +kernel⟩,
   ⟨{ (wr [(R.PWR_KEYOFF_CFG, 0x100#32), (R.PWR_STATE, 0x2#32)]) with clk := { now := 100000000000000, tb := 1000000000000 }, pwr := { step3Done := true } },
    by decide +kernel, by decide +kernel, by decide +kernel, by decide +kernel, by decide +kernel⟩,
   ⟨0, 0, (wr [(R.PWR_STATE, 0x1#32)]), by decide +kernel, by decide +kernel, by decide +kernel⟩,
   ⟨ww, by decide +kernel⟩⟩

theorem witness_ResetAndStartupComplete :
(∃ (mv : Nat) (s : State), 8000 < mv ∧ s.pwr.vbatOk = false ∧ s.pwr.coreOn = true ∧ s.pwr.holdup = true) ∧
(∃ (f : Nat) (r : Nat) (x : Nat) (s : State), s.pwr.fellAt = some f ∧ s.pwr.confAt = some r ∧ s.pwr.roseAt = some x ∧
      s.pwr.holdup = true ∧ s.pwr.vbatOk = true ∧ r + fabMs 1 ≤ s.clk.now ∧ holdupGood f r = true ∧ s.pwr.cycleDue = none ∧
      s.pwr.resetDue = none) ∧
(∃ (f : Nat) (s : State), s.pwr.fellAt = some f ∧ s.pwr.roseAt = none ∧ s.pwr.confAt = none ∧ s.pwr.holdup = true ∧ f + fabMs
      30 ≤ s.clk.now) ∧
(∃ (s : State), s.pwr.aonOn = true ∧ s.pwr.releasedAt = none ∧ (s.pwr.woken = true ∨ s.pwr.vbatBack = true)) ∧
(∃ (s : State), s.pwr.coreOn = false ∧ s.pwr.vbatOk = false ∧ s.pwr.aonOn = true ∧ s.pwr.lowAt + fabS 2 ≤ s.clk.now) ∧
(∃ (w : WakeIn) (s : State), w.src = 0 ∧ s.bt R.PWR_STATE 8 = true) ∧
(∃ (w : WakeIn) (s : State), 1 ≤ w.src ∧ w.src ≤ 6 ∧ s.bt R.PWR_WAKE_EN w.src = true ∧ (w.src = 1 → s.dinWakes w = true) ∧
      (w.src = 4 → s.timerDue = true) ∧ (w.src = 6 → s.pos.sentry.wake = true)) ∧
(∃ (t0 : Nat) (s : State), s.pwr.releasedAt = some t0 ∧ t0 + fabMs (clampN 500 10000 (s.fd R.PWR_PC_OFF 13 0)) ≤ s.clk.now ∧
      s.bt R.PWR_STATE 8 = false ∧ s.pwr.wakePend = true) ∧
(∃ (t0 : Nat) (s : State), s.pwr.cycleDue = some t0 ∧ t0 ≤ s.clk.now ∧ s.pwr.holdup = false) ∧
(∃ (us : Nat) (s : State), s.pwr.coreOn = true ∧ s.bt R.SYS_WDOG_CFG 16 = true ∧ 1000 ≤ us) ∧
(∃ (s : State), s.pwr.coreOn = true) ∧
(∃ (t0 : Nat) (s : State), s.pwr.resetDue = some t0 ∧ t0 ≤ s.clk.now ∧ s.pwr.holdup = false) ∧
(∃ (t0 : Nat) (s : State), s.saf.safrst = some t0 ∧ t0 ≤ s.clk.now ∧ s.pwr.coreOn = true) ∧
(∃ (s : State), s.clk.running = false ∧ s.pwr.coreOn = true) ∧
(∃ (tcxo : Bool) (s : State), s.clk.running = true ∧ (s.clk.lost = false ∨ tcxo = true ∧ s.bt R.SYS_CLK_STATUS 1 = true)) ∧
(∃ (s : State), s.dome = 0 ∧ s.clk.running = true ∧ s.pwr.coreOn = true ∧ s.upd.stored = none ∧ s.upd.marker = false ∧
      s.pwr.third = false) ∧
(∃ (s : State), s.dome = 0 ∧ s.clk.running = true ∧ s.pwr.coreOn = true) ∧
(∃ (s : State), s.dome = 1 ∧ s.clk.running = true) :=
  ⟨⟨8001, wpw (fun p => { p with holdup := true, vbatOk := false }), by decide +kernel, by decide +kernel, by decide +kernel, by
    decide +kernel⟩,
   ⟨999990000000, 999995800000, 999995800000, whold (some 999995800000), by decide +kernel, by decide +kernel, by decide +kernel,
    by decide +kernel, by decide +kernel, by decide +kernel, by decide +kernel, by decide +kernel, by decide +kernel⟩,
   ⟨999990000000, whold none, by decide +kernel, by decide +kernel, by decide +kernel, by decide +kernel, by decide +kernel⟩,
   ⟨wpw (fun p => { p with woken := true }), by decide +kernel, by decide +kernel, by decide +kernel⟩,
   ⟨wpw (fun p => { p with coreOn := false, vbatOk := false }), by decide +kernel, by decide +kernel, by decide +kernel, by
    decide +kernel⟩,
   ⟨default, (wr [(R.PWR_STATE, 0x103#32)]), by decide +kernel, by decide +kernel⟩,
   ⟨{ src := 1, n := 0, since := 0, vfs := 9000 }, wr [(R.PWR_WAKE_EN, 2#32), (R.DIN_WAKE_SEL0, 1#32)], by decide +kernel, by
    decide +kernel, by decide +kernel, by decide +kernel, by decide +kernel, by decide +kernel⟩,
   ⟨0, { (wr [(R.PWR_STATE, 0x3#32)]) with pwr := { releasedAt := some 0, wakePend := true } }, by decide +kernel, by
    decide +kernel, by decide +kernel, by decide +kernel⟩,
   ⟨0, wpw (fun p => { p with cycleDue := some 0 }), by decide +kernel, by decide +kernel, by decide +kernel⟩,
   ⟨1000, (wr [(R.SYS_WDOG_CFG, 0x10000#32)]), by decide +kernel, by decide +kernel, by decide +kernel⟩,
   ⟨ww, by decide +kernel⟩,
   ⟨0, wpw (fun p => { p with resetDue := some 0 }), by decide +kernel, by decide +kernel, by decide +kernel⟩,
   ⟨0, { ww with saf := { safrst := some 0 } }, by decide +kernel, by decide +kernel, by decide +kernel⟩,
   ⟨{ ww with clk := { now := 1 } }, by decide +kernel, by decide +kernel⟩,
   ⟨true, ww, by decide +kernel, by decide +kernel⟩,
   ⟨(wr [(R.MBX_DOME_STATE, 0x0#32)]), by decide +kernel, by decide +kernel, by decide +kernel, by decide +kernel, by
    decide +kernel, by decide +kernel⟩,
   ⟨(wr [(R.MBX_DOME_STATE, 0x0#32)]), by decide +kernel, by decide +kernel, by decide +kernel⟩,
   ⟨(wr [(R.MBX_DOME_STATE, 0x1#32)]), by decide +kernel, by decide +kernel⟩⟩

theorem witness_DigitalInputEventsComplete :
(∃ (n : Nat) (level : Bool) (ua : Sample) (s : State), n < 40 ∧ s.isRunning fDIN = true ∧ s.diBreak n = false ∧ s.vfsMissing
      (n / 10) = false ∧ s.tbReached (ua.tb + 50 * (s.diDeb n - 1)) = true ∧ s.diRead n level ua.val ≠ s.diState n) ∧
(∃ (n : Nat) (ua : Sample) (s : State), n < 40 ∧ ua.val < 500 ∧ s.isRunning fDIN = true ∧ s.bt (R.DIN_CFG n) 18 = true ∧
      s.diBreak n = false ∧ s.vfsMissing (n / 10) = false ∧ s.tbReached (ua.tb + 50 * (s.diDeb n - 1)) = true) ∧
(∃ (ua : Reading) (s : State), ua.n < 40 ∧ 500 < ua.val ∧ s.isRunning fDIN = true ∧ s.diBreak ua.n = true ∧ s.vfsMissing (ua.n
      / 10) = false) ∧
(∃ (g : Nat) (mv : Nat) (s : State), g < 4 ∧ mv < 9000 ∧ s.vfsMissing g = false) ∧
(∃ (s : State), s.domainUp .ctl = true) :=
  ⟨⟨0, true, default, (wr [(R.DIN_GRP_STATUS, 0x0#32)]), by decide +kernel, by decide +kernel, by decide +kernel, by
    decide +kernel, by decide +kernel, by decide +kernel⟩,
   ⟨0, default, (wr [(R.DIN_CFG 0, 0x40000#32), (R.DIN_GRP_STATUS, 0x0#32)]), by decide +kernel, by decide +kernel, by
    decide +kernel, by decide +kernel, by decide +kernel, by decide +kernel, by decide +kernel⟩,
   ⟨{ n := 0, val := 501 }, wr [(R.DIN_GRP_STATUS, 0#32), (R.DIN_BREAK0, 1#32)], by decide +kernel, by decide +kernel, by
    decide +kernel, by decide +kernel, by decide +kernel⟩,
   ⟨0, 0, (wr [(R.DIN_GRP_STATUS, 0x0#32)]), by decide +kernel, by decide +kernel, by decide +kernel⟩,
   ⟨ww, by decide +kernel⟩⟩

theorem witness_AnalogInputEventsComplete :
(∃ (n : Nat) (f : Nat) (s : State), n < 24 ∧ s.isRunning fAIN = true ∧ s.ainMode n ≠ 0 ∧ s.ainMode n ≠ 7 ∧ s.ainDone n = some
      f ∧ f % max 1 (fld (s.rd (R.AIN_CFG n)) 17 6) = 0 ∧ (s.ain n).frame ≠ some f ∧ n < s.inp.ain.length) ∧
(∃ (n : Nat) (s : State), n < 24 ∧ s.isRunning fAIN = true) ∧
(∃ (n : Nat) (s : State), n < 4 ∧ s.isRunning fAIN = true ∧ s.bt (R.AIN_BRG_CFG n) 15 = true ∧ s.supOn (s.fd (R.AIN_BRG_CFG n)
      8 8) = false ∧ s.fd (R.AIN_BRG_RAW n) 25 24 = 0) ∧
(∃ (n : Nat) (t0 : Nat) (s : State), n < 24 ∧ s.isRunning fAIN = true ∧ s.ainMode n = 4 ∧ (s.ain n).overAt = some t0 ∧ (s.ain
      n).shuntOff = none ∧ s.tbPast t0 (tbMs 1) = true) ∧
(∃ (n : Nat) (t0 : Nat) (s : State), (s.ain n).shuntOff = some t0 ∧ s.tbPast t0 (tbMs 1000) = true) ∧
(∃ (k : Nat) (code : Int) (s : State), k < 4 ∧ s.isRunning fAIN = true ∧ s.bt (R.AIN_BRG_CFG k) 15 = true ∧ s.inp.discard.getD
      k 0 = 0 ∧ s.supOn (s.fd (R.AIN_BRG_CFG k) 8 8) = true ∧ -8388608 < code ∧ code < 8388607) ∧
(∃ (j : Nat) (s : State), j < 12 ∧ s.isRunning fAIN = true ∧ s.quadOf j = none ∧ s.fd (R.AIN_SPD_CFG j) 1 0 = 1) ∧
(∃ (j : Nat) (t0 : Nat) (s : State), j < 12 ∧ (s.inp.spd.getD j {}).t0 = some t0 ∧ 500000000 < s.clk.tickStamp - t0 ∧
      (s.inp.spd.getD j {}).edges = []) ∧
(∃ (a : Nat) (s : State), a < 8 ∧ s.isRunning fAIN = true ∧ s.bt (R.ACU_CFG a) 0 = true) ∧
(∃ (s : State), s.isRunning fAIN = true ∧ s.clk.tickCount % 200 = 0 ∧ s.inp.acuTick ≠ some s.clk.tickCount) :=
  ⟨⟨0, 0, { wr [(R.AIN_CFG 0, 1#32)] with clk := { ww.clk with phase := 800 } }, by decide +kernel, by decide +kernel, by
    decide +kernel, by decide +kernel, by decide +kernel, by decide +kernel, by decide +kernel, by decide +kernel⟩,
   ⟨0, ww, by decide +kernel, by decide +kernel⟩,
   ⟨0, (wr [(R.AIN_BRG_CFG 0, 0x8000#32), (R.AIN_BRG_RAW 0, 0x0#32)]), by decide +kernel, by decide +kernel, by decide +kernel,
    by decide +kernel, by decide +kernel⟩,
   ⟨0, 0, { wr [(R.AIN_CFG 0, 4#32)] with inp := { ain := [{ overAt := some 0 }] } }, by decide +kernel, by decide +kernel, by
    decide +kernel, by decide +kernel, by decide +kernel, by decide +kernel⟩,
   ⟨0, 0, win (fun i => { i with ain := [{ shuntOff := some 0 }] }), by decide +kernel, by decide +kernel⟩,
   ⟨0, 0, wr [(R.AIN_BRG_CFG 0, 0x8000#32), (R.AIN_SUP_STATUS, 0x10101#32)], by decide +kernel, by decide +kernel, by
    decide +kernel, by decide +kernel, by decide +kernel, by decide +kernel, by decide +kernel⟩,
   ⟨0, (wr [(R.AIN_SPD_CFG 0, 0x1#32)]), by decide +kernel, by decide +kernel, by decide +kernel, by decide +kernel⟩,
   ⟨0, 0, win (fun i => { i with spd := [{ t0 := some 0 }] }), by decide +kernel, by decide +kernel, by decide +kernel, by
    decide +kernel⟩,
   ⟨0, (wr [(R.ACU_CFG 0, 0x1#32)]), by decide +kernel, by decide +kernel, by decide +kernel⟩,
   ⟨ww, by decide +kernel, by decide +kernel, by decide +kernel⟩⟩

theorem witness_SensorSupplyEventsComplete :
(∃ (i : Nat) (t0 : Nat) (s : State), i < 3 ∧ (s.inp.sup.getD i {}).limitAt = some t0 ∧ s.supOn i = true ∧ s.tbPast t0 (tbMs
      20) = true) ∧
(∃ (i : Nat) (t0 : Nat) (s : State), i < 3 ∧ (s.inp.sup.getD i {}).off = some t0 ∧ s.bt R.AIN_SUP_STATUS (8 * i + 2) = false ∧
      s.tbPast t0 (tbMs 1000) = true) ∧
(∃ (i : Nat) (s : State), i < 3 ∧ s.tbPast (s.inp.sup.getD i {}).lastAt (tbMs 60000) = true) ∧
(∃ (ini : Initiator) (s : State), s.domainUp .ctl = true ∧ (ini = .host → s.expert fAIN = true)) :=
  ⟨⟨0, 0, win (fun i => { i with sup := [{ limitAt := some 0 }] }), by decide +kernel, by decide +kernel, by decide +kernel, by
    decide +kernel⟩,
   ⟨0, 0, win (fun i => { i with sup := [{ off := some 0 }] }), by decide +kernel, by decide +kernel, by decide +kernel, by
    decide +kernel⟩,
   ⟨0, ww, by decide +kernel, by decide +kernel⟩,
   ⟨.dome, ww, by decide +kernel, by decide +kernel⟩⟩

theorem witness_SentEventsComplete :
(∃ (ch : Nat) (f : SentRx) (s : State), ch < 16 ∧ s.isRunning fSNT = true ∧ s.bt (R.SNT_CFG ch) 0 = true ∧ sentCheck (s.rd
      (R.SNT_CFG ch)) (s.inp.sent.getD ch {}).prev f = 0) ∧
(∃ (ch : Nat) (s : State), ch < 16 ∧ s.isRunning fSNT = true ∧ s.bt (R.SNT_CFG ch) 0 = true ∧ s.tbPast (s.inp.sent.getD ch
      {}).since (sentPeriod (s.rd (R.SNT_CFG ch))) = true) ∧
(∃ (ch : Nat) (s : State), ch < 16 ∧ s.isRunning fSNT = true ∧ s.bt (R.SNT_CFG ch) 0 = true ∧ s.fd (R.SNT_CFG ch) 18 17 = 1) ∧
(∃ (ch : Nat) (ty : Nat) (s : State), ch < 16 ∧ s.isRunning fSNT = true ∧ s.bt (R.SNT_CFG ch) 0 = true ∧ 1 ≤ ty ∧ ty ≤ 2 ∧
      s.fd (R.SNT_CFG ch) 18 17 = 2) :=
  ⟨⟨0, { tick := 300, stamp := 0, pulses := [12, 12, 15] }, (wr [(R.SNT_CFG 0, 0x1#32)]), by decide +kernel, by decide +kernel,
    by decide +kernel, by decide +kernel⟩,
   ⟨0, (wr [(R.SNT_CFG 0, 0x1#32)]), by decide +kernel, by decide +kernel, by decide +kernel, by decide +kernel⟩,
   ⟨0, (wr [(R.SNT_CFG 0, 0x20001#32)]), by decide +kernel, by decide +kernel, by decide +kernel, by decide +kernel⟩,
   ⟨0, 1, (wr [(R.SNT_CFG 0, 0x40001#32)]), by decide +kernel, by decide +kernel, by decide +kernel, by decide +kernel, by
    decide +kernel, by decide +kernel⟩⟩

theorem witness_InputCommandsComplete :
(∃ (c : Cmd) (k : Nat) (s : State), Accepted fDIN 0x10 0 c k s ∧ c.payload.length = 2 ∧ 1 ≤ u16 c.payload 0 ∧ u16 c.payload 0
      ≤ 500) ∧
(∃ (c : Cmd) (k : Nat) (s : State), Accepted fAIN 0x11 1 c k s ∧ c.payload.length = 1 ∧ u8 c.payload 0 < 8) ∧
(∃ (c : Cmd) (k : Nat) (s : State), Accepted fAIN 0x10 1 c k s ∧ c.payload.length = 4 ∧ u8 c.payload 0 < 4 ∧ 16 ≤ u16
      c.payload 2 ∧ u16 c.payload 2 ≤ 4 * brgRate (s.rd (R.AIN_BRG_CFG (u8 c.payload 0))) ∧ s.isRunning fAIN = true ∧ s.bt
      (R.AIN_BRG_CFG (u8 c.payload 0)) 15 = true) ∧
(∃ (c : Cmd) (k : Nat) (s : State), Accepted fSNT 0x10 0 c k s ∧ c.payload.length = 1 ∧ u8 c.payload 0 < 16) :=
  ⟨⟨(cm (bs [1] ++ zs 1)), 0, ww, accB_accepted (by decide +kernel), by decide +kernel, by decide +kernel, by decide +kernel⟩,
   ⟨(cm (zs 1)), 0, ww, accB_accepted (by decide +kernel), by decide +kernel, by decide +kernel⟩,
   ⟨(cm (bs [0, 0, 16] ++ zs 1)), 0, wr [(R.AIN_BRG_CFG 0, 0x8000#32), (R.AIN_SUP_STATUS, 0x10101#32)], accB_accepted (by
    decide +kernel), by decide +kernel, by decide +kernel, by decide +kernel, by decide +kernel, by decide +kernel, by
    decide +kernel⟩,
   ⟨(cm (zs 1)), 0, ww, accB_accepted (by decide +kernel), by decide +kernel, by decide +kernel⟩⟩

theorem witness_CoelostatEventsComplete :
(∃ (s : State), s.isRunning fCST = true ∧ s.pairHeld = false ∧ s.clk.tickCount % s.cstTicks = 0 ∧ s.cst.lastTick ≠ some
      s.clk.tickCount) ∧
(∃ (s : State), s.isRunning fCST = true ∧ s.cstPhase = phHOLD ∧ s.cst.hold ≤ s.cst.pos) ∧
(∃ (s : State), s.isRunning fCST = true) ∧
(∃ (s : State), s.isRunning fCST = true ∧ s.clk.tickCount % 2000 = 0 ∧ s.cst.lptTick ≠ some s.clk.tickCount) ∧
(∃ (ini : Initiator) (s : State), s.domainUp .fab = true ∧ (ini = .host → s.expert fCST = true)) :=
  ⟨⟨ww, by decide +kernel, by decide +kernel, by decide +kernel, by decide +kernel⟩,
   ⟨wr [(R.CST_STATUS, 1#32)], by decide +kernel, by decide +kernel, by decide +kernel⟩,
   ⟨ww, by decide +kernel⟩,
   ⟨ww, by decide +kernel, by decide +kernel, by decide +kernel⟩,
   ⟨.dome, ww, by decide +kernel, by decide +kernel⟩⟩

theorem witness_CoelostatCommandsComplete :
(∃ (c : Cmd) (k : Nat) (s : State), Accepted fCST 0x10 0 c k s ∧ c.payload.length = 1 ∧ u8 c.payload 0 ≤ 2) ∧
(∃ (c : Cmd) (k : Nat) (s : State), Accepted fCST 0x11 0 c k s ∧ c.payload.length = 8 ∧ u8 c.payload 0 < 32 ∧ s.cstUsed (u8
      c.payload 0) = true ∧ u8 c.payload 1 ≤ 1) ∧
(∃ (c : Cmd) (k : Nat) (s : State), Accepted fCST 0x12 0 c k s ∧ c.payload.length = 8 ∧ u8 c.payload 0 < 32 ∧
      s.cst.advice.getD (u8 c.payload 0) none = some (u32 c.payload 4)) ∧
(∃ (c : Cmd) (k : Nat) (s : State), Accepted fCST 0x13 0 c k s ∧ c.payload.length = 32) ∧
(∃ (c : Cmd) (k : Nat) (s : State), Accepted fCST 0x14 0 c k s ∧ c.payload.length = 1 ∧ u8 c.payload 0 < 32) :=
  ⟨⟨(cm (zs 1)), 0, ww, accB_accepted (by decide +kernel), by decide +kernel, by decide +kernel⟩,
   ⟨(cm (zs 8)), 0, { ww with cst := { cfg := [(R.CST_MF_PATH 0, 1#32)] } }, accB_accepted (by decide +kernel), by
    decide +kernel, by decide +kernel, by decide +kernel, by decide +kernel⟩,
   ⟨(cm (zs 8)), 0, { wfn 8 {} with cst := { advice := some 0 :: List.replicate 31 none } }, accB_accepted (by decide +kernel),
    by decide +kernel, by decide +kernel, by decide +kernel⟩,
   ⟨(cm (zs 32)), 0, wfn 8 {}, accB_accepted (by decide +kernel), by decide +kernel⟩,
   ⟨(cm (zs 1)), 0, ww, accB_accepted (by decide +kernel), by decide +kernel, by decide +kernel⟩⟩

theorem witness_YieldPlateEventsComplete :
(∃ (s : State), s.isRunning fYPL = true ∧ s.pairHeld = false ∧ s.clk.tickCount % 2000 = 0 ∧ s.ypl.lastTick = none) ∧
(∃ (n : Nat) (s : State), s.isRunning fYPL = true ∧ s.pairHeld = false ∧ s.clk.tickCount % 2000 = 0 ∧ s.ypl.lastTick = some n
      ∧ n ≠ s.clk.tickCount) ∧
(∃ (a : Nat) (s : State), s.ypl.invSince = some a) ∧
(∃ (s : State), s.fd R.YPL_STATUS 3 2 = 2) ∧
(∃ (s : State), s.fd R.YPL_STATUS 3 2 = 1 ∧ s.tbPast s.ypl.calAt (tbMs 3600000) = true) ∧
(∃ (f : YplField) (g : YplField) (x : Int × Int) (s : State), s.ypl.field = some f ∧ s.ypl.fps.findSome? (fun p =>
      p.waits.head?) = some x ∧ f.room s.ypl.fps [x] = .ok g) ∧
(∃ (f : YplField) (s : State), s.isRunning fYPL = true ∧ s.ypl.field = some f ∧ s.tbPast s.ypl.ckptAt (tbMs (1000 * clampN 10
      600 (s.fd R.YPL_CKPT 9 0))) = true) ∧
(∃ (f : YplField) (s : State), s.ypl.field = some f ∧ s.yplField = 2 ∧ 255 ≤ s.ypl.closeCnt) ∧
(∃ (s : State), s.domainUp .fab = true ∧ s.expert fYPL = true ∧ s.yplMayOpen = true ∧ (∀ f ∈ s.ypl.stored, f.id ≠ (s.rd
      R.YPL_FIELD_ID).toNat)) ∧
(∃ (f : YplField) (s : State), s.domainUp .fab = true ∧ s.expert fYPL = true ∧ s.yplMayOpen = true ∧ f ∈ s.ypl.stored ∧ f.id =
      (s.rd R.YPL_FIELD_ID).toNat) ∧
(∃ (s : State), s.domainUp .fab = true ∧ s.expert fYPL = true ∧ s.yplField = 1) :=
  ⟨⟨ww, by decide +kernel, by decide +kernel, by decide +kernel, by decide +kernel⟩,
   ⟨5, wyp [] { lastTick := some 5 }, by decide +kernel, by decide +kernel, by decide +kernel, by decide +kernel, by
    decide +kernel⟩,
   ⟨5, wyp [] { invSince := some 5 }, by decide +kernel⟩,
   ⟨(wr [(R.YPL_STATUS, 0x8#32)]), by decide +kernel⟩,
   ⟨(wr [(R.YPL_STATUS, 0x4#32)]), by decide +kernel, by decide +kernel⟩,
   ⟨yf 1, yf 1, (0, 0), wyp [] { field := some (yf 1), fps := [{ waits := [(0, 0)] }] }, by decide +kernel, by decide +kernel,
    rfl⟩,
   ⟨yf 1, wyp [] { field := some (yf 1) }, by decide +kernel, by decide +kernel, by decide +kernel⟩,
   ⟨yf 1, wyp [(R.YPL_STATUS, 2#32)] { field := some (yf 1), closeCnt := 255 }, by decide +kernel, by decide +kernel, by
    decide +kernel⟩,
   ⟨wex 9 [], by decide +kernel, by decide +kernel, by decide +kernel, by decide +kernel⟩,
   ⟨yf 1, { wex 9 [(R.YPL_FIELD_ID, 1#32)] with ypl := { stored := [yf 1] } }, by decide +kernel, by decide +kernel, by
    decide +kernel, by decide +kernel, by decide +kernel⟩,
   ⟨wex 9 [(R.YPL_STATUS, 1#32)], by decide +kernel, by decide +kernel, by decide +kernel⟩⟩

theorem witness_YieldPlateCommandsComplete :
(∃ (c : Cmd) (k : Nat) (s : State), Accepted fYPL 0x10 0 c k s ∧ c.payload.length = 16 ∧ s.yplMayOpen = true ∧ (u8 c.payload
      13 = 0 ∧ (∀ f ∈ s.ypl.stored, f.id ≠ u32 c.payload 0) ∨ u8 c.payload 13 = 2) ∧ u8 c.payload 12 ≤ 7) ∧
(∃ (c : Cmd) (k : Nat) (f : YplField) (s : State), Accepted fYPL 0x10 0 c k s ∧ c.payload.length = 16 ∧ s.yplMayOpen = true ∧
      u8 c.payload 13 = 1 ∧ s.ypl.stored.find? (fun f => f.id == u32 c.payload 0) = some f) ∧
(∃ (c : Cmd) (k : Nat) (s : State), Accepted fYPL 0x11 0 c k s ∧ c.payload = [] ∧ s.yplField = 1) ∧
(∃ (c : Cmd) (k : Nat) (s : State), Accepted fYPL 0x12 1 c k s ∧ c.payload.length = 4 ∧ u8 c.payload 1 = 0 ∧ 2 ≤ u8 c.payload
      0 ∧ u8 c.payload 0 ≤ 16 ∧ s.fd R.YPL_STATUS 3 2 = 0) ∧
(∃ (c : Cmd) (k : Nat) (s : State), Accepted fYPL 0x12 1 c k s ∧ c.payload.length = 4 ∧ u8 c.payload 1 = 1 ∧ s.fd R.YPL_STATUS
      3 2 ≠ 0) ∧
(∃ (c : Cmd) (k : Nat) (s : State), Accepted fYPL 0x13 1 c k s ∧ c.payload.length = 1028 ∧ u32 c.payload 1024 ≤ 65535 ∧ 0 <
      isum ((List.range 256).map (fun n => i32 c.payload (4 * n)))) ∧
(∃ (c : Cmd) (k : Nat) (s : State), Accepted fYPL 0x14 0 c k s ∧ c.payload = []) ∧
(∃ (c : Cmd) (k : Nat) (n : Nat) (f : YplField) (s : State), Accepted fYPL 0x15 0 c k s ∧ c.payload.length = 9 ∧ s.yplFind
      (u32 c.payload 4) = some f ∧ (∃ e ∈ f.cells, yplTile (e.i, e.j) = (i16 c.payload 0, i16 c.payload 2)) ∧ 4 ≤ u8 c.payload
      8 ∧ u8 c.payload 8 ≤ 10 ∧ s.freeRing = some n ∧ s.sramFits [u8 c.payload 8] = true) ∧
(∃ (c : Cmd) (k : Nat) (f : YplField) (s : State), Accepted fYPL 0x16 0 c k s ∧ c.payload.length = 5 ∧ s.yplFind (u32
      c.payload 0) = some f ∧ s.ypl.field.map (fun g => g.id) ≠ some f.id) ∧
(∃ (c : Cmd) (k : Nat) (n : Nat) (s : State), Accepted fYPL 0x17 0 c k s ∧ c.payload.length = 1 ∧ 4 ≤ u8 c.payload 0 ∧ u8
      c.payload 0 ≤ 10 ∧ s.freeRing = some n ∧ s.sramFits [u8 c.payload 0] = true) ∧
(∃ (c : Cmd) (k : Nat) (s : State), Accepted fYPL 0x18 1 c k s ∧ c.payload.length = 8 ∧ u8 c.payload 0 = 0) ∧
(∃ (c : Cmd) (k : Nat) (m : Int) (s : State), Accepted fYPL 0x18 1 c k s ∧ c.payload.length = 8 ∧ u8 c.payload 0 = 1 ∧
      s.ypl.weigh = some m ∧ 0 < m ∧ 80 * m ≤ 100 * ((u32 c.payload 4 * 1000 : Nat) : Int) ∧ 100 * ((u32 c.payload 4 * 1000 :
      Nat) : Int) ≤ 125 * m) :=
  ⟨⟨(cm (zs 16)), 0, ww, accB_accepted (by decide +kernel), by decide +kernel, by decide +kernel, by decide +kernel, by
    decide +kernel⟩,
   ⟨(cm (zs 13 ++ bs [1, 0, 0])), 0, yf 0, wyp [] { stored := [yf 0] }, accB_accepted (by decide +kernel), by decide +kernel, by
    decide +kernel, by decide +kernel, by decide +kernel⟩,
   ⟨(cm []), 0, wr [(R.YPL_STATUS, 1#32)], accB_accepted (by decide +kernel), by decide +kernel, by decide +kernel⟩,
   ⟨(cm (bs [2] ++ zs 3)), 0, (wr [(R.YPL_STATUS, 0x0#32)]), accB_accepted (by decide +kernel), by decide +kernel, by
    decide +kernel, by decide +kernel, by decide +kernel, by decide +kernel⟩,
   ⟨(cm (bs [0, 1, 0, 0])), 0, (wr [(R.YPL_STATUS, 4#32)]), accB_accepted (by decide +kernel), by decide +kernel, by
    decide +kernel, by decide +kernel⟩,
   ⟨cm (1#8 :: zs 1027), 0, ww, accB_accepted (by decide +kernel), by decide +kernel, by decide +kernel, isum_zs⟩,
   ⟨(cm []), 0, ww, accB_accepted (by decide +kernel), by decide +kernel⟩,
   ⟨cm (bs [0, 0, 0, 0, 1, 0, 0, 0, 4]), 0, 48, yf 1, wyp [] { stored := [yf 1] }, accB_accepted (by decide +kernel), by
    decide +kernel, by decide +kernel, by decide +kernel, by decide +kernel, by decide +kernel, by decide +kernel, by
    decide +kernel⟩,
   ⟨cm (bs [1, 0, 0, 0, 0]), 0, yf 1, wyp [] { stored := [yf 1] }, accB_accepted (by decide +kernel), by decide +kernel, by
    decide +kernel, by decide +kernel⟩,
   ⟨(cm (bs [4])), 0, 48, ww, accB_accepted (by decide +kernel), by decide +kernel, by decide +kernel, by decide +kernel, by
    decide +kernel, by decide +kernel⟩,
   ⟨(cm (zs 8)), 0, ww, accB_accepted (by decide +kernel), by decide +kernel, by decide +kernel⟩,
   ⟨cm (bs [1, 0, 0, 0, 1, 0, 0, 0]), 0, 1000, wyp [] { weigh := some 1000 }, accB_accepted (by decide +kernel), by
    decide +kernel, by decide +kernel, by decide +kernel, by decide +kernel, by decide +kernel, by decide +kernel⟩⟩

theorem witness_ActuatorEventsComplete :
(∃ (n : Nat) (x : Nat) (s : State), n < 48 ∧ n < s.adr.chs.length ∧ s.adr.run = true ∧ x < 3520 ∧ (s.bankSampler (n / 4) =
      none ∨ s.bankSampler (n / 4) = some (n % 4)) ∧ s.clk.tb - s.clk.tickStamp < 2490 ∧ (s.ch n).closing = false) ∧
(∃ (ini : Initiator) (n : Nat) (s : State), n < 48 ∧ s.domainUp .ctl = true ∧ (ini = .host → s.expert fADR = true)) ∧
(∃ (n : Nat) (e : AdrEv) (q : List AdrEv) (s : State), n < 48 ∧ n < s.adr.chs.length ∧ (s.ch n).queue = e :: q ∧ e.start ≤
      s.clk.tb ∧ s.pwr.shed = false ∧ s.pwr.overShed = false ∧ (s.bank (n / 4)).back = false ∧ (s.bank (n / 4)).on = true ∧
      (s.ch n).wait = none) ∧
(∃ (n : Nat) (s : State), n < 48 ∧ (s.ch n).ph = .boost ∧ (s.ch n).run.phAt + 200 ≤ s.tb2) ∧
(∃ (n : Nat) (s : State), n < 48 ∧ (s.ch n).ph = .boost ∧ (s.ch n).run.phAt + max 100 (fld (s.ch n).run.wT 15 0) ≤ s.tb2) ∧
(∃ (k : Nat) (i : Nat) (s : State), (s.bank k).owner = some i ∧ (s.ch (4 * k + i)).ph = .boost) ∧
(∃ (n : Nat) (s : State), n < 48 ∧ (s.ch n).ph = .peak ∧ (s.ch n).run.phAt + fld (s.ch n).run.wT 31 16 ≤ s.tb2) ∧
(∃ (n : Nat) (s : State), n < 48 ∧ n < s.adr.chs.length ∧ (s.ch n).ph = .trans) ∧
(∃ (n : Nat) (s : State), n < 48 ∧ (s.ch n).ph ≠ .idle ∧ (s.ch n).ph ≠ .decay ∧ (s.ch n).run.timed = true ∧ (s.ch n).run.act +
      (s.ch n).run.eff ≤ s.tb2) ∧
(∃ (n : Nat) (s : State), n < 48 ∧ (s.ch n).ph = .decay) ∧
(∃ (n : Nat) (s : State), n < 48 ∧ (s.ch n).ph = .decay ∧ (s.ch n).run.phAt + 2 * tbMs 5 ≤ s.tb2 ∧ (s.ch n).run.decTmo =
      false) :=
  ⟨⟨0, 0, { wch [] {} with clk := { ww.clk with tickStamp := 999999999000 } }, by decide +kernel, by decide +kernel, by
    decide +kernel, by decide +kernel, by decide +kernel, by decide +kernel, by decide +kernel⟩,
   ⟨.dome, 0, ww, by decide +kernel, by decide +kernel, by decide +kernel⟩,
   ⟨0, { start := 5, dur := 100 }, [], wch [] { queue := [{ start := 5, dur := 100 }] }, by decide +kernel, by decide +kernel, by
    decide +kernel, by decide +kernel, by decide +kernel, by decide +kernel, by decide +kernel, by decide +kernel, by
    decide +kernel⟩,
   ⟨0, wch [] { ph := .boost }, by decide +kernel, by decide +kernel, by decide +kernel⟩,
   ⟨0, wch [] { ph := .boost }, by decide +kernel, by decide +kernel, by decide +kernel⟩,
   ⟨0, 0, { wch [] { ph := .boost } with adr := { chs := [{ ph := .boost }], banks := [{ owner := some 0 }] } }, by
    decide +kernel, by decide +kernel⟩,
   ⟨0, wch [] { ph := .peak }, by decide +kernel, by decide +kernel, by decide +kernel⟩,
   ⟨0, wch [] { ph := .trans }, by decide +kernel, by decide +kernel, by decide +kernel⟩,
   ⟨0, wch [] { ph := .hold, run := { timed := true } }, by decide +kernel, by decide +kernel, by decide +kernel, by
    decide +kernel, by decide +kernel⟩,
   ⟨0, wch [] { ph := .decay }, by decide +kernel, by decide +kernel⟩,
   ⟨0, wch [] { ph := .decay }, by decide +kernel, by decide +kernel, by decide +kernel, by decide +kernel⟩⟩

theorem witness_ActuatorGuardsComplete :
(∃ (n : Nat) (s : State), n < 48 ∧ (s.ch n).run.endAt + 1000 * max 1 (fld (s.adrMot n) 27 20) ≤ s.tb2) ∧
(∃ (n : Nat) (w : AdrEv × Bool) (s : State), n < 48 ∧ (s.ch n).wait = some w ∧ 2 * w.1.start + s.deferMax (n / 4) ≤ s.tb2) ∧
(∃ (n : Nat) (s : State), n < 48 ∧ s.adrShorted n = true) ∧
(∃ (n : Nat) (t0 : Nat) (s : State), n < 48 ∧ n < s.adr.chs.length ∧ (s.ch n).resumeAt = some t0 ∧ t0 ≤ s.clk.tb ∧ s.bt
      (R.ADR_CH_CMD n) 16 = false) ∧
(∃ (n : Nat) (s : State), n < 48 ∧ s.adrMode n ≠ 0 ∧ (s.ch n).isOpen = false ∧ 2 * tbMs 10 ≤ (s.ch n).below) ∧
(∃ (n : Nat) (s : State), n < 48 ∧ s.adrMode n ≠ 0 ∧ (s.ch n).isOpen = true ∧ 2 * tbMs 10 ≤ (s.ch n).above) ∧
(∃ (n : Nat) (s : State), n < 48 ∧ (s.ch n).dithAt.isSome = true ∧ s.dithDue n = true) ∧
(∃ (n : Nat) (s : State), n < 48 ∧ (s.ch n).est.isSome = true ∧ s.tbPast (s.ch n).estAt (tbMs 60000) = true) ∧
(∃ (ini : Initiator) (n : Nat) (s : State), n < 48 ∧ s.domainUp .ctl = true ∧ (ini = .host → s.expert fADR = true)) ∧
(∃ (ini : Initiator) (s : State), s.domainUp .ctl = true ∧ (ini = .host → s.expert fADR = true)) ∧
(∃ (mv : Nat) (s : State), s.bstSpillAt < mv ∧ s.adr.spilling = false) :=
  ⟨⟨0, ww, by decide +kernel, by decide +kernel⟩,
   ⟨0, ({ start := 5, dur := 100 }, false), wch [] { wait := some ({ start := 5, dur := 100 }, false) }, by decide +kernel, by
    decide +kernel, by decide +kernel⟩,
   ⟨0, wch [] { ph := .peak }, by decide +kernel, by decide +kernel⟩,
   ⟨0, 5, wch [] { resumeAt := some 5 }, by decide +kernel, by decide +kernel, by decide +kernel, by decide +kernel, by
    decide +kernel⟩,
   ⟨0, wch [(R.ADR_CH_CFG 0, 2#32)] { below := 1000000 }, by decide +kernel, by decide +kernel, by decide +kernel, by
    decide +kernel⟩,
   ⟨0, wch [(R.ADR_CH_CFG 0, 2#32)] { isOpen := true, above := 1000000 }, by decide +kernel, by decide +kernel, by
    decide +kernel, by decide +kernel⟩,
   ⟨0, wch [(R.ADR_PB_M 0 0 0, 0x640000#32)] { dithAt := some 5 }, by decide +kernel, by decide +kernel, by decide +kernel⟩,
   ⟨0, wch [] { est := some 5 }, by decide +kernel, by decide +kernel, by decide +kernel⟩,
   ⟨.dome, 0, ww, by decide +kernel, by decide +kernel, by decide +kernel⟩,
   ⟨.dome, ww, by decide +kernel, by decide +kernel⟩,
   ⟨67001, ww, by decide +kernel, by decide +kernel⟩⟩

theorem witness_ActuatorCommandsComplete :
(∃ (c : Cmd) (k : Nat) (es : List (Nat × Nat × Nat)) (s : State), Accepted fADR 0x10 0 c k s ∧ 1 ≤ u8 c.payload 0 ∧ u8
      c.payload 0 ≤ 3 ∧ c.payload.length = 4 + 16 * u8 c.payload 0 ∧ es = (List.range (u8 c.payload 0)).map (fun i => (u8
      c.payload (4 + 16 * i), u64 c.payload (8 + 16 * i), u32 c.payload (16 + 16 * i))) ∧ (∀ e ∈ es, e.1 < 48 ∧ s.adrMode e.1
      = 0 ∧ 0 < e.2.2 ∧ e.2.2 ≤ 0xFFFFFF ∧ s.line (e.1 / 4) = true)) ∧
(∃ (c : Cmd) (k : Nat) (s : State), Accepted fADR 0x11 0 c k s ∧ c.payload.length = 8 ∧ u8 c.payload 0 < 48 ∧ u32 c.payload 4
      ≤ 3000 ∧ s.adrDriven (u8 c.payload 0) 0 = false ∧ (u32 c.payload 4 ≠ 0 → s.line (u8 c.payload 0 / 4) = true)) ∧
(∃ (c : Cmd) (k : Nat) (s : State), Accepted fADR 0x12 0 c k s ∧ c.payload.length = 2 ∧ u8 c.payload 0 < 48 ∧ u8 c.payload 1 ≤
      1 ∧ (u8 c.payload 1 = 1 → s.line (u8 c.payload 0 / 4) = true)) ∧
(∃ (c : Cmd) (k : Nat) (s : State), Accepted fADR 0x13 1 c k s ∧ c.payload.length = 8 ∧ u64 c.payload 0 < 2 ^ 48) ∧
(∃ (c : Cmd) (k : Nat) (s : State), Accepted fADR 0x14 0 c k s ∧ c.payload.length = 1 ∧ u8 c.payload 0 < 48) ∧
(∃ (c : Cmd) (k : Nat) (s : State), Accepted fADR 0x15 1 c k s ∧ c.payload.length = 4 ∧ 24000 ≤ u32 c.payload 0 ∧ u32
      c.payload 0 ≤ 65000) ∧
(∃ (c : Cmd) (k : Nat) (s : State), Accepted fADR 0x16 1 c k s ∧ c.payload.length = 4 ∧ u8 c.payload 0 < 12 ∧ u8 c.payload 1 ≤
      7 ∧ (u8 c.payload 1 % 2 = 1 → s.line (u8 c.payload 0) = true)) ∧
(∃ (c : Cmd) (k : Nat) (s : State), Accepted fADR 0x17 0 c k s ∧ c.payload.length = 1 ∧ u8 c.payload 0 < 12) ∧
(∃ (c : Cmd) (k : Nat) (s : State), Accepted fADR 0x18 0 c k s ∧ c.payload.length = 1 ∧ u8 c.payload 0 < 48) :=
  ⟨⟨(cm (bs [1, 0, 0, 0, 0, 0, 0, 0, 0, 0, 0, 0, 0, 0, 0, 0, 1] ++ zs 3)), 0, [(0, 0, 1)],
    { ww with saf := { lines := 0x1FFFF } }, accB_accepted (by decide +kernel), by decide +kernel, by decide +kernel, by
    decide +kernel, by decide +kernel, by decide +kernel⟩,
   ⟨(cm (zs 8)), 0, ww, accB_accepted (by decide +kernel), by decide +kernel, by decide +kernel, by decide +kernel, by
    decide +kernel, by decide +kernel⟩,
   ⟨(cm (zs 2)), 0, ww, accB_accepted (by decide +kernel), by decide +kernel, by decide +kernel, by decide +kernel, by
    decide +kernel⟩,
   ⟨(cm (zs 8)), 0, ww, accB_accepted (by decide +kernel), by decide +kernel, by decide +kernel⟩,
   ⟨(cm (zs 1)), 0, ww, accB_accepted (by decide +kernel), by decide +kernel, by decide +kernel⟩,
   ⟨(cm (bs [192, 93] ++ zs 2)), 0, ww, accB_accepted (by decide +kernel), by decide +kernel, by decide +kernel, by
    decide +kernel⟩,
   ⟨(cm (zs 4)), 0, wfn 3 { applied := some [] }, accB_accepted (by decide +kernel), by decide +kernel, by decide +kernel, by
    decide +kernel, by decide +kernel⟩,
   ⟨(cm (zs 1)), 0, ww, accB_accepted (by decide +kernel), by decide +kernel, by decide +kernel⟩,
   ⟨(cm (zs 1)), 0, ww, accB_accepted (by decide +kernel), by decide +kernel, by decide +kernel⟩⟩

theorem witness_SwitchEventsComplete :
(∃ (n : Nat) (s : State), n < 16 ∧ (s.sw n).on = true ∧ s.pswMode n = 2 ∧ s.bt (R.PSW_CH_CFG n) 4 = false ∧ (s.sw n).perAt =
      none ∧ n % 4 * (50000000 / clampN 100 1000 (s.fd (R.PSW_CH_CFG n) 15 6) / 4) ≤ s.clk.tb ∧ (s.sw n).onAt ≤ s.clk.tb -
      (s.clk.tb - n % 4 * (50000000 / clampN 100 1000 (s.fd (R.PSW_CH_CFG n) 15 6) / 4)) % (50000000 / clampN 100 1000 (s.fd
      (R.PSW_CH_CFG n) 15 6))) ∧
(∃ (ma : Reading) (s : State), ma.n < 16 ∧ (s.sw ma.n).on = true ∧ (s.pswThreshold ma.n).1 < ma.val) ∧
(∃ (n : Nat) (s : State), n < 16 ∧ (s.sw n).on = true ∧ (s.sw n).inr = true ∧ s.tbPast (s.sw n).inrAt (tbMs (s.pswInrT n)) =
      true) ∧
(∃ (n : Nat) (t0 : Nat) (s : State), n < 16 ∧ (s.sw n).due = some t0 ∧ t0 ≤ s.clk.tb) ∧
(∃ (n : Nat) (s : State), n < 16 ∧ (s.sw n).on = true ∧ (s.sw n).inr = false ∧ s.tbPast (s.sw n).onSince (tbMs 1000) = true) ∧
(∃ (n : Nat) (tj : Int) (s : State), n < 16 ∧ n < s.psw.chs.length ∧ 17500 ≤ tj ∧ (s.sw n).th = false) ∧
(∃ (g : Nat) (mv : Nat) (s : State), g < 4 ∧ mv < clampN 8000 18000 (s.fd (R.PSW_GRP_UV g) 15 0)) ∧
(∃ (g : Nat) (mv : Sample) (s : State), g < 4 ∧ (s.grp g).uv = true ∧ s.grpUvOnMv g ≤ mv.val ∧ s.tbPast mv.tb (tbMs 10) = true
      ∧ s.pwr.shed = false ∧ s.pwr.overShed = false) ∧
(∃ (g : Nat) (mv : Nat) (s : State), 38000 < mv ∧ s.pwr.groupOver.getD g false = false) ∧
(∃ (g : Nat) (n : Nat) (r : List Nat) (s : State), (s.grp g).queue = n :: r ∧ (s.grp g).nextAt ≤ s.clk.tb) ∧
(∃ (g : Nat) (s : State), g < 4 ∧ g < s.psw.grps.length ∧ 10 ≤ (s.grp g).excess ∧ (∃ n ∈ grpChs g, (s.sw n).on = true)) ∧
(∃ (n : Nat) (ma : Nat) (s : State), n < 16 ∧ n < s.psw.chs.length ∧ s.bt (R.PSW_CH_DIAG n) 24 = true ∧ (s.sw n).on = true ∧
      (s.sw n).isOpen = false ∧ ma < 10 * clampN 5 200 (fld (s.rd (R.PSW_CH_DIAG n)) 7 0) ∧ (s.sw n).olLow = true ∧ tbMs (10 *
      max 1 (fld (s.rd (R.PSW_CH_DIAG n)) 15 8)) ≤ (s.sw n).olT + s.pswOlStep n) ∧
(∃ (n : Nat) (t0 : Nat) (r : Bool) (s : State), n < 16 ∧ (s.sw n).hold = some r ∧ (s.sw n).lastOff = some t0 ∧ t0 + tbMs 1000
      ≤ s.clk.tb) ∧
(∃ (ini : Initiator) (s : State), s.domainUp .psd = true ∧ (ini = .host → s.expert fPSW = true)) :=
  ⟨⟨0, wsw [(R.PSW_CH_CFG 0, 2#32)] { on := true }, by decide +kernel, by decide +kernel, by decide +kernel, by decide +kernel,
    by decide +kernel, by decide +kernel, by decide +kernel⟩,
   ⟨{ n := 0, val := 60000 }, wsw [] { on := true }, by decide +kernel, by decide +kernel, by decide +kernel⟩,
   ⟨0, wsw [] { on := true, inr := true }, by decide +kernel, by decide +kernel, by decide +kernel, by decide +kernel⟩,
   ⟨0, 5, wsw [] { due := some 5 }, by decide +kernel, by decide +kernel, by decide +kernel⟩,
   ⟨0, wsw [] { on := true }, by decide +kernel, by decide +kernel, by decide +kernel, by decide +kernel⟩,
   ⟨0, 17500, ww, by decide +kernel, by decide +kernel, by decide +kernel, by decide +kernel⟩,
   ⟨0, 0, ww, by decide +kernel, by decide +kernel⟩,
   ⟨0, { val := 20000, tb := 0 }, wgr { uv := true } {}, by decide +kernel, by decide +kernel, by decide +kernel, by
    decide +kernel, by decide +kernel, by decide +kernel⟩,
   ⟨0, 38001, ww, by decide +kernel, by decide +kernel⟩,
   ⟨0, 0, [], wgr { queue := [0] } {}, by decide +kernel, by decide +kernel⟩,
   ⟨0, wgr { excess := 10 } { on := true }, by decide +kernel, by decide +kernel, by decide +kernel, by decide +kernel⟩,
   ⟨0, 0, wsw [(R.PSW_CH_DIAG 0, 0x1000000#32)] { on := true, olLow := true, olT := 100000000 }, by decide +kernel, by
    decide +kernel, by decide +kernel, by decide +kernel, by decide +kernel, by decide +kernel, by decide +kernel, by
    decide +kernel⟩,
   ⟨0, 5, true, wsw [] { hold := some true, lastOff := some 5 }, by decide +kernel, by decide +kernel, by decide +kernel, by
    decide +kernel⟩,
   ⟨.dome, ww, by decide +kernel, by decide +kernel⟩⟩

theorem witness_SwitchCommandsComplete :
(∃ (c : Cmd) (k : Nat) (s : State), Accepted fPSW 0x10 0 c k s ∧ c.payload.length = 4 ∧ u8 c.payload 0 < 16 ∧ u8 c.payload 1 ≤
      2 ∧ u16 c.payload 2 ≤ 10000 ∧ (u8 c.payload 1 = 2 → pswRefused (s.rd (R.PSW_CH_CFG (u8 c.payload 0))) = false) ∧
      s.pswDriven (u8 c.payload 0) = false ∧ s.isRunning fCST = false ∧ (u8 c.payload 1 ≠ 0 → nbit s.saf.lines (12 + u8
      c.payload 0 / 4) = true)) ∧
(∃ (c : Cmd) (k : Nat) (s : State), Accepted fPSW 0x11 1 c k s ∧ c.payload.length = 3 ∧ u8 c.payload 2 ≤ 7) ∧
(∃ (c : Cmd) (k : Nat) (s : State), Accepted fPSW 0x12 0 c k s ∧ c.payload.length = 1 ∧ u8 c.payload 0 < 16) ∧
(∃ (c : Cmd) (k : Nat) (s : State), Accepted fPSW 0x13 1 c k s ∧ c.payload.length = 12 ∧ u8 c.payload 0 < 4 ∧ u8 c.payload 1 ≤
      1 ∧ grpUvOk (u16 c.payload 4) (u16 c.payload 6) = true ∧ u8 c.payload 10 ≤ 15 ∧ (u8 c.payload 1 = 1 → nbit s.saf.lines
      (12 + u8 c.payload 0) = true)) :=
  ⟨⟨(cm (zs 4)), 0, wsw [] {}, accB_accepted (by decide +kernel), by decide +kernel, by decide +kernel, by decide +kernel, by
    decide +kernel, by decide +kernel, by decide +kernel, by decide +kernel, by decide +kernel⟩,
   ⟨(cm (bs [0, 0, 1])), 0, ww, accB_accepted (by decide +kernel), by decide +kernel, by decide +kernel⟩,
   ⟨(cm (zs 1)), 0, ww, accB_accepted (by decide +kernel), by decide +kernel, by decide +kernel⟩,
   ⟨cm (bs [0, 0, 0, 0, 0x40, 0x1F, 0x34, 0x21, 0, 0, 0, 0]), 0, ww, accB_accepted (by decide +kernel), by decide +kernel, by
    decide +kernel, by decide +kernel, by decide +kernel, by decide +kernel, by decide +kernel⟩⟩

theorem witness_TransitComplete :
(∃ (s : State), s.trn.lastMs < s.clk.tb / 50000) ∧
(∃ (n : Nat) (s : State), n < 128 ∧ n < s.trn.chs.length ∧ (s.tch n).st = .pullin ∧ s.tbPast (s.tch n).since (tbMs (s.tch
      n).pullMs) = true ∧ (s.tch n).carr = true) ∧
(∃ (n : Nat) (s : State), n < 128 ∧ n < s.trn.chs.length ∧ (s.tch n).st = .track ∧ (s.tch n).carr = false) ∧
(∃ (n : Nat) (s : State), n < 128 ∧ n < s.trn.chs.length ∧ (s.tch n).st = .track ∧ (s.tch n).carr = true) ∧
(∃ (n : Nat) (t0 : Nat) (s : State), n < 128 ∧ (s.tch n).lowAt = some t0 ∧ ((s.tch n).st = .pullin ∨ (s.tch n).st = .track) ∧
      s.tbPast t0 (tbMs 500) = true) ∧
(∃ (n : Nat) (s : State), n < 128 ∧ (s.tch n).st = .lost ∧ tMode (s.tch n).cfg ≠ 2 ∧ s.tbPast (s.tch n).since (tbMs (fld
      (s.tch n).lock 31 20)) = true) ∧
(∃ (n : Nat) (s : State), n < 128 ∧ (s.tch n).st = .handover ∧ (s.tch n).hoAt.isSome = true ∧ s.tbPast (s.tch n).passAt (tbMs
      ((2 * clampN 1 31 (fld (s.tch n).ho 4 0) + 5) / 5)) = true) ∧
(∃ (n : Nat) (h : Nat) (m : Nat) (pw : List Nat) (p : List Nat) (s : State), n < 128 ∧ (s.tch n).st = .handover ∧ (s.tch
      n).hoAt.isSome = true ∧ h = clampN 1 31 (fld (s.tch n).ho 4 0) ∧ s.tbPast (s.tch n).passAt (tbMs ((2 * h + 5) / 5)) =
      true ∧ p = (pw ++ List.replicate (2 * h + 1) 0).take (2 * h + 1) ∧ m = argMax (fun x => x) (p.map (fun (x : Nat) => (x :
      Int))) ∧ 2 * p.foldl (fun a x => a + x) 0 ≤ p.getD m 0 * (2 * h + 1) ∧ 0 < p.foldl (fun a x => a + x) 0) ∧
(∃ (n : Nat) (t0 : Nat) (s : State), n < 128 ∧ (s.tch n).hoAt = some t0 ∧ (s.tch n).st = .handover ∧ s.tbPast t0 (tbMs (fld
      (s.tch n).ho 15 8)) = true) ∧
(∃ (ini : Initiator) (s : State), s.domainUp .gns = true ∧ (ini = .host → s.expert fTRN = true)) ∧
(∃ (e : Nat) (r : TrnSweep) (q : TrnReq) (l : List TrnReq) (s : State), e < s.trn.engs.length ∧ (s.trn.engs.getD e {}).queue =
      q :: l ∧ r.ratio < q.th ∧ s.tbPast (s.trn.engs.getD e {}).startAt (tbMs q.sweepMs) = true) ∧
(∃ (e : Nat) (r : TrnSweep) (q : TrnReq) (l : List TrnReq) (s : State), e < s.trn.engs.length ∧ (s.trn.engs.getD e {}).queue =
      q :: l ∧ q.th ≤ r.ratio ∧ q.verify = 0 ∧ q.auto = none ∧ s.tbPast (s.trn.engs.getD e {}).startAt (tbMs q.sweepMs) =
      true) ∧
(∃ (s : State), s.domainUp .gns = true) ∧
(∃ (s : State), s.trn.run = true ∧ s.trn.lastEpoch < s.clk.tb / (50000000 / s.trnRate) * (50000000 / s.trnRate)) ∧
(∃ (n : Nat) (s : State), n < 128 ∧ (s.tch n).st = .track ∧ tSig (s.tch n).cfg % 2 = 0) ∧
(∃ (n : Nat) (u : TrnNav) (s : State), n < 128 ∧ n < s.trn.chs.length ∧ (s.tch n).st = .track ∧ tSig (s.tch n).cfg % 2 = 0 ∧
      tMode (s.tch n).cfg ≠ 2 ∧ (navCheck u (tSig (s.tch n).cfg)).1 = 0) ∧
(∃ (ini : Initiator) (s : State), s.domainUp .gns = true ∧ (ini = .host → s.expert fTRN = true)) ∧
(∃ (a : Nat) (ma : Nat) (s : State), a < 2 ∧ a < s.trn.ants.length ∧ s.bt R.TRN_FE_CFG (4 + a) = true ∧ (s.trn.ants.getD a
      {}).short = false ∧ 180 < ma) ∧
(∃ (a : Nat) (s : State), (s.trn.ants.getD a {}).short = true ∧ (s.trn.ants.getD a {}).retryAt ≤ s.clk.tb) ∧
(∃ (c : Cmd) (k : Nat) (s : State), Accepted fTRN 0x10 1 c k s ∧ c.payload.length = 16 ∧ u8 c.payload 0 < 128 ∧ u8 c.payload 2
      ≤ 1 ∧ u8 c.payload 6 ≤ 1 ∧ u8 c.payload 4 = 0 ∧ u8 c.payload 5 < 128 ∧ trnValid (u8 c.payload 1) (u8 c.payload 3) 0 =
      true ∧ s.fd R.TRN_ALLOC 7 0 ≤ u8 c.payload 0 ∧ 0 < fld (s.shadowRd (R.TRN_CH_SPACE (u8 c.payload 0))) 5 0 ∧ fld
      (s.shadowRd (R.TRN_CH_SPACE (u8 c.payload 0))) 5 0 < fld (s.shadowRd (R.TRN_CH_SPACE (u8 c.payload 0))) 12 6) ∧
(∃ (c : Cmd) (k : Nat) (s : State), Accepted fTRN 0x11 1 c k s ∧ c.payload.length = 12 ∧ u8 c.payload 0 < 2 ∧ u8 c.payload 1 ≤
      1 ∧ u8 c.payload 2 ≤ 1 ∧ trnValid (if u8 c.payload 1 = 0 then 0 else 3) (u8 c.payload 3) 0 = true ∧ 1 ≤ u8 c.payload 4 ∧
      u8 c.payload 4 ≤ 8 ∧ u8 c.payload 5 ≤ 3 ∧ u16 c.payload 10 ≤ 6000 ∧ u8 c.payload 6 = 0xFF ∧ s.isRunning fTRN = true ∧
      (s.trn.engs.getD (u8 c.payload 0) {}).queue.length < 64) ∧
(∃ (c : Cmd) (k : Nat) (n : Nat) (s : State), Accepted fTRN 0x12 0 c k s ∧ c.payload.length = 2 ∧ u8 c.payload 0 ≤ 15 ∧ 4 ≤ u8
      c.payload 1 ∧ u8 c.payload 1 ≤ 10 ∧ s.freeRing = some n ∧ s.sramFits [u8 c.payload 1] = true) ∧
(∃ (c : Cmd) (k : Nat) (r : DataRing) (s : State), Accepted fTRN 0x13 0 c k s ∧ c.payload.length = 1 ∧ s.ring? (u8 c.payload
      0) = some r ∧ r.fn = fTRN ∧ r.session = k) ∧
(∃ (c : Cmd) (k : Nat) (s : State), Accepted fTRN 0x14 0 c k s ∧ c.payload.length = 1 ∧ u8 c.payload 0 < 128) :=
  ⟨⟨ww, by decide +kernel⟩,
   ⟨0, wtr [] { st := .pullin, carr := true }, by decide +kernel, by decide +kernel, by decide +kernel, by decide +kernel, by
    decide +kernel⟩,
   ⟨0, wtr [] { st := .track }, by decide +kernel, by decide +kernel, by decide +kernel, by decide +kernel⟩,
   ⟨0, wtr [] { st := .track, carr := true }, by decide +kernel, by decide +kernel, by decide +kernel, by decide +kernel⟩,
   ⟨0, 5, wtr [] { st := .track, lowAt := some 5 }, by decide +kernel, by decide +kernel, by decide +kernel, by decide +kernel⟩,
   ⟨0, wtr [] { st := .lost }, by decide +kernel, by decide +kernel, by decide +kernel, by decide +kernel⟩,
   ⟨0, wtr [] { st := .handover, hoAt := some 5 }, by decide +kernel, by decide +kernel, by decide +kernel, by decide +kernel⟩,
   ⟨0, 1, 1, [0, 9, 0], [0, 9, 0], wtr [] { st := .handover, hoAt := some 5 }, by decide +kernel, by decide +kernel, by
    decide +kernel, by decide +kernel, by decide +kernel, by decide +kernel, by decide +kernel, by decide +kernel, by
    decide +kernel⟩,
   ⟨0, 5, wtr [] { st := .handover, hoAt := some 5 }, by decide +kernel, by decide +kernel, by decide +kernel, by decide +kernel⟩,
   ⟨.dome, ww, by decide +kernel, by decide +kernel⟩,
   ⟨0, { pos := 0, dop := 0, ratio := 4, sets := [] },
    rq, [],
    { ww with trn := { engs := [{ queue := [rq] }] } },
    by decide +kernel, by decide +kernel, by decide +kernel, by decide +kernel⟩,
   ⟨0, { pos := 0, dop := 0, ratio := 5, sets := [] },
    rq, [],
    { ww with trn := { engs := [{ queue := [rq] }] } },
    by decide +kernel, by decide +kernel, by decide +kernel, by decide +kernel, by decide +kernel, by decide +kernel⟩,
   ⟨ww, by decide +kernel⟩,
   ⟨{ ww with trn := { run := true } }, by decide +kernel, by decide +kernel⟩,
   ⟨0, wtr [] { st := .track, cfg := 4#32 }, by decide +kernel, by decide +kernel, by decide +kernel⟩,
   ⟨0, { tb := 0, bits := [], inv := false }, wtr [] { st := .track, cfg := 4#32 }, by decide +kernel, by decide +kernel, by
    decide +kernel, by decide +kernel, by decide +kernel, by decide +kernel⟩,
   ⟨.dome, ww, by decide +kernel, by decide +kernel⟩,
   ⟨0, 181, (wr [(R.TRN_FE_CFG, 0x10#32)]), by decide +kernel, by decide +kernel, by decide +kernel, by decide +kernel, by
    decide +kernel⟩,
   ⟨0, { ww with trn := { ants := [{ short := true }] } }, by decide +kernel, by decide +kernel⟩,
   ⟨cm (bs [64, 0, 0, 1] ++ zs 12), 0, { (wr [(R.TRN_ALLOC, 0x40#32)]) with shadow := [(R.TRN_CH_SPACE 64, 0x81#32)] },
    accB_accepted (by decide +kernel), by decide +kernel, by decide +kernel, by decide +kernel, by decide +kernel, by
    decide +kernel, by decide +kernel, by decide +kernel, by decide +kernel, by decide +kernel, by decide +kernel⟩,
   ⟨cm (bs [0, 0, 0, 1, 1, 0, 255, 0, 0, 0, 0, 0]), 0, ww, accB_accepted (by decide +kernel), by decide +kernel, by
    decide +kernel, by decide +kernel, by decide +kernel, by decide +kernel, by decide +kernel, by decide +kernel, by
    decide +kernel, by decide +kernel, by decide +kernel, by decide +kernel, by decide +kernel⟩,
   ⟨(cm (bs [0, 4])), 0, 48, ww, accB_accepted (by decide +kernel), by decide +kernel, by decide +kernel, by decide +kernel, by
    decide +kernel, by decide +kernel, by decide +kernel⟩,
   ⟨cm [48#8], 0, dr 10 0 0, wdr 10 0 0, accB_accepted (by decide +kernel), by decide +kernel, by decide +kernel, by
    decide +kernel, by decide +kernel⟩,
   ⟨(cm (zs 1)), 0, ww, accB_accepted (by decide +kernel), by decide +kernel, by decide +kernel⟩⟩

theorem witness_PositionComplete :
(∃ (x : PosSol) (s : State), s.posOn = true ∧ s.pos.lastSol < s.trn.lastEpoch / s.posPeriod * s.posPeriod ∧ x.found = true ∧
      posEnough (s.posSats x.used) = true) ∧
(∃ (s : State), s.posOn = true ∧ 3 ≤ s.pos.quality ∧ s.posCorrOk (s.trn.lastEpoch / s.posPeriod * s.posPeriod) = false) ∧
(∃ (s : State), s.posOn = true) ∧
(∃ (s : State), s.posOn = true ∧ s.pos.quality = 1 ∧ (s.tbPast s.pos.drSince (50000000 * min 600 (s.fd R.POS_DR_MAX 9 0)) =
      true ∨ s.tbPast (max s.pos.drSince s.pos.odoAt) 100000000 = true)) ∧
(∃ (s : State), s.posOn = true ∧ s.pos.outAt < s.clk.tickCount / 200 ∧ s.clk.tickCount % 200 = 0 ∧ 10000 ≤ s.clk.phase ∧
      s.clk.due = []) ∧
(∃ (s : State), s.posOn = true ∧ s.tbPast s.pos.discAt 50000000 = true ∧ s.bt R.POS_CTRL 0 = true ∧ s.fd R.ETH_TIME_CFG 1 0 =
      1 ∧ 2 ≤ s.pos.quality ∧ s.timeValid = true) ∧
(∃ (s : State), s.posOn = true ∧ s.timeValid = true ∧ s.pos.ppsSec < s.gpsAt s.clk.tb / 1000000000 ∧ s.fd R.POS_CTRL 2 1 = 1 ∧
      2 ≤ s.pos.quality) ∧
(∃ (t0 : Nat) (s : State), s.pos.ppsAt = some t0 ∧ s.tbPast t0 (tbMs (s.fd R.POS_CTRL 9 3)) = true) ∧
(∃ (src : Nat) (s : State), s.posOn = true ∧ nbit s.pos.src src = true) ∧
(∃ (s : State), s.pos.sentry.on = true ∧ s.pos.sentry.mode = 1 ∧ s.pos.sentry.next ≤ s.aonCount) ∧
(∃ (s : State), s.pos.sentry.on = true ∧ s.pos.sentry.mode = 2 ∧ s.pos.sentry.next ≤ s.aonCount) ∧
(∃ (c : Cmd) (k : Nat) (s : State), Accepted fPOS 0x10 0 c k s ∧ 1 ≤ c.payload.length ∧ c.payload.length ≤ 4096 ∧ s.posOn =
      true ∧ nbit s.pos.src 2 = true) ∧
(∃ (c : Cmd) (k : Nat) (s : State), Accepted fPOS 0x11 1 c k s ∧ c.payload.length = 8 ∧ u8 c.payload 0 ≤ 7 ∧ u8 c.payload 1 ≤
      15) ∧
(∃ (c : Cmd) (k : Nat) (s : State), Accepted fPOS 0x12 0 c k s ∧ c.payload.length = 8 ∧ s.pos.quality ≠ 0 ∧ (0 < u32 c.payload
      0 ∨ 0 < u32 c.payload 4)) ∧
(∃ (c : Cmd) (k : Nat) (s : State), Accepted fPOS 0x12 0 c k s ∧ c.payload.length = 8 ∧ s.pos.quality ≠ 0 ∧ u32 c.payload 0 =
      0 ∧ u32 c.payload 4 = 0) ∧
(∃ (c : Cmd) (k : Nat) (s : State), Accepted fPOS 0x13 1 c k s ∧ c.payload.length = 12 ∧ u8 c.payload 0 ≤ 2 ∧ u8 c.payload 1 ≤
      1 ∧ 1 ≤ u8 c.payload 2 ∧ u8 c.payload 2 ≤ 15 ∧ 10 ≤ u8 c.payload 3 ∧ 1 ≤ u16 c.payload 4 ∧ u16 c.payload 4 ≤ 3600 ∧ 60 ≤
      u32 c.payload 8 ∧ u32 c.payload 8 ≤ 86400) ∧
(∃ (c : Cmd) (k : Nat) (n : Nat) (s : State), Accepted fPOS 0x14 0 c k s ∧ c.payload.length = 1 ∧ 4 ≤ u8 c.payload 0 ∧ u8
      c.payload 0 ≤ 10 ∧ s.freeRing = some n ∧ s.sramFits [u8 c.payload 0] = true) ∧
(∃ (c : Cmd) (k : Nat) (s : State), Accepted fPOS 0x15 0 c k s ∧ c.payload = []) ∧
(∃ (c : Cmd) (k : Nat) (s : State), Accepted fPOS 0x16 1 c k s ∧ c.payload = []) :=
  ⟨⟨{ (default : PosSol) with found := true, used := [(0, 90), (1, 90), (2, 90), (3, 90)] },
    { wpo [] {} with trn := { lastEpoch := 5000000000, chs := [{ st := .track, code := true, tow := true, cn0 := 10000, cfg := 0x20#32 }, { st := .track, code := true, tow := true, cn0 := 10000, cfg := 0x40#32 }, { st := .track, code := true, tow := true, cn0 := 10000, cfg := 0x60#32 }, { st := .track, code := true, tow := true, cn0 := 10000, cfg := 0x80#32 }] } },
    by decide +kernel, by decide +kernel, by decide +kernel, by decide +kernel⟩,
   ⟨wpo [] { quality := 3 }, by decide +kernel, by decide +kernel, by decide +kernel⟩,
   ⟨ww, by decide +kernel⟩,
   ⟨wpo [] { quality := 1 }, by decide +kernel, by decide +kernel, by decide +kernel⟩,
   ⟨{ ww with clk := { ww.clk with phase := 10000 } }, by decide +kernel, by decide +kernel, by decide +kernel, by
    decide +kernel, by decide +kernel⟩,
   ⟨wpo [(R.POS_CTRL, 1#32), (R.ETH_TIME_CFG, 1#32), (R.POS_STATUS, 64#32)] { quality := 2 }, by decide +kernel, by
    decide +kernel, by decide +kernel, by decide +kernel, by decide +kernel, by decide +kernel⟩,
   ⟨wpo [(R.POS_CTRL, 2#32), (R.POS_STATUS, 64#32)] { quality := 2 }, by decide +kernel, by decide +kernel, by decide +kernel, by
    decide +kernel, by decide +kernel⟩,
   ⟨5, wpo [] { ppsAt := some 5 }, by decide +kernel, by decide +kernel⟩,
   ⟨0, wpo [] { src := 1 }, by decide +kernel, by decide +kernel⟩,
   ⟨wpo [] { sentry := { on := true, mode := 1 } }, by decide +kernel, by decide +kernel, by decide +kernel⟩,
   ⟨wpo [] { sentry := { on := true, mode := 2 } }, by decide +kernel, by decide +kernel, by decide +kernel⟩,
   ⟨(cm (zs 1)), 0, wpo [] { src := 4 }, accB_accepted (by decide +kernel), by decide +kernel, by decide +kernel, by
    decide +kernel, by decide +kernel⟩,
   ⟨(cm (zs 8)), 0, ww, accB_accepted (by decide +kernel), by decide +kernel, by decide +kernel, by decide +kernel⟩,
   ⟨cm (bs [1, 0, 0, 0, 0, 0, 0, 0]), 0, wpo [] { quality := 2 }, accB_accepted (by decide +kernel), by decide +kernel, by
    decide +kernel, by decide +kernel⟩,
   ⟨(cm (zs 8)), 0, wpo [] { quality := 2 }, accB_accepted (by decide +kernel), by decide +kernel, by decide +kernel, by
    decide +kernel, by decide +kernel⟩,
   ⟨(cm (bs [0, 0, 1, 10, 1, 0, 0, 0, 60] ++ zs 3)), 0, ww, accB_accepted (by decide +kernel), by decide +kernel, by
    decide +kernel, by decide +kernel, by decide +kernel, by decide +kernel, by decide +kernel, by decide +kernel, by
    decide +kernel, by decide +kernel, by decide +kernel⟩,
   ⟨(cm (bs [4])), 0, 48, ww, accB_accepted (by decide +kernel), by decide +kernel, by decide +kernel, by decide +kernel, by
    decide +kernel, by decide +kernel⟩,
   ⟨(cm []), 0, ww, accB_accepted (by decide +kernel), by decide +kernel⟩,
   ⟨(cm []), 0, ww, accB_accepted (by decide +kernel), by decide +kernel⟩⟩

theorem witness_CameraEventsComplete :
(∃ (port : Nat) (f : CamFrame) (s : State), s.camCur port = some f ∧ s.tbPast f.first (tbMs (s.fd (R.CAM_STR_CFG port) 15 8))
      = true) ∧
(∃ (port : Nat) (s : State), (s.camStr port).st = 2 ∧ s.tbPast (s.camStr port).lastAt (tbMs 500) = true) ∧
(∃ (ctx : Nat) (f : CamFrame) (s : State), s.cam.frames.find? (fun f => f.begun && f.ctx == some ctx && (f.ready ||
      (s.cam.mode == 0 && s.cam.isp == some f.uid) || (f.inline_ && f.closed && f.waiting == 0))) = some f) ∧
(∃ (s : State), s.cam.mode ≠ 0) ∧
(∃ (u : Nat) (s : State), s.cam.mode ≠ 0 ∧ s.cam.isp = some u) ∧
(∃ (load : Nat) (s : State), decide (1000 ≤ load) = s.bt R.CAM_STATUS 10) ∧
(∃ (load : Nat) (s : State), decide (1000 ≤ load) ≠ s.bt R.CAM_STATUS 10) ∧
(∃ (e : Nat) (j : EncJob) (au : List Byte) (s : State), e < s.cam.encs.length ∧ (s.camEnc e).job = some j ∧ s.fd (R.CAM_ENC_WR
      e) 22 0 = 0 ∧ s.fd (R.CAM_ENC_RD e) 22 0 = 0 ∧ au.length < encSize ∧ e < 2) ∧
(∃ (ini : Initiator) (s : State), s.domainUp .ctl = true ∧ (ini = .host → s.expert fCAM = true)) ∧
(∃ (ini : Initiator) (e : Nat) (s : State), e < 2 ∧ s.domainUp .ctl = true ∧ (ini = .host → s.expert fCAM = true)) ∧
(∃ (ini : Initiator) (s : State), s.domainUp .ctl = true ∧ (ini = .host → s.expert fCAM = true)) ∧
(∃ (s : State), s.domainUp .ctl = true) ∧
(∃ (ini : Initiator) (s : State), s.domainUp .ctl = true ∧ (ini = .host → s.expert fCAM = true)) :=
  ⟨⟨0, fr, wca [] { frames := [fr] }, by decide +kernel, by decide +kernel⟩,
   ⟨0, wca [] { strs := [{ st := 2 }] }, by decide +kernel, by decide +kernel⟩,
   ⟨0, fr, wca [] { frames := [fr] }, by decide +kernel⟩,
   ⟨ww, by decide +kernel⟩,
   ⟨0, { ww with cam := { mode := 1, isp := some 0 } }, by decide +kernel, by decide +kernel⟩,
   ⟨0, (wr [(R.CAM_STATUS, 0x0#32)]), by decide +kernel⟩,
   ⟨1000, (wr [(R.CAM_STATUS, 0x0#32)]), by decide +kernel⟩,
   ⟨0, { ctx := 0, num := 0, sof := 0, idr := true }, [], wca []
    { encs := [{ job := some { ctx := 0, num := 0, sof := 0, idr := true } }] }, by decide +kernel, by decide +kernel, by
    decide +kernel, by decide +kernel, by decide +kernel, by decide +kernel⟩,
   ⟨.dome, ww, by decide +kernel, by decide +kernel⟩,
   ⟨.dome, 0, ww, by decide +kernel, by decide +kernel, by decide +kernel⟩,
   ⟨.dome, ww, by decide +kernel, by decide +kernel⟩,
   ⟨ww, by decide +kernel⟩,
   ⟨.dome, ww, by decide +kernel, by decide +kernel⟩⟩

theorem witness_CameraCommandsComplete :
(∃ (c : Cmd) (k : Nat) (n : Nat) (s : State), Accepted fCAM 0x10 0 c k s ∧ c.payload.length = 2 ∧ overUdp c = false ∧ u8
      c.payload 0 < 8 ∧ 4 ≤ u8 c.payload 1 ∧ u8 c.payload 1 ≤ 10 ∧ s.freeRing = some n ∧ s.sramFits [u8 c.payload 1] = true) ∧
(∃ (c : Cmd) (k : Nat) (n : Nat) (s : State), Accepted fCAM 0x11 0 c k s ∧ c.payload.length = 2 ∧ overUdp c = false ∧ u8
      c.payload 0 < 2 ∧ 4 ≤ u8 c.payload 1 ∧ u8 c.payload 1 ≤ 10 ∧ s.freeRing = some n ∧ s.sramFits [u8 c.payload 1] = true) ∧
(∃ (c : Cmd) (k : Nat) (n : Nat) (s : State), Accepted fCAM 0x12 0 c k s ∧ c.payload.length = 2 ∧ u8 c.payload 0 < 8 ∧ u8
      c.payload 1 < 3 ∧ n = (if u8 c.payload 1 = 0 then (s.camCtx (u8 c.payload 0)).d else if u8 c.payload 1 = 1 then
      (s.camCtx (u8 c.payload 0)).m else (s.camCtx (u8 c.payload 0)).s).length) ∧
(∃ (c : Cmd) (k : Nat) (s : State), Accepted fCAM 0x13 0 c k s ∧ c.payload.length = 8 ∧ u8 c.payload 1 < 3 ∧ u8 c.payload 0 <
      8) ∧
(∃ (c : Cmd) (k : Nat) (s : State), Accepted fCAM 0x13 0 c k s ∧ c.payload.length = 8 ∧ u8 c.payload 1 = 3 ∧ u8 c.payload 0 <
      2 ∧ u32 c.payload 4 < encSize) ∧
(∃ (c : Cmd) (k : Nat) (s : State), Accepted fCAM 0x14 1 c k s ∧ u8 c.payload 0 < 8 ∧ u8 c.payload 1 < 2 ∧ c.payload.length =
      4 + 2 * camTblSize (u8 c.payload 1) ∧ (∀ i, i < camTblSize (u8 c.payload 1) → u16 c.payload (4 + 2 * i) ≤ 4095)) ∧
(∃ (c : Cmd) (k : Nat) (s : State), Accepted fCAM 0x15 0 c k s ∧ c.payload.length = 20 ∧ u8 c.payload 0 < 8 ∧ u8 c.payload 1 ≤
      7 ∧ bit (s.camCfg (u8 c.payload 0)) 0 = true ∧ fld (s.camCfg (u8 c.payload 0)) 3 1 = 6 ∧ 64 ≤ u16 c.payload 4 ∧ u16
      c.payload 4 ≤ 1920 ∧ 64 ≤ u16 c.payload 6 ∧ u16 c.payload 6 ≤ 1200 ∧ u16 c.payload 4 % 4 = 0 ∧ s.isRunning fCAM = true ∧
      (s.cam.frames.filter (fun f => f.stream == 6 && !f.begun)).length < 4) ∧
(∃ (c : Cmd) (k : Nat) (s : State), Accepted fCAM 0x16 0 c k s ∧ c.payload.length = 1 ∧ u8 c.payload 0 < 2) :=
  ⟨⟨(cm (bs [0, 4])), 0, 48, ww, accB_accepted (by decide +kernel), by decide +kernel, by decide +kernel, by decide +kernel, by
    decide +kernel, by decide +kernel, by decide +kernel, by decide +kernel⟩,
   ⟨(cm (bs [0, 4])), 0, 48, ww, accB_accepted (by decide +kernel), by decide +kernel, by decide +kernel, by decide +kernel, by
    decide +kernel, by decide +kernel, by decide +kernel, by decide +kernel⟩,
   ⟨(cm (zs 2)), 0, 0, ww, accB_accepted (by decide +kernel), by decide +kernel, by decide +kernel, by decide +kernel, by
    decide +kernel⟩,
   ⟨(cm (zs 8)), 0, ww, accB_accepted (by decide +kernel), by decide +kernel, by decide +kernel, by decide +kernel⟩,
   ⟨(cm (bs [0, 3] ++ zs 6)), 0, ww, accB_accepted (by decide +kernel), by decide +kernel, by decide +kernel, by decide +kernel,
    by decide +kernel⟩,
   ⟨cm (zs 134), 0, ww, accB_accepted (by decide +kernel), by decide +kernel, by decide +kernel, by decide +kernel, by
    decide +kernel⟩,
   ⟨cm (bs [0, 0, 0, 0, 64, 0, 64, 0] ++ zs 12), 0, wr [(R.CAM_CTX_CFG 0, 13#32)], accB_accepted (by decide +kernel), by
    decide +kernel, by decide +kernel, by decide +kernel, by decide +kernel, by decide +kernel, by decide +kernel, by
    decide +kernel, by decide +kernel, by decide +kernel, by decide +kernel, by decide +kernel, by decide +kernel⟩,
   ⟨(cm (zs 1)), 0, ww, accB_accepted (by decide +kernel), by decide +kernel, by decide +kernel⟩⟩

theorem witness_FusionComplete :
(∃ (s : State), s.astRuns = true ∧ s.clk.tickCount % 50 = 0 ∧ s.clk.phase ≤ 8000 ∧ s.ast.sampled < s.clk.tickCount / 50) ∧
(∃ (k : Nat) (p : AstPart) (s : State), (s.astSrc k).part = some p ∧ s.tbPast p.stamp (tbMs 10) = true) ∧
(∃ (ini : Initiator) (s : State), s.domainUp .fab = true ∧ (ini = .host → s.expert fAST = true)) ∧
(∃ (k : Nat) (s : State), (s.astSrc k).st = 2 ∧ s.tbPast (s.astSrc k).lastAt (3 * s.astPeriod k) = true) ∧
(∃ (s : State), s.astRuns = true ∧ s.ast.strobed = false ∧ s.ast.lastT < s.clk.tb / (50000 * max 1 (s.astF R.AST_CYC_CFG 7 0))
      * (50000 * max 1 (s.astF R.AST_CYC_CFG 7 0))) ∧
(∃ (s : State), s.astRuns = false ∧ s.ast.running = true ∧ s.ast.strobed = false ∧ s.ast.lastT < s.clk.tb / (50000 * max 1
      (s.astF R.AST_CYC_CFG 7 0)) * (50000 * max 1 (s.astF R.AST_CYC_CFG 7 0))) ∧
(∃ (c : Cmd) (k : Nat) (n : Nat) (s : State), Accepted fAST 0x10 0 c k s ∧ c.payload.length = 2 ∧ u8 c.payload 1 ≤ 1 ∧ 4 ≤ u8
      c.payload 0 ∧ u8 c.payload 0 ≤ 10 ∧ s.freeRing = some n ∧ s.sramFits [u8 c.payload 0] = true) ∧
(∃ (c : Cmd) (k : Nat) (r : DataRing) (s : State), Accepted fAST 0x11 0 c k s ∧ c.payload.length = 1 ∧ s.ring? (u8 c.payload
      0) = some r ∧ r.fn = fAST ∧ r.session = k) ∧
(∃ (c : Cmd) (k : Nat) (s : State), Accepted fAST 0x12 0 c k s ∧ 28 ≤ c.payload.length ∧ u8 c.payload 0 < 16 ∧ s.astF
      (R.AST_SRC_CFG (u8 c.payload 0)) 2 1 = 2) ∧
(∃ (c : Cmd) (k : Nat) (r : List Byte) (s : State), Accepted fAST 0x13 0 c k s ∧ c.payload.length = 2 ∧ s.ast.shown.lookup
      (u16 c.payload 0) = some r) ∧
(∃ (c : Cmd) (k : Nat) (s : State), Accepted fAST 0x14 1 c k s ∧ c.payload = []) :=
  ⟨⟨wr [(R.AST_CTRL, 1#32)], by decide +kernel, by decide +kernel, by decide +kernel, by decide +kernel⟩,
   ⟨0, { stamp := 5, hdr := [], got := [] },
    { ww with ast := { srcs := [{ part := some { stamp := 5, hdr := [], got := [] } }] } }, by decide +kernel, by
    decide +kernel⟩,
   ⟨.dome, ww, by decide +kernel, by decide +kernel⟩,
   ⟨0, { ww with ast := { srcs := [{ st := 2 }] } }, by decide +kernel, by decide +kernel⟩,
   ⟨wr [(R.AST_CTRL, 1#32)], by decide +kernel, by decide +kernel, by decide +kernel⟩,
   ⟨{ ww with ast := { running := true } }, by decide +kernel, by decide +kernel, by decide +kernel, by decide +kernel⟩,
   ⟨(cm (bs [4] ++ zs 1)), 0, 48, ww, accB_accepted (by decide +kernel), by decide +kernel, by decide +kernel, by decide +kernel,
    by decide +kernel, by decide +kernel, by decide +kernel⟩,
   ⟨cm [48#8], 0, dr 12 0 0, wdr 12 0 0, accB_accepted (by decide +kernel), by decide +kernel, by decide +kernel, by
    decide +kernel, by decide +kernel⟩,
   ⟨(cm (zs 28)), 0, wr [(R.AST_SRC_CFG 0, 4#32)], accB_accepted (by decide +kernel), by decide +kernel, by decide +kernel, by
    decide +kernel⟩,
   ⟨(cm (zs 2)), 0, [], { ww with ast := { shown := [(0, [])] } }, accB_accepted (by decide +kernel), by decide +kernel, by
    decide +kernel⟩,
   ⟨(cm []), 0, ww, accB_accepted (by decide +kernel), by decide +kernel⟩⟩

theorem witness_SafetyEventsComplete :
(∃ (s : State), s.saf.powered = true ∧ s.saf.cycleAt + fabMs 1 ≤ s.clk.now) ∧
(∃ (s : State), s.saf.powered = true ∧ s.saf.tested = true ∧ s.saf.parOk = true) ∧
(∃ (s : State), s.saf.powered = true ∧ s.saf.tested = true ∧ s.saf.parOk = true) ∧
(∃ (m : Nat) (s : State), s.saf.powered = true ∧ monUsed s.saf.par m = true ∧ s.monStill m = true ∧ s.saf.st ≠ 3) ∧
(∃ (m : Nat) (s : State) (t : State), s.saf.powered = true ∧ monUsed s.saf.par m = true ∧ s.monStill m = true ∧ s.saf.st = 3 ∧
      t = s.begun.wf_ R.SAF_SS 11 8 (maskOf 4 (fun k => monUsed s.saf.par k && s.monStill k)) ∧ t.safStill = true ∧
      t.safEnvelope.1 = false) ∧
(∃ (s : State), s.saf.st = 3 ∧ safTmax s.saf.par ≤ s.saf.ms - s.saf.ss1At) ∧
(∃ (k : Nat) (i : Nat) (j : Nat) (s : State), s.saf.powered = true ∧ s.saf.tested = true ∧ s.saf.parOk = true ∧ s.tpRuns =
      true ∧ (List.range 16).all (fun i => fld (siCfg s.saf.par i) 2 0 == 0 || fld (siW s.saf.par i) 7 5 != k) = true ∧ i < 16
      ∧ j < 16 ∧ i ≠ j ∧ fld (siCfg s.saf.par i) 2 0 ≠ 0 ∧ fld (siCfg s.saf.par j) 2 0 ≠ 0 ∧ s.saf.tpBad = 0) ∧
(∃ (n : Nat) (s : State), s.saf.powered = true ∧ (s.so n).on = true) ∧
(∃ (n : Nat) (s : State), s.saf.powered = true ∧ (s.so n).on = true) ∧
(∃ (s : State), s.saf.powered = true ∧ s.saf.tested = true ∧ s.saf.parOk = true) ∧
(∃ (i : Nat) (d : Nat) (s : State), s.saf.press.lookup i = some d ∧ 100 ≤ d ∧ d ≤ 2000) ∧
(∃ (s : State), s.saf.powered = true ∧ s.saf.st = 0 ∧ s.saf.tested = false ∧ s.saf.staged = none) ∧
(∃ (s : State), s.saf.powered = true ∧ s.saf.tested = true ∧ 2 ≤ s.dome ∧ s.saf.checked = false ∧ s.saf.st = 0) ∧
(∃ (obj : Nat) (s : State), s.saf.powered = true ∧ s.saf.tested = true ∧ s.saf.sealed = false ∧ obj < 10 ∧ 3 ≤
      s.saf.sealDiff.getD obj 0 ∧ (∀ j, j < obj → s.saf.sealDiff.getD j 0 < 3)) ∧
(∃ (n : Nat) (s : State), s.saf.powered = true ∧ s.saf.parOk = true ∧ n < connN s.saf.par ∧ connProd (connB s.saf.par n) =
      false ∧ (s.conn n).st = 2 ∧ (s.conn n).at_ + fabMs (u16 (connB s.saf.par n) 14) ≤ s.clk.now) ∧
(∃ (n : Nat) (s : State), s.saf.powered = true ∧ s.saf.parOk = true ∧ n < connN s.saf.par ∧ connProd (connB s.saf.par n) =
      true ∧ (s.conn n).next ≤ s.saf.ms) :=
  ⟨⟨ww, by decide +kernel, by decide +kernel⟩,
   ⟨wsf (sf []), by decide +kernel, by decide +kernel, by decide +kernel⟩,
   ⟨wsf (sf []), by decide +kernel, by decide +kernel, by decide +kernel⟩,
   ⟨0, wsf { sf [] with mons := [{ low := some 0 }] }, by decide +kernel, by decide +kernel, by decide +kernel, by
    decide +kernel⟩,
   ⟨0, wsf { sf [] with st := 3, mons := List.replicate 4 { low := some 0 } }, _, by decide +kernel, by decide +kernel, by
    decide +kernel, by decide +kernel, rfl, by decide +kernel, by decide +kernel⟩,
   ⟨wsf { sf [] with st := 3 }, by decide +kernel, by decide +kernel⟩,
   ⟨3, 0, 1, wsf (sf (zs 12 ++ bs [1, 0, 0, 0, 1, 0, 0, 0])), by decide +kernel, by decide +kernel, by decide +kernel, by
    decide +kernel, by decide +kernel, by decide +kernel, by decide +kernel, by decide +kernel, by decide +kernel, by
    decide +kernel, by decide +kernel⟩,
   ⟨0, wsf { sf [] with sos := [{ on := true }] }, by decide +kernel, by decide +kernel⟩,
   ⟨0, wsf { sf [] with sos := [{ on := true }] }, by decide +kernel, by decide +kernel⟩,
   ⟨wsf (sf []), by decide +kernel, by decide +kernel, by decide +kernel⟩,
   ⟨0, 100, wsf { press := [(0, 100)] }, by decide +kernel, by decide +kernel, by decide +kernel⟩,
   ⟨ww, by decide +kernel, by decide +kernel, by decide +kernel, by decide +kernel⟩,
   ⟨wsf { sf [] with st := 0 }, by decide +kernel, by decide +kernel, by decide +kernel, by decide +kernel, by decide +kernel⟩,
   ⟨0, wsf { sf [] with sealDiff := [3] }, by decide +kernel, by decide +kernel, by decide +kernel, by decide +kernel, by
    decide +kernel, by decide +kernel⟩,
   ⟨0, wsf { sf (zs 992 ++ bs [1, 0, 0, 0, 0, 0, 0, 0, 0]) with conns := [{ st := 2 }] }, by decide +kernel, by decide +kernel,
    by decide +kernel, by decide +kernel, by decide +kernel, by decide +kernel⟩,
   ⟨0, wsf (sf (zs 992 ++ bs [1, 0, 0, 0, 0, 0, 0, 0, 1])), by decide +kernel, by decide +kernel, by decide +kernel, by
    decide +kernel, by decide +kernel⟩⟩

theorem witness_SafetyCommandsComplete :
(∃ (c : Cmd) (k : Nat) (s : State), Accepted fSAF 0x10 0 c k s ∧ c.payload = [] ∧ s.saf.st = 2) ∧
(∃ (c : Cmd) (k : Nat) (s : State), Accepted fSAF 0x11 1 c k s ∧ c.payload = []) ∧
(∃ (c : Cmd) (k : Nat) (s : State), Accepted fSAF 0x12 1 c k s ∧ c.payload = []) ∧
(∃ (c : Cmd) (k : Nat) (s : State), Accepted fSAF 0x13 2 c k s ∧ c.payload.length = 1768 ∧ nbit s.saf.dip 0 = true ∧ s.saf.st
      = 1 ∧ s.safStill = true ∧ u8 c.payload 2 ≤ 1 ∧ u8 c.payload 2 ≠ b2n s.saf.parB ∧ safSetOk s.saf.addr (u8 c.payload 2)
      c.payload = true) :=
  ⟨⟨(cm []), 0, wsf { sf [] with st := 2 }, accB_accepted (by decide +kernel), by decide +kernel, by decide +kernel⟩,
   ⟨(cm []), 0, ww, accB_accepted (by decide +kernel), by decide +kernel⟩,
   ⟨(cm []), 0, ww, accB_accepted (by decide +kernel), by decide +kernel⟩,
   ⟨cm parSet, 0, wsf
    { sf (zs 92 ++ [255#8] ++ zs 23 ++ [255#8] ++ zs 23 ++ [255#8] ++ zs 23 ++ [255#8]) with st := 1, dip := 1 },
    accB_accepted (by decide +kernel), by decide +kernel, by decide +kernel, by decide +kernel, by decide +kernel, by
    decide +kernel, by decide +kernel, parSet_ok⟩⟩

theorem witness_CanEventsComplete :
(∃ (i : Nat) (s : State), i < 64 ∧ s.isRunning fCAN = true ∧ s.bt (R.CAN_IMP_CFG (i / 4) (i % 4)) 31 = true ∧ s.fd
      (R.CAN_IMP_TMO (i / 4) (i % 4)) 15 0 ≠ 0 ∧ s.can.impOut.getD i false = false ∧ s.tbPast (s.can.impAt.getD i 0) (tbMs
      (s.fd (R.CAN_IMP_TMO (i / 4) (i % 4)) 15 0)) = true) ∧
(∃ (n : Nat) (t0 : Nat) (s : State), n < 16 ∧ (s.canCtl n).claimAt = some t0 ∧ s.canClaim n = 1 ∧ s.tbPast t0 (tbMs 250) =
      true) ∧
(∃ (n : Nat) (sof : Nat) (x : CanTx) (l : List CanTx) (s : State), n < 16 ∧ s.bt (R.CAN_CTRL n) 1 = false ∧ s.canState n = 1 ∧
      sortBy canBefore (s.canReady n sof) = x :: l) ∧
(∃ (n : Nat) (s : State), n < 16 ∧ (s.canState n = 1 ∨ s.canState n = 2 ∨ s.canState n = 4)) ∧
(∃ (n : Nat) (s : State), n < 16 ∧ s.canState n = 3 ∧ s.bt (R.CAN_STATUS n) 3 = false ∧ s.bt (R.CAN_CTRL n) 5 = false ∧
      s.tbPast (s.canCtl n).boffAt (tbMs (10 * s.fd (R.CAN_CTRL n) 13 6)) = true) ∧
(∃ (n : Nat) (s : State), n < 16 ∧ s.canState n = 4) ∧
(∃ (ini : Initiator) (n : Nat) (s : State), n < 16 ∧ s.domainUp .ctl = true ∧ (ini = .host → s.expert fCAN = true)) ∧
(∃ (n : Nat) (x : CanRx) (s : State), n < 16 ∧ (s.canState n = 1 ∨ s.canState n = 2 ∨ s.canState n = 4) ∧ x.fdf = false) ∧
(∃ (ini : Initiator) (s : State), s.domainUp .ctl = true ∧ (ini = .host → s.expert fCAN = true)) ∧
(∃ (k : Nat) (q : Nat) (s : State), k < 4 ∧ k < s.can.lins.length ∧ s.isRunning fCAN = true ∧ s.bt (R.LIN_CFG k) 0 = true ∧
      (s.lin k).sleep = false ∧ (s.lin k).on = true ∧ (s.lin k).next ≤ s.clk.tb ∧ (s.lin k).last = none ∧ q < 32 ∧ (∀ i, i < q
      → s.bt (R.LIN_SCHED k i) 31 = false) ∧ s.bt (R.LIN_SCHED k q) 31 = true) ∧
(∃ (k : Nat) (q : Nat) (h : Nat) (p : List Byte) (s : State), (s.lin k).entry = some (q, h) ∧ s.bt (R.LIN_SCHED k q) 6 = false
      ∧ p.length ≠ clampN 1 8 (s.fd (R.LIN_SCHED k q) 10 7) + 1) ∧
(∃ (k : Nat) (q : Nat) (h : Nat) (p : List Byte) (s : State), (s.lin k).entry = some (q, h) ∧ s.bt (R.LIN_SCHED k q) 6 = false
      ∧ p.length = clampN 1 8 (s.fd (R.LIN_SCHED k q) 10 7) + 1 ∧ p.getD (clampN 1 8 (s.fd (R.LIN_SCHED k q) 10 7)) 0#8 =
      linSum (linPid (s.fd (R.LIN_SCHED k q) 5 0)) (linClassic (s.rd (R.LIN_SCHED k q))) (p.take (clampN 1 8 (s.fd
      (R.LIN_SCHED k q) 10 7)))) ∧
(∃ (k : Nat) (q : Nat) (h : Nat) (s : State), (s.lin k).entry = some (q, h) ∧ s.bt (R.LIN_SCHED k q) 6 = false ∧ h + 14 *
      (clampN 1 8 (s.fd (R.LIN_SCHED k q) 10 7) + 1) * s.linBit k / 1024 ≤ s.clk.tb) :=
  ⟨⟨0, wr [(R.CAN_IMP_CFG 0 0, 0x80000000#32), (R.CAN_IMP_TMO 0 0, 1#32)], by decide +kernel, by decide +kernel, by
    decide +kernel, by decide +kernel, by decide +kernel, by decide +kernel⟩,
   ⟨0, 5, wcn [(R.CAN_CLAIM_ST 0, 1#32)] { ctls := [{ claimAt := some 5 }] }, by decide +kernel, by decide +kernel, by
    decide +kernel, by decide +kernel⟩,
   ⟨0, 1000000000000, { src := 4, ident := 5, xtd := false, fdf := false, brs := false, data := [], at_ := 0 }, [], wcn
    [(R.CAN_STATUS 0, 1#32)]
    { ctls := [{ tx := [{ src := 4, ident := 5, xtd := false, fdf := false, brs := false, data := [], at_ := 0 }] }] }, by
    decide +kernel, by decide +kernel, by decide +kernel, by decide +kernel⟩,
   ⟨0, wr [(R.CAN_STATUS 0, 4#32)], by decide +kernel, by decide +kernel⟩,
   ⟨0, wr [(R.CAN_STATUS 0, 3#32)], by decide +kernel, by decide +kernel, by decide +kernel, by decide +kernel, by
    decide +kernel⟩,
   ⟨0, wr [(R.CAN_STATUS 0, 4#32)], by decide +kernel, by decide +kernel⟩,
   ⟨.dome, 0, ww, by decide +kernel, by decide +kernel, by decide +kernel⟩,
   ⟨0, { ident := 5, xtd := false, fdf := false, brs := false, esi := false, data := [], sof := 0 }, wr [(R.CAN_STATUS 0, 1#32)],
    by decide +kernel, by decide +kernel, by decide +kernel⟩,
   ⟨.dome, ww, by decide +kernel, by decide +kernel⟩,
   ⟨0, 1, wcn [(R.LIN_CFG 0, 1#32), (R.LIN_SCHED 0 1, 0x80000000#32)] { lins := [{ on := true }] }, by decide +kernel, by
    decide +kernel, by decide +kernel, by decide +kernel, by decide +kernel, by decide +kernel, by decide +kernel, by
    decide +kernel, by decide +kernel, by decide +kernel, by decide +kernel⟩,
   ⟨0, 0, 5, [], wcn [] { lins := [{ entry := some (0, 5) }] }, by decide +kernel, by decide +kernel, by decide +kernel⟩,
   ⟨0, 0, 5, [0#8, linSum (linPid 0) false [0#8]], wcn [] { lins := [{ entry := some (0, 5) }] }, by decide +kernel, by
    decide +kernel, by decide +kernel, by decide +kernel⟩,
   ⟨0, 0, 5, wcn [] { lins := [{ entry := some (0, 5) }] }, by decide +kernel, by decide +kernel, by decide +kernel⟩⟩

theorem witness_CanCommandsComplete :
(∃ (c : Cmd) (k : Nat) (s : State) (u : State), Accepted fCAN 0x10 0 c k s ∧ 8 ≤ c.payload.length ∧ c.payload.length = 8 + u8
      c.payload 2 ∧ u8 c.payload 0 < 16 ∧ nbit (u8 c.payload 1) 0 = false ∧ u8 c.payload 2 ≤ 8 ∧ (s.entered fCAN 0x10 k
      c).canEnqueue (u8 c.payload 0) (u32 c.payload 4 % 536870912) (nbit (u8 c.payload 1) 2) false (nbit (u8 c.payload 1) 1)
      (nbit (u8 c.payload 1) 3) (padTo (dlcBytes (bytesDlc (u8 c.payload 2)) false) (c.payload.drop 8)) = (true, u)) ∧
(∃ (c : Cmd) (k : Nat) (n : Nat) (s : State), Accepted fCAN 0x11 0 c k s ∧ c.payload.length = 2 ∧ u8 c.payload 0 < 16 ∧ 4 ≤ u8
      c.payload 1 ∧ u8 c.payload 1 ≤ 10 ∧ s.freeRing = some n ∧ s.sramFits [u8 c.payload 1] = true) ∧
(∃ (c : Cmd) (k : Nat) (s : State), Accepted fCAN 0x12 1 c k s ∧ c.payload.length = 2) ∧
(∃ (c : Cmd) (k : Nat) (s : State), Accepted fCAN 0x13 1 c k s ∧ c.payload.length = 2) ∧
(∃ (c : Cmd) (k : Nat) (s : State), Accepted fCAN 0x14 0 c k s ∧ c.payload.length = 8 ∧ u8 c.payload 0 < 64 ∧ (List.range
      64).all (fun m => !(s.bt (R.MER_CFG m) 0 && s.fd (R.MER_DEST m) 1 0 == 3 && s.fd (R.MER_DEST m) 8 3 == u8 c.payload 0))
      = true) ∧
(∃ (c : Cmd) (k : Nat) (s : State), Accepted fCAN 0x15 1 c k s ∧ c.payload.length = 1 ∧ u8 c.payload 0 < 4) :=
  ⟨⟨cm (zs 8), 0, ww, ((ww.entered fCAN 0x10 0 (cm (zs 8))).canEnqueue 0 0 false false false false (padTo 0 [])).2, accB_accepted
    (by decide +kernel), by decide +kernel, by decide +kernel, by decide +kernel, by decide +kernel, by decide +kernel,
    Prod.ext rfl rfl⟩,
   ⟨(cm (bs [0, 4])), 0, 48, ww, accB_accepted (by decide +kernel), by decide +kernel, by decide +kernel, by decide +kernel, by
    decide +kernel, by decide +kernel, by decide +kernel⟩,
   ⟨(cm (zs 2)), 0, ww, accB_accepted (by decide +kernel), by decide +kernel⟩,
   ⟨(cm (zs 2)), 0, ww, accB_accepted (by decide +kernel), by decide +kernel⟩,
   ⟨(cm (zs 8)), 0, ww, accB_accepted (by decide +kernel), by decide +kernel, by decide +kernel, by decide +kernel⟩,
   ⟨(cm (zs 1)), 0, ww, accB_accepted (by decide +kernel), by decide +kernel, by decide +kernel⟩⟩

theorem witness_EthernetEventsComplete :
(∃ (k : Nat) (s : State), k < 13 ∧ s.pwr.shed = false ∧ s.pwr.overShed = false) ∧
(∃ (ini : Initiator) (v : Word) (s : State), fld v 3 0 ≤ 12 ∧ s.domainUp .fab = true ∧ (ini = .host → s.expert fETH = true)) ∧
(∃ (k : Nat) (t0 : Nat) (g : Gcl) (s : State), k < 13 ∧ (s.ethPort k).sched = some (t0, g) ∧ t0 ≤ s.clk.tb) ∧
(∃ (k : Nat), k < 13) ∧
(∃ (ini : Initiator) (s : State), s.domainUp .fab = true ∧ (ini = .host → s.expert fETH = true)) ∧
(∃ (s : State), s.domainUp .fab = true) ∧
(∃ (s : State), s.gptp.last = none) ∧
(∃ (gm : Nat) (a : GptpSync) (s : State), s.gptp.last = some a ∧ a.gm = gm ∧ s.gptp.synced = false) ∧
(∃ (a : GptpSync) (s : State), s.gptp.last = some a ∧ s.gptp.synced = true ∧ s.tbPast a.tb (3 * s.syncPeriod) = true) ∧
(∃ (s : State), bit (s.ethF R.ETH_PTP_CFG) 20 = true ∧ s.fd R.ETH_TIME_CFG 1 0 = 1 ∧ s.eth.fwd = true ∧ s.tbPast s.eth.syncAt
      s.syncPeriod = true) ∧
(∃ (a : GptpSync) (b : GptpSync) (s : State), s.fd R.ETH_TIME_CFG 1 0 = 2 ∧ s.tbPast s.gptp.servoAt 50000000 = true ∧
      s.gptp.synced = true ∧ s.gptp.servoRef = some a ∧ s.gptp.last = some b ∧ a.tb < b.tb) ∧
(∃ (s : State), s.domainUp .fab = true) ∧
(∃ (n : Nat) (x : SerRx) (s : State), n < 10 ∧ s.bt (R.ETH_SER_CFG n) 0 = true ∧ x.data ≠ [] ∧ s.bt (R.ETH_SER_STATUS n) 0 =
      false) ∧
(∃ (n : Nat) (t0 : Nat) (s : State), n < 10 ∧ s.eth.serDue.getD n none = some t0 ∧ t0 ≤ s.clk.tb) ∧
(∃ (ma : Nat), 1000 < ma) ∧
(∃ (x : EthRx) (s : State), s.ethTakes x.port = true ∧ x.fcs = false) ∧
(∃ (x : EthRx) (s : State), s.ethTakes x.port = true ∧ x.fcs = true ∧ x.len ≤ ethMax x ∧ ((s.begun.inc (R.ETH_PORT_RX
      x.port)).ethPolice x ((s.begun.inc (R.ETH_PORT_RX x.port)).ethVlan x)).1 = true) ∧
(∃ (x : EthRx) (s : State), s.ethTakes x.port = true ∧ x.fcs = true ∧ ethMax x < x.len) ∧
(∃ (s : State), s.eth.reload.isSome = true) :=
  ⟨⟨0, ww, by decide +kernel, by decide +kernel, by decide +kernel⟩,
   ⟨.dome, 0#32, ww, by decide +kernel, by decide +kernel, by decide +kernel⟩,
   ⟨0, 5, {}, wet [] { ports := [{ sched := some (5, {}) }] }, by decide +kernel, by decide +kernel, by decide +kernel⟩,
   ⟨0, by decide +kernel⟩,
   ⟨.dome, ww, by decide +kernel, by decide +kernel⟩,
   ⟨ww, by decide +kernel⟩,
   ⟨ww, by decide +kernel⟩,
   ⟨0, default, { ww with gptp := { last := some default } }, by decide +kernel, by decide +kernel, by decide +kernel⟩,
   ⟨{ gm := 0, g := 0, tb := 5 }, { ww with gptp := { last := some { gm := 0, g := 0, tb := 5 }, synced := true } }, by
    decide +kernel, by decide +kernel, by decide +kernel⟩,
   ⟨wet [(R.ETH_TIME_CFG, 1#32)] { fwd := true, force := [(R.ETH_PTP_CFG, 0x100000#32)] }, by decide +kernel, by decide +kernel,
    by decide +kernel, by decide +kernel⟩,
   ⟨{ gm := 0, g := 0, tb := 5 }, { gm := 0, g := 0, tb := 6 },
    { wr [(R.ETH_TIME_CFG, 2#32)] with gptp := { last := some { gm := 0, g := 0, tb := 6 }, servoRef := some { gm := 0, g := 0, tb := 5 }, synced := true } },
    by decide +kernel, by decide +kernel, by decide +kernel, by decide +kernel, by decide +kernel, by decide +kernel⟩,
   ⟨ww, by decide +kernel⟩,
   ⟨0, { (default : SerRx) with data := [1#8] }, (wr [(R.ETH_SER_CFG 0, 0x1#32), (R.ETH_SER_STATUS 0, 0x0#32)]), by
    decide +kernel, by decide +kernel, by decide +kernel, by decide +kernel⟩,
   ⟨0, 5, wet [] { serDue := [some 5] }, by decide +kernel, by decide +kernel, by decide +kernel⟩,
   ⟨1001, by decide +kernel⟩,
   ⟨ef false, wet [] { fwd := true, force := [(R.ETH_PORT_CFG 13, 1#32)] }, by decide +kernel, by decide +kernel⟩,
   ⟨ef true, wet [] { fwd := true, force := [(R.ETH_PORT_CFG 13, 1#32)] }, by decide +kernel, by decide +kernel, by
    decide +kernel, by decide +kernel⟩,
   ⟨{ ef true with len := 70000 }, wet [] { fwd := true, force := [(R.ETH_PORT_CFG 13, 1#32)] }, by decide +kernel, by
    decide +kernel, by decide +kernel⟩,
   ⟨wet [] { reload := some 5 }, by decide +kernel⟩⟩

theorem witness_EthernetCommandsComplete :
(∃ (c : Cmd) (k : Nat) (s : State), Accepted fETH 0x10 0 c k s ∧ c.payload = []) ∧
(∃ (c : Cmd) (k : Nat) (s : State), Accepted fETH 0x11 1 c k s ∧ 16 ≤ c.payload.length ∧ u8 c.payload 0 ≤ 12 ∧ 1 ≤ u8
      c.payload 1 ∧ u8 c.payload 1 ≤ 64 ∧ u8 c.payload 2 ≤ 1 ∧ 500 ≤ u32 c.payload 12 ∧ u32 c.payload 12 ≤ 50000000 ∧
      c.payload.length = 16 + 4 * u8 c.payload 1) ∧
(∃ (c : Cmd) (k : Nat) (s : State), Accepted fETH 0x12 1 c k s ∧ c.payload.length = 4 ∧ s.fd R.ETH_TIME_CFG 1 0 = 0) ∧
(∃ (c : Cmd) (k : Nat) (n : Nat) (s : State), Accepted fETH 0x13 0 c k s ∧ c.payload.length = 2 ∧ u8 c.payload 0 ≤ 9 ∧ 4 ≤ u8
      c.payload 1 ∧ u8 c.payload 1 ≤ 10 ∧ s.freeRing = some n ∧ s.sramFits [u8 c.payload 1] = true) ∧
(∃ (c : Cmd) (k : Nat) (s : State), Accepted fETH 0x14 0 c k s ∧ 4 ≤ c.payload.length ∧ u8 c.payload 0 ≤ 9 ∧ 1 ≤ u16 c.payload
      2 ∧ u16 c.payload 2 ≤ 256 ∧ c.payload.length = 4 + u16 c.payload 2 ∧ s.isRunning fETH = true ∧ s.bt (R.ETH_SER_CFG (u8
      c.payload 0)) 0 = true ∧ s.bt (R.ETH_SER_STATUS (u8 c.payload 0)) 0 = false) :=
  ⟨⟨(cm []), 0, ww, accB_accepted (by decide +kernel), by decide +kernel⟩,
   ⟨cm (bs [0, 1, 0, 0, 0, 0, 0, 0, 0, 0, 0, 0, 0xF4, 1, 0, 0, 0, 0, 0, 0]), 0, ww, accB_accepted (by decide +kernel), by
    decide +kernel, by decide +kernel, by decide +kernel, by decide +kernel, by decide +kernel, by decide +kernel, by
    decide +kernel, by decide +kernel⟩,
   ⟨(cm (zs 4)), 0, (wr [(R.ETH_TIME_CFG, 0x0#32)]), accB_accepted (by decide +kernel), by decide +kernel, by decide +kernel⟩,
   ⟨(cm (bs [0, 4])), 0, 48, ww, accB_accepted (by decide +kernel), by decide +kernel, by decide +kernel, by decide +kernel, by
    decide +kernel, by decide +kernel, by decide +kernel⟩,
   ⟨cm (bs [0, 0, 1, 0, 7]), 0, wr [(R.ETH_SER_CFG 0, 1#32)], accB_accepted (by decide +kernel), by decide +kernel, by
    decide +kernel, by decide +kernel, by decide +kernel, by decide +kernel, by decide +kernel, by decide +kernel, by
    decide +kernel⟩⟩

theorem witness_PairComplete :
(∃ (s : State), s.pair.en = true ∧ s.pair.canEn = true ∧ s.pair.canNext ≤ s.clk.tb) ∧
(∃ (l : Nat × Nat) (s : State), s.pair.lease = some l ∧ l.1 ≤ s.clk.tb) ∧
(∃ (s : State), s.pairFree = true) ∧
(∃ (mv : Nat) (since : Nat) (st : Nat) (s : State), aliveAt mv = some st ∧ st ≠ s.fd R.PAIR_STATUS 8 7 ∧ s.tbPast since (tbMs
      1) = true) ∧
(∃ (t0 : Nat) (s : State), s.pair.leftDead = some t0 ∧ t0 + tbMs 20 ≤ s.clk.tb) ∧
(∃ (s : State), s.pair.role = false ∧ s.tbPast (max s.pair.readyAt (s.pair.hold.getD 0)) (tbMs 25) = true) ∧
(∃ (t0 : Nat) (s : State), s.pair.deadAt = some t0 ∧ s.tbPast t0 (tbMs 200) = true) ∧
(∃ (s : State), s.pairLink = true) ∧
(∃ (x : PairCopy) (s : State), s.pair.en = true ∧ s.pair.acting = false ∧ s.pairLink = true ∧ x.ok = true) ∧
(∃ (x : PairCopy) (s : State), s.pair.en = true ∧ s.pair.acting = false ∧ s.pairLink = true ∧ x.ok = false) ∧
(∃ (t0 : Nat) (s : State), s.pair.offAt = some t0 ∧ s.pair.swap = none ∧ s.pair.handover ≠ 0) ∧
(∃ (t0 : Nat) (s : State), s.pair.healthyAt = some t0 ∧ s.pair.en = true ∧ s.pair.role = false ∧ s.bt R.PAIR_STATUS 14 = true
      ∧ s.fd R.PAIR_CFG 15 8 ≠ 0 ∧ s.tbPast t0 (tbMs (1000 * s.fd R.PAIR_CFG 15 8)) = true) ∧
(∃ (c : Cmd) (k : Nat) (l : Nat × Nat) (s : State), Accepted fPAIR 0x10 1 c k s ∧ c.payload = [] ∧ s.pair.acting = true ∧
      s.pair.lease = some l ∧ s.clk.tb < l.1 ∧ s.pairLink = true ∧ s.bt R.PAIR_STATUS 13 = true ∧ s.pair.handover = 0) ∧
(∃ (c : Cmd) (k : Nat) (s : State), Accepted fPAIR 0x11 1 c k s ∧ c.payload.length = 1 ∧ u8 c.payload 0 ≤ 1) :=
  ⟨⟨wpa [] { en := true, canEn := true }, by decide +kernel, by decide +kernel, by decide +kernel⟩,
   ⟨(5, 0), wpa [] { lease := some (5, 0) }, by decide +kernel, by decide +kernel⟩,
   ⟨ww, by decide +kernel⟩,
   ⟨500, 0, 1, wr [(R.PAIR_STATUS, 0#32)], by decide +kernel, by decide +kernel, by decide +kernel⟩,
   ⟨5, wpa [] { leftDead := some 5 }, by decide +kernel, by decide +kernel⟩,
   ⟨ww, by decide +kernel, by decide +kernel⟩,
   ⟨5, wpa [] { deadAt := some 5 }, by decide +kernel, by decide +kernel⟩,
   ⟨wr [(R.PAIR_STATUS, 0x200#32)], by decide +kernel⟩,
   ⟨{ (default : PairCopy) with ok := true }, wpa [(R.PAIR_STATUS, 0x200#32)] { en := true }, by decide +kernel, by
    decide +kernel, by decide +kernel, by decide +kernel⟩,
   ⟨{ (default : PairCopy) with ok := false }, wpa [(R.PAIR_STATUS, 0x200#32)] { en := true }, by decide +kernel, by
    decide +kernel, by decide +kernel, by decide +kernel⟩,
   ⟨5, wpa [] { offAt := some 5, handover := 1 }, by decide +kernel, by decide +kernel, by decide +kernel⟩,
   ⟨5, wpa [(R.PAIR_STATUS, 0x4000#32), (R.PAIR_CFG, 0x100#32)] { en := true, healthyAt := some 5 }, by decide +kernel, by
    decide +kernel, by decide +kernel, by decide +kernel, by decide +kernel, by decide +kernel⟩,
   ⟨(cm []), 0, (1000000000001, 0), wpa [(R.PAIR_STATUS, 0x2200#32)]
    { en := true, acting := true, lease := some (1000000000001, 0) }, accB_accepted (by decide +kernel), by decide +kernel, by
    decide +kernel, by decide +kernel, by decide +kernel, by decide +kernel, by decide +kernel, by decide +kernel⟩,
   ⟨(cm (zs 1)), 0, ww, accB_accepted (by decide +kernel), by decide +kernel, by decide +kernel⟩⟩

theorem witness_FleetComplete :
(∃ (x : FltHs) (s : State), s.isRunning fFLT = true ∧ x.child = true ∧ x.ok = true ∧ s.fltFlag 3 = true ∧ (s.flt.kids.filter
      (fun k => k.unit != x.unit)).length < 16) ∧
(∃ (x : FltHs) (s : State), s.isRunning fFLT = true ∧ x.child = false ∧ x.ok = true ∧ x.level < 4 ∧ (s.flt.st = 1 ∨ s.flt.st =
      3) ∧ s.flt.retryAt = none) ∧
(∃ (x : FltHs) (s : State), s.isRunning fFLT = true ∧ x.child = false ∧ x.ok = false ∧ (s.flt.st = 1 ∨ s.flt.st = 3) ∧
      s.flt.retryAt = none) ∧
(∃ (t0 : Nat) (s : State), s.flt.retryAt = some t0 ∧ s.isRunning fFLT = true ∧ s.tbReached t0 = true) ∧
(∃ (s : State), s.isRunning fFLT = true ∧ s.flt.st = 2 ∧ s.tbPast s.flt.heard (3 * s.fltHop) = true) ∧
(∃ (j : Nat) (s : State), s.isRunning fFLT = true ∧ s.flt.st = 2 ∧ s.tbPast s.flt.heard (3 * s.fltHop) = true ∧ s.fltNextEp
      (s.flt.ep + 1) = some j) ∧
(∃ (s : State), s.isRunning fFLT = true ∧ s.flt.st = 2 ∧ s.tbPast s.flt.keyAt (tbMs 86400000) = true ∧ s.flt.kids = []) ∧
(∃ (k : FltChild) (s : State), s.isRunning fFLT = true ∧ s.flt.st ≠ 2 ∧ s.flt.kids = [k] ∧ s.tbPast k.keyAt (tbMs 86400000) =
      true) ∧
(∃ (s : State), s.isRunning fFLT = true ∧ s.tbPast s.flt.hbAt s.fltHop = true) ∧
(∃ (s : State), s.isRunning fFLT = true ∧ s.tbPast s.flt.hbAt s.fltHop = true ∧ s.pairHeld = false) ∧
(∃ (h : FltHdr) (op : FltOpHdr) (s : State), s.isRunning fFLT = true ∧ s.fltFrom h.peer = true ∧ h.peer = .parent ∧
      s.flt.epoch ≤ h.epoch ∧ s.flt.lastOp < op.num) ∧
(∃ (h : FltHdr), h.peer = .parent) ∧
(∃ (h : FltHdr) (u : Nat), h.peer = .child u) ∧
(∃ (s : State), s.isRunning fFLT = true ∧ s.fltFlag 0 = true ∧ s.tbPast s.flt.covAt (tbMs (1000 * u8 s.fltCfg 6)) = true ∧
      s.flt.st ≠ 2) ∧
(∃ (s : State), s.isRunning fFLT = true ∧ s.fltFlag 0 = true ∧ s.tbPast s.flt.covAt (tbMs (1000 * u8 s.fltCfg 6)) = true ∧
      s.flt.st = 2 ∧ s.pairHeld = false ∧ s.ypl.field.isSome = true ∧ s.flt.covSent.1 = s.fltCovered.1) ∧
(∃ (h : FltHdr), h.peer ≠ .parent) ∧
(∃ (h : FltHdr), h.peer = .parent) ∧
(∃ (h : FltHdr), h.peer ≠ .parent) ∧
(∃ (h : FltHdr), h.peer = .parent) ∧
(∃ (s : State), s.isRunning fFLT = true ∧ s.fltFlag 2 = true ∧ s.tbPast s.flt.rdvAt (tbMs (100 * u16 s.fltCfg 8)) = true ∧ u8
      s.fltCfg 3 = 0) ∧
(∃ (s : State), s.isRunning fFLT = true ∧ s.fltFlag 2 = true ∧ s.tbPast s.flt.rdvAt (tbMs (100 * u16 s.fltCfg 8)) = true ∧ u8
      s.fltCfg 3 ≠ 0) ∧
(∃ (c : Cmd) (k : Nat) (s : State), Accepted fFLT 0x10 2 c k s ∧ 1 ≤ c.payload.length ∧ c.payload.length ≤ 1024) ∧
(∃ (c : Cmd) (k : Nat) (s : State), Accepted fFLT 0x11 0 c k s ∧ c.payload.length = 4 ∧ s.flt.ops.any (fun o => o.kind == 1 &&
      o.tag == u32 c.payload 0) = true) ∧
(∃ (c : Cmd) (k : Nat) (n : Nat) (s : State), Accepted fFLT 0x12 0 c k s ∧ c.payload.length = 1 ∧ 4 ≤ u8 c.payload 0 ∧ u8
      c.payload 0 ≤ 10 ∧ s.freeRing = some n ∧ s.sramFits [u8 c.payload 0] = true) ∧
(∃ (c : Cmd) (k : Nat) (f : YplField) (s : State), Accepted fFLT 0x13 0 c k s ∧ c.payload.length = 4 ∧ s.yplFind (u32
      c.payload 0) = some f ∧ s.ypl.field = none ∧ s.fltAttached = false) ∧
(∃ (c : Cmd) (k : Nat) (f : YplField) (s : State), Accepted fFLT 0x13 0 c k s ∧ c.payload.length = 4 ∧ s.yplFind (u32
      c.payload 0) = some f ∧ (s.ypl.field.map (fun g => g.id)) ≠ some (u32 c.payload 0) ∧ s.fltAttached = true) ∧
(∃ (c : Cmd) (k : Nat) (s : State), Accepted fFLT 0x14 0 c k s ∧ c.payload = [] ∧ s.fltAttached = false) ∧
(∃ (c : Cmd) (k : Nat) (s : State), Accepted fFLT 0x14 0 c k s ∧ c.payload = [] ∧ s.fltAttached = true) :=
  ⟨⟨{ child := true, ok := true, level := 0, unit := 7, ip := 1, port := 2 }, wfc (bs [0, 0, 8]) {}, by decide +kernel, by
    decide +kernel, by decide +kernel, by decide +kernel, by decide +kernel⟩,
   ⟨{ child := false, ok := true, level := 0, unit := 7, ip := 1, port := 2 }, wfc (bs [0, 0, 8]) { st := 1 }, by decide +kernel,
    by decide +kernel, by decide +kernel, by decide +kernel, by decide +kernel, by decide +kernel⟩,
   ⟨{ child := false, ok := false, level := 0, unit := 7, ip := 1, port := 2 }, wfc (bs [0, 0, 8]) { st := 1 }, by
    decide +kernel, by decide +kernel, by decide +kernel, by decide +kernel, by decide +kernel⟩,
   ⟨5, wfl [] { retryAt := some 5 }, by decide +kernel, by decide +kernel, by decide +kernel⟩,
   ⟨wfl [] { st := 2 }, by decide +kernel, by decide +kernel, by decide +kernel⟩,
   ⟨0, wfc (zs 16 ++ bs [1]) { st := 2 }, by decide +kernel, by decide +kernel, by decide +kernel, by decide +kernel⟩,
   ⟨{ wfl [] { st := 2 } with clk := { ww.clk with tb := 9000000000000 } }, by decide +kernel, by decide +kernel, by
    decide +kernel, by decide +kernel⟩,
   ⟨{ unit := 1, ip := 1, port := 1, keyAt := 0 },
    { wfl [] { st := 1, kids := [{ unit := 1, ip := 1, port := 1, keyAt := 0 }] } with clk := { ww.clk with tb := 9000000000000 } },
    by decide +kernel, by decide +kernel, by decide +kernel, by decide +kernel⟩,
   ⟨ww, by decide +kernel, by decide +kernel⟩,
   ⟨ww, by decide +kernel, by decide +kernel, by decide +kernel⟩,
   ⟨{ peer := .parent, unit := 1, epoch := 0 }, { num := 1, t0 := 0, depth := 1 }, wfl [] { st := 2 }, by decide +kernel, by
    decide +kernel, by decide +kernel, by decide +kernel, by decide +kernel⟩,
   ⟨{ peer := .parent, unit := 1, epoch := 0 }, by decide +kernel⟩,
   ⟨{ peer := .child 3, unit := 1, epoch := 0 }, 3, by decide +kernel⟩,
   ⟨wfc (bs [0, 0, 1]) {}, by decide +kernel, by decide +kernel, by decide +kernel, by decide +kernel⟩,
   ⟨{ wfc (bs [0, 0, 1]) { st := 2 } with ypl := { field := some (yf 0) } }, by decide +kernel, by decide +kernel, by
    decide +kernel, by decide +kernel, by decide +kernel, by decide +kernel, by decide +kernel⟩,
   ⟨{ peer := .child 3, unit := 1, epoch := 0 }, by decide +kernel⟩,
   ⟨{ peer := .parent, unit := 1, epoch := 0 }, by decide +kernel⟩,
   ⟨{ peer := .child 3, unit := 1, epoch := 0 }, by decide +kernel⟩,
   ⟨{ peer := .parent, unit := 1, epoch := 0 }, by decide +kernel⟩,
   ⟨wfc (bs [0, 0, 4]) {}, by decide +kernel, by decide +kernel, by decide +kernel, by decide +kernel⟩,
   ⟨wfc (bs [0, 0, 4, 1]) {}, by decide +kernel, by decide +kernel, by decide +kernel, by decide +kernel⟩,
   ⟨cm (zs 1), 0, ww, accB_accepted (by decide +kernel), by decide +kernel, by decide +kernel⟩,
   ⟨(cm (zs 4)), 0, wfl [] { ops := [{ kind := 1, num := 1, epoch := 0 }] }, accB_accepted (by decide +kernel), by
    decide +kernel, by decide +kernel⟩,
   ⟨(cm (bs [4])), 0, 48, ww, accB_accepted (by decide +kernel), by decide +kernel, by decide +kernel, by decide +kernel, by
    decide +kernel, by decide +kernel⟩,
   ⟨(cm (zs 4)), 0, yf 0, wyp [] { stored := [yf 0] }, accB_accepted (by decide +kernel), by decide +kernel, by decide +kernel,
    by decide +kernel, by decide +kernel⟩,
   ⟨(cm (zs 4)), 0, yf 0, { wyp [] { stored := [yf 0] } with flt := { st := 2 } }, accB_accepted (by decide +kernel), by
    decide +kernel, by decide +kernel, by decide +kernel, by decide +kernel⟩,
   ⟨(cm []), 0, ww, accB_accepted (by decide +kernel), by decide +kernel, by decide +kernel⟩,
   ⟨(cm []), 0, wfl [] { st := 2 }, accB_accepted (by decide +kernel), by decide +kernel, by decide +kernel⟩⟩

theorem witness_RecorderComplete :
(∃ (s : State), s.tbPast s.almanac.tokenAt (tbMs 100) = true ∧ (s.almanac.alarms = [] ∨ s.pairHeld = true)) ∧
(∃ (e : Nat × Nat × List Byte) (s : State), s.tbPast s.almanac.tokenAt (tbMs 100) = true ∧ s.pairHeld = false ∧
      s.almanac.alarms[alarmFirst s.almanac.alarms]? = some e) ∧
(∃ (s : State), s.tbPast s.almanac.sumAt (tbMs 10000) = true) ∧
(∃ (i : Nat) (r : Record) (s : State), s.almanac.staging.findIdx? (fun r => r.snapTodo) = some i ∧ s.almanac.staging[i]? =
      some r) ∧
(∃ (s : State), s.almanac.isOpen = true ∧ s.tbPast s.almanac.openSince (tbMs 60000) = true) ∧
(∃ (s : State), s.almanac.programming = true ∧ s.recReady = true) ∧
(∃ (s : State), s.pwr.holdup = false) ∧
(∃ (k : Nat) (t0 : Nat) (s : State), (s.ses k).freezeAt = some t0 ∧ s.tbPast t0 (50000000 * s.fd R.REC_CFG 13 4) = true) ∧
(∃ (c : Cmd) (k : Nat) (n : Nat) (s : State), Accepted fREC 0x10 0 c k s ∧ c.payload.length = 10 ∧ 4 ≤ u8 c.payload 8 ∧ u8
      c.payload 8 ≤ 10 ∧ s.freeRing = some n ∧ s.sramFits [u8 c.payload 8] = true) ∧
(∃ (c : Cmd) (k : Nat) (s : State), Accepted fREC 0x11 1 c k s ∧ c.payload.length = 1 ∧ u8 c.payload 0 ≤ 1) ∧
(∃ (c : Cmd) (k : Nat) (s : State), Accepted fREC 0x12 1 c k s ∧ c.payload = [] ∧ s.recFrozen = false) ∧
(∃ (c : Cmd) (k : Nat) (s : State), Accepted fREC 0x13 0 c k s ∧ 4 + 4 * u8 c.payload 3 ≤ c.payload.length ∧ c.payload.length
      ≤ 36 ∧ u16 c.payload 0 ≠ 0 ∧ u8 c.payload 2 ≤ 2 ∧ u8 c.payload 3 ≤ 8 ∧ s.almanac.fifo.length < 64) ∧
(∃ (c : Cmd) (k : Nat) (s : State), Accepted fREC 0x14 2 c k s ∧ 4 + 4 * u8 c.payload 1 ≤ c.payload.length ∧ c.payload.length
      ≤ 36 ∧ u8 c.payload 1 ≤ 8 ∧ ((List.range (u8 c.payload 1)).map (fun i => w32 c.payload (4 + 4 * i))).all recAddrOk =
      true) ∧
(∃ (c : Cmd) (k : Nat) (s : State), Accepted fREC 0x15 0 c k s ∧ c.payload.length = 1) ∧
(∃ (c : Cmd) (k : Nat) (s : State), Accepted fREC 0x16 0 c k s ∧ c.payload.length = 1 ∧ u8 c.payload 0 < 24) :=
  ⟨⟨ww, by decide +kernel, by decide +kernel⟩,
   ⟨(0, 0, []), { ww with almanac := { alarms := [(0, 0, [])] } }, by decide +kernel, by decide +kernel, by decide +kernel⟩,
   ⟨ww, by decide +kernel⟩,
   ⟨0, rc, { ww with almanac := { staging := [rc] } }, by decide +kernel, by decide +kernel⟩,
   ⟨{ ww with almanac := { isOpen := true } }, by decide +kernel, by decide +kernel⟩,
   ⟨{ ww with almanac := { staging := [{ rc with snapTodo := false, sev := 3 }], programming := true } }, by decide +kernel, by
    decide +kernel⟩,
   ⟨ww, by decide +kernel⟩,
   ⟨0, 5, wses { freezeAt := some 5 }, by decide +kernel, by decide +kernel⟩,
   ⟨(cm (bs [0, 0, 0, 0, 0, 0, 0, 0, 4] ++ zs 1)), 0, 48, ww, accB_accepted (by decide +kernel), by decide +kernel, by
    decide +kernel, by decide +kernel, by decide +kernel, by decide +kernel⟩,
   ⟨(cm (zs 1)), 0, ww, accB_accepted (by decide +kernel), by decide +kernel, by decide +kernel⟩,
   ⟨(cm []), 0, ww, accB_accepted (by decide +kernel), by decide +kernel, by decide +kernel⟩,
   ⟨cm (bs [1, 0, 0, 0]), 0, ww, accB_accepted (by decide +kernel), by decide +kernel, by decide +kernel, by decide +kernel, by
    decide +kernel, by decide +kernel, by decide +kernel⟩,
   ⟨(cm (zs 4)), 0, ww, accB_accepted (by decide +kernel), by decide +kernel, by decide +kernel, by decide +kernel, by
    decide +kernel⟩,
   ⟨(cm (zs 1)), 0, ww, accB_accepted (by decide +kernel), by decide +kernel⟩,
   ⟨(cm (zs 1)), 0, ww, accB_accepted (by decide +kernel), by decide +kernel, by decide +kernel⟩⟩

theorem witness_PanelComplete :
(∃ (ini : Initiator) (s : State), s.domainUp .fab = true ∧ (ini = .host → s.expert fPNL = true)) ∧
(∃ (s : State), s.pnl.want = true ∧ s.pnl.urgent = true ∧ s.expert fPNL = false ∧ s.pnlMay = true) ∧
(∃ (r : PnlRun) (l : Nat) (rest : List Nat) (s : State), s.pnl.run = some r ∧ r.lines = l :: rest ∧ r.white = false) ∧
(∃ (s : State), s.pnl.blinkOn = true ∧ (List.range 4).any (fun q => bit (s.pnlRect q).1 31) = true ∧ s.bt R.PNL_CTRL 0 = true
      ∧ s.pnlState ≠ 4 ∧ s.tbPast s.pnl.crackAt 3000000000 = true) ∧
(∃ (q : Nat) (s : State), s.pnl.blinkOn = true ∧ bit (s.pnlRect q).1 31 = true ∧ s.pnlGoOn = true ∧ s.pnlState ≠ 4 ∧ s.pnl.run
      = none ∧ s.pnl.wait = none ∧ s.pnl.togs = [] ∧ q < s.pnl.phase.length ∧ s.tbPast (s.pnl.phase.getD q (true, 0)).2
      (100000000 / max 1 (fld (s.pnlRect q).1 19 16)) = true) ∧
(∃ (ini : Initiator) (s : State), s.domainUp .fab = true ∧ (ini = .host → s.expert fPNL = true)) ∧
(∃ (s : State), s.domainUp .fab = true) ∧
(∃ (c : Cmd) (k : Nat) (s : State), Accepted fPNL 0x10 0 c k s ∧ 4 + u8 c.payload 3 ≤ c.payload.length ∧ c.payload.length ≤ 48
      ∧ 14 ≤ u8 c.payload 0 ∧ u8 c.payload 0 ≤ 21 ∧ 1 ≤ u8 c.payload 3 ∧ u8 c.payload 3 ≤ 44 ∧ u8 c.payload 1 + u8 c.payload 3
      ≤ 50) ∧
(∃ (c : Cmd) (k : Nat) (s : State), Accepted fPNL 0x11 0 c k s ∧ 168 ≤ u16 c.payload 0 ∧ u16 c.payload 0 + u16 c.payload 2 ≤
      264 ∧ c.payload.length = 8 + 50 * u16 c.payload 2) ∧
(∃ (c : Cmd) (k : Nat) (t : State) (s : State), Accepted fPNL 0x12 0 c k s ∧ c.payload.length = 9 ∧ u8 c.payload 0 ≤ 3 ∧ u8
      c.payload 1 ≤ 1 ∧ u8 c.payload 2 ≤ 49 ∧ u8 c.payload 3 ≤ 49 ∧ u16 c.payload 4 ≤ 299 ∧ u16 c.payload 6 ≤ 299 ∧ u8
      c.payload 8 ≤ 8 ∧ (s.entered fPNL 0x12 k c).pnlSetRect (u8 c.payload 0) (word (u8 c.payload 2 % 64 + 256 * (u8 c.payload
      3 % 64) + 65536 * (u8 c.payload 8 % 16) + 2147483648 * (u8 c.payload 1 % 2)), word (u16 c.payload 4 % 512 + 65536 * (u16
      c.payload 6 % 512))) = some t) ∧
(∃ (c : Cmd) (k : Nat) (s : State), Accepted fPNL 0x13 0 c k s ∧ c.payload.length = 1 ∧ s.pnlState ≠ 4 ∧ s.bt R.PNL_CTRL 0 =
      true ∧ s.pnlMay = true ∧ s.pnl.togs ≠ []) ∧
(∃ (c : Cmd) (k : Nat) (loop : Nat) (n : Nat) (s : State) (t : State), Accepted fPNL 0x13 0 c k s ∧ c.payload.length = 1 ∧
      s.pnlState ≠ 4 ∧ s.bt R.PNL_CTRL 0 = true ∧ s.pnlMay = true ∧ s.pnl.togs = [] ∧ n ≠ 0 ∧ (s.entered fPNL 0x13 k
      c).pnlBegin (nbit (u8 c.payload 0) 0) loop = (true, n, t)) ∧
(∃ (c : Cmd) (k : Nat) (loop : Nat) (s : State) (t : State), Accepted fPNL 0x13 0 c k s ∧ c.payload.length = 1 ∧ s.pnlState ≠
      4 ∧ s.bt R.PNL_CTRL 0 = true ∧ s.pnlMay = true ∧ s.pnl.togs = [] ∧ (s.entered fPNL 0x13 k c).pnlBegin (nbit (u8
      c.payload 0) 0) loop = (true, 0, t)) :=
  ⟨⟨.dome, ww, by decide +kernel, by decide +kernel⟩,
   ⟨{ wr [(R.PNL_CTRL, 1#32)] with pnl := { want := true, urgent := true } }, by decide +kernel, by decide +kernel, by
    decide +kernel, by decide +kernel⟩,
   ⟨{ full := true, white := false, lines := [0], total := 1 }, 0, [],
    { ww with pnl := { run := some { full := true, white := false, lines := [0], total := 1 } } }, by decide +kernel, by
    decide +kernel, by decide +kernel⟩,
   ⟨{ wr [(R.PNL_CTRL, 1#32), (R.PNL_BLINK_X 0, 0x80000000#32)] with pnl := { blinkOn := true } }, by decide +kernel, by
    decide +kernel, by decide +kernel, by decide +kernel, by decide +kernel⟩,
   ⟨0, { wr [(R.PNL_CTRL, 1#32), (R.PNL_BLINK_X 0, 0x80000000#32)] with pnl := { blinkOn := true } }, by decide +kernel, by
    decide +kernel, by decide +kernel, by decide +kernel, by decide +kernel, by decide +kernel, by decide +kernel, by
    decide +kernel, by decide +kernel⟩,
   ⟨.dome, ww, by decide +kernel, by decide +kernel⟩,
   ⟨ww, by decide +kernel⟩,
   ⟨cm (bs [14, 0, 0, 1, 65]), 0, ww, accB_accepted (by decide +kernel), by decide +kernel, by decide +kernel, by decide +kernel,
    by decide +kernel, by decide +kernel, by decide +kernel, by decide +kernel⟩,
   ⟨cm (bs [168, 0, 0, 0, 1, 0, 0, 0]), 0, ww, accB_accepted (by decide +kernel), by decide +kernel, by decide +kernel, by
    decide +kernel⟩,
   ⟨(cm (zs 9)), 0, ((ww.entered fPNL 0x12 0 (cm (zs 9))).pnlSetRect 0 (0#32, 0#32)).getD ww, ww, accB_accepted (by
    decide +kernel), by decide +kernel, by decide +kernel, by decide +kernel, by decide +kernel, by decide +kernel, by
    decide +kernel, by decide +kernel, by decide +kernel, rfl⟩,
   ⟨(cm (zs 1)), 0, { wr [(R.PNL_CTRL, 1#32)] with pnl := { togs := [{ rect := 0, toB := true, lines := [1] }] } }, accB_accepted
    (by decide +kernel), by decide +kernel, by decide +kernel, by decide +kernel, by decide +kernel, by decide +kernel⟩,
   ⟨(cm (bs [1])), 0, 0, 600, wr [(R.PNL_CTRL, 1#32)], (((wr [(R.PNL_CTRL, 1#32)]).entered fPNL 0x13 0 (cm (bs [1]))).pnlBegin
    (nbit (u8 (cm (bs [1])).payload 0) 0) 0).2.2, accB_accepted (by decide +kernel), by decide +kernel, by decide +kernel, by
    decide +kernel, by decide +kernel, by decide +kernel, by decide +kernel, Prod.ext (by decide +kernel) (Prod.ext (by
    decide +kernel) rfl)⟩,
   ⟨(cm (zs 1)), 0, 0, wr [(R.PNL_CTRL, 1#32)], (((wr [(R.PNL_CTRL, 1#32)]).entered fPNL 0x13 0 (cm (zs 1))).pnlBegin (nbit (u8
    (cm (zs 1)).payload 0) 0) 0).2.2, accB_accepted (by decide +kernel), by decide +kernel, by decide +kernel, by
    decide +kernel, by decide +kernel, by decide +kernel, Prod.ext (by decide +kernel) (Prod.ext (by decide +kernel) rfl)⟩⟩

theorem witness_ParameterCommandsComplete :
(∃ (t0 : Nat) (s : State), s.prm.compactAt = some t0) ∧
(∃ (c : Cmd) (k : Nat) (n : Nat) (s : State), Accepted fPRM 0x10 1 c k s ∧ c.payload.length = 1 ∧ 4 ≤ u8 c.payload 0 ∧ u8
      c.payload 0 ≤ 10 ∧ s.freeRing = some n ∧ s.sramFits [u8 c.payload 0] = true) ∧
(∃ (c : Cmd) (k : Nat) (s : State), Accepted fPRM 0x11 2 c k s ∧ c.payload.length = 12360 ∧ s.prm.importing = false ∧ (s.dome
      = 2 ∨ s.dome = 4) ∧ s.saf.st = 1 ∧ leNat (slice c.payload 12288 8) = Config.serial.toNat) ∧
(∃ (c : Cmd) (k : Nat) (x : PrmStore) (s : State), Accepted fPRM 0x14 2 c k s ∧ c.payload.length = 12 ∧ s.prm.importing =
      false ∧ s.prm.store.setSystem (u8 c.payload 0) (u32 c.payload 4) (u32 c.payload 8) = some x) ∧
(∃ (c : Cmd) (k : Nat) (n : Nat) (s : State), Accepted fPRM 0x12 1 c k s ∧ c.payload.length = 1 ∧ 4 ≤ u8 c.payload 0 ∧ u8
      c.payload 0 ≤ 10 ∧ s.freeRing = some n ∧ s.sramFits [u8 c.payload 0] = true) ∧
(∃ (c : Cmd) (k : Nat) (l : List PrmSect) (s : State), Accepted fPRM 0x13 2 c k s ∧ s.prm.importing = false ∧ (s.dome = 2 ∨
      s.dome = 4) ∧ prmOpen c.payload = some l ∧ u16 c.payload 18 ≤ Config.fffLevel ∧ (∀ e ∈ l, s.prmSectOk e = true)) :=
  ⟨⟨5, { ww with prm := { compactAt := some 5 } }, by decide +kernel⟩,
   ⟨(cm (bs [4])), 0, 48, ww, accB_accepted (by decide +kernel), by decide +kernel, by decide +kernel, by decide +kernel, by
    decide +kernel, by decide +kernel⟩,
   ⟨cm calPay, 0, wsf { st := 1 }, accB_accepted (by decide +kernel), by decide +kernel, by decide +kernel, by decide +kernel, by
    decide +kernel, calPay_serial⟩,
   ⟨(cm (zs 12)), 0, (({} : PrmStore).setSystem 0 0 0).getD {}, ww, accB_accepted (by decide +kernel), by decide +kernel, by
    decide +kernel, rfl⟩,
   ⟨(cm (bs [4])), 0, 48, ww, accB_accepted (by decide +kernel), by decide +kernel, by decide +kernel, by decide +kernel, by
    decide +kernel, by decide +kernel⟩,
   ⟨cm cfgPay, 0, [], ww, accB_accepted (by decide +kernel), by decide +kernel, by decide +kernel, by decide +kernel, by
    decide +kernel, by decide +kernel⟩⟩

theorem witness_UpdateCommandsComplete :
(∃ (c : Cmd) (k : Nat) (s : State), Accepted fUPD 0x10 2 c k s ∧ c.payload.length = 76 ∧ 0 < u32 c.payload 0 ∧ u32 c.payload 0
      ≤ 6291456 ∧ s.updSafe = true ∧ s.prm.store.svn ≤ u16 c.payload 10 ∧ (s.dome = 2 ∨ s.dome = 3 ∨ s.dome = 4)) ∧
(∃ (c : Cmd) (k : Nat) (fails : Nat) (s : State), Accepted fUPD 0x11 2 c k s ∧ c.payload.length = 12 + u16 c.payload 4 ∧
      s.upd.owner = some k ∧ s.upd.phase = 1 ∧ s.updSafe = true ∧ u32 c.payload 0 = s.upd.next ∧ 4 ≤ u16 c.payload 4 ∧ u16
      c.payload 4 ≤ 4096 ∧ u16 c.payload 4 % 4 = 0 ∧ s.upd.next + u16 c.payload 4 ≤ s.upd.size ∧ w32 c.payload 8 = crc32c
      (c.payload.drop 12) ∧ fails < 2) ∧
(∃ (c : Cmd) (k : Nat) (x : UpdImage) (s : State), Accepted fUPD 0x12 2 c k s ∧ c.payload = [] ∧ s.upd.phase = 1 ∧ s.upd.owner
      = some k ∧ s.upd.next = s.upd.size ∧ s.upd.stored = some x) ∧
(∃ (c : Cmd) (k : Nat) (s : State), Accepted fUPD 0x13 2 c k s ∧ c.payload = [] ∧ s.upd.phase = 2) ∧
(∃ (c : Cmd) (k : Nat) (s : State), Accepted fUPD 0x14 2 c k s ∧ c.payload = [] ∧ s.upd.phase = 1 ∧ s.upd.begun = false ∧
      s.upd.owner = some k ∧ s.dome ≠ 5) ∧
(∃ (c : Cmd) (k : Nat) (s : State), Accepted fUPD 0x14 2 c k s ∧ c.payload = [] ∧ s.upd.phase = 1 ∧ s.upd.begun = false ∧
      s.upd.owner = some k ∧ s.dome = 5) ∧
(∃ (s : State), s.dome = 5 ∧ s.pwr.keyOff = .delay ∧ s.tbPast s.upd.lastCmd (tbMs 300000) = true) :=
  ⟨⟨(cm (bs [1] ++ zs 75)), 0, { wsf { sf parBody with st := 1 } with prm := { store := { svn := 0 } } }, accB_accepted (by
    decide +kernel), by decide +kernel, by decide +kernel, by decide +kernel, by decide +kernel, by decide +kernel, by
    decide +kernel⟩,
   ⟨cm (bs [0, 0, 0, 0, 4, 0, 0, 0] ++ leBytes 4 (crc32c (zs 4)).toNat ++ zs 4), 0, 0,
    { wsf { sf parBody with st := 1 } with upd := { owner := some 0, phase := 1, size := 4 } }, accB_accepted (by
    decide +kernel), by decide +kernel, by decide +kernel, by decide +kernel, by decide +kernel, by decide +kernel, by
    decide +kernel, by decide +kernel, by decide +kernel, by decide +kernel, by decide +kernel, by decide +kernel⟩,
   ⟨(cm []), 0, { data := [], key := 2, sig := [] },
    { ww with upd := { owner := some 0, phase := 1, stored := some { data := [], key := 2, sig := [] } } }, accB_accepted (by
    decide +kernel), by decide +kernel, by decide +kernel, by decide +kernel, by decide +kernel, by decide +kernel⟩,
   ⟨(cm []), 0, { ww with upd := { phase := 2 } }, accB_accepted (by decide +kernel), by decide +kernel, by decide +kernel⟩,
   ⟨(cm []), 0, { ww with upd := { owner := some 0, phase := 1 } }, accB_accepted (by decide +kernel), by decide +kernel, by
    decide +kernel, by decide +kernel, by decide +kernel, by decide +kernel⟩,
   ⟨(cm []), 0, { wr [(R.MBX_DOME_STATE, 5#32)] with upd := { owner := some 0, phase := 1 } }, accB_accepted (by decide +kernel),
    by decide +kernel, by decide +kernel, by decide +kernel, by decide +kernel, by decide +kernel⟩,
   ⟨{ wr [(R.MBX_DOME_STATE, 5#32)] with pwr := { coreOn := true, keyOff := .delay } }, by decide +kernel, by decide +kernel, by
    decide +kernel⟩⟩


/-- The block, and the row, of the register an address decodes to. -/
def atB (a : Nat) : Block :=
  match decodeAddr a with
  | .reg b _ _ => b
  | _ => { base := 0, span := 0, d := 0, domain := .fab, fn := none, rows := [], pages := [] }
def atR (a : Nat) : RegRow :=
  match decodeAddr a with
  | .reg _ _ r => r
  | _ => { off := 0, stride := 0, count := 0, ty := .ro, reset := 0, mask := 0, ret := .d }

theorem witness_HostSignalWrites :
    (∃ (n : Nat) (s : State), n < 512 ∧ s.domainUp .fab = true) ∧
    (∃ (k : Nat) (s : State), 0x1E0 ≤ k ∧ k < 0x200 ∧ s.domainUp .fab = true) :=
  ⟨⟨0x1BF, ww, by decide, by decide +kernel⟩, 0x1FF, ww, by decide, by decide, by decide +kernel⟩

theorem ww_clk : ww.clk.Ok := ⟨by decide, by decide, by decide, by decide, by decide⟩

theorem witness_TimebaseNeverRunsBack :
    (∃ (i : Instr) (s t : State), exec i s = .next t) ∧
    (∃ s : State, s.clk.Ok ∧ s.clk.running = true ∧ s.clk.lost = false) ∧
    (∃ r : Regs, fld (r.get R.SYS_CLK_CFG) 1 0 = 0) ∧ (∃ r : Regs, fld (r.get R.SYS_CLK_CFG) 1 0 = 1) ∧
    (∃ r : Regs, fld (r.get R.SYS_CLK_CFG) 1 0 = 2) ∧
    (∃ (s t : State), s.clk.Ok ∧ exec .powerOnReset s = .next t) :=
  ⟨⟨.tbNowLoRead .host, ww, _, rfl⟩, ⟨ww, ww_clk, rfl, rfl⟩, ⟨(wr [(R.SYS_CLK_CFG, 0#32)]).regs, by decide +kernel⟩,
    ⟨(wr [(R.SYS_CLK_CFG, 1#32)]).regs, by decide +kernel⟩, ⟨(wr [(R.SYS_CLK_CFG, 2#32)]).regs, by decide +kernel⟩,
    ww, _, ww_clk, rfl⟩

theorem witness_TimebaseLatches : ∃ (ini o : Initiator) (s : State), o ≠ ini ∧ s.domainUp .fab = true :=
  ⟨.host, .dome, ww, by decide, by decide +kernel⟩

theorem witness_BitAliasAddresses :
    (∃ (ini : Initiator) (o b : Nat) (w : Word) (s : State), o < 0x100000 ∧ o % 4 = 0 ∧ b < 32 ∧
      s.busRead ini (0xE0000000 + o) = some w) ∧
    (∃ (ini : Initiator) (o b : Nat) (s : State), o < 0x100000 ∧ o % 4 = 0 ∧ b < 32 ∧ s.busRead ini (0xE0000000 + o) = none) ∧
    (∃ a : Nat, a < 0xE2000000 ∨ 0xE3FFFFFF < a ∨ a % 4 ≠ 0) :=
  ⟨⟨.host, R.PWR_STATE - 0xE0000000, 31, (ww.busRead .host R.PWR_STATE).getD 0#32, ww, by decide, by decide, by decide,
      by decide +kernel⟩,
    ⟨.dome, 0xFFFFC, 0, ww, by decide, by decide, by decide, by decide +kernel⟩, 0xE4000000, by decide⟩

theorem witness_ReservedFunctions :
    ∃ (f : Nat) (c : Cmd) (k : Nat) (s : State), 0x18 ≤ f ∧ f < 0x100 ∧ 2 ≤ s.dome ∧
      (∀ b, b < 256 → s.turn (256 * f + b) c = true) ∧ s.sessionOf c = some k ∧ (∀ e ∈ (s.ses k).kept, e.seq ≠ c.seq) ∧ (s.ses k).isOpen = true :=
  ⟨0xFF, cm [], 0, ww, by decide, by decide, by decide +kernel, by decide +kernel, by decide +kernel, by decide +kernel, by decide +kernel⟩

theorem witness_ClassCBusy :
    ∃ (f : Nat) (c : Cmd) (k : Nat) (s : State), f < 0x18 ∧ f ≠ 0 ∧ f ≠ 1 ∧ 2 ≤ s.dome ∧ s.dome ≤ 3 ∧
      (∀ b, b < 256 → s.turn (256 * f + b) c = true) ∧ s.sessionOf c = some k ∧ (∀ e ∈ (s.ses k).kept, e.seq ≠ c.seq) ∧ (s.ses k).isOpen = true ∧ s.busy f = true ∧ (s.fn f).state ≠ .unused ∧
      s.pairHeld = false ∧ (s.fn f).owner = none ∧ 2 ≤ (s.ses k).role ∧ c.payload = [] :=
  ⟨23, cm [], 0, { ww with mbx := { ww.mbx with running := [rn 23 0x1711 []] } }, by decide, by decide, by decide,
    by decide +kernel, by decide +kernel, by decide +kernel, by decide +kernel, by decide +kernel, by decide +kernel,
    by decide +kernel, by decide +kernel, by decide +kernel, by decide +kernel, by decide +kernel, rfl⟩

theorem witness_UpdateAbort :
    (∃ (c : Cmd) (k : Nat) (s : State), Accepted fUPD 0x14 2 c k s ∧ c.payload = [] ∧ s.upd.phase = 1 ∧ s.upd.begun = false ∧
      s.upd.owner = some k ∧ s.dome = 5) ∧
    (∃ (c : Cmd) (k : Nat) (s : State), Accepted fUPD 0x14 2 c k s ∧ c.payload = [] ∧ s.upd.begun = true) :=
  ⟨⟨cm [], 0, { wr [(R.MBX_DOME_STATE, 5#32)] with upd := { owner := some 0, phase := 1 } }, accB_accepted (by decide +kernel), rfl, rfl,
      rfl, rfl, by decide +kernel⟩,
    cm [], 0, { wr [(R.MBX_DOME_STATE, 5#32)] with upd := { owner := some 0, phase := 1, begun := true } },
      accB_accepted (by decide +kernel), rfl, rfl⟩

theorem witness_HoldupDefersResets :
    (∃ s : State, s.pwr.holdup = true) ∧
    (∃ (f r d : Nat) (s : State), s.pwr.fellAt = some f ∧ s.pwr.confAt = some r ∧ s.pwr.holdup = true ∧ s.pwr.vbatOk = true ∧
      r + fabMs 1 ≤ s.clk.now ∧ holdupGood f r = true ∧ s.pwr.coreOn = true ∧ s.clk.running = true ∧ s.pwr.cycleDue = none ∧
      s.pwr.resetDue = some d ∧ d ≤ s.clk.now) ∧
    (∃ (f r d : Nat) (s : State), s.pwr.fellAt = some f ∧ s.pwr.confAt = some r ∧ s.pwr.holdup = true ∧ s.pwr.vbatOk = true ∧
      r + fabMs 1 ≤ s.clk.now ∧ holdupGood f r = true ∧ s.pwr.cycleDue = some d ∧ d ≤ s.clk.now) ∧
    (∃ (f : Nat) (s : State), s.pwr.fellAt = some f ∧ s.pwr.holdup = true ∧ f + fabMs 30 ≤ s.clk.now ∧
      ∀ r, s.pwr.confAt = some r → holdupGood f r = false) :=
  ⟨⟨whold none, rfl⟩,
    ⟨999990000000, 999990200000, 5, wpw (fun p => { p with holdup := true, fellAt := some 999990000000, roseAt := some 999990200000, confAt := some 999990200000, resetDue := some 5 }),
      rfl, rfl, rfl, rfl, by decide +kernel, by decide +kernel, rfl, rfl, rfl, rfl, by decide⟩,
    ⟨999990000000, 999990200000, 5, wpw (fun p => { p with holdup := true, fellAt := some 999990000000, roseAt := some 999990200000, confAt := some 999990200000, cycleDue := some 5 }),
      rfl, rfl, rfl, rfl, by decide +kernel, by decide +kernel, rfl, by decide⟩,
    999990000000, whold none, rfl, rfl, by decide +kernel, fun r h => by cases h⟩

theorem witness_PendingShadows : (∃ g h : Nat, g < 16 ∧ h < 16 ∧ h ≠ g) ∧
    ∃ (g : Nat) (s : State), g < 16 ∧ ∃ e ∈ s.shadow, ugAt e.1 = g :=
  ⟨⟨15, 0, by decide, by decide, by decide⟩, 5, { ww with shadow := [(R.DIN_CFG 0, 1#32)] }, by decide, _, List.mem_singleton.2 rfl, by decide +kernel⟩

theorem witness_IslandLock :
    (∃ s : State, s.saf.st ≠ 4) ∧
    (∃ (x : SafIn) (s : State), s.saf.powered = true ∧ s.saf.st ≠ 4 ∧ s.saf.cycleAt + fabMs 1 ≤ s.clk.now ∧ x.own = true) ∧
    (∃ (i : Instr) (F : Foot) (s t : State), foot i = some F ∧ s.saf.st = 4 ∧ exec i s = .next t) ∧
    (∃ (i d : Nat) (s : State), s.saf.st = 4 ∧ s.saf.press.lookup i = some d ∧ 100 ≤ d ∧ d ≤ 2000) ∧
    (∃ (k : Nat) (s : State), 2 ≤ k ∧ s.saf.st = 4) ∧ (∃ (k : Nat) (s : State), k ≤ 1 ∧ s.clk.running = true) :=
  ⟨⟨ww, by decide⟩, ⟨{ (default : SafIn) with own := true }, ww, rfl, by decide, by decide +kernel, rfl⟩,
    ⟨.tbNowLoRead .host, _, wsf { st := 4 }, _, rfl, rfl, rfl⟩, ⟨3, 100, wsf { st := 4, press := [(3, 100)] }, rfl, rfl, by decide, by decide⟩,
    ⟨4, wsf { st := 4 }, by decide, rfl⟩, 1, ww, by decide, rfl⟩

theorem witness_ProtectedWrites :
    (∃ (a x f : Nat) (b : Block) (r : RegRow) (s : State), a % 4 = 0 ∧ a < 0xE2000000 ∧ companionOf a = none ∧
      decodeAddr a = .reg b x r ∧ s.domainUp (regDomain b x) = true ∧ s.guardOf .host b.base = none ∧ b.fn = some f ∧
      s.expert f = false ∧ arrIdx x (R.FAB_SIG 0) 4 512 = none ∧ (x < R.FAB_UG_CFG 0 ∨ R.FAB_UG_CFG 16 ≤ x)) ∧
    (∃ (a x : Nat) (b : Block) (r : RegRow) (s : State), a % 4 = 0 ∧ a < 0xE2000000 ∧ companionOf a = none ∧
      decodeAddr a = .reg b x r ∧ s.domainUp (regDomain b x) = true ∧ s.guardOf .dome b.base = none ∧ r.guard = false ∧
      r.lock < 6 ∧ s.bt R.SYS_BOOTLOCK r.lock = true) :=
  ⟨⟨R.DIN_CFG 0, R.DIN_CFG 0, 5, atB (R.DIN_CFG 0), atR (R.DIN_CFG 0), ww, by decide, by decide, by decide +kernel, by decide +kernel,
      by decide +kernel, by decide +kernel, by decide +kernel, by decide +kernel, by decide +kernel, by decide⟩,
    R.SYS_WDOG_CFG, R.SYS_WDOG_CFG, atB R.SYS_WDOG_CFG, atR R.SYS_WDOG_CFG, wr [(R.SYS_BOOTLOCK, 0x3F#32)], by decide, by decide,
      by decide +kernel, by decide +kernel, by decide +kernel, by decide +kernel, by decide +kernel, by decide +kernel, by decide +kernel⟩

theorem witness_PowerOnContents :
    ∃ (s : State) (a : Nat), s.clk.running = true ∧ retAt a ≠ .p ∧ Foot.shared.holds a = false ∧
      ([Win.sys, Win.pwr, Win.prm, Win.adr, Win.adb, Win.psw, Win.saf] : List Win).all (fun w => !w.has a) = true :=
  ⟨ww, R.PNL_CTRL, rfl, by decide +kernel, by decide +kernel, by decide +kernel⟩

theorem witness_ResetCauses :
    (∃ (us : Nat) (s : State), s.pwr.coreOn = true ∧ s.clk.running = true ∧ s.bt R.SYS_WDOG_CFG 16 = true ∧ 1000 ≤ us) ∧
    (∃ s : State, s.pwr.coreOn = true ∧ s.clk.running = true) ∧ (∃ us : Nat, us < 100) :=
  ⟨⟨1000, wr [(R.SYS_WDOG_CFG, 0x10000#32)], rfl, rfl, by decide +kernel, by decide⟩, ⟨ww, rfl, rfl⟩, 99, by decide⟩

/-- A write of 5 by Dome to `a` passes every protection. -/
def wrOk (a : Nat) (s : State) : Prop :=
  a % 4 = 0 ∧ (a < 0xE2000000 ∨ 0xE4000000 ≤ a) ∧ companionOf a = none ∧ decodeAddr a = .reg (atB a) a (atR a) ∧
    s.domainUp (regDomain (atB a) a) = true ∧ s.guardOf .dome (atB a).base = none ∧ s.ownBar .dome (atB a) a (atR a) = none ∧
    (atR a).guard = false ∧ s.locked a (atR a) = false ∧
    (writeHooks .dome ((5#64).extractLsb' 0 32)).all (fun h => (arrIdx a h.1 h.2.1 h.2.2.1).isNone) = true

theorem witness_DirectWrites :
    (∃ a, wrOk a ww ∧ (atR a).ty = .rw) ∧ (∃ a, wrOk a ww ∧ (atR a).ty = .w1c) ∧ (∃ a, wrOk a ww ∧ (atR a).ty = .w1s) ∧
    (∃ a, wrOk a ww ∧ (atR a).ty = .ro) ∧ (∃ a, wrOk a ww ∧ (atR a).ty = .rws ∧ (atR a).ug < 16) :=
  ⟨⟨R.FAB_SIG_HOST_AGE, by unfold wrOk; decide +kernel⟩, ⟨R.SYS_RESET_CAUSE, by unfold wrOk; decide +kernel⟩,
    ⟨R.SYS_BOOTLOCK, by unfold wrOk; decide +kernel⟩, ⟨R.TB_ID, by unfold wrOk; decide +kernel⟩,
    R.DIN_CFG 0, by unfold wrOk; decide +kernel⟩

/-- The guarded value of Dome for the boost target, pending for 255 cycles. -/
def gp : GuardPend :=
  { ini := .dome, block := (atB R.ADR_BST_TARGET).base, addr := R.ADR_BST_TARGET, value := 7#32, at_ := ww.clk.now - 255 }

/-- `ww` with that value pending. -/
def wgp : State := { ww with fab := { guards := [gp] } }

theorem witness_GuardedWrites :
    (∃ (ini : Initiator) (a x : Nat) (b : Block) (r : RegRow) (s : State), a % 4 = 0 ∧ companionOf a = none ∧
      decodeAddr a = .reg b x r ∧ s.domainUp (regDomain b x) = true ∧ s.guardOf ini b.base = none ∧ s.ownBar ini b x r = none ∧
      r.guard = true) ∧
    (∃ (ini : Initiator) (a x : Nat) (b : Block) (r : RegRow) (g : GuardPend) (s : State), a % 4 = 0 ∧
      companionOf a = some (b, x, r) ∧ s.domainUp (regDomain b x) = true ∧ s.guardOf ini b.base = some g ∧ g.addr = x ∧
      s.clk.now < g.at_ + 256 ∧ s.ownBar ini b x r = none ∧ s.locked x r = false ∧ r.ty = .rws ∧ r.ug < 16 ∧
      (writeHooks ini g.value).all (fun h => (arrIdx x h.1 h.2.1 h.2.2.1).isNone) = true) ∧
    (∃ (ini : Initiator) (a x : Nat) (b : Block) (r : RegRow) (g : GuardPend) (v : Word) (s : State), a % 4 = 0 ∧
      companionOf a = some (b, x, r) ∧ s.domainUp (regDomain b x) = true ∧ s.guardOf ini b.base = some g ∧ g.addr = x ∧
      s.clk.now < g.at_ + 256 ∧ s.ownBar ini b x r = none ∧ v ≠ ~~~g.value) ∧
    (∃ (ini : Initiator) (a x : Nat) (b : Block) (r : RegRow) (s : State), a % 4 = 0 ∧ companionOf a = some (b, x, r) ∧
      s.domainUp (regDomain b x) = true ∧ s.guardOf ini b.base = none ∧ s.ownBar ini b x r = none) :=
  ⟨⟨.dome, R.ADR_BST_TARGET, R.ADR_BST_TARGET, atB R.ADR_BST_TARGET, atR R.ADR_BST_TARGET, ww, by decide, by decide +kernel,
      by decide +kernel, by decide +kernel, by decide +kernel, by decide +kernel, by decide +kernel⟩,
    ⟨.dome, R.ADR_BST_TARGET + 0x800, R.ADR_BST_TARGET, atB R.ADR_BST_TARGET, atR R.ADR_BST_TARGET, gp, wgp, by decide,
      by decide +kernel, by decide +kernel, by decide +kernel, rfl, by decide +kernel, by decide +kernel, by decide +kernel,
      by decide +kernel, by decide +kernel, by decide +kernel⟩,
    ⟨.dome, R.ADR_BST_TARGET + 0x800, R.ADR_BST_TARGET, atB R.ADR_BST_TARGET, atR R.ADR_BST_TARGET, gp, 7#32, wgp, by decide,
      by decide +kernel, by decide +kernel, by decide +kernel, rfl, by decide +kernel, by decide +kernel, by decide +kernel⟩,
    .dome, R.ADR_BST_TARGET + 0x800, R.ADR_BST_TARGET, atB R.ADR_BST_TARGET, atR R.ADR_BST_TARGET, ww, by decide,
      by decide +kernel, by decide +kernel, by decide +kernel, by decide +kernel⟩

theorem witness_StepRunsFront : ∃ (c : Instr) (cs : List Instr) (s : State), s.pending = c :: cs :=
  ⟨.controlTick, [], { ww with pending := [.controlTick] }, rfl⟩

theorem witness_IdleStep : ∃ s : State, s.pending = [] ∧ ∀ b ∈ s.adr.banks, b.go = none := ⟨State.reset, rfl, by decide⟩

theorem witness_CommandFrames : ∃ (i : Instr) (F : Foot) (s t : State), foot i = some F ∧ exec i s = .next t :=
  ⟨.tbNowLoRead .host, _, ww, _, rfl, rfl⟩

theorem witness_StepKeepsInv : ∃ s t : State, s.Inv ∧ step s = .next t :=
  ⟨{ ww with regs := [], pending := [.tbNowLoRead .host] }, _, ⟨by decide, ww_clk⟩, rfl⟩

/-! ### Worked examples of the spec -/

/-- The nine characters of a CRC's check value. -/
def digits : List Byte := bs [0x31, 0x32, 0x33, 0x34, 0x35, 0x36, 0x37, 0x38, 0x39]

/-- The check value of R41. -/
theorem test_crc32c : crc32c digits = 0xE3069283#32 := by decide +kernel

/-- The check value of R330. -/
theorem test_crc16 : crc16x digits = 0x29B1 := by decide +kernel

/-- The example of R76: bit 5 of MBX_IRQ_EN0, bit 2 of FAB_UPD_STROBE. -/
theorem test_alias_words : aliasOf 0xE2402214 = (0xE0020110, 5) ∧ aliasOf 0xE2200088 = (0xE0010004, 2) := by decide

/-- The register an address decodes to; none for a hole. -/
def decoded (a : Nat) : Option Nat :=
  match decodeAddr a with
  | .reg _ x _ => some x
  | _ => none

/-- The example of R74 in the window of MBX. -/
theorem test_partial_decode :
    decoded 0xE0020050 = none ∧ decoded 0xE0020084 = some R.MBX_DOME_STATE ∧ decoded 0xE0024008 = some R.MBX_CLAIM ∧
      decoded 0xE0020120 = some (R.MBX_IRQ_PEND 0) ∧ decoded 0xE0020200 = none := by decide +kernel

/-- The example of R82: the companion 120 cycles after the first write lets a limit of PSW through to its shadow. -/
theorem test_guard_example :
    ((ww.access .dome (R.PSW_CH_LIM 0) 0x1130#32).access .dome (R.PSW_CH_LIM 0 + 0x800) 0xFFFFEECF#32).shadow.lookup (R.PSW_CH_LIM 0)
      = some (0x1130#32 &&& word (atR (R.PSW_CH_LIM 0)).mask) := by decide +kernel

/-- The example of R82 with the companion late: two counts, causes 1 and 2. -/
theorem test_guard_late :
    (let s := ww.access .dome (R.PSW_CH_LIM 0) 0x1130#32
     let t := (({ s with clk := { s.clk with now := s.clk.now + 260 } } : State).access .dome (R.PSW_CH_LIM 0 + 0x800) 0xFFFFEECF#32)
     t.shadow.isEmpty && t.rd R.FAB_GUARD_ERR == 2#32 && t.fd R.FAB_GUARD_LAST 1 0 == 2) = true := by decide +kernel

/-- Speed input 4 in use with G 1 and S 0, and what it has seen. -/
def spd4 (c : SpdCh) : State :=
  { wr [(R.AIN_SPD_CFG 4, 1#32), (R.AIN_SPD_GAIN 4, 1#32)] with
    inp := { ww.inp with spd := updAt ww.inp.spd 4 (fun _ => c) } }

/-- The example of R134: an interval of 43,740 TB, a boundary without an edge, an edge 62,500 TB after the last. -/
theorem test_speed_example :
    ((spd4 { edges := [(4000043740, 1)], t0 := some 4000000000 }).speedCompute 4000045000 4).sig 0x60 = 1143118#32 ∧
      ((spd4 { t0 := some 4000043740, f := 1143118 }).speedCompute 4000103740 4).sig 0x60 = 833333#32 ∧
      ((spd4 { edges := [(4000106240, 1)], t0 := some 4000043740, f := 833333 }).speedCompute 4000107500 4).sig 0x60
        = 800000#32 := by decide +kernel

/-- ACU2 of the example of R137: K 56, M 25, DEAD 20, T_MIN 800, FT 20. -/
def acu2 : Word := 1#32 ||| (20#32 <<< 5) ||| (20#32 <<< 10) ||| (25#32 <<< 19) ||| (56#32 <<< 26)

/-- R136: an impact at 1,085 codes and none at 1,084; re-armed below 813. -/
theorem test_acu_threshold :
    (acuSample acu2 800#32 { floor := 310 } 1085).2 = true ∧ (acuSample acu2 800#32 { floor := 310 } 1084).2 = false ∧
      (acuSample acu2 800#32 { floor := 310, armed := false, inImpact := true } 812).1.armed = true ∧
      (acuSample acu2 800#32 { floor := 310, armed := false, inImpact := true } 813).1.armed = false := by decide +kernel

/-- R137: 1,237 impacts in 25 windows. -/
theorem test_acu_window :
    (({ wr [(R.ACU_CFG 2, acu2)] with
        inp := { ww.inp with acu := updAt ww.inp.acu 2 (fun _ => { count := 37, windows := List.replicate 24 50 }) } } : State).acuWindow
      2).sig 0x6A = 494800#32 := by decide +kernel

/-- The example of chapter 06: gradient, delay error, fuel per tonne. -/
theorem test_coelostat_estimates :
    cstGrad (-129000000) 5 2000 = -51600 ∧ cstDerr (-129000000) 9000000 2000 10 = 35 ∧ fuelPerT 620000 125000 = 1377 := by
  decide +kernel

/-- The settings of slot MS12 in chapter 08's first example. -/
def ms12 : MerPar :=
  { cfg := 1#32 <<< 23, kp := 1, ki := 10486, kd := 0, kfv := 5, kfa := 0, shift := 5#32 <<< 15, imax := 9000, omin := 0,
    omax := 9000, rlim := 0, vnom := 24000 }

/-- Its evaluation: u 3,973, the integrator at 242,692,920. -/
theorem test_meridian_current :
    merLaw ms12 { i16 := 242483200, yPrev := 1480 } { r := 1500, y := 1480, vs := 22400, a := 0, okV := true, okA := true, off := false } =
      { u := 3973, i16 := 242692920, v := 0, e := 20, clip := 0, flags := 0 } := by decide +kernel

/-- The settings of slot MS20 in chapter 08's second example. -/
def ms20 : MerPar :=
  { cfg := (3#32 <<< 18) ||| (1#32 <<< 24), kp := 9, ki := 17, kd := 1, kfv := 0, kfa := 1,
    shift := 8#32 ||| (6#32 <<< 5) ||| (1#32 <<< 20), imax := 1200, omin := 300, omax := 1600, rlim := 2, vnom := 0 }

/-- Its evaluation: 914 after the rate limit, CLIP_HI and RATE set. -/
theorem test_meridian_height :
    (merLaw ms20 { i16 := 45875200, v := 10, yPrev := 44808, uPrev := 912 }
      { r := 45000, y := 44800, vs := 0, a := 400, okV := true, okA := true, off := false }) =
      { u := 914, i16 := 45875253, v := 9, e := 200, clip := 1, flags := 40 } := by decide +kernel

/-- The carrier word of R286's example, −2,500 Hz. -/
theorem test_carrier_word : fcwC (-2500 * 256000) = 1073607606 := by decide +kernel

/-- Its code word, and the carrier word of its handover to L5, −1,815.544 Hz. -/
theorem test_code_word : fcwK 0 (-2500 * 256000) = 54921807 ∧ fcwC (-464779221) = 1073644353 := by decide +kernel

/-- The example of R446: an avtp_timestamp as TB. -/
theorem test_avtp_example :
    ({ ww with gptp := { g := 40000000000000, tb := 3000000000, rate := 2199023 } } : State).avtpTb 3001500000 974572352 = 3000249999 := by
  decide +kernel

/-- Import entry 16 of chapter 18's example, fuel on SIG 0x150. -/
def imp16 : State :=
  wr [(R.CAN_IMP_CFG 4 0, 0x80440001#32), (R.CAN_IMP_ID 4 0, 0x38FEF200#32), (R.CAN_IMP_MASK 4 0, 0x03FFFFFF#32),
    (R.CAN_IMP_GAIN 4 0, 50#32), (R.CAN_IMP_OFS 4 0, 0#32)]

/-- 0xD8 0x04 gives 62,000; 0xFFFF invalidates the entry. -/
theorem test_can_import :
    (imp16.canImports 1 0x18FEF200 true (bs [0xD8, 0x04])).sig 0x150 = 62000#32 ∧
      ((imp16.canImports 1 0x18FEF200 true (bs [0xD8, 0x04])).canImports 1 0x18FEF200 true (bs [0xFF, 0xFF])).sigOk 0x150 = false := by
  decide +kernel

/-- The envelope of chapter 16's example, v0 3,000: 2,998 after 468 ms, broken at 3,000 mm/s; 3,000 after 467 ms, not broken. -/
def env (t : Nat) : State :=
  wsf { par := zs 92 ++ bs [0, 255] ++ zs 10 ++ bs [0xDC, 0x05, 0x2C, 0x01, 250, 0] ++ zs 6 ++ bs [255] ++ zs 23 ++ bs [255] ++ zs 23 ++
          bs [255] ++ zs 23, ms := t, mons := [{ v0 := 3000 }, {}, {}, {}] }

theorem test_envelope : ((env 468).safEnvelope.2.mon 0).lim = 2998 ∧ ((env 467).safEnvelope.2.mon 0).lim = 3000 ∧
    ((env 1000).safEnvelope.2.mon 0).lim = 2200 := by decide +kernel

/-- What a register holds after reset (R115): an identification, and a register that is not zero. -/
theorem test_reset_values : State.reset.rd R.TB_ID = 0x54420001#32 ∧ State.reset.rd R.CST_WIN = 0x003207D0#32 := by decide +kernel

end Sys2Proof.Tests
end

section
/-!
PROOF. R11: a mailbox command to a reserved function ID is answered BAD_OPCODE and does nothing else.
-/
namespace Sys2Proof.Machine

/-- What Dome asks of a command of session `k` before it looks at the common bars: all that `Accepted` asks but `bar`. -/
structure Heard (f b : Nat) (c : Cmd) (k : Nat) (s : State) : Prop where
  dome : 2 ≤ s.dome
  turn : s.turn (256 * f + b) c = true
  session : s.sessionOf c = some k
  fresh : ∀ e ∈ (s.ses k).kept, e.seq ≠ c.seq
  opened : (s.ses k).isOpen = true

/-- A heard command that a common bar holds is taken and answered the bar's status; its body does not run. -/
theorem Heard.command_barred {f b role st : Nat} {c : Cmd} {k : Nat} {s : State} (h : Heard f b c k s)
    (hbar : s.bar f b role k = some st) (body : Nat → State → Reply × State) :
    s.begun.command f b role c body = (s.entered f b k c).answer k (256 * f + b) c st [] := by
  have hserved : ¬ s.dome < 2 := Nat.not_lt.2 h.dome
  have hnew : (s.ses k).kept.find? (fun e => e.seq == c.seq) = none :=
    List.find?_eq_none.2 fun e he => by simpa using h.fresh e he
  simp only [State.command, State.entered, State.begun_dome, State.begun_turn, State.begun_sessionOf, State.begun_ses,
    State.begun_bar, hserved, h.turn, h.session, hnew, h.opened, hbar, Bool.not_true, Bool.and_false, Bool.false_eq_true,
    if_false]

/-- The bar of a reserved function ID comes before all others (log entry 7). -/
theorem State.bar_reserved (s : State) {f : Nat} (hf : 0x18 ≤ f) (b role k : Nat) :
    s.bar f b role k = some stBAD_OPCODE := by
  simp only [State.bar, if_pos hf]

/-- A heard command to a reserved function ID is answered BAD_OPCODE, whatever its minimum role and its body. -/
theorem Heard.command_reserved {f b role : Nat} {c : Cmd} {k : Nat} {s : State} (h : Heard f b c k s) (hf : 0x18 ≤ f)
    {body : Nat → State → Reply × State} :
    s.begun.command f b role c body = (s.entered f b k c).answer k (256 * f + b) c stBAD_OPCODE [] :=
  h.command_barred (s.bar_reserved hf b role k) body

/-- GET_INFO of a function other than LINK asks no more than any other command. -/
theorem execGetInfo_of_ne_link {f : Nat} (hf : f ≠ 0) (c : Cmd) (s : State) :
    execGetInfo f c s = s.runIn .upd (fun s => s.command f 0x00 0 c (fun _ s =>
      if !c.payload.isEmpty then refuse stBAD_LENGTH s else okWith (s.infoBytes f) s)) := by
  simp only [execGetInfo, hf, decide_false, Bool.false_and, Bool.false_eq_true, if_false]

/-- Settles O44: a reserved function ID is the first bar of every command, so the common commands' bodies are never reached. -/
theorem reservedFunctions : Obligations.ReservedFunctions := by
  unfold Obligations.ReservedFunctions
  intro f c k loop s hres _ hdome hturn hses hfresh hopen
  have answer (b : Nat) (hb : b < 256) {role : Nat} {body : Nat → State → Reply × State} :
      s.begun.command f b role c body = (s.entered f b k c).answer k (256 * f + b) c stBAD_OPCODE [] :=
    Heard.command_reserved ⟨hdome, hturn b hb, hses, hfresh, hopen⟩ hres
  change execGetInfo f c s = _ ∧ execGetStatus f c s = _ ∧ execConfigure f c s = _ ∧ execApply f c s = _ ∧
    execStart f c s = _ ∧ execStop f c s = _ ∧ execReinit f c loop s = _ ∧ execSetExpert f c loop s = _
  rw [execGetInfo_of_ne_link (by omega)]
  exact ⟨State.runIn_next (answer 0x00 (by decide)), State.runIn_next (answer 0x01 (by decide)),
    State.runIn_next (answer 0x02 (by decide)), State.run_next (answer 0x03 (by decide)),
    State.run_next (answer 0x04 (by decide)), State.run_next (answer 0x05 (by decide)),
    State.run_next (answer 0x0E (by decide)), State.run_next (answer 0x0F (by decide))⟩

end Sys2Proof.Machine
end

section
/-!
SUPPORT. The enables, displays and notes that a reset or the end of a hold-up sets going in the drive, the load switches, the island,
the sensor supplies, the panel and the recorder leave the power state and the clocks alone, and so does what a reset loses.
-/
namespace Sys2Proof.Machine

/-- The power state and the clocks, as one value: an operation that leaves both alone has one equation. -/
def State.powerClk (s : State) : Power × Clk := (s.pwr, s.clk)

theorem State.powerClk_eq {s t : State} (hp : t.pwr = s.pwr) (hc : t.clk = s.clk) : t.powerClk = s.powerClk :=
  Prod.ext hp hc

theorem State.powerClk_iff {s : State} {p : Power} {k : Clk} : s.powerClk = (p, k) ↔ s.pwr = p ∧ s.clk = k :=
  Iff.of_eq (Prod.mk.injEq ..)

theorem State.pwr_of_powerClk {s t : State} (h : t.powerClk = s.powerClk) : t.pwr = s.pwr := congrArg Prod.fst h

theorem State.clk_of_powerClk {s t : State} (h : t.powerClk = s.powerClk) : t.clk = s.clk := congrArg Prod.snd h

@[simp] theorem State.ite_powerClk (c : Prop) [Decidable c] (s t : State) :
    (if c then s else t).powerClk = if c then s.powerClk else t.powerClk := apply_ite ..

/-- A loop each of whose steps keeps power state and clocks keeps them. -/
theorem State.foldl_powerClk {α : Type} {g : State → α → State} (hg : ∀ s x, (g s x).powerClk = s.powerClk) (l : List α)
    (s : State) : (l.foldl g s).powerClk = s.powerClk := by
  induction l generalizing s with
  | nil => rfl
  | cons x l ih => exact (ih (g s x)).trans (hg s x)

/-! ### Registers, signals, parts, notifications, events -/

@[simp] theorem State.wr_powerClk (s : State) (a : Nat) (v : Word) : (s.wr a v).powerClk = s.powerClk := rfl
@[simp] theorem State.wb_powerClk (s : State) (a b : Nat) (v : Bool) : (s.wb a b v).powerClk = s.powerClk := rfl
@[simp] theorem State.wfSet_powerClk (s : State) (a hi lo v : Nat) : (s.wf_ a hi lo v).powerClk = s.powerClk := rfl
@[simp] theorem State.addCnt_powerClk (s : State) (a n : Nat) : (s.addCnt a n).powerClk = s.powerClk := rfl
@[simp] theorem State.inc_powerClk (s : State) (a : Nat) : (s.inc a).powerClk = s.powerClk := rfl
@[simp] theorem State.setSig_powerClk (s : State) (n : Nat) (v : Word) : (s.setSig n v).powerClk = s.powerClk := rfl
@[simp] theorem State.dropSig_powerClk (s : State) (n : Nat) : (s.dropSig n).powerClk = s.powerClk := rfl
@[simp] theorem State.setAdr_powerClk (s : State) (f : Adr → Adr) : (s.setAdr f).powerClk = s.powerClk := rfl
@[simp] theorem State.setCh_powerClk (s : State) (n : Nat) (f : AdrCh → AdrCh) : (s.setCh n f).powerClk = s.powerClk := rfl
@[simp] theorem State.setRun_powerClk (s : State) (n : Nat) (f : AdrRun → AdrRun) : (s.setRun n f).powerClk = s.powerClk := rfl
@[simp] theorem State.setBank_powerClk (s : State) (k : Nat) (f : AdrBank → AdrBank) :
    (s.setBank k f).powerClk = s.powerClk := rfl
@[simp] theorem State.setPsw_powerClk (s : State) (f : Psw → Psw) : (s.setPsw f).powerClk = s.powerClk := rfl
@[simp] theorem State.setSw_powerClk (s : State) (n : Nat) (f : PswCh → PswCh) : (s.setSw n f).powerClk = s.powerClk := rfl
@[simp] theorem State.setGrp_powerClk (s : State) (g : Nat) (f : PswGrp → PswGrp) : (s.setGrp g f).powerClk = s.powerClk := rfl
@[simp] theorem State.setSaf_powerClk (s : State) (f : Saf → Saf) : (s.setSaf f).powerClk = s.powerClk := rfl
@[simp] theorem State.setSo_powerClk (s : State) (n : Nat) (f : SafSo → SafSo) : (s.setSo n f).powerClk = s.powerClk := rfl
@[simp] theorem State.setCam_powerClk (s : State) (f : Cam → Cam) : (s.setCam f).powerClk = s.powerClk := rfl
@[simp] theorem State.setPnl_powerClk (s : State) (f : Pnl → Pnl) : (s.setPnl f).powerClk = s.powerClk := rfl
@[simp] theorem State.setPair_powerClk (s : State) (f : Pair → Pair) : (s.setPair f).powerClk = s.powerClk := rfl

@[simp] theorem State.notify_powerClk (s : State) (f code : Nat) (p : List Byte) : (s.notify f code p).powerClk = s.powerClk :=
  State.powerClk_eq (s.notify_pwr f code p) (s.notify_clk f code p)
@[simp] theorem State.post_powerClk (s : State) (f : Nat) (e : Ev) : (s.post f e).powerClk = s.powerClk :=
  State.powerClk_eq (s.post_pwr f e) (s.post_clk f e)

/-! ### The actuator drive -/

@[simp] theorem State.adrDropNote_powerClk (s : State) (n cause req : Nat) : (s.adrDropNote n cause req).powerClk = s.powerClk := by
  simp [State.adrDropNote]

@[simp] theorem State.adrMotion_powerClk (s : State) (n : Nat) (ran : Bool) (r : AdrRun) :
    (s.adrMotion n ran r).powerClk = s.powerClk := by
  unfold State.adrMotion
  dsimp only
  repeat' split
  all_goals simp

@[simp] theorem State.adrDrop_powerClk (s : State) (n req cause : Nat) : (s.adrDrop n req cause).powerClk = s.powerClk := by
  simp [State.adrDrop]

@[simp] theorem State.bankNext_powerClk (s : State) (k : Nat) : (s.bankNext k).powerClk = s.powerClk := by
  unfold State.bankNext
  split
  · rfl
  · simp

@[simp] theorem State.bankRelease_powerClk (s : State) (k : Nat) : (s.bankRelease k).powerClk = s.powerClk :=
  State.foldl_powerClk (fun s _ => by simp) _ _

@[simp] theorem State.adrUnwait_powerClk (s : State) (n cause : Nat) : (s.adrUnwait n cause).powerClk = s.powerClk := by
  unfold State.adrUnwait
  split
  · rfl
  · simp

@[simp] theorem State.adrWinEnd_powerClk (s : State) (n : Nat) : (s.adrWinEnd n).powerClk = s.powerClk := rfl
@[simp] theorem State.adrRecov_powerClk (s : State) (n : Nat) : (s.adrRecov n).powerClk = s.powerClk := rfl
@[simp] theorem State.adrBand_powerClk (s : State) (n t : Nat) : (s.adrBand n t).powerClk = s.powerClk := rfl

@[simp] theorem State.adrSetOpen_powerClk (s : State) (n : Nat) (v : Bool) : (s.adrSetOpen n v).powerClk = s.powerClk := by
  simp [State.adrSetOpen, State.adrFaultNote]

@[simp] theorem State.adrRecord_powerClk (s : State) (n : Nat) : (s.adrRecord n).powerClk = s.powerClk := by
  simp [State.adrRecord]

@[simp] theorem State.adrClose_powerClk (s : State) (n : Nat) : (s.adrClose n).powerClk = s.powerClk := by
  simp [State.adrClose]

@[simp] theorem State.adrMeasure_powerClk (s : State) (n : Nat) : (s.adrMeasure n).powerClk = s.powerClk := by
  simp [State.adrMeasure]

@[simp] theorem State.adrLeave_powerClk (s : State) (n : Nat) : (s.adrLeave n).powerClk = s.powerClk := by
  simp [State.adrLeave]

@[simp] theorem State.adrToDecay_powerClk (s : State) (n cause : Nat) (fast : Bool) :
    (s.adrToDecay n cause fast).powerClk = s.powerClk := by
  unfold State.adrToDecay
  dsimp only
  split <;> simp

@[simp] theorem State.adrFlush_powerClk (s : State) (n cause : Nat) : (s.adrFlush n cause).powerClk = s.powerClk :=
  State.foldl_powerClk (fun _ _ => State.adrDrop_powerClk ..) _ _

@[simp] theorem State.bankOff_powerClk (s : State) (k : Nat) : (s.bankOff k).powerClk = s.powerClk := by
  unfold State.bankOff
  refine (State.foldl_powerClk (fun s i => ?_) _ _).trans (State.foldl_powerClk (fun s i => ?_) _ _)
  · simp
  · simp

@[simp] theorem State.bstShow_powerClk (s : State) : s.bstShow.powerClk = s.powerClk := rfl

@[simp] theorem State.bstNotify_powerClk (s : State) (m : Nat) : (s.bstNotify m).powerClk = s.powerClk :=
  State.notify_powerClk ..

@[simp] theorem State.bstSpill_powerClk (s : State) : s.bstSpill.powerClk = s.powerClk := by
  unfold State.bstSpill
  refine (State.bstNotify_powerClk _ _).trans (State.foldl_powerClk (fun s n => ?_) _ _)
  simp [State.adrSlow]

@[simp] theorem State.bstSync_powerClk (s : State) : s.bstSync.powerClk = s.powerClk := by
  simp [State.bstSync]

@[simp] theorem State.adrShow_powerClk (s : State) (n : Nat) : (s.adrShow n).powerClk = s.powerClk := by
  simp [State.adrShow, State.bankShow]

@[simp] theorem State.adrShowAll_powerClk (s : State) : s.adrShowAll.powerClk = s.powerClk := by
  unfold State.adrShowAll
  exact (State.bstShow_powerClk _).trans (State.foldl_powerClk State.adrShow_powerClk _ _)

@[simp] theorem State.adrEnables_powerClk (s : State) : s.adrEnables.powerClk = s.powerClk := by
  unfold State.adrEnables
  simp only [State.adrShowAll_powerClk, State.bstSync_powerClk]
  exact State.foldl_powerClk (fun s k => by simp) _ _

/-! ### The load switches -/

@[simp] theorem State.grpDown_powerClk (s : State) (g : Nat) : (s.grpDown g).powerClk = s.powerClk :=
  State.foldl_powerClk (fun s n => by simp [State.pswOff]) _ _

@[simp] theorem State.pswDown_powerClk (s : State) : s.pswDown.powerClk = s.powerClk :=
  State.foldl_powerClk State.grpDown_powerClk _ _

@[simp] theorem State.pswShow_powerClk (s : State) (n : Nat) : (s.pswShow n).powerClk = s.powerClk := by
  simp [State.pswShow]

@[simp] theorem State.grpShow_powerClk (s : State) (g : Nat) : (s.grpShow g).powerClk = s.powerClk := rfl

@[simp] theorem State.pswShowAll_powerClk (s : State) : s.pswShowAll.powerClk = s.powerClk := by
  unfold State.pswShowAll
  exact (State.foldl_powerClk State.grpShow_powerClk _ _).trans (State.foldl_powerClk State.pswShow_powerClk _ _)

@[simp] theorem State.pswEnables_powerClk (s : State) : s.pswEnables.powerClk = s.powerClk := by
  unfold State.pswEnables
  refine (State.pswShowAll_powerClk _).trans ((State.foldl_powerClk (fun s g => ?_) _ _).trans ?_)
  · simp [State.pswGroupNote]
  · simp

/-! ### The safety island -/

@[simp] theorem State.safRaise_powerClk (s : State) (cause obj : Nat) : (s.safRaise cause obj).powerClk = s.powerClk := by
  simp [State.safRaise, State.safFaultNote]

@[simp] theorem State.safOutputs_powerClk (s : State) : s.safOutputs.powerClk = s.powerClk :=
  State.foldl_powerClk (fun s n => by simp) _ _

@[simp] theorem State.jspSend_powerClk (s : State) (c : Nat) : (s.jspSend c).powerClk = s.powerClk := by
  unfold State.jspSend
  dsimp only
  split <;> rfl

@[simp] theorem State.safEnter_powerClk (s : State) (st cause : Nat) : (s.safEnter st cause).powerClk = s.powerClk := by
  unfold State.safEnter
  split
  · rfl
  · simp only [State.pswEnables_powerClk, State.adrEnables_powerClk]
    refine (State.foldl_powerClk State.jspSend_powerClk _ _).trans ?_
    simp

@[simp] theorem State.safModule_powerClk (s : State) : s.safModule.powerClk = s.powerClk := by
  simp [State.safModule]

@[simp] theorem State.safPowerUp_powerClk (s : State) : s.safPowerUp.powerClk = s.powerClk := by
  simp [State.safPowerUp]

@[simp] theorem State.safShedReturn_powerClk (s : State) : s.safShedReturn.powerClk = s.powerClk := rfl

/-! ### Sensor supplies, panel, recorder -/

@[simp] theorem State.supUpdateAll_powerClk (s : State) : s.supUpdateAll.powerClk = s.powerClk := rfl

@[simp] theorem State.pnlHoldup_powerClk (s : State) : s.pnlHoldup.powerClk = s.powerClk := by
  simp [State.pnlHoldup, State.pnlDrive, State.pnlShow]

@[simp] theorem State.recShow_powerClk (s : State) : s.recShow.powerClk = s.powerClk := rfl

@[simp] theorem State.returnStages_powerClk (s : State) : s.returnStages.powerClk = s.powerClk := by
  simp [State.returnStages, State.camPhyReturn]

/-! ### What a reset loses -/

@[simp] theorem State.recReset_powerClk (s : State) (por : Bool) : (s.recReset por).powerClk = s.powerClk := by
  unfold State.recReset
  dsimp only
  split
  · rfl
  · exact State.foldl_powerClk (fun s (e : Posted) => State.inc_powerClk s (lossReg e.sev)) _ _

@[simp] theorem State.prmReset_powerClk (s : State) : s.prmReset.powerClk = s.powerClk := rfl

@[simp] theorem State.updReset_powerClk (s : State) : s.updReset.powerClk = s.powerClk := by
  unfold State.updReset
  dsimp only
  split <;> rfl

/-- What a reset loses is neither supplies nor time. -/
@[simp] theorem State.lose_powerClk (s : State) (por warm : Bool) : (s.lose por warm).powerClk = s.powerClk := by
  simp only [State.lose, State.updReset_powerClk, State.prmReset_powerClk, State.recReset_powerClk]
  rfl

end Sys2Proof.Machine
end

section
/-!
PROOF. R105: a device reset or a power cycle whose time falls within a hold-up waits for its end; it is performed where the hold-up
recovers and dropped where a BOR follows.
-/
namespace Sys2Proof.Machine

theorem State.setPwr_bt (s : State) (f : Power → Power) (a b : Nat) : (s.setPwr f).bt a b = s.bt a b := rfl
theorem State.setPwr_fd (s : State) (f : Power → Power) (a hi lo : Nat) : (s.setPwr f).fd a hi lo = s.fd a hi lo := rfl

@[simp] theorem State.resettle_pwr (s u : State) : (s.resettle u).pwr = u.pwr := rfl

@[simp] theorem State.resettle_bt (s u : State) (a b : Nat) : (s.resettle u).bt a b = u.bt a b := by
  simp [State.bt]

@[simp] theorem State.resettle_fd (s u : State) (a hi lo : Nat) : (s.resettle u).fd a hi lo = u.fd a hi lo := by
  simp [State.fd]

/-- A command that may reset the device completes with what holds of the settled state of its effect. -/
theorem State.runReset_complete {f : State → State} {s : State} {P : State → Prop}
    (h : P (s.resettle (f s.begun))) : ∃ t, s.runReset f = .next t ∧ P t := ⟨_, rfl, h⟩

/-- A command that leaves the clocks standing restarts TB and the tick from zero (R24, R25). -/
theorem State.resettle_clk_of_stands (s : State) {u : State} (h : u.clk.running = false) :
    (s.resettle u).clk = s.clk.stop := by
  simp [State.resettle, h]

/-! ### A device reset -/

theorem State.resetCause_bt (s : State) {k : Nat} (hk : k < 16) (join : Bool) :
    (s.resetCause k join).bt R.SYS_RESET_CAUSE k = true := by
  unfold State.resetCause
  dsimp only
  rw [State.wfSet_bt_ne _ _ (by omega) (.inl hk), State.wb_bt_same _ _ (by omega)]

/-- A reset that joins no other is named by LAST (R116). -/
theorem State.resetCause_last (s : State) (k : Nat) : (s.resetCause k false).fd R.SYS_RESET_CAUSE 18 16 = k % 8 :=
  State.wfSet_fd_same _ _ (by decide) _

/-- A DEVRST of a running module joins no other reset: it is a warm reset, then due no more, whose cause is set and named
(R68, R115, R116). -/
theorem State.deviceReset_devrst {s : State} (hrun : s.clk.running = true) :
    s.deviceReset 4 = ((s.warmReset.setPwr (fun p => { p with resetDue := none })).resetCause 4 false).setPwr
      (fun p => { p with third := false }) := by
  simp [State.deviceReset, hrun, resetScope, State.resetTaken, State.resetCount]

theorem State.warmReset_powerClk (s : State) : s.warmReset.powerClk = (s.pwr.restarted, s.clk.stop) := by
  have hlose : (s.lose false true).pwr = s.pwr := State.pwr_of_powerClk (s.lose_powerClk ..)
  simp only [State.warmReset, State.safModule_powerClk, State.pswEnables_powerClk, State.adrEnables_powerClk]
  exact Prod.ext (congrArg Power.restarted hlose) rfl

/-- A DEVRST of a running module leaves it in RUN with the clocks standing and no device reset due; a hold-up is as it was. -/
theorem State.deviceReset_devrst_powerClk {s : State} (hrun : s.clk.running = true) :
    (s.deviceReset 4).powerClk = ({ s.pwr.restarted with resetDue := none, third := false }, s.clk.stop) := by
  obtain ⟨hp, hc⟩ := State.powerClk_iff.1 s.warmReset_powerClk
  rw [State.deviceReset_devrst hrun, State.powerClk_iff]
  simp [State.resetCause, hp, hc]

/-- A DEVRST of a running module sets its cause bit and is named by LAST (R116). -/
theorem State.deviceReset_devrst_cause {s : State} (hrun : s.clk.running = true) :
    (s.deviceReset 4).bt R.SYS_RESET_CAUSE 4 = true ∧ (s.deviceReset 4).fd R.SYS_RESET_CAUSE 18 16 = 4 := by
  rw [State.deviceReset_devrst hrun, State.setPwr_bt, State.setPwr_fd]
  exact ⟨State.resetCause_bt _ (by decide) _, State.resetCause_last _ _⟩

/-! ### The core domains off, with nothing due -/

/-- The clocks stand, no hold-up runs and no reset waits. -/
structure State.NothingWaits (s : State) : Prop where
  clocks : s.clk.running = false
  holdup : s.pwr.holdup = false
  resetDue : s.pwr.resetDue = none
  cycleDue : s.pwr.cycleDue = none

/-- Only the power state and the clocks say whether a reset waits. -/
theorem State.NothingWaits.of_powerClk {s t : State} (hs : s.NothingWaits) (h : t.powerClk = s.powerClk) : t.NothingWaits := by
  have hp := State.pwr_of_powerClk h
  have hc := State.clk_of_powerClk h
  exact ⟨hc ▸ hs.clocks, hp ▸ hs.holdup, hp ▸ hs.resetDue, hp ▸ hs.cycleDue⟩

/-- What holds of the settled state of an effect that leaves nothing waiting. -/
theorem State.NothingWaits.resettle {u : State} (h : u.NothingWaits) (s : State) :
    (s.resettle u).pwr.holdup = false ∧ (s.resettle u).pwr.resetDue = none ∧ (s.resettle u).pwr.cycleDue = none ∧
      (s.resettle u).clk = s.clk.stop := by
  rw [State.resettle_pwr]
  exact ⟨h.holdup, h.resetDue, h.cycleDue, s.resettle_clk_of_stands h.clocks⟩

/-- Where a hold-up ends with the core domains off, resets that waited are discarded (R105). -/
theorem State.coreStop_borEvent_nothingWaits (s : State) (por : Bool) :
    ((s.coreStop por).setPwr (fun p => { p with borEvent := true })).NothingWaits := ⟨rfl, rfl, rfl, rfl⟩

theorem State.borReset_nothingWaits (s : State) : s.borReset.NothingWaits := by
  unfold State.borReset
  refine State.NothingWaits.of_powerClk ?_ (State.safPowerUp_powerClk _)
  refine ⟨?_, rfl, rfl, rfl⟩
  dsimp only
  repeat' split
  all_goals rfl

theorem State.porReset_nothingWaits (s : State) : s.porReset.NothingWaits := by
  unfold State.porReset
  refine State.NothingWaits.of_powerClk ?_ (State.safPowerUp_powerClk _)
  refine ⟨?_, rfl, rfl, rfl⟩
  dsimp only
  split <;> rfl

theorem State.resetCause_powerClk (s : State) (k : Nat) (join : Bool) : (s.resetCause k join).powerClk = s.powerClk := by
  simp [State.resetCause]

theorem State.NothingWaits.resetCause {s : State} (h : s.NothingWaits) (k : Nat) (join : Bool) :
    (s.resetCause k join).NothingWaits := h.of_powerClk (s.resetCause_powerClk k join)

/-- What counts the watchdog resets is no reset that waits. -/
theorem State.NothingWaits.setPwr_counts {s : State} (h : s.NothingWaits) (l : Power → List Nat) (b : Bool) :
    (s.setPwr (fun p => { p with wdogTimes := l p, third := b })).NothingWaits :=
  ⟨h.clocks, h.holdup, h.resetDue, h.cycleDue⟩

theorem State.NothingWaits.resetCount {s : State} (h : s.NothingWaits) (k : Nat) (join : Bool) :
    (s.resetCount k join).NothingWaits := by
  unfold State.resetCount
  extract_lets u
  have hu : u.NothingWaits := by
    unfold u
    split
    · exact h
    · exact h.setPwr_counts Power.wdogTimes false
  split
  · exact hu.of_powerClk (State.wfSet_powerClk ..)
  · exact (hu.of_powerClk (State.inc_powerClk u _)).setPwr_counts _ _
  · exact hu.of_powerClk (State.inc_powerClk ..)
  · exact hu

/-- A start from core domains that are off, with or without AON kept, leaves nothing waiting (R105, R115). -/
theorem State.NothingWaits.startUp {s : State} (h : s.NothingWaits) (hoff : s.pwr.coreOn = false) : s.startUp.NothingWaits := by
  have hbor : s.deviceReset 1 = (s.borReset.resetCause 1 false).resetCount 1 false := by
    simp [State.deviceReset, hoff, resetScope, State.resetTaken]
  have hpor : s.deviceReset 0 = (s.porReset.resetCause 0 false).resetCount 0 false := by
    simp [State.deviceReset, hoff, resetScope, State.resetTaken]
  unfold State.startUp
  split
  · exact h
  · split
    · rw [hbor]; exact (s.borReset_nothingWaits.resetCause 1 false).resetCount 1 false
    · rw [hpor]; exact (s.porReset_nothingWaits.resetCause 0 false).resetCount 0 false

/-! ### A power cycle -/

theorem State.holdRelease_nothingWaits (s : State) (n : Nat) : (s.holdRelease n).NothingWaits := ⟨rfl, rfl, rfl, rfl⟩

theorem State.holdRelease_coreOn (s : State) (n : Nat) : (s.holdRelease n).pwr.coreOn = false := rfl

/-! ### The end of a hold-up -/

/-- The module at the end of a recovered hold-up of `dur` units of 10 µs, before what waited is performed (R103, R104). -/
def State.holdupOver (s : State) (dur : Nat) : State :=
  let s := s.setPwr (fun p => { p with shed := false, holdup := false, fellAt := none, roseAt := none, confAt := none })
  let s := s.setPair (fun p => { p with alive := decide (2 ≤ s.dome && s.dome ≤ 5) })
  let s := (s.holdupLast dur 1).returnStages.pnlHoldup.recShow
  (s.post 1 .holdupRecovered).notify 1 0x84 ([1#8, 0#8, 0#8, 0#8] ++ leBytes 4 dur)

/-- What waited for the end of the hold-up: the power cycle, else the device reset (R105, R116). -/
def State.performWaiting (s : State) : State :=
  if s.pwr.cycleDue.any (fun t => t ≤ s.clk.now) then s.powerCycle
  else if s.pwr.resetDue.any (fun t => t ≤ s.clk.now) then s.deviceReset 4
  else s

/-- The hold-up of `s` began at `f` and recovers by the rise at `r` (R103). -/
structure State.HoldupRecovers (s : State) (f r : Nat) : Prop where
  fellAt : s.pwr.fellAt = some f
  confAt : s.pwr.confAt = some r
  holdup : s.pwr.holdup = true
  vbatOk : s.pwr.vbatOk = true
  confirmed : r + fabMs 1 ≤ s.clk.now
  good : holdupGood f r = true

theorem State.holdupOver_powerClk (s : State) (dur : Nat) : (s.holdupOver dur).powerClk =
    ({ s.pwr with shed := false, holdup := false, fellAt := none, roseAt := none, confAt := none }, s.clk) := by
  simp only [State.holdupOver, State.notify_powerClk, State.post_powerClk, State.recShow_powerClk, State.pnlHoldup_powerClk,
    State.returnStages_powerClk]
  rfl

/-- Through what follows a recovered hold-up (`holdupOver`) the waiting resets and the time stay; they are performed from there. -/
theorem State.HoldupRecovers.exec_next {s : State} {f r : Nat} (h : s.HoldupRecovers f r) :
    ∃ u : State, exec .holdupRecovered s = .next (s.resettle u.performWaiting) ∧
      u.pwr = { s.pwr with shed := false, holdup := false, fellAt := none, roseAt := none, confAt := none } ∧ u.clk = s.clk := by
  obtain ⟨hp, hc⟩ := State.powerClk_iff.1 (s.begun.holdupOver_powerClk ((s.pwr.roseAt.getD r - f) / 2000))
  obtain ⟨hf, hr, hh, hv, hconf, hg⟩ := h
  refine ⟨s.begun.holdupOver ((s.pwr.roseAt.getD r - f) / 2000), ?_, hp, hc⟩
  change execHoldupRecovered s = _
  refine State.runReset_next ?_
  split
  case h_1 f' r' hf' hr' =>
    obtain rfl : f = f' := Option.some.inj (hf.symm.trans hf')
    obtain rfl : r = r' := Option.some.inj (hr.symm.trans hr')
    refine (if_neg (by simp [hh, hv, hg, Nat.not_lt.2 hconf])).trans ?_
    extract_lets dur _ _ _ u
    change _ = u.performWaiting
    rfl
  case h_2 hne => exact absurd hr (hne f r hf)

theorem State.performWaiting_cycle {s : State} {d : Nat} (hcycle : s.pwr.cycleDue = some d) (hd : d ≤ s.clk.now) :
    s.performWaiting = s.powerCycle := by
  simp [State.performWaiting, hcycle, hd]

theorem State.performWaiting_reset {s : State} {d : Nat} (hcycle : s.pwr.cycleDue = none) (hreset : s.pwr.resetDue = some d)
    (hd : d ≤ s.clk.now) : s.performWaiting = s.deviceReset 4 := by
  simp [State.performWaiting, hcycle, hreset, hd]

/-- Within a hold-up no device reset is performed, due or not. -/
theorem exec_deviceReset_holdup {s : State} (hh : s.pwr.holdup = true) : exec .deviceReset s = .next (s.resettle s.begun) := by
  change execDeviceReset s = _
  refine State.runReset_next ?_
  split
  · exact if_neg (by simp [hh])
  · rfl

/-- Within a hold-up no power cycle is performed, due or not. -/
theorem exec_pwrHoldRelease_holdup {s : State} (hh : s.pwr.holdup = true) :
    exec .pwrHoldRelease s = .next (s.resettle s.begun) := by
  change execPwrHoldRelease s = _
  refine State.runReset_next ?_
  split
  · exact if_neg (by simp [hh])
  · rfl

/-- Where the hold-up of a running module recovers, a due device reset is performed. -/
theorem State.HoldupRecovers.reset_performed {s : State} {f r d : Nat} (h : s.HoldupRecovers f r)
    (hrun : s.clk.running = true) (hcycle : s.pwr.cycleDue = none) (hreset : s.pwr.resetDue = some d) (hd : d ≤ s.clk.now) :
    ∃ t, exec .holdupRecovered s = .next t ∧ t.pwr.holdup = false ∧ t.pwr.resetDue = none ∧ t.clk = s.clk.stop ∧
      t.bt R.SYS_RESET_CAUSE 4 = true ∧ t.fd R.SYS_RESET_CAUSE 18 16 = 4 := by
  obtain ⟨u, hu, hp, hc⟩ := h.exec_next
  have hurun : u.clk.running = true := by rw [hc]; exact hrun
  rw [State.performWaiting_reset (d := d) (by rw [hp]; exact hcycle) (by rw [hp]; exact hreset) (by rw [hc]; exact hd)] at hu
  obtain ⟨hp', hc'⟩ := State.powerClk_iff.1 (State.deviceReset_devrst_powerClk hurun)
  obtain ⟨hbt, hfd⟩ := State.deviceReset_devrst_cause hurun
  refine ⟨_, hu, ?_, ?_, ?_, ?_, ?_⟩
  · rw [State.resettle_pwr, hp', hp]; rfl
  · rw [State.resettle_pwr, hp']
  · exact s.resettle_clk_of_stands (by rw [hc']; rfl)
  · rw [State.resettle_bt, hbt]
  · rw [State.resettle_fd, hfd]

/-- Where the hold-up recovers, a due power cycle is performed. -/
theorem State.HoldupRecovers.cycle_performed {s : State} {f r d : Nat} (h : s.HoldupRecovers f r)
    (hcycle : s.pwr.cycleDue = some d) (hd : d ≤ s.clk.now) :
    ∃ t, exec .holdupRecovered s = .next t ∧ t.pwr.holdup = false ∧ t.pwr.cycleDue = none ∧ t.pwr.coreOn = false ∧
      t.clk = s.clk.stop := by
  obtain ⟨u, hu, hp, hc⟩ := h.exec_next
  rw [State.performWaiting_cycle (d := d) (by rw [hp]; exact hcycle) (by rw [hc]; exact hd)] at hu
  have hoff : u.powerCycle.NothingWaits := State.holdRelease_nothingWaits _ _
  obtain ⟨hholdup, _, hcycle', hclk⟩ := hoff.resettle s
  refine ⟨_, hu, hholdup, hcycle', ?_, hclk⟩
  rw [State.resettle_pwr]
  exact State.holdRelease_coreOn _ _

/-- Where the hold-up does not recover, what waited is dropped. -/
theorem execHoldupExpiry_drops {s : State} {f : Nat} (hf : s.pwr.fellAt = some f) (hh : s.pwr.holdup = true)
    (hd : f + fabMs 30 ≤ s.clk.now) (hno : ∀ r, s.pwr.confAt = some r → holdupGood f r = false) :
    ∃ t, exec .holdupExpiry s = .next t ∧ t.pwr.holdup = false ∧ t.pwr.resetDue = none ∧ t.pwr.cycleDue = none ∧
      t.clk = s.clk.stop := by
  have hconf : s.pwr.confAt.any (fun r => holdupGood f r) = false :=
    (Option.any_eq_false ..).2 fun r hr => by simp [hno r hr]
  change ∃ t, execHoldupExpiry s = .next t ∧ _
  refine State.runReset_complete (State.NothingWaits.resettle ?_ s)
  split
  case h_1 f' hf' =>
    obtain rfl : f = f' := Option.some.inj (hf.symm.trans hf')
    rw [if_neg (by simp [hh, hconf, Nat.not_lt.2 hd])]
    exact (State.coreStop_borEvent_nothingWaits _ _).startUp rfl
  case h_2 hne => exact absurd (hf.symm.trans hne) (by simp)

/-- Settles O47: within a hold-up the two commands do nothing; its recovery performs what is due, the power cycle before the device
reset (log entry 119), and its end in a BOR leaves nothing due. -/
theorem holdupDefersResets : Obligations.HoldupDefersResets := by
  unfold Obligations.HoldupDefersResets
  refine ⟨fun s hh => ⟨exec_deviceReset_holdup hh, exec_pwrHoldRelease_holdup hh⟩, ?_, ?_, ?_⟩
  · intro f r d s hf hr hh hv hc hg _ hrun hcycle hreset hd
    exact State.HoldupRecovers.reset_performed ⟨hf, hr, hh, hv, hc, hg⟩ hrun hcycle hreset hd
  · intro f r d s hf hr hh hv hc hg hcycle hd
    exact State.HoldupRecovers.cycle_performed ⟨hf, hr, hh, hv, hc, hg⟩ hcycle hd
  · intro f s hf hh hd hno
    exact execHoldupExpiry_drops hf hh hd hno

end Sys2Proof.Machine
end

section
/-!
PROOF. R509: UPD_ABORT of the session that began the update ends it before the first block, and is answered WRONG_STATE after it.
-/
namespace Sys2Proof.Machine

/-- Of the update, a command's acceptance changes no more than the time of the latest UPD command. -/
@[simp] theorem State.entered_upd_phase (s : State) (f b k : Nat) (c : Cmd) : (s.entered f b k c).upd.phase = s.upd.phase := by
  unfold State.entered State.enter; dsimp only; split <;> rfl
@[simp] theorem State.entered_upd_begun (s : State) (f b k : Nat) (c : Cmd) : (s.entered f b k c).upd.begun = s.upd.begun := by
  unfold State.entered State.enter; dsimp only; split <;> rfl
@[simp] theorem State.entered_upd_owner (s : State) (f b k : Nat) (c : Cmd) : (s.entered f b k c).upd.owner = s.upd.owner := by
  unfold State.entered State.enter; dsimp only; split <;> rfl

/-- An accepted command whose body refuses is taken and answered the status, and does nothing else. -/
theorem Accepted.runIn_refuses {F : Foot} {f b role st : Nat} {c : Cmd} {k : Nat} {s : State}
    {body : Nat → State → Reply × State} (h : Accepted f b role c k s)
    (hb : body k (s.entered f b k c) = refuse st (s.entered f b k c)) :
    s.runIn F (fun s => s.command f b role c body) =
      .next (F.finish s ((s.entered f b k c).answer k (256 * f + b) c st [])) :=
  State.runIn_next ((h.command body).trans (by rw [hb]; rfl))

/-- What UPD_ABORT does once it is accepted: its refusals, and the end of the update. -/
def updAbortBody (c : Cmd) (k : Nat) (s : State) : Reply × State :=
  if !c.payload.isEmpty then refuse stBAD_LENGTH s
  else if s.upd.phase != 1 || s.upd.begun then refuse stWRONG_STATE s
  else if s.upd.owner != some k then refuse stNOT_PERMITTED s
  else
    let t := s.setUpd (fun u => { u with phase := 0, owner := none })
    okWith [] ((if t.dome = 5 then (t.domeSet t.pwr.held).domeRefresh else t).updNote)

/-- UPD_ABORT is a command of role OEM with that body. -/
theorem exec_updAbort (c : Cmd) (s : State) :
    exec (.updAbort c) s = s.runIn (Foot.upd.and [.adr, .psw, .saf] [.adb, .adr, .psw, .sys])
      (fun s => s.command fUPD 0x14 2 c (updAbortBody c)) := rfl

/-- In UPDATE, UPD_ABORT of the owner in RECEIVING before the first block ends the update, and Dome goes back to the state it held. -/
theorem updAbortBody_of_not_begun {c : Cmd} {k : Nat} {s : State} (hp : c.payload = []) (hphase : s.upd.phase = 1)
    (hbegun : s.upd.begun = false) (howner : s.upd.owner = some k) (hdome : s.dome = 5) :
    updAbortBody c k s = okWith []
      (((s.setUpd (fun u => { u with phase := 0, owner := none })).domeSet s.pwr.held).domeRefresh).updNote := by
  have hdome' : (s.setUpd (fun u => { u with phase := 0, owner := none })).dome = 5 := hdome
  simp [updAbortBody, hp, hphase, hbegun, howner, hdome']

/-- After the first block UPD_ABORT is refused with WRONG_STATE, whatever the phase and whoever the owner (log entry 108). -/
theorem updAbortBody_of_begun {c : Cmd} (k : Nat) {s : State} (hp : c.payload = []) (hbegun : s.upd.begun = true) :
    updAbortBody c k s = refuse stWRONG_STATE s := by
  simp [updAbortBody, hp, hbegun]

/-- Settles O46: the body of an accepted UPD_ABORT sees the update as the command came upon it, and the first block's acceptance
decides between its two outcomes. -/
theorem updateAbort : Obligations.UpdateAbort := by
  unfold Obligations.UpdateAbort
  refine ⟨?_, ?_⟩
  · intro c k s hacc hp hphase hbegun howner hdome
    have hbody := updAbortBody_of_not_begun (c := c) (k := k) (s := s.entered fUPD 0x14 k c) hp
      (by rwa [State.entered_upd_phase]) (by rwa [State.entered_upd_begun]) (by rwa [State.entered_upd_owner])
      (by rwa [State.entered_dome])
    rw [State.entered_pwr] at hbody
    rw [exec_updAbort]
    exact State.command_answersOK hacc hbody ⟨rfl, rfl⟩
  · intro c k s hacc hp hbegun
    rw [exec_updAbort]
    exact hacc.runIn_refuses (updAbortBody_of_begun k hp (by rwa [State.entered_upd_begun]))

end Sys2Proof.Machine
end

section
/-!
PROOF. What every command keeps: its footprint (R13), the queue of waiting commands, the canonical form of the registers and the
consistency of the clocks (R23 to R25); and the two kinds of step.
-/
namespace Sys2Proof.Machine

/-! ### How every command ends -/

/-- A command with a footprint is run within it: it answers the finished state of its effect. -/
theorem exec_next_of_foot {i : Instr} {F : Foot} (h : foot i = some F) (s : State) :
    ∃ u, exec i s = .next (F.finish s u) := by
  cases i
  all_goals cases h
  all_goals exact ⟨_, rfl⟩

/-- The clocks a command may leave behind: as they were; standing; running anew from zero; with the clock lost; or with the work of
the first boundary that waited begun. -/
inductive Clk.Next (k : Clk) : Clk → Prop
  | same : Clk.Next k k
  | stop : Clk.Next k k.stop
  | start : Clk.Next k { k.stop with running := true }
  | lose : Clk.Next k { k with lost := true }
  | tick {tb : Nat} {l : List Nat} (h : k.due = tb :: l) : Clk.Next k (k.tickNext tb l)

/-- What a command answers: a next state with the queue as it was, registers in canonical form, and clocks that may follow. -/
def Ends (s : State) (o : Host.Outcome State Fault Refusal) : Prop :=
  ∃ t, o = .next t ∧ t.pending = s.pending ∧ t.regs.wf = true ∧ s.clk.Next t.clk

theorem Ran.ends {s : State} {ks : List Clk} {o : Host.Outcome State Fault Refusal} (h : Ran s ks o)
    (hk : ∀ k ∈ ks, s.clk.Next k) : Ends s o := by
  obtain ⟨t, ho, hp, hr, hc⟩ := h
  exact ⟨t, ho, hp, hr, hk _ hc⟩

theorem Ran.ends_same {s : State} {o : Host.Outcome State Fault Refusal} (h : Ran s [s.clk] o) : Ends s o :=
  h.ends (List.forall_mem_singleton.2 .same)

theorem Ran.ends_reset {s : State} {o : Host.Outcome State Fault Refusal} (h : Ran s [s.clk, s.clk.stop] o) : Ends s o :=
  h.ends (List.forall_mem_cons.2 ⟨.same, List.forall_mem_singleton.2 .stop⟩)

/-- A command within a footprint leaves queue and clocks as they were. -/
theorem exec_ends_of_foot {i : Instr} {F : Foot} (h : foot i = some F) (s : State) : Ends s (exec i s) := by
  obtain ⟨u, hu⟩ := exec_next_of_foot h s
  exact ⟨_, hu, F.finish_pending s u, F.finish_regs_wf s u, .same⟩

/-- Every command without a footprint answers a next state; only resets, the lock and the loss of the PLL, and the work of a boundary
touch the clocks. -/
theorem exec_ends_of_no_foot {i : Instr} (h : foot i = none) (s : State) : Ends s (exec i s) := by
  cases i
  case controlTick =>
    exact (execControlTick_ends s).elim Ran.ends_same fun ⟨_, _, hd, hr⟩ => hr.ends (List.forall_mem_singleton.2 (.tick hd))
  case pairCycleBoundary m =>
    exact (execPairCycleBoundary_ends m s).elim Ran.ends_same fun ⟨_, _, hd, hr⟩ => hr.ends (List.forall_mem_singleton.2 (.tick hd))
  case registerWrite ini a b v => exact (execRegisterWrite_ends ini a b v s).ends_same
  case bitAliasAccess ini a w => exact (execBitAliasAccess_ends ini a w s).ends_same
  case guardFirstWrite ini a v => exact (execGuardFirstWrite_ends ini a v s).ends_same
  case guardCompanionWrite ini a v => exact (execGuardCompanionWrite_ends ini a v s).ends_same
  case fabSigHostWrite n v => exact (execFabSigHostWrite_ends n v s).ends_same
  case updStrobeWrite ini v => exact (execUpdStrobeWrite_ends ini v s).ends_same
  case fabUgCfgWrite ini g v => exact (execFabUgCfgWrite_ends ini g v s).ends_same
  case ugTbcmpStrobe g => exact (execUgTbcmpStrobe_ends g s).ends_same
  case globalSnapshot ini v => exact (execGlobalSnapshot_ends ini v s).ends_same
  case sysBootlockWrite ini v => exact (execSysBootlockWrite_ends ini v s).ends_same
  case sessionIdleTimeout k l => exact (execSessionIdleTimeout_ends k l s).ends_same
  case apply f c => exact (execApply_ends f c s).ends_same
  case start f c => exact (execStart_ends f c s).ends_same
  case stop f c => exact (execStop_ends f c s).ends_same
  case reinit f c l => exact (execReinit_ends f c l s).ends_same
  case reinitComplete f ok => exact (execReinitComplete_ends f ok s).ends_same
  case setExpert f c l => exact (execSetExpert_ends f c l s).ends_same
  case linkClose c l => exact (execLinkClose_ends c l s).ends_same
  case vbatRiseVrst mv => exact (execVbatRiseVrst_ends mv s).ends_reset
  case holdupRecovered => exact (execHoldupRecovered_ends s).ends_reset
  case holdupExpiry => exact (execHoldupExpiry_ends s).ends_reset
  case clockLoss tcxo =>
    exact (execClockLoss_ends tcxo s).elim Ran.ends_same fun hr => hr.ends (List.forall_mem_singleton.2 .lose)
  case keyOn => exact (execKeyOn_ends s).ends_reset
  case keyoffShutdown l => exact (execKeyoffShutdown_ends l s).ends_same
  case keyoffFinal b => exact (execKeyoffFinal_ends b s).ends_reset
  case standbyTimeout l => exact (execStandbyTimeout_ends l s).ends_reset
  case powerOffHoldEnd => exact (execPowerOffHoldEnd_ends s).ends_reset
  case wake w => exact (execWake_ends w s).ends_reset
  case powerOnReset => exact (execPowerOnReset_ends s).ends_reset
  case brownOutReset => exact (execBrownOutReset_ends s).ends_reset
  case pinReset us => exact (execPinReset_ends us s).ends_reset
  case watchdogReset => exact (execWatchdogReset_ends s).ends_reset
  case deviceReset => exact (execDeviceReset_ends s).ends_reset
  case initComplete x l => exact (execInitComplete_ends x l s).ends_same
  case functionFault f => exact (execFunctionFault_ends f s).ends_same
  case sysStart c => exact (execSysStart_ends c s).ends_same
  case sysStop c => exact (execSysStop_ends c s).ends_same
  case sysShutdownNow c => exact (execSysShutdownNow_ends c s).ends_same
  case safetyReset => exact (execSafetyReset_ends s).ends_reset
  case pllLock => exact (execPllLock_ends s).elim Ran.ends_same fun hr => hr.ends (List.forall_mem_singleton.2 .start)
  case aonPowerLoss => exact (execAonPowerLoss_ends s).ends_reset
  case pwrHoldRelease => exact (execPwrHoldRelease_ends s).ends_reset
  all_goals cases h

/-- Every command ends. -/
theorem exec_ends (i : Instr) (s : State) : Ends s (exec i s) :=
  match h : foot i with
  | some _ => exec_ends_of_foot h s
  | none => exec_ends_of_no_foot h s

/-! ### The clocks stay consistent -/

theorem Clk.Ok.stop {k : Clk} (run : Bool) : Clk.Ok { k.stop with running := run } :=
  ⟨Nat.zero_lt_succ _, Nat.zero_lt_succ _, List.pairwise_singleton _ _, by simp [Clk.stop], fun _ => ⟨rfl, rfl, rfl⟩⟩

/-- Clocks that may follow a command are consistent where those before it were; a boundary waits only while the PLL is locked. -/
theorem Clk.Ok.next {k l : Clk} (h : k.Ok) (hn : k.Next l) : l.Ok := by
  cases hn with
  | same => exact h
  | stop => exact Clk.Ok.stop false
  | start => exact Clk.Ok.stop true
  | lose => exact ⟨h.phase, h.frac, h.sorted, h.past, h.still⟩
  | @tick tb l hd =>
    have hsub : (tb :: l) ⊆ k.tickStamp :: k.due := by rw [hd]; exact List.subset_cons_self _ _
    refine ⟨h.phase, h.frac, ?_, fun d hd' => h.past d (hsub hd'), fun hr => ?_⟩
    · have hs := h.sorted
      rw [hd] at hs
      exact hs.of_cons
    · rw [(h.still hr).2.2] at hd
      cases hd

/-- A period of CLK_FAB holds fewer CLK_CTL cycles than a tick. -/
theorem Clk.cycles_lt (k : Clk) : k.cycles < 20000 := by
  unfold Clk.cycles
  split <;> omega

/-- A period of CLK_FAB keeps the clocks consistent: a boundary it brings waits behind the others. -/
theorem Clk.Ok.advance {k : Clk} (h : k.Ok) (ppb : Int) : (k.advance ppb).Ok := by
  unfold Clk.advance
  split
  · exact ⟨h.phase, h.frac, h.sorted, h.past, h.still⟩
  · rename_i hrun
    have hgain : k.tb ≤ k.tb + (k.tbFrac + k.cycles * (1000000000 + ppb).toNat) / 8000000000 := Nat.le_add_right _ _
    refine ⟨Nat.mod_lt _ (by decide), Nat.mod_lt _ (by decide), ?_, ?_, fun hr => absurd hr (by simpa using hrun)⟩
    · dsimp only
      split
      · rw [← List.cons_append]
        exact List.pairwise_append.2 ⟨h.sorted, List.pairwise_singleton _ _, fun d hd t ht => by
          rw [List.mem_singleton.1 ht]; exact Nat.le_trans (h.past d hd) hgain⟩
      · exact h.sorted
    · dsimp only
      split
      · rw [← List.cons_append]
        intro d hd
        rcases List.mem_append.1 hd with hd | hd
        · exact Nat.le_trans (h.past d hd) hgain
        · exact Nat.le_of_eq (List.mem_singleton.1 hd)
      · exact fun d hd => Nat.le_trans (h.past d hd) hgain

theorem Clk.advance_now (k : Clk) (ppb : Int) : (k.advance ppb).now = k.now + 1 := by
  unfold Clk.advance
  split <;> rfl

/-! ### A step -/

theorem step_of_pending {s : State} {c : Instr} {cs : List Instr} (h : s.pending = c :: cs) :
    step s = exec c { s with pending := cs } := by
  unfold step
  rw [h]

theorem step_of_idle {s : State} (h : s.pending = []) : step s = .next s.idle := by
  unfold step
  rw [h]

/-- Where no bank holds a start back, the passing of time begins none. -/
theorem State.adrGo_of_none {s : State} (h : ∀ b ∈ s.adr.banks, b.go = none) : s.adrGo = s := by
  unfold State.adrGo
  rw [if_pos]
  exact List.all_eq_true.2 fun b hb => by rw [h b hb]; rfl

@[simp] theorem State.adrGo_clk (s : State) : s.adrGo.clk = s.clk := by
  unfold State.adrGo; split <;> rfl
@[simp] theorem State.adrGo_pending (s : State) : s.adrGo.pending = s.pending := by
  unfold State.adrGo; split <;> rfl

/-- The starts that the passing of time begins leave the registers in canonical form. -/
theorem State.adrGo_regs_wf {s : State} (h : s.regs.wf = true) : s.adrGo.regs.wf = true := by
  unfold State.adrGo
  split
  · exact h
  · dsimp only
    exact Regs.norm_wf _

theorem State.idle_clk (s : State) : s.idle.clk = s.clk.advance (trimPpb s.regs) := State.adrGo_clk _

theorem State.Inv.idle {s : State} (h : s.Inv) : s.idle.Inv :=
  ⟨State.adrGo_regs_wf h.regs, by rw [State.idle_clk]; exact h.clk.advance _⟩

/-- A command keeps the invariant, and establishes the canonical form of the registers. -/
theorem exec_inv {i : Instr} {s t : State} (h : s.clk.Ok) (he : exec i s = .next t) : t.Inv := by
  obtain ⟨u, hu, _, hr, hc⟩ := exec_ends i s
  obtain rfl : u = t := Host.Outcome.next.inj (hu.symm.trans he)
  exact ⟨hr, h.next hc⟩

/-! ### The obligations -/

/-- Settles O58: a command with a footprint is run within it, and what is run within a footprint is put back outside it (log entry
12). -/
theorem commandFrames : Obligations.CommandFrames := by
  unfold Obligations.CommandFrames
  intro i F s t hF he
  obtain ⟨u, hu⟩ := exec_next_of_foot hF s
  obtain rfl : F.finish s u = t := Host.Outcome.next.inj (hu.symm.trans he)
  exact F.finish_frame s u

/-- Settles O59: an idle step lets the clocks run on, and a command leaves clocks that may follow. -/
theorem stepKeepsInv : Obligations.StepKeepsInv := by
  unfold Obligations.StepKeepsInv
  intro s t hs hstep
  cases hp : s.pending with
  | nil =>
    obtain rfl : s.idle = t := Host.Outcome.next.inj ((step_of_idle hp).symm.trans hstep)
    exact hs.idle
  | cons c cs =>
    rw [step_of_pending hp] at hstep
    exact exec_inv (s := { s with pending := cs }) hs.clk hstep

/-- Settles O57: every command ends, so none faults or is refused (log entries 11 and 12). -/
theorem everyCommandCompletes : Obligations.EveryCommandCompletes := by
  unfold Obligations.EveryCommandCompletes
  intro i s
  obtain ⟨t, ht, hp, hr, _⟩ := exec_ends i s
  exact ⟨t, ht, hp, hr⟩

/-- Settles O55: a step matches on the queue. -/
theorem stepRunsFront : Obligations.StepRunsFront := by
  unfold Obligations.StepRunsFront
  intro c cs s h
  exact step_of_pending h

/-- Settles O56: an idle step is one period of the clocks and the starts that fall due in it (log entries 3 and 126). -/
theorem idleStep : Obligations.IdleStep := by
  unfold Obligations.IdleStep
  intro s h
  refine ⟨s.idle, step_of_idle h, ?_, (State.adrGo_pending _).trans h, fun hgo => ?_⟩
  · rw [State.idle_clk, Clk.advance_now]
  · have hidle : s.idle = { s with clk := s.clk.advance (trimPpb s.regs), out := [] } := State.adrGo_of_none hgo
    rw [hidle]
    exact ⟨rfl, rfl⟩

/-- Settles O60: at reset every register holds its Reset value and the clocks stand at zero. -/
theorem resetInv : Obligations.ResetInv := by
  unfold Obligations.ResetInv
  exact ⟨⟨rfl, Clk.Ok.stop (k := {}) false⟩, rfl⟩

end Sys2Proof.Machine
end

section
/-!
SUPPORT. The rules of a bus access: what completing it, failing it and answering it leave of the machine, and when a guard that waits
is served (R70, R80, R82).
-/
namespace Sys2Proof.Machine

@[simp] theorem State.settle_bus (s u : State) (ini : Initiator) : (s.settle u).bus ini = u.bus ini := by cases ini <;> rfl
@[simp] theorem State.settle_bt (s u : State) (a b : Nat) : (s.settle u).bt a b = u.bt a b := by simp [State.bt]
@[simp] theorem State.settle_fd (s u : State) (a hi lo : Nat) : (s.settle u).fd a hi lo = u.fd a hi lo := by simp [State.fd]
@[simp] theorem State.settle_shadow (s u : State) : (s.settle u).shadow = u.shadow := rfl
@[simp] theorem State.settle_fab (s u : State) : (s.settle u).fab = u.fab := rfl

/-- A pending value in the shadow hides the register; elsewhere a read of the shadow sees the register. -/
theorem State.shadowRd_congr {s t : State} {a : Nat} (hs : t.shadow = s.shadow) (hr : t.rd a = s.rd a) :
    t.shadowRd a = s.shadowRd a := by
  unfold State.shadowRd; rw [hs, hr]

@[simp] theorem State.settle_shadowRd (s u : State) (a : Nat) : (s.settle u).shadowRd a = u.shadowRd a :=
  State.shadowRd_congr rfl (State.settle_rd ..)

@[simp] theorem State.settle_guardOf (s u : State) (ini : Initiator) (b : Nat) : (s.settle u).guardOf ini b = u.guardOf ini b := rfl

@[simp] theorem State.busDone_bus (s : State) (ini : Initiator) : (s.busDone ini).bus ini = .done := by cases ini <;> rfl
@[simp] theorem State.busDone_rd (s : State) (ini : Initiator) (a : Nat) : (s.busDone ini).rd a = s.rd a := by cases ini <;> rfl
@[simp] theorem State.busDone_shadow (s : State) (ini : Initiator) : (s.busDone ini).shadow = s.shadow := by cases ini <;> rfl
@[simp] theorem State.busDone_guards (s : State) (ini : Initiator) : (s.busDone ini).fab.guards = s.fab.guards := by
  cases ini <;> rfl
@[simp] theorem State.busDone_guardOf (s : State) (ini j : Initiator) (b : Nat) :
    (s.busDone ini).guardOf j b = s.guardOf j b := by cases ini <;> rfl
@[simp] theorem State.busDone_shadowRd (s : State) (ini : Initiator) (a : Nat) : (s.busDone ini).shadowRd a = s.shadowRd a :=
  State.shadowRd_congr (s.busDone_shadow ini) (s.busDone_rd ini a)
@[simp] theorem State.busDone_bt (s : State) (ini : Initiator) (a b : Nat) : (s.busDone ini).bt a b = s.bt a b := by
  simp [State.bt]

@[simp] theorem State.busError_bus (s : State) (ini : Initiator) : (s.busError ini).bus ini = .error := by cases ini <;> rfl

/-- A bus error counts in FAB_DECODE_ERR and writes no other register (R70). -/
theorem State.busError_rd (s : State) (ini : Initiator) (a : Nat) :
    (s.busError ini).rd a = if a = R.FAB_DECODE_ERR then s.rd a + 1#32 else s.rd a := by
  have h : (s.busError ini).rd a = (s.inc R.FAB_DECODE_ERR).rd a := by cases ini <;> rfl
  rw [h, State.inc_rd]
  split <;> simp_all

@[simp] theorem State.busData_bus (s : State) (ini : Initiator) (w : Word) : (s.busData ini w).bus ini = .data w := by
  cases ini <;> rfl
@[simp] theorem State.busData_rd (s : State) (ini : Initiator) (w : Word) (a : Nat) : (s.busData ini w).rd a = s.rd a := by
  cases ini <;> rfl

/-! ### Guards that wait -/

@[simp] theorem State.guardDrop_rd (s : State) (ini : Initiator) (b a : Nat) : (s.guardDrop ini b).rd a = s.rd a := rfl
@[simp] theorem State.guardDrop_shadow (s : State) (ini : Initiator) (b : Nat) : (s.guardDrop ini b).shadow = s.shadow := rfl
@[simp] theorem State.guardDrop_shadowRd (s : State) (ini : Initiator) (b a : Nat) :
    (s.guardDrop ini b).shadowRd a = s.shadowRd a := rfl
@[simp] theorem State.guardDrop_locked (s : State) (ini : Initiator) (b x : Nat) (r : RegRow) :
    (s.guardDrop ini b).locked x r = s.locked x r := rfl

@[simp] theorem State.guardDrop_guardOf (s : State) (ini : Initiator) (b : Nat) : (s.guardDrop ini b).guardOf ini b = none := by
  unfold State.guardOf State.guardDrop
  rw [List.find?_eq_none]
  intro g hg
  have hother : (g.ini == ini && g.block == b) = false := Bool.not_eq_true' _ ▸ (List.mem_filter.1 hg).2
  rw [hother]
  exact Bool.false_ne_true

/-- A guard count names the address of the register and the cause (R82). -/
theorem State.guardErr_rd (s : State) (x cause a : Nat) :
    (s.guardErr x cause).rd a = if a = R.FAB_GUARD_ERR then s.rd a + 1#32
      else if a = R.FAB_GUARD_LAST then word (x / 4 * 4 + cause) else s.rd a := by
  have hne : R.FAB_GUARD_ERR ≠ R.FAB_GUARD_LAST := by decide
  unfold State.guardErr
  rw [State.wr_rd, State.inc_rd]
  by_cases he : a = R.FAB_GUARD_ERR
  · rw [if_pos he, if_neg (he ▸ hne), if_pos he, he]
  · rw [if_neg he, if_neg he]

@[simp] theorem State.guardErr_guardOf (s : State) (x cause : Nat) (ini : Initiator) (b : Nat) :
    (s.guardErr x cause).guardOf ini b = s.guardOf ini b := rfl

/-- A block in which the initiator holds nothing pending is reached as it is. -/
theorem State.reached_of_no_guard {s : State} {ini : Initiator} {b : Nat} (h : s.guardOf ini b = none) : s.reached ini b = s := by
  have he : s.guardExpire ini b = s := by unfold State.guardExpire; rw [h]
  unfold State.reached State.guardInterrupt
  rw [he, h]

theorem State.guardExpire_of_no_guard {s : State} {ini : Initiator} {b : Nat} (h : s.guardOf ini b = none) :
    s.guardExpire ini b = s := by
  unfold State.guardExpire; rw [h]

/-- Within 255 cycles a pending value stays (R82). -/
theorem State.guardExpire_of_young {s : State} {ini : Initiator} {b : Nat} {g : GuardPend} (h : s.guardOf ini b = some g)
    (hat : s.clk.now < g.at_ + 256) : s.guardExpire ini b = s := by
  unfold State.guardExpire; rw [h]; exact if_neg (Nat.not_le.2 hat)

/-! ### Shadow writes -/

@[simp] theorem State.shadowWr_shadowRd_same (s : State) (a g : Nat) (v : Word) :
    (s.shadowWr a g v).shadowRd a = v &&& maskAt a := by
  have h : (s.shadowWr a g v).shadow.lookup a = some (v &&& maskAt a) := by
    simp [State.shadowWr]
  unfold State.shadowRd
  rw [h]

/-- A shadow write changes no register but the pending bits (R88). -/
theorem State.shadowWr_rd_ne (s : State) (a g : Nat) (v : Word) {b : Nat} (h : b ≠ R.FAB_UG_PEND) :
    (s.shadowWr a g v).rd b = s.rd b := by
  unfold State.shadowWr
  rw [State.wb_rd, if_neg h]
  rfl

theorem State.shadowWr_bt_pend (s : State) (a : Nat) {g : Nat} (hg : g < 16) (v : Word) :
    (s.shadowWr a g v).bt R.FAB_UG_PEND g = true := by
  unfold State.shadowWr
  exact State.wb_bt_same _ _ (by omega) _

/-! ### Writes by type -/

/-- A register whose write does no more than its type says. -/
def plainReg (ini : Initiator) (x : Nat) (v : Word) : Bool :=
  (writeHooks ini v).all (fun h => (arrIdx x h.1 h.2.1 h.2.2.1).isNone)

/-- No other effect than that of the type stands behind a write of such a register. -/
theorem writeHooks_findSome_of_plain {ini : Initiator} {x : Nat} {v : Word} (h : plainReg ini x v = true) :
    (writeHooks ini v).findSome? (fun h => (arrIdx x h.1 h.2.1 h.2.2.1).map (fun i => h.2.2.2 i)) = none := by
  rw [List.findSome?_eq_none_iff]
  intro e he
  rw [Option.map_eq_none_iff]
  exact Option.isNone_iff_eq_none.1 (List.all_eq_true.1 h e he)

section
variable {s : State} {ini : Initiator} {x : Nat} {r : RegRow} {v : Word} (h : plainReg ini x v = true)
include h

theorem State.regWrite_rw (ht : r.ty = .rw) : s.regWrite ini x r v = s.wr x (merged (s.rd x) v (word r.mask)) := by
  simp [State.regWrite, writeHooks_findSome_of_plain h, ht]

theorem State.regWrite_w1c (ht : r.ty = .w1c) : s.regWrite ini x r v = s.wr x (s.rd x &&& ~~~(v &&& word r.mask)) := by
  simp [State.regWrite, writeHooks_findSome_of_plain h, ht]

theorem State.regWrite_w1s (ht : r.ty = .w1s) : s.regWrite ini x r v = s.wr x (s.rd x ||| (v &&& word r.mask)) := by
  simp [State.regWrite, writeHooks_findSome_of_plain h, ht]

theorem State.regWrite_rws (ht : r.ty = .rws) :
    s.regWrite ini x r v = s.shadowWr x r.ug (merged (s.shadowRd x) v (word r.mask)) := by
  simp [State.regWrite, writeHooks_findSome_of_plain h, ht]

theorem State.regWrite_kept (ht : r.ty = .ro ∨ r.ty = .wo ∨ r.ty = .rc ∨ r.ty = .snap) : s.regWrite ini x r v = s := by
  rcases ht with ht | ht | ht | ht <;> simp [State.regWrite, writeHooks_findSome_of_plain h, ht]

end

theorem State.lockedWrite_of_open {s : State} {ini : Initiator} {x : Nat} {r : RegRow} {v : Word} (h : s.locked x r = false) :
    s.lockedWrite ini x r v = s.regWrite ini x r v := by
  unfold State.lockedWrite
  rw [h]
  rfl

/-- Outside the region of the bit words a write goes to the register space itself (R75). -/
theorem State.write32_outside (s : State) (ini : Initiator) {a : Nat} (v : Word) (h : a < 0xE2000000 ∨ 0xE4000000 ≤ a) :
    s.write32 ini a v = s.access ini a v := by
  unfold State.write32
  refine if_neg ?_
  simp only [Bool.and_eq_true, decide_eq_true_eq]
  omega

/-- The value of a guarded register's first write is held pending in the comparator of its block (R82). -/
def State.guardHold (s : State) (ini : Initiator) (b : Block) (x : Nat) (v : Word) : State :=
  { s with fab := { s.fab with
    guards := { ini := ini, block := b.base, addr := x, value := v, at_ := s.clk.now } :: s.fab.guards } }

@[simp] theorem State.guardHold_rd (s : State) (ini : Initiator) (b : Block) (x : Nat) (v : Word) (a : Nat) :
    (s.guardHold ini b x v).rd a = s.rd a := rfl

@[simp] theorem State.guardHold_guardOf (s : State) (ini : Initiator) (b : Block) (x : Nat) (v : Word) :
    (s.guardHold ini b x v).guardOf ini b.base =
      some { ini := ini, block := b.base, addr := x, value := v, at_ := s.clk.now } := by
  simp [State.guardHold, State.guardOf]

section
variable {s : State} {ini : Initiator} {a x : Nat} {b : Block} {r : RegRow} (v : Word) (ha : a % 4 = 0)
  (hup : s.domainUp (regDomain b x) = true)
include ha hup

section
variable (hc : companionOf a = none) (hd : decodeAddr a = .reg b x r)
include hc hd

/-- A write that ownership discards (R91, step 2). -/
theorem State.access_barred {t : State} (hown : (s.reached ini b.base).ownBar ini b x r = some t) :
    s.access ini a v = t.busDone ini := by
  simp [State.access, ha, hc, hd, hup, hown]

/-- The first write of a guarded register (R91, step 4). -/
theorem State.access_guarded (hown : (s.reached ini b.base).ownBar ini b x r = none) (hg : r.guard = true) :
    s.access ini a v = ((s.reached ini b.base).guardHold ini b x v).busDone ini := by
  simp [State.access, ha, hc, hd, hup, hown, hg, State.guardHold]

/-- A write that ownership lets through to a register without a guard (R91, steps 3 and 5). -/
theorem State.access_unguarded (hown : (s.reached ini b.base).ownBar ini b x r = none) (hg : r.guard = false) :
    s.access ini a v = ((s.reached ini b.base).lockedWrite ini x r v).busDone ini := by
  simp [State.access, ha, hc, hd, hup, hown, hg]

end

/-- A write of a guard companion. -/
theorem State.access_companion (hc : companionOf a = some (b, x, r)) :
    s.access ini a v = ((s.guardExpire ini b.base).companionWrite ini b a x r v).busDone ini := by
  simp [State.access, ha, hc, hup]

end

/-- The companion of a value that waits for it: the complement lets it through to the lock and the register, another value drops it
with cause 0 (R82). -/
theorem State.companionWrite_waiting {s : State} {ini : Initiator} {b : Block} {x : Nat} {r : RegRow} {g : GuardPend}
    (a : Nat) (v : Word) (hg : s.guardOf ini b.base = some g) (hx : g.addr = x) (hown : s.ownBar ini b x r = none) :
    s.companionWrite ini b a x r v =
      if v != ~~~g.value then (s.guardDrop ini b.base).guardErr x 0
      else (s.guardDrop ini b.base).lockedWrite ini x r g.value := by
  simp [State.companionWrite, hg, hx, hown]

/-- A companion for which nothing waits counts with cause 2 (R82). -/
theorem State.companionWrite_orphan {s : State} {ini : Initiator} {b : Block} {x : Nat} {r : RegRow} (a : Nat) (v : Word)
    (hg : s.guardOf ini b.base = none) (hown : s.ownBar ini b x r = none) :
    s.companionWrite ini b a x r v = s.guardErr a 2 := by
  simp [State.companionWrite, hg, hown]

/-- REGISTER_WRITE of 32 bits is one write of its low word. -/
theorem exec_registerWrite32 (ini : Initiator) (a : Nat) (v : BitVec 64) (s : State) :
    exec (.registerWrite ini a 32 v) s = .next (s.settle (s.begun.write32 ini a (v.extractLsb' 0 32))) := rfl

/-- GUARD_FIRST_WRITE is a write in the register space. -/
theorem exec_guardFirstWrite (ini : Initiator) (a : Nat) (v : Word) (s : State) :
    exec (.guardFirstWrite ini a v) s = .next (s.settle (s.begun.access ini a v)) := rfl

/-- GUARD_COMPANION_WRITE is a write in the register space. -/
theorem exec_guardCompanionWrite (ini : Initiator) (a : Nat) (v : Word) (s : State) :
    exec (.guardCompanionWrite ini a v) s = .next (s.settle (s.begun.access ini a v)) := rfl

/-- BIT_ALIAS_ACCESS is an access in the region of the bit words. -/
theorem exec_bitAliasAccess (ini : Initiator) (a : Nat) (w : Option Word) (s : State) :
    exec (.bitAliasAccess ini a w) s = .next (s.settle (s.begun.aliasAccess ini a w)) := by
  change execBitAliasAccess ini a w s = _
  exact State.run_next rfl

/-- REGISTER_WRITE of 64 bits is one of the low word, then one of the high word at the next address (R70). -/
theorem exec_registerWrite64 {ini : Initiator} {a : Nat} {v : BitVec 64} {s : State}
    (h : (s.begun.write32 ini a (v.extractLsb' 0 32)).busFailed ini = false) :
    exec (.registerWrite ini a 64 v) s = .next (s.settle
      ((s.begun.write32 ini a (v.extractLsb' 0 32)).write32 ini (a + 4) (v.extractLsb' 32 32))) := by
  change execRegisterWrite ini a 64 v s = _
  exact State.run_next (by simp [h])

end Sys2Proof.Machine
end

section
/-!
PROOF. R72, R75, R82 and R91: direct writes by type, the guarded double write, and the addresses of the region of the bit words.
-/
namespace Sys2Proof.Machine

/-- Where nothing but a met condition answers none, the condition is met. -/
theorem cond_of_ite_eq_none {α : Type} {c : Prop} [Decidable c] {x : α} (h : (if c then none else some x) = none) : c := by
  split at h
  case isTrue hc => exact hc
  case isFalse => exact absurd h (by simp)

/-- Whether ownership lets a write through does not depend on what was sent before. -/
theorem State.begun_ownBar_none {s : State} {ini : Initiator} {b : Block} {x : Nat} {r : RegRow} (h : s.ownBar ini b x r = none) :
    s.begun.ownBar ini b x r = none := by
  unfold State.ownBar at h ⊢
  cases ini
  case dome => rfl
  case host =>
    simp only [State.begun_ugHostMay, State.begun_expert] at h ⊢
    rw [if_neg (by decide)] at h ⊢
    split at h
    case isTrue hsig => exact if_pos hsig
    case isFalse hsig =>
      rw [if_neg hsig]
      exact if_pos (cond_of_ite_eq_none h)

section
variable {s : State} {ini : Initiator} {a x : Nat} {b : Block} {r : RegRow} (ha : a % 4 = 0)
  (hup : s.domainUp (regDomain b x) = true) (hown : s.ownBar ini b x r = none)
include ha hup hown

/-- A write that passes every protection and does no more than its type says reaches the register. -/
theorem State.begun_access_plain {v : Word} (hc : companionOf a = none) (hd : decodeAddr a = .reg b x r)
    (hguard : s.guardOf ini b.base = none) (hrg : r.guard = false) (hlock : s.locked x r = false) :
    s.begun.access ini a v = (s.begun.regWrite ini x r v).busDone ini := by
  have hreached : s.begun.reached ini b.base = s.begun := State.reached_of_no_guard (s := s.begun) hguard
  rw [State.access_unguarded (s := s.begun) v ha hup hc hd (by rw [hreached]; exact State.begun_ownBar_none hown) hrg, hreached,
    State.lockedWrite_of_open (s := s.begun) hlock]

/-- The companion of a value that waits. -/
theorem State.begun_access_waiting {g : GuardPend} (v : Word) (hc : companionOf a = some (b, x, r))
    (hg : s.guardOf ini b.base = some g) (hx : g.addr = x) (hat : s.clk.now < g.at_ + 256) :
    s.begun.access ini a v =
      (if v != ~~~g.value then (s.begun.guardDrop ini b.base).guardErr x 0
        else (s.begun.guardDrop ini b.base).lockedWrite ini x r g.value).busDone ini := by
  rw [State.access_companion (s := s.begun) v ha hup hc, State.guardExpire_of_young (s := s.begun) hg hat,
    State.companionWrite_waiting (s := s.begun) a v hg hx (State.begun_ownBar_none hown)]

end

/-- Settles O53: where every protection passes, what reaches the register is decided by its type alone. -/
theorem directWrites : Obligations.DirectWrites := by
  unfold Obligations.DirectWrites
  intro ini a x b r v s ha hout hc hd hup hguard hown hrg hlock hplain
  have hplain : plainReg ini x (v.extractLsb' 0 32) = true := hplain
  rw [exec_registerWrite32, State.write32_outside _ _ _ hout, State.begun_access_plain ha hup hown hc hd hguard hrg hlock]
  refine ⟨_, rfl, by simp, ?_⟩
  simp only [State.settle_rd, State.busDone_rd, State.settle_bt, State.busDone_bt, State.settle_shadow, State.busDone_shadow,
    State.settle_shadowRd, State.busDone_shadowRd]
  cases ht : r.ty
  case rw =>
    rw [State.regWrite_rw hplain ht]
    simp +contextual [State.wr_rd_ne]
  case w1c =>
    rw [State.regWrite_w1c hplain ht]
    simp +contextual [State.wr_rd_ne]
  case w1s =>
    rw [State.regWrite_w1s hplain ht]
    simp +contextual [State.wr_rd_ne]
  case rws =>
    rw [State.regWrite_rws hplain ht]
    refine ⟨nofun, nofun, nofun, by simp, fun _ => ⟨?_, fun hg => State.shadowWr_bt_pend _ _ hg _,
      fun y hy => State.shadowWr_rd_ne _ _ _ _ hy⟩, fun h => absurd rfl h⟩
    exact State.shadowWr_shadowRd_same ..
  all_goals
    rw [State.regWrite_kept hplain (by simp [ht])]
    simp

/-- Settles O54: the comparator holds one value of an initiator in a block, and the next write there decides what becomes of it. -/
theorem guardedWrites : Obligations.GuardedWrites := by
  unfold Obligations.GuardedWrites
  refine ⟨?_, ?_, ?_, ?_⟩
  · intro ini a x b r v s ha hc hd hup hguard hown hrg
    have hreached : s.begun.reached ini b.base = s.begun := State.reached_of_no_guard (s := s.begun) hguard
    rw [exec_guardFirstWrite, State.access_guarded (s := s.begun) v ha hup hc hd
      (by rw [hreached]; exact State.begun_ownBar_none hown) hrg, hreached]
    exact ⟨_, rfl, by simp, by simp, by simp⟩
  · intro ini a x b r g s ha hc hup hg hx hat hown hlock hty hug hplain
    have hplain : plainReg ini x g.value = true := hplain
    have hacc : s.begun.access ini a (~~~g.value) = ((s.begun.guardDrop ini b.base).shadowWr x r.ug
        (merged (s.shadowRd x) g.value (word r.mask))).busDone ini := by
      rw [State.begun_access_waiting ha hup hown _ hc hg hx hat, if_neg (by simp), State.lockedWrite_of_open (by simpa using hlock),
        State.regWrite_rws hplain hty]
      simp
    rw [exec_guardCompanionWrite, hacc]
    refine ⟨_, rfl, by simp, ?_, ?_, ?_, fun y hy => ?_⟩
    · rw [State.settle_guardOf, State.busDone_guardOf]
      exact State.guardDrop_guardOf s ini b.base
    · simp
    · rw [State.settle_bt, State.busDone_bt, State.shadowWr_bt_pend _ _ hug]
    · rw [State.settle_rd, State.busDone_rd, State.shadowWr_rd_ne _ _ _ _ hy]
      simp
  · intro ini a x b r g v s ha hc hup hg hx hat hown hv
    have hacc := State.begun_access_waiting ha hup hown v hc hg hx hat
    rw [if_pos (by simpa using hv)] at hacc
    rw [exec_guardCompanionWrite, hacc]
    refine ⟨_, rfl, by simp, by simp, fun y => ?_⟩
    simp [State.guardErr_rd]
  · intro ini a x b r v s ha hc hup hg hown
    have hword : a / 4 * 4 = a := by omega
    have hacc : s.begun.access ini a v = (s.begun.guardErr a 2).busDone ini := by
      rw [State.access_companion (s := s.begun) v ha hup hc, State.guardExpire_of_no_guard (s := s.begun) hg,
        State.companionWrite_orphan (s := s.begun) a v hg (State.begun_ownBar_none hown)]
    rw [exec_guardCompanionWrite, hacc]
    refine ⟨_, rfl, by simp, fun y => ?_⟩
    simp [State.guardErr_rd, hword]

/-! ### The region of the bit words -/

/-- The word of bit `b` of the register at offset `o` names that register and that bit (R75). -/
theorem aliasOf_word {o b : Nat} (ho : o % 4 = 0) (hb : b < 32) :
    aliasOf (0xE2000000 + 32 * o + 4 * b) = (0xE0000000 + o, b) := by
  unfold aliasOf
  rw [Prod.mk.injEq]
  omega

/-- A bit word lies in the region and is aligned. -/
theorem State.aliasAccess_read {s : State} (ini : Initiator) {o b : Nat} (h : o < 0x100000) (ho : o % 4 = 0) (hb : b < 32) :
    s.aliasAccess ini (0xE2000000 + 32 * o + 4 * b) none =
      ((s.busRead ini (0xE0000000 + o)).map fun v => s.busData ini (word (b2n (bit v b)))).getD (s.busError ini) := by
  have hin : ((0xE2000000 + 32 * o + 4 * b) % 4 != 0 || decide (0xE2000000 + 32 * o + 4 * b < 0xE2000000) ||
      decide (0xE4000000 ≤ 0xE2000000 + 32 * o + 4 * b)) = false := by
    simp; omega
  unfold State.aliasAccess
  rw [hin, aliasOf_word ho hb]
  simp only [Bool.false_eq_true, if_false]
  cases s.busRead ini (0xE0000000 + o) <;> rfl

/-- Outside the region, or off its words, such an access is a bus error (log entry 16). -/
theorem State.aliasAccess_outside {s : State} (ini : Initiator) {a : Nat} (w : Option Word)
    (h : a < 0xE2000000 ∨ 0xE3FFFFFF < a ∨ a % 4 ≠ 0) : s.aliasAccess ini a w = s.busError ini := by
  unfold State.aliasAccess
  refine if_pos ?_
  simp
  omega

/-- Settles O43: a read of a bit word is a read of the register its address names, and shows the bit it names. -/
theorem bitAliasAddresses : Obligations.BitAliasAddresses := by
  unfold Obligations.BitAliasAddresses
  refine ⟨?_, ?_, ?_⟩
  · intro ini o b w s h ho hb hread
    rw [exec_bitAliasAccess, State.aliasAccess_read (s := s.begun) ini h ho hb]
    refine ⟨_, rfl, ?_, fun a => ?_⟩
    · simp [hread]
    · simp [hread]
  · intro ini o b s h ho hb hread
    rw [exec_bitAliasAccess, State.aliasAccess_read (s := s.begun) ini h ho hb]
    refine ⟨_, rfl, ?_⟩
    simp [hread]
  · intro ini a w s h
    rw [exec_bitAliasAccess, State.aliasAccess_outside (s := s.begun) ini w h]
    refine ⟨_, rfl, by simp, fun x => ?_⟩
    simp [State.busError_rd]

end Sys2Proof.Machine
end

section
/-!
PROOF. R51: while a class C command of a function runs, its other commands are answered BUSY; GET_INFO and GET_STATUS as ever.
-/
namespace Sys2Proof.Machine

/-- A function whose class C command runs, while the earlier bars do not hold: Dome serves (R48), the function is in use, held by no
session (R63) and by no partner of a pair (R460). -/
structure State.BusyFn (s : State) (f : Nat) : Prop where
  defined : f < 0x18
  serves : s.dome ≤ 3
  busy : s.busy f = true
  used : (s.fn f).state ≠ .unused
  pair : s.pairHeld = false
  owner : (s.fn f).owner = none

/-- The bar of a busy function, for a session that has the role, holds every command but GET_INFO and GET_STATUS. -/
theorem State.BusyFn.bar {s : State} {f b role k : Nat} (h : s.BusyFn f) (hrole : role ≤ (s.ses k).role) (hb : 2 ≤ b) :
    s.bar f b role k = some stBUSY := by
  have h5 : (s.dome == 5) = false := by have := h.serves; simp; omega
  have h6 : (s.dome == 6) = false := by have := h.serves; simp; omega
  have hstatus : (b == 0x00 || b == 0x01) = false := by simp; omega
  simp [State.bar, Nat.not_le.2 h.defined, h5, h6, hstatus, Nat.not_lt.2 hrole, h.used, h.pair, h.owner, h.busy]

/-- GET_INFO and GET_STATUS pass. -/
theorem State.BusyFn.bar_status {s : State} {f b : Nat} (h : s.BusyFn f) (k : Nat) (hb : b < 2) : s.bar f b 0 k = none := by
  have h5 : (s.dome == 5) = false := by have := h.serves; simp; omega
  have h6 : (s.dome == 6) = false := by have := h.serves; simp; omega
  have hstatus : (b == 0x00 || b == 0x01) = true := by simp; omega
  simp [State.bar, Nat.not_le.2 h.defined, h5, h6, hstatus, h.pair]

/-- GET_STATUS of a function in use answers its common bytes and its own. -/
theorem execGetStatus_accepted {f k : Nat} {c : Cmd} {s : State} (h : Accepted f 0x01 0 c k s) (hp : c.payload = [])
    (hused : (s.fn f).state ≠ .unused) :
    AnswersOK .upd (256 * f + 1) k c s (exec (.getStatus f c) s) (fun u p => u = s.entered f 0x01 k c ∧
      p = (s.entered f 0x01 k c).commonStatus f ++ (s.entered f 0x01 k c).fnStatus f k) := by
  refine State.command_answersOK h ?_ ⟨rfl, rfl⟩
  simp [hp, hused, okWith]

/-- GET_INFO answers what identifies the function. -/
theorem execGetInfo_accepted {f k : Nat} {c : Cmd} {s : State} (h : Accepted f 0x00 0 c k s) (hp : c.payload = []) :
    AnswersOK .upd (256 * f) k c s (exec (.getInfo f c) s) (fun u p => u = s.entered f 0x00 k c ∧
      p = (s.entered f 0x00 k c).infoBytes f) := by
  have hses : s.begun.sessionOf c = some k := h.session
  have hopen : (s.ses k).isOpen = true := h.opened
  have hrun : exec (.getInfo f c) s = s.runIn .upd (fun s => s.command f 0x00 0 c (fun _ s =>
      if !c.payload.isEmpty then refuse stBAD_LENGTH s else okWith (s.infoBytes f) s)) := by
    change execGetInfo f c s = _
    unfold execGetInfo
    rw [State.runIn_eq, State.runIn_eq]
    simp [hses, hopen]
  rw [hrun]
  refine State.command_answersOK h ?_ ⟨rfl, rfl⟩
  simp [hp, okWith]

/-- Settles O45: the bar of a busy function comes before every body, and it lets the two status commands pass (log entry 7). -/
theorem classCBusy : Obligations.ClassCBusy := by
  unfold Obligations.ClassCBusy
  intro f c k loop s hf _ h1 hdome hdome3 hturn hses hfresh hopen hbusy hused hpair howner
  have hfn : s.BusyFn f := ⟨hf, hdome3, hbusy, hused, hpair, howner⟩
  have heard (b : Nat) (hb : b < 256) : Heard f b c k s := ⟨hdome, hturn b hb, hses, hfresh, hopen⟩
  have answer (b : Nat) (hb : b < 256) (h2 : 2 ≤ b) {role : Nat} (hrole : role ≤ (s.ses k).role)
      {body : Nat → State → Reply × State} :
      s.begun.command f b role c body = (s.entered f b k c).answer k (256 * f + b) c stBUSY [] :=
    (heard b hb).command_barred (hfn.bar hrole h2) body
  have accepted (b : Nat) (hb : b < 2) : Accepted f b 0 c k s :=
    ⟨hdome, hturn b (by omega), hses, hfresh, hopen, hfn.bar_status k hb⟩
  change (_ → execConfigure f c s = _ ∧ execApply f c s = _ ∧ execReinit f c loop s = _) ∧ execStart f c s = _ ∧
    execStop f c s = _ ∧ (_ → execSetExpert f c loop s = _) ∧ _
  refine ⟨fun hr => ⟨State.runIn_next (answer 0x02 (by decide) (by decide) hr),
      State.run_next (answer 0x03 (by decide) (by decide) hr), State.run_next (answer 0x0E (by decide) (by decide) hr)⟩,
    State.run_next (answer 0x04 (by decide) (by decide) (Nat.zero_le _)), ?_,
    fun hr => State.run_next (answer 0x0F (by decide) (by decide) hr), fun hp => ⟨?_, ?_⟩⟩
  · unfold execStop
    rw [if_neg h1]
    exact State.run_next (answer 0x05 (by decide) (by decide) (Nat.zero_le _))
  · obtain ⟨u, p, hrun, rfl, rfl⟩ := execGetInfo_accepted (accepted 0x00 (by decide)) hp
    exact hrun
  · obtain ⟨u, p, hrun, rfl, rfl⟩ := execGetStatus_accepted (accepted 0x01 (by decide)) hp hused
    exact hrun

end Sys2Proof.Machine
end

section
/-!
SUPPORT. Where addresses of the signal bus, the timebase and the fabric's own registers decode to.
-/
namespace Sys2Proof.Machine

/-- Whether an address decodes to a register of which `p` holds. -/
def Target.regWith (p : Block → Nat → RegRow → Bool) : Target → Bool
  | .reg b x r => p b x r
  | _ => false

theorem Target.exists_of_regWith {p : Block → Nat → RegRow → Bool} {t : Target} (h : t.regWith p = true) :
    ∃ b x r, t = .reg b x r ∧ p b x r = true := by
  cases t
  case reg b x r => exact ⟨b, x, r, rfl, h⟩
  all_goals exact absurd h (by simp [Target.regWith])

/-- What every register of the live signal bus has in common: it is of FAB, of no function, without a guard and of no lock class. -/
def sigTarget (n : Nat) (b : Block) (x : Nat) (r : RegRow) : Bool :=
  x == R.FAB_SIG n && regDomain b x == .fab && b.base == 0xE0010000 && !r.guard && r.lock == 6 && (n < 0x1E0 || r.ty == .ro)

theorem decodeAddr_sig_regWith : ∀ n < 512, (decodeAddr (R.FAB_SIG n)).regWith (sigTarget n) = true := by decide +kernel

theorem companionOf_sig : ∀ n < 512, companionOf (R.FAB_SIG n) = none := by
  have h : ∀ n < 512, (companionOf (R.FAB_SIG n)).isNone = true := by decide +kernel
  exact fun n hn => Option.isNone_iff_eq_none.1 (h n hn)

/-- The address of a live signal entry is that of its own register. -/
theorem decodeAddr_sig {n : Nat} (hn : n < 512) :
    ∃ b r, decodeAddr (R.FAB_SIG n) = .reg b (R.FAB_SIG n) r ∧ regDomain b (R.FAB_SIG n) = .fab ∧ r.guard = false ∧
      r.lock = 6 ∧ (0x1E0 ≤ n → r.ty = .ro) := by
  obtain ⟨b, x, r, hd, h⟩ := Target.exists_of_regWith (decodeAddr_sig_regWith n hn)
  simp only [sigTarget, Bool.and_eq_true, Bool.or_eq_true, beq_iff_eq, Bool.not_eq_true', decide_eq_true_eq] at h
  obtain ⟨⟨⟨⟨⟨rfl, hdom⟩, _⟩, hg⟩, hl⟩, hty⟩ := h
  exact ⟨b, r, hd, hdom, hg, hl, fun h => hty.resolve_left (by omega)⟩

/-- An address past an array of registers, or before it, is none of them. -/
theorem arrIdx_of_not_mem {x base stride n : Nat} (hs : 0 < stride) (h : x < base ∨ base + n * stride ≤ x) :
    arrIdx x base stride n = none := by
  have hn : ¬ (base ≤ x ∧ (x - base) / stride < n) := fun ⟨hb, hl⟩ => by
    have := (Nat.div_lt_iff_lt_mul hs).1 hl
    omega
  unfold arrIdx
  rw [if_neg]
  simpa using fun hb _ => Nat.le_of_not_lt fun hl => hn ⟨hb, hl⟩

/-- The address of element `i` of an array of registers. -/
theorem arrIdx_elem (base : Nat) {stride n i : Nat} (hs : 0 < stride) (h : i < n) :
    arrIdx (base + stride * i) base stride n = some i := by
  simp [arrIdx, Nat.mul_div_cancel_left i hs, h]

theorem arrIdx_sig {n : Nat} (h : n < 512) : arrIdx (R.FAB_SIG n) (R.FAB_SIG 0) 4 512 = some n :=
  arrIdx_elem (R.FAB_SIG 0) (by decide) h

/-- What a write of a live signal entry does (R17, R18). -/
theorem State.regWrite_sig (s : State) (ini : Initiator) {n : Nat} (h : n < 512) (r : RegRow) (v : Word) :
    s.regWrite ini (R.FAB_SIG n) r v =
      if ini = .host ∨ 0x180 ≤ n ∧ n < 0x1C0 then s.sigHostWrite n v else s := by
  have past (base stride k : Nat) (hs : 0 < stride) (hb : base + k * stride ≤ R.FAB_SIG 0) :
      arrIdx (R.FAB_SIG n) base stride k = none :=
    arrIdx_of_not_mem hs (.inr (Nat.le_trans hb (Nat.add_le_add_left (Nat.zero_le _) _)))
  unfold State.regWrite writeHooks
  simp only [List.cons_append, List.findSome?_cons, past R.FAB_UPD_STROBE 4 1 (by decide) (by decide),
    past R.FAB_SNAP 4 1 (by decide) (by decide), past (R.FAB_UG_CFG 0) 16 16 (by decide) (by decide),
    past (R.FAB_UG_CMP_LO 0) 16 16 (by decide) (by decide), past (R.FAB_UG_CMP_HI 0) 16 16 (by decide) (by decide),
    past (R.FAB_UG_PER 0) 16 16 (by decide) (by decide), arrIdx_sig h, Option.map_none, Option.map_some]
  simp

/-- No lock class closes the signal bus (R84). -/
theorem State.locked_sig (s : State) {n : Nat} (h : n < 512) {r : RegRow} (hl : r.lock = 6) : s.locked (R.FAB_SIG n) r = false := by
  have hmer : arrIdx (R.FAB_SIG n) (R.MER_DEST 0) (R.MER_DEST 1 - R.MER_DEST 0) 64 = none :=
    arrIdx_of_not_mem (by decide) (.inl (by unfold R.FAB_SIG R.MER_DEST; omega))
  simp [State.locked, hl, hmer]

/-- A host write of a live signal entry passes every protection. -/
theorem State.access_sig (s : State) {n : Nat} (h : n < 512) (v : Word) (hup : s.domainUp .fab = true) :
    ∃ b : Nat, s.access .host (R.FAB_SIG n) v = ((s.reached .host b).sigHostWrite n v).busDone .host := by
  obtain ⟨b, r, hd, hdom, hg, hl, _⟩ := decodeAddr_sig h
  refine ⟨b.base, ?_⟩
  have hown : (s.reached .host b.base).ownBar .host b (R.FAB_SIG n) r = none := by
    simp [State.ownBar, arrIdx_sig h]
  rw [State.access_unguarded v (by unfold R.FAB_SIG; omega) (by rw [hdom]; exact hup) (companionOf_sig n h) hd hown hg,
    State.lockedWrite_of_open (State.locked_sig _ h hl), State.regWrite_sig _ _ h, if_pos (.inl rfl)]

/-- What a discarded guard value leaves of the registers. -/
theorem State.reached_rd (s : State) (ini : Initiator) (b : Nat) {a : Nat} (h : a ≠ R.FAB_GUARD_ERR) (h' : a ≠ R.FAB_GUARD_LAST) :
    (s.reached ini b).rd a = s.rd a := by
  have expire (t : State) : (t.guardExpire ini b).rd a = t.rd a := by
    unfold State.guardExpire
    cases t.guardOf ini b with
    | none => rfl
    | some g => dsimp only; split <;> simp [State.guardErr_rd, h, h']
  have interrupt (t : State) : (t.guardInterrupt ini b).rd a = t.rd a := by
    unfold State.guardInterrupt
    cases t.guardOf ini b with
    | none => rfl
    | some g => simp [State.guardErr_rd, h, h']
  rw [State.reached, interrupt, expire]

/-- Whether an address is that of an RO register of the fabric's domain. -/
def roFab (a : Nat) : Bool := (decodeAddr a).regWith (fun b x r => x == a && regDomain b x == .fab && r.ty == .ro)

/-- A read of an RO register that follows the module's state (R72). -/
theorem State.busRead_live {s : State} {ini : Initiator} {a : Nat} {w : Word} (ha : a % 4 = 0) (hro : roFab a = true)
    (hup : s.domainUp .fab = true) (hl : s.liveReg ini a = some w) : s.busRead ini a = some w := by
  obtain ⟨b, x, r, hd, h⟩ := Target.exists_of_regWith hro
  simp only [Bool.and_eq_true, beq_iff_eq] at h
  obtain ⟨⟨rfl, hdom⟩, hty⟩ := h
  have hb : s.domainUp (regDomain b x) = true := by rw [hdom]; exact hup
  simp [State.busRead, ha, hd, hb, State.peek, hty, hl]

theorem roFab_sig_reserved {k : Nat} (h : 0x1E0 ≤ k) (h' : k < 0x200) : roFab (R.FAB_SIG k) = true := by
  obtain ⟨b, r, hd, hdom, _, _, hty⟩ := decodeAddr_sig h'
  simp [roFab, hd, Target.regWith, hdom, hty h]

/-- The reserved signal entries read as zero (R18). -/
theorem State.liveReg_sig_reserved (s : State) (ini : Initiator) {k : Nat} (h : 0x1E0 ≤ k) (h' : k < 0x200) :
    s.liveReg ini (R.FAB_SIG k) = some 0#32 := by
  have hlo : R.FAB_SIG 0x1E0 ≤ R.FAB_SIG k := by unfold R.FAB_SIG; omega
  have hhi : R.FAB_SIG k < R.FAB_SIG 0x200 := by unfold R.FAB_SIG; omega
  have hne {a : Nat} (ha : a < R.FAB_SIG 0x1E0 ∨ R.FAB_SIG 0x200 ≤ a) : R.FAB_SIG k ≠ a := by omega
  unfold State.liveReg
  simp [hlo, hhi, hne (a := R.TB_NOW_LO) (by decide), hne (a := R.TB_NOW_HI) (by decide),
    hne (a := R.TB_TICK_COUNT_LO) (by decide), hne (a := R.TB_TICK_COUNT_HI) (by decide),
    hne (a := R.TB_TICK_STAMP_LO) (by decide), hne (a := R.TB_TICK_STAMP_HI) (by decide),
    hne (a := R.TB_TICK_PHASE) (by decide), hne (a := R.MBX_CLAIM) (by decide), hne (a := R.AIN_FRAME) (by decide),
    hne (a := R.PAIR_STATUS) (by decide), hne (a := R.SYS_PROFILE) (by decide), hne (a := R.FAB_DOMAIN) (by decide),
    hne (a := R.ETH_PTP_G_LO) (by decide), hne (a := R.ETH_GCL_DATA) (by decide), hne (a := R.ETH_GCL_BASE_LO) (by decide),
    hne (a := R.ETH_GCL_BASE_HI) (by decide), hne (a := R.ETH_GCL_CYCLE) (by decide), hne (a := R.ETH_GCL_LEN) (by decide),
    hne (a := R.CAM_TBL_DATA) (by decide), hne (a := R.PNL_FB_DATA) (by decide)]

end Sys2Proof.Machine
end

section
/-!
PROOF. R18: host writes of the signal bus. R26: the latches of the timebase. R65 and R84: writes that ownership or a lock discards.
-/
namespace Sys2Proof.Machine

/-- FAB_SIG_HOST_WRITE is a host write of its entry. -/
theorem exec_fabSigHostWrite (n : Nat) (v : Word) (s : State) :
    exec (.fabSigHostWrite n v) s = .next (s.settle (s.begun.access .host (R.FAB_SIG (n % 512)) v)) := by
  change execFabSigHostWrite n v s = _
  exact State.run_next rfl

/-- A host write of an entry that is not the host's is discarded, and counted unless the entry is reserved (R18). -/
theorem State.sigHostWrite_other (s : State) {n : Nat} (v : Word) (h : ¬ (0x180 ≤ n ∧ n < 0x1C0)) :
    s.sigHostWrite n v = if n < 0x1E0 then s.inc R.FAB_SIG_WR_ERR else s := by
  unfold State.sigHostWrite
  rw [if_neg]
  simpa using h

/-- A host write of an entry of the host's own sets it (R17). -/
theorem State.sigHostWrite_rd (s : State) {n : Nat} (v : Word) (h : 0x180 ≤ n ∧ n < 0x1C0) (a : Nat) :
    (s.sigHostWrite n v).rd a = (s.setSig n v).rd a := by
  unfold State.sigHostWrite
  rw [if_pos (by simpa using h)]
  rfl

/-- What a host write of entry `n` leaves in the entries (R17, R18). -/
theorem State.sigHostWrite_sig (s : State) {n k : Nat} (hn : n < 512) (hk : k < 512) (v : Word) :
    (s.sigHostWrite n v).sig k = if k = n ∧ 0x180 ≤ n ∧ n < 0x1C0 then v else s.sig k := by
  by_cases hown : 0x180 ≤ n ∧ n < 0x1C0
  · by_cases hkn : k = n
    · subst hkn
      rw [if_pos ⟨rfl, hown⟩]
      exact (s.sigHostWrite_rd v hown _).trans (State.setSig_sig _ _ _ hn)
    · rw [if_neg fun h => hkn h.1]
      exact (s.sigHostWrite_rd v hown _).trans (State.setSig_rd _ _ _ (by unfold R.FAB_SIG; omega)
        (by unfold R.FAB_SIG R.FAB_SIG_VALID; omega))
  · rw [if_neg fun h => hown h.2, State.sigHostWrite_other _ _ hown]
    split
    · exact (State.inc_rd ..).trans (if_neg (by unfold R.FAB_SIG R.FAB_SIG_WR_ERR; omega))
    · rfl

/-- What a host write of entry `n` counts (R18, log entry 118). -/
theorem State.sigHostWrite_err (s : State) {n : Nat} (hn : n < 512) (v : Word) :
    (s.sigHostWrite n v).rd R.FAB_SIG_WR_ERR =
      if n < 0x180 ∨ (0x1C0 ≤ n ∧ n < 0x1E0) then s.rd R.FAB_SIG_WR_ERR + 1#32 else s.rd R.FAB_SIG_WR_ERR := by
  by_cases hown : 0x180 ≤ n ∧ n < 0x1C0
  · rw [if_neg (by omega), s.sigHostWrite_rd v hown]
    exact State.setSig_rd _ _ _ (by unfold R.FAB_SIG R.FAB_SIG_WR_ERR; omega) (by unfold R.FAB_SIG_VALID R.FAB_SIG_WR_ERR; omega)
  · rw [State.sigHostWrite_other _ _ hown]
    by_cases hcount : n < 0x1E0
    · rw [if_pos hcount, if_pos (by omega), State.inc_rd, if_pos rfl]
    · rw [if_neg hcount, if_neg (by omega)]

/-- Settles O40: every host write of an entry reaches the rule of the signal bus, which lets the host's own entries through alone. -/
theorem hostSignalWrites : Obligations.HostSignalWrites := by
  unfold Obligations.HostSignalWrites
  refine ⟨fun n v s hn hup => ?_, fun ini k s h h' hup => ?_⟩
  · obtain ⟨b, hacc⟩ := State.access_sig s.begun hn v hup
    rw [exec_fabSigHostWrite, Nat.mod_eq_of_lt hn, hacc]
    refine ⟨_, rfl, fun k hk => ?_, ?_⟩
    · have hkept : (s.begun.reached .host b).sig k = s.sig k :=
        State.reached_rd _ _ _ (by unfold R.FAB_SIG R.FAB_GUARD_ERR; omega) (by unfold R.FAB_SIG R.FAB_GUARD_LAST; omega)
      rw [← hkept, ← State.sigHostWrite_sig _ hn hk]
      simp [State.sig]
    · rw [State.settle_rd, State.busDone_rd, State.sigHostWrite_err _ hn, State.reached_rd _ _ _ (by decide) (by decide),
        State.begun_rd]
  · exact State.busRead_live (by unfold R.FAB_SIG; omega) (roFab_sig_reserved h h') hup (s.liveReg_sig_reserved ini h h')

/-! ### The timebase -/

/-- TB_NOW_LO_READ gives TB's low half and latches the high one. -/
theorem exec_tbNowLoRead (ini : Initiator) {s : State} (hup : s.domainUp .fab = true) :
    exec (.tbNowLoRead ini) s = .next (Foot.shared.finish s ((s.begun.busData ini (word s.clk.tb)).tbNowLatch ini)) := by
  change execTbNowLoRead ini s = _
  exact State.runIn_next (by simp [State.fetched, hup])

/-- TB_TICK_COUNT_LO_READ gives the count's low half and latches the rest. -/
theorem exec_tbTickCountLoRead (ini : Initiator) {s : State} (hup : s.domainUp .fab = true) :
    exec (.tbTickCountLoRead ini) s =
      .next (Foot.shared.finish s ((s.begun.busData ini (word s.clk.tickCount)).tbCountLatch ini)) := by
  change execTbTickCountLoRead ini s = _
  exact State.runIn_next (by simp [State.fetched, hup])

section
variable {s : State} (hup : s.domainUp .fab = true) (ini : Initiator)
include hup

theorem State.busRead_tbNowHi : s.busRead ini R.TB_NOW_HI = some (s.latches ini).nowHi :=
  State.busRead_live (by decide) (by decide +kernel) hup rfl

theorem State.busRead_tbTickCountHi : s.busRead ini R.TB_TICK_COUNT_HI = some (s.latches ini).countHi :=
  State.busRead_live (by decide) (by decide +kernel) hup rfl

theorem State.busRead_tbTickStampLo : s.busRead ini R.TB_TICK_STAMP_LO = some (s.latches ini).stampLo :=
  State.busRead_live (by decide) (by decide +kernel) hup rfl

theorem State.busRead_tbTickStampHi : s.busRead ini R.TB_TICK_STAMP_HI = some (s.latches ini).stampHi :=
  State.busRead_live (by decide) (by decide +kernel) hup rfl

end

/-- After TB_NOW_LO_READ. -/
theorem State.tbNowLatch_latches (s : State) (ini o : Initiator) (w : Word) :
    (Foot.shared.finish s ((s.begun.busData ini w).tbNowLatch ini)).latches o =
      if o = ini then { s.latches ini with nowHi := word (s.clk.tb / 4294967296) } else s.latches o := by
  cases ini <;> cases o <;> rfl

/-- After TB_TICK_COUNT_LO_READ. -/
theorem State.tbCountLatch_latches (s : State) (ini o : Initiator) (w : Word) :
    (Foot.shared.finish s ((s.begun.busData ini w).tbCountLatch ini)).latches o =
      if o = ini then { s.latches ini with
        countHi := word (s.clk.tickCount / 4294967296), stampLo := word s.clk.tickStamp,
        stampHi := word (s.clk.tickStamp / 4294967296) } else s.latches o := by
  cases ini <;> cases o <;> rfl

/-- Settles O42: each initiator has latches of its own, which its own read of a low half sets and no other access changes. -/
theorem timebaseLatches : Obligations.TimebaseLatches := by
  unfold Obligations.TimebaseLatches
  refine ⟨fun ini o s ho hup => ?_, fun ini o s ho hup => ?_, fun ini s hup => ?_⟩
  · have hup' : (Foot.shared.finish s ((s.begun.busData ini (word s.clk.tb)).tbNowLatch ini)).domainUp .fab = true := hup
    refine ⟨_, exec_tbNowLoRead ini hup, by cases ini <;> rfl, ?_, ?_, ?_⟩
    · rw [State.busRead_tbNowHi hup', State.tbNowLatch_latches, if_pos rfl]
    · rw [State.tbNowLatch_latches, if_pos rfl]
    · rw [State.tbNowLatch_latches, if_neg ho]
  · have hup' : (Foot.shared.finish s ((s.begun.busData ini (word s.clk.tickCount)).tbCountLatch ini)).domainUp .fab = true := hup
    refine ⟨_, exec_tbTickCountLoRead ini hup, by cases ini <;> rfl, ?_, ?_, ?_, ?_, ?_⟩
    · rw [State.busRead_tbTickCountHi hup', State.tbCountLatch_latches, if_pos rfl]
    · rw [State.busRead_tbTickStampLo hup', State.tbCountLatch_latches, if_pos rfl]
    · rw [State.busRead_tbTickStampHi hup', State.tbCountLatch_latches, if_pos rfl]
    · rw [State.tbCountLatch_latches, if_pos rfl]
    · rw [State.tbCountLatch_latches, if_neg ho]
  · exact ⟨State.busRead_tbNowHi hup ini, State.busRead_tbTickCountHi hup ini, State.busRead_tbTickStampLo hup ini,
      State.busRead_tbTickStampHi hup ini⟩

/-! ### Protections -/

/-- Settles O50: ownership is tested before the lock, and each discards the write with its own count (R91). -/
theorem protectedWrites : Obligations.ProtectedWrites := by
  unfold Obligations.ProtectedWrites
  refine ⟨?_, ?_⟩
  · intro a x f b r v s ha hout hc hd hup hguard hf hexp hsig hug
    have hreached : s.begun.reached .host b.base = s.begun := State.reached_of_no_guard (s := s.begun) hguard
    have hug' : ¬ (R.FAB_UG_CFG 0 ≤ x ∧ x < R.FAB_UG_CFG 16) := by omega
    have hown : s.begun.ownBar .host b x r = some (s.begun.inc R.MBX_OWN_ERR) := by
      simp [State.ownBar, hsig, hug', hf, hexp]
    rw [exec_registerWrite32, State.write32_outside _ _ _ (.inl hout),
      State.access_barred (s := s.begun) _ ha hup hc hd (by rw [hreached]; exact hown)]
  · intro a x b r v s ha hout hc hd hup hguard hg hlock hbt
    have hreached : s.begun.reached .dome b.base = s.begun := State.reached_of_no_guard (s := s.begun) hguard
    have hlocked : s.begun.locked x r = true := by simp [State.locked, hlock, hbt]
    rw [exec_registerWrite32, State.write32_outside _ _ _ (.inl hout),
      State.access_unguarded (s := s.begun) _ ha hup hc hd rfl hg, hreached]
    simp [State.lockedWrite, hlocked]

end Sys2Proof.Machine
end

section
/-!
PROOF. Chapters 01 and 03: the fabric's accesses and events complete.
-/
namespace Sys2Proof.Machine

/-- GUARD_TIMEOUT drops a value whose companion did not come within 255 cycles. -/
theorem exec_guardTimeout {ini : Initiator} {blk : Nat} {g : GuardPend} {s : State} (hg : s.guardOf ini blk = some g)
    (hat : g.at_ + 256 ≤ s.clk.now) :
    exec (.guardTimeout ini blk) s = .next (Foot.shared.finish s ((s.begun.guardDrop ini blk).guardErr g.addr 1)) := by
  have hg' : s.begun.guardOf ini blk = some g := hg
  change execGuardTimeout ini blk s = _
  refine State.runIn_next ?_
  simp [State.guardExpire, hg', hat]

/-- A stalled read ends with a bus error, a stalled write as if done (R79). -/
def State.stallEnd (s : State) (ini : Initiator) (a : Nat) (w : Bool) : State :=
  let t := (s.inc R.FAB_STALL_ERR).wr R.FAB_STALL_LAST (word a)
  if w then t.busDone ini
  else
    match ini with
    | .host => { t with fab := { t.fab with hostBus := .error } }
    | .dome => { t with fab := { t.fab with domeBus := .error } }

theorem exec_stallWatchdog (ini : Initiator) (a : Nat) (w : Bool) (s : State) :
    exec (.stallWatchdog ini a w) s = .next (Foot.shared.finish s (s.begun.stallEnd ini a w)) := by
  change execStallWatchdog ini a w s = _
  exact State.runIn_next (by cases ini <;> cases w <;> rfl)

theorem State.stallEnd_rd (s : State) (ini : Initiator) (a : Nat) (w : Bool) (b : Nat) :
    (s.stallEnd ini a w).rd b = ((s.inc R.FAB_STALL_ERR).wr R.FAB_STALL_LAST (word a)).rd b := by
  cases ini <;> cases w <;> rfl

theorem State.stallEnd_bus (s : State) (ini : Initiator) (a : Nat) (w : Bool) :
    (s.stallEnd ini a w).bus ini = if w then .done else .error := by
  cases ini <;> cases w <;> rfl

/-- SIG_HOST_AGE_EXPIRY invalidates an entry whose time has passed (R22). -/
theorem exec_sigHostAgeExpiry {n t0 : Nat} {s : State} (hat : s.fab.sigAt.lookup n = some t0)
    (hms : s.fd R.FAB_SIG_HOST_AGE 15 0 ≠ 0) (hpast : s.tbPast t0 (tbMs (s.fd R.FAB_SIG_HOST_AGE 15 0)) = true) :
    exec (.sigHostAgeExpiry n) s = .next (Foot.shared.finish s
      { s.begun.dropSig n with fab := { s.fab with sigAt := s.fab.sigAt.filter (fun e => e.1 != n) } }) := by
  have hpast' : s.begun.tbPast t0 (tbMs (s.fd R.FAB_SIG_HOST_AGE 15 0)) = true := hpast
  change execSigHostAgeExpiry n s = _
  exact State.runIn_next (by simp [hat, hms, hpast'])

/-- An entry that became invalid reads as zero (R21). -/
theorem State.dropSig_sig (s : State) {n : Nat} (h : n < 512) : (s.dropSig n).sig n = 0#32 := by
  have : R.FAB_SIG n ≠ R.FAB_SIG_VALID (n / 32) := by unfold R.FAB_SIG R.FAB_SIG_VALID; omega
  unfold State.sig State.dropSig
  rw [State.wb_rd, if_neg this, State.wr_rd_same]

theorem State.dropSig_sigOk (s : State) (n : Nat) : (s.dropSig n).sigOk n = false :=
  State.wb_bt_same _ _ (Nat.mod_lt _ (by decide)) _

/-- UG_TBCMP_STROBE strobes a group whose armed compare value TB has reached (R86). -/
theorem exec_ugTbcmpStrobe {g : Nat} {s : State} (hg : g < 16) (harm : ugArmed (s.rd (R.FAB_UG_CFG g)) = true)
    (hcmp : s.tbReached (s.ugCmp g) = true) :
    exec (.ugTbcmpStrobe g) s = .next (s.settle ((s.begun.strobe g).ugNext g (s.ugCmp g))) := by
  have hcmp' : s.begun.tbReached (s.begun.ugCmp g) = true := hcmp
  change execUgTbcmpStrobe g s = _
  refine State.run_next ?_
  simp only [State.begun_rd, hg, harm, hcmp', decide_true, Bool.and_self, if_true]
  rfl

/-! UPD_STROBE_WRITE, FAB_UG_CFG_WRITE, GLOBAL_SNAPSHOT and SYS_BOOTLOCK_WRITE are writes of their registers. -/

theorem exec_updStrobeWrite (ini : Initiator) (v : Word) (s : State) :
    exec (.updStrobeWrite ini v) s = .next (s.settle (s.begun.access ini R.FAB_UPD_STROBE v)) := by
  change execUpdStrobeWrite ini v s = _
  exact State.run_next rfl

theorem exec_fabUgCfgWrite (ini : Initiator) (g : Nat) (v : Word) (s : State) :
    exec (.fabUgCfgWrite ini g v) s = .next (s.settle (s.begun.access ini (R.FAB_UG_CFG (g % 16)) v)) := by
  change execFabUgCfgWrite ini g v s = _
  exact State.run_next rfl

theorem exec_globalSnapshot (ini : Initiator) (v : Word) (s : State) :
    exec (.globalSnapshot ini v) s = .next (s.settle (s.begun.access ini R.FAB_SNAP v)) := by
  change execGlobalSnapshot ini v s = _
  exact State.run_next rfl

theorem exec_sysBootlockWrite (ini : Initiator) (v : Word) (s : State) :
    exec (.sysBootlockWrite ini v) s = .next (s.settle (s.begun.access ini R.SYS_BOOTLOCK v)) := by
  change execSysBootlockWrite ini v s = _
  exact State.run_next rfl

/-- Settles O1: a write is an access of the fabric, carried out on the whole machine; the events reach the fabric's own registers. -/
theorem fabricCommandsComplete : Obligations.FabricCommandsComplete := by
  unfold Obligations.FabricCommandsComplete
  refine ⟨exec_registerWrite32, fun _ _ _ _ => exec_registerWrite64, exec_bitAliasAccess, exec_guardFirstWrite,
    exec_guardCompanionWrite, fun _ _ _ _ => exec_guardTimeout, ?stall, exec_fabSigHostWrite, ?age,
    fun ini _ => exec_tbNowLoRead ini, fun ini _ => exec_tbTickCountLoRead ini, exec_updStrobeWrite, exec_fabUgCfgWrite,
    fun _ _ => exec_ugTbcmpStrobe, exec_globalSnapshot, exec_sysBootlockWrite⟩
  case stall =>
    intro ini a w s
    refine ⟨_, exec_stallWatchdog ini a w s, ?_, ?_, ?_⟩
    · rw [Foot.finish_rd_in (Foot.shared_fab (by decide) (by decide)), State.stallEnd_rd, State.wr_rd_ne _ _ (by decide),
        State.inc_rd, if_pos rfl, State.begun_rd]
    · rw [Foot.finish_rd_in (Foot.shared_fab (by decide) (by decide)), State.stallEnd_rd, State.wr_rd_same]
    · have h := s.begun.stallEnd_bus ini a w
      cases ini <;> exact h
  case age =>
    intro n t0 s hat hms hn hpast
    have hsig : Foot.shared.holds (R.FAB_SIG n) = true :=
      Foot.shared_fab (by unfold R.FAB_SIG; omega) (by unfold R.FAB_SIG; omega)
    have hvalid : Foot.shared.holds (R.FAB_SIG_VALID (n / 32)) = true :=
      Foot.shared_fab (by unfold R.FAB_SIG_VALID; omega) (by unfold R.FAB_SIG_VALID; omega)
    refine ⟨_, exec_sigHostAgeExpiry hat hms hpast, ?_, ?_, rfl⟩
    · exact (Foot.finish_rd_in hsig).trans (s.begun.dropSig_sig hn)
    · unfold State.sigOk State.bt
      rw [Foot.finish_rd_in hvalid]
      exact s.begun.dropSig_sigOk n

end Sys2Proof.Machine
end

section
/-!
SUPPORT. What the acceptance of a command leaves of the sessions, and the ends of a command that may reach the whole machine.
-/
namespace Sys2Proof.Machine

/-- What a change of session `k` leaves of every session. -/
theorem State.setSes_ses_of {α : Type} (φ : Session → α) {g : Session → Session} (hg : ∀ x, φ (g x) = φ x) (s : State) (k j : Nat) :
    φ ((s.setSes k g).ses j) = φ (s.ses j) := by
  unfold State.ses State.setSes updAt
  simp only [List.getD_eq_getElem?_getD, List.getElem?_modify]
  cases s.mbx.sessions[j]? with
  | none => simp
  | some x => by_cases h : k = j <;> simp [h, hg]

/-- Of the sessions, a command's acceptance changes no more than the time of the latest command. -/
theorem State.entered_ses_of {α : Type} (φ : Session → α) (hφ : ∀ x t, φ { x with lastCmd := t } = φ x) (s : State)
    (f b k j : Nat) (c : Cmd) : φ ((s.entered f b k c).ses j) = φ (s.ses j) := by
  have h := State.setSes_ses_of φ (fun x => hφ x s.clk.tb) (s.begun.takeInbox (256 * f + b) c) k j
  unfold State.entered State.enter
  split <;> exact h

@[simp] theorem State.entered_ses_udp (s : State) (f b k j : Nat) (c : Cmd) : ((s.entered f b k c).ses j).udp = (s.ses j).udp :=
  State.entered_ses_of Session.udp (fun _ _ => rfl) s f b k j c

section
variable {f b role k : Nat} {c : Cmd} {s u : State} {body : Nat → State → Reply × State} (h : Accepted f b role c k s)
include h

/-- The body answers. -/
theorem Accepted.run_now {st : Nat} {p : List Byte} (hb : body k (s.entered f b k c) = (.now st p, u)) :
    s.run (fun s => s.command f b role c body) = .next (s.settle (u.answer k (256 * f + b) c st p)) :=
  State.run_next ((h.command body).trans (by rw [hb]; rfl))

/-- The body leaves the answer to a later end. -/
theorem Accepted.run_later (hb : body k (s.entered f b k c) = (.later, u)) :
    s.run (fun s => s.command f b role c body) = .next (s.settle (u.keep k c none)) :=
  State.run_next ((h.command body).trans (by rw [hb]; rfl))

/-- The body has answered itself. -/
theorem Accepted.run_done (hb : body k (s.entered f b k c) = (.done, u)) :
    s.run (fun s => s.command f b role c body) = .next (s.settle u) :=
  State.run_next ((h.command body).trans (by rw [hb]; rfl))

/-- The body of a command within a footprint leaves the answer to a later end. -/
theorem Accepted.runIn_later {F : Foot} (hb : body k (s.entered f b k c) = (.later, u)) :
    s.runIn F (fun s => s.command f b role c body) = .next (F.finish s (u.keep k c none)) :=
  State.runIn_next ((h.command body).trans (by rw [hb]; rfl))

end

end Sys2Proof.Machine
end

section
/-!
PROOF. Chapter 02: the commands that every function answers complete.
-/
namespace Sys2Proof.Machine

/-- CONFIGURE holds back a payload that passes its function's check; a function other than MER replaces what it held before. -/
theorem execConfigure_accepted {f k : Nat} {c : Cmd} {s : State} (h : Accepted f 0x02 1 c k s) (hr : commonRefusal f 0x02 = none)
    (hf : f ≠ 2) (hst : s.cfgState f = true) (hchk : (s.entered f 0x02 k c).cfgCheck f c.payload = stOK) :
    AnswersOK .upd (256 * f + 2) k c s (exec (.configure f c) s) (fun u p => p = [] ∧
      u = (s.entered f 0x02 k c).setFn f (fun x => { x with pending := some c.payload })) := by
  refine State.command_answersOK h ?_ ⟨rfl, rfl⟩
  simp [hr, hst, hchk, okWith, hf]

/-- CONFIGURE of MER joins the slots it names to those it held before (R211). -/
theorem execConfigure_mer {k : Nat} {c : Cmd} {s : State} (h : Accepted 2 0x02 1 c k s) (hst : s.cfgState 2 = true)
    (hchk : (s.entered 2 0x02 k c).cfgCheck 2 c.payload = stOK) :
    AnswersOK .upd 0x0202 k c s (exec (.configure 2 c) s) (fun u p => p = [] ∧
      u = (s.entered 2 0x02 k c).setFn 2 (fun x => { x with
        pending := some (match x.pending with | some q => merMerge q c.payload | none => c.payload) })) := by
  refine State.command_answersOK h ?_ ⟨rfl, rfl⟩
  have hr : commonRefusal 2 0x02 = none := by decide
  simp only [hr, State.entered_cfgState, hst, hchk, okWith, Bool.not_true, bne_self_eq_false, Bool.false_eq_true, if_false]
  congr 2
  funext x
  cases x.pending <;> rfl

section
variable {f k : Nat} {c : Cmd} {s : State} (h : Accepted f 0x03 1 c k s) (hr : commonRefusal f 0x03 = none) (hp : c.payload = [])
  (hst : s.cfgState f = true) (himp : s.prm.importing = false)
include h hr hp hst himp

/-- The state in which APPLY of function `f` leaves the machine before it answers: configuration `q` in effect, `p` stored as the one
applied. -/
def State.applied (s : State) (f : Nat) (p q : List Byte) : State :=
  ((s.fnApply f q).setFn f (fun x => { x with
    pending := none, applied := some p, state := if x.state = .stopped then .configured else x.state })).prmTxn (fun y =>
      y.setConfig f p)

/-- APPLY of the pending configuration, else of the whole one in force. -/
theorem execApply_accepted {p q : List Byte}
    (hq : (s.fn f).pending = some q ∧ p = cfgMerge f ((s.fn f).applied.getD []) q ∨
      (s.fn f).pending = none ∧ p = (s.fn f).applied.getD [] ∧ q = cfgWhole f p)
    (hblk : (s.entered f 0x03 k c).cfgBlocked f p = false) (hcam : f = 13 → p = [] ∨ camApplyOk p = true) :
    exec (.apply f c) s = .next (s.settle
      (if f = 15 then State.ipChanged (s.entered f 0x03 k c) (((s.entered f 0x03 k c).applied f p q).answer k (256 * f + 3) c stOK [])
        else ((s.entered f 0x03 k c).applied f p q).answer k (256 * f + 3) c stOK [])) := by
  change execApply f c s = _
  have hcam' : (f = 13 && !p.isEmpty && !camApplyOk p) = false := by
    by_cases hf : f = 13
    · rcases hcam hf with rfl | ho
      · simp
      · simp [ho]
    · simp [hf]
  by_cases hf : f = 15
  · rw [if_pos hf]
    refine h.run_done ?_
    rcases hq with ⟨hpend, rfl⟩ | ⟨hpend, rfl, rfl⟩ <;>
      simp_all [State.applied]
  · rw [if_neg hf]
    refine h.run_now ?_
    rcases hq with ⟨hpend, rfl⟩ | ⟨hpend, rfl, rfl⟩ <;>
      simp_all [State.applied, okWith]

end

/-- START of a function that is configured, in RUN and with no stage of it blocked. -/
theorem execStart_accepted {f k : Nat} {c : Cmd} {s : State} (h : Accepted f 0x04 0 c k s) (hsvc : serviceFn f = false)
    (hlen : c.payload.length = (if f = 8 then 1 else 0)) (hmode : f = 8 → u8 c.payload 0 ≤ 2)
    (hst : (s.fn f).state = .configured ∨ f = 23 ∧ (s.fn f).state = .stopped) (hpow : s.power = 3)
    (hblk : s.fnBlocked f = false) :
    exec (.start f c) s = .next (s.settle (((s.entered f 0x04 k c).fnStart f c.payload).answer k (256 * f + 4) c stOK [])) := by
  have hr : commonRefusal f 0x04 = none := by simp [commonRefusal, hsvc]
  have h1 : f ≠ 1 := fun he => absurd hsvc (by subst he; decide)
  have hmode' : (f = 8 && 2 < u8 c.payload 0) = false := by
    by_cases hf : f = 8
    · simp [hmode hf]
    · simp [hf]
  have hst' : ((s.fn f).state == .configured || (f == 23 && (s.fn f).state == .stopped)) = true := by simpa using hst
  change execStart f c s = _
  refine h.run_now ?_
  simp [hr, h1, hlen, hmode', hst', hpow, hblk, okWith]

/-- STOP of a function that runs. -/
theorem execStop_accepted {f k : Nat} {c : Cmd} {s : State} (h : Accepted f 0x05 0 c k s) (hsvc : serviceFn f = false)
    (hp : c.payload = []) (hst : (s.fn f).state = .running) :
    exec (.stop f c) s = .next (s.settle (((s.entered f 0x05 k c).fnStop f).answer k (256 * f + 5) c stOK [])) := by
  have hr : commonRefusal f 0x05 = none := by simp [commonRefusal, hsvc]
  have h1 : f ≠ 1 := fun he => absurd hsvc (by subst he; decide)
  change execStop f c s = _
  unfold execStop
  rw [if_neg h1]
  refine h.run_now ?_
  simp [hr, h1, hp, hst, okWith]

/-- REINIT of a function in BASIC begins it; its end answers. -/
theorem execReinit_accepted {f k : Nat} {c : Cmd} {s : State} (loop : Nat) (h : Accepted f 0x0E 1 c k s)
    (hr : commonRefusal f 0x0E = none) (hp : c.payload = []) (hown : (s.fn f).owner = none) :
    exec (.reinit f c loop) s = .next (s.settle
      (((s.entered f 0x0E k c).doReinit f loop (some (k, 256 * f + 14, c))).keep k c none)) := by
  change execReinit f c loop s = _
  exact h.run_later (by simp [hr, hp, hown])

/-- The end of a REINIT that no command asked for restores the configuration last applied (R66). -/
theorem execReinitComplete_restores {f : Nat} {p : List Byte} {s : State} (hst : (s.fn f).state = .reinit)
    (happ : (s.fn f).applied = some p) (hrep : (s.fn f).reply = none) (h13 : f ≠ 0x13) (h16 : f ≠ 0x16) :
    exec (.reinitComplete f true) s = .next (s.settle
      ((s.begun.fnRestore f p).setFn f (fun y => { y with reply := none, state := .configured })).domeRefresh) := by
  change execReinitComplete f true s = _
  exact State.run_next (by simp [hst, happ, hrep, h13, h16])

/-- The end of a REINIT of a function without a configuration answers the command that asked for it. -/
theorem execReinitComplete_answers {f k op : Nat} {c : Cmd} {s : State} (hst : (s.fn f).state = .reinit)
    (happ : (s.fn f).applied = none) (hrep : (s.fn f).reply = some (k, op, c)) :
    exec (.reinitComplete f true) s = .next (s.settle
      (((s.begun.setFn f (fun y => { y with
        reply := none, state := if f = 0x13 ∨ f = 0x16 then .running else .stopped })).domeRefresh).answer k op c stOK [])) := by
  change execReinitComplete f true s = _
  exact State.run_next (by simp [hst, happ, hrep])

section
variable {f k : Nat} {c : Cmd} {s : State} (loop : Nat) (h : Accepted f 0x0F 2 c k s) (hr : commonRefusal f 0x0F = none)
  (hlen : c.payload.length = 1)
include h hr hlen

/-- SET_EXPERT of a running function in BASIC: one of the control plane is handed over at the next tick boundary (R64), another at
once. -/
theorem execSetExpert_takes (hreq : u8 c.payload 0 = 1) (hudp : (s.ses k).udp = none) (hst : (s.fn f).state = .running)
    (hown : (s.fn f).owner = none) (htr : (s.fn f).transfer = none) :
    exec (.setExpert f c loop) s = .next (s.settle
      (if controlFns.contains f then
        ((s.entered f 0x0F k c).setFn f (fun y => { y with transfer := some (s.clk.tickCount, c) })).keep k c none
      else ((s.entered f 0x0F k c).takeExpert f k).answer k (256 * f + 15) c stOK [])) := by
  change execSetExpert f c loop s = _
  by_cases hctl : controlFns.contains f = true
  · rw [if_pos hctl]
    refine h.run_later ?_
    simp only [List.contains_eq_mem, decide_eq_true_eq] at hctl
    simp [hr, hlen, hreq, hudp, hst, hown, htr, hctl]
  · rw [if_neg hctl]
    refine h.run_now ?_
    simp only [List.contains_eq_mem, decide_eq_true_eq] at hctl
    simp [hr, hlen, hreq, hudp, hst, hown, htr, hctl, okWith]

/-- SET_EXPERT back to BASIC restores the function (R66). -/
theorem execSetExpert_returns (hreq : u8 c.payload 0 = 0) (hown : (s.fn f).owner.isSome = true) :
    exec (.setExpert f c loop) s = .next (s.settle
      (((s.entered f 0x0F k c).returnBasic f loop (some (k, 256 * f + 15, c))).keep k c none)) := by
  change execSetExpert f c loop s = _
  refine h.run_later ?_
  have hown' : (s.fn f).owner.isNone = false := by simpa using hown
  simp [hr, hlen, hreq, hown', -Option.isNone_iff_eq_none]

end

/-- EXPERT_TRANSFER after the tick boundary. -/
theorem execExpertTransfer_takes {f k t0 : Nat} {c : Cmd} {s : State} (htr : (s.fn f).transfer = some (t0, c))
    (ht : t0 < s.clk.tickCount) (hses : s.sessionOf c = some k) :
    exec (.expertTransfer f) s = .next ((Foot.shared.and [.pos] [.eth, .pos]).finish s
      (((s.begun.setFn f (fun y => { y with transfer := none })).takeExpert f k).answer k (256 * f + 15) c stOK [])) := by
  have hses' : (s.begun.setFn f (fun y => { y with transfer := none })).sessionOf c = some k := hses
  change execExpertTransfer f s = _
  exact State.runIn_next (by simp [htr, Nat.not_le.2 ht, hses'])

/-- Settles O2: each body of chapter 02's common commands, accepted and with a payload it takes. -/
theorem commonCommandsComplete : Obligations.CommonCommandsComplete := by
  unfold Obligations.CommonCommandsComplete
  refine ⟨fun _ _ _ _ => execGetInfo_accepted, fun _ _ _ _ => execGetStatus_accepted, fun _ _ _ _ => execConfigure_accepted,
    fun _ _ _ => execConfigure_mer, ?pending, ?apply, fun _ _ _ _ => execStart_accepted, fun _ _ _ _ => execStop_accepted,
    fun _ _ _ loop _ => execReinit_accepted loop, fun _ _ _ => execReinitComplete_restores,
    fun _ _ _ _ _ => execReinitComplete_answers, ?now, ?later, fun _ _ _ loop _ => execSetExpert_returns loop,
    fun _ _ _ _ _ => execExpertTransfer_takes, fun f s _ _ => ?fault⟩
  case pending =>
    intro f c k q s h hr hp hst himp hq h3 h4 h13 h15
    have hblk : (s.entered f 0x03 k c).cfgBlocked f (cfgMerge f ((s.fn f).applied.getD []) q) = false := by
      simp [State.cfgBlocked, h3, h4]
    rw [execApply_accepted h hr hp hst himp (.inl ⟨hq, rfl⟩) hblk (fun he => absurd he h13), if_neg h15]
    rfl
  case apply =>
    rintro f c k p q s t h hr hp hst himp hq hblk hcam rfl
    exact execApply_accepted h hr hp hst himp hq hblk hcam
  case now =>
    intro f c k loop s h hr hlen hreq hudp hst hown htr hctl
    rw [execSetExpert_takes loop h hr hlen hreq hudp hst hown htr, hctl]
    rfl
  case later =>
    intro f c k loop s h hr hlen hreq hudp hst hown htr hctl
    rw [execSetExpert_takes loop h hr hlen hreq hudp hst hown htr, hctl]
    rfl
  case fault =>
    change execFunctionFault f s = _
    exact State.run_next rfl

end Sys2Proof.Machine
end

section
/-!
PROOF. Chapters 01, 02 and 04: the SYS commands, the end of a class C command and the boundaries complete.
-/
namespace Sys2Proof.Machine

/-- SYS_START with nothing blocked takes the module to RUN. -/
theorem execSysStart_accepted {c : Cmd} {k : Nat} {s : State} (h : Accepted 1 0x04 0 c k s) (hp : c.payload = [])
    (hheld : s.pwr.held ≠ 3) (hpow : s.power = 3) (hblk : (List.range 24).any (fun f => s.starts f && s.fnBlocked f) = false) :
    exec (.sysStart c) s = .next (s.settle ((s.entered 1 0x04 k c).goRun.answer k 0x0104 c stOK [])) := by
  change execSysStart c s = _
  refine h.run_now (p := []) (st := stOK) ?_
  simp only [sysStartBody, hp, State.entered_pwr, hheld, State.entered_power, hpow, State.entered_starts, State.entered_fnBlocked, hblk]
  rfl

/-- SYS_STOP outside READY takes the module to READY. -/
theorem execSysStop_accepted {c : Cmd} {k : Nat} {s : State} (h : Accepted 1 0x05 1 c k s) (hp : c.payload = [])
    (hheld : s.pwr.held ≠ 2) :
    exec (.sysStop c) s = .next (s.settle ((s.entered 1 0x05 k c).goReady.answer k 0x0105 c stOK [])) := by
  change execSysStop c s = _
  refine h.run_now (p := []) (st := stOK) ?_
  simp [sysStopBody, hp, hheld, okWith]

/-- The end of a class C command answers it. -/
theorem execClassCCommandDone_answers {fn : Nat} {r : Running} {x : State × Nat × List Byte} {s : State}
    (hr : s.mbx.running.find? (fun r => r.fn == fn) = some r) (hx : s.begun.classCEnd r = some x) :
    exec (.classCCommandDone fn) s = .next ((Foot.shared.and [.inp, .prm, .saf, .shadow, .upd] [.ain, .din, .prm, .snt]).finish s
      (x.1.classCAnswer r x.2.1 x.2.2)) := by
  change execClassCCommandDone fn s = _
  exact State.runIn_next (by simp [hr, hx])

/-- CONTROL_TICK does the work of the oldest boundary that waits. -/
theorem execControlTick_due {tb : Nat} {l : List Nat} {s : State} (hd : s.clk.due = tb :: l) :
    exec .controlTick s =
      .next (s.settleAt (s.clk.tickNext tb l) ({ s.begun with clk := s.clk.tickNext tb l } : State).boundary) := by
  change execControlTick s = _
  unfold execControlTick
  rw [hd]
  exact State.runAt_next rfl

/-- PAIR_CYCLE_BOUNDARY does it at every 20th boundary, with what is measured there. -/
theorem execPairCycleBoundary_due {m : Measure} {tb : Nat} {l : List Nat} {s : State} (hd : s.clk.due = tb :: l)
    (h20 : (s.clk.tickCount + 1) % 20 = 0) :
    exec (.pairCycleBoundary m) s = .next (s.settleAt (s.clk.tickNext tb l)
      ((({ s.begun with clk := s.clk.tickNext tb l } : State).setPwr (fun p => { p with meas := m })).supLimits m.limit).boundary) := by
  change execPairCycleBoundary m s = _
  unfold execPairCycleBoundary
  rw [hd]
  dsimp only
  rw [if_neg (by simp [h20])]
  exact State.runAt_next rfl

/-- Settles O3: each body of the SYS commands, accepted and in a state it is taken in; a boundary that waits is the oldest one. -/
theorem systemCommandsComplete : Obligations.SystemCommandsComplete := by
  unfold Obligations.SystemCommandsComplete
  refine ⟨fun _ _ _ => execSysStart_accepted, fun _ _ _ => execSysStop_accepted, ?reset, ?cycle, ?awake, ?shutdown,
    fun _ _ _ _ => execClassCCommandDone_answers, fun _ _ _ => execControlTick_due, fun _ _ _ _ => execPairCycleBoundary_due⟩
  case reset =>
    intro c k s h hp hdue
    refine State.command_answersOK h ?_ ⟨rfl, rfl⟩
    simp [hp, hdue, okWith, State.setPwr]
  case cycle =>
    intro c k s h hp hdue
    refine State.command_answersOK h ?_ ⟨rfl, rfl⟩
    simp [hp, hdue, okWith, State.setPwr]
  case awake =>
    intro c k s h hp hmax
    refine State.command_answersOK h ?_ ⟨rfl, rfl⟩
    simp [hp, Nat.not_lt.2 hmax, okWith]
  case shutdown =>
    intro c k s h hp hmax hkey hoff
    change execSysShutdownNow c s = _
    refine h.run_now ?_
    simp [hp, Nat.not_lt.2 hmax, hkey, hoff, okWith]

end Sys2Proof.Machine
end

section
/-!
PROOF. Chapter 02: the events of the mailbox and the sessions complete.
-/
namespace Sys2Proof.Machine

@[simp] theorem State.begun_out (s : State) : s.begun.out = [] := rfl

/-- Settles O4: each event acts where its time has come or its place is free, and reaches no more than what functions share. -/
theorem mailboxEventsComplete : Obligations.MailboxEventsComplete := by
  unfold Obligations.MailboxEventsComplete
  refine ⟨?claim, ?lapse, ?bootstrap, ?place, ?prod, ?cons, ?quiet, ?held, ?notif, ?kmp, ?frags, ?resend, ?openKept, ?unblock,
    ?idle, ?progress⟩
  case claim =>
    intro ini k s hup hk
    change execMbxClaimRead ini s = _
    refine State.runIn_next ?_
    simp [State.fetched, hup, hk]
  case lapse =>
    intro k s hplace hopen hpast
    change execClaimReservationLapse k s = _
    refine State.runIn_next ?_
    have hplace' : ((s.ses k).place == .claimed || (s.ses k).place == .bootstrap) = true := by simpa using hplace
    simp [hplace', hopen, hpast]
  case bootstrap =>
    intro k s hplace hdome
    change execBootstrapRingPlacement k s = _
    refine State.runIn_next ?_
    simp [hplace, hdome]
  case place =>
    intro k s hplace hpast
    change execSessionRingPlacement k s = _
    refine State.runIn_next ?_
    simp only [State.begun_ses, State.begun_rd, hplace, hpast]
    simp
  case prod =>
    intro n v l s
    change execMbxQProdWrite n v l s = _
    exact State.runIn_next rfl
  case cons =>
    intro n v s
    change execMbxQConsWrite n v s = _
    exact State.runIn_next rfl
  case quiet =>
    intro t0 s hsince hpast hheld
    change ∃ t, execIrqHoldoffExpiry s = .next t ∧ _
    refine State.runIn_complete ?_
    simp [hsince, hpast, hheld]
  case held =>
    intro t0 s hsince hpast hheld
    change execIrqHoldoffExpiry s = _
    refine State.runIn_next ?_
    simp [hsince, hpast, hheld]
  case notif =>
    intro k cls s
    change execNotifHoldoffExpiry k cls s = _
    exact State.runIn_next rfl
  case kmp =>
    intro ip port p s
    change execKmpDatagramRx ip port p s = _
    exact State.runIn_next rfl
  case frags =>
    intro ip ident s
    change ∃ t, execIpv4ReassemblyTimeout ip ident s = .next t ∧ _
    exact State.runIn_complete rfl
  case resend =>
    intro n ip port r s hring hudp _
    change ∃ t, execUdpDataResend n s = .next t ∧ _
    refine State.runIn_complete ?_
    have hring' : s.begun.ring? n = some r := hring
    have hold : s.begun.unacked n = s.unacked n := rfl
    simp [hring', hudp]
  case openKept =>
    intro ip port s
    change ∃ t, execLinkOpenKeepExpiry ip port s = .next t ∧ _
    exact State.runIn_complete rfl
  case unblock =>
    intro src s hblk
    change ∃ t, execAuthBlockExpiry src s = .next t ∧ _
    refine State.runIn_complete ?_
    simp [hblk]
  case idle =>
    intro k loop s hopen hpower hpast
    change execSessionIdleTimeout k loop s = _
    refine State.run_next ?_
    have hopen' : ((s.ses k).isOpen || (s.ses k).sawOpen) = true := by simpa using hopen
    simp [hopen', hpower, hpast]
  case progress =>
    intro fn permille k r s hr hses hwait hroom
    change execProgressNotify fn permille s = _
    refine State.runIn_next ?_
    have hses' (l : List Running) : ({ s.begun with mbx := { s.mbx with running := l } } : State).sessionOf r.cmd = some k := hses
    simp only [State.begun_mbx, hr, hses']
    refine if_pos ?_
    change ((s.ses k).progWait.isEmpty && s.notifRoom k) = true
    simp [hwait, hroom]

end Sys2Proof.Machine
end

section
/-!
PROOF. Chapter 02: the LINK commands complete.
-/
namespace Sys2Proof.Machine

/-- A sequence number that no kept response has is no repeat (R52). -/
theorem kept_find_none {l : List Kept} {q : Nat} (h : ∀ e ∈ l, e.seq ≠ q) : l.find? (fun e => e.seq == q) = none := by
  rw [List.find?_eq_none]
  exact fun e he => by simpa using h e he

@[simp] theorem State.takeInbox_ses (s : State) (op : Nat) (c : Cmd) (k : Nat) : (s.takeInbox op c).ses k = s.ses k := rfl
@[simp] theorem State.takeInbox_dome (s : State) (op : Nat) (c : Cmd) : (s.takeInbox op c).dome = s.dome := rfl

/-- LINK_OPEN on a ring that stands opens a session there (R58). -/
theorem execLinkOpen_ring {c : Cmd} {q : Nat} {s : State} (ho : c.origin = .ring q) (hdome : 2 ≤ s.dome)
    (hturn : s.turn 0x10 c = true) (hq : q < 16) (hen : s.bt (R.MBX_Q_CFG q) 15 = true)
    (hfresh : ∀ e ∈ (s.ses q).kept, e.seq ≠ c.seq) :
    exec (.linkOpen c) s = .next (Foot.shared.finish s ((s.begun.takeInbox 0x10 c).openOnRing q c)) := by
  have hkept : (s.ses q).kept.find? (fun e => e.seq == c.seq) = none := kept_find_none hfresh
  change execLinkOpen c s = _
  refine State.runIn_next ?_
  simp [ho, hturn, Nat.not_lt.2 hdome, Nat.not_le.2 hq, hen, hkept]

/-- LINK_OPEN of a UDP source that it does not repeat is answered, and the answer kept 10 s (R56). -/
theorem execLinkOpen_udp {c : Cmd} {ip port : Nat} {s : State} (ho : c.origin = .udp ip port) (hdome : 2 ≤ s.dome)
    (hturn : s.turn 0x10 c = true) (hses : s.sessionOf c = none) (hkept : s.keptOpen ip port c = none) :
    ∃ t r, exec (.linkOpen c) s = .next (Foot.shared.finish s { t.sendResp c r with mbx := { (t.sendResp c r).mbx with
        openKept := { ip := ip, port := port, seq := c.seq, crc := c.crc, resp := r, at_ := s.clk.tb } ::
          (t.sendResp c r).mbx.openKept.filter (fun e => !(e.ip == ip && e.port == port)) } }) ∧
      (t, r) = (s.begun.takeInbox 0x10 c).openOnUdp ip port c := by
  have hses' : (s.begun.takeInbox 0x10 c).sessionOf c = none := hses
  have hkept' : (s.begun.takeInbox 0x10 c).keptOpen ip port c = none := hkept
  refine ⟨((s.begun.takeInbox 0x10 c).openOnUdp ip port c).1, ((s.begun.takeInbox 0x10 c).openOnUdp ip port c).2, ?_, rfl⟩
  change execLinkOpen c s = _
  refine State.runIn_next ?_
  simp [ho, hturn, Nat.not_lt.2 hdome, hses', hkept']

/-- LINK_AUTH that answers the challenge opens the session (R59). -/
theorem execLinkAuth_opens {c : Cmd} {k : Nat} {h : Challenge} {s : State} (hdome : 2 ≤ s.dome) (hturn : s.turn 0x11 c = true)
    (hses : s.sessionOf c = some k) (hfresh : ∀ e ∈ (s.ses k).kept, e.seq ≠ c.seq) (hopen : (s.ses k).isOpen = false)
    (hlen : c.payload.length = 32) (hch : (s.ses k).challenge = some h)
    (hok : s.authOk h (s.arrivedAt 0x11 c) c.payload = true) :
    exec (.linkAuth c) s = .next (Foot.shared.finish s
      (((s.begun.takeInbox 0x11 c).setSes k (fun x => { x with lastCmd := s.clk.tb })).opened k h c)) := by
  have hses' : (s.begun.takeInbox 0x11 c).sessionOf c = some k := hses
  have hkept : (s.ses k).kept.find? (fun e => e.seq == c.seq) = none := kept_find_none hfresh
  have hopen' : (((s.begun.takeInbox 0x11 c).setSes k (fun x => { x with lastCmd := s.clk.tb })).ses k).isOpen = false :=
    (State.setSes_ses_of Session.isOpen (g := fun x => { x with lastCmd := s.clk.tb }) (fun _ => rfl) (s.begun.takeInbox 0x11 c) k
      k).trans hopen
  have hch' : (((s.begun.takeInbox 0x11 c).setSes k (fun x => { x with lastCmd := s.clk.tb })).ses k).challenge = some h :=
    (State.setSes_ses_of Session.challenge (g := fun x => { x with lastCmd := s.clk.tb }) (fun _ => rfl) (s.begun.takeInbox 0x11 c) k
      k).trans hch
  have hok' : ((s.begun.takeInbox 0x11 c).setSes k (fun x => { x with lastCmd := s.clk.tb })).authOk h (s.arrivedAt 0x11 c)
      c.payload = true := hok
  change execLinkAuth c s = _
  refine State.runIn_next ?_
  simp [Nat.not_lt.2 hdome, hturn, hses', hkept, hopen', hlen, hch', hok']

/-- Settles O5: an open and its challenge come before any session and so have no common bars; the other commands are accepted ones. -/
theorem linkCommandsComplete : Obligations.LinkCommandsComplete := by
  unfold Obligations.LinkCommandsComplete
  refine ⟨fun _ _ _ => execLinkOpen_ring, fun _ _ _ _ => execLinkOpen_udp,
    fun _ _ _ _ hdome hturn hses hfresh hopen hlen hch _ => execLinkAuth_opens hdome hturn hses hfresh hopen hlen hch, ?close,
    ?ping, ?subscribe, ?ack, ?key⟩
  case close =>
    intro c k loop s h hp
    change execLinkClose c loop s = _
    exact h.run_done (by simp [hp])
  case ping =>
    intro c k s h hp
    refine State.command_answersOK h ?_ ⟨rfl, rfl⟩
    simp [hp, okWith]
  case subscribe =>
    intro c k s h hlen
    refine State.command_answersOK h ?_ ⟨rfl, rfl⟩
    simp [hlen, okWith]
  case ack =>
    intro c k s h hlen hring hcons
    refine State.command_answersOK h ?_ ⟨rfl, rfl⟩
    simp [hlen, hring, hcons, okWith, -List.any_eq_true]
  case key =>
    intro c k s h hlen h1 h31 hrole hown hfree himp
    refine State.command_answersOK h ?_ ⟨rfl, rfl⟩
    have hself : ((s.entered 0 0x16 k c).ses k).role = (s.ses k).role := State.entered_ses_of Session.role (fun _ _ => rfl) ..
    simp [hlen, Nat.not_lt.2 h31, show ¬ u8 c.payload 0 = 0 by omega, show ¬ 3 < u8 c.payload 1 by omega,
      show ¬ u8 c.payload 1 = 3 by omega, hfree, hself, Nat.not_lt.2 hown, himp, okWith, -List.getD_eq_getElem?_getD]

end Sys2Proof.Machine
end

section
/-!
PROOF. Chapter 08: Meridian's mailbox commands complete.
-/
namespace Sys2Proof.Machine

/-- Settles O6: a payload in the ranges of chapter 08 passes every test of its command's body. -/
theorem meridianCommandsComplete : Obligations.MeridianCommandsComplete := by
  unfold Obligations.MeridianCommandsComplete
  refine ⟨?merStIWrite, ?merSetpoint, ?merSetGains, ?merIntSet, ?merReadSlot⟩
  case merStIWrite =>
    intro ini m v s hdomainUp hini
    change execMerStIWrite ini m v s = _
    exact State.runIn_next (State.owned_done (s := s.begun) _ hdomainUp hini)
  case merSetpoint =>
    intro c k es s h hu8 hu8' hlen hes he hisRunning
    have hrange : es.any (fun e => 64 ≤ e.1) = false := by simpa using he
    refine State.command_answersOK (p := []) h ?_ ⟨rfl, rfl⟩
    simp only [← hes, hrange, hlen, State.entered_isRunning, hisRunning, State.entered_tickEarly]
    by_cases ht : s.tickEarly = true <;> simp [ht, Nat.ne_of_gt hu8, Nat.not_lt.2 hu8']
  case merSetGains =>
    intro c k s h hlen hu8
    refine State.command_answersOK h ?_ ⟨rfl, rfl⟩
    simp [hlen, Nat.not_le.2 hu8]
    rfl
  case merIntSet =>
    intro c k s h hlen hu8 hi32
    refine State.command_answersOK h ?_ ⟨rfl, rfl⟩
    simp [hlen, Nat.not_le.2 hu8, Nat.not_lt.2 hi32]
  case merReadSlot =>
    intro c k s h hlen hu8
    refine State.command_answersOK h ?_ ⟨rfl, rfl⟩
    simp [hlen, Nat.not_le.2 hu8, okWith]

end Sys2Proof.Machine
end

section
/-!
SUPPORT. What the next state of a command shows of the windows of its footprint, and what a loop keeps.
-/
namespace Sys2Proof.Machine

section
variable {F : Foot} (w : Win) (s u : State) {a : Nat} (hw : w ∈ F.wins) (h : w.1 ≤ a) (h' : a < w.1 + w.2)
include hw h h'

/-- A register of a window of the footprint stands as the effect left it. -/
theorem Foot.finish_rd_win : (F.finish s u).rd a = u.rd a := Foot.finish_rd_in (Foot.holds_win w hw h h')

theorem Foot.finish_bt_win (b : Nat) : (F.finish s u).bt a b = u.bt a b := by
  unfold State.bt; rw [Foot.finish_rd_win w s u hw h h']

theorem Foot.finish_fd_win (hi lo : Nat) : (F.finish s u).fd a hi lo = u.fd a hi lo := by
  unfold State.fd; rw [Foot.finish_rd_win w s u hw h h']

end

section
variable {F : Foot} (s u : State) {a : Nat}

/-- A register of the fabric, the mailbox or the recorder stands as the effect left it. -/
theorem Foot.finish_rd_shared (h : Foot.shared.holds a = true) : (F.finish s u).rd a = u.rd a :=
  Foot.finish_rd_in (Foot.holds_shared h)

theorem Foot.finish_sig (n : Nat) (h : n < 512) : (F.finish s u).sig n = u.sig n :=
  Foot.finish_rd_shared s u (Foot.shared_fab (by unfold R.FAB_SIG; omega) (by unfold R.FAB_SIG; omega))

end

/-- An accepted command that a class C operation carries out runs on (R49, R51). -/
theorem Accepted.runsOn_classC {F : Foot} {f b role k : Nat} {c : Cmd} {s v : State} {body : Nat → State → Reply × State}
    {P : State → List Byte → Prop} {p : List Byte} (h : Accepted f b role c k s)
    (hb : body k (s.entered f b k c) = v.classC f (256 * f + b) c stOK p) (hclk : v.clk.tb = s.clk.tb)
    (hP : P (v.classC f (256 * f + b) c stOK p).2 p) :
    RunsOn F f (256 * f + b) k c s (s.runIn F (fun s => s.command f b role c body)) P := by
  refine State.command_runsOn h hb ?_ hP
  rw [← hclk]
  exact List.mem_append_right _ (List.mem_singleton.2 rfl)

/-- What every round of a loop keeps, the loop keeps. -/
theorem foldl_keeps {σ α β : Type} (φ : σ → β) {g : σ → α → σ} (hg : ∀ s x, φ (g s x) = φ s) (l : List α)
    (s : σ) : φ (l.foldl g s) = φ s := by
  induction l generalizing s with
  | nil => rfl
  | cons x l ih => exact (ih (g s x)).trans (hg s x)

/-- What a change of one element of a list leaves of every element. -/
theorem updAt_getD_of {α β : Type} (φ : α → β) {g : α → α} (hg : ∀ x, φ (g x) = φ x) (l : List α) (i j : Nat) (d : α) :
    φ ((updAt l i g).getD j d) = φ (l.getD j d) := by
  unfold updAt
  simp only [List.getD_eq_getElem?_getD, List.getElem?_modify]
  cases l[j]? with
  | none => simp
  | some x => by_cases h : i = j <;> simp [h, hg]

/-- The element that was changed. -/
theorem updAt_getD_same {α : Type} {l : List α} {i : Nat} (h : i < l.length) (g : α → α) (d : α) :
    (updAt l i g).getD i d = g (l.getD i d) := by
  simp [updAt, List.getD_eq_getElem?_getD, List.getElem?_modify, h]

/-- The elements that were not. -/
theorem updAt_getD_ne {α : Type} (l : List α) {i j : Nat} (h : i ≠ j) (g : α → α) (d : α) :
    (updAt l i g).getD j d = l.getD j d := by
  simp [updAt, List.getD_eq_getElem?_getD, List.getElem?_modify, h]

/-- An event and a notification reach no register outside what functions share. -/
theorem State.notify_bt (s : State) (f code : Nat) (p : List Byte) {a : Nat} (h : Foot.shared.holds a = false) (b : Nat) :
    (s.notify f code p).bt a b = s.bt a b := by unfold State.bt; rw [State.notify_rd s f code p h]

end Sys2Proof.Machine
end

section
/-!
PROOF. Chapter 05: the events of the digital inputs complete.
-/
namespace Sys2Proof.Machine

/-- The break bit of an input lies in the window of DIN. -/
theorem dinReg_break_din (n : Nat) :
    0xE00B0000 ≤ dinReg R.DIN_BREAK0 R.DIN_BREAK1 n ∧ dinReg R.DIN_BREAK0 R.DIN_BREAK1 n < 0xE00C0000 := by
  unfold dinReg
  split <;> decide

/-- Registers that a change of an input's state does not write. -/
theorem State.setDi_bt (s : State) (n : Nat) (v : Bool) {a : Nat} (h0 : a ≠ R.DIN_STATE0) (h1 : a ≠ R.DIN_STATE1) (b : Nat) :
    (s.setDi n v).bt a b = s.bt a b := by
  refine State.wb_bt_other _ ?_ _ _ _
  unfold dinReg
  split <;> assumption

/-- A field supply below 9 V is missing (R125). -/
theorem vfsFlag_low {old : Bool} {mv th : Nat} (h : mv < th) : vfsFlag old mv th = true := if_pos h

/-- Where a field supply is missing, its inputs read 0 and no break stands (R125). -/
def State.vfsLost (s : State) (g : Nat) : State :=
  ((List.range 10).map (fun i => 10 * g + i)).foldl (fun (t : State) n =>
    (t.setDi n false).wb (dinReg R.DIN_BREAK0 R.DIN_BREAK1 n) (n % 32) false) s

theorem State.vfsLost_bt (s : State) (g b : Nat) : (s.vfsLost g).bt R.DIN_GRP_STATUS b = s.bt R.DIN_GRP_STATUS b := by
  refine foldl_keeps (fun t => t.bt R.DIN_GRP_STATUS b) (fun t n => ?_) _ s
  have hb : R.DIN_GRP_STATUS ≠ dinReg R.DIN_BREAK0 R.DIN_BREAK1 n := by
    unfold dinReg
    split <;> decide
  exact (State.wb_bt_other _ hb _ _ _).trans (State.setDi_bt _ _ _ (by decide) (by decide) _)

/-- FIELD_SUPPLY_CHANGE where the supply goes missing. -/
theorem execFieldSupplyChange_missing {g mv : Nat} {s : State} (hmv : mv < 9000) (hmiss : s.vfsMissing g = false) :
    exec (.fieldSupplyChange g mv) s = .next (Foot.inputs.finish s
      ((((s.begun.wb R.DIN_GRP_STATUS g true).wb R.DIN_GRP_STATUS (8 + g) true).vfsLost g).notify fDIN 0x80
        [byte g, byte 3])) := by
  change execFieldSupplyChange g mv s = _
  refine State.runIn_next ?_
  simp [vfsFlag_low hmv, vfsFlag_low (show mv < 19200 by omega), hmiss, State.vfsLost]
  rfl

@[simp] theorem State.busData_inp (s : State) (ini : Initiator) (w : Word) : (s.busData ini w).inp = s.inp := by cases ini <;> rfl

/-- A read of DIN_FIFO_HI takes the oldest edge out of the FIFO. -/
theorem State.showFifo_inp (s : State) : s.showFifo.inp = s.inp := by
  unfold State.showFifo
  dsimp only
  split <;> rfl

theorem State.showFifo_bus (s : State) (ini : Initiator) : s.showFifo.bus ini = s.bus ini := by
  unfold State.showFifo
  dsimp only
  cases ini <;> split <;> rfl

/-- Settles O9: an edge, a break and a supply that its tests let through; a read of the FIFO takes its oldest edge. -/
theorem digitalInputEventsComplete : Obligations.DigitalInputEventsComplete := by
  unfold Obligations.DigitalInputEventsComplete
  refine ⟨?diEdge, ?diWireBreak, ?diBreakClear, ?fieldSupplyChange, ?dinFifoHiRead⟩
  case diEdge =>
    intro n level ua s hn hisRunning hdiBreak hvfsMissing htbReached hdiRead
    change execDiEdge n level ua s = _
    refine State.runIn_next ?_
    simp [hn, hisRunning, hdiBreak, hvfsMissing, htbReached, hdiRead]
  case diWireBreak =>
    intro n ua s hn hua hisRunning hdIN_CFG hdiBreak hvfsMissing htbReached
    change execDiWireBreak n ua s = _
    refine State.runIn_next ?_
    simp [hn, hua, hisRunning, hdIN_CFG, hdiBreak, hvfsMissing, htbReached]
  case diBreakClear =>
    intro ua s hua hua' hisRunning hdiBreak hvfsMissing
    have hbreak := dinReg_break_din ua.n
    change ∃ t, execDiBreakClear ua s = .next t ∧ _
    refine ⟨_, State.runIn_next (F := .inputs) (u := ((s.begun.wb (dinReg R.DIN_BREAK0 R.DIN_BREAK1 ua.n) (ua.n % 32) false).setIn
      (fun i => { i with reest := updAt i.reest ua.n (fun _ => some s.clk.tb) })).notify fDIN 0x81 [byte ua.n, 0#8]) ?_, ?_, ?_⟩
    · simp [hisRunning, hua, hua', hdiBreak, hvfsMissing]
    · unfold State.diBreak
      rw [Foot.finish_bt_win Win.din s _ (by decide) hbreak.1 hbreak.2, State.notify_bt]
      · exact State.wb_bt_same _ _ (Nat.mod_lt _ (by decide)) _
      · exact Foot.shared_not (by omega) (by omega)
    · simp [Foot.inputs, State.setIn]
  case fieldSupplyChange =>
    intro g mv s hg hmv hvfsMissing
    have hbt (b : Nat) (hb : b = g ∨ b = 8 + g) : (Foot.inputs.finish s ((((s.begun.wb R.DIN_GRP_STATUS g true).wb R.DIN_GRP_STATUS
        (8 + g) true).vfsLost g).notify fDIN 0x80 [byte g, byte 3])).bt R.DIN_GRP_STATUS b = true := by
      rw [Foot.finish_bt_win Win.din s _ (by decide) (by decide) (by decide), State.notify_bt _ _ _ _ (by decide),
        State.vfsLost_bt]
      rcases hb with rfl | rfl
      · rw [State.wb_bt_ne _ _ (by omega) (by omega), State.wb_bt_same _ _ (by omega)]
      · exact State.wb_bt_same _ _ (by omega) _
    exact ⟨_, execFieldSupplyChange_missing hmv hvfsMissing, hbt _ (.inr rfl), hbt _ (.inl rfl)⟩
  case dinFifoHiRead =>
    intro ini s hdomainUp
    change ∃ t, execDinFifoHiRead ini s = .next t ∧ _
    refine ⟨_, State.runIn_next (F := .inputs) (u := ((s.begun.busData ini (s.rd R.DIN_FIFO_HI)).setIn (fun i =>
      { i with fifo := i.fifo.drop 1 })).showFifo) ?_, ?_, ?_⟩
    · simp [State.fetched, hdomainUp]
    · simp [Foot.inputs, State.showFifo_inp, State.setIn]
    · have h := ((s.begun.busData ini (s.rd R.DIN_FIFO_HI)).setIn (fun i => { i with fifo := i.fifo.drop 1 })).showFifo_bus ini
      cases ini <;> exact h

end Sys2Proof.Machine
end

section
/-!
PROOF. Chapter 05: the events of the analog, bridge, speed and impact inputs complete.
-/
namespace Sys2Proof.Machine

@[simp] theorem State.ainShow_inp (s : State) (n : Nat) : (s.ainShow n).inp = s.inp := by
  unfold State.ainShow
  dsimp only
  repeat' split
  all_goals simp [State.dropSig]

@[simp] theorem State.wb_ain (s : State) (a b : Nat) (v : Bool) (n : Nat) : (s.wb a b v).ain n = s.ain n := rfl
@[simp] theorem State.wfSet_ain (s : State) (a hi lo v n : Nat) : (s.wf_ a hi lo v).ain n = s.ain n := rfl
theorem State.ite_setSig_ain (c : Prop) [Decidable c] (s : State) (k : Nat) (v : Word) (n : Nat) :
    (if c then s.setSig k v else s).ain n = s.ain n := by split <;> rfl
@[simp] theorem Foot.finish_inputs_ain (s u : State) (n : Nat) : (Foot.inputs.finish s u).ain n = u.ain n := rfl

theorem State.setAin_ain_same {s : State} {n : Nat} (h : n < s.inp.ain.length) (g : AinCh → AinCh) :
    (s.setAin n g).ain n = g (s.ain n) := updAt_getD_same h g {}

/-- A new evaluation of a channel's conditions changes no more of its state than which are active. -/
theorem State.ainEval_ain_of {α : Type} (φ : AinCh → α) (hφ : ∀ c l, φ { c with active := l } = φ c) (s : State) (n j : Nat) :
    φ ((s.ainEval n).ain j) = φ (s.ain j) := by
  unfold State.ainEval State.ain
  rw [State.ainShow_inp]
  exact updAt_getD_of φ (fun c => hφ c _) _ _ _ _

/-- Settles O10: a conversion, an edge or an impact of a channel that runs, and the times at which a channel trips or is silent. -/
theorem analogInputEventsComplete : Obligations.AnalogInputEventsComplete := by
  unfold Obligations.AnalogInputEventsComplete
  refine ⟨?ainConversion, ?ainFaultEnter, ?ainFaultEnter', ?ain4maTrip, ?ain4maReconnect, ?bridgeCode, ?speedEdge,
    ?speedZeroTimeout, ?acuImpact, ?acuWindowEnd⟩
  case ainConversion =>
    intro n x f s hn hisRunning hainMode hainMode' hainDone hf hain hn'
    have hdue : ¬ (!(s.begun.isRunning fAIN && n < 24 && s.begun.ainMode n != 0 && s.begun.ainMode n != 7 &&
        (s.begun.ainDone n).any (fun f => f % max 1 (fld (s.begun.rd (R.AIN_CFG n)) 17 6) == 0) &&
        (s.begun.ain n).frame != s.begun.ainDone n)) = true := by
      simp [hn, hisRunning, hainMode, hainMode', hainDone, hf, hain]
    change ∃ t, execAinConversion n x s = .next t ∧ _
    refine State.runIn_complete ?_
    dsimp only
    rw [if_neg hdue, Foot.finish_inputs_ain, State.ite_setSig_ain, State.wb_ain,
      State.ainEval_ain_of AinCh.frame (fun _ _ => rfl), State.ainEval_ain_of AinCh.first (fun _ _ => rfl), State.wfSet_ain,
      State.setAin_ain_same (s := s.begun) hn']
    exact ⟨hainDone, rfl⟩
  case ainFaultEnter =>
    intro n on s hn hisRunning
    change execAinFaultEnter 0 n on s = _
    refine State.runIn_next ?_
    simp [hn, hisRunning]
  case ainFaultEnter' =>
    intro n s hn hisRunning haIN_BRG_CFG hsupOn haIN_BRG_RAW
    change execAinFaultEnter 1 n true s = _
    refine State.runIn_next ?_
    simp [hn, hisRunning, haIN_BRG_CFG, hsupOn, haIN_BRG_RAW]
  case ain4maTrip =>
    intro n t0 s hn hisRunning hainMode hain hain' htbPast
    change execAin4maTrip n s = _
    refine State.runIn_next ?_
    simp [hn, hisRunning, hainMode, hain, hain', htbPast]
  case ain4maReconnect =>
    intro n t0 s hain htbPast
    change execAin4maReconnect n s = _
    refine State.runIn_next ?_
    simp [hain, htbPast]
  case bridgeCode =>
    intro k code s hk hisRunning haIN_BRG_CFG hinp hsupOn hx hcode
    change ∃ t, execBridgeCode k code s = .next t ∧ _
    have hclamp : clampI (-8388608) 8388607 code = code := by unfold clampI; omega
    have hen : bit (s.rd (R.AIN_BRG_CFG k)) 15 = true := haIN_BRG_CFG
    have hon : s.supOn (fld (s.rd (R.AIN_BRG_CFG k)) 8 8) = true := hsupOn
    refine State.runIn_complete ?_
    rw [Foot.finish_sig _ _ _ (by omega)]
    simp [hk, hisRunning, hen, hinp, hon, hclamp, Int.ne_of_lt hcode, Int.ne_of_gt hx, State.setSig_sig _ _ _ (show 0x58 + k < 512 by omega),
      State.fd, -List.getD_eq_getElem?_getD]
  case speedEdge =>
    intro j stamp both s hj hisRunning hquadOf haIN_SPD_CFG
    change execSpeedEdge j true both stamp s = _
    refine State.runIn_next ?_
    simp [hj, hisRunning, hquadOf, haIN_SPD_CFG]
  case speedZeroTimeout =>
    intro j t0 s hj hinp hclk hinp'
    change execSpeedZeroTimeout j s = _
    refine State.runIn_next ?_
    simp [hj, hinp, hclk, hinp', -List.getD_eq_getElem?_getD]
  case acuImpact =>
    intro a x s ha hisRunning haCU_CFG
    change ∃ t, execAcuImpact a [x] s = .next t ∧ _
    refine State.runIn_complete ?_
    have hen : bit (s.rd (R.ACU_CFG a)) 0 = true := haCU_CFG
    simp [ha, hisRunning, hen, Foot.inputs, State.setIn]
  case acuWindowEnd =>
    intro s hisRunning hclk hinp
    change execAcuWindowEnd s = _
    refine State.runIn_next ?_
    simp [hisRunning, hclk, hinp]

end Sys2Proof.Machine
end

section
/-!
PROOF. Chapter 05: the sensor supplies trip, try again, forget their trips and restart.
-/
namespace Sys2Proof.Machine

@[simp] theorem State.setSup_sup (s : State) (i : Nat) (f : SupSt → SupSt) :
    (s.setSup i f).inp.sup = updAt s.inp.sup i f := rfl
@[simp] theorem State.setSup_rd (s : State) (i : Nat) (f : SupSt → SupSt) (a : Nat) : (s.setSup i f).rd a = s.rd a := rfl
@[simp] theorem State.supUpdate_inp (s : State) (i : Nat) : (s.supUpdate i).inp = s.inp := rfl

theorem State.supUpdate_rd (s : State) (i : Nat) {a : Nat} (h : a ≠ R.AIN_SUP_STATUS) : (s.supUpdate i).rd a = s.rd a :=
  (State.wb_rd ..).trans (if_neg h)

/-- Settles O11: each event finds its time passed; what it writes lies in the window of AIN. -/
theorem sensorSupplyEventsComplete : Obligations.SensorSupplyEventsComplete := by
  unfold Obligations.SensorSupplyEventsComplete
  refine ⟨?supplyTrip, ?supplyRetry, ?supplyTripCountReset, ?ainSupRestartWrite⟩
  case supplyTrip =>
    intro i t0 s hi hinp hsupOn htbPast
    have hne : R.AIN_SUP_TRIPS ≠ R.AIN_SUP_STATUS := by decide
    change ∃ t, execSupplyTrip i s = .next t ∧ _
    refine State.runIn_complete ?_
    rw [Foot.finish_rd_win Win.ain _ _ (by decide) (by decide) (by decide)]
    simp [hi, hinp, hsupOn, htbPast, Foot.inputs, State.inc_rd, State.wb_rd,
      State.wfSet_rd, State.supUpdate_rd, hne, State.notify_rd _ _ _ _ (show Foot.shared.holds R.AIN_SUP_TRIPS = false by decide),
      -List.getD_eq_getElem?_getD]
  case supplyRetry =>
    intro i t0 s hi hinp haIN_SUP_STATUS htbPast
    change execSupplyRetry i s = _
    refine State.runIn_next ?_
    simp [hi, hinp, haIN_SUP_STATUS, htbPast, -List.getD_eq_getElem?_getD]
  case supplyTripCountReset =>
    intro i s hi htbPast
    change ∃ t, execSupplyTripCountReset i s = .next t ∧ _
    refine State.runIn_complete ?_
    rw [Foot.finish_fd_win Win.ain _ _ (by decide) (by decide) (by decide)]
    simp [hi, htbPast, State.wfSet_fd_same _ _ (show 8 * i + 4 < 32 by omega), -List.getD_eq_getElem?_getD]
  case ainSupRestartWrite =>
    intro ini v s hdomainUp hini
    change execAinSupRestartWrite ini v s = _
    exact State.runIn_next (State.owned_done (s := s.begun) _ hdomainUp hini)

end Sys2Proof.Machine
end

section
/-!
PROOF. Chapter 05: the SENT events complete.
-/
namespace Sys2Proof.Machine

@[simp] theorem State.setSnt_rd (s : State) (ch : Nat) (f : SentCh → SentCh) (a : Nat) : (s.setSnt ch f).rd a = s.rd a := rfl

/-- The registers of a SENT channel lie in the window of SNT, and so apart from the signal bus. -/
theorem snt_window {ch : Nat} (h : ch < 16) :
    (0xE00D0000 ≤ R.SNT_STAT ch ∧ R.SNT_STAT ch < 0xE00E0000) ∧ (0xE00D0000 ≤ R.SNT_FRAMES ch ∧ R.SNT_FRAMES ch < 0xE00E0000) ∧
      (0xE00D0000 ≤ R.SNT_SLOW ch ∧ R.SNT_SLOW ch < 0xE00E0000) ∧ (0xE00D0000 ≤ R.SNT_SLOW_TB ch ∧ R.SNT_SLOW_TB ch < 0xE00E0000) := by
  unfold R.SNT_STAT R.SNT_FRAMES R.SNT_SLOW R.SNT_SLOW_TB
  omega

/-- A completed slow-channel message is kept with its time (R139). -/
theorem execSentSlowMessage_kept {ch id ty data : Nat} {s : State} (hch : ch < 16) (hrun : s.isRunning fSNT = true)
    (hen : s.bt (R.SNT_CFG ch) 0 = true) (hslow : (if ty = 0 then s.fd (R.SNT_CFG ch) 18 17 == 1 else s.fd (R.SNT_CFG ch) 18 17 == 2) = true) :
    ∃ t, exec (.sentSlowMessage ch id ty data (slowCrc (s.bt (R.SNT_CFG ch) 15) ty id data)) s = .next t ∧
      t.rd (R.SNT_SLOW ch) = word (id % 256 + 256 * (data % 65536) + 2 ^ 24 * ty + 2 ^ 31) ∧
      t.rd (R.SNT_SLOW_TB ch) = word s.clk.tb := by
  obtain ⟨_, _, ⟨hslow1, hslow2⟩, htb1, htb2⟩ := snt_window hch
  have hne : R.SNT_SLOW ch ≠ R.SNT_SLOW_TB ch := by unfold R.SNT_SLOW R.SNT_SLOW_TB; omega
  change ∃ t, execSentSlowMessage ch id ty data (slowCrc (s.bt (R.SNT_CFG ch) 15) ty id data) s = .next t ∧ _
  refine State.runIn_complete ?_
  rw [Foot.finish_rd_win Win.snt _ _ (by decide) hslow1 hslow2, Foot.finish_rd_win Win.snt _ _ (by decide) htb1 htb2]
  simp [hch, hrun, hen, hslow, State.wr_rd, hne]

/-- Settles O12: a frame, a message or a silence of a channel that is enabled and runs. -/
theorem sentEventsComplete : Obligations.SentEventsComplete := by
  unfold Obligations.SentEventsComplete
  refine ⟨?frame, ?timeout, ?short, ?enhanced⟩
  case frame =>
    intro ch f s hch hrun hen hok
    obtain ⟨⟨hstat1, hstat2⟩, ⟨hframes1, hframes2⟩, _, _⟩ := snt_window hch
    have hne : R.SNT_FRAMES ch ≠ R.SNT_STAT ch := by unfold R.SNT_STAT R.SNT_FRAMES; omega
    have hen' : bit (s.rd (R.SNT_CFG ch)) 0 = true := hen
    change ∃ t, execSentFrame ch f s = .next t ∧ _
    refine State.runIn_complete ?_
    rw [Foot.finish_bt_win Win.snt _ _ (by decide) hstat1 hstat2, Foot.finish_rd_win Win.snt _ _ (by decide) hframes1 hframes2]
    have hsig1 : R.SNT_FRAMES ch ≠ R.FAB_SIG (0x70 + ch) := by unfold R.SNT_FRAMES R.FAB_SIG; omega
    have hsig2 : R.SNT_FRAMES ch ≠ R.FAB_SIG_VALID ((0x70 + ch) / 32) := by unfold R.SNT_FRAMES R.FAB_SIG_VALID; omega
    have hfast : R.SNT_FRAMES ch ≠ R.SNT_FAST ch := by unfold R.SNT_FRAMES R.SNT_FAST; omega
    have hout1 : Foot.shared.holds (R.SNT_STAT ch) = false := Foot.shared_not (by omega) (by omega)
    have hout2 : Foot.shared.holds (R.SNT_FRAMES ch) = false := Foot.shared_not (by omega) (by omega)
    by_cases hwas : s.bt (R.SNT_STAT ch) 0 = true <;>
      simp [hch, hrun, hen', hok, hwas, State.notify_bt _ _ _ _ hout1, State.notify_rd _ _ _ _ hout2,
        State.wfSet_bt_ne _ _ (show 0 < 32 by decide), State.wfSet_rd, State.wb_rd, State.wr_rd, State.inc_rd, hne,
        State.setSig_rd _ _ _ hsig1 hsig2, hfast, -List.getD_eq_getElem?_getD]
  case timeout =>
    intro ch s hch hrun hen hpast
    have hen' : bit (s.rd (R.SNT_CFG ch)) 0 = true := hen
    change execSentTimeout ch s = _
    refine State.runIn_next ?_
    simp [hch, hrun, hen', hpast, -List.getD_eq_getElem?_getD]
  case short =>
    intro ch id data s hch hrun hen hslow
    obtain ⟨t, ht, hdata, htb⟩ := execSentSlowMessage_kept (id := id) (ty := 0) (data := data) hch hrun hen (by simp [hslow])
    exact ⟨t, ht, hdata, htb⟩
  case enhanced =>
    intro ch id ty data s hch hrun hen h1 _ hslow
    obtain ⟨t, ht, hdata, _⟩ := execSentSlowMessage_kept (id := id) (ty := ty) (data := data) hch hrun hen
      (by simp [hslow, Nat.ne_of_gt h1])
    exact ⟨t, ht, hdata⟩

end Sys2Proof.Machine
end

section
/-!
PROOF. Chapter 05: the input functions' mailbox commands complete.
-/
namespace Sys2Proof.Machine

/-- Settles O13: a payload in the ranges of chapter 05 passes every test of its command's body. -/
theorem inputCommandsComplete : Obligations.InputCommandsComplete := by
  unfold Obligations.InputCommandsComplete
  refine ⟨?dinReadEdges, ?ainSupRestart, ?ainBridgeTare, ?sntSlowTable⟩
  case dinReadEdges =>
    intro c k s h hlen h1 h500
    refine State.command_answersOK (u := (s.entered fDIN 0x10 k c).setIn (fun i =>
      { i with buffer := i.buffer.drop (u16 c.payload 0), lostRead := 0 })) h ?_ ⟨?_, rfl, rfl⟩
    · simp [hlen, Nat.ne_of_gt h1, Nat.not_lt.2 h500]
    · simp
  case ainSupRestart =>
    intro c k s h hlen hu8
    refine State.command_answersOK h ?_ ⟨rfl, rfl⟩
    simp [hlen, Nat.not_le.2 hu8]
  case ainBridgeTare =>
    intro c k s h hlen hu8 hu16 hu16' hisRunning haIN_BRG_CFG
    refine h.runsOn_classC (v := (s.entered fAIN 0x10 k c).setIn (fun i => { i with
      tare := some { bridge := u8 c.payload 0, want := u16 c.payload 2, got := 0, sum := 0 } })) ?_ (by simp) ⟨rfl, rfl⟩
    simp [hlen, Nat.not_le.2 hu8, Nat.not_lt.2 hu16, Nat.not_lt.2 hu16', hisRunning, haIN_BRG_CFG]
    rfl
  case sntSlowTable =>
    intro c k s h hlen hu8
    refine State.command_answersOK h ?_ ⟨rfl, rfl⟩
    simp [hlen, Nat.not_le.2 hu8, okWith]

end Sys2Proof.Machine
end

section
/-!
SUPPORT. Coelostat's operations leave the power state and the clocks alone.
-/
namespace Sys2Proof.Machine

@[simp] theorem State.setCst_powerClk (s : State) (f : Cst → Cst) : (s.setCst f).powerClk = s.powerClk := rfl
@[simp] theorem State.setU_powerClk (s : State) (i : Nat) (v : Int) : (s.setU i v).powerClk = s.powerClk := rfl
@[simp] theorem State.wr64_powerClk (s : State) (lo hi v : Nat) : (s.wr64 lo hi v).powerClk = s.powerClk := rfl
@[simp] theorem State.shadowWr_powerClk (s : State) (a g : Nat) (v : Word) : (s.shadowWr a g v).powerClk = s.powerClk := rfl
@[simp] theorem State.cstShow_powerClk (s : State) (ph : Nat) : (s.cstShow ph).powerClk = s.powerClk := rfl
@[simp] theorem State.cstClear_powerClk (s : State) : s.cstClear.powerClk = s.powerClk := rfl
@[simp] theorem State.cstRefs_powerClk (s : State) : s.cstRefs.powerClk = s.powerClk := rfl

@[simp] theorem State.cstTake_powerClk (s : State) : s.cstTake.powerClk = s.powerClk := by
  unfold State.cstTake
  exact (foldl_keeps State.powerClk (fun t i => by simp) _ _).trans (State.setCst_powerClk ..)

@[simp] theorem State.cstDecide_powerClk (s : State) (i : Nat) (g : Int) (r blk : Nat) :
    (s.cstDecide i g r blk).1.powerClk = s.powerClk := by
  unfold State.cstDecide
  split
  · simp
  · extract_lets t kw d st u sugg v
    have hv : v.powerClk = s.powerClk := rfl
    clear_value v
    split
    case h_1 w _ _ _ => simp [w, hv]
    case h_2 =>
      split
      case isTrue => exact hv
      case isFalse w _ _ _ => simp [w, hv]
    case h_3 => exact hv

@[simp] theorem State.cstBlockResult_powerClk (s : State) : s.cstBlockResult.1.powerClk = s.powerClk := by
  unfold State.cstBlockResult
  refine (foldl_keeps (fun acc : State × Bool => acc.1.powerClk) (fun acc i => by simp) _ _).trans ?_
  exact (foldl_keeps State.powerClk (fun t i => by simp) _ _).trans (by simp)

@[simp] theorem State.cstHoldNow_powerClk (s : State) : s.cstHoldNow.powerClk = s.powerClk := by simp [State.cstHoldNow]

@[simp] theorem State.cstBlockStart_powerClk (s : State) : s.cstBlockStart.powerClk = s.powerClk := by simp [State.cstBlockStart]

@[simp] theorem State.cstDiscard_powerClk (s : State) : s.cstDiscard.powerClk = s.powerClk := by simp [State.cstDiscard]

@[simp] theorem State.cstHold_powerClk (s : State) : s.cstHold.powerClk = s.powerClk := by simp [State.cstHold]

@[simp] theorem State.cstHoldEnd_powerClk (s : State) : s.cstHoldEnd.powerClk = s.powerClk := by simp [State.cstHoldEnd]

@[simp] theorem State.cstBlockEnd_powerClk (s : State) : s.cstBlockEnd.powerClk = s.powerClk := by simp [State.cstBlockEnd]

@[simp] theorem State.cstSpoil_powerClk (s : State) : s.cstSpoil.powerClk = s.powerClk := by simp [State.cstSpoil]

@[simp] theorem State.cstCost_powerClk (s : State) : s.cstCost.1.powerClk = s.powerClk := by
  unfold State.cstCost
  dsimp only
  have hterms (t : State) (f : Nat → Word) :
      ((List.range 8).foldl (fun (s : State) n => s.wr (R.CST_TERM_LAST n) (f n)) t).powerClk = t.powerClk :=
    foldl_keeps State.powerClk (fun t n => by simp) _ t
  simp [hterms]

@[simp] theorem State.cstFreeze_powerClk (s : State) : s.cstFreeze.powerClk = s.powerClk := by simp [State.cstFreeze]

@[simp] theorem State.cstAccum_powerClk (s : State) (j : Int) (k : Nat) : (s.cstAccum j k).powerClk = s.powerClk := by
  unfold State.cstAccum
  dsimp only
  have hacc : ∀ (l : List Nat) (g : State × Bool → Nat → State × Bool) (acc : State × Bool),
      (∀ acc i, (g acc i).1.powerClk = acc.1.powerClk) → (l.foldl g acc).1.powerClk = acc.1.powerClk :=
    fun l g acc hg => foldl_keeps (fun acc : State × Bool => acc.1.powerClk) hg l acc
  rw [apply_ite State.powerClk, State.cstSpoil_powerClk, ite_self, State.setCst_powerClk]
  exact hacc _ _ _ fun acc i => by simp

@[simp] theorem State.cstPath_powerClk (s : State) (i : Nat) (v : Int) (pub : Bool) : (s.cstPath i v pub).powerClk = s.powerClk := by
  unfold State.cstPath
  dsimp only
  rw [apply_ite State.powerClk]
  split <;> split <;> simp

end Sys2Proof.Machine
end

section
/-!
PROOF. Chapter 06: Coelostat's events complete.
-/
namespace Sys2Proof.Machine

/-- Settles O14: a sample, a line of the lineage and the end of HOLD find their tick new or their time passed. -/
theorem coelostatEventsComplete : Obligations.CoelostatEventsComplete := by
  unfold Obligations.CoelostatEventsComplete
  refine ⟨?cstSample, ?cstHoldEnd, ?cstBlockEnd, ?cstLptSample, ?cstOvrWrite⟩
  case cstSample =>
    intro s hrun hpair hdue hnew
    have hdue' : ¬ (s.begun.pairHeld || s.begun.clk.tickCount % s.begun.cstTicks != 0 ||
        s.begun.cst.lastTick == some s.begun.clk.tickCount) = true := by simp [hpair, hdue, hnew]
    have hfinal : ¬ (s.begun.cst.finalWrite && !s.begun.isRunning fCST) = true := by simp [hrun]
    have hon : ¬ (!s.begun.isRunning fCST) = true := by simp [hrun]
    change ∃ t, execCstSample s = .next t ∧ _
    refine State.runIn_complete ?_
    rw [if_neg hdue', if_neg hfinal, if_neg hon]
    extract_lets k s1 t s2 s3 cost s4 frozen s5 gated s6 act s7 s8
    have h1 : s1.powerClk = s.powerClk := by simp [s1]; rfl
    have h2 : s2.powerClk = s.powerClk := by simp [s2, t, h1]
    have h3 : s3.powerClk = s.powerClk := by simp [s3, h2]
    have h5 : s5.powerClk = s.powerClk := by simp [s5, s4, cost, h3]
    have h6 : s6.powerClk = s.powerClk := by simp [s6, h5]
    have h7 : s7.powerClk = s.powerClk :=
      (foldl_keeps State.powerClk (fun t i => by simp) _ _).trans h6
    have hclk : s7.clk = s.clk := State.clk_of_powerClk h7
    clear_value s7
    refine ⟨?_, rfl⟩
    change some s7.clk.tickCount = _
    rw [hclk]
  case cstHoldEnd =>
    intro s hrun hphase hpos
    change execCstHoldEnd s = _
    refine State.runIn_next ?_
    simp [hrun, State.cstHoldEnd, hphase, hpos]
  case cstBlockEnd =>
    intro s hrun
    change execCstBlockEnd s = _
    refine State.runIn_next ?_
    simp [hrun]
  case cstLptSample =>
    intro s hrun hdue hnew
    have hdue' : ¬ (!s.begun.isRunning fCST || s.begun.clk.tickCount % 2000 != 0 ||
        s.begun.cst.lptTick == some s.begun.clk.tickCount) = true := by simp [hrun, hdue, hnew]
    change ∃ t, execCstLptSample s = .next t ∧ _
    refine State.runIn_complete ?_
    rw [if_neg hdue']
    extract_lets cfg fs ts l s1 sf st
    rw [Foot.finish_cst, if_pos (by decide), apply_ite State.cst]
    split <;> exact ⟨rfl, rfl⟩
  case cstOvrWrite =>
    intro ini v s hup hini
    change execCstOvrWrite ini v s = _
    exact State.runIn_next (State.owned_done (s := s.begun) _ hup hini)

end Sys2Proof.Machine
end

section
/-!
PROOF. Chapter 06: Coelostat's mailbox commands complete.
-/
namespace Sys2Proof.Machine

/-- Settles O15: a payload in the ranges of chapter 06 passes every test of its command's body. -/
theorem coelostatCommandsComplete : Obligations.CoelostatCommandsComplete := by
  unfold Obligations.CoelostatCommandsComplete
  refine ⟨?cstSetMode, ?cstOverride, ?cstAccept, ?cstWeights, ?cstReadMf⟩
  case cstSetMode =>
    intro c k s h hlen hu8
    refine State.command_answersOK h ?_ ⟨rfl, rfl⟩
    simp [hlen, Nat.not_lt.2 hu8]
  case cstOverride =>
    intro c k s h hlen hu8 hcstUsed hu8'
    refine State.command_answersOK h ?_ ⟨rfl, rfl⟩
    by_cases h1 : u8 c.payload 1 = 1 <;> simp [h1, hlen, Nat.not_le.2 hu8, hcstUsed, Nat.not_lt.2 hu8']
  case cstAccept =>
    intro c k s h hlen hu8 hcst
    refine State.command_answersOK h ?_ ⟨rfl, _, rfl, rfl⟩
    simp [hlen, Nat.not_le.2 hu8, hcst, -List.getD_eq_getElem?_getD]
  case cstWeights =>
    intro c k s h hlen
    refine State.command_answersOK h ?_ ⟨rfl, _, rfl, rfl⟩
    simp [hlen]
  case cstReadMf =>
    intro c k s h hlen hu8
    refine State.command_answersOK h ?_ ⟨rfl, rfl⟩
    simp [hlen, Nat.not_le.2 hu8, okWith]

end Sys2Proof.Machine
end

section
/-!
PROOF. Chapter 07: YieldPlate's events complete.
-/
namespace Sys2Proof.Machine

/-! ## A sample leaves its tick alone -/

theorem State.busDone_ypl (ini : Initiator) (s : State) : (s.busDone ini).ypl = s.ypl := by cases ini <;> rfl

theorem State.reached_ypl (s : State) (ini : Initiator) (b : Nat) : (s.reached ini b).ypl = s.ypl := by
  unfold State.reached State.guardInterrupt State.guardExpire State.guardErr State.guardDrop
  split <;> (try split) <;> (try split) <;> simp_all

theorem State.yplFlow_lastTick (s : State) : s.yplFlow.1.ypl.lastTick = s.ypl.lastTick := by
  unfold State.yplFlow
  split <;> simp

theorem State.yplMoist_lastTick (s : State) : s.yplMoist.1.ypl.lastTick = s.ypl.lastTick := by
  unfold State.yplMoist
  dsimp only
  repeat' split
  all_goals simp

theorem State.yplPass_lastTick (s : State) : s.yplPass.ypl.lastTick = s.ypl.lastTick := by
  unfold State.yplPass
  dsimp only
  split <;> simp

theorem State.yplNoRes_lastTick (s : State) (kind : Nat) : (s.yplNoRes kind).ypl.lastTick = s.ypl.lastTick := by
  simp [State.yplNoRes]

theorem State.yplCover_lastTick (s : State) (p : YplFp) : (s.yplCover p).ypl.lastTick = s.ypl.lastTick := by
  unfold State.yplCover
  split <;> simp

theorem State.yplMake_lastTick (s : State) (flags : Nat) : (s.yplMake flags).ypl.lastTick = s.ypl.lastTick := by
  unfold State.yplMake
  extract_lets p0 p1 p2 gaps u push
  have hu : u.ypl.lastTick = s.ypl.lastTick := rfl
  have hpush (t : State) (p : YplFp) : (push t p).ypl.lastTick = t.ypl.lastTick := rfl
  clear_value u push
  split
  · exact (hpush _ _).trans hu
  · split
    · exact (hpush _ _).trans hu
    · extract_lets tag r cs ts
      split
      · rw [hpush, State.yplNoRes_lastTick, hu]
      · extract_lets p t
        have ht : t.ypl.lastTick = u.ypl.lastTick := rfl
        rw [hpush]
        split
        · rw [State.yplCover_lastTick, ht, hu]
        · rw [ht, hu]

theorem State.yplAllocate_lastTick (s : State) (n : Nat) : (s.yplAllocate n).ypl.lastTick = s.ypl.lastTick := by
  unfold State.yplAllocate
  split
  · repeat' split
    all_goals rfl
  · rfl

theorem State.yplFinalSigs_lastTick (s : State) (p : YplFp) : (s.yplFinalSigs p).ypl.lastTick = s.ypl.lastTick := by
  unfold State.yplFinalSigs
  dsimp only
  repeat' split
  all_goals simp

theorem State.yplFinal_lastTick (s : State) : s.yplFinal.ypl.lastTick = s.ypl.lastTick := by
  unfold State.yplFinal
  split
  · rfl
  · dsimp only
    split
    · exact State.yplAllocate_lastTick ..
    · repeat' split
      all_goals simp [State.yplFinalSigs_lastTick, State.yplAllocate_lastTick]

theorem State.yplBalance_lastTick (s : State) : s.yplBalance.ypl.lastTick = s.ypl.lastTick := by
  unfold State.yplBalance
  split
  · rfl
  · extract_lets
    rename_i g rnd sensor diff resid fr rfr s1 s2 s3 s4 s5 s6 s7 s8 bad t
    have hg (a b : Nat) (v : Int) (u : State) : (g a b v u).ypl = u.ypl := rfl
    have ht : t.ypl.lastTick = s.ypl.lastTick := by
      simp only [t, s8, s7, s6, s5, s4, s3, s2, s1, State.setYpl_ypl, State.setSig_ypl, State.wr_ypl, hg]
    clear_value t
    split
    · simp [ht]
    · exact ht

theorem State.yplCollect_lastTick (s : State) (yw : Int) : (s.yplCollect yw).ypl.lastTick = s.ypl.lastTick := by
  unfold State.yplCollect
  dsimp only
  repeat' split
  all_goals simp

theorem State.yplOpenNow_lastTick (s : State) : s.yplOpenNow.ypl.lastTick = s.ypl.lastTick := by
  unfold State.yplOpenNow
  split
  · rfl
  · simp
  · split <;> simp

theorem State.yplShowTiles_lastTick (s : State) : s.yplShowTiles.ypl.lastTick = s.ypl.lastTick := by
  unfold State.yplShowTiles
  split <;> rfl

theorem State.setYpl_setYpl (s : State) (f g : Ypl → Ypl) : (s.setYpl f).setYpl g = s.setYpl (fun y => g (f y)) := rfl

theorem State.notify_fd (s : State) (f code : Nat) (p : List Byte) {a : Nat} (h : Foot.shared.holds a = false) (hi lo : Nat) :
    (s.notify f code p).fd a hi lo = s.fd a hi lo := by unfold State.fd; rw [State.notify_rd s f code p h]

theorem State.yplCalEnd_status (s : State) (result : Nat) : (s.yplCalEnd result).fd R.YPL_STATUS 3 2 = 0 := by
  have hout : Foot.shared.holds R.YPL_STATUS = false := by decide
  unfold State.yplCalEnd
  dsimp only
  have hkept (t : State) (f : Ypl → Ypl) : (t.setYpl f).fd R.YPL_STATUS 3 2 = t.fd R.YPL_STATUS 3 2 := rfl
  rw [State.notify_fd _ _ _ _ hout, hkept, State.wfSet_fd_ne _ _ (by decide) (by decide), State.wfSet_fd_same _ _ (by decide),
    Nat.zero_mod]

theorem State.reached_yplField (s : State) (ini : Initiator) (b : Nat) : (s.reached ini b).yplField = s.yplField := by
  unfold State.yplField State.fd
  rw [State.reached_rd s ini b (by decide) (by decide)]

theorem State.reached_yplMayOpen (s : State) (ini : Initiator) (b : Nat) : (s.reached ini b).yplMayOpen = s.yplMayOpen := by
  unfold State.yplMayOpen State.isRunning State.fn
  rw [State.reached_yplField, State.reached_ypl, State.reached_fns]

theorem State.yplCmd_fresh {s : State} (hopen : s.yplMayOpen = true)
    (hnew : (s.ypl.stored.any fun f => f.id == (s.rd R.YPL_FIELD_ID).toNat) = false) :
    (State.yplCmd 1 s).ypl.openReq = some (.fresh (s.rd R.YPL_FIELD_ID).toNat (s.rd R.YPL_ORIGIN_LAT).toInt
      (s.rd R.YPL_ORIGIN_LON).toInt (s.fd R.YPL_CROP_SEL 2 0)) := by simp only [State.yplCmd, hopen, hnew]; rfl

theorem State.yplCmd_resume {s : State} (hopen : s.yplMayOpen = true)
    (hknown : (s.ypl.stored.any fun f => f.id == (s.rd R.YPL_FIELD_ID).toNat) = true) :
    (State.yplCmd 2 s).ypl.openReq = some (.resume (s.rd R.YPL_FIELD_ID).toNat) := by
  simp only [State.yplCmd, hopen, hknown]; rfl

/-- A field command of the registers takes effect in EXPERT (R66, R189): its guard aside it finds the state it came to. -/
theorem State.yplCtrl_done {s : State} (ini : Initiator) (g : State → State) (hup : s.domainUp .fab = true)
    (hexp : s.expert fYPL = true) : s.yplCtrl ini g = (g (s.reached ini Win.ypl.1)).busDone ini := by
  have hkept : (s.reached ini Win.ypl.1).expert fYPL = true := by
    unfold State.expert State.fn; rw [State.reached_fns]; exact hexp
  unfold State.yplCtrl
  rw [State.owned_done _ hup (fun _ => hexp), if_pos hkept]

/-- Settles O16: a sample keeps the tick it is given through every part of its work; the other clauses follow their own
command. -/
theorem yieldPlateEventsComplete : Obligations.YieldPlateEventsComplete := by
  unfold Obligations.YieldPlateEventsComplete
  refine ⟨?yplSample, ?yplSample', ?yplInverseReady, ?yplCalComputeDone, ?yplCalTimeout, ?yplTileLoaded, ?yplCheckpoint,
    ?yplClosingEnd, ?yplFieldCtrlOpen, ?yplFieldCtrlResume, ?yplFieldCtrlClose⟩
  case yplSample =>
    intro s hisRunning hpairHeld hclk hypl
    change execYplSample s = _
    refine State.runIn_next ?_
    simp [hisRunning, hpairHeld, hclk, hypl]
  case yplSample' =>
    intro n s hrun hpair hdue hlast hnew
    have hgo : ¬ (!s.begun.isRunning fYPL || s.begun.pairHeld || s.begun.clk.tickCount % 2000 != 0 ||
        s.begun.ypl.lastTick == some s.begun.clk.tickCount) = true := by simp [hrun, hpair, hdue, hlast, hnew]
    have hold : ¬ s.begun.ypl.lastTick.isNone = true := by simp [hlast]
    change ∃ t, execYplSample s = .next t ∧ _
    refine State.runIn_complete ?_
    rw [if_neg hgo, if_neg hold]
    extract_lets s0 a b yw m yd s1 s2 s3 s4 s5 s6 s7 s8 s9 s10 s11 s12
    have hall (l : List Nat) (t : State) : (l.foldl (fun s n => s.yplAllocate n) t).ypl.lastTick = t.ypl.lastTick :=
      foldl_keeps (fun t : State => t.ypl.lastTick) State.yplAllocate_lastTick _ _
    have hb : b.1.ypl.lastTick = some s.clk.tickCount :=
      (State.yplMoist_lastTick _).trans (State.yplFlow_lastTick s0)
    have h2 : s2.ypl.lastTick = some s.clk.tickCount :=
      (State.yplMake_lastTick _ _).trans ((State.yplPass_lastTick _).trans hb)
    have h5 : s5.ypl.lastTick = some s.clk.tickCount := (State.yplFinal_lastTick s4).trans h2
    have h6 : s6.ypl.lastTick = some s.clk.tickCount := by simp only [s6, hall, h5]
    clear_value s6
    have h9 : s9.ypl.lastTick = some s.clk.tickCount := h6
    have h11 : s11.ypl.lastTick = some s.clk.tickCount :=
      (State.yplCollect_lastTick _ _).trans ((State.yplBalance_lastTick s9).trans h9)
    rw [Foot.finish_ypl, if_pos (by decide), State.yplShowTiles_lastTick, State.yplOpenNow_lastTick, apply_ite State.ypl]
    split <;> exact h11
  case yplInverseReady =>
    intro a s hinv
    change ∃ t, execYplInverseReady s = .next t ∧ _
    refine State.runIn_complete ?_
    simp only [State.begun_ypl, hinv]
    generalize scale16 _ _ = g
    generalize ht : State.wb _ R.YPL_STATUS 4 true = t
    have hbit : t.bt R.YPL_STATUS 4 = true := by rw [← ht, State.wb_bt_same _ _ (by decide)]
    rw [Foot.finish_ypl, if_pos (by decide), Foot.finish_bt_win Win.ypl s _ (by decide) (by decide) (by decide)]
    exact ⟨rfl, rfl, (congrArg (bit · 4) (State.setYpl_rd ..)).trans hbit⟩
  case yplCalComputeDone =>
    intro s hstatus
    have hdue : ¬ (s.begun.fd R.YPL_STATUS 3 2 != 2) = true := by simp [hstatus]
    change ∃ t, execYplCalComputeDone s = .next t ∧ _
    refine State.runIn_complete ?_
    rw [if_neg hdue]
    extract_lets h ab tail h' big k fit top dead cen s1 s2 s3 s4
    rw [Foot.finish_fd_win Win.ypl s _ (by decide) (by decide) (by decide)]
    repeat' split
    all_goals exact State.yplCalEnd_status ..
  case yplCalTimeout =>
    intro s hstatus htbPast
    change execYplCalTimeout s = _
    refine State.runIn_next ?_
    simp [hstatus, htbPast]
  case yplTileLoaded =>
    intro f g x s hypl hypl' hf
    change execYplTileLoaded s = _
    refine State.runIn_next ?_
    simp [hypl, hypl', hf]
  case yplCheckpoint =>
    intro f s hisRunning hypl htbPast
    change execYplCheckpoint s = _
    refine State.runIn_next ?_
    simp only [State.begun_ypl, State.begun_isRunning, State.begun_tbPast, State.begun_fd, State.begun_clk, hisRunning, hypl,
      htbPast, Option.isSome_some, Bool.and_self, if_true, State.setYpl_setYpl]
    rfl
  case yplClosingEnd =>
    intro f s hypl hyplField hypl'
    change execYplClosingEnd s = _
    refine State.runIn_next ?_
    simp [hypl, hyplField, hypl']
  case yplFieldCtrlOpen =>
    intro ini s hup hexp hopen hnew
    change ∃ t, execYplFieldCtrlOpen ini s = .next t ∧ _
    refine ⟨_, State.runIn_next (F := .ypl) (State.yplCtrl_done ini (s := s.begun) _ hup hexp), ?_⟩
    have hnone : (s.begun.reached ini Win.ypl.1).yplMayOpen = true := (State.reached_yplMayOpen ..).trans hopen
    have hany : (s.ypl.stored.any fun f => f.id == (s.rd R.YPL_FIELD_ID).toNat) = false := by simpa using hnew
    rw [Foot.finish_ypl, if_pos (by decide), State.busDone_ypl ini]
    rw [State.yplCmd_fresh hnone (by rw [State.reached_ypl, State.reached_rd _ _ _ (by decide) (by decide)]; exact hany)]
    unfold State.fd
    iterate 4 rw [State.reached_rd _ _ _ (by decide) (by decide)]
    rfl
  case yplFieldCtrlResume =>
    intro ini f s hup hexp hopen hmem hid
    change ∃ t, execYplFieldCtrlResume ini s = .next t ∧ _
    refine ⟨_, State.runIn_next (F := .ypl) (State.yplCtrl_done ini (s := s.begun) _ hup hexp), ?_⟩
    have hnone : (s.begun.reached ini Win.ypl.1).yplMayOpen = true := (State.reached_yplMayOpen ..).trans hopen
    have hany : (s.ypl.stored.any fun f => f.id == (s.rd R.YPL_FIELD_ID).toNat) = true :=
      List.any_eq_true.2 ⟨f, hmem, by simp [hid]⟩
    rw [Foot.finish_ypl, if_pos (by decide), State.busDone_ypl ini]
    rw [State.yplCmd_resume hnone (by rw [State.reached_ypl, State.reached_rd _ _ _ (by decide) (by decide)]; exact hany),
      State.reached_rd _ _ _ (by decide) (by decide)]
    rfl
  case yplFieldCtrlClose =>
    intro ini s hup hexp hfield
    change execYplFieldCtrlClose ini s = _
    have hopen : (s.begun.reached ini Win.ypl.1).yplField = 1 := (State.reached_yplField ..).trans hfield
    refine State.runIn_next ((State.yplCtrl_done ini (s := s.begun) _ hup hexp).trans ?_)
    rw [State.yplCmd, hopen]
    rfl

end Sys2Proof.Machine
end

section
/-!
PROOF. Chapter 07: YieldPlate's mailbox commands complete.
-/
namespace Sys2Proof.Machine

theorem word_u32 (p : List Byte) (i : Nat) : word (u32 p i) = w32 p i := by
  unfold word w32; rfl

/-- What the registers of a field's opening hold once it is entered (R189). -/
theorem State.yplEntry_rd (s : State) (id lat lon : Word) (crop : Nat) :
    ((((s.wr R.YPL_FIELD_ID id).wr R.YPL_ORIGIN_LAT lat).wr R.YPL_ORIGIN_LON lon).wf_ R.YPL_CROP_SEL 2 0 crop).rd
        R.YPL_FIELD_ID = id ∧
      ((((s.wr R.YPL_FIELD_ID id).wr R.YPL_ORIGIN_LAT lat).wr R.YPL_ORIGIN_LON lon).wf_ R.YPL_CROP_SEL 2 0 crop).rd
        R.YPL_ORIGIN_LAT = lat ∧
      ((((s.wr R.YPL_FIELD_ID id).wr R.YPL_ORIGIN_LAT lat).wr R.YPL_ORIGIN_LON lon).wf_ R.YPL_CROP_SEL 2 0 crop).rd
        R.YPL_ORIGIN_LON = lon := by
  simp [State.wfSet_rd, State.wr_rd, R.YPL_FIELD_ID, R.YPL_ORIGIN_LAT, R.YPL_ORIGIN_LON, R.YPL_CROP_SEL]

theorem insertBy_length {α : Type} (lt : α → α → Bool) (x : α) (ys : List α) :
    (insertBy lt x ys).length = ys.length + 1 := by
  induction ys with
  | nil => rfl
  | cons y ys ih =>
    unfold insertBy
    split
    · rfl
    · simp [ih]

theorem sortBy_length {α : Type} (lt : α → α → Bool) (xs : List α) : (sortBy lt xs).length = xs.length := by
  have hfold (acc : List α) : (xs.foldl (fun a x => insertBy lt x a) acc).length = acc.length + xs.length := by
    induction xs generalizing acc with
    | nil => rfl
    | cons x xs ih => rw [List.foldl_cons, ih, insertBy_length, List.length_cons]; omega
  exact (hfold []).trans (Nat.zero_add _)

/-- The cells of one tile in the order a read of it gives them (R192). -/
def yplTileCells (f : YplField) (p : List Byte) : List YplCell :=
  sortBy (fun a b => decide ((a.j % 256) * 256 + a.i % 256 < (b.j % 256) * 256 + b.i % 256))
    (f.cells.filter (fun c => yplTile (c.i, c.j) == (i16 p 0, i16 p 2)))

theorem yplTileCells_ne_nil {f : YplField} {p : List Byte} (h : ∃ e ∈ f.cells, yplTile (e.i, e.j) = (i16 p 0, i16 p 2)) :
    (yplTileCells f p).isEmpty = false := by
  obtain ⟨e, hmem, htile⟩ := h
  have hin : e ∈ f.cells.filter (fun c => yplTile (c.i, c.j) == (i16 p 0, i16 p 2)) :=
    List.mem_filter.2 ⟨hmem, by simp [htile]⟩
  have hpos : 0 < (yplTileCells f p).length := by
    unfold yplTileCells
    rw [sortBy_length]
    exact List.length_pos_of_mem hin
  simpa using List.ne_nil_of_length_pos hpos

/-- Settles O17: each clause follows its command's body under its hypotheses. -/
theorem yieldPlateCommandsComplete : Obligations.YieldPlateCommandsComplete := by
  unfold Obligations.YieldPlateCommandsComplete
  refine ⟨?yplFieldOpen, ?yplFieldOpen', ?yplFieldClose, ?yplCalKernel, ?yplCalKernel', ?yplKernelSet, ?yplKernelGet,
    ?yplTileRead, ?yplExport, ?yplExportRead, ?yplWeigh, ?yplWeigh'⟩
  case yplFieldOpen =>
    intro c k s h hlen hopen hnew hcrop
    have hfresh : ¬ (u8 c.payload 13 = 0 ∧ (s.ypl.stored.any fun f => f.id == u32 c.payload 0) = true) := by
      rintro ⟨hzero, hany⟩
      obtain ⟨f, hf, hid⟩ := List.any_eq_true.1 hany
      rcases hnew with ⟨_, hall⟩ | htwo
      · exact hall f hf (by simpa using hid)
      · omega
    have hsel : u8 c.payload 13 ≤ 2 ∧ u8 c.payload 13 ≠ 1 := by omega
    have hgo (b : Bool) : ¬ (2 < u8 c.payload 13 ||
        (u8 c.payload 13 = 0 && (s.entered fYPL 0x10 k c).ypl.stored.any fun f => f.id == u32 c.payload 0) ||
        (u8 c.payload 13 = 1 && b) || (u8 c.payload 13 != 1 && 7 < u8 c.payload 12)) = true := by
      simp only [Bool.or_eq_true, Bool.and_eq_true, decide_eq_true_eq, bne_iff_ne, State.entered_ypl]
      rintro (((hbig | hold) | ⟨hres, -⟩) | ⟨-, hbad⟩)
      · omega
      · exact hfresh hold
      · exact hsel.2 hres
      · omega
    obtain ⟨hid, -, -⟩ := State.yplEntry_rd (s.entered fYPL 0x10 k c) (word (u32 c.payload 0)) (iword (i32 c.payload 4))
      (iword (i32 c.payload 8)) (u8 c.payload 12)
    refine State.command_answersOK (u := (((((s.entered fYPL 0x10 k c).wr R.YPL_FIELD_ID (word (u32 c.payload 0))).wr
      R.YPL_ORIGIN_LAT (iword (i32 c.payload 4))).wr R.YPL_ORIGIN_LON (iword (i32 c.payload 8))).wf_ R.YPL_CROP_SEL 2 0
      (u8 c.payload 12)).setYpl (fun y => { y with
        openReq := some (.fresh (u32 c.payload 0) (i32 c.payload 4) (i32 c.payload 8) (u8 c.payload 12)) }))
      h ?_ ⟨rfl, rfl, (State.setYpl_rd ..).trans (hid.trans (word_u32 ..))⟩
    dsimp only
    rw [if_neg (by simp [hlen]), if_neg (by simp [hopen]), if_neg (hgo _)]
    simp only [if_neg hsel.2]
    rfl
  case yplFieldOpen' =>
    intro c k f s h hlen hopen hresume hfind
    have hknown : (s.ypl.stored.any fun f => f.id == u32 c.payload 0) = true :=
      List.any_eq_true.2 ⟨f, List.mem_of_find?_eq_some hfind, by simpa using List.find?_some hfind⟩
    obtain ⟨hid, hlat, hlon⟩ := State.yplEntry_rd (s.entered fYPL 0x10 k c) (word (u32 c.payload 0)) (iword f.lat)
      (iword f.lon) f.crop
    refine State.command_answersOK (u := (((((s.entered fYPL 0x10 k c).wr R.YPL_FIELD_ID (word (u32 c.payload 0))).wr
      R.YPL_ORIGIN_LAT (iword f.lat)).wr R.YPL_ORIGIN_LON (iword f.lon)).wf_ R.YPL_CROP_SEL 2 0 f.crop).setYpl
        (fun y => { y with openReq := some (.resume (u32 c.payload 0)) }))
      h ?_ ⟨rfl, rfl, hlat, hlon, hid.trans (word_u32 _ _)⟩
    dsimp only
    rw [if_neg (by simp [hlen]), if_neg (by simp [hopen]), if_neg (by simp only [State.entered_ypl, hresume, hknown]; simp)]
    simp only [State.entered_ypl, hresume, hfind]
    rfl
  case yplFieldClose =>
    intro c k s h hlen hyplField
    refine State.command_answersOK h ?_ ⟨rfl, rfl⟩
    simp [hlen, hyplField]
  case yplCalKernel =>
    intro c k s h hlen hstart hmin hmax hidle
    refine State.command_answersOK (u := (((s.entered fYPL 0x12 k c).wf_ R.YPL_STATUS 3 2 1).wf_ R.YPL_STATUS 13 9 0).setYpl
      (fun y => { y with calWant := u8 c.payload 0, calAt := s.clk.tb, calCnt := 0, windows := [] }))
      h ?_ ⟨rfl, rfl, rfl, rfl, ?_⟩
    · simp [hlen, hstart, Nat.not_lt.2 hmin, Nat.not_lt.2 hmax, hidle]
    · exact (State.wfSet_fd_ne _ _ (by decide) (by decide) _).trans (State.wfSet_fd_same _ _ (by decide) _)
  case yplCalKernel' =>
    intro c k s h hlen hu8 hstatus
    refine State.command_answersOK h ?_ ⟨rfl, rfl⟩
    simp [hlen, hu8, hstatus]
  case yplKernelSet =>
    intro c k s h hlen hlam hsum
    have hgo : ¬ (isum ((List.range 256).map fun n => i32 c.payload (4 * n)) ≤ 0 || 65535 < u32 c.payload 1024) = true := by
      simp only [Bool.or_eq_true, decide_eq_true_eq]
      omega
    refine State.command_answersOK h ?_ ⟨rfl, rfl⟩
    dsimp only
    rw [if_neg (by simp [hlen]), if_neg hgo]
  case yplKernelGet =>
    intro c k s h hlen
    refine State.command_answersOK h ?_ ⟨rfl, rfl⟩
    simp [hlen, okWith]
  case yplTileRead =>
    intro c k n f s h hlen hfind he hmin hmax hring hfits
    obtain ⟨u, hu⟩ := State.openRing_ok (s := s.entered fYPL 0x15 k c) k fYPL 0 0 true
      (yplTileSlots (yplTileCells f c.payload).length (yplTileCells f c.payload)) hmin hmax (by simpa) (by simpa)
    refine State.command_answersOK (u := u) h ?_ rfl
    change (if c.payload.length != 9 then refuse stBAD_LENGTH _ else match (s.entered fYPL 0x15 k c).yplFind _ with
      | none => _
      | some f => if (yplTileCells f c.payload).isEmpty then _ else _) = _
    rw [if_neg (by simp [hlen])]
    simp only [State.entered_yplFind, hfind, yplTileCells_ne_nil he]
    exact congrArg (ringReply _) hu
  case yplExport =>
    intro c k f s h hlen hfind hclosed
    refine h.runsOn_classC (v := (s.entered fYPL 0x16 k c).setYpl (fun y => { y with
      files := [yplTaskData f (u8 c.payload 4), yplGridFile f (fld (s.yplW (R.YPL_CROP f.crop)) 15 0)
        (u8 c.payload 4 % 2 = 1) (u8 c.payload 4 / 2 % 2 = 1)] })) ?_ (by simp) ⟨rfl, rfl⟩
    simp [hlen, hfind, hclosed]
    rfl
  case yplExportRead =>
    intro c k n s h hlen hmin hmax hring hfits
    obtain ⟨u, hu⟩ := State.openRing_ok (s := s.entered fYPL 0x17 k c) k fYPL 1 0 true (exportSlots s.ypl.files)
      hmin hmax hring hfits
    refine State.command_answersOK (u := u) h ?_ ⟨rfl, hu⟩
    simp [hlen, hu, ringReply]
  case yplWeigh =>
    intro c k s h hlen hu8
    refine State.command_answersOK h ?_ ⟨rfl, rfl⟩
    simp [hlen, hu8]
  case yplWeigh' =>
    intro c k m s h hlen hend hm hpos hlow hhigh
    have hgo : ¬ (m ≤ 0 || 100 * ((u32 c.payload 4 * 1000 : Nat) : Int) < 80 * m ||
        125 * m < 100 * ((u32 c.payload 4 * 1000 : Nat) : Int)) = true := by
      simp only [Bool.or_eq_true, decide_eq_true_eq]
      omega
    refine State.command_answersOK (u := (s.entered fYPL 0x18 k c).wr R.YPL_FLOW_GAIN
      (iword (divFree ((s.rd R.YPL_FLOW_GAIN).toNat * ((u32 c.payload 4 * 1000 : Nat) : Int)) m))) h ?_ ⟨rfl, rfl⟩
    dsimp only
    rw [if_neg (by simp [hlen]), if_neg (by simp [hend]), if_neg (by simp [hend])]
    simp only [State.entered_ypl, hm]
    rw [if_neg hgo]
    rfl

end Sys2Proof.Machine
end

section
/-!
PROOF. Chapters 09 and 10: the events of ActuatorDrive's channels complete.
-/
namespace Sys2Proof.Machine

theorem State.adrDo_chan (s : State) {n : Nat} (h : n < 48) (g : State → State) : s.adrDo n g = (g s).adrShow n :=
  if_pos h

@[simp] theorem State.setCh_pwr (s : State) (n : Nat) (f : AdrCh → AdrCh) : (s.setCh n f).pwr = s.pwr := rfl

@[simp] theorem State.setCh_bank (s : State) (n k : Nat) (f : AdrCh → AdrCh) : (s.setCh n f).bank k = s.bank k := rfl

theorem State.setCh_ch_same {s : State} {n : Nat} (h : n < s.adr.chs.length) (f : AdrCh → AdrCh) :
    (s.setCh n f).ch n = f (s.ch n) := updAt_getD_same h f {}

theorem State.setCh_ch_of {α : Type} (φ : AdrCh → α) {f : AdrCh → AdrCh} (hf : ∀ c, φ (f c) = φ c) (s : State)
    (n i : Nat) :
    φ ((s.setCh n f).ch i) = φ (s.ch i) := updAt_getD_of φ hf _ _ _ _

theorem State.bankShow_adr (s : State) (k : Nat) : (s.bankShow k).adr = s.adr := rfl

theorem State.adrShow_adr (s : State) (n : Nat) : (s.adrShow n).adr = s.adr := by
  unfold State.adrShow
  dsimp only
  rw [State.bankShow_adr]
  split <;> rfl

theorem State.adrShow_ch (s : State) (n i : Nat) : (s.adrShow n).ch i = s.ch i := by
  unfold State.ch
  rw [State.adrShow_adr]

/-- What regulation reads and sums of a channel, and whether its closing is still looked for. -/
def AdrCh.sampled (c : AdrCh) : Nat × Nat × Nat × Bool := (c.cur, c.sum, c.cnt, c.closing)

theorem State.adrSample_sampled {s : State} {n : Nat} (h : n < s.adr.chs.length) (x : Nat)
    (htick : s.clk.tb - s.clk.tickStamp < 2490) :
    ((s.adrSample n x true).ch n).sampled = (x, (s.ch n).sum + x, (s.ch n).cnt + 1, (s.ch n).closing) := by
  unfold State.adrSample AdrCh.sampled
  rw [State.setCh_ch_same h]
  simp [Nat.not_le.2 htick]

theorem State.adrOpenTimer_sampled (s : State) (n x dt i : Nat) :
    ((s.adrOpenTimer n x dt).ch i).sampled = (s.ch i).sampled := by
  unfold State.adrOpenTimer
  dsimp only
  split
  · split
    · exact State.setCh_ch_of AdrCh.sampled (by intro c; rfl) s n i
    · exact State.setCh_ch_of AdrCh.sampled (by intro c; rfl) s n i
  · rfl

theorem State.adrSwitch_sampled (s : State) (n i : Nat) (measured : Bool) :
    ((s.adrSwitch n measured).ch i).sampled = (s.ch i).sampled := by
  refine State.setCh_ch_of AdrCh.sampled (fun c => ?_) s n i
  repeat' split
  all_goals rfl

/-- Settles O18: a sample reaches its channel's record, and what follows it in the same command leaves the sample there. -/
theorem actuatorEventsComplete : Obligations.ActuatorEventsComplete := by
  unfold Obligations.ActuatorEventsComplete
  refine ⟨?adrRegulationDecision, ?adrEvtDurWrite, ?adrEventStart, ?adrBoostEnd, ?adrBoostTimeout, ?adrBankIlim, ?adrPeakEnd,
    ?adrHoldReached, ?adrEventEnd, ?adrDecayEnd, ?adrDecayTimeout⟩
  case adrRegulationDecision =>
    intro n x s hn hlen hrun hx hown htick hclosing
    have hgo : ¬ (!(decide (n < 48) && (s.begun.adr.run || (s.begun.ch n).ph != .idle))) = true := by simp [hn, hrun]
    have hmeasured : ((s.begun.bankSampler (n / 4)).isNone || s.begun.bankSampler (n / 4) == some (n % 4)) = true := by
      rcases hown with h | h <;> simp [h]
    change ∃ t, execAdrRegulationDecision n x s = .next t ∧ _
    refine State.runIn_complete ?_
    rw [if_neg hgo]
    extract_lets k own measured last s0 s1 c chop s2 s3
    have hm : measured = true := hmeasured
    have hs0 : s0 = s.begun.adrSample n x true := congrArg (s.begun.adrSample n x) hm
    have hs1 : s1 = s0.adrOpenTimer n x (s0.tb2 - last.getD s0.tb2) := if_pos hm
    have h1 : (s1.ch n).sampled = (x, (s.ch n).sum + x, (s.ch n).cnt + 1, false) := by
      rw [hs1, State.adrOpenTimer_sampled, hs0, State.adrSample_sampled (s := s.begun) hlen x htick, State.begun_ch, hclosing]
    rw [if_neg (by simp [Nat.not_le.2 hx])]
    have h2 : (s2.ch n).sampled = (x, (s.ch n).sum + x, (s.ch n).cnt + 1, false) := by
      simp only [s2]
      split
      · exact (State.adrSwitch_sampled _ _ _ _).trans h1
      · exact h1
    clear_value s2
    have hopen : c.closing = false := congrArg (fun q => q.2.2.2) h1
    have h3 : s3 = s2 := if_neg (by rw [hopen]; simp)
    have hch : (Foot.adr.finish s (s3.adrShow n)).ch n = s2.ch n := by
      unfold State.ch
      rw [Foot.finish_adr, if_pos (by decide), State.adrShow_adr, h3]
    rw [hch]
    exact ⟨congrArg (fun q => q.1) h2, congrArg (fun q => q.2.1) h2, congrArg (fun q => q.2.2.1) h2⟩
  case adrEvtDurWrite =>
    intro ini n v s hn hup hexp
    change execAdrEvtDurWrite ini n v s = _
    refine State.runIn_next ((State.owned_done (s := s.begun) _ hup hexp).trans ?_)
    rw [State.adrEvtDur, if_pos hn]
  case adrEventStart =>
    intro n e q s hn hlen hqueue hstart hshed hover hback hon hwait
    have hfree : ((s.begun.setCh n fun c => { c with queue := q }).ch n).wait = none := by
      rw [State.setCh_ch_same (s := s.begun) hlen]; exact hwait
    change execAdrEventStart n s = _
    refine State.runIn_next ?_
    rw [State.adrDo_chan _ hn]
    simp [hqueue, Nat.not_lt.2 hstart, hshed, hover, hback, hon, hfree]
  case adrBoostEnd =>
    intro n s hn hch hch'
    change execAdrBoostEnd n s = _
    refine State.runIn_next ?_
    rw [State.adrDo_chan _ hn]
    simp [hch, Nat.not_lt.2 hch']
  case adrBoostTimeout =>
    intro n s hn hch hch'
    change execAdrBoostTimeout n s = _
    refine State.runIn_next ?_
    rw [State.adrDo_chan _ hn]
    simp [hch, hch']
  case adrBankIlim =>
    intro k i s hbank hch
    change execAdrBankIlim k s = _
    refine State.runIn_next ?_
    simp [hbank, hch]
  case adrPeakEnd =>
    intro n s hn hch hch'
    change execAdrPeakEnd n s = _
    refine State.runIn_next ?_
    rw [State.adrDo_chan _ hn]
    simp [hch, hch']
  case adrHoldReached =>
    intro n s hn hlen hph
    change ∃ t, execAdrHoldReached n s = .next t ∧ _
    refine State.runIn_complete ?_
    rw [State.adrDo_chan _ hn, State.begun_ch, if_pos hph]
    have hch : (Foot.adr.finish s (s.begun.adrHold n |>.adrShow n)).ch n = (s.begun.adrHold n).ch n := by
      unfold State.ch
      rw [Foot.finish_adr, if_pos (by decide), State.adrShow_adr]
    rw [hch, State.adrHold, State.setCh_ch_same (s := s.begun) hlen]
    exact ⟨rfl, rfl⟩
  case adrEventEnd =>
    intro n s hn hch hch' hch'' hch'''
    change execAdrEventEnd n s = _
    refine State.runIn_next ?_
    rw [State.adrDo_chan _ hn]
    simp [hch, hch', hch'', hch''']
  case adrDecayEnd =>
    intro n s hn hch
    change execAdrDecayEnd n s = _
    refine State.runIn_next ?_
    rw [State.adrDo_chan _ hn]
    simp [hch]
  case adrDecayTimeout =>
    intro n s hn hch hch' hch''
    change execAdrDecayTimeout n s = _
    refine State.runIn_next ?_
    rw [State.adrDo_chan _ hn]
    simp [hch, hch', hch'']

end Sys2Proof.Machine
end

section
/-!
PROOF. Chapters 09 and 10: the faults, windows, periods and registers of ActuatorDrive complete.
-/
namespace Sys2Proof.Machine

/-! ## What the operations on a channel leave of its command register and of the list of channels -/

theorem State.setSig_rd_ne (s : State) (i : Nat) (v : Word) {a : Nat} (h : a ≠ R.FAB_SIG i)
    (h' : a ≠ R.FAB_SIG_VALID (i / 32)) :
    (s.setSig i v).rd a = s.rd a :=
  (State.wr_rd_ne _ _ h').trans (State.wr_rd_ne _ _ h)

theorem R.ADR_CH_CMD_outside {n : Nat} (h : n < 48) : Foot.shared.holds (R.ADR_CH_CMD n) = false :=
  Foot.shared_not (by unfold R.ADR_CH_CMD; omega) (by unfold R.ADR_CH_CMD; omega)

theorem State.updAt_chs_length (s : State) (n : Nat) (f : AdrCh → AdrCh) :
    (s.setCh n f).adr.chs.length = s.adr.chs.length := by
  simp [State.setCh, State.setAdr, updAt]

theorem State.adrDropNote_adr (s : State) (n cause req : Nat) : (s.adrDropNote n cause req).adr = s.adr := by
  unfold State.adrDropNote
  dsimp only
  split <;> simp

theorem State.adrMotion_adr (s : State) (n : Nat) (ran : Bool) (r : AdrRun) : (s.adrMotion n ran r).adr = s.adr := by
  unfold State.adrMotion
  dsimp only
  repeat' split
  all_goals simp

theorem State.adrSetOpen_length (s : State) (n : Nat) (v : Bool) : (s.adrSetOpen n v).adr.chs.length = s.adr.chs.length := by
  unfold State.adrSetOpen State.adrFaultNote
  dsimp only
  repeat' split
  all_goals simp [State.updAt_chs_length]

theorem State.adrMeasure_command (s : State) (n : Nat) : (s.adrMeasure n).rd (R.ADR_CH_CMD n) = s.rd (R.ADR_CH_CMD n) := by
  have hmeas (t : State) (v : Word) : (t.wr (R.ADR_CH_RMEAS n) v).rd (R.ADR_CH_CMD n) = t.rd (R.ADR_CH_CMD n) :=
    State.wr_rd_ne _ _ (by unfold R.ADR_CH_CMD R.ADR_CH_RMEAS; omega)
  unfold State.adrMeasure
  extract_lets
  split
  · rfl
  · split
    · exact hmeas _ _
    · exact hmeas _ _

theorem State.adrPropSync_command (s : State) (n : Nat) : (s.adrPropSync n).rd (R.ADR_CH_CMD n) = s.rd (R.ADR_CH_CMD n) := by
  unfold State.adrPropSync
  dsimp only
  split
  · split
    · rfl
    · rfl
  · split
    · exact State.adrMeasure_command s n
    · rfl

section
variable {n : Nat} (h : n < 48)
include h

theorem State.adrDropNote_command (s : State) (m cause req : Nat) :
    (s.adrDropNote m cause req).rd (R.ADR_CH_CMD n) = s.rd (R.ADR_CH_CMD n) := by
  unfold State.adrDropNote
  dsimp only
  rw [State.notify_rd _ _ _ _ (R.ADR_CH_CMD_outside h), State.inc_rd, if_neg (by unfold R.ADR_CH_CMD R.ADR_EVT_DROPS; omega)]
  split
  · rw [State.inc_rd, if_neg (by unfold R.ADR_CH_CMD R.ADR_BANK_COLLIDE; omega)]
  · rfl

theorem State.adrSetOpen_command (s : State) (m : Nat) (v : Bool) :
    (s.adrSetOpen m v).rd (R.ADR_CH_CMD n) = s.rd (R.ADR_CH_CMD n) := by
  unfold State.adrSetOpen State.adrFaultNote
  dsimp only
  have hout := R.ADR_CH_CMD_outside h
  split
  · rw [State.notify_rd _ _ _ _ hout, State.inc_rd, if_neg (by unfold R.ADR_CH_CMD R.ADR_OPEN_CNT; omega)]; rfl
  · split
    · rw [State.notify_rd _ _ _ _ hout]; rfl
    · rfl

theorem State.adrMotion_command (s : State) {m : Nat} (hm : m < 48) (ran : Bool) (r : AdrRun) :
    (s.adrMotion m ran r).rd (R.ADR_CH_CMD n) = s.rd (R.ADR_CH_CMD n) := by
  unfold State.adrMotion
  extract_lets w c bad o k wait s1 s2 s3 okO okC
  have hsig (t : State) (v : Word) : (t.setSig m v).rd (R.ADR_CH_CMD n) = t.rd (R.ADR_CH_CMD n) :=
    State.setSig_rd_ne _ _ _ (by unfold R.ADR_CH_CMD R.FAB_SIG; omega) (by unfold R.ADR_CH_CMD R.FAB_SIG_VALID; omega)
  have h2 : s2.rd (R.ADR_CH_CMD n) = s.rd (R.ADR_CH_CMD n) := by
    refine (State.wr_rd_ne _ _ (by unfold R.ADR_CH_CMD R.ADR_MOT_MISS; omega)).trans ?_
    refine (State.wr_rd_ne _ _ (by unfold R.ADR_CH_CMD R.ADR_MOT_Q; omega)).trans ?_
    exact State.wr_rd_ne _ _ (by unfold R.ADR_CH_CMD R.ADR_MOT_RES; omega)
  have h3 : s3.rd (R.ADR_CH_CMD n) = s.rd (R.ADR_CH_CMD n) := by
    simp only [s3]
    split
    · exact (State.notify_rd _ _ _ _ (R.ADR_CH_CMD_outside h)).trans h2
    · exact h2
  clear_value s3
  repeat' split
  all_goals simp only [hsig, h3]

theorem State.adrRecord_command (s : State) : (s.adrRecord n).rd (R.ADR_CH_CMD n) = s.rd (R.ADR_CH_CMD n) := by
  unfold State.adrRecord
  extract_lets s0 c r opn uj last s1 s2 s3 s4
  have h1 : s1.rd (R.ADR_CH_CMD n) = s.rd (R.ADR_CH_CMD n) := by
    refine (State.wr_rd_ne _ _ (by unfold R.ADR_CH_CMD R.ADR_EVT_EN; omega)).trans ?_
    refine (State.wr_rd_ne _ _ (by unfold R.ADR_CH_CMD R.ADR_EVT_TB; omega)).trans ?_
    exact State.wr_rd_ne _ _ (by unfold R.ADR_CH_CMD R.ADR_EVT_LAST; omega)
  have h2 : s2.rd (R.ADR_CH_CMD n) = s.rd (R.ADR_CH_CMD n) := by
    simp only [s2]
    split
    · rw [State.inc_rd, if_neg (by unfold R.ADR_CH_CMD R.ADR_EVENTS; omega), h1]
    · rw [State.adrDropNote_command h, h1]
  have h4 : s4.rd (R.ADR_CH_CMD n) = s.rd (R.ADR_CH_CMD n) := by
    simp only [s4]
    split
    · rw [State.adrSetOpen_command h, State.adrMotion_command h _ h, h2]
    · rw [State.adrMotion_command h _ h, h2]
  exact h4

theorem State.adrClose_command (s : State) : (s.adrClose n).rd (R.ADR_CH_CMD n) = s.rd (R.ADR_CH_CMD n) := by
  have hrecov : (s.adrRecov n).rd (R.ADR_CH_CMD n) = s.rd (R.ADR_CH_CMD n) :=
    State.wr_rd_ne _ _ (by unfold R.ADR_CH_CMD R.ADR_RECOV_MJ; omega)
  unfold State.adrClose
  dsimp only
  split
  · exact hrecov
  · exact (State.adrRecord_command h _).trans hrecov

end

theorem State.adrClose_length (s : State) (n : Nat) : (s.adrClose n).adr.chs.length = s.adr.chs.length := by
  have hrecord (t : State) : (t.adrRecord n).adr.chs.length = t.adr.chs.length := by
    unfold State.adrRecord State.adrWinEnd
    dsimp only
    repeat' split
    all_goals simp [State.updAt_chs_length, State.adrSetOpen_length, State.adrMotion_adr, State.adrDropNote_adr]
  have hrecov : (s.adrRecov n).adr.chs = s.adr.chs := rfl
  unfold State.adrClose
  dsimp only
  rw [State.updAt_chs_length]
  split
  · rw [hrecov]
  · rw [hrecord, hrecov]

/-- The time a channel waits for after a short, and since when it has had none. -/
def AdrCh.retry (c : AdrCh) : Option Nat × Nat := (c.resumeAt, c.okSince)

theorem State.adrBand_retry (s : State) (n t i : Nat) : ((s.adrBand n t).ch i).retry = (s.ch i).retry := by
  unfold State.adrBand
  extract_lets r b
  clear_value r b
  refine State.setCh_ch_of AdrCh.retry (fun c => ?_) s n i
  split <;> rfl

theorem State.adrMeasure_retry (s : State) (n i : Nat) : ((s.adrMeasure n).ch i).retry = (s.ch i).retry := by
  have hset (t : State) (f : AdrCh → AdrCh) (hf : ∀ c, (f c).retry = c.retry) : ((t.setCh n f).ch i).retry = (t.ch i).retry :=
    State.setCh_ch_of AdrCh.retry hf t n i
  unfold State.adrMeasure
  extract_lets c due s1 ton all sum cnt vb rm s2 s3 rref tn
  have h1 : (s1.ch i).retry = (s.ch i).retry := hset _ _ (by intro c; rfl)
  split
  · exact h1
  · have h3 : (s3.ch i).retry = (s.ch i).retry := (hset _ _ (by intro c; rfl)).trans h1
    split
    · exact h3
    · exact (State.adrBand_retry _ _ _ _).trans ((hset _ _ (by intro c; rfl)).trans h3)

theorem State.adrPropSync_retry (s : State) (n i : Nat) : ((s.adrPropSync n).ch i).retry = (s.ch i).retry := by
  unfold State.adrPropSync
  dsimp only
  split
  · split
    · rfl
    · exact State.setCh_ch_of AdrCh.retry (by intro c; rfl) s n i
  · split
    · exact (State.setCh_ch_of AdrCh.retry (by intro c; rfl) _ n i).trans (State.adrMeasure_retry s n i)
    · rfl

/-! ## What a spill of the boost reservoir leaves of its state -/

/-- The voltage of the boost reservoir, and whether it spills. -/
def State.reservoir (s : State) : Nat × Bool := (s.adr.vbst, s.adr.spilling)

theorem State.adrSlow_reservoir (s : State) (n : Nat) : (s.adrSlow n).reservoir = s.reservoir := by
  unfold State.adrSlow
  dsimp only
  split <;> rfl

theorem State.bstNotify_adr (s : State) (m : Nat) : (s.bstNotify m).adr = s.adr := State.notify_adr ..

theorem State.bstNotify_reservoir (s : State) (m : Nat) : (s.bstNotify m).reservoir = s.reservoir := by
  unfold State.reservoir
  rw [State.bstNotify_adr]

theorem State.bstSpill_reservoir (s : State) : s.bstSpill.reservoir = (s.adr.vbst, true) := by
  unfold State.bstSpill
  rw [State.bstNotify_reservoir]
  exact foldl_keeps State.reservoir State.adrSlow_reservoir _ _

/-- A reservoir that did not spill and lies above the level of a spill spills from here on. -/
theorem State.bstSync_reservoir {s : State} (hspill : s.adr.spilling = false) (habove : s.bstSpillAt < s.adr.vbst) :
    s.bstSync.reservoir = (s.adr.vbst, true) := by
  unfold State.bstSync
  extract_lets may v conv un sp t t'
  have ht0 : t.adr.vbst = s.adr.vbst := rfl
  have ht : t'.adr.vbst = s.adr.vbst := by
    simp only [t']
    split
    · rw [State.bstNotify_adr, ht0]
    · exact ht0
  clear_value t'
  rw [if_pos (by simp [hspill, habove, v])]
  clear_value t un sp conv may
  have hshow (u : State) : u.bstShow.reservoir = u.reservoir := rfl
  rw [hshow, State.bstSpill_reservoir, ht]

/-- Settles O19: a short's retry keeps its channel's command register, so nothing restarts the channel, and a spill of the boost
reservoir leaves its voltage alone. -/
theorem actuatorGuardsComplete : Obligations.ActuatorGuardsComplete := by
  unfold Obligations.ActuatorGuardsComplete
  refine ⟨?adrCloseWindowEnd, ?adrDeferTimeout, ?adrShort, ?adrShortRetry, ?adrOpen, ?adrOpen', ?adrDitherPeriod,
    ?adrTempEstimateExpiry, ?adrChCmdWrite, ?adrFaultWrite, ?adrBoostSpill, ?boostConverterSwitch⟩
  case adrCloseWindowEnd =>
    intro n s hn hch
    change execAdrCloseWindowEnd n s = _
    refine State.runIn_next ?_
    rw [State.adrDo_chan _ hn]
    simp [hch]
  case adrDeferTimeout =>
    intro n w s hn hch hw
    change execAdrDeferTimeout n s = _
    refine State.runIn_next ?_
    rw [State.adrDo_chan _ hn]
    simp [hch, hw]
  case adrShort =>
    intro n s hn hadrShorted
    change execAdrShort n s = _
    refine State.runIn_next ?_
    rw [State.adrDo_chan _ hn]
    simp [hadrShorted]
  case adrShortRetry =>
    intro n t0 s hn hlen hresume hdue hcmd
    change ∃ t, execAdrShortRetry n s = .next t ∧ _
    refine State.runIn_complete ?_
    rw [State.adrDo_chan _ hn]
    have hwait : (s.begun.ch n).resumeAt = some t0 := hresume
    simp -zeta only [hwait]
    rw [if_neg (show ¬ s.begun.clk.tb < t0 from Nat.not_lt.2 hdue)]
    extract_lets s1 s2
    have h1 : s1.powerClk = s.powerClk ∧ s1.adr.chs.length = s.adr.chs.length ∧
        s1.rd (R.ADR_CH_CMD n) = s.rd (R.ADR_CH_CMD n) := by
      by_cases hprop : (s.begun.ch n).run.prop = true
      · simp only [s1, if_pos hprop]
        exact ⟨State.adrClose_powerClk _ _, State.adrClose_length _ _, State.adrClose_command hn _⟩
      · simp only [s1, if_neg hprop]
        exact ⟨rfl, rfl, rfl⟩
    obtain ⟨hclk, hsize, hkept⟩ := h1
    have hoff : ¬ s2.bt (R.ADR_CH_CMD n) 16 = true := by
      unfold State.bt at hcmd ⊢
      rw [State.adrPropSync_command]
      change ¬ bit (s1.rd (R.ADR_CH_CMD n)) 16 = true
      rw [hkept, hcmd]
      decide
    have hretry : (s2.ch n).retry = (none, s.clk.tb) := by
      refine (State.adrPropSync_retry _ _ _).trans ?_
      rw [State.setCh_ch_same (hsize ▸ hlen), State.clk_of_powerClk hclk]
      rfl
    rw [if_neg hoff]
    have hch : (Foot.adr.finish s (s2.adrShow n)).ch n = s2.ch n := by
      unfold State.ch
      rw [Foot.finish_adr, if_pos (by decide), State.adrShow_adr]
    rw [hch]
    exact ⟨congrArg Prod.fst hretry, congrArg Prod.snd hretry⟩
  case adrOpen =>
    intro n s hn hadrMode hch htbMs
    change execAdrOpen n true s = _
    refine State.runIn_next ?_
    rw [State.adrDo_chan _ hn]
    simp [hadrMode, hch, htbMs]
  case adrOpen' =>
    intro n s hn hadrMode hch htbMs
    change execAdrOpen n false s = _
    refine State.runIn_next ?_
    rw [State.adrDo_chan _ hn]
    simp [hadrMode, hch, htbMs]
  case adrDitherPeriod =>
    intro n s hn hch hdithDue
    change execAdrDitherPeriod n s = _
    refine State.runIn_next ?_
    rw [State.adrDo_chan _ hn]
    simp [hch, hdithDue]
  case adrTempEstimateExpiry =>
    intro n s hn hch htbPast
    change execAdrTempEstimateExpiry n s = _
    refine State.runIn_next ?_
    rw [State.adrDo_chan _ hn]
    simp [hch, htbPast]
  case adrChCmdWrite =>
    intro ini n v s hn hup hexp
    change execAdrChCmdWrite ini n v s = _
    refine State.runIn_next ((State.owned_done (s := s.begun) _ hup hexp).trans ?_)
    rw [if_pos hn]
  case adrFaultWrite =>
    intro ini w v s hdomainUp hini
    change execAdrFaultWrite ini w v s = _
    exact State.runIn_next (State.owned_done (s := s.begun) _ hdomainUp hini)
  case adrBoostSpill =>
    intro mv s habove hspill
    change ∃ t, execAdrBoostSpill mv s = .next t ∧ _
    refine State.runIn_complete ?_
    have hres : (s.begun.setAdr fun a => { a with vbst := mv }).bstSync.reservoir = (mv, true) :=
      State.bstSync_reservoir (s := s.begun.setAdr fun a => { a with vbst := mv }) hspill habove
    rw [Foot.finish_adr, if_pos (by decide)]
    exact ⟨congrArg Prod.fst hres, congrArg Prod.snd hres, rfl⟩
  case boostConverterSwitch =>
    intro mv mj s
    change execBoostConverterSwitch mv mj s = _
    refine State.runIn_next ?_
    simp

end Sys2Proof.Machine
end

section
/-!
PROOF. Chapters 09 and 10: ActuatorDrive's mailbox commands complete.
-/
namespace Sys2Proof.Machine

/-- The bounds a list of timed events meets leave no refusal of it (R231). -/
theorem adrEvents_any {es : List (Nat × Nat × Nat)} {t : State}
    (he : ∀ e ∈ es, e.1 < 48 ∧ t.adrMode e.1 = 0 ∧ 0 < e.2.2 ∧ e.2.2 ≤ 0xFFFFFF ∧ t.line (e.1 / 4) = true) :
    es.any (fun e => 48 ≤ e.1 || t.adrMode e.1 != 0 || e.2.2 = 0 || 0xFFFFFF < e.2.2) = false ∧
      es.any (fun e => !t.line (e.1 / 4)) = false := by
  constructor
  · rw [List.any_eq_false]
    intro e hmem
    obtain ⟨hchan, hmode, hpos, hmax, -⟩ := he e hmem
    simp [Nat.not_le.2 hchan, hmode, Nat.not_lt.2 hmax, Nat.ne_of_gt hpos]
  · rw [List.any_eq_false]
    intro e hmem
    obtain ⟨-, -, -, -, hline⟩ := he e hmem
    simp [hline]

/-- Settles O20: each clause follows its command's body under its hypotheses. -/
theorem actuatorCommandsComplete : Obligations.ActuatorCommandsComplete := by
  unfold Obligations.ActuatorCommandsComplete
  refine ⟨?adrEvent, ?adrSetCurrent, ?adrSwitch, ?adrChClear, ?adrReadCh, ?adrBoostSet, ?adrBankSet, ?adrBankRead,
    ?adrReadMot⟩
  case adrEvent =>
    intro c k es s h hmin hmax hlen hes he
    obtain ⟨hgood, hfree⟩ := adrEvents_any (t := s.entered fADR 0x10 k c) (es := es) (by simpa using he)
    refine State.command_answersOK h ?_ ⟨rfl, rfl⟩
    subst hes
    dsimp only
    rw [if_neg (by simp; omega), if_neg (by simp [hlen]), hgood, hfree, State.entered_tickEarly]
    exact (apply_ite (Prod.mk _) (s.tickEarly = true) _ _).symm
  case adrSetCurrent =>
    intro c k s h hlen hchan hmax hfree hline
    have hline' : ¬ (u32 c.payload 4 != 0 && !s.line (u8 c.payload 0 / 4)) = true := by
      by_cases hzero : u32 c.payload 4 = 0 <;> simp_all
    refine State.command_answersOK h ?_ ⟨rfl, rfl⟩
    simp -decide [hlen, Nat.not_le.2 hchan, Nat.not_lt.2 hmax, hfree, hline']
  case adrSwitch =>
    intro c k s h hlen hu8 hu8' hline
    refine State.command_answersOK h ?_ ⟨rfl, rfl⟩
    simp [hlen, Nat.not_le.2 hu8, Nat.not_lt.2 hu8']
    exact fun hset hopen => absurd (hline hset) (by simp [hopen])
  case adrChClear =>
    intro c k s h hlen hu64
    refine State.command_answersOK h ?_ ⟨rfl, rfl⟩
    have hmask : u64 c.payload 0 < 281474976710656 := hu64
    simp [Nat.not_le.2 hmask, hlen]
  case adrReadCh =>
    intro c k s h hlen hu8
    refine State.command_answersOK h ?_ ⟨rfl, rfl⟩
    simp [hlen, Nat.not_le.2 hu8, okWith]
  case adrBoostSet =>
    intro c k s h hlen hu32 hu32'
    refine State.command_answersOK h ?_ ⟨rfl, rfl⟩
    simp [hlen, Nat.not_lt.2 hu32, Nat.not_lt.2 hu32']
  case adrBankSet =>
    intro c k s h hlen hu8 hu8' hline
    refine State.command_answersOK h ?_ ⟨rfl, rfl⟩
    simp [hlen, Nat.not_le.2 hu8, Nat.not_lt.2 hu8']
    exact fun hset hopen => absurd (hline hset) (by simp [hopen])
  case adrBankRead =>
    intro c k s h hlen hu8
    refine State.command_answersOK h ?_ ⟨rfl, rfl⟩
    simp [hlen, Nat.not_le.2 hu8, okWith]
  case adrReadMot =>
    intro c k s h hlen hu8
    refine State.command_answersOK h ?_ ⟨rfl, rfl⟩
    simp [hlen, Nat.not_le.2 hu8, okWith]

end Sys2Proof.Machine
end

section
/-!
PROOF. Chapter 11: the events of the load switches complete.
-/
namespace Sys2Proof.Machine

theorem State.pswDo_chan (s : State) {n : Nat} (h : n < 16) (g : State → State) : s.pswDo n g = (g s).pswShow n := if_pos h

theorem State.setSw_sw_same {s : State} {n : Nat} (h : n < s.psw.chs.length) (f : PswCh → PswCh) :
    (s.setSw n f).sw n = f (s.sw n) := updAt_getD_same h f {}

theorem State.setSw_sw_of {α : Type} (φ : PswCh → α) {f : PswCh → PswCh} (hf : ∀ c, φ (f c) = φ c) (s : State)
    (n i : Nat) : φ ((s.setSw n f).sw i) = φ (s.sw i) := updAt_getD_of φ hf _ _ _ _

theorem State.setSw_length (s : State) (n : Nat) (f : PswCh → PswCh) :
    (s.setSw n f).psw.chs.length = s.psw.chs.length := by simp [State.setSw, State.setPsw, updAt]

theorem State.pswShow_psw (s : State) (n : Nat) : (s.pswShow n).psw = s.psw := by
  unfold State.pswShow
  dsimp only
  split <;> rfl

theorem State.pswOff_psw (s : State) (n : Nat) : (s.pswOff n).psw.chs = updAt s.psw.chs n (fun c => { c with
    on := false, inr := false, perAt := none, onTime := 0, want := false, hold := none,
    pend := c.pend || c.hold == some true, olAt := none, gone := c.gone || c.on,
    lastOff := if c.on then some s.clk.tb else c.lastOff }) := by
  unfold State.pswOff
  dsimp only
  split <;> rfl

theorem State.pswOff_length (s : State) (n : Nat) : (s.pswOff n).psw.chs.length = s.psw.chs.length := by
  rw [State.pswOff_psw]; simp [updAt]

theorem State.pswOff_on {s : State} {n : Nat} (h : n < s.psw.chs.length) : ((s.pswOff n).sw n).on = false := by
  unfold State.sw
  rw [State.pswOff_psw, updAt_getD_same h]

section
variable {a : Nat} (hpsw : 0xE00A0000 ≤ a ∧ a < 0xE00B0000)
include hpsw

theorem State.dropSig_rd_psw (s : State) {i : Nat} (hi : i < 512) : (s.dropSig i).rd a = s.rd a :=
  State.dropSig_rd s i (by unfold R.FAB_SIG; omega) (by unfold R.FAB_SIG_VALID; omega)

/-- A switch that is shown changes its status and the words of latched and open switches. -/
theorem State.pswShow_rd (s : State) {n : Nat} (hn : n < 16) (hstatus : a ≠ R.PSW_CH_STATUS n) (hlatched : a ≠ R.PSW_LATCHED)
    (hopen : a ≠ R.PSW_OPEN) : (s.pswShow n).rd a = s.rd a := by
  unfold State.pswShow
  extract_lets c t u
  have ht : t.rd a = s.rd a := by
    simp only [t]
    split
    · exact State.dropSig_rd_psw hpsw s (by omega)
    · rfl
  clear_value t
  simp only [u, State.wb_rd, if_neg hopen, if_neg hlatched, State.wr_rd, if_neg hstatus, ht]

theorem State.pswOff_rd (s : State) {n : Nat} (hn : n < 16) : (s.pswOff n).rd a = s.rd a := by
  unfold State.pswOff
  dsimp only
  split
  · exact State.dropSig_rd_psw hpsw _ (by omega)
  · rfl

theorem State.pswShowAll_rd (s : State) (hstatus : ∀ n < 16, a ≠ R.PSW_CH_STATUS n) (hlatched : a ≠ R.PSW_LATCHED)
    (hopen : a ≠ R.PSW_OPEN) (hgroup : ∀ g < 4, a ≠ R.PSW_GRP_STATUS g) : s.pswShowAll.rd a = s.rd a := by
  have hchans (l : List Nat) (t : State) (hl : ∀ n ∈ l, n < 16) :
      (l.foldl (fun (s : State) n => s.pswShow n) t).rd a = t.rd a := by
    induction l generalizing t with
    | nil => rfl
    | cons n l ih =>
      rw [List.foldl_cons, ih _ (fun m hm => hl m (List.mem_cons_of_mem _ hm))]
      exact State.pswShow_rd hpsw t (hl n List.mem_cons_self) (hstatus n (hl n List.mem_cons_self)) hlatched hopen
  have hgrps (l : List Nat) (t : State) (hl : ∀ g ∈ l, g < 4) :
      (l.foldl (fun (s : State) g => s.grpShow g) t).rd a = t.rd a := by
    induction l generalizing t with
    | nil => rfl
    | cons g l ih =>
      rw [List.foldl_cons, ih _ (fun m hm => hl m (List.mem_cons_of_mem _ hm))]
      exact State.wr_rd_ne _ _ (hgroup g (hl g List.mem_cons_self))
  unfold State.pswShowAll
  rw [hgrps _ _ (fun g hg => List.mem_range.1 hg), hchans _ _ (fun n hn => List.mem_range.1 hn)]

end

/-- The search for a switch to shed answers one of the group's. -/
theorem State.pswPick_mem (s : State) (P : Nat → Prop) (l : List Nat) (acc : Option Nat) (hacc : ∀ n, acc = some n → P n)
    (hl : ∀ n ∈ l, P n) {n : Nat}
    (h : l.foldl (fun (a : Option Nat) n => if !(s.sw n).on then a else match a with
      | none => some n
      | some m => if s.fd (R.PSW_CH_CFG m) 29 28 ≤ s.fd (R.PSW_CH_CFG n) 29 28 then some n else some m) acc = some n) :
    P n := by
  induction l generalizing acc with
  | nil => exact hacc n h
  | cons m l ih =>
    refine ih _ (fun i hi => ?_) (fun i hi => hl i (List.mem_cons_of_mem _ hi)) h
    have hm := hl m List.mem_cons_self
    dsimp only at hi
    split at hi
    · exact hacc i hi
    · split at hi
      · exact Option.some.inj hi ▸ hm
      · split at hi
        · exact Option.some.inj hi ▸ hm
        · exact hacc i hi

/-- The search for a switch to shed finds one where a switch of the group is on. -/
theorem State.pswPick_isSome (s : State) (l : List Nat) (acc : Option Nat)
    (h : acc.isSome = true ∨ ∃ n ∈ l, (s.sw n).on = true) :
    (l.foldl (fun (a : Option Nat) n => if !(s.sw n).on then a else match a with
      | none => some n
      | some m => if s.fd (R.PSW_CH_CFG m) 29 28 ≤ s.fd (R.PSW_CH_CFG n) 29 28 then some n else some m) acc).isSome = true := by
  induction l generalizing acc with
  | nil => simpa using h
  | cons n l ih =>
    refine ih _ ?_
    by_cases hon : (s.sw n).on = true
    · left
      simp only [hon, Bool.not_true, Bool.false_eq_true, if_false]
      split
      · rfl
      · split <;> rfl
    · simp only [hon, Bool.not_false, if_true]
      rcases h with hacc | ⟨m, hm, hmon⟩
      · exact Or.inl hacc
      · rcases List.mem_cons.1 hm with rfl | hm
        · exact absurd hmon hon
        · exact Or.inr ⟨m, hm, hmon⟩

/-- The cause of a trip below its count. -/
theorem fld_trip (x : Nat) : fld (word (4 + 65536 * x)) 2 0 = 4 := by
  unfold fld word
  rw [BitVec.toNat_ofNat, Nat.shiftRight_zero]
  omega

/-- Settles O21: a switch's registers and state are read after the work that shows them, which leaves them alone. -/
theorem switchEventsComplete : Obligations.SwitchEventsComplete := by
  unfold Obligations.SwitchEventsComplete
  refine ⟨?pswPwmPeriod, ?pswOcTrip, ?pswInrushEnd, ?pswRetry, ?pswRcntReset, ?pswThermalTrip, ?pswUndervoltage,
    ?pswUvRestart, ?pswGroupOvervoltage, ?pswStaggerTurnOn, ?pswBudgetShed, ?pswOpenLoad, ?pswHoldoffEnd, ?pswLatchedWrite⟩
  case pswPwmPeriod =>
    intro n s hn hon hmode hcfg hper hoff hfree
    have hin : 0xE00A0000 ≤ R.PSW_CH_DUTY_EFF n ∧ R.PSW_CH_DUTY_EFF n < 0xE00B0000 := by unfold R.PSW_CH_DUTY_EFF; omega
    have hplain : bit (s.rd (R.PSW_CH_CFG n)) 4 = false := hcfg
    unfold State.fd at hoff hfree
    change ∃ t, execPswPwmPeriod n s = .next t ∧ _
    refine State.runIn_complete ?_
    rw [State.pswDo_chan _ hn, Foot.finish_rd_win Win.psw s _ (by decide) hin.1 hin.2,
      State.pswShow_rd hin _ hn (by unfold R.PSW_CH_DUTY_EFF R.PSW_CH_STATUS; omega)
        (by unfold R.PSW_CH_DUTY_EFF R.PSW_LATCHED; omega) (by unfold R.PSW_CH_DUTY_EFF R.PSW_OPEN; omega)]
    simp [hon, hmode, hplain, hper, Nat.not_lt.2 hoff, Nat.not_lt.2 hfree, State.setSw]
  case pswOcTrip =>
    intro ma s hma hsw hpswThreshold
    change execPswOcTrip ma s = _
    refine State.runIn_next ?_
    rw [State.pswDo_chan _ hma]
    simp [hsw, hpswThreshold]
  case pswInrushEnd =>
    intro n s hn hsw hsw' htbPast
    change execPswInrushEnd n s = _
    refine State.runIn_next ?_
    rw [State.pswDo_chan _ hn]
    simp [hsw, hsw', htbPast]
  case pswRetry =>
    intro n t0 s hn hsw ht0
    change execPswRetry n s = _
    refine State.runIn_next ?_
    rw [State.pswDo_chan _ hn]
    simp [hsw, Nat.not_lt.2 ht0]
  case pswRcntReset =>
    intro n s hn hsw hsw' htbPast
    change execPswRcntReset n s = _
    refine State.runIn_next ?_
    rw [State.pswDo_chan _ hn]
    simp [hsw, hsw', htbPast]
  case pswThermalTrip =>
    intro n tj s hn hlen htj hth
    have hin : 0xE00A0000 ≤ R.PSW_CH_TRIP n ∧ R.PSW_CH_TRIP n < 0xE00B0000 := by unfold R.PSW_CH_TRIP; omega
    have hout : Foot.shared.holds (R.PSW_CH_TRIP n) = false :=
      Foot.shared_not (by unfold R.PSW_CH_TRIP; omega) (by unfold R.PSW_CH_TRIP; omega)
    have hcold : ((s.begun.setSw n fun c => { c with tj := tj }).sw n).th = false :=
      (State.setSw_sw_of (fun c => c.th) (by intro c; rfl) s.begun n n).trans hth
    change ∃ t, execPswThermalTrip n tj s = .next t ∧ _
    refine State.runIn_complete ?_
    rw [State.pswDo_chan _ hn]
    extract_lets s1 s2 s3
    rw [if_neg (by rw [hcold]; simp; omega)]
    have hsw : (Foot.psw.finish s
        (State.pswShow ((((s3.inc R.PSW_THERM_TRIPS).post fPSW .pswLatch).pswFaultNote n 4 1)) n)).sw n = s2.sw n := by
      unfold State.sw State.pswFaultNote
      rw [Foot.finish_psw, if_pos (by decide), State.pswShow_psw, State.notify_psw, State.post_psw]
      rfl
    have h1 : n < (s1.pswOff n).psw.chs.length := by rw [State.pswOff_length, State.setSw_length]; exact hlen
    have h2 : s2.sw n = { (s1.pswOff n).sw n with th := true } := State.setSw_sw_same h1 _
    rw [hsw, h2, Foot.finish_fd_win Win.psw s _ (by decide) hin.1 hin.2]
    refine ⟨rfl, State.pswOff_on (by rw [State.setSw_length]; exact hlen), ?_⟩
    unfold State.fd State.pswFaultNote
    rw [State.pswShow_rd hin _ hn (by unfold R.PSW_CH_TRIP R.PSW_CH_STATUS; omega)
        (by unfold R.PSW_CH_TRIP R.PSW_LATCHED; omega) (by unfold R.PSW_CH_TRIP R.PSW_OPEN; omega),
      State.notify_rd _ _ _ _ hout, State.post_rd _ _ _ hout, State.inc_rd,
      if_neg (by unfold R.PSW_CH_TRIP R.PSW_THERM_TRIPS; omega), State.wr_rd, if_pos rfl, fld_trip]
  case pswUndervoltage =>
    intro g mv s hg hmv
    change execPswUndervoltage g mv s = _
    refine State.runIn_next ?_
    simp [hg, hmv]
  case pswUvRestart =>
    intro g mv s hg hgrp hgrpUvOnMv htbPast hshed hoverShed
    change execPswUvRestart g mv s = _
    refine State.runIn_next ?_
    simp [hg, hgrp, hgrpUvOnMv, htbPast, hshed, hoverShed]
  case pswGroupOvervoltage =>
    intro g mv s hmv hgroupOver
    change execPswGroupOvervoltage g mv s = _
    refine State.runIn_next ?_
    simp [hmv, hgroupOver, -List.getD_eq_getElem?_getD]
  case pswStaggerTurnOn =>
    intro g n r s hgrp hgrp'
    change execPswStaggerTurnOn g s = _
    refine State.runIn_next ?_
    simp [hgrp, Nat.not_lt.2 hgrp']
  case pswBudgetShed =>
    intro g s hg hlen hexcess hon
    have hin : 0xE00A0000 ≤ R.PSW_BUDGET_SHEDS ∧ R.PSW_BUDGET_SHEDS < 0xE00B0000 := by decide
    have hout : Foot.shared.holds R.PSW_BUDGET_SHEDS = false := by decide
    have hgo : ¬ (s.begun.grp g).excess < 10 := Nat.not_lt.2 hexcess
    have hfound := State.pswPick_isSome (s.begun.setGrp g fun x => { x with excess := 0 }) (grpChs g) none (Or.inr hon)
    change ∃ t, execPswBudgetShed g s = .next t ∧ _
    refine State.runIn_complete ?_
    rw [if_neg hgo]
    extract_lets s1 pick
    obtain ⟨n, hn⟩ := Option.isSome_iff_exists.1 hfound
    have hpick : pick = some n := hn
    clear_value pick
    subst hpick
    have hlow : n < 16 := State.pswPick_mem _ (· < 16) _ none (by simp) (by simp [grpChs]; omega) hn
    change (Foot.psw.finish s (State.pswShowAll (State.pswGroupNote _ g 4 1))).rd _ = _
    rw [Foot.finish_rd_win Win.psw s _ (by decide) hin.1 hin.2,
      State.pswShowAll_rd hin _ (fun i hi => by unfold R.PSW_BUDGET_SHEDS R.PSW_CH_STATUS; omega) (by decide) (by decide)
        (fun i hi => by unfold R.PSW_BUDGET_SHEDS R.PSW_GRP_STATUS; omega)]
    unfold State.pswGroupNote
    rw [State.notify_rd _ _ _ _ hout, State.post_rd _ _ _ hout, State.inc_rd, if_pos rfl, State.wfSet_rd,
      if_neg (by unfold R.PSW_BUDGET_SHEDS R.PSW_CH_TRIP; omega)]
    exact congrArg (· + 1#32) (State.pswOff_rd hin s1 hlow)
  case pswOpenLoad =>
    intro n ma s hn hn' hchDiag hsw hsw' hma hsw'' htbMs
    change execPswOpenLoad n ma s = _
    refine State.runIn_next ?_
    have hsame := State.setSw_sw_same (s := s.begun) hn'
    rw [State.pswDo_chan _ hn]
    have hdiag : bit (s.rd (R.PSW_CH_DIAG n)) 24 = true := hchDiag
    simp [hdiag, hsame]
    simp [hsw, hsw', hma, hsw'', htbMs]
  case pswHoldoffEnd =>
    intro n t0 r s hn hsw hsw' ht0
    change execPswHoldoffEnd n s = _
    refine State.runIn_next ?_
    rw [State.pswDo_chan _ hn]
    simp [hsw, hsw', Nat.not_lt.2 ht0]
  case pswLatchedWrite =>
    intro ini v s hdomainUp hini
    change execPswLatchedWrite ini v s = _
    exact State.runIn_next (State.owned_done (s := s.begun) _ hdomainUp hini)

end Sys2Proof.Machine
end

section
/-!
PROOF. Chapter 11: the load switches' mailbox commands complete.
-/
namespace Sys2Proof.Machine

/-- What PSW_CH_CLEAR does to one channel of its mask (R277). -/
def State.pswClear (s : State) (chans bits n : Nat) : State :=
  if !nbit chans n then s
  else
    let s := if nbit bits 0 then s.pswClearOcl n else s
    let s := if nbit bits 1 then s.pswClearTh n else s
    let s := if nbit bits 2 && (s.sw n).shed then
        (s.setSw n (fun c => { c with shed := false, want := true })).pswGroupNote (n / 4) 4 0
      else s
    s.pswShow n

theorem State.pswClear_ocl (s : State) (chans n : Nat) :
    s.pswClear chans 1 n = if nbit chans n then (s.pswClearOcl n).pswShow n else s := by
  unfold State.pswClear
  simp [show nbit 1 0 = true from rfl, show nbit 1 1 = false from rfl, show nbit 1 2 = false from rfl]
  cases nbit chans n <;> rfl

theorem State.pswClear_th (s : State) (chans n : Nat) :
    s.pswClear chans 2 n = if nbit chans n then (s.pswClearTh n).pswShow n else s := by
  unfold State.pswClear
  simp [show nbit 2 0 = false from rfl, show nbit 2 1 = true from rfl, show nbit 2 2 = false from rfl]
  cases nbit chans n <;> rfl

/-- Settles O22: each clause follows its command's body under its hypotheses. -/
theorem switchCommandsComplete : Obligations.SwitchCommandsComplete := by
  unfold Obligations.SwitchCommandsComplete
  refine ⟨?pswSwitch, ?pswChClear, ?pswReadCh, ?pswGroupSet⟩
  case pswSwitch =>
    intro c k s h hlen hchan hmode hduty hpwm hfree hcst hline
    have hbad : ¬ (u8 c.payload 1 = 2 && pswRefused (s.rd (R.PSW_CH_CFG (u8 c.payload 0)))) = true := by
      simpa using hpwm
    have hopen : ¬ (u8 c.payload 1 != 0 && !nbit s.saf.lines (12 + u8 c.payload 0 / 4)) = true := by
      simpa using hline
    refine State.command_answersOK h ?_ ⟨rfl, _, rfl, rfl⟩
    dsimp only
    rw [if_neg (by simp [hlen]), if_neg (by simp [hchan, hmode, hduty]), State.entered_rd, if_neg hbad, if_neg (by
      rw [State.entered_isRunning, show s.isRunning 8 = false from hcst]; simp [hfree]), State.entered_saf, if_neg hopen,
      State.entered_shadowRd]
  case pswChClear =>
    intro c k s h hlen hbits
    refine State.command_answersOK (u := (List.range 16).foldl (fun t n => t.pswClear (u16 c.payload 0) (u8 c.payload 2) n)
      (s.entered fPSW 0x11 k c)) h ?_ ⟨rfl, fun hocl => ?_, fun hth => ?_⟩
    · dsimp only
      rw [if_neg (by simp [hlen]), if_neg (Nat.not_lt.2 hbits)]
      rfl
    · rw [hocl]
      exact congrArg (fun g => List.foldl g _ _) (funext fun t => funext fun n => t.pswClear_ocl _ n)
    · rw [hth]
      exact congrArg (fun g => List.foldl g _ _) (funext fun t => funext fun n => t.pswClear_th _ n)
  case pswReadCh =>
    intro c k s h hlen hu8
    refine State.command_answersOK h ?_ ⟨rfl, rfl⟩
    simp [hlen, Nat.not_le.2 hu8, okWith]
  case pswGroupSet =>
    intro c k s h hlen hu8 hu8' hgrpUvOk hu8'' hline
    refine State.command_answersOK h ?_ ⟨rfl, rfl⟩
    simp [hlen, Nat.not_le.2 hu8, Nat.not_lt.2 hu8', hgrpUvOk, Nat.not_lt.2 hu8'']
    exact fun hset hopen => absurd (hline hset) (by simp [hopen])

end Sys2Proof.Machine
end

section
/-!
PROOF. Chapter 14: the camera pipeline's events, refuted for a state that no run reaches: the interrupt bit of a data ring beyond
the 128 of the mailbox lies in the word of an encoder's write pointer.
-/
namespace Sys2Proof.Machine

/-- What an outcome with a next state holds in a register. -/
def readAfter (o : Host.Outcome State Fault Refusal) (a : Nat) : Option Word :=
  match o with
  | .next t => some (t.rd a)
  | _ => none

/-- The number of a data ring whose word of interrupt bits would be `CAM_ENC_WR` of encoder 0. -/
def aliasedRing : Nat := 32 * ((R.CAM_ENC_WR 0 - R.MBX_IRQ_PEND 0) / 4)

/-- The data ring `n`, open for the access units of encoder 0. -/
def encoderRing (n : Nat) : DataRing :=
  { ring := n, fn := fCAM, kind := 2, param := 0, session := 0, log2 := 4, transfer := false, ended := false, waiting := [],
    sent := 0, skipped := 0, lost := 0 }

/-- A state with an encoder at work and one open data ring, of a number the mailbox does not have. -/
def aliasedState : State :=
  { State.reset with
    regs := [(R.MBX_Q_CFG aliasedRing, 0x8000#32)],
    mbx := { State.reset.mbx with rings := [encoderRing aliasedRing] },
    cam := { State.reset.cam with encs := [{ job := some { ctx := 0, num := 0, sof := 0, idr := false } }] } }

/-- The access unit of no bytes leaves the write pointer at 1: its announcement sets bit 0 as the ring's interrupt bit. -/
theorem aliasedState_wr : readAfter (exec (.camEncAuComplete 0 []) aliasedState) (R.CAM_ENC_WR 0) = some 1#32 := rfl

/-- Refutes O25: the clause of a completed access unit binds no ring, and a ring of number `aliasedRing` has its interrupt bit in
`CAM_ENC_WR`, which then holds 1 and not the length 0 of the unit. -/
theorem not_cameraEventsComplete : ¬ Obligations.CameraEventsComplete := by
  unfold Obligations.CameraEventsComplete
  rintro ⟨-, -, -, -, -, -, -, -, hunit, -⟩
  obtain ⟨t, hstep, -, hwr, -⟩ := hunit 0 { ctx := 0, num := 0, sof := 0, idr := false } [] aliasedState (by decide) rfl
    (by decide) (by decide) (by decide) (by decide)
  have hread := aliasedState_wr
  rw [hstep] at hread
  have hone : t.rd (R.CAM_ENC_WR 0) = 1#32 := Option.some.inj hread
  rw [hwr] at hone
  exact absurd hone (by decide)

end Sys2Proof.Machine
end

section
/-!
PROOF. Chapter 14: the camera pipeline's mailbox commands complete.
-/
namespace Sys2Proof.Machine

/-- The frame that CAM_M2M_SUBMIT makes of its payload and of the memory it names (R342). -/
def m2mFrame (p mem : List Byte) (s : State) : CamFrame :=
  { uid := s.cam.uid, stream := 6, ctx := some (u8 p 0), num := u32 p 16, sof := s.clk.tb, first := s.clk.tb, w := u16 p 4,
    h := u16 p 6, bayer := u8 p 1 / 2, closed := true,
    segs := (List.range (u16 p 6)).map (fun y => {
      line := y, first := 0,
      px := ((camUnpack (u8 p 1 % 2) (u16 p 4 * u16 p 6 / 2 + 1) mem).drop (y * u16 p 4)).take (u16 p 4) }) }

/-- Settles O26: each clause follows its command's body under its hypotheses. -/
theorem cameraCommandsComplete : Obligations.CameraCommandsComplete := by
  unfold Obligations.CameraCommandsComplete
  refine ⟨?camRingOpen, ?camEncOpen, ?camBuffers, ?camRelease, ?camRelease', ?camTableSet, ?camM2mSubmit, ?camEncIdr⟩
  case camRingOpen =>
    intro c k n s h hlen hudp hctx hmin hmax hring hfits
    obtain ⟨u, hu⟩ := State.openRing_ok (s := s.entered fCAM 0x10 k c) k fCAM 1 (u8 c.payload 0) false [] hmin hmax (by simpa)
      (by simpa)
    refine State.command_answersOK (u := u) h ?_ ⟨rfl, hu⟩
    simp [hlen, hudp, Nat.not_le.2 hctx, hu, ringReply]
  case camEncOpen =>
    intro c k n s h hlen hudp henc hmin hmax hring hfits
    obtain ⟨u, hu⟩ := State.openRing_ok (s := s.entered fCAM 0x11 k c) k fCAM 2 (u8 c.payload 0) false [] hmin hmax (by simpa)
      (by simpa)
    refine State.command_answersOK (u := u) h ?_ ⟨rfl, hu⟩
    simp [hlen, hudp, Nat.not_le.2 henc, hu]
  case camBuffers =>
    intro c k n s h hlen hu8 hu8' hn
    refine State.command_answersOK h ?_ ⟨rfl, rfl⟩
    simp [hlen, Nat.not_le.2 hu8, Nat.not_le.2 hu8', hn, okWith]
  case camRelease =>
    intro c k s h hlen hkind hctx
    have hnot : u8 c.payload 1 ≠ 3 := by omega
    refine State.command_answersOK h ?_ ⟨rfl, rfl⟩
    dsimp only
    rw [if_neg (by simp [hlen]), if_neg (by simp; omega), if_neg hnot]
    rfl
  case camRelease' =>
    intro c k s h hlen hu8 hu8' hu32
    refine State.command_answersOK h ?_ ⟨rfl, rfl⟩
    simp [hlen, hu8, Nat.not_le.2 hu8', Nat.not_le.2 hu32, okWith]
  case camTableSet =>
    intro c k s h hctx htab hlen hall
    refine State.command_answersOK h ?_ ⟨rfl, rfl⟩
    dsimp only
    rw [if_neg (by omega), if_neg (by simp; omega), if_neg (by simp [hlen]), if_neg (by simpa using hall)]
    rfl
  case camM2mSubmit =>
    intro c mem k s h hlen hctx hmode hen hkind hwmin hwmax hhmin hhmax hw4 hrun hroom
    refine State.command_answersOK (u := ((s.entered fCAM 0x15 k c).setCam (fun y => { y with
      uid := y.uid + 1, frames := y.frames ++ [m2mFrame c.payload mem s] })).camPick.camShow) h ?_
      ⟨rfl, m2mFrame c.payload mem s, rfl, rfl, rfl, rfl, rfl, rfl, rfl, rfl⟩
    dsimp only
    rw [if_neg (by simp [hlen]), if_neg (by simp [hctx, hmode, hen, hkind, hwmin, hwmax, hhmin, hhmax, hw4]),
      if_neg (by simp [hrun]), if_neg (by simpa using hroom)]
    unfold okWith m2mFrame
    rw [State.entered_cam, State.entered_clk]
  case camEncIdr =>
    intro c k s h hlen hu8
    refine State.command_answersOK h ?_ ⟨rfl, rfl⟩
    simp [hlen, Nat.not_le.2 hu8, okWith]

end Sys2Proof.Machine
end

section
/-!
PROOF. Chapters 16 and 17: the safety island's mailbox commands complete.
-/
namespace Sys2Proof.Machine

/-- Settles O29: each clause follows its command's body under its hypotheses. -/
theorem safetyCommandsComplete : Obligations.SafetyCommandsComplete := by
  unfold Obligations.SafetyCommandsComplete
  refine ⟨?safStopReq, ?safReadParams, ?safFaultLog, ?safParamWrite⟩
  case safStopReq =>
    intro c k s h hlen hsaf
    refine State.command_answersOK h ?_ ⟨rfl, rfl⟩
    simp [hlen, hsaf, okWith]
  case safReadParams =>
    intro c k s h hlen
    refine State.command_answersOK h ?_ ⟨rfl, rfl⟩
    simp [hlen, okWith]
  case safFaultLog =>
    intro c k s h hlen
    refine State.command_answersOK h ?_ ⟨rfl, rfl⟩
    simp [hlen, okWith]
  case safParamWrite =>
    intro c k s h hlen hdip hst hstill hset hother hok
    refine h.runsOn_classC (v := (s.entered fSAF 0x13 k c).setSaf (fun x =>
        if u8 c.payload 2 = 1 then { x with setB := c.payload, writing := some true }
        else { x with setA := c.payload, writing := some false })) ?_ (by simp) ⟨rfl, ?_⟩
    · simp [hlen, hdip, hst, hstill, Nat.not_lt.2 hset, hother, hok]
      rfl
    · by_cases hb : u8 c.payload 2 = 1 <;> simp [State.classC, hb]

end Sys2Proof.Machine
end

section
/-!
PROOF. Chapter 18: the mailbox commands of CAN and LIN complete.
-/
namespace Sys2Proof.Machine

/-- Settles O31: each clause follows its command's body under its hypotheses. -/
theorem canCommandsComplete : Obligations.CanCommandsComplete := by
  unfold Obligations.CanCommandsComplete
  refine ⟨?canSend, ?canRingOpen, ?canRecover, ?canSleep, ?canExportSet, ?linSleep⟩
  case canSend =>
    intro c k s u h hlength hlen hu8 hnbit hu8' hentered
    refine State.command_answersOK h ?_ ⟨rfl, rfl⟩
    simp [hlen, Nat.not_lt.2 (Nat.le_add_right 8 _), Nat.not_le.2 hu8, hnbit, Nat.not_lt.2 hu8', hentered, okWith]
  case canRingOpen =>
    intro c k n s h hlen hbus hmin hmax hring hfits
    obtain ⟨u, hu⟩ := State.openRing_ok (s := s.entered fCAN 0x11 k c) k fCAN 0 (u8 c.payload 0) false [] hmin hmax (by simpa)
      (by simpa)
    refine State.command_answersOK (u := u) h ?_ ⟨rfl, hu⟩
    simp [hlen, hbus, hu, ringReply]
  case canRecover =>
    intro c k s h hlen
    refine State.command_answersOK h ?_ ⟨rfl, rfl⟩
    simp [hlen, okWith]
  case canSleep =>
    intro c k s h hlen
    refine State.command_answersOK h ?_ ⟨rfl, rfl⟩
    simp [hlen, okWith]
  case canExportSet =>
    intro c k s h hlen he hfree
    have hslot : ((List.range 64).any fun m => s.bt (R.MER_CFG m) 0 && s.fd (R.MER_DEST m) 1 0 == 3 &&
        s.fd (R.MER_DEST m) 8 3 == u8 c.payload 0) = false := by
      rw [List.any_eq_not_all_not, hfree]; rfl
    refine State.command_answersOK h ?_ ⟨rfl, rfl⟩
    dsimp only
    rw [if_neg (by simp [hlen]), if_neg (by omega)]
    simp only [State.entered_bt, State.entered_fd]
    rw [hslot]
    rfl
  case linSleep =>
    intro c k s h hlen hbus
    refine State.command_answersOK (u := (State.setLin { s.entered fCAN 0x15 k c with
        out := (s.entered fCAN 0x15 k c).out ++ [OutMsg.bytes .lin (u8 c.payload 0) ([0x55#8, byte (linPid 0x3C)] ++
          (0#8 :: List.replicate 7 0xFF#8) ++ [linSum (linPid 0x3C) true (0#8 :: List.replicate 7 0xFF#8)])] }
      (u8 c.payload 0) (fun l => { l with on := false, entry := none, sleep := true })).wr
        (R.LIN_STATUS (u8 c.payload 0)) 2#32) h ?_ ⟨rfl, ?_, ?_⟩
    · dsimp only
      rw [if_neg (by simp [hlen]), if_neg (by omega)]
      rfl
    · rw [State.wr_rd, if_pos rfl]
    · exact List.append_ne_nil_of_right_ne_nil _ (List.cons_ne_nil _ _)

end Sys2Proof.Machine
end

section
/-!
PROOF. Chapter 19: the mailbox commands of the Ethernet switch and the serial ports complete.
-/
namespace Sys2Proof.Machine

/-- What ETH_SER_SEND does once its payload is taken (R434): the bytes go out, the port is busy until they are sent. -/
def State.serSent (s : State) (p : List Byte) : State :=
  let n := u8 p 0
  let w := s.rd (R.ETH_SER_CFG n)
  let due := s.clk.tb + (u16 p 2 * serBits w * 50000000 + fld w 24 1 - 1) / fld w 24 1
  let s := (s.setEth (fun e => { e with serDue := updAt e.serDue n (fun _ => some due) })).wb (R.ETH_SER_STATUS n) 0 true
  { s with out := s.out ++ [OutMsg.bytes .ser n (p.drop 4)] }

/-- Settles O33: each clause follows its command's body under its hypotheses. -/
theorem ethernetCommandsComplete : Obligations.EthernetCommandsComplete := by
  unfold Obligations.EthernetCommandsComplete
  refine ⟨?ethTimeGet, ?ethGclSet, ?ethTrimSet, ?ethSerOpen, ?ethSerSend⟩
  case ethTimeGet =>
    intro c k s h hlen
    refine State.command_answersOK h ?_ ⟨rfl, rfl⟩
    simp [hlen, okWith]
  case ethGclSet =>
    intro c k s h hlength hu8 hu8' hu8'' hu8''' hu32 hu32' hlen
    refine State.command_answersOK h ?_ ⟨rfl, rfl⟩
    simp [Nat.not_lt.2 hu8, Nat.not_lt.2 hu8', Nat.not_lt.2 hu8'', Nat.not_lt.2 hu8''', Nat.not_lt.2 hu32,
      Nat.not_lt.2 hu32', hlen, Nat.not_lt.2 (Nat.le_add_right 16 _), okWith]
  case ethTrimSet =>
    intro c k s h hlen htimeCfg
    refine State.command_answersOK h ?_ ⟨rfl, rfl⟩
    simp [hlen, htimeCfg, okWith]
  case ethSerOpen =>
    intro c k n s h hlen hport hmin hmax hring hfits
    obtain ⟨u, hu⟩ := State.openRing_ok (s := s.entered fETH 0x13 k c) k fETH 0 (u8 c.payload 0) false [] hmin hmax (by simpa)
      (by simpa)
    refine State.command_answersOK (u := u) h ?_ ⟨rfl, hu⟩
    simp [hlen, Nat.not_lt.2 hport, hu, ringReply]
  case ethSerSend =>
    intro c k s h hmin hport hlow hhigh hlen hrun hon hfree
    refine State.command_answersOK (u := (s.entered fETH 0x14 k c).serSent c.payload) h ?_
      ⟨rfl, rfl, State.wb_bt_same _ _ (by decide) _⟩
    dsimp only
    rw [if_neg (by omega), if_neg (by simp; omega), if_neg (by simp [hlen]), if_neg (by simp [hrun, hon]),
      if_neg (by simp [hfree])]
    rfl

end Sys2Proof.Machine
end

section
/-!
PROOF. Chapter 24: the commands of the firmware update complete.
-/
namespace Sys2Proof.Machine

@[simp] theorem State.entered_updFUPD (s : State) (b k : Nat) (c : Cmd) :
    (s.entered fUPD b k c).upd = { s.upd with lastCmd := s.clk.tb } := rfl

/-- Settles O39: each clause follows its command's body under its hypotheses. -/
theorem updateCommandsComplete : Obligations.UpdateCommandsComplete := by
  unfold Obligations.UpdateCommandsComplete
  refine ⟨?updBegin, ?updBlock, ?updEnd, ?updActivate, ?updAbort, ?updAbort', ?updKeyoffWaitExpiry⟩
  case updBegin =>
    intro c k s h hlen hpos hmax hsafe hsvn hdome
    refine State.command_answersOK h ?_ ⟨rfl, rfl⟩
    dsimp only
    rw [if_neg (by simp [hlen]), if_neg (by simp; omega), if_neg (by simp [hsafe]),
      if_neg (by rw [State.entered_prm]; omega), if_pos (by simpa [or_assoc] using hdome)]
    rfl
  case updBlock =>
    intro c k fails s h hlen howner hphase hsafe hnext hmin hmax hfour hfits hcrc hok
    refine h.runsOn_classC (v := (s.entered fUPD 0x11 k c).setUpd (fun u => { u with
      marker := true, begun := true, stored := some {
        data := (match s.upd.stored with
          | some x => if s.upd.next = 0 then [] else x.data
          | none => []) ++ c.payload.drop 12, key := u.key, sig := u.sig } })) ?_ (by simp) ⟨rfl, rfl, rfl⟩
    dsimp only
    rw [if_neg (by simp [hlen]), if_neg (by simp [howner]), if_neg (by simp [hphase]), if_neg (by simp [hsafe]),
      if_neg (by simp [hnext, Nat.not_lt.2 hmin, Nat.not_lt.2 hmax, Nat.not_lt.2 hfits, hfour]),
      if_neg (by simp [hcrc]), if_pos hok]
    rfl
  case updEnd =>
    intro c k x s h hlen hphase howner hnext hstored
    refine ⟨fun hok => ?_, fun hbad => ?_⟩
    · refine h.runsOn_classC (v := s.entered fUPD 0x12 k c) ?_ (by simp) rfl
      simp [hlen, hphase, howner, hnext, hstored, hok]
      rfl
    · refine ⟨((s.entered fUPD 0x12 k c).classC fUPD 0x1512 c (x.verify (Config.fffLevel) s.prm.store.svn) []).2, _,
        h.runIn_later ?_, List.mem_append_right _ (List.mem_singleton.2 rfl), rfl, rfl, rfl, rfl⟩
      simp [hlen, hphase, howner, hnext, hstored, hbad]
      rfl
  case updActivate =>
    intro c k s h hlen hphase
    refine State.command_answersOK (u := { (s.entered fUPD 0x13 k c).canStop with
      pwr := { s.pwr with resetDue := some (s.clk.now + fabMs 10) } }) h ?_ ⟨rfl, rfl⟩
    simp [hlen, hphase, okWith]
  case updAbort =>
    intro c k s h hlen hupd hupd' hupd'' hdome
    refine State.command_answersOK h ?_ ⟨rfl, rfl⟩
    have hkept : ((s.entered fUPD 0x14 k c).setUpd fun u => { u with phase := 0, owner := none }).dome = s.dome :=
      State.entered_dome ..
    simp [hkept, hlen, hupd, hupd', hupd'', hdome, okWith]
  case updAbort' =>
    intro c k s h hlen hupd hupd' hupd'' hdome
    refine State.command_answersOK h ?_ ⟨rfl, rfl⟩
    have hkept : ((s.entered fUPD 0x14 k c).setUpd fun u => { u with phase := 0, owner := none }).dome = s.dome :=
      State.entered_dome ..
    simp [hkept, hlen, hupd, hupd', hupd'', hdome, okWith]
  case updKeyoffWaitExpiry =>
    intro s hdome hkey hdue
    change ∃ t, execUpdKeyoffWaitExpiry s = .next t ∧ _
    refine State.runIn_complete ?_
    rw [if_pos (by simp [hdome, hkey, hdue]), Foot.finish_upd, if_pos (by decide)]
    rfl

end Sys2Proof.Machine
end

section
/-!
PROOF. Chapter 25: the parameter store's commands complete.
-/
namespace Sys2Proof.Machine

/-- Settles O38: each clause follows its command's body under its hypotheses. -/
theorem parameterCommandsComplete : Obligations.ParameterCommandsComplete := by
  unfold Obligations.ParameterCommandsComplete
  refine ⟨?prmCompactionDone, ?prmCalExport, ?prmCalWrite, ?prmSet, ?prmConfigExport, ?prmConfigImport⟩
  case prmCompactionDone =>
    intro t0 s hdue
    change ∃ t, execPrmCompactionDone s = .next t ∧ _
    refine State.runIn_complete ?_
    simp only [State.begun_prm, hdue]
    rw [Foot.finish_prm, if_pos (by decide), Foot.finish_rd_win Win.prm s _ (by decide) (by decide) (by decide),
      Foot.finish_rd_win Win.prm s _ (by decide) (by decide) (by decide)]
    unfold State.prmNote State.prmShow
    rw [State.notify_prm, State.notify_rd _ _ _ _ (by decide), State.notify_rd _ _ _ _ (by decide)]
    refine ⟨rfl, rfl, rfl, ?_, ?_⟩
    · simp only [State.wr_rd, State.inc_rd, if_neg (show R.PRM_GEN ≠ R.PRM_STATUS by decide),
        if_neg (show R.PRM_GEN ≠ R.PRM_COMPACTS by decide), if_true]
      rfl
    · simp only [State.wr_rd, State.inc_rd, if_neg (show R.PRM_COMPACTS ≠ R.PRM_STATUS by decide),
        if_neg (show R.PRM_COMPACTS ≠ R.PRM_GEN by decide), if_true]
      rfl
  case prmCalExport =>
    intro c k n s h hlen hmin hmax hring hfits
    obtain ⟨u, hu⟩ := State.openRing_ok (s := s.entered fPRM 0x10 k c) k fPRM 0 0 true (exportSlots [s.prm.cal])
      hmin hmax (by simpa) (by simpa)
    refine State.command_answersOK (u := u) h ?_ ⟨rfl, hu⟩
    simp [hlen, hu, ringReply]
  case prmCalWrite =>
    intro c k s h hlen hidle hdome hst hserial
    refine h.runsOn_classC (v := (s.entered fPRM 0x11 k c).setPrm (fun x => { x with cal := [], calBad := true })) ?_ (by simp)
      ⟨rfl, rfl, rfl⟩
    dsimp only
    rw [if_neg (by simp [hlen]), if_neg (by simp [hidle]), if_neg (by rcases hdome with h | h <;> simp [h]),
      if_neg (by simp [hst]), if_neg (by simp [hserial])]
    rfl
  case prmSet =>
    intro c k x s h hlen hprm hprm'
    refine State.command_answersOK h ?_ ⟨rfl, rfl⟩
    simp [hlen, hprm, hprm', okWith]
  case prmConfigExport =>
    intro c k n s h hlen hmin hmax hring hfits
    obtain ⟨u, hu⟩ := State.openRing_ok (s := s.entered fPRM 0x12 k c) k fPRM 1 0 true
      (exportSlots [s.prm.store.file (Config.fffLevel)])
      hmin hmax (by simpa) (by simpa)
    refine State.command_answersOK (u := u) h ?_ ⟨rfl, hu⟩
    simp [hlen, hu, ringReply]
  case prmConfigImport =>
    intro c k l s h hidle hdome hopen hlevel hok
    refine h.runsOn_classC (v := ((s.entered fPRM 0x13 k c).setPrm (fun x => { x with importing := true })).prmShow) ?_
      (by simp [State.prmShow]) ⟨rfl, rfl⟩
    have hall : l.find? (fun e => !(s.entered fPRM 0x13 k c).prmSectOk e) = none := by
      simpa using hok
    dsimp only
    rw [if_neg (by simp [hidle]), if_neg (by rcases hdome with h | h <;> simp [h]), hopen]
    simp only [hall]
    rw [if_neg (Nat.not_lt.2 hlevel)]
    rfl

end Sys2Proof.Machine
end

section
/-!
PROOF. Chapter 23: the status panel's events and mailbox commands complete.
-/
namespace Sys2Proof.Machine

theorem State.fetched_up {s : State} {d : Domain} (ini : Initiator) (v : Word) (g : State → State) (h : s.domainUp d = true) :
    s.fetched ini d v g = g (s.busData ini v) := by
  unfold State.fetched
  rw [h]
  rfl

/-- What the panel shows leaves its count of lines alone. -/
theorem State.pnlShow_lines (s : State) : s.pnlShow.rd R.PNL_LINES = s.rd R.PNL_LINES := by
  unfold State.pnlShow
  dsimp only
  rw [State.wfSet_rd, if_neg (by decide), State.wfSet_rd, if_neg (by decide)]

theorem State.pnlShow_pnl (s : State) : s.pnlShow.pnl = s.pnl := rfl

/-- The end of a run leaves the glass and the count of lines alone. -/
theorem State.pnlFinish_line (s : State) (r : PnlRun) :
    (s.pnlFinish r).pnl.glass = s.pnl.glass ∧ (s.pnlFinish r).rd R.PNL_LINES = s.rd R.PNL_LINES := by
  unfold State.pnlFinish
  extract_lets s1 s2 s3 s4
  have h2 : s2.pnl.glass = s.pnl.glass ∧ s2.rd R.PNL_LINES = s.rd R.PNL_LINES := by
    refine ⟨rfl, ?_⟩
    simp only [s2, State.wb_rd, State.wfSet_rd, if_neg (show R.PNL_LINES ≠ R.PNL_STATUS by decide)]
    rfl
  clear_value s2
  have h3 : s3.pnl.glass = s.pnl.glass ∧ s3.rd R.PNL_LINES = s.rd R.PNL_LINES := by
    by_cases hfull : r.full = true
    · simp only [s3, hfull, if_true, State.inc_rd, State.wb_rd, if_neg (show R.PNL_LINES ≠ R.PNL_STATUS by decide),
        if_neg (show R.PNL_LINES ≠ R.PNL_FULLS by decide)]
      exact h2
    · simp only [s3, if_neg hfull]
      exact h2
  clear_value s3
  have h4 : s4.pnl.glass = s.pnl.glass ∧ s4.rd R.PNL_LINES = s.rd R.PNL_LINES := by
    simp only [s4]
    rw [State.notify_pnl, State.notify_rd _ _ _ _ (by decide), State.pnlShow_lines, State.inc_rd, if_neg (by decide)]
    exact h3
  clear_value s4
  exact h4

theorem State.pnlLoop_clk (s : State) (r : Nat) : (s.pnlLoop r).2.clk = s.clk := by
  unfold State.pnlLoop
  dsimp only
  split
  · rfl
  · rw [State.notify_clk]
    have hshow (t : State) : t.pnlShow.clk = t.clk := rfl
    rw [hshow, State.post_clk]
    split <;> rfl

theorem State.pnlBegin_clk (s : State) (full : Bool) (loop : Nat) : (s.pnlBegin full loop).2.2.clk = s.clk := by
  have hloop := s.pnlLoop_clk loop
  unfold State.pnlBegin
  split
  next u hu => rw [hu] at hloop; exact hloop
  next u hu =>
    rw [hu] at hloop
    extract_lets full' u' blk lines
    split
    · exact hloop
    · exact hloop

/-- Settles O37: each clause follows its command's body; a line done reaches the glass, and what ends or continues the
run leaves it there. -/
theorem panelComplete : Obligations.PanelComplete := by
  unfold Obligations.PanelComplete
  refine ⟨?pnlCmdUpdate, ?pnlAutoUpdate, ?pnlLineDone, ?pnlCrackCheck, ?pnlBlinkToggle, ?pnlFbDataAccess, ?pnlFbDataAccess',
    ?pnlText, ?pnlBitmap, ?pnlBlink, ?pnlUpdate, ?pnlUpdate', ?pnlUpdate''⟩
  case pnlCmdUpdate =>
    intro ini v loop s hdomainUp hini
    change execPnlCmdUpdate ini v loop s = _
    exact State.runIn_next (State.owned_done (s := s.begun) _ hdomainUp hini)
  case pnlAutoUpdate =>
    intro loop s hpnl hpnl' hexpert hpnlMay
    change execPnlAutoUpdate loop s = _
    refine State.runIn_next ?_
    simp [hpnl, hpnl', hexpert, hpnlMay]
  case pnlLineDone =>
    intro r l rest s hrun hlines hblack
    change ∃ t, execPnlLineDone s = .next t ∧ _
    refine State.runIn_complete ?_
    simp only [State.begun_pnl, hrun, hlines, hblack]
    rw [Foot.finish_pnl, if_pos (by decide), Foot.finish_rd_win Win.pnl s _ (by decide) (by decide) (by decide)]
    generalize hu : ((s.begun.inc R.PNL_LINES).setPnl fun p => { p with
      glass := p.glass.put l (if false = true then List.replicate 50 0#8 else s.pnl.work.line l) }) = u
    have hline : u.pnl.glass = s.pnl.glass.put l (s.pnl.work.line l) ∧ u.rd R.PNL_LINES = s.rd R.PNL_LINES + 1#32 := by
      rw [← hu]
      exact ⟨rfl, (State.inc_rd _ _ _).trans (if_pos rfl)⟩
    have hresult (t : State) (st : Nat) (p : List Byte) : (t.pnlResult st p).pnl = t.pnl ∧
        (t.pnlResult st p).rd R.PNL_LINES = t.rd R.PNL_LINES := ⟨rfl, rfl⟩
    clear hu
    split
    · rw [(u.pnlFinish_line r).1, (u.pnlFinish_line r).2]
      exact hline
    · split
      · rw [(hresult _ _ _).1, (hresult _ _ _).2, State.pnlShow_lines, State.pnlShow_pnl]
        exact hline
      · rw [State.pnlShow_lines, State.pnlShow_pnl]
        exact hline
  case pnlCrackCheck =>
    intro loop s hpnl hany hctrl hpnlState htbPast
    change execPnlCrackCheck loop s = _
    refine State.runIn_next ?_
    simp [hpnl, hany, hctrl, hpnlState, htbPast]
  case pnlBlinkToggle =>
    intro q s hblink hrect hgo hst hrun hwait htogs hq hdue
    change ∃ t, execPnlBlinkToggle q s = .next t ∧ _
    refine State.runIn_complete ?_
    dsimp only
    rw [if_pos (by simp [hblink, hrect, hgo, hst, hrun, hwait, htogs, hdue, -List.getD_eq_getElem?_getD]), Foot.finish_pnl,
      if_pos (by decide), State.pnlShow_pnl, apply_ite State.pnl, State.begun_pnl, htogs]
    split <;> (change (match s.pnl.togs with | [] => _ | h :: r => _) = _; rw [htogs]; rfl)
  case pnlFbDataAccess =>
    intro ini v s hdomainUp hini
    change execPnlFbDataAccess ini (some v) s = _
    exact State.runIn_next (State.owned_done (s := s.begun) _ hdomainUp hini)
  case pnlFbDataAccess' =>
    intro ini s hup
    change execPnlFbDataAccess ini none s = _
    exact State.runIn_next (State.fetched_up (s := s.begun) ini _ _ hup)
  case pnlText =>
    intro c k s h hmin hmax hrow hrow' hn hn' hx
    refine State.command_answersOK h ?_ ⟨rfl, rfl⟩
    dsimp only
    rw [if_neg (by simp; omega), if_neg (by simp; omega), if_neg (by omega)]
    rfl
  case pnlBitmap =>
    intro c k s h hu16 hu16' hlen
    refine State.command_answersOK h ?_ ⟨rfl, rfl⟩
    simp [Nat.not_lt.2 hu16, Nat.not_lt.2 hu16', hlen, Nat.not_lt.2 (Nat.le_add_right 8 _), okWith]
  case pnlBlink =>
    intro c k t s h hlen hu8 hu8' hu8'' hu8''' hu16 hu16' hu8'''' hentered
    refine State.command_answersOK h ?_ ⟨rfl, rfl⟩
    simp [hlen, Nat.not_lt.2 hu8, Nat.not_lt.2 hu8', Nat.not_lt.2 hu8'', Nat.not_lt.2 hu8''',
      Nat.not_lt.2 hu16, Nat.not_lt.2 hu16', Nat.not_lt.2 hu8'''', hentered, okWith]
  case pnlUpdate =>
    intro c k loop s h hlen hst hon hmay hwaits
    have hwait : (s.entered fPNL 0x13 k c).pnlRequest (nbit (u8 c.payload 0) 0) loop = (decide (loop ≤ 2000), 0,
        (s.entered fPNL 0x13 k c).setPnl (fun p => { p with wait := some (nbit (u8 c.payload 0) 0, loop) })) :=
      if_neg (by simpa using hwaits)
    refine h.runsOn_classC (p := leBytes 2 0 ++ [byte (b2n ((0 : Nat) == 600))])
      (v := (s.entered fPNL 0x13 k c).setPnl (fun p => { p with
      wait := some (nbit (u8 c.payload 0) 0, loop) })) ?_ (by simp) ?_
    · dsimp only
      rw [hwait, if_neg (by simp [hlen]), if_neg (by simp [hst, hon]), if_neg (by simp [hmay]), if_neg (by simp [hwaits]),
        if_neg (by simp [hwaits])]
      rfl
    · rw [hwait]
  case pnlUpdate' =>
    intro c k loop n s t h hlen hst hon hmay hfree hn hbegin
    have hreq : (s.entered fPNL 0x13 k c).pnlRequest (nbit (u8 c.payload 0) 0) loop = (true, n, t) := by
      unfold State.pnlRequest
      rw [State.entered_pnl, hfree, ← hbegin]
      rfl
    refine h.runsOn_classC (v := t) ?_ ?_ ⟨rfl, rfl⟩
    · dsimp only
      rw [hreq, if_neg (by simp [hlen]), if_neg (by simp [hst, hon]), if_neg (by simp [hmay]), if_neg (by simp),
        if_neg (by simp [hn])]
      rfl
    · have hclk := State.pnlBegin_clk (s.entered fPNL 0x13 k c) (nbit (u8 c.payload 0) 0) loop
      rw [hbegin, State.entered_clk] at hclk
      exact congrArg Clk.tb hclk
  case pnlUpdate'' =>
    intro c k loop s t h hlen hst hon hmay hfree hbegin
    have hreq : (s.entered fPNL 0x13 k c).pnlRequest (nbit (u8 c.payload 0) 0) loop = (true, 0, t) := by
      unfold State.pnlRequest
      rw [State.entered_pnl, hfree, ← hbegin]
      rfl
    refine State.command_answersOK h ?_ ⟨rfl, rfl⟩
    dsimp only
    rw [hreq, if_neg (by simp [hlen]), if_neg (by simp [hst, hon]), if_neg (by simp [hmay]), if_neg (by simp),
      if_pos (by simp [hfree])]

end Sys2Proof.Machine
end

section
/-!
PROOF. Chapter 22: Almanac's events and mailbox commands complete.
-/
namespace Sys2Proof.Machine

/-! ## What a snapshot's reads leave of the recorder -/

theorem State.pnlFbNext_almanac (s : State) : s.pnlFbNext.almanac = s.almanac := by
  unfold State.pnlFbNext
  dsimp only
  split <;> rfl

theorem State.readEffect_almanac (s : State) (ini : Initiator) (a : Nat) : (s.readEffect ini a).almanac = s.almanac := by
  unfold State.readEffect
  split
  · cases ini <;> rfl
  · split
    · cases ini <;> rfl
    · split
      · rfl
      · split
        · rfl
        · split
          · rfl
          · split
            · exact State.pnlFbNext_almanac s
            · rfl

theorem State.domeRead_almanac (s : State) (a : Nat) : (s.domeRead a).2.almanac = s.almanac := by
  unfold State.domeRead
  split
  · rfl
  · split
    · exact State.readEffect_almanac ..
    · rfl

theorem State.recReads_almanac (l : List Word) (s : State) : (s.recReads l).2.2.almanac = s.almanac := by
  induction l generalizing s with
  | nil => rfl
  | cons a l ih =>
    unfold State.recReads
    dsimp only
    split <;> exact (ih _).trans (State.domeRead_almanac ..)

/-! ## Recording is frozen by a session that was there before the command -/

theorem updAt_any {α : Type} (p : α → Bool) {g : α → α} (hg : ∀ x, p (g x) = p x) (l : List α) (i : Nat) :
    (updAt l i g).any p = l.any p := by
  unfold updAt
  induction l generalizing i with
  | nil => simp
  | cons x l ih =>
    cases i with
    | zero => simp [hg]
    | succ i => simp [ih]

theorem State.entered_recFrozen (s : State) (k : Nat) (b : Nat) (c : Cmd) : (s.entered fREC b k c).recFrozen = s.recFrozen :=
  updAt_any (fun x : Session => x.freezeAt.isSome) (by intro x; rfl) s.mbx.sessions k

/-- A command whose body answers OK at once, read from the reply alone. -/
theorem State.command_answersOK_fst {F : Foot} {f b role : Nat} {c : Cmd} {k : Nat} {s : State}
    {body : Nat → State → Reply × State} {P : State → List Byte → Prop} {p : List Byte} (h : Accepted f b role c k s)
    (hb : (body k (s.entered f b k c)).1 = .now stOK p) (hP : P (body k (s.entered f b k c)).2 p) :
    AnswersOK F (256 * f + b) k c s (s.runIn F (fun s => s.command f b role c body)) P :=
  State.command_answersOK h (Prod.ext hb rfl) hP

/-- Settles O36: each clause follows its command's body; the registers a snapshot reads leave the staged events alone. -/
theorem recorderComplete : Obligations.RecorderComplete := by
  unfold Obligations.RecorderComplete
  refine ⟨?recAlarmToken, ?recAlarmToken', ?recAlarmSummary, ?recEventPost, ?recSnapshotRead, ?recOpenTimeout, ?recCommit,
    ?recEraseDone, ?recFreezeTimeout, ?recRead, ?recFreeze, ?recFlush, ?recPost, ?recClassSet, ?recClassGet, ?recCatalogue⟩
  case recAlarmToken =>
    intro s hdue hnone
    have hskip : (if s.pairHeld then none else s.almanac.alarms[alarmFirst s.almanac.alarms]?) = none := by
      rcases hnone with hempty | hheld
      · simp [hempty]
      · simp [hheld]
    change ∃ t, execRecAlarmToken s = .next t ∧ _
    refine State.runIn_complete ?_
    rw [if_neg (by simp [hdue])]
    change ((Foot.shared.finish s (match (if s.pairHeld then none else s.almanac.alarms[alarmFirst s.almanac.alarms]?) with
      | some e => _
      | none => _)).almanac.tokenAt = _ ∧ (Foot.shared.finish s (match (if s.pairHeld then none
        else s.almanac.alarms[alarmFirst s.almanac.alarms]?) with
      | some e => _
      | none => _)).almanac.tokens = _)
    rw [hskip]
    exact ⟨rfl, rfl⟩
  case recAlarmToken' =>
    intro e s hdue hfree halarm
    have htake : (if s.pairHeld then none else s.almanac.alarms[alarmFirst s.almanac.alarms]?) = some e := by
      rw [hfree, ← halarm]; rfl
    change execRecAlarmToken s = _
    refine State.runIn_next ?_
    rw [if_neg (by simp [hdue])]
    change (match (if s.pairHeld then none else s.almanac.alarms[alarmFirst s.almanac.alarms]?) with
      | some e => _
      | none => _) = _
    rw [htake]
    rfl
  case recAlarmSummary =>
    intro s hdue
    change ∃ t, execRecAlarmSummary s = .next t ∧ _
    refine State.runIn_complete ?_
    rw [if_neg (by simp [hdue]), Foot.finish_almanac]
    dsimp only
    split <;> exact ⟨rfl, rfl, rfl⟩
  case recEventPost =>
    intro s
    change execRecEventPost s = _
    refine State.runIn_next ?_
    simp
  case recSnapshotRead =>
    intro i r s hfind hr
    have hlen : i < s.almanac.staging.length := (List.getElem?_eq_some_iff.1 hr).1
    have hget : s.almanac.staging.getD i default = r := by rw [List.getD_eq_getElem?_getD, hr]; rfl
    change ∃ t, execRecSnapshotRead s = .next t ∧ _
    refine State.runIn_complete ?_
    simp -zeta only [State.begun_almanac, hfind]
    rw [Foot.finish_almanac]
    extract_lets r' x f u v
    have hclass : x = s.begun.recReads (s.recClass (r.code / 256)) := by
      simp only [x, r', hget]
      rfl
    have hstaged : u.almanac.staging = updAt s.almanac.staging i (fun h => { h with
        words := x.1, nwords := x.1.length, snapTodo := false, flags := f }) := by
      change updAt x.2.2.almanac.staging i _ = _
      rw [hclass, State.recReads_almanac]
      rfl
    have hshow : v.recShow.almanac.staging = u.almanac.staging := by
      change v.almanac.staging = _
      simp only [v]
      split <;> rfl
    rw [hshow, hstaged, updAt_getD_same hlen, ← hclass]
    exact ⟨rfl, rfl⟩
  case recOpenTimeout =>
    intro s halmanac htbPast
    change execRecOpenTimeout s = _
    refine State.runIn_next ?_
    simp [halmanac, htbPast]
  case recCommit =>
    intro ok s halmanac hrecReady
    change execRecCommit ok s = _
    refine State.runIn_next ?_
    simp [halmanac, hrecReady]
  case recEraseDone =>
    intro s hholdup
    change execRecEraseDone s = _
    refine State.runIn_next ?_
    simp [hholdup]
  case recFreezeTimeout =>
    intro k t0 s hses htbPast
    change execRecFreezeTimeout k s = _
    refine State.runIn_next ?_
    simp [hses, htbPast]
  case recRead =>
    intro c k n s h hlen hmin hmax hring hfits
    obtain ⟨u, hu⟩ := State.openRing_ok (s := s.entered fREC 0x10 k c) k fREC 0 0 true [] hmin hmax (by simpa) (by simpa)
    refine State.command_answersOK_fst h ?_ rfl
    dsimp only
    rw [if_neg (by simp [hlen]), hu]
  case recFreeze =>
    intro c k s h hlen hu8
    refine State.command_answersOK h ?_ ⟨rfl, rfl⟩
    simp [hlen, Nat.not_lt.2 hu8, okWith]
  case recFlush =>
    intro c k s h hlen hfree
    refine h.runsOn_classC (v := ((s.entered fREC 0x12 k c).setRec (fun r => { r with
      isOpen := false, flush := some (r.staging.map (fun x => x.seq), 0) })).recShow) ?_ (by simp [State.recShow])
      ⟨rfl, rfl, rfl⟩
    have hfree' : (s.entered fREC 0x12 k c).recFrozen = false := (State.entered_recFrozen ..).trans hfree
    dsimp only
    rw [if_neg (by simp [hlen]), if_neg (by simp [hfree'])]
    rfl
  case recPost =>
    intro c k s h hmin hmax hcode hsev hwords hroom
    change ∃ t, execRecPost c s = .next t ∧ _
    refine ⟨_, h.runIn_later (u := (s.entered fREC 0x13 k c).setRec (fun r => { r with fifo := r.fifo ++ [{
      code := u16 c.payload 0, src := 128 + k, sev := u8 c.payload 2,
      words := (List.range (u8 c.payload 3)).map (fun i => w32 c.payload (4 + 4 * i)), tb := s.evTime,
      op := (s.rd R.SYS_OP_SECONDS).toNat, cyc := (s.rd R.SYS_PWR_CYCLES).toNat, reply := some (k, c) }] })) ?_, ?_⟩
    · dsimp only
      rw [if_neg (by simp; omega), if_neg (by simp [hcode]; omega), if_neg (by omega), if_neg (by simpa using hroom)]
      simp only [State.entered_evTime, State.entered_rd]
    · rw [Foot.finish_almanac]
      change (s.entered fREC 0x13 k c).almanac.fifo ++ _ = _
      rw [State.entered_almanac]
  case recClassSet =>
    intro c k s h hmin hmax hwords hok
    refine State.command_answersOK h ?_ ⟨rfl, rfl⟩
    dsimp only
    rw [if_neg (by simp; omega), if_neg (by omega), if_neg (by omega), if_neg (by simp [hok])]
    rfl
  case recClassGet =>
    intro c k s h hlen
    refine State.command_answersOK h ?_ ⟨rfl, rfl⟩
    simp [hlen, okWith]
  case recCatalogue =>
    intro c k s h hlen hu8
    refine State.command_answersOK h ?_ ⟨rfl, rfl⟩
    simp [hlen, Nat.not_le.2 hu8, okWith]

end Sys2Proof.Machine
end

section
/-!
PROOF. Chapter 15: Astrolabe's events, refuted at the start of fusion: `astBegin` sets `lastT` to the time of the start, which the
clause of the fusion cycle takes for the boundary of the cycle.
-/
namespace Sys2Proof.Machine

/-- The time of the last fusion cycle that an outcome with a next state holds. -/
def lastCycleAfter (o : Host.Outcome State Fault Refusal) : Option Nat :=
  match o with
  | .next t => some t.ast.lastT
  | _ => none

/-- A state with fusion started by `AST_CTRL` and not yet running, one count of the timebase after a boundary of 50000 counts. -/
def fusionStartState : State :=
  { State.reset with
    regs := [(R.AST_CTRL, 1#32), (R.AST_CYC_CFG, 1#32)], clk := { State.reset.clk with tb := 50001 } }

/-- The cycle in which fusion starts leaves the time of the start, not the boundary 50000. -/
theorem fusionStartState_lastCycle : lastCycleAfter (exec (.astFusionCycle 0) fusionStartState) = some 50001 := by
  decide +kernel

/-- Refutes O27: the fusion cycle that finds fusion started and not yet running leaves `lastT` at the timebase, here 50001, which
is no boundary of the cycle. -/
theorem not_fusionComplete : ¬ Obligations.FusionComplete := by
  unfold Obligations.FusionComplete
  rintro ⟨-, -, -, -, -, hcycle, -⟩
  obtain ⟨t, hstep, hlast, -, -⟩ := hcycle 0 fusionStartState (by decide) rfl (by decide)
  have hread := fusionStartState_lastCycle
  rw [hstep] at hread
  have hstart : t.ast.lastT = 50001 := Option.some.inj hread
  rw [hlast] at hstart
  exact absurd hstart (by decide)

end Sys2Proof.Machine
end

section
/-!
SUPPORT. The operations of the actuator drive and the load switches leave the other parts of the module alone: the island, the pair,
the update, the parameters, the cameras, the panel and the inputs.
-/
namespace Sys2Proof.Machine

/-- Parts that neither the actuator drive nor the load switches write, as one value: an operation that leaves all alone has one
equation. -/
def State.besideDrive (s : State) : Saf × Pair × Upd × Prm × Cam × Pnl × Inputs :=
  (s.saf, s.pair, s.upd, s.prm, s.cam, s.pnl, s.inp)

theorem State.saf_of_besideDrive {s t : State} (h : t.besideDrive = s.besideDrive) : t.saf = s.saf := congrArg (·.1) h

theorem State.pair_of_besideDrive {s t : State} (h : t.besideDrive = s.besideDrive) : t.pair = s.pair := congrArg (·.2.1) h

@[simp] theorem State.ite_besideDrive (c : Prop) [Decidable c] (s t : State) :
    (if c then s else t).besideDrive = if c then s.besideDrive else t.besideDrive := apply_ite ..

/-- A loop each of whose steps keeps the parts beside the drive keeps them. -/
theorem State.foldl_besideDrive {α : Type} {g : State → α → State} (hg : ∀ s x, (g s x).besideDrive = s.besideDrive)
    (l : List α) (s : State) : (l.foldl g s).besideDrive = s.besideDrive := foldl_keeps State.besideDrive hg l s

/-! ### Registers, signals, parts, notifications, events -/

@[simp] theorem State.wr_besideDrive (s : State) (a : Nat) (v : Word) : (s.wr a v).besideDrive = s.besideDrive := rfl
@[simp] theorem State.wb_besideDrive (s : State) (a b : Nat) (v : Bool) : (s.wb a b v).besideDrive = s.besideDrive := rfl
@[simp] theorem State.wfSet_besideDrive (s : State) (a hi lo v : Nat) : (s.wf_ a hi lo v).besideDrive = s.besideDrive := rfl
@[simp] theorem State.addCnt_besideDrive (s : State) (a n : Nat) : (s.addCnt a n).besideDrive = s.besideDrive := rfl
@[simp] theorem State.inc_besideDrive (s : State) (a : Nat) : (s.inc a).besideDrive = s.besideDrive := rfl
@[simp] theorem State.setSig_besideDrive (s : State) (n : Nat) (v : Word) : (s.setSig n v).besideDrive = s.besideDrive := rfl
@[simp] theorem State.dropSig_besideDrive (s : State) (n : Nat) : (s.dropSig n).besideDrive = s.besideDrive := rfl
@[simp] theorem State.setAdr_besideDrive (s : State) (f : Adr → Adr) : (s.setAdr f).besideDrive = s.besideDrive := rfl
@[simp] theorem State.setCh_besideDrive (s : State) (n : Nat) (f : AdrCh → AdrCh) : (s.setCh n f).besideDrive = s.besideDrive := rfl
@[simp] theorem State.setRun_besideDrive (s : State) (n : Nat) (f : AdrRun → AdrRun) : (s.setRun n f).besideDrive = s.besideDrive := rfl
@[simp] theorem State.setBank_besideDrive (s : State) (k : Nat) (f : AdrBank → AdrBank) :
    (s.setBank k f).besideDrive = s.besideDrive := rfl
@[simp] theorem State.setPsw_besideDrive (s : State) (f : Psw → Psw) : (s.setPsw f).besideDrive = s.besideDrive := rfl
@[simp] theorem State.setSw_besideDrive (s : State) (n : Nat) (f : PswCh → PswCh) : (s.setSw n f).besideDrive = s.besideDrive := rfl
@[simp] theorem State.setGrp_besideDrive (s : State) (g : Nat) (f : PswGrp → PswGrp) : (s.setGrp g f).besideDrive = s.besideDrive := rfl

@[simp] theorem State.notify_besideDrive (s : State) (f code : Nat) (p : List Byte) :
    (s.notify f code p).besideDrive = s.besideDrive := by simp [State.besideDrive]

@[simp] theorem State.post_besideDrive (s : State) (f : Nat) (e : Ev) : (s.post f e).besideDrive = s.besideDrive := by
  simp [State.besideDrive]

/-! ### The actuator drive -/

@[simp] theorem State.adrDropNote_besideDrive (s : State) (n cause req : Nat) :
    (s.adrDropNote n cause req).besideDrive = s.besideDrive := by
  simp [State.adrDropNote]

@[simp] theorem State.adrMotion_besideDrive (s : State) (n : Nat) (ran : Bool) (r : AdrRun) :
    (s.adrMotion n ran r).besideDrive = s.besideDrive := by
  unfold State.adrMotion
  dsimp only
  repeat' split
  all_goals simp

@[simp] theorem State.adrDrop_besideDrive (s : State) (n req cause : Nat) : (s.adrDrop n req cause).besideDrive = s.besideDrive := by
  simp [State.adrDrop]

@[simp] theorem State.bankNext_besideDrive (s : State) (k : Nat) : (s.bankNext k).besideDrive = s.besideDrive := by
  unfold State.bankNext
  split
  · rfl
  · simp

@[simp] theorem State.bankRelease_besideDrive (s : State) (k : Nat) : (s.bankRelease k).besideDrive = s.besideDrive :=
  State.foldl_besideDrive (fun s _ => by simp) _ _

@[simp] theorem State.adrUnwait_besideDrive (s : State) (n cause : Nat) : (s.adrUnwait n cause).besideDrive = s.besideDrive := by
  unfold State.adrUnwait
  split
  · rfl
  · simp

@[simp] theorem State.adrWinEnd_besideDrive (s : State) (n : Nat) : (s.adrWinEnd n).besideDrive = s.besideDrive := rfl
@[simp] theorem State.adrRecov_besideDrive (s : State) (n : Nat) : (s.adrRecov n).besideDrive = s.besideDrive := rfl
@[simp] theorem State.adrBand_besideDrive (s : State) (n t : Nat) : (s.adrBand n t).besideDrive = s.besideDrive := rfl

@[simp] theorem State.adrSetOpen_besideDrive (s : State) (n : Nat) (v : Bool) : (s.adrSetOpen n v).besideDrive = s.besideDrive := by
  simp [State.adrSetOpen, State.adrFaultNote]

@[simp] theorem State.adrRecord_besideDrive (s : State) (n : Nat) : (s.adrRecord n).besideDrive = s.besideDrive := by
  simp [State.adrRecord]

@[simp] theorem State.adrClose_besideDrive (s : State) (n : Nat) : (s.adrClose n).besideDrive = s.besideDrive := by
  simp [State.adrClose]

@[simp] theorem State.adrMeasure_besideDrive (s : State) (n : Nat) : (s.adrMeasure n).besideDrive = s.besideDrive := by
  simp [State.adrMeasure]

@[simp] theorem State.adrLeave_besideDrive (s : State) (n : Nat) : (s.adrLeave n).besideDrive = s.besideDrive := by
  simp [State.adrLeave]

@[simp] theorem State.adrToDecay_besideDrive (s : State) (n cause : Nat) (fast : Bool) :
    (s.adrToDecay n cause fast).besideDrive = s.besideDrive := by
  unfold State.adrToDecay
  dsimp only
  split <;> simp

@[simp] theorem State.adrFlush_besideDrive (s : State) (n cause : Nat) : (s.adrFlush n cause).besideDrive = s.besideDrive :=
  State.foldl_besideDrive (fun _ _ => State.adrDrop_besideDrive ..) _ _

@[simp] theorem State.bankOff_besideDrive (s : State) (k : Nat) : (s.bankOff k).besideDrive = s.besideDrive := by
  unfold State.bankOff
  refine (State.foldl_besideDrive (fun s i => ?_) _ _).trans (State.foldl_besideDrive (fun s i => ?_) _ _)
  · simp
  · simp

@[simp] theorem State.bstShow_besideDrive (s : State) : s.bstShow.besideDrive = s.besideDrive := rfl

@[simp] theorem State.bstNotify_besideDrive (s : State) (m : Nat) : (s.bstNotify m).besideDrive = s.besideDrive :=
  State.notify_besideDrive ..

@[simp] theorem State.bstSpill_besideDrive (s : State) : s.bstSpill.besideDrive = s.besideDrive := by
  unfold State.bstSpill
  refine (State.bstNotify_besideDrive _ _).trans (State.foldl_besideDrive (fun s n => ?_) _ _)
  simp [State.adrSlow]

@[simp] theorem State.bstSync_besideDrive (s : State) : s.bstSync.besideDrive = s.besideDrive := by
  simp [State.bstSync]

@[simp] theorem State.adrShow_besideDrive (s : State) (n : Nat) : (s.adrShow n).besideDrive = s.besideDrive := by
  simp [State.adrShow, State.bankShow]

@[simp] theorem State.adrShowAll_besideDrive (s : State) : s.adrShowAll.besideDrive = s.besideDrive := by
  unfold State.adrShowAll
  exact (State.bstShow_besideDrive _).trans (State.foldl_besideDrive State.adrShow_besideDrive _ _)

@[simp] theorem State.adrEnables_besideDrive (s : State) : s.adrEnables.besideDrive = s.besideDrive := by
  unfold State.adrEnables
  simp only [State.adrShowAll_besideDrive, State.bstSync_besideDrive]
  exact State.foldl_besideDrive (fun s k => by simp) _ _

/-! ### The load switches -/

@[simp] theorem State.grpDown_besideDrive (s : State) (g : Nat) : (s.grpDown g).besideDrive = s.besideDrive :=
  State.foldl_besideDrive (fun s n => by simp [State.pswOff]) _ _

@[simp] theorem State.pswDown_besideDrive (s : State) : s.pswDown.besideDrive = s.besideDrive :=
  State.foldl_besideDrive State.grpDown_besideDrive _ _

@[simp] theorem State.pswShow_besideDrive (s : State) (n : Nat) : (s.pswShow n).besideDrive = s.besideDrive := by
  simp [State.pswShow]

@[simp] theorem State.grpShow_besideDrive (s : State) (g : Nat) : (s.grpShow g).besideDrive = s.besideDrive := rfl

@[simp] theorem State.pswShowAll_besideDrive (s : State) : s.pswShowAll.besideDrive = s.besideDrive := by
  unfold State.pswShowAll
  exact (State.foldl_besideDrive State.grpShow_besideDrive _ _).trans (State.foldl_besideDrive State.pswShow_besideDrive _ _)

@[simp] theorem State.pswEnables_besideDrive (s : State) : s.pswEnables.besideDrive = s.besideDrive := by
  unfold State.pswEnables
  refine (State.pswShowAll_besideDrive _).trans ((State.foldl_besideDrive (fun s g => ?_) _ _).trans ?_)
  · simp [State.pswGroupNote]
  · simp

end Sys2Proof.Machine
end

section
/-!
SUPPORT. The safety island: what its checks, its connections and its outputs write, and what a change of its state leaves alone
(chapters 16 and 17).
-/
namespace Sys2Proof.Machine

/-- The island without its faults, its samples, its outputs and its connections: what its checks leave alone. -/
def Saf.core (x : Saf) : Saf :=
  { x with
    faults := [], fault := 0, nfault := 0, log := [], si := [], press := [], counts := [], pairs := [], mons := [], sos := [],
    conns := [], txq := [], demand := [], jreset := false }

/-- The island's core in a state. -/
def State.safCore (s : State) : Saf := s.saf.core

theorem State.safCore_of_saf {s t : State} (h : t.saf = s.saf) : t.safCore = s.safCore := congrArg Saf.core h

@[simp] theorem State.ite_safCore (c : Prop) [Decidable c] (s t : State) :
    (if c then s else t).safCore = if c then s.safCore else t.safCore := apply_ite ..

theorem State.foldl_safCore {α : Type} {g : State → α → State} (hg : ∀ s x, (g s x).safCore = s.safCore) (l : List α)
    (s : State) : (l.foldl g s).safCore = s.safCore := foldl_keeps State.safCore hg l s

theorem State.st_of_safCore {s t : State} (h : t.safCore = s.safCore) : t.saf.st = s.saf.st :=
  (congrArg Saf.st h : t.safCore.st = s.safCore.st)

theorem State.lines_of_safCore {s t : State} (h : t.safCore = s.safCore) : t.saf.lines = s.saf.lines :=
  (congrArg Saf.lines h : t.safCore.lines = s.safCore.lines)

theorem State.ms_of_safCore {s t : State} (h : t.safCore = s.safCore) : t.saf.ms = s.saf.ms :=
  (congrArg Saf.ms h : t.safCore.ms = s.safCore.ms)

theorem State.cycleAt_of_safCore {s t : State} (h : t.safCore = s.safCore) : t.saf.cycleAt = s.saf.cycleAt :=
  (congrArg Saf.cycleAt h : t.safCore.cycleAt = s.safCore.cycleAt)

theorem State.tpBad_of_safCore {s t : State} (h : t.safCore = s.safCore) : t.saf.tpBad = s.saf.tpBad :=
  (congrArg Saf.tpBad h : t.safCore.tpBad = s.safCore.tpBad)

/-! ### Notes, outputs and registers -/

@[simp] theorem State.wr_safCore (s : State) (a : Nat) (v : Word) : (s.wr a v).safCore = s.safCore := rfl
@[simp] theorem State.wfSet_safCore (s : State) (a hi lo v : Nat) : (s.wf_ a hi lo v).safCore = s.safCore := rfl
@[simp] theorem State.setSo_safCore (s : State) (n : Nat) (f : SafSo → SafSo) : (s.setSo n f).safCore = s.safCore := rfl
@[simp] theorem State.setConn_safCore (s : State) (n : Nat) (f : SafConn → SafConn) : (s.setConn n f).safCore = s.safCore := rfl

@[simp] theorem State.notify_safCore (s : State) (f code : Nat) (p : List Byte) : (s.notify f code p).safCore = s.safCore :=
  State.safCore_of_saf (s.notify_saf f code p)

@[simp] theorem State.post_safCore (s : State) (f : Nat) (e : Ev) : (s.post f e).safCore = s.safCore :=
  State.safCore_of_saf (s.post_saf f e)

@[simp] theorem State.safFaultNote_saf (s : State) (cause obj : Nat) (on : Bool) : (s.safFaultNote cause obj on).saf = s.saf :=
  State.notify_saf ..

@[simp] theorem State.adrEnables_saf (s : State) : s.adrEnables.saf = s.saf := State.saf_of_besideDrive s.adrEnables_besideDrive

@[simp] theorem State.pswEnables_saf (s : State) : s.pswEnables.saf = s.saf := State.saf_of_besideDrive s.pswEnables_besideDrive

/-- The mirror of the island writes registers alone (R376). -/
@[simp] theorem State.safMirror_saf (s : State) : s.safMirror.saf = s.saf := by
  unfold State.safMirror
  extract_lets x p ss1 s1 s2 used s3 s4 s5 ssBad s6 s7 s8 s9 s10 s11 s12 s13 s14
  refine (foldl_keeps State.saf (fun t c => State.wr_saf ..) _ s14).trans
    ((foldl_keeps State.saf (fun t i => State.wr_saf ..) _ s13).trans
      ((foldl_keeps State.saf (fun t m => ?_) _ s12).trans ?_))
  · simp only [State.wr_saf]
  · simp only [s12, s11, s10, s9, s8, s7, s6, s5, s4, s3, s2, s1, State.wr_saf]

/-! ### Faults, outputs, connections -/

@[simp] theorem State.safRaise_safCore (s : State) (cause obj : Nat) : (s.safRaise cause obj).safCore = s.safCore := by
  unfold State.safRaise
  split
  · rfl
  · exact (State.safCore_of_saf (State.safFaultNote_saf ..)).trans rfl

@[simp] theorem State.safOutputs_safCore (s : State) : s.safOutputs.safCore = s.safCore :=
  State.foldl_safCore (fun s n => by simp) _ _

/-- A connection's frame goes out beside the core and the outputs. -/
theorem State.jspSend_saf (s : State) (c : Nat) :
    ∃ l q, (s.jspSend c).saf = { s.saf with conns := l, txq := q } := by
  unfold State.jspSend
  dsimp only
  split
  · exact ⟨_, _, rfl⟩
  · exact ⟨_, _, rfl⟩

@[simp] theorem State.jspSend_safCore (s : State) (c : Nat) : (s.jspSend c).safCore = s.safCore := by
  obtain ⟨l, q, h⟩ := s.jspSend_saf c
  exact (congrArg Saf.core h : _)

@[simp] theorem State.connState_safCore (s : State) (c st kind : Nat) : (s.connState c st kind).safCore = s.safCore := by
  simp [State.connState]

theorem State.setSaf_safCore {f : Saf → Saf} (h : ∀ x, (f x).core = x.core) (s : State) : (s.setSaf f).safCore = s.safCore :=
  h s.saf

@[simp] theorem State.connAccept_safCore (s : State) (c seq : Nat) (data : List Byte) (edge : Bool) :
    (s.connAccept c seq data edge).safCore = s.safCore := by
  have hdemand (t : State) (r : List Nat) : (t.setSaf fun x => { x with demand := r }).safCore = t.safCore := rfl
  have hreset (t : State) (r : Bool) : (t.setSaf fun x => { x with jreset := r }).safCore = t.safCore := rfl
  unfold State.connAccept
  extract_lets b k run rst rise s1 s2 s3
  have h2 : s2.safCore = s.safCore := by simp [s2, s1]
  have h3 : s3.safCore = s2.safCore := by
    simp only [s3]
    split <;> rfl
  split
  · exact h3.trans h2
  · exact h3.trans h2

@[simp] theorem State.connFail_safCore (s : State) (c kind : Nat) : (s.connFail c kind).safCore = s.safCore := by
  unfold State.connFail
  extract_lets r was s1 s2
  have h1 : s1.safCore = s.safCore := by simp [s1]
  split
  · exact h1
  · have h2 : s2.safCore = s.safCore := by simp [s2, h1]
    split
    · exact h2
    · exact h2

@[simp] theorem State.jspRx_safCore (s : State) (c : Nat) (p : List Byte) : (s.jspRx c p).safCore = s.safCore := by
  simp [State.jspRx]

/-! ### Samples and checks -/

@[simp] theorem State.safSample_safCore (s : State) (si : Nat) : (s.safSample si).safCore = s.safCore := rfl

@[simp] theorem State.safWatch_safCore (s : State) (ss : List Nat) : (s.safWatch ss).safCore = s.safCore := rfl

@[simp] theorem State.safEnvelope_safCore (s : State) : s.safEnvelope.2.safCore = s.safCore := rfl

@[simp] theorem State.safPairFault_safCore (s : State) (i : Nat) : (s.safPairFault i).safCore = s.safCore := by
  unfold State.safPairFault
  split
  · split
    · exact State.safRaise_safCore ..
    · rfl
  · rfl

@[simp] theorem State.safMonFault_safCore (s : State) (m : Nat) : (s.safMonFault m).safCore = s.safCore := by
  unfold State.safMonFault
  split
  · simp
  · rfl

@[simp] theorem State.safEdm_safCore (s : State) (n : Nat) : (s.safEdm n).safCore = s.safCore := by
  unfold State.safEdm
  split
  · simp
  · rfl

/-! ### The outputs of a stopped island -/

/-- One step of a sweep over the outputs that switches them off. -/
def State.safOff (s : State) (n : Nat) : State :=
  if (s.so n).on then s.setSo n (fun o => { o with on := false, since := some s.saf.ms }) else s

/-- Outside of RUN and SS1 the sweep over the outputs switches off those that are on (R391). -/
theorem State.safOutputs_stopped {s : State} (h2 : s.saf.st ≠ 2) (h3 : s.saf.st ≠ 3) :
    s.safOutputs = (List.range 4).foldl State.safOff s := by
  have hrun : ((s.saf.st == 2 || s.saf.st == 3) && s.fieldOn) = false := by simp [h2, h3]
  unfold State.safOutputs
  simp only [hrun, Bool.false_and, Bool.not_false, Bool.true_and, Bool.false_eq_true, if_false]
  rfl

theorem State.safOff_saf (s : State) (n : Nat) : ∃ l, (s.safOff n).saf = { s.saf with sos := l } := by
  unfold State.safOff
  split
  · exact ⟨_, rfl⟩
  · exact ⟨_, rfl⟩

/-- The sweep leaves off what it comes to and what it finds off. -/
theorem State.safOff_off {s : State} {n m : Nat} (h : m = n ∨ (s.so m).on = false) : ((s.safOff n).so m).on = false := by
  unfold State.safOff
  split
  case isTrue hon =>
    change ((updAt s.saf.sos n fun o => { o with on := false, since := some s.saf.ms }).getD m {}).on = false
    by_cases hnm : n = m
    · subst hnm
      by_cases hlt : n < s.saf.sos.length
      · rw [updAt_getD_same hlt]
      · simp [updAt, List.getD_eq_getElem?_getD, Nat.not_lt.1 hlt]
    · rw [updAt_getD_ne _ hnm]
      exact h.resolve_left (Ne.symm hnm)
  case isFalse hoff =>
    rcases h with rfl | hm
    · simpa using hoff
    · exact hm

/-- After the sweep over a list of outputs each of them is off. -/
theorem State.safOff_sweep (l : List Nat) {s : State} {m : Nat} (h : m ∈ l ∨ (s.so m).on = false) :
    ((l.foldl State.safOff s).so m).on = false := by
  induction l generalizing s with
  | nil => exact h.resolve_left (by simp)
  | cons n l ih =>
    refine ih ?_
    by_cases hm : m ∈ l
    · exact .inl hm
    · refine .inr (State.safOff_off (h.imp_left fun hmem => ?_))
      exact (List.mem_cons.1 hmem).resolve_right hm

/-- A stopped island's sweep writes the outputs alone. -/
theorem State.safOutputs_stopped_saf {s : State} (h2 : s.saf.st ≠ 2) (h3 : s.saf.st ≠ 3) :
    ∃ l, s.safOutputs.saf = { s.saf with sos := l } := by
  rw [State.safOutputs_stopped h2 h3]
  generalize List.range 4 = l
  clear h2 h3
  induction l generalizing s with
  | nil => exact ⟨_, rfl⟩
  | cons n l ih =>
    obtain ⟨a, ha⟩ := s.safOff_saf n
    obtain ⟨b, hb⟩ := ih (s := s.safOff n)
    exact ⟨b, hb.trans (by rw [ha])⟩

end Sys2Proof.Machine
end

section
/-!
SUPPORT. The states of the safety island: what entering one sets and leaves, and that LOCK is left by no decision (R383, R391).
-/
namespace Sys2Proof.Machine

/-! ### Entering a state -/

/-- The island's own part in entering a state: before its outputs, its event and its frames follow. -/
def State.safMoved (s : State) (st cause : Nat) : State :=
  s.setSaf (fun x => { x with
    st := st, stop := st == 1 || st == 3 || (st != 2 && x.stop), cause := cause, ramp := st == 3, lines := s.safLinesFor st,
    stops := x.stops + b2n (s.saf.st == 2 && (st == 3 || st == 1)), stos := x.stos + b2n (st == 1),
    ss1At := if st = 3 then x.ms else x.ss1At,
    mons := if st = 3 then (List.range 4).map (fun m =>
        { s.mon m with v0 := s.monSpeed m, lim := s.monSpeed m + u16 (monB x.par m) 16 }) else x.mons })

/-- A state is entered with the outputs that belong to it; its frames follow. -/
theorem State.safEnter_saf {s : State} {st : Nat} (h : s.saf.st ≠ st) (cause : Nat) :
    ∃ l q, (s.safEnter st cause).saf = { (s.safMoved st cause).safOutputs.saf with conns := l, txq := q } := by
  unfold State.safEnter
  rw [if_neg h]
  dsimp only
  rw [State.pswEnables_saf, State.adrEnables_saf]
  generalize State.jspProduced _ = cs
  generalize hu : State.notify _ fSAF 0x80 _ = u
  have husaf : u.saf = (s.safMoved st cause).safOutputs.saf := by
    rw [← hu, State.notify_saf, State.post_saf]
    rfl
  rw [← husaf]
  clear husaf hu
  induction cs generalizing u with
  | nil => exact ⟨_, _, rfl⟩
  | cons c cs ih =>
    obtain ⟨a, b, hc⟩ := u.jspSend_saf c
    obtain ⟨a', b', ht⟩ := ih (u.jspSend c)
    exact ⟨a', b', ht.trans (by rw [hc])⟩

theorem State.safEnter_same {s : State} {st : Nat} (h : s.saf.st = st) (cause : Nat) : s.safEnter st cause = s := if_pos h

theorem State.safEnter_safCore {s : State} {st : Nat} (h : s.saf.st ≠ st) (cause : Nat) :
    (s.safEnter st cause).safCore = (s.safMoved st cause).safCore := by
  obtain ⟨l, q, hsaf⟩ := State.safEnter_saf h cause
  exact (congrArg Saf.core hsaf).trans (State.safOutputs_safCore (s.safMoved st cause))

@[simp] theorem State.safEnter_st (s : State) (st cause : Nat) : (s.safEnter st cause).saf.st = st := by
  by_cases h : s.saf.st = st
  · rw [State.safEnter_same h, h]
  · exact State.st_of_safCore (State.safEnter_safCore h cause)

theorem State.safEnter_lines {s : State} {st : Nat} (h : s.saf.st ≠ st) (cause : Nat) :
    (s.safEnter st cause).saf.lines = s.safLinesFor st := State.lines_of_safCore (State.safEnter_safCore h cause)

theorem State.safEnter_cause {s : State} {st : Nat} (h : s.saf.st ≠ st) (cause : Nat) :
    (s.safEnter st cause).saf.cause = cause := (congrArg Saf.cause (State.safEnter_safCore h cause) : _)

/-- A state entered outside of RUN and SS1 has every output off. -/
theorem State.safEnter_off {s : State} {st : Nat} (h : s.saf.st ≠ st) (h2 : st ≠ 2) (h3 : st ≠ 3) (cause : Nat) {n : Nat}
    (hn : n < 4) : ((s.safEnter st cause).so n).on = false := by
  obtain ⟨l, q, hsaf⟩ := State.safEnter_saf h cause
  have hso : (s.safEnter st cause).so n = (s.safMoved st cause).safOutputs.so n :=
    (congrArg (fun x : Saf => x.sos.getD n {}) hsaf : _)
  rw [hso, State.safOutputs_stopped h2 h3]
  exact State.safOff_sweep _ (.inl (List.mem_range.2 hn))

/-- A state entered outside of RUN and SS1 raises no fault of an output. -/
theorem State.safEnter_fault (s : State) {st : Nat} (h2 : st ≠ 2) (h3 : st ≠ 3) (cause : Nat) :
    (s.safEnter st cause).saf.fault = s.saf.fault := by
  by_cases h : s.saf.st = st
  · rw [State.safEnter_same h]
  · obtain ⟨l, q, hsaf⟩ := State.safEnter_saf h cause
    obtain ⟨m, hout⟩ := State.safOutputs_stopped_saf (s := s.safMoved st cause) h2 h3
    rw [hout] at hsaf
    exact (congrArg Saf.fault hsaf : _)

/-! ### What no decision changes -/

/-- The time of the island, its tests and its seal, as one value: no decision about its state changes them. -/
def State.safBase (s : State) : Nat × Nat × Bool × Bool × Bool := (s.saf.ms, s.saf.cycleAt, s.saf.tested, s.saf.checked, s.saf.sealed)

theorem State.safBase_of_safCore {s t : State} (h : t.safCore = s.safCore) : t.safBase = s.safBase :=
  (congrArg (fun x : Saf => (x.ms, x.cycleAt, x.tested, x.checked, x.sealed)) h : _)

theorem State.safBase_of_saf {s t : State} (h : t.saf = s.saf) : t.safBase = s.safBase :=
  State.safBase_of_safCore (State.safCore_of_saf h)

@[simp] theorem State.ite_safBase (c : Prop) [Decidable c] (s t : State) :
    (if c then s else t).safBase = if c then s.safBase else t.safBase := apply_ite ..

@[simp] theorem State.safEnter_safBase (s : State) (st cause : Nat) : (s.safEnter st cause).safBase = s.safBase := by
  by_cases h : s.saf.st = st
  · rw [State.safEnter_same h]
  · exact (State.safBase_of_safCore (State.safEnter_safCore h cause)).trans rfl

@[simp] theorem State.safHold_safBase (s : State) (cause : Nat) : (s.safHold cause).safBase = s.safBase :=
  (State.safEnter_safBase s 1 cause : _)

@[simp] theorem State.safReset_safBase (s : State) : s.safReset.safBase = s.safBase := by
  have hnotes (l : List (Nat × Nat)) : (l.foldl (fun (s : State) f => s.safFaultNote f.1 f.2 false) s).safBase = s.safBase :=
    foldl_keeps State.safBase (fun t f => State.safBase_of_saf (State.safFaultNote_saf ..)) _ _
  unfold State.safReset
  extract_lets x others held others' edm s1 s2
  split
  · exact (State.safEnter_safBase ..).trans (hnotes _)
  · split <;> rfl

theorem State.safReset_stopped {s : State} (h : s.saf.st ≠ 1) : s.safReset = s := by
  simp [State.safReset, h]

@[simp] theorem State.safDecide_safBase (s : State) (env still tmax reset : Bool) :
    (s.safDecide env still tmax reset).safBase = s.safBase := by
  have hposts (l : List Nat) (t : State) : (l.foldl (fun (s : State) c => s.post fSAF (.safety c)) t).safBase = t.safBase :=
    foldl_keeps State.safBase (fun t c => State.safBase_of_saf (State.post_saf ..)) _ _
  unfold State.safDecide
  extract_lets x ts causes fresh low has s1 s2 s3
  have h1 : s1.safBase = s.safBase := rfl
  have h2 : s2.safBase = s.safBase := by
    simp only [s2, State.ite_safBase, hposts, h1, ite_self]
  have h3 : s3.safBase = s.safBase := by
    have : (s2.setSaf fun y => { y with viol := y.viol + 1 }).safBase = s2.safBase := rfl
    simp only [s3, State.ite_safBase, this, h2, ite_self]
  have hreq : (s3.setSaf fun y => { y with resetReq := true }).safBase = s3.safBase := rfl
  clear_value s3
  simp only [State.ite_safBase, State.safEnter_safBase, State.safReset_safBase, hreq, h3, ite_self]

/-! ### LOCK -/

/-- In LOCK no decision enters another state. -/
theorem State.safDecide_locked {s : State} (h : s.saf.st = 4) (env still tmax reset : Bool) :
    (s.safDecide env still tmax reset).saf.st = 4 := by
  have hposts (l : List Nat) (t : State) : (l.foldl (fun (s : State) c => s.post fSAF (.safety c)) t).saf = t.saf :=
    foldl_keeps State.saf (fun t c => State.post_saf ..) _ _
  unfold State.safDecide
  extract_lets x ts causes fresh low has s1 s2 s3
  have hx : (decide (x.st = 0) || decide (x.st = 4)) = true := by simp [x, h]
  have h3 : s3.saf.st = 4 := by
    simp only [s3, s2]
    split <;> split <;> simp [hposts, s1, h]
  rw [if_pos hx]
  split
  · exact State.safEnter_st ..
  · exact h3

/-- A fault of the island itself is a trigger that no state but LOCK bears. -/
theorem State.safTriggers_own {s : State} (h : (16, 0) ∈ s.saf.faults) : (16, 3) ∈ s.safTriggers := by
  have hmem : (16, 3) ∈ s.saf.faults.map (fun f => (f.1, if f.1 = 16 then 3 else 2)) := List.mem_map.2 ⟨(16, 0), h, rfl⟩
  simp only [State.safTriggers, List.mem_append]
  simp only [hmem, or_true, true_or]

/-- A fault of the island itself puts it in LOCK, with every line removed (R391). -/
theorem State.safDecide_own {s : State} (h4 : s.saf.st ≠ 4) (hown : (16, 0) ∈ s.saf.faults) (env still tmax reset : Bool) :
    (s.safDecide env still tmax reset).saf.st = 4 ∧ (s.safDecide env still tmax reset).saf.lines = 0 := by
  have hposts (l : List Nat) (t : State) : (l.foldl (fun (s : State) c => s.post fSAF (.safety c)) t).saf = t.saf :=
    foldl_keeps State.saf (fun t c => State.post_saf ..) _ _
  have hlock {t : State} (c : Nat) (ht : t.saf.st = s.saf.st) : (t.safEnter 4 c).saf.st = 4 ∧ (t.safEnter 4 c).saf.lines = 0 :=
    ⟨State.safEnter_st .., State.safEnter_lines (by rw [ht]; exact h4) c⟩
  unfold State.safDecide
  extract_lets x ts causes fresh low has s1 s2 s3
  have hhas : has 3 = true := by
    refine List.any_eq_true.2 ⟨(16, 3), ?_, rfl⟩
    exact List.mem_append_left _ (State.safTriggers_own hown)
  have h3 : s3.saf.st = s.saf.st := by
    simp only [s3, s2]
    split <;> split <;> simp [hposts, s1]
  rw [if_pos hhas, if_pos hhas]
  split
  · exact hlock _ h3
  · exact hlock _ h3

/-- The fault of the island itself is among its faults once raised. -/
theorem State.safRaise_mem (s : State) (cause obj : Nat) : (cause, obj) ∈ (s.safRaise cause obj).saf.faults := by
  unfold State.safRaise
  split
  case isTrue h => exact List.contains_iff_mem.1 h
  case isFalse => simp

/-! ### The cycle -/

/-- A cycle that is due counts a millisecond, takes its samples and makes its checks, then decides on a state of its own: what the
island's clock, its state and its lines are afterwards is what the decision left. -/
theorem State.safCycle_decides {x : SafIn} {s : State} (hp : s.saf.powered = true) (hdue : s.saf.cycleAt + fabMs 1 ≤ s.clk.now) :
    ∃ t, exec (.safCycle x) s = .next t ∧ ∃ (u : State) (env still tmax reset : Bool), u.saf.st = s.saf.st ∧
      u.saf.ms = s.saf.ms + 1 ∧ u.saf.cycleAt = s.clk.now ∧ (x.own = true → (16, 0) ∈ u.saf.faults) ∧ t.safBase = u.safBase ∧
      t.saf.st = (u.safDecide env still tmax reset).saf.st ∧ t.saf.lines = (u.safDecide env still tmax reset).saf.lines := by
  have hgo : ¬ (!s.begun.saf.powered || decide (s.begun.clk.now < s.begun.saf.cycleAt + fabMs 1)) = true := by
    simp [hp, Nat.not_lt.2 hdue]
  change ∃ t, execSafCycle x s = .next t ∧ _
  refine State.runIn_complete ?_
  rw [if_neg hgo]
  extract_lets s1 s2 live s3 s4 s5 s6 bad clk newReset s7 s8 s9 was e s10 tmax reset s11 s12 s13
  have h2 : s2.safCore = s1.safCore := by
    simp only [s2, State.ite_safCore, State.safWatch_safCore, State.safSample_safCore, ite_self]
  have h3 : s3.safCore = s1.safCore := by
    simp only [s3, State.ite_safCore, State.foldl_safCore State.safPairFault_safCore, h2, ite_self]
  have h4 : s4.safCore = s1.safCore := by
    simp only [s4, State.ite_safCore, State.foldl_safCore State.safMonFault_safCore, h3, ite_self]
  have hso (t : State) (n : Nat) : ((if nbit x.so n then (t.setSo n fun o => { o with bad := nbit x.so n }).safRaise 8 n
      else t.setSo n fun o => { o with bad := nbit x.so n }).safEdm n).safCore = t.safCore := by
    rw [State.safEdm_safCore]
    split
    · rw [State.safRaise_safCore, State.setSo_safCore]
    · rw [State.setSo_safCore]
  have h5 : s5.safCore = s1.safCore := by
    simp only [s5, State.ite_safCore, State.foldl_safCore hso, h4, ite_self]
  have h6 : s6.safCore = s1.safCore := by
    simp only [s6, State.ite_safCore, State.safRaise_safCore, h5, ite_self]
  have hown : x.own = true → (16, 0) ∈ s6.saf.faults := by
    intro h
    simp only [s6, if_pos h]
    exact State.safRaise_mem ..
  have h7 : s7.saf = s6.saf := by
    simp only [s7]
    split
    · exact State.post_saf ..
    · rfl
  clear_value s7
  have h10 : s10.saf.st = s7.saf.st ∧ s10.saf.ms = s7.saf.ms ∧ s10.saf.cycleAt = s7.saf.cycleAt ∧ s10.saf.faults = s7.saf.faults := by
    simp only [s10, e]
    split
    · exact ⟨rfl, rfl, rfl, rfl⟩
    · exact ⟨rfl, rfl, rfl, rfl⟩
  obtain ⟨hst, hms, hat, hfaults⟩ := h10
  rw [h7] at hst hms hat hfaults
  clear_value s10
  have h11 : s11 = (s10.setSaf fun y => { y with jreset := false }).safDecide e.1 (s10.safMons && s10.safStill) tmax reset := rfl
  clear_value s11
  have h13 : s13.safBase = s11.safBase ∧ s13.saf.st = s11.saf.st ∧ s13.saf.lines = s11.saf.lines := by
    have h12 : s12.safCore = s11.safCore := State.safOutputs_safCore s11
    have hkept : s13.safBase = s12.safBase ∧ s13.saf.st = s12.saf.st ∧ s13.saf.lines = s12.saf.lines := by
      simp only [s13]
      split
      · exact ⟨rfl, rfl, rfl⟩
      · exact ⟨rfl, rfl, rfl⟩
    obtain ⟨hb, hs, hl⟩ := hkept
    exact ⟨hb.trans (State.safBase_of_safCore h12), hs.trans (State.st_of_safCore h12), hl.trans (State.lines_of_safCore h12)⟩
  obtain ⟨hbase, hst', hlines⟩ := h13
  clear_value s13
  have hfin : (Foot.finish (Foot.saf.and [.adr, .psw] [.adb, .adr, .psw]) s s13.safMirror).saf = s13.saf := by
    rw [Foot.finish_saf, if_pos (by decide), State.safMirror_saf]
  refine ⟨s10.setSaf fun y => { y with jreset := false }, e.1, s10.safMons && s10.safStill, tmax, reset, ?_, ?_, ?_, ?_, ?_, ?_, ?_⟩
  · exact hst.trans ((State.st_of_safCore h6).trans rfl)
  · exact hms.trans ((State.ms_of_safCore h6).trans rfl)
  · exact hat.trans ((State.cycleAt_of_safCore h6).trans rfl)
  · intro h
    exact hfaults ▸ hown h
  · exact (State.safBase_of_saf hfin).trans (hbase.trans (h11 ▸ State.safDecide_safBase ..))
  · rw [hfin, ← h11]; exact hst'
  · rw [hfin, ← h11]; exact hlines

end Sys2Proof.Machine
end

section
/-!
PROOF. Chapters 16 and 17: the safety island's events complete.
-/
namespace Sys2Proof.Machine

theorem maskOf_congr {n : Nat} {p q : Nat → Bool} (h : ∀ i, p i = q i) : maskOf n p = maskOf n q := by
  rw [show p = q from funext h]

/-- The mask of two inputs. -/
theorem maskOf_pair : ∀ i < 16, ∀ j < 16, i ≠ j → maskOf 16 (fun a => [i, j].contains a) = 2 ^ i + 2 ^ j := by decide

/-- Settles O28: the cycle by the decision it comes to, the entering of states by what they set, the other clauses by their own
command's equation. -/
theorem safetyEventsComplete : Obligations.SafetyEventsComplete := by
  unfold Obligations.SafetyEventsComplete
  refine ⟨?safCycle, ?safDiscrepancy, ?safSpeedDiscrepancy, ?safStandstill, ?safStandstill', ?safTMaxExpiry, ?safTestPulse,
    ?safSoTest, ?safSoTest', ?safEdmTimeout, ?safResetInput, ?safSelfTestDone, ?safReadyCheck, ?safSealChange,
    ?jasperFrameRx, ?jasperWatchdog, ?jasperProduce⟩
  case safCycle =>
    intro x s hp hdue
    obtain ⟨t, hstep, u, _, _, _, _, -, hms, hat, -, hbase, -, -⟩ := State.safCycle_decides (x := x) hp hdue
    exact ⟨t, hstep, (congrArg (·.1) hbase).trans hms, (congrArg (·.2.1) hbase).trans hat⟩
  case safDiscrepancy =>
    intro i s hsaf hsaf' hsaf''
    change execSafDiscrepancy i s = _
    refine State.runIn_next ?_
    simp [hsaf, hsaf', hsaf'']
  case safSpeedDiscrepancy =>
    intro m s hsaf hsaf' hsaf''
    change execSafSpeedDiscrepancy m s = _
    refine State.runIn_next ?_
    simp [hsaf, hsaf', hsaf'']
  case safStandstill =>
    intro m s hsaf hmonUsed hmonStill hsaf'
    change execSafStandstill m s = _
    refine State.runIn_next ?_
    simp [hsaf, hmonUsed, hmonStill, hsaf']
  case safStandstill' =>
    intro m s t hp hused hstill hst ht hall henv
    have hgo : (s.begun.saf.powered && monUsed s.begun.saf.par m && s.begun.monStill m) = true := by simp [hp, hused, hstill]
    have hst3 : t.saf.st = 3 := by rw [ht, State.wfSet_saf]; exact hst
    have hend : (decide (t.saf.st = 3) && t.safStill && !t.safEnvelope.1) = true := by simp [hst3, hall, henv]
    change execSafStandstill m s = _
    refine State.runIn_next ?_
    rw [if_pos hgo]
    simp only [State.begun_saf, State.begun_monStill, ← ht]
    rw [if_pos hend]
  case safTMaxExpiry =>
    intro s hsaf hsafTmax
    change execSafTMaxExpiry s = _
    refine State.runIn_next ?_
    simp [hsaf, hsafTmax]
  case safTestPulse =>
    intro k i j s hsaf hsaf' hsaf'' htpRuns hall hi hj hi' hfld hfld' hsaf'''
    have hgo : ¬ (!(s.begun.saf.powered && s.begun.saf.tested && s.begun.saf.parOk && s.begun.tpRuns)) = true := by
      simp [hsaf, hsaf', hsaf'', htpRuns]
    have hfed : (List.range 16).filter (fun i => fld (siCfg s.saf.par i) 2 0 != 0 && fld (siW s.saf.par i) 7 5 == k) = [] := by
      rw [List.filter_eq_nil_iff]
      intro a ha
      have := List.all_eq_true.1 hall a ha
      simp only [Bool.or_eq_true, beq_iff_eq, bne_iff_ne, ne_eq] at this
      simp only [Bool.and_eq_true, beq_iff_eq, bne_iff_ne, ne_eq, not_and]
      exact fun h0 => this.resolve_left h0
    change ∃ t, execSafTestPulse k { exceeds := false, low := 0, cross := [(i, j)] } s = .next t ∧ _
    refine State.runIn_complete ?_
    rw [if_neg hgo]
    extract_lets p fed badOwn cross bad now s1
    rw [Foot.finish_saf, if_pos (by decide), State.tpBad_of_safCore (State.foldl_safCore (fun t i => t.safRaise_safCore 7 i) bad s1)]
    have hfed' : fed = [] := hfed
    have hbad : bad = [i, j] := by
      simp [bad, badOwn, cross, hfed', hi, hj, hfld, hfld', p, List.eraseDups_cons, Ne.symm hi']
    change maskOf 16 (fun a => bad.contains a || (nbit s.saf.tpBad a && !fed.contains a)) = _
    rw [hbad, hsaf''', maskOf_congr (q := fun a => [i, j].contains a) (fun a => by simp [nbit])]
    exact maskOf_pair i hi j hj hi'
  case safSoTest =>
    intro n s hsaf hso
    change execSafSoTest n true s = _
    refine State.runIn_next ?_
    simp [hsaf, hso]
  case safSoTest' =>
    intro n s hsaf hso
    change execSafSoTest n false s = _
    refine State.runIn_next ?_
    simp [hsaf, hso]
  case safEdmTimeout =>
    intro n s hsaf hsaf' hsaf''
    change execSafEdmTimeout n s = _
    refine State.runIn_next ?_
    simp [hsaf, hsaf', hsaf'']
  case safResetInput =>
    intro i d s hsaf hd hd'
    change execSafResetInput i s = _
    refine State.runIn_next ?_
    simp [hsaf, hd, hd']
  case safSelfTestDone =>
    intro addr dip image s hp hst htested hstaged
    have hgo : ¬ (!(s.begun.saf.powered && decide (s.begun.saf.st = 0) && !s.begun.saf.tested)) = true := by
      simp [hp, hst, htested]
    change ∃ t, execSafSelfTestDone true addr dip image s = .next t ∧ _
    refine State.runIn_complete ?_
    rw [if_neg hgo, if_neg (by decide), Foot.finish_saf, if_pos (by decide), State.safMirror_saf]
    simp only [State.begun_saf, hstaged]
    exact ⟨rfl, rfl, rfl, rfl⟩
  case safReadyCheck =>
    intro s hp htested hdome hchecked hst
    have hgo : ¬ (!(s.begun.saf.powered && s.begun.saf.tested && decide (2 ≤ s.begun.dome) && !s.begun.saf.checked)) = true := by
      simp [hp, htested, hdome, hchecked]
    change ∃ t, execSafReadyCheck s = .next t ∧ _
    refine State.runIn_complete ?_
    rw [if_neg hgo]
    extract_lets bad s1 s2
    have hst1 : s1.saf.st = 0 := hst
    rw [Foot.finish_saf, if_pos (by decide), State.safMirror_saf, show s2 = _ from if_pos hst1]
    have hbase (c : Nat) : (s1.safEnter 1 c).safBase = s1.safBase := State.safEnter_safBase ..
    exact ⟨(congrArg (·.2.2.2.1) (hbase _) : _), State.safEnter_st ..⟩
  case safSealChange =>
    intro obj s hp htested hopen hobj hdiff hless
    have hfirst : (List.range 10).find? (fun k => decide (3 ≤ s.saf.sealDiff.getD k 0)) = some obj := by
      rw [List.find?_range_eq_some]
      refine ⟨by simpa using hdiff, List.mem_range.2 hobj, fun j hj => ?_⟩
      simpa using hless j hj
    have hgo : ¬ (!(s.begun.saf.powered && s.begun.saf.tested && !s.begun.saf.sealed) ||
        (List.range 10).find? (fun k => decide (3 ≤ s.begun.saf.sealDiff.getD k 0)) != some obj) = true := by
      rw [State.begun_saf, hfirst, hp, htested, hopen]
      simp
    change ∃ t, execSafSealChange obj s = .next t ∧ _
    refine State.runIn_complete ?_
    rw [if_neg hgo]
    extract_lets s1 s2
    rw [Foot.finish_saf, if_pos (by decide), State.safMirror_saf]
    have h2 : s2.saf = s1.saf := State.safFaultNote_saf ..
    have hst : s2.saf.st = s.saf.st := (congrArg Saf.st h2).trans rfl
    have hseal : s2.saf.sealed = true := congrArg Saf.sealed h2
    have hfault : s2.saf.fault = 256 * 17 + obj := congrArg Saf.fault h2
    clear_value s2
    split
    case isTrue hoff =>
      refine ⟨hseal, hfault, fun h => ?_⟩
      simp only [hst, Bool.or_eq_true, decide_eq_true_eq] at hoff
      omega
    case isFalse hon =>
      have hsealed : (s2.safHold 17).saf.sealed = s2.saf.sealed := congrArg (·.2.2.2.2) (State.safHold_safBase s2 17)
      have hkept : (s2.safHold 17).saf.fault = s2.saf.fault := State.safEnter_fault s2 (by decide) (by decide) 17
      exact ⟨hsealed.trans hseal, hkept.trans hfault, fun _ => State.safEnter_st ..⟩
  case jasperFrameRx =>
    intro n p s
    change execJasperFrameRx n p s = _
    refine State.runIn_next ?_
    simp
  case jasperWatchdog =>
    intro n s hsaf hsaf' hn hconnProd hconn hconn'
    change execJasperWatchdog n s = _
    refine State.runIn_next ?_
    simp [hsaf, hsaf', hn, hconnProd, hconn, hconn']
  case jasperProduce =>
    intro n s hsaf hsaf' hn hconnProd hconn
    change execJasperProduce n s = _
    refine State.runIn_next ?_
    simp [hsaf, hsaf', hn, hconnProd, hconn]

end Sys2Proof.Machine
end

section
/-!
PROOF. Chapter 13: the events and mailbox commands of the position service and of Sentry complete.
-/
namespace Sys2Proof.Machine

/-! ## What the parts of a solution leave alone -/

theorem State.posDisc_pos (s : State) (on : Bool) : (s.posDisc on).pos = s.pos := by
  unfold State.posDisc State.posTimeNote
  split
  · rfl
  · dsimp only
    split <;> simp

/-- The quality of a solution is what it is set to; its time stays (R314). -/
theorem State.posQual_pos (s : State) (q hq : Nat) :
    ∃ d, (s.posQual q hq).pos = { s.pos with quality := q, hq := hq, drSince := d } := by
  refine ⟨if q = 1 && s.pos.quality != 1 then s.clk.tb else s.pos.drSince, ?_⟩
  unfold State.posQual
  extract_lets old t1 t2 t3
  have h2 : t2.pos = { s.pos with quality := q, hq := hq, drSince := if q = 1 && s.pos.quality != 1 then s.clk.tb else s.pos.drSince } :=
    rfl
  have h3 : t3.pos = t2.pos := by
    simp only [t3]
    split
    · exact State.posDisc_pos ..
    · rfl
  split
  · exact h3.trans h2
  · exact (State.notify_pos ..).trans (h3.trans h2)

theorem State.posFilter_lastSol (s : State) (x : PosSol) : (s.posFilter x).pos.lastSol = s.pos.lastSol := by
  unfold State.posFilter
  dsimp only
  repeat' split
  all_goals rfl

theorem State.posTime_lastSol (s : State) (tb gnss : Nat) : (s.posTime tb gnss).pos.lastSol = s.pos.lastSol := by
  unfold State.posTime State.posTimeNote
  dsimp only
  repeat' split
  all_goals simp

theorem State.posAid_pos (s : State) (l : List (Nat × Int)) : (s.posAid l).pos = s.pos := by
  unfold State.posAid
  split
  · rfl
  · refine foldl_keeps State.pos (fun t a => ?_) _ _
    split <;> rfl

theorem State.posDisc_sols (s : State) (on : Bool) : (s.posDisc on).rd R.POS_SOLS = s.rd R.POS_SOLS := by
  unfold State.posDisc State.posTimeNote
  split
  · rfl
  · extract_lets t1 t2
    have h2 : t2.rd R.POS_SOLS = s.rd R.POS_SOLS := by
      simp only [t2]
      split
      · rw [State.wb_rd, if_neg (by decide), State.wb_rd, if_neg (by decide)]
      · rw [State.wb_rd, if_neg (by decide)]
    rw [State.notify_rd _ _ _ _ (by decide), h2]

theorem State.posQual_sols (s : State) (q hq : Nat) : (s.posQual q hq).rd R.POS_SOLS = s.rd R.POS_SOLS := by
  unfold State.posQual
  extract_lets old t1 t2 t3
  have h2 : t2.rd R.POS_SOLS = s.rd R.POS_SOLS := by
    simp only [t2]
    rw [State.wfSet_rd, if_neg (by decide), State.wfSet_rd, if_neg (by decide)]
    exact State.setPos_rd ..
  have h3 : t3.rd R.POS_SOLS = s.rd R.POS_SOLS := by
    simp only [t3]
    split
    · rw [State.posDisc_sols, h2]
    · exact h2
  split
  · exact h3
  · rw [State.notify_rd _ _ _ _ (by decide), h3]

theorem State.posFilter_sols (s : State) (x : PosSol) : (s.posFilter x).rd R.POS_SOLS = s.rd R.POS_SOLS := by
  unfold State.posFilter
  extract_lets since t
  have ht : t.rd R.POS_SOLS = s.rd R.POS_SOLS := by
    simp only [t, State.setPos_rd]
    rw [State.inc_rd, if_neg (by decide)]
  split
  · exact State.setPos_rd ..
  · split
    · rw [State.setPos_rd, State.inc_rd, if_neg (by decide), ht]
    · exact ht

theorem State.wr64_rd_ne (s : State) {lo hi a : Nat} (v : Nat) (h : a ≠ lo) (h' : a ≠ hi) : (s.wr64 lo hi v).rd a = s.rd a :=
  (State.wr_rd_ne _ _ h').trans (State.wr_rd_ne _ _ h)

theorem State.posTime_sols (s : State) (tb gnss : Nat) : (s.posTime tb gnss).rd R.POS_SOLS = s.rd R.POS_SOLS := by
  unfold State.posTime State.posTimeNote
  split
  · extract_lets g t1 t2 t3
    have h1 : t1.rd R.POS_SOLS = s.rd R.POS_SOLS := by
      simp only [t1]
      rw [State.wb_rd, if_neg (by decide), State.wr64_rd_ne _ _ (by decide) (by decide)]
    have h2 : t2.rd R.POS_SOLS = s.rd R.POS_SOLS := by
      simp only [t2]
      split
      · rw [State.setTrn_rd, State.wr64_rd_ne _ _ (by decide) (by decide), h1]
      · exact h1
    rw [State.notify_rd _ _ _ _ (by decide)]
    simp only [t3, State.setPos_rd]
    rw [State.wr_rd_ne _ _ (by decide), h2]
  · dsimp only
    split
    · rw [State.setPos_rd, State.wr_rd_ne _ _ (by decide)]
    · rw [State.wr_rd_ne _ _ (by decide)]

theorem State.posAid_sols (s : State) (l : List (Nat × Int)) : (s.posAid l).rd R.POS_SOLS = s.rd R.POS_SOLS := by
  unfold State.posAid
  split
  · rfl
  · refine foldl_keeps (fun t : State => t.rd R.POS_SOLS) (fun t a => ?_) _ _
    split
    · exact State.wr_rd_ne _ _ (by unfold R.POS_SOLS R.TRN_CH_AID; omega)
    · rfl

/-! ## Signals and snapshots -/

theorem iword_natCast (n : Nat) : iword (n : Int) = word n := BitVec.ofInt_natCast 32 n

theorem State.posSig_pos (s : State) (n : Nat) (ok : Bool) (v : Int) : (s.posSig n ok v).pos = s.pos := by
  unfold State.posSig
  split <;> rfl

theorem State.posSig_same (s : State) {n : Nat} (hn : n < 512) (v : Int) : (s.posSig n true v).sig n = iword v := by
  change ((s.wr (R.FAB_SIG n) (iword v)).wb (R.FAB_SIG_VALID (n / 32)) (n % 32) true).rd (R.FAB_SIG n) = _
  rw [State.wb_rd, if_neg (by unfold R.FAB_SIG R.FAB_SIG_VALID; omega), State.wr_rd_same]

theorem State.posSig_ne (s : State) {n m : Nat} (hm : m < 512) (h : m ≠ n) (ok : Bool) (v : Int) : (s.posSig n ok v).sig m = s.sig m := by
  have hsig : R.FAB_SIG m ≠ R.FAB_SIG n := by unfold R.FAB_SIG; omega
  have hvalid : R.FAB_SIG m ≠ R.FAB_SIG_VALID (n / 32) := by unfold R.FAB_SIG R.FAB_SIG_VALID; omega
  unfold State.posSig
  split
  · exact State.setSig_rd_ne _ _ _ hsig hvalid
  · exact State.dropSig_rd _ _ hsig hvalid

/-- A unit is stored beside the counts and times of Sentry. -/
theorem State.sentryStore_sentry (s : State) (u : SentryUnit) :
    ∃ l, (s.sentryStore u).pos.sentry = { s.pos.sentry with units := l } := by
  unfold State.sentryStore State.sentryShow
  dsimp only
  split
  · exact ⟨_, rfl⟩
  · exact ⟨_, rfl⟩

theorem State.sentryEvent_sentry (s : State) (e : Nat) : ∃ w, (s.sentryEvent e).pos.sentry = { s.pos.sentry with wake := w } := by
  unfold State.sentryEvent
  dsimp only
  split
  · exact ⟨_, rfl⟩
  · exact ⟨s.pos.sentry.wake, rfl⟩

/-- Settles O24: what a solution leaves of its count and time goes through each of its parts; the other clauses follow their own
command. -/
theorem positionComplete : Obligations.PositionComplete := by
  unfold Obligations.PositionComplete
  refine ⟨?posSolution, ?posCorrAgeExpiry, ?posInertialSample, ?posDrExpiry, ?posOutput, ?posDiscipline, ?posPps, ?posPpsEnd,
    ?posRtcmFrame, ?sentryBurst, ?sentrySnapshot, ?posRtcm, ?posRtcmSrc, ?posOrigin, ?posOrigin', ?posSentrySet,
    ?posSentryRead, ?posSnapSolve, ?posSentryClear⟩
  case posSolution =>
    intro x s hon hdue hfound henough
    have hgo : ¬ (!s.begun.posOn || decide (s.begun.trn.lastEpoch / s.begun.posPeriod * s.begun.posPeriod ≤ s.begun.pos.lastSol)) = true := by
      simp [hon, Nat.not_le.2 hdue]
    change ∃ t, execPosSolution x s = .next t ∧ _
    refine State.runIn_complete ?_
    extract_lets tb s1 sats s2 q h s3 s4 s5 s6 hq
    have hyes : (x.found && posEnough sats) = true := by rw [hfound]; exact henough
    rw [if_neg hgo, if_pos hyes, Foot.finish_pos, if_pos (by decide), Foot.finish_rd_win Win.pos s _ (by decide) (by decide) (by decide)]
    have h3 : s3.pos.lastSol = tb := rfl
    have hsols : s3.rd R.POS_SOLS = s.rd R.POS_SOLS + 1#32 := by
      have h2 : s2.rd R.POS_SOLS = s1.rd R.POS_SOLS + 1#32 := by
        simp only [s2]
        rw [State.wfSet_rd, if_neg (by decide), State.inc_rd, if_pos rfl]
      have h1 : s1.rd R.POS_SOLS = s.rd R.POS_SOLS := (State.setPos_rd ..).trans (State.begun_rd ..)
      exact (State.setPos_rd ..).trans (h2.trans (by rw [h1]))
    clear_value s3
    have h4 : s4.pos.lastSol = tb ∧ s4.rd R.POS_SOLS = s.rd R.POS_SOLS + 1#32 := by
      obtain ⟨d, hqual⟩ := (s3.posFilter x).posQual_pos q h.1
      refine ⟨(congrArg Pos.lastSol hqual).trans ((State.posFilter_lastSol ..).trans h3), ?_⟩
      rw [State.posQual_sols, State.posFilter_sols, hsols]
    have h5 : s5.pos.lastSol = tb ∧ s5.rd R.POS_SOLS = s.rd R.POS_SOLS + 1#32 := by
      simp only [s5]
      split
      · exact h4
      · exact h4
    obtain ⟨htime, hcount⟩ := h5
    clear_value s5
    rw [State.posAid_pos, State.posTime_lastSol, State.posAid_sols, State.posTime_sols, hcount]
    exact ⟨htime, rfl⟩
  case posCorrAgeExpiry =>
    intro s hon hq hage
    have hgo : (s.begun.posOn && decide (3 ≤ s.begun.pos.quality) &&
        !s.begun.posCorrOk (s.begun.trn.lastEpoch / s.begun.posPeriod * s.begun.posPeriod)) = true := by simp [hon, hq, hage]
    change ∃ t, execPosCorrAgeExpiry s = .next t ∧ _
    refine State.runIn_complete ?_
    rw [if_pos hgo, Foot.finish_pos, if_pos (by decide)]
    obtain ⟨d, hqual⟩ := (s.begun.setPos (fun p => { p with corrUse := false })).posQual_pos 2 s.begun.pos.hq
    rw [hqual]
    exact ⟨rfl, rfl⟩
  case posInertialSample =>
    intro x s hon
    change ∃ t, execPosInertialSample x s = .next t ∧ _
    refine State.runIn_complete ?_
    rw [if_neg (by simp [hon])]
    extract_lets s1 s2 o c
    have h2 : s2.pos.est = x ∧ s2.pos.tbSol = s.clk.tb ∧ s2.pos.samples = s.pos.samples + 1 := by
      simp only [s2]
      split
      · obtain ⟨d, hqual⟩ := s1.posQual_pos 1 (if s1.pos.heading then 1 else 0)
        rw [hqual]
        exact ⟨rfl, rfl, rfl⟩
      · exact ⟨rfl, rfl, rfl⟩
    clear_value s2
    rw [Foot.finish_pos, if_pos (by decide)]
    split
    · exact h2
    · exact h2
  case posDrExpiry =>
    intro s hposOn hpos htbPast
    change execPosDrExpiry s = _
    refine State.runIn_next ?_
    simp [hposOn, hpos, htbPast]
  case posOutput =>
    intro s hon hdue htick hphase hempty
    have hgo : ¬ (!s.begun.posOn || decide (s.begun.clk.tickCount / 200 ≤ s.begun.pos.outAt) ||
        !(s.begun.clk.tickCount % 200 != 0 || decide (10000 ≤ s.begun.clk.phase)) || !s.begun.clk.due.isEmpty) = true := by
      simp [hon, Nat.not_le.2 hdue, htick, hphase, hempty]
    change ∃ t, execPosOutput s = .next t ∧ _
    refine State.runIn_complete ?_
    rw [if_neg hgo]
    extract_lets s0 e q ok hd tv ms oLat oLon org s1 s2 s3 s4 s5 s6 s7 s8 s9 s10 s11 s12
    rw [Foot.finish_pos, if_pos (by decide), Foot.finish_sig _ _ _ (by decide)]
    have hq : s2.sig 0x84 = word q := by
      simp only [s2]
      rw [State.posSig_ne _ (by decide) (by decide), State.posSig_same _ (by decide)]
      exact iword_natCast q
    have hpos : s2.pos = s0.pos := by simp only [s2, s1, State.posSig_pos]
    have hkept : s12.pos = s2.pos ∧ s12.sig 0x84 = s2.sig 0x84 := by
      simp only [s12, s11, s10, s9, s8, s7, s6, s5, s4, s3, State.posSig_pos]
      clear_value s2
      iterate 20 rw [State.posSig_ne _ (by decide) (by decide)]
      exact ⟨trivial, rfl⟩
    obtain ⟨hp, hs⟩ := hkept
    clear_value s12
    rw [State.posSig_pos, State.posSig_ne _ (by decide) (by decide), hp, hpos, hs, hq]
    exact ⟨rfl, rfl⟩
  case posDiscipline =>
    intro s hon hpast hctrl hcfg hq hvalid
    have hgo : ¬ (!s.begun.posOn || !s.begun.tbPast s.begun.pos.discAt 50000000) = true := by simp [hon, hpast]
    change execPosDiscipline s = _
    refine State.runIn_next ?_
    rw [if_neg hgo]
    have hyes : ((s.begun.setPos fun p => { p with discAt := s.begun.clk.tb }).bt R.POS_CTRL 0 &&
        decide ((s.begun.setPos fun p => { p with discAt := s.begun.clk.tb }).fd R.ETH_TIME_CFG 1 0 = 1) &&
        decide (2 ≤ (s.begun.setPos fun p => { p with discAt := s.begun.clk.tb }).pos.quality) &&
        (s.begun.setPos fun p => { p with discAt := s.begun.clk.tb }).timeValid) = true := by
      change (s.bt R.POS_CTRL 0 && decide (s.fd R.ETH_TIME_CFG 1 0 = 1) && decide (2 ≤ s.pos.quality) && s.timeValid) = true
      simp [hctrl, hcfg, hq, hvalid]
    dsimp only
    rw [if_pos hyes]
    rfl
  case posPps =>
    intro s hon hvalid hdue hmode hq
    have hgo : ¬ (!s.begun.posOn || !s.begun.timeValid ||
        decide (s.begun.gpsAt s.begun.clk.tb / 1000000000 ≤ s.begun.pos.ppsSec)) = true := by
      simp [hon, hvalid, Nat.not_le.2 hdue]
    change ∃ t, execPosPps s = .next t ∧ _
    refine State.runIn_complete ?_
    rw [if_neg hgo]
    extract_lets s1 good s2
    have hyes : (decide (s.begun.fd R.POS_CTRL 2 1 = 2) || (decide (s.begun.fd R.POS_CTRL 2 1 = 1) && good)) = true := by
      simp [hmode, good, s1, hq]
    rw [if_pos hyes, Foot.finish_pos, if_pos (by decide)]
    exact ⟨rfl, rfl, rfl⟩
  case posPpsEnd =>
    intro t0 s hpos htbPast
    change ∃ t, execPosPpsEnd s = .next t ∧ _
    refine State.runIn_complete ?_
    simp only [State.begun_pos, hpos, State.begun_tbPast, State.begun_fd, htbPast, if_true]
    have hlow : s.begun.ppsLow = { s.begun.setPos (fun p => { p with ppsAt := none }) with out := [.bytes .pps 0 []] } := by
      unfold State.ppsLow
      simp only [State.begun_pos, hpos]
      rfl
    rw [hlow]
    exact ⟨rfl, rfl⟩
  case posRtcmFrame =>
    intro src p s hposOn hnbit
    change execPosRtcmFrame src p s = _
    refine State.runIn_next ?_
    simp [hposOn, hnbit]
  case sentryBurst =>
    intro hits s hon hmode hnext
    have hgo : ¬ (!(s.begun.pos.sentry.on && s.begun.pos.sentry.mode == 1 && decide (s.begun.pos.sentry.next ≤ s.begun.aonCount))) = true := by
      simp [hon, hmode, hnext]
    change ∃ t, execSentryBurst hits s = .next t ∧ _
    refine State.runIn_complete ?_
    extract_lets y t cfg hit found good chs notest dt moves moving still chs' s1 s2
    rw [if_neg hgo, Foot.finish_pos, if_pos (by decide)]
    have hquiet : hits = [] → moving = s.pos.sentry.moving := by
      rintro rfl
      have hfound : found = [] := by simp [found, hit]
      simp [moving, notest, good, hfound, y]
    have h2 : s2.pos.sentry.next = s.pos.sentry.next + 32768 ∧ s2.pos.sentry.bursts = s.pos.sentry.bursts + 1 ∧
        s2.pos.sentry.moving = moving := by
      simp only [s2]
      split
      · obtain ⟨l, hl⟩ := s1.sentryStore_sentry (.set t notest (found.map (fun x => x.2)))
        rw [hl]
        exact ⟨rfl, rfl, rfl⟩
      · exact ⟨rfl, rfl, rfl⟩
    obtain ⟨hnext', hbursts, hmoving⟩ := h2
    clear_value s2 moving
    split
    · obtain ⟨w, hw⟩ := s2.sentryEvent_sentry 1
      rw [hw]
      exact ⟨hnext', hbursts, fun h => hmoving.trans (hquiet h)⟩
    · exact ⟨hnext', hbursts, fun h => hmoving.trans (hquiet h)⟩
  case sentrySnapshot =>
    intro p s hon hmode hnext
    have hgo : ¬ (!(s.begun.pos.sentry.on && s.begun.pos.sentry.mode == 2 && decide (s.begun.pos.sentry.next ≤ s.begun.aonCount))) = true := by
      simp [hon, hmode, hnext]
    change ∃ t, execSentrySnapshot p s = .next t ∧ _
    refine State.runIn_complete ?_
    extract_lets y t s1 s2
    rw [if_neg hgo, Foot.finish_pos, if_pos (by decide)]
    have h2 : s2.pos.sentry.snaps = s.pos.sentry.snaps + 1 ∧
        s2.pos.sentry.next = s.pos.sentry.next + 32768 * clampN 60 86400 (s.fd R.POS_SENTRY_INT 16 0) := by
      obtain ⟨l, hl⟩ := s1.sentryStore_sentry (.snap t y.snaps (padTo 16368 p))
      simp only [s2, hl]
      exact ⟨rfl, rfl⟩
    clear_value s2
    split
    · obtain ⟨w, hw⟩ := s2.sentryEvent_sentry 2
      rw [hw]
      exact h2
    · exact h2
  case posRtcm =>
    intro c k s h hmin hmax hon hsrc
    refine State.command_answersOK (u := ((s.entered fPOS 0x10 k c).posBytes k c.payload).2.2) h ?_ ⟨rfl, rfl⟩
    have hlen : ¬ (decide (c.payload.length = 0) || decide (4096 < c.payload.length)) = true := by
      simp only [Bool.or_eq_true, decide_eq_true_eq]
      omega
    have hgo : ¬ (!((s.entered fPOS 0x10 k c).posOn && nbit (s.entered fPOS 0x10 k c).pos.src 2)) = true := by simp [hon, hsrc]
    dsimp only
    rw [if_neg hlen, if_neg hgo]
    rfl
  case posRtcmSrc =>
    intro c k s h hlen hu8 hu8'
    refine State.command_answersOK h ?_ ⟨rfl, rfl⟩
    simp [hlen, Nat.not_lt.2 hu8, Nat.not_lt.2 hu8', okWith]
  case posOrigin =>
    intro c k s h hlen hq hx
    have hhere : ¬ (decide (u32 c.payload 0 = 0) && decide (u32 c.payload 4 = 0)) = true := by simp; omega
    refine State.command_answersOK h ?_ ⟨rfl, rfl⟩
    dsimp only
    rw [if_neg (by simp [hlen]), if_neg (by simpa using hq), if_neg hhere, if_neg hhere]
    rfl
  case posOrigin' =>
    intro c k s h hlen hpos hu32 hu32'
    refine State.command_answersOK h ?_ ⟨rfl, rfl⟩
    simp [hlen, hpos, hu32, hu32', okWith]
  case posSentrySet =>
    intro c k s h hlen hu8 hu8' hu8'' hu8''' hu8'''' hu16 hu16' hu32 hu32'
    refine State.command_answersOK h ?_ ⟨rfl, rfl⟩
    simp [hlen, Nat.not_lt.2 hu8, Nat.not_lt.2 hu8', Nat.not_lt.2 hu8'', Nat.not_lt.2 hu8''', Nat.not_lt.2 hu8'''',
      Nat.not_lt.2 hu16, Nat.not_lt.2 hu16', Nat.not_lt.2 hu32, Nat.not_lt.2 hu32', okWith]
  case posSentryRead =>
    intro c k n s h hlen hmin hmax hfree hfits
    obtain ⟨u, hu⟩ := State.openRing_ok (s := s.entered fPOS 0x14 k c) k fPOS 1 0 true
      (slots48 (s.sentryBytes.length / 48 + 1) s.sentryBytes) hmin hmax (by simpa) (by simpa)
    refine State.command_answersOK (u := u) h ?_ ⟨rfl, hu⟩
    dsimp only
    rw [if_neg (by simp [hlen])]
    exact congrArg (ringReply _) hu
  case posSnapSolve =>
    intro c k s h hlen
    refine h.runsOn_classC (v := s.entered fPOS 0x15 k c) (p := s.pos.sentry.units.flatMap (snapEntry s.clk.tb)) ?_ (by simp) rfl
    simp [hlen]
    rfl
  case posSentryClear =>
    intro c k s h hlen
    refine State.command_answersOK h ?_ ⟨rfl, rfl⟩
    simp [hlen, okWith]

end Sys2Proof.Machine
end

section
/-!
PROOF. Chapter 12: Transit's events, refuted for a state that no run reaches: the interrupt bit of a data ring beyond the 128 of the
mailbox lies in the count of the epochs.
-/
namespace Sys2Proof.Machine

/-- A data ring whose interrupt bit would be bit 1 of `TRN_EPOCHS`. -/
def epochRing : Nat := 32 * ((R.TRN_EPOCHS - R.MBX_IRQ_PEND 0) / 4) + 1

/-- A state in which Transit runs, an epoch is due and one data ring takes its time records, of a number the mailbox does not
have. -/
def epochState : State :=
  { State.reset with
    regs := [(R.MBX_Q_CFG epochRing, 0x8000#32)],
    clk := { State.reset.clk with tb := 50000000 },
    mbx := { State.reset.mbx with
      rings := [{ ring := epochRing, fn := fTRN, kind := 0, param := 4, session := 0, log2 := 4, transfer := false, ended := false,
                  waiting := [], sent := 0, skipped := 0, lost := 0 }] },
    trn := { State.reset.trn with run := true } }

/-- The first epoch leaves 3 in the count: the record of its time sets bit 1 as the ring's interrupt bit. -/
theorem epochState_count : readAfter (exec (.trnEpoch []) epochState) R.TRN_EPOCHS = some 3#32 := by decide +kernel

/-- Refutes O23: the clause of an epoch binds no ring, and a ring of number `epochRing` has its interrupt bit in `TRN_EPOCHS`, which
then holds 3 and not 1. -/
theorem not_transitComplete : ¬ Obligations.TransitComplete := by
  unfold Obligations.TransitComplete
  rintro ⟨-, -, -, -, -, -, -, -, -, -, -, -, -, hepoch, -⟩
  obtain ⟨t, hstep, -, -, hcount⟩ := hepoch [] epochState rfl (by decide)
  have hread := epochState_count
  rw [hstep] at hread
  have hthree : t.rd R.TRN_EPOCHS = 3#32 := Option.some.inj hread
  rw [hcount] at hthree
  exact absurd hthree (by decide)

end Sys2Proof.Machine
end

section
/-!
PROOF. Chapter 18: the events of CAN and LIN, refuted for a state that no run reaches: the interrupt bit of a data ring beyond the
128 of the mailbox lies in the count of the frames that controller 0 received.
-/
namespace Sys2Proof.Machine

/-- A data ring whose interrupt bit would be bit 1 of `CAN_RX_FRAMES` of controller 0. -/
def frameRing : Nat := 32 * ((R.CAN_RX_FRAMES 0 - R.MBX_IRQ_PEND 0) / 4) + 1

/-- A state in which controller 0 is error active and passes on the frames that no object takes, to one data ring of a number the
mailbox does not have. -/
def frameState : State :=
  { State.reset with
    regs := [(R.MBX_Q_CFG frameRing, 0x8000#32), (R.CAN_CTRL 0, 0x40000#32), (R.CAN_STATUS 0, 1#32)],
    mbx := { State.reset.mbx with
      rings := [{ ring := frameRing, fn := fCAN, kind := 0, param := 0, session := 0, log2 := 4, transfer := false, ended := false,
                  waiting := [], sent := 0, skipped := 0, lost := 0 }] } }

/-- A classic frame of eight bytes. -/
def frameZero : CanRx :=
  { ident := 0, xtd := false, fdf := false, brs := false, esi := false, sof := 0, data := List.replicate 8 0#8 }

/-- The first frame leaves 3 in the count: its place in the ring sets bit 1 as the ring's interrupt bit. -/
theorem frameState_count : readAfter (exec (.canFrameRx 0 frameZero) frameState) (R.CAN_RX_FRAMES 0) = some 3#32 := by
  decide +kernel

/-- Refutes O30: the clause of a received frame binds no ring, and a ring of number `frameRing` has its interrupt bit in
`CAN_RX_FRAMES`, which then holds 3 and not 1. -/
theorem not_canEventsComplete : ¬ Obligations.CanEventsComplete := by
  unfold Obligations.CanEventsComplete
  rintro ⟨-, -, -, -, -, -, -, hframe, -⟩
  obtain ⟨t, hstep, hcount⟩ := hframe 0 frameZero frameState (by decide) (by decide) rfl
  have hread := frameState_count
  rw [hstep] at hread
  have hthree : t.rd (R.CAN_RX_FRAMES 0) = 3#32 := Option.some.inj hread
  rw [hcount] at hthree
  exact absurd hthree (by decide)

end Sys2Proof.Machine
end

section
/-!
PROOF. Chapter 19: the events of the Ethernet switch, its time and the serial ports, refuted for a state that no run reaches: the
interrupt bit of a data ring beyond the 128 of the mailbox lies in the count of the frames of serial port 0.
-/
namespace Sys2Proof.Machine

/-- A data ring whose interrupt bit would be bit 1 of `ETH_SER_FRAMES` of port 0. -/
def serialRing : Nat := 32 * ((R.ETH_SER_FRAMES 0 - R.MBX_IRQ_PEND 0) / 4) + 1

/-- A state in which serial port 0 listens and passes its frames on to one data ring of a number the mailbox does not have. -/
def serialState : State :=
  { State.reset with
    regs := [(R.MBX_Q_CFG serialRing, 0x8000#32), (R.ETH_SER_CFG 0, 1#32)],
    mbx := { State.reset.mbx with
      rings := [{ ring := serialRing, fn := fETH, kind := 0, param := 0, session := 0, log2 := 4, transfer := false, ended := false,
                  waiting := [], sent := 0, skipped := 0, lost := 0 }] } }

/-- A frame of one byte. -/
def serialByte : SerRx := { stamp := 0, data := [0#8], bad := false }

/-- The first frame leaves 3 in the count: its place in the ring sets bit 1 as the ring's interrupt bit. -/
theorem serialState_count : readAfter (exec (.serFrameEnd 0 serialByte) serialState) (R.ETH_SER_FRAMES 0) = some 3#32 := by
  decide +kernel

/-- Refutes O32: the clause of a serial frame binds no ring, and a ring of number `serialRing` has its interrupt bit in
`ETH_SER_FRAMES`, which then holds 3 and not 1. -/
theorem not_ethernetEventsComplete : ¬ Obligations.EthernetEventsComplete := by
  unfold Obligations.EthernetEventsComplete
  rintro ⟨-, -, -, -, -, -, -, -, -, -, -, -, hserial, -⟩
  obtain ⟨t, hstep, hcount⟩ := hserial 0 serialByte serialState (by decide) (by decide) (by decide) (by decide)
  have hread := serialState_count
  rw [hstep] at hread
  have hthree : t.rd (R.ETH_SER_FRAMES 0) = 3#32 := Option.some.inj hread
  rw [hcount] at hthree
  exact absurd hthree (by decide)

end Sys2Proof.Machine
end

section
/-!
PROOF. Chapter 20: the redundant pair's events and mailbox commands complete.
-/
namespace Sys2Proof.Machine

/-- The note of the paths keeps the latest copy. -/
theorem State.pairPath_copy (s : State) : s.pairPath.pair.copy = s.pair.copy := by
  unfold State.pairPath
  dsimp only
  split
  · rfl
  · simp only [State.setPair_pair, State.notify_pair]

theorem State.pairPath_rd (s : State) {a : Nat} (h : Foot.shared.holds a = false) : s.pairPath.rd a = s.rd a := by
  unfold State.pairPath
  dsimp only
  split
  · rfl
  · rw [State.setPair_rd, State.notify_rd _ _ _ _ h]

/-- Settles O34: a copy is kept through the note of the paths; the other clauses follow their own command. -/
theorem pairComplete : Obligations.PairComplete := by
  unfold Obligations.PairComplete
  refine ⟨?pairBeaconRx, ?pairCanBeacon, ?pairLeaseExpiry, ?pairGuardEnd, ?pairAliveChange, ?pairPeerDeadEnd,
    ?pairPartitionTimeout, ?pairSoloTimeout, ?pairLinkChange, ?pairCopyRx, ?pairCopyRx', ?pairGateConfirm,
    ?pairRevertHoldExpiry, ?pairSwap, ?pairRevert⟩
  case pairBeaconRx =>
    intro can p ack s
    change execPairBeaconRx can p ack s = _
    refine State.runIn_next ?_
    simp
  case pairCanBeacon =>
    intro s hpair hpair' hpair''
    change execPairCanBeacon s = _
    refine State.runIn_next ?_
    simp [hpair, hpair', hpair'']
  case pairLeaseExpiry =>
    intro l s hpair hl
    change execPairLeaseExpiry s = _
    refine State.runIn_next ?_
    simp [hpair, Nat.not_lt.2 hl]
  case pairGuardEnd =>
    intro s hfree
    change ∃ t, execPairGuardEnd s = .next t ∧ _
    refine State.runIn_complete ?_
    rw [if_pos (by simpa using hfree), Foot.finish_pair, if_pos (by decide)]
    rfl
  case pairAliveChange =>
    intro mv since st s hst hnew hpast
    have hgo : ¬ (decide (st = s.begun.fd R.PAIR_STATUS 8 7) || !s.begun.tbPast since (tbMs 1)) = true := by simp [hnew, hpast]
    change execPairAliveChange mv since s = _
    refine State.runIn_next ?_
    rw [hst]
    dsimp only
    rw [if_neg hgo]
    rfl
  case pairPeerDeadEnd =>
    intro t0 s hleft hdue
    change ∃ t, execPairPeerDeadEnd s = .next t ∧ _
    refine State.runIn_complete ?_
    have hlate : ¬ s.begun.clk.tb < t0 + tbMs 20 := Nat.not_lt.2 hdue
    simp only [State.begun_pair, hleft]
    rw [if_neg hlate, Foot.finish_pair, if_pos (by decide)]
    rfl
  case pairPartitionTimeout =>
    intro s hpair htbPast
    change execPairPartitionTimeout s = _
    refine State.runIn_next ?_
    simp [hpair, htbPast, -List.getD_eq_getElem?_getD]
  case pairSoloTimeout =>
    intro t0 s hpair htbPast
    change execPairSoloTimeout s = _
    refine State.runIn_next ?_
    simp [hpair, htbPast]
  case pairLinkChange =>
    intro s hpairLink
    change execPairLinkChange false s = _
    refine State.runIn_next ?_
    simp [hpairLink]
  case pairCopyRx =>
    intro x s hen hacting hlink hok
    have hgo : ¬ (!s.begun.pair.en || s.begun.pair.acting || !s.begun.pairLink) = true := by simp [hen, hacting, hlink]
    change ∃ t, execPairCopyRx x s = .next t ∧ _
    refine State.runIn_complete ?_
    extract_lets last s1 ds base from_ r s2 s3 s4
    rw [if_neg hgo, if_neg (by simp [hok]), Foot.finish_pair, if_pos (by decide),
      Foot.finish_rd_win Win.pair s _ (by decide) (by decide) (by decide),
      Foot.finish_rd_win Win.pair s _ (by decide) (by decide) (by decide), State.pairPath_copy, State.pairPath_rd _ (by decide),
      State.pairPath_rd _ (by decide), State.wb_rd, if_neg (by decide), State.wb_rd, if_neg (by decide)]
    have hseq : s4.rd R.PAIR_COPY_SEQ = word x.cycle := by
      simp only [s4, s3]
      rw [State.wr_rd_ne _ _ (by decide), State.wr_rd_ne _ _ (by decide), State.wr_rd_same]
    have hage : s4.rd R.PAIR_COPY_AGE = 0#32 := by
      simp only [s4, s3]
      rw [State.wr_rd_ne _ _ (by decide), State.wr_rd_same]
    exact ⟨rfl, hseq, hage⟩
  case pairCopyRx' =>
    intro x s hpair hpair' hpairLink hx
    change execPairCopyRx x s = _
    refine State.runIn_next ?_
    simp [hpair, hpair', hpairLink, hx]
  case pairGateConfirm =>
    intro t0 s hpair hpair' hpair''
    change execPairGateConfirm true s = _
    refine State.runIn_next ?_
    simp [hpair, hpair', hpair'']
  case pairRevertHoldExpiry =>
    intro t0 s hpair hpair' hpair'' hstatus hcfg htbPast
    change execPairRevertHoldExpiry s = _
    refine State.runIn_next ?_
    simp [hpair, hpair', hpair'', hstatus, hcfg, htbPast]
  case pairSwap =>
    intro c k l s h hlen hpair hpair' hclk hpairLink hstatus hpair''
    change execPairSwap c s = _
    refine h.runIn_later ?_
    simp [hlen, hpair, hpair', hclk, hpairLink, hstatus, hpair'']
  case pairRevert =>
    intro c k s h hlen hmax
    refine State.command_answersOK h ?_ ⟨rfl, rfl⟩
    rw [if_neg (by simp [hlen]), if_neg (Nat.not_lt.2 hmax)]
    split
    · rfl
    · rfl

end Sys2Proof.Machine
end

section
/-!
PROOF. Chapter 21: the fleet domain's events and mailbox commands complete.
-/
namespace Sys2Proof.Machine

/-! ## What sending, reports and snapshots keep -/

theorem State.fltSend_flt (s : State) (d : FltPeer) (m : FltMsg) : (s.fltSend d m).flt = s.flt := by
  unfold State.fltSend
  split <;> rfl

theorem State.fltSend_fns (s : State) (d : FltPeer) (m : FltMsg) : (s.fltSend d m).fns = s.fns := by
  unfold State.fltSend
  split <;> rfl

theorem State.fltUp_flt (s : State) (m : FltMsg) : (s.fltUp m).flt = s.flt := by
  unfold State.fltUp
  split
  · exact State.fltSend_flt ..
  · rfl

theorem State.fltUp_fns (s : State) (m : FltMsg) : (s.fltUp m).fns = s.fns := by
  unfold State.fltUp
  split
  · exact State.fltSend_fns ..
  · rfl

theorem State.fltDown_flt (s : State) (d : FltPeer) (m : FltMsg) : (s.fltDown d m).flt = s.flt :=
  foldl_keeps State.flt (fun t k => State.fltSend_flt ..) _ _

/-! ### A notification and a snapshot leave the functions' states and the recorder alone -/

/-- The functions' states and the recorder, as one value. -/
def State.fnsRec (s : State) : List Fn × Recorder := (s.fns, s.almanac)

theorem State.raiseIrq_fnsRec (s : State) : s.raiseIrq.fnsRec = s.fnsRec := by
  unfold State.raiseIrq
  dsimp only
  split
  · rfl
  · split <;> rfl

theorem State.advanceProd_fnsRec (s : State) (n : Nat) : (s.advanceProd n).fnsRec = s.fnsRec := by
  unfold State.advanceProd
  dsimp only
  split
  · exact State.raiseIrq_fnsRec _
  · rfl

theorem State.sendSlot_fnsRec (s : State) (k n : Nat) (x : Slot) : (s.sendSlot k n x).fnsRec = s.fnsRec := by
  unfold State.sendSlot
  split
  · rfl
  · unfold State.publish State.publishBytes
    dsimp only
    rw [State.advanceProd_fnsRec]
    split <;> rfl

theorem State.notifySes_fnsRec (s : State) (k cls : Nat) (content : List Byte) : (s.notifySes k cls content).fnsRec = s.fnsRec := by
  unfold State.notifySes
  extract_lets x held
  split
  · rfl
  · split
    · exact State.sendSlot_fnsRec ..
    · split <;> rfl

theorem State.notify_fnsRec (s : State) (f code : Nat) (p : List Byte) : (s.notify f code p).fnsRec = s.fnsRec := by
  refine foldl_keeps State.fnsRec (fun t k => ?_) _ _
  dsimp only
  split
  · exact State.notifySes_fnsRec ..
  · rfl

theorem State.fns_of_fnsRec {s t : State} (h : t.fnsRec = s.fnsRec) : t.fns = s.fns := congrArg Prod.fst h

theorem State.almanac_of_fnsRec {s t : State} (h : t.fnsRec = s.fnsRec) : t.almanac = s.almanac := congrArg Prod.snd h

theorem State.notify_fns (s : State) (f code : Nat) (p : List Byte) : (s.notify f code p).fns = s.fns :=
  State.fns_of_fnsRec (s.notify_fnsRec f code p)

theorem State.notify_almanac (s : State) (f code : Nat) (p : List Byte) : (s.notify f code p).almanac = s.almanac :=
  State.almanac_of_fnsRec (s.notify_fnsRec f code p)

/-- What the operations of the fleet leave alone: the functions' states, the parent's state, the level and the latest number. -/
def State.fltBase (s : State) : List Fn × Nat × Nat := (s.fns, s.flt.st, s.flt.lastOp)

theorem State.setYpl_fltBase (s : State) (f : Ypl → Ypl) : (s.setYpl f).fltBase = s.fltBase := rfl

theorem State.fltReport_base (s : State) (o : FltOp) (n : Nat) : (s.fltReport o n).fltBase = s.fltBase := by
  unfold State.fltBase State.fltReport State.fltOpNote
  simp only [State.notify_fns, State.notify_flt, State.fltUp_flt, State.fltUp_fns, State.setFlt_fns, State.setFlt_flt]

theorem State.fltReportNow_epoch (s : State) (o : FltOp) : (s.fltReportNow o).flt.epoch = s.flt.epoch := by
  unfold State.fltReportNow State.fltReport State.fltOpNote
  simp only [State.notify_flt, State.fltUp_flt, State.setFlt_flt]

theorem State.fltSettle_base (s : State) : s.fltSettle.fltBase = s.fltBase :=
  foldl_keeps State.fltBase (fun t o => State.fltReport_base ..) _ _

theorem State.fltOwn_base (s : State) (want : FltOp → Bool) (recs : List (List Byte)) : (s.fltOwn want recs).fltBase = s.fltBase :=
  State.fltSettle_base _

/-- A snapshot writes registers and its own mark alone. -/
theorem State.globalSnap_base (s : State) (ini : Initiator) : (s.globalSnap ini).fltBase = s.fltBase := by
  have hpairs (l : List (Nat × Nat × Nat × Nat × Nat)) (t : State) : (l.foldl (fun (t : State) p =>
      (List.range p.2.2.2.2).foldl (fun (t : State) i => t.wr (p.1 + p.2.1 * i) (t.rd (p.2.2.1 + p.2.2.2.1 * i))) t) t).fltBase =
        t.fltBase :=
    foldl_keeps State.fltBase (fun t (p : Nat × Nat × Nat × Nat × Nat) => foldl_keeps State.fltBase (fun u i =>
      (rfl : (u.wr (p.1 + p.2.1 * i) (u.rd (p.2.2.1 + p.2.2.2.1 * i))).fltBase = u.fltBase)) _ _) _ _
  unfold State.globalSnap
  split
  · rfl
  · unfold State.snapAll
    generalize snapPairs = l
    exact hpairs l s

theorem State.fltEnter_base (s : State) (e : Nat) : (s.fltEnter e).fltBase = s.fltBase := by
  unfold State.fltEnter
  dsimp only
  split
  · exact (State.fltOwn_base ..).trans (State.globalSnap_base (s.setFlt fun f => { f with epoch := e }) .dome)
  · split <;> rfl

theorem State.fltBegin_base (s : State) (kind tag : Nat) (op : FltOpHdr) : (s.fltBegin kind tag op).fltBase = s.fltBase := by
  unfold State.fltBase State.fltBegin State.fltOpNote
  simp only [State.notify_fns, State.notify_flt, State.setFlt_fns, State.setFlt_flt]

/-- A new operation of the parent's leaves its number as the latest one where its work keeps it. -/
theorem State.fltOp_lastOp {s : State} {h : FltHdr} {num : Nat} (m : FltMsg) {body : State → State} (hpeer : h.peer = .parent)
    (hnew : s.flt.lastOp < num) (hbody : ∀ t, (body t).fltBase = t.fltBase) : (s.fltOp h num m body).flt.lastOp = num := by
  have hgo : ¬ (decide (num ≤ s.flt.lastOp) || h.peer != .parent) = true := by simp [hpeer, hnew]
  unfold State.fltOp
  rw [if_neg hgo]
  refine (congrArg (·.2.2) (hbody _) : _).trans ?_
  change ((s.setFlt fun f => { f with lastOp := num }).fltDown .parent m).flt.lastOp = num
  rw [State.fltDown_flt]
  rfl

/-- A message of the parent's, of no earlier epoch, is worked on in a state with the same latest number. -/
theorem State.fltRx_lastOp {s : State} {h : FltHdr} {body : State → State} {n : Nat} (hrun : s.isRunning fFLT = true)
    (hst : s.flt.st = 2) (hpeer : h.peer = .parent) (hepoch : s.flt.epoch ≤ h.epoch)
    (hbody : ∀ u : State, u.flt.lastOp = s.flt.lastOp → (body u).flt.lastOp = n) : (s.fltRx h body).flt.lastOp = n := by
  have hgo : ¬ (!(s.isRunning fFLT && s.fltFrom h.peer)) = true := by simp [hrun, hpeer, State.fltFrom, hst]
  unfold State.fltRx
  rw [if_neg hgo]
  extract_lets t
  have ht : t = s.setFlt (fun f => { f with heard := s.clk.tb }) := if_pos hpeer
  have hnow : ¬ h.epoch < t.flt.epoch := by
    rw [ht]
    exact Nat.not_lt.2 hepoch
  have hlast : t.flt.lastOp = s.flt.lastOp := by rw [ht]; rfl
  rw [if_neg hnow]
  refine hbody _ ?_
  split
  · exact (congrArg (·.2.2) (State.fltEnter_base t h.epoch) : _).trans hlast
  · exact hlast

/-! ## Frames sent -/

theorem State.fltSend_out {s : State} (h : s.pairHeld = false) (d : FltPeer) (m : FltMsg) :
    s.fltSend d m = { s with out := s.out ++ [OutMsg.fleet d s.fltUnit s.flt.epoch m] } := by
  unfold State.fltSend
  rw [h]
  rfl

/-- An attached module sends up to its parent. -/
theorem State.fltUp_attached {s : State} (h : s.fltAttached = true) (m : FltMsg) :
    s.fltUp m = { s with out := s.out ++ [OutMsg.fleet .parent s.fltUnit s.flt.epoch m] } := by
  unfold State.fltAttached at h
  simp only [Bool.and_eq_true, beq_iff_eq, Bool.not_eq_true'] at h
  obtain ⟨⟨-, hst⟩, hheld⟩ := h
  rw [State.fltUp, if_pos hst, State.fltSend_out hheld]

/-- Where the pair holds nothing back each child is sent the message. -/
theorem State.fltDown_out {s : State} (h : s.pairHeld = false) (m : FltMsg) :
    s.fltDown .parent m =
      { s with out := s.out ++ s.flt.kids.map (fun k => OutMsg.fleet (.child k.unit) s.fltUnit s.flt.epoch m) } := by
  have hall : s.flt.kids.filter (fun k => FltPeer.child k.unit != .parent) = s.flt.kids := by
    rw [List.filter_eq_self]
    intro k _
    rfl
  unfold State.fltDown
  rw [hall]
  have hsend (l : List FltChild) (t : State) (ht : t.pairHeld = false) :
      l.foldl (fun (t : State) k => t.fltSend (.child k.unit) m) t =
        { t with out := t.out ++ l.map (fun k => OutMsg.fleet (.child k.unit) t.fltUnit t.flt.epoch m) } := by
    induction l generalizing t with
    | nil => simp
    | cons k l ih =>
      rw [List.foldl_cons, State.fltSend_out ht]
      refine (ih { t with out := t.out ++ [OutMsg.fleet (.child k.unit) t.fltUnit t.flt.epoch m] } ht).trans ?_
      simp only [List.map_cons, List.append_assoc, List.singleton_append]
      rfl
  exact hsend _ s h

/-- A marker of the parent's leaves its number as the latest one (R476). -/
theorem exec_fltMarkerRx_lastOp {h : FltHdr} {op : FltOpHdr} (reset : Bool) {s : State} (hrun : s.isRunning fFLT = true)
    (hfrom : s.fltFrom h.peer = true) (hpeer : h.peer = .parent) (hepoch : s.flt.epoch ≤ h.epoch) (hnew : s.flt.lastOp < op.num) :
    ∃ t, exec (.fltMarkerRx h op reset) s = .next t ∧ t.flt.lastOp = op.num := by
  change ∃ t, execFltMarkerRx h op reset s = .next t ∧ _
  refine State.runIn_complete ?_
  extract_lets _ old s1
  have hbase : s1.fltBase = s.fltBase := by
    simp only [s1]
    split
    · exact foldl_keeps State.fltBase (fun t o => State.fltReport_base ..) _ _
    · rfl
  have hep : s1.flt.epoch = s.flt.epoch := by
    simp only [s1]
    split
    · exact foldl_keeps (fun t : State => t.flt.epoch) (fun t o => State.fltReportNow_epoch ..) _ _
    · rfl
  clear_value s1
  have hfns : s1.fns = s.fns := congrArg (·.1) hbase
  have hst : s1.flt.st = s.flt.st := congrArg (·.2.1) hbase
  have hlast : s1.flt.lastOp = s.flt.lastOp := congrArg (·.2.2) hbase
  have hparent : s.flt.st = 2 := by simpa [State.fltFrom, hpeer] using hfrom
  have hrun1 : s1.isRunning fFLT = true := by
    unfold State.isRunning State.fn
    rw [hfns]
    exact hrun
  rw [Foot.finish_flt, if_pos (by decide)]
  refine State.fltRx_lastOp hrun1 (hst.trans hparent) hpeer (hep ▸ hepoch) (fun u hu => ?_)
  refine State.fltOp_lastOp _ hpeer (by rw [hu, hlast]; exact hnew) (fun t => ?_)
  extract_lets s2 s3
  have h3 : s3.fltBase = t.fltBase := by
    have h2 : s2.fltBase = t.fltBase := State.fltBegin_base ..
    simp only [s3]
    split
    · exact (State.setYpl_fltBase ..).trans h2
    · exact h2
  clear_value s3
  split
  · split
    · exact (State.fltOwn_base ..).trans h3
    · split
      · exact h3
      · exact (State.fltEnter_base ..).trans h3
  · split
    · exact h3
    · exact (State.fltEnter_base ..).trans h3

/-- Settles O35: the number of the latest operation is kept by reports and snapshots; the other clauses follow their own command. -/
theorem fleetComplete : Obligations.FleetComplete := by
  unfold Obligations.FleetComplete
  refine ⟨?fltHandshake, ?fltHandshake', ?fltHandshake'', ?fltHandshakeRetry, ?fltParentLost, ?fltParentLost', ?fltKeyUpdate,
    ?fltKeyUpdate', ?fltHeartbeat, ?fltHeartbeat', ?fltHeartbeatRx, ?fltBroadcastRx, ?fltBarrierRx, ?fltBarrierRx',
    ?fltMarkerRx, ?fltReportRx, ?fltReportRx', ?fltReportDeadline, ?fltCoverageSend, ?fltCoverageSend', ?fltCoverageRx,
    ?fltCoverageRx', ?fltRtcmRx, ?fltRtcmRx', ?fltRdvSend, ?fltRdvSend', ?fltRdvRx, ?fltCaSet, ?fltArrive, ?fltRdvOpen,
    ?fltTileUpload, ?fltTileUpload', ?fltSentryUpload, ?fltSentryUpload'⟩
  case fltHandshake =>
    intro x s hrun hchild hok hflag hroom
    have hgo : ¬ (!s.begun.fltFlag 3 || decide (16 ≤ (s.begun.flt.kids.filter fun k => k.unit != x.unit).length)) = true := by
      simp only [State.begun_fltFlag, hflag, State.begun_flt]
      simp only [Bool.not_true, Bool.false_or]
      exact fun h => Nat.not_le.2 hroom (of_decide_eq_true h)
    change ∃ t, execFltHandshake x s = .next t ∧ _
    refine State.runIn_complete ?_
    rw [if_neg (by simp [hrun]), if_pos hchild, if_neg (by simp [hok]), if_neg hgo, Foot.finish_flt, if_pos (by decide)]
    rw [State.fltLink, State.notify_flt]
    rfl
  case fltHandshake' =>
    intro x s hrun hchild hok hlevel hst hretry
    have hgo : ¬ (!((s.begun.flt.st == 1 || s.begun.flt.st == 3) && s.begun.flt.retryAt.isNone)) = true := by
      rcases hst with h | h <;> simp [h, hretry]
    change execFltHandshake x s = _
    refine State.runIn_next ?_
    rw [if_neg (by simp [hrun]), if_neg (by simp [hchild]), if_neg hgo, if_neg (by simp [hok]), if_neg (Nat.not_le.2 hlevel)]
    rfl
  case fltHandshake'' =>
    intro x s hrun hchild hok hst hretry
    have hgo : ¬ (!((s.begun.flt.st == 1 || s.begun.flt.st == 3) && s.begun.flt.retryAt.isNone)) = true := by
      rcases hst with h | h <;> simp [h, hretry]
    change execFltHandshake x s = _
    refine State.runIn_next ?_
    rw [if_neg (by simp [hrun]), if_neg (by simp [hchild]), if_neg hgo, if_pos (by simp [hok])]
    rfl
  case fltHandshakeRetry =>
    intro t0 s hflt hisRunning htbReached
    change execFltHandshakeRetry s = _
    refine State.runIn_next ?_
    simp [hflt, hisRunning, htbReached]
  case fltParentLost =>
    intro s hisRunning hflt htbPast
    change execFltParentLost s = _
    refine State.runIn_next ?_
    simp [hisRunning, hflt, htbPast]
  case fltParentLost' =>
    intro j s hrun hst hpast hnext
    have hnext' : s.begun.fltNextEp (s.begun.flt.ep + 1) = some j := hnext
    change execFltParentLost s = _
    refine State.runIn_next ?_
    rw [if_pos (by simp [hrun, hst, hpast]), State.fltConnect, hnext']
  case fltKeyUpdate =>
    intro s hrun hst hpast hkids
    have hdue : (decide (s.begun.flt.st = 2) && s.begun.tbPast s.begun.flt.keyAt (tbMs 86400000)) = true := by simp [hst, hpast]
    change execFltKeyUpdate s = _
    refine State.runIn_next ?_
    rw [if_neg (by simp [hrun])]
    extract_lets day s1
    have h1 : s1 = (s.begun.fltSend .parent .keyUpdate).setFlt (fun f => { f with keyAt := s.clk.tb }) := if_pos hdue
    have hnone : s1.flt.kids = [] := by
      rw [h1, State.setFlt_flt, State.fltSend_flt]
      exact hkids
    rw [hnone, h1]
    rfl
  case fltKeyUpdate' =>
    intro k s hisRunning hflt hflt' htbPast
    change execFltKeyUpdate s = _
    refine State.runIn_next ?_
    simp [hisRunning, hflt, hflt', htbPast]
  case fltHeartbeat =>
    intro s hisRunning htbPast
    change execFltHeartbeat s = _
    refine State.runIn_next ?_
    simp [hisRunning, htbPast]
  case fltHeartbeat' =>
    intro s hrun hpast hheld
    have hgo : ¬ (!(s.begun.isRunning fFLT && s.begun.tbPast s.begun.flt.hbAt s.begun.fltHop)) = true := by simp [hrun, hpast]
    change execFltHeartbeat s = _
    refine State.runIn_next ?_
    rw [if_neg hgo]
    unfold State.fltUp
    split
    case isTrue hst =>
      rw [State.fltSend_out (by exact hheld), State.fltDown_out (by exact hheld), if_pos (show s.flt.st = 2 from hst)]
      simp only [List.append_assoc]
      rfl
    case isFalse hst =>
      rw [State.fltDown_out (by exact hheld), if_neg (show ¬ s.flt.st = 2 from hst), List.append_nil]
      rfl
  case fltHeartbeatRx =>
    intro h s
    change execFltHeartbeatRx h s = _
    refine State.runIn_next ?_
    simp
  case fltBroadcastRx =>
    intro h op s
    change execFltBroadcastRx h op s = _
    refine State.runIn_next ?_
    simp
  case fltBarrierRx =>
    intro h op tag s
    change execFltBarrierRx h op tag true s = _
    refine State.runIn_next ?_
    simp
  case fltBarrierRx' =>
    intro h op tag s
    change execFltBarrierRx h op tag false s = _
    refine State.runIn_next ?_
    simp
  case fltMarkerRx =>
    intro h op reset s hrun hfrom hpeer hepoch hnew
    exact exec_fltMarkerRx_lastOp reset hrun hfrom hpeer hepoch hnew
  case fltReportRx =>
    intro h r s hh
    change execFltReportRx h r s = _
    refine State.runIn_next ?_
    simp [hh]
  case fltReportRx' =>
    intro h r u s hh
    change execFltReportRx h r s = _
    refine State.runIn_next ?_
    simp [hh]
  case fltReportDeadline =>
    intro s
    change execFltReportDeadline s = _
    refine State.runIn_next ?_
    simp
  case fltCoverageSend =>
    intro s hrun hflag hpast hst
    change ∃ t, execFltCoverageSend s = .next t ∧ _
    refine State.runIn_complete ?_
    rw [if_neg (by simp [hrun, hflag, hpast])]
    dsimp only
    rw [if_pos (by simp [hst]), Foot.finish_flt, if_pos (by decide)]
    rfl
  case fltCoverageSend' =>
    intro s hrun hflag hpast hst hheld hfield hsame
    change execFltCoverageSend s = _
    refine State.runIn_next ?_
    rw [if_neg (by simp [hrun, hflag, hpast])]
    extract_lets s1 now old tiles
    have hgo : ¬ (s1.flt.st != 2 || s1.pairHeld || s1.ypl.field.isNone) = true := by
      change ¬ (s.flt.st != 2 || s.pairHeld || s.ypl.field.isNone) = true
      simpa [hst, hheld] using Option.isSome_iff_ne_none.1 hfield
    have hold : old = s.flt.covSent.2 := if_pos hsame
    rw [if_neg hgo]
    simp only [tiles, hold]
    rfl
  case fltCoverageRx =>
    intro h x s hh
    change execFltCoverageRx h x s = _
    refine State.runIn_next ?_
    simp [hh]
  case fltCoverageRx' =>
    intro h x s hh
    change execFltCoverageRx h x s = _
    refine State.runIn_next ?_
    simp [hh]
  case fltRtcmRx =>
    intro h p s hh
    change execFltRtcmRx h p s = _
    refine State.runIn_next ?_
    simp [hh]
  case fltRtcmRx' =>
    intro h p s hh
    change execFltRtcmRx h p s = _
    refine State.runIn_next ?_
    simp [hh]
  case fltRdvSend =>
    intro s hrun hflag hpast hg
    change ∃ t, execFltRdvSend s = .next t ∧ _
    refine State.runIn_complete ?_
    extract_lets per s1 g
    rw [if_neg (by simp [hrun, hflag, hpast, per]), if_pos (show g = 0 from hg), Foot.finish_flt, if_pos (by decide)]
    rfl
  case fltRdvSend' =>
    intro s hrun hflag hpast hg
    change execFltRdvSend s = _
    refine State.runIn_next ?_
    extract_lets per s1 g
    rw [if_neg (by simp [hrun, hflag, hpast, per]), if_neg (show ¬ g = 0 from hg)]
    rfl
  case fltRdvRx =>
    intro h g p s
    change execFltRdvRx h g p s = _
    refine State.runIn_next ?_
    simp
  case fltCaSet =>
    intro c k s h hmin hmax
    have hlen : ¬ (decide (c.payload.length = 0) || decide (1024 < c.payload.length)) = true := by
      simp only [Bool.or_eq_true, decide_eq_true_eq]
      omega
    constructor
    · intro hcert
      refine State.command_answersOK h ?_ ⟨rfl, rfl⟩
      dsimp only
      rw [if_neg hlen, if_neg (by simp [hcert])]
      rfl
    · intro hcert
      change execFltCaSet c s = _
      refine h.runIn_refuses ?_
      dsimp only
      rw [if_neg hlen, if_pos (by simp [hcert])]
  case fltArrive =>
    intro c k s h hlen hflt
    refine State.command_answersOK h ?_ ⟨rfl, rfl⟩
    simp [hlen, hflt, okWith]
  case fltRdvOpen =>
    intro c k n s h hlen hmin hmax hfree hfits
    obtain ⟨u, hu⟩ := State.openRing_ok (s := s.entered fFLT 0x12 k c) k fFLT 0 0 false [] hmin hmax (by simpa) (by simpa)
    refine State.command_answersOK (u := u) h ?_ ⟨rfl, hu⟩
    rw [if_neg (by simp [hlen])]
    exact congrArg (ringReply _) hu
  case fltTileUpload =>
    intro c k f s h hlen hfind hfield hfree
    refine h.runsOn_classC (v := s.entered fFLT 0x13 k c) (p := leBytes 4 0) ?_ (by simp) rfl
    simp [hlen, hfind, hfield, hfree]
    rfl
  case fltTileUpload' =>
    intro c k f s h hlen hfind hfield hup
    have hup' : (s.entered fFLT 0x13 k c).fltAttached = true := by simpa using hup
    refine h.runsOn_classC (v := (s.entered fFLT 0x13 k c).fltUp (.tiles (u32 c.payload 0) (f.cells.flatMap YplCell.bytes)))
      (p := leBytes 4 (f.cells.flatMap YplCell.bytes).length) ?_ ?_ ⟨rfl, ?_⟩
    · have hopen : ¬ (s.entered fFLT 0x13 k c).ypl.field.map (fun g => g.id) = some (u32 c.payload 0) := by simpa using hfield
      have hfound : (s.entered fFLT 0x13 k c).yplFind (u32 c.payload 0) = some f := by simpa using hfind
      dsimp only
      rw [if_neg (by simp [hlen]), hfound]
      dsimp only
      rw [if_neg hopen, if_pos hup', if_pos hup']
      rfl
    · rw [State.fltUp_attached hup']
      simp
    · rw [State.fltUp_attached hup', State.entered_fltUnit, State.entered_flt]
      rfl
  case fltSentryUpload =>
    intro c k s h hlen hfree
    refine h.runsOn_classC (v := s.entered fFLT 0x14 k c) (p := leBytes 4 0) ?_ (by simp) rfl
    simp [hlen, hfree]
    rfl
  case fltSentryUpload' =>
    intro c k s h hlen hup
    have hup' : (s.entered fFLT 0x14 k c).fltAttached = true := by simpa using hup
    refine h.runsOn_classC (v := (s.entered fFLT 0x14 k c).fltUp (.sentry s.sentryBytes))
      (p := leBytes 4 s.sentryBytes.length) ?_ ?_ ⟨rfl, ?_⟩
    · dsimp only
      rw [if_neg (by simp [hlen]), if_pos hup', if_pos hup', State.entered_sentryBytes]
      rfl
    · rw [State.fltUp_attached hup']
      simp
    · rw [State.fltUp_attached hup', State.entered_fltUnit, State.entered_flt]
      rfl

end Sys2Proof.Machine
end

section
/-!
PROOF. Chapter 04: the events of the supplies, the key and the temperatures complete.
-/
namespace Sys2Proof.Machine

/-! ## What the stages of a shedding leave alone -/

/-- The power state and the pair, as one value: a stage of a shedding that leaves both alone has one equation. -/
def State.pwrPair (s : State) : Power × Pair := (s.pwr, s.pair)

theorem State.pwr_of_pwrPair {s t : State} (h : t.pwrPair = s.pwrPair) : t.pwr = s.pwr := congrArg Prod.fst h

theorem State.pair_of_pwrPair {s t : State} (h : t.pwrPair = s.pwrPair) : t.pair = s.pair := congrArg Prod.snd h

theorem State.pwrPair_eq {s t : State} (hp : t.powerClk = s.powerClk) (hb : t.besideDrive = s.besideDrive) :
    t.pwrPair = s.pwrPair := Prod.ext (State.pwr_of_powerClk hp) (State.pair_of_besideDrive hb)

theorem State.wr_pwrPair (s : State) (a : Nat) (v : Word) : (s.wr a v).pwrPair = s.pwrPair := rfl

theorem State.wfSet_pwrPair (s : State) (a hi lo v : Nat) : (s.wf_ a hi lo v).pwrPair = s.pwrPair := rfl

theorem State.setCam_pwrPair (s : State) (f : Cam → Cam) : (s.setCam f).pwrPair = s.pwrPair := rfl

theorem State.notify_pwrPair (s : State) (f code : Nat) (p : List Byte) : (s.notify f code p).pwrPair = s.pwrPair :=
  State.pwrPair_eq (State.notify_powerClk ..) (State.notify_besideDrive ..)

theorem State.post_pwrPair (s : State) (f : Nat) (e : Ev) : (s.post f e).pwrPair = s.pwrPair :=
  State.pwrPair_eq (State.post_powerClk ..) (State.post_besideDrive ..)

theorem State.grpUvOn_pwrPair (s : State) (g : Nat) : (s.grpUvOn g).pwrPair = s.pwrPair := by
  unfold State.grpUvOn State.pswGroupNote
  split
  · rfl
  · refine (State.notify_pwrPair ..).trans (State.pwrPair_eq ?_ ?_)
    · simp
    · simp

theorem State.pswShed_pwrPair (s : State) : s.pswShed.pwrPair = s.pwrPair :=
  (State.pwrPair_eq (State.pswShowAll_powerClk _) (State.pswShowAll_besideDrive _)).trans
    (foldl_keeps State.pwrPair State.grpUvOn_pwrPair _ _)

theorem State.camClose_pwrPair (s : State) (f : CamFrame) : (s.camClose f).pwrPair = s.pwrPair := by
  unfold State.camClose
  dsimp only
  split
  · rfl
  · split
    · rfl
    · split <;> rfl

theorem State.camPick_pwrPair (s : State) : s.camPick.pwrPair = s.pwrPair := by
  have hmode : s.camModeChange.pwrPair = s.pwrPair := by
    unfold State.camModeChange
    dsimp only
    split <;> rfl
  have hbegin (t : State) (c : Prop) [Decidable c] (u k : Nat) : (if c then t else t.camBegin u k).pwrPair = t.pwrPair := by
    split <;> rfl
  unfold State.camPick
  extract_lets t l order
  have ht : t.pwrPair = s.pwrPair := hmode
  clear_value t l
  split
  · exact ht
  · split
    · split
      · exact ht
      · rw [State.setCam_pwrPair, hbegin, ht]
    · split
      · exact ht
      · rw [State.setCam_pwrPair, hbegin, ht]

theorem State.camShow_pwrPair (s : State) : s.camShow.pwrPair = s.pwrPair := by
  unfold State.camShow
  dsimp only
  rw [State.wfSet_pwrPair, foldl_keeps State.pwrPair (fun t c => State.wr_pwrPair ..)]
  refine foldl_keeps State.pwrPair (fun t i => ?_) _ _
  rw [State.wfSet_pwrPair, State.wfSet_pwrPair]

theorem State.camShed_pwrPair (s : State) : s.camShed.pwrPair = s.pwrPair := by
  unfold State.camShed
  rw [State.camShow_pwrPair, State.camPick_pwrPair]
  refine foldl_keeps State.pwrPair (fun t i => ?_) _ _
  split
  · exact State.camClose_pwrPair ..
  · rfl

theorem State.ethLinkSet_pwrPair (s : State) (k : Nat) (up cap : Bool) (speed sqi : Nat) :
    (s.ethLinkSet k up cap speed sqi).pwrPair = s.pwrPair := by
  unfold State.ethLinkSet
  dsimp only
  split
  · rfl
  · exact State.notify_pwrPair ..

theorem State.safOutputs_pair (s : State) : s.safOutputs.pair = s.pair := by
  refine foldl_keeps State.pair (fun t n => ?_) _ _
  dsimp only
  repeat' split
  all_goals simp [State.safRaise, State.safFaultNote, State.setSo, apply_ite State.pair]

theorem State.safEnter_pair (s : State) (st cause : Nat) : (s.safEnter st cause).pair = s.pair := by
  unfold State.safEnter
  split
  · rfl
  · dsimp only
    rw [State.pair_of_besideDrive (State.pswEnables_besideDrive _), State.pair_of_besideDrive (State.adrEnables_besideDrive _)]
    refine (foldl_keeps State.pair (fun t c => ?_) _ _).trans ?_
    · unfold State.jspSend
      dsimp only
      split <;> rfl
    · rw [State.notify_pair, State.post_pair, State.safOutputs_pair]
      rfl

theorem State.safShed_pwrPair (s : State) : s.safShed.pwrPair = s.pwrPair := by
  unfold State.safShed
  refine Prod.ext ?_ ?_
  · refine (State.pwr_of_powerClk (State.safOutputs_powerClk _)).trans ?_
    split
    · exact State.pwr_of_powerClk (State.safEnter_powerClk ..)
    · rfl
  · refine (State.safOutputs_pair _).trans ?_
    split
    · exact State.safEnter_pair ..
    · rfl

/-- The stages of a shedding change neither the power state nor the pair. -/
theorem State.shedStages_pwrPair (s : State) : s.shedStages.pwrPair = s.pwrPair := by
  unfold State.shedStages State.ethShed
  rw [State.safShed_pwrPair, foldl_keeps State.pwrPair (fun t k => State.ethLinkSet_pwrPair ..), State.camShed_pwrPair]
  refine (State.pwrPair_eq (State.supUpdateAll_powerClk _) rfl).trans ?_
  rw [State.pwrPair_eq (State.pswEnables_powerClk _) (State.pswEnables_besideDrive _), State.pswShed_pwrPair,
    State.pwrPair_eq (State.adrEnables_powerClk _) (State.adrEnables_besideDrive _)]

/-! ## The mirror of the counters -/

theorem State.recClose_pwrPair (s : State) : s.recClose.pwrPair = s.pwrPair := rfl

theorem State.tc10_pwr (s : State) : s.tc10.pwr = s.pwr := by
  unfold State.tc10
  split <;> rfl

theorem State.tc10_clk (s : State) : s.tc10.clk = s.clk := by
  unfold State.tc10
  split <;> rfl

theorem State.prmTxn_pwrPair (s : State) (g : PrmStore → PrmStore) : (s.prmTxn g).pwrPair = s.pwrPair := by
  unfold State.prmTxn
  extract_lets p free full t t1
  have h1 : t1.pwrPair = s.pwrPair := rfl
  clear_value t1
  split
  · exact (State.notify_pwrPair ..).trans h1
  · exact h1

theorem State.prmTxn_almanac (s : State) (g : PrmStore → PrmStore) : (s.prmTxn g).almanac = s.almanac := by
  unfold State.prmTxn
  extract_lets p free full t t1
  have h1 : t1.almanac = s.almanac := rfl
  clear_value t1
  split
  · exact (State.notify_almanac ..).trans h1
  · exact h1

theorem State.initCounts_rec (s : State) : s.initCounts.pair = s.pair ∧ s.initCounts.almanac = s.almanac ∧
    ∃ b, s.initCounts.pwr = { s.pwr with porFirst := b } := by
  unfold State.initCounts
  dsimp only
  split
  · exact ⟨rfl, rfl, _, rfl⟩
  · exact ⟨rfl, rfl, _, rfl⟩

/-- A copy of the counters leaves the power state but for its own time and the first start. -/
theorem State.mirrorWrite_pwr (s : State) : ∃ b m, s.mirrorWrite.pwr = { s.pwr with porFirst := b, mirrorTb := m } := by
  obtain ⟨-, -, b, hb⟩ := s.initCounts_rec
  unfold State.mirrorWrite
  extract_lets u
  generalize hv : u.prmTxn _ = v
  have hvp : v.pwr = { s.pwr with porFirst := b } := (State.pwr_of_pwrPair (hv ▸ State.prmTxn_pwrPair u _)).trans hb
  exact ⟨b, u.clk.tb, (congrArg (fun p : Power => { p with mirrorTb := u.clk.tb }) hvp : _)⟩

theorem State.mirrorWrite_pair (s : State) : s.mirrorWrite.pair = s.pair := by
  obtain ⟨hpair, -, -⟩ := s.initCounts_rec
  unfold State.mirrorWrite
  dsimp only
  rw [State.setPwr_pair, ← hpair]
  exact State.pair_of_pwrPair (State.prmTxn_pwrPair s.initCounts _)

theorem State.mirrorWrite_almanac (s : State) : s.mirrorWrite.almanac = s.almanac := by
  obtain ⟨-, hrec, -⟩ := s.initCounts_rec
  unfold State.mirrorWrite
  dsimp only
  rw [State.setPwr_almanac, State.prmTxn_almanac, hrec]

theorem State.recShow_pwr (s : State) : s.recShow.pwr = s.pwr := rfl

theorem State.recShow_pair (s : State) : s.recShow.pair = s.pair := rfl

theorem State.recShow_isOpen (s : State) : s.recShow.almanac.isOpen = s.almanac.isOpen := rfl

/-- Settles O7: a loss of the supply keeps its marks through the stages of its shedding; the other clauses follow their own command. -/
theorem powerEventsComplete : Obligations.PowerEventsComplete := by
  unfold Obligations.PowerEventsComplete
  refine ⟨?supplyDipBegin, ?supplyDipEnd, ?counterMirrorWrite, ?vrstShed, ?overvoltageShed, ?overvoltageRecover,
    ?tempThreshold, ?tempThreshold', ?keyOff, ?keyOn, ?keyoffShutdown, ?keyoffFinal, ?keyoffFinal', ?keyoffFinal'',
    ?keepAwakeExpiry, ?standbyTimeout, ?standbyTimeout', ?sentryAonLow, ?xtal32Fail⟩
  case supplyDipBegin =>
    intro i mv s hi haon hdip hmv
    have hgo : (decide (i < 10) && s.begun.pwr.aonOn && (s.begun.pwr.dipSince.getD i none).isNone &&
        decide (mv < s.begun.dipTh i)) = true := by
      rw [State.begun_pwr, hdip]
      simp [hi, haon, hmv]
    change execSupplyDipBegin i mv s = _
    refine State.runIn_next ?_
    exact if_pos hgo
  case supplyDipEnd =>
    intro i mv t0 s hi hdip hmv
    change ∃ t, execSupplyDipEnd i mv s = .next t ∧ _
    refine State.runIn_complete ?_
    have hlow : ¬ mv ≤ s.begun.dipTh i + 500 := Nat.not_le.2 hmv
    rw [State.begun_pwr, hdip]
    dsimp only
    rw [if_neg hlow]
    generalize word (max (min 0xFFFFFF _) _) = longest
    generalize [byte i, 0#8, 0#8, 0#8] ++ _ = note
    have hlast : R.PWR_DIP_LAST i ≠ R.PWR_DIP_MAX i := by unfold R.PWR_DIP_LAST R.PWR_DIP_MAX; omega
    have hcnt : R.PWR_DIP_CNT i ≠ R.PWR_DIP_MAX i := by unfold R.PWR_DIP_CNT R.PWR_DIP_MAX; omega
    have hcnt' : R.PWR_DIP_CNT i ≠ R.PWR_DIP_LAST i := by unfold R.PWR_DIP_CNT R.PWR_DIP_LAST; omega
    have hst : R.PWR_SUP_STATUS ≠ R.PWR_DIP_MAX i := by unfold R.PWR_SUP_STATUS R.PWR_DIP_MAX; omega
    have hst' : R.PWR_SUP_STATUS ≠ R.PWR_DIP_LAST i := by unfold R.PWR_SUP_STATUS R.PWR_DIP_LAST; omega
    have hst'' : R.PWR_SUP_STATUS ≠ R.PWR_DIP_CNT i := by unfold R.PWR_SUP_STATUS R.PWR_DIP_CNT; omega
    rw [Foot.finish_pwr, if_pos (by decide),
      Foot.finish_bt_win Win.pwr s _ (by decide) (by decide) (by decide),
      Foot.finish_rd_win Win.pwr s _ (by decide) (by unfold R.PWR_DIP_LAST Win.pwr; dsimp only; omega)
        (by unfold R.PWR_DIP_LAST Win.pwr; dsimp only; omega),
      Foot.finish_rd_win Win.pwr s _ (by decide) (by unfold R.PWR_DIP_CNT Win.pwr; dsimp only; omega)
        (by unfold R.PWR_DIP_CNT Win.pwr; dsimp only; omega)]
    have hout : Foot.shared.holds (R.PWR_DIP_LAST i) = false :=
      Foot.shared_not (by unfold R.PWR_DIP_LAST; omega) (by unfold R.PWR_DIP_LAST; omega)
    have hout' : Foot.shared.holds (R.PWR_DIP_CNT i) = false :=
      Foot.shared_not (by unfold R.PWR_DIP_CNT; omega) (by unfold R.PWR_DIP_CNT; omega)
    refine ⟨?_, ?_, ?_, ?_⟩
    · rw [State.notify_pwr, State.post_pwr]
      rfl
    · unfold State.bt
      rw [State.notify_rd _ _ _ _ (by decide), State.post_rd _ _ _ (by decide), State.wr_rd_ne _ _ hst, State.wr_rd_ne _ _ hst',
        State.inc_rd, if_neg hst'', State.wb_rd, if_pos rfl, bit_setBit_same _ (by omega)]
    · rw [State.notify_rd _ _ _ _ hout, State.post_rd _ _ _ hout, State.wr_rd_ne _ _ hlast, State.wr_rd_same]
      rfl
    · rw [State.notify_rd _ _ _ _ hout', State.post_rd _ _ _ hout', State.wr_rd_ne _ _ hcnt, State.wr_rd_ne _ _ hcnt',
        State.inc_rd, if_pos rfl, State.wb_rd, if_neg (Ne.symm hst''), State.setPwr_rd, State.begun_rd]
  case counterMirrorWrite =>
    intro s hpower hdome hclk htbPast
    change execCounterMirrorWrite s = _
    refine State.runIn_next ?_
    simp [hpower, hdome, hclk, htbPast]
  case vrstShed =>
    intro mv s hmv hok hcore hholdup
    have hlow : ¬ 7500 ≤ mv := Nat.not_le.2 hmv
    have hgo : ¬ (!s.begun.pwr.vbatOk && !(s.begun.pwr.holdup && s.begun.pwr.roseAt.isSome)) = true := by simp [hok]
    change ∃ t, execVrstShed mv s = .next t ∧ _
    refine State.runIn_complete ?_
    rw [if_neg hlow, if_neg hgo]
    extract_lets s1 s2 s3
    have hon : ¬ (!s1.pwr.coreOn || s1.pwr.holdup) = true := by
      change ¬ (!s.pwr.coreOn || s.pwr.holdup) = true
      simp [hcore, hholdup]
    have h3 : s3.pwrPair = (s2.pwr, { s2.pair with alive := false }) :=
      (State.recClose_pwrPair _).trans (State.shedStages_pwrPair _)
    have hclosed : s3.almanac.isOpen = false := rfl
    rw [if_neg hon]
    clear_value s3
    have hp : s3.pwr = s2.pwr := congrArg Prod.fst h3
    have ha : s3.pair.alive = false := congrArg (fun x : Power × Pair => x.2.alive) h3
    have hend : ∃ b m, (if s3.dome = 0 then s3 else s3.mirrorWrite).pwr = { s3.pwr with porFirst := b, mirrorTb := m } := by
      split
      · exact ⟨_, _, rfl⟩
      · exact State.mirrorWrite_pwr s3
    obtain ⟨b, m, hend⟩ := hend
    have hpair : (if s3.dome = 0 then s3 else s3.mirrorWrite).pair = s3.pair := by
      split
      · rfl
      · exact State.mirrorWrite_pair s3
    have hrec : (if s3.dome = 0 then s3 else s3.mirrorWrite).almanac = s3.almanac := by
      split
      · rfl
      · exact State.mirrorWrite_almanac s3
    generalize (if s3.dome = 0 then s3 else s3.mirrorWrite) = u at hend hpair hrec
    have hopen : u.almanac.isOpen = false := (congrArg (·.isOpen) hrec).trans hclosed
    rw [Foot.finish_pwr, if_pos (by decide), Foot.finish_almanac, Foot.finish_pair, if_pos (by decide), State.recShow_pwr,
      State.recShow_pair, hend, hp, hpair]
    exact ⟨rfl, rfl, rfl, rfl, u.recShow_isOpen.trans hopen, ha⟩
  case overvoltageShed =>
    intro mv s hmv hoverShed hcoreOn
    change execOvervoltageShed mv s = _
    refine State.runIn_next ?_
    simp [Nat.not_le.2 hmv, hoverShed, hcoreOn]
  case overvoltageRecover =>
    intro mv s hmv hoverShed
    change execOvervoltageRecover mv s = _
    refine State.runIn_next ?_
    simp [Nat.not_le.2 hmv, hoverShed]
  case tempThreshold =>
    intro t0 s
    exact ⟨rfl, rfl, rfl, rfl⟩
  case tempThreshold' =>
    intro t0 s hcool hhot
    have hhalf : hystT s.pwr.vxaHalf t0 10500 10000 = true := if_pos (by omega)
    have hoff : hystT false t0 11500 10000 = true := if_pos (by omega)
    change execTempThreshold 2 t0 s = _
    refine State.runIn_next ?_
    simp only [State.begun_pwr, hcool, hhalf, hoff]
    rfl
  case keyOff =>
    intro s hkey hpower hcore hnone
    have hgo : ¬ (!s.begun.bt R.PWR_STATE 8) = true := by simp [hkey]
    change ∃ t, execKeyOff s = .next t ∧ _
    refine State.runIn_complete ?_
    rw [if_neg hgo]
    extract_lets s1
    have hpower1 : s1.power = 3 := (State.wb_fd_ne s.begun _ (by decide) (by decide) _).trans hpower
    have hstay : ¬ (s1.power != 3 || !s1.pwr.coreOn || s1.pwr.keyOff != .none) = true := by
      rw [hpower1]
      change ¬ (3 != 3 || !s.pwr.coreOn || s.pwr.keyOff != .none) = true
      simp [hcore, hnone]
    have hbit : s1.bt R.PWR_STATE 8 = false := State.wb_bt_same _ _ (by decide) _
    rw [if_neg hstay, Foot.finish_bt_win Win.pwr s _ (by decide) (by decide) (by decide), Foot.finish_pwr, if_pos (by decide),
      State.notify_bt _ _ _ _ (by decide), State.notify_pwr]
    exact ⟨hbit, rfl, rfl⟩
  case keyOn =>
    intro s hkey hpower hcore hdelay
    have hgo : ¬ s.begun.bt R.PWR_STATE 8 = true := by simp [hkey]
    change execKeyOn s = _
    refine State.runReset_next ?_
    rw [if_neg hgo]
    extract_lets s1
    have hpower1 : s1.power = 3 := (State.wb_fd_ne s.begun _ (by decide) (by decide) _).trans hpower
    have hrun : ¬ (s1.power != 3) = true := by simp [hpower1]
    have hstay : ¬ (!s1.pwr.coreOn || decide (s1.pwr.keyOff = .shutdown)) = true := by
      change ¬ (!s.pwr.coreOn || decide (s.pwr.keyOff = .shutdown)) = true
      simp [hcore, hdelay]
    rw [if_neg hrun, if_neg hstay]
    rfl
  case keyoffShutdown =>
    intro loop s hkeyOff hkeyTb hkeptAwake hdome
    change execKeyoffShutdown loop s = _
    refine State.run_next ?_
    simp [hkeyOff, Nat.not_lt.2 hkeyTb, hkeptAwake, hdome]
  case keyoffFinal =>
    intro susp s hoff hdone hpast htarget
    have hgo : ¬ (s.begun.pwr.keyOff != .shutdown || !s.begun.pwr.step3Done ||
        decide (s.begun.clk.now < s.begun.pwr.step2At + fabS 5)) = true := by simp [hoff, hdone, Nat.not_lt.2 hpast]
    have h0 : s.begun.tc10.pwr.target = 0 := (congrArg Power.target (State.tc10_pwr _)).trans htarget
    change execKeyoffFinal susp s = _
    refine State.runReset_next ?_
    rw [if_neg hgo]
    dsimp only
    rw [if_neg (by rw [h0]; decide), if_neg (by rw [h0]; decide)]
  case keyoffFinal' =>
    intro susp s hoff hdone hpast htarget
    have hgo : ¬ (s.begun.pwr.keyOff != .shutdown || !s.begun.pwr.step3Done ||
        decide (s.begun.clk.now < s.begun.pwr.step2At + fabS 5)) = true := by simp [hoff, hdone, Nat.not_lt.2 hpast]
    have h1 : s.begun.tc10.pwr.target = 1 := (congrArg Power.target (State.tc10_pwr _)).trans htarget
    change execKeyoffFinal susp s = _
    refine State.runReset_next ?_
    rw [if_neg hgo]
    dsimp only
    rw [if_neg (by rw [h1]; decide), if_pos h1]
  case keyoffFinal'' =>
    intro s hoff hdone hpast htarget
    have hgo : ¬ (s.begun.pwr.keyOff != .shutdown || !s.begun.pwr.step3Done ||
        decide (s.begun.clk.now < s.begun.pwr.step2At + fabS 5)) = true := by simp [hoff, hdone, Nat.not_lt.2 hpast]
    have h2 : s.begun.tc10.pwr.target = 2 := (congrArg Power.target (State.tc10_pwr _)).trans htarget
    change execKeyoffFinal true s = _
    refine State.runReset_next ?_
    rw [if_neg hgo]
    dsimp only
    rw [if_pos h2, if_pos rfl, State.tc10_clk, State.begun_clk]
  case keepAwakeExpiry =>
    intro k s hpast
    change execKeepAwakeExpiry k s = _
    refine State.runIn_next ?_
    exact if_pos hpast
  case standbyTimeout =>
    intro loop s hpower hkeyoffCfg hoffAt hstep3Done
    change execStandbyTimeout loop s = _
    refine State.runReset_next ?_
    simp [hpower, hkeyoffCfg, Nat.not_lt.2 hoffAt, hstep3Done]
  case standbyTimeout' =>
    intro loop s hpower hkeyoffCfg hoffAt hstep3Done hpnlIdle
    change execStandbyTimeout loop s = _
    refine State.runReset_next ?_
    simp [hpower, hkeyoffCfg, Nat.not_lt.2 hoffAt, hstep3Done, hpnlIdle]
  case sentryAonLow =>
    intro mv since s hpower hmv hsince
    change execSentryAonLow mv since s = _
    refine State.runIn_next ?_
    simp [hpower, hmv, hsince]
  case xtal32Fail =>
    intro s haonOn
    change execXtal32Fail s = _
    refine State.runIn_next ?_
    simp [haonOn]

end Sys2Proof.Machine
end

section
/-!
SUPPORT. Registers outside the windows of the drive, the load switches and the signal bus keep their contents through the enables of the
drive, of the switches and of the island's outputs.
-/
namespace Sys2Proof.Machine

/-- A register of SYS, MBX or PWR that no notification and no event writes: the enables of the outputs leave it alone. -/
structure BesideReg (a : Nat) : Prop where
  notify : ∀ (s : State) (f code : Nat) (p : List Byte), (s.notify f code p).rd a = s.rd a
  post : ∀ (s : State) (f : Nat) (e : Ev), (s.post f e).rd a = s.rd a
  signals : a < 0xE0010000 ∨ 0xE0020000 ≤ a
  drive : a < 0xE0080000 ∨ 0xE00E0000 ≤ a ∧ a < 0xE00F0000

/-- Of SYS and PWR every register is such a one. -/
theorem BesideReg.of_sys_pwr {a : Nat} (h : a < 0xE0010000 ∨ 0xE00E0000 ≤ a ∧ a < 0xE00F0000) : BesideReg a where
  notify := fun s f code p => s.notify_rd f code p (Foot.shared_not (by omega) (by omega))
  post := fun s f e => s.post_rd f e (Foot.shared_not (by omega) (by omega))
  signals := by omega
  drive := by omega

/-- A loop over bounded indices, each of whose steps keeps a register, keeps it. -/
theorem State.foldl_rd_of_mem {α : Type} {g : State → α → State} {a : Nat} (l : List α)
    (hg : ∀ s, ∀ x ∈ l, (g s x).rd a = s.rd a) (s : State) : (l.foldl g s).rd a = s.rd a := by
  induction l generalizing s with
  | nil => rfl
  | cons x l ih =>
    rw [List.foldl_cons, ih (fun s y hy => hg s y (List.mem_cons_of_mem _ hy)), hg s x List.mem_cons_self]

/-- To insert an element adds that one alone. -/
theorem of_mem_insertBy {α : Type} {lt : α → α → Bool} {x z : α} {ys : List α} (h : z ∈ insertBy lt x ys) : z = x ∨ z ∈ ys := by
  induction ys with
  | nil => exact .inl (List.mem_singleton.1 h)
  | cons y ys ih =>
    unfold insertBy at h
    split at h
    · exact List.mem_cons.1 h
    · rcases List.mem_cons.1 h with rfl | hz
      · exact .inr List.mem_cons_self
      · exact (ih hz).imp_right (List.mem_cons_of_mem y)

/-- A list in order has the list's elements. -/
theorem of_mem_sortBy {α : Type} {lt : α → α → Bool} {z : α} {xs : List α} (h : z ∈ sortBy lt xs) : z ∈ xs := by
  have hfold (l acc : List α) (h : z ∈ l.foldl (fun a x => insertBy lt x a) acc) : z ∈ l ∨ z ∈ acc := by
    induction l generalizing acc with
    | nil => exact .inr h
    | cons x l ih =>
      rcases ih _ h with hz | hz
      · exact .inl (List.mem_cons_of_mem x hz)
      · rcases of_mem_insertBy hz with rfl | hz
        · exact .inl List.mem_cons_self
        · exact .inr hz
  exact (hfold xs [] h).resolve_right List.not_mem_nil

/-- What waits in a bank is of one of its four channels. -/
theorem State.bankWaiters_lt {s : State} {k : Nat} (hk : k < 12) {w : Nat × AdrEv × Bool} (hw : w ∈ s.bankWaiters k) : w.1 < 48 := by
  obtain ⟨i, hi, hw⟩ := List.mem_filterMap.1 (of_mem_sortBy hw)
  obtain ⟨x, -, rfl⟩ := Option.map_eq_some_iff.1 hw
  have := List.mem_range.1 hi
  dsimp only
  omega

theorem grpChs_lt {g n : Nat} (hg : g < 4) (hn : n ∈ grpChs g) : n < 16 := by
  obtain ⟨i, hi, rfl⟩ := List.mem_map.1 hn
  have := List.mem_range.1 hi
  omega

namespace BesideReg
variable {a : Nat} (h : BesideReg a)
include h

theorem wr {b : Nat} (hb : 0xE0080000 ≤ b ∧ b < 0xE00E0000 ∨ 0xE00F0000 ≤ b) (s : State) (v : Word) :
    (s.wr b v).rd a = s.rd a :=
  State.wr_rd_ne _ _ (by have := h.drive; omega)

theorem inc {b : Nat} (hb : 0xE0080000 ≤ b ∧ b < 0xE00E0000 ∨ 0xE00F0000 ≤ b) (s : State) : (s.inc b).rd a = s.rd a :=
  h.wr hb s _

theorem addCnt {b : Nat} (hb : 0xE0080000 ≤ b ∧ b < 0xE00E0000 ∨ 0xE00F0000 ≤ b) (s : State) (n : Nat) :
    (s.addCnt b n).rd a = s.rd a := h.wr hb s _

theorem wb {b : Nat} (hb : 0xE0080000 ≤ b ∧ b < 0xE00E0000 ∨ 0xE00F0000 ≤ b) (s : State) (i : Nat) (v : Bool) :
    (s.wb b i v).rd a = s.rd a := h.wr hb s _

theorem dropSig (s : State) {n : Nat} (hn : n < 512) : (s.dropSig n).rd a = s.rd a :=
  State.dropSig_rd s n (by unfold R.FAB_SIG; have := h.signals; omega) (by unfold R.FAB_SIG_VALID; have := h.signals; omega)

theorem setSig (s : State) {n : Nat} (hn : n < 512) (v : Word) : (s.setSig n v).rd a = s.rd a :=
  State.setSig_rd s n v (by unfold R.FAB_SIG; have := h.signals; omega) (by unfold R.FAB_SIG_VALID; have := h.signals; omega)

/-! ### The actuator drive -/

theorem adrDropNote (s : State) {n : Nat} (hn : n < 48) (cause req : Nat) : (s.adrDropNote n cause req).rd a = s.rd a := by
  unfold State.adrDropNote
  dsimp only
  rw [h.notify, h.inc (by decide)]
  split
  · exact h.inc (by unfold R.ADR_BANK_COLLIDE; omega) s
  · rfl

theorem adrMotion (s : State) {n : Nat} (hn : n < 48) (ran : Bool) (r : AdrRun) : (s.adrMotion n ran r).rd a = s.rd a := by
  unfold State.adrMotion
  extract_lets w c bad o k wait t u v okO okC
  split
  · rfl
  have ht : t.rd a = s.rd a := by
    simp only [t]
    rw [h.wr (by unfold R.ADR_MOT_Q; omega), h.wr (by unfold R.ADR_MOT_RES; omega)]
  have hv : v.rd a = s.rd a := by
    simp only [v]
    split
    · rw [h.notify]; exact (h.addCnt (by decide) t _).trans ht
    · exact (h.addCnt (by decide) t _).trans ht
  clear_value v
  have hsig (c : Prop) [Decidable c] (x : Word) : (if c then v.setSig n x else v).rd a = s.rd a := by
    split
    · exact (h.setSig v (by omega) x).trans hv
    · exact hv
  split
  · exact hsig _ _
  · exact hsig _ _
  · exact hsig _ _
  · exact hv

theorem adrDrop (s : State) {n : Nat} (hn : n < 48) (req cause : Nat) : (s.adrDrop n req cause).rd a = s.rd a := by
  unfold State.adrDrop
  dsimp only
  rw [h.adrDropNote _ hn, h.adrMotion _ hn, h.wr (by unfold R.ADR_EVT_EN; omega), h.wr (by unfold R.ADR_EVT_TB; omega),
    h.wr (by unfold R.ADR_EVT_LAST; omega)]

theorem bankNext (s : State) {k : Nat} (hk : k < 12) : (s.bankNext k).rd a = s.rd a := by
  unfold State.bankNext
  split
  case h_1 => rfl
  case h_2 w l hl =>
    have hw : w.1 < 48 := State.bankWaiters_lt hk (hl ▸ List.mem_cons_self)
    split
    · rfl
    · split
      · exact h.adrDrop _ hw _ _
      · rfl

theorem bankRelease (s : State) {k : Nat} (hk : k < 12) : (s.bankRelease k).rd a = s.rd a :=
  State.foldl_rd_of_mem _ (fun t _ _ => by
    split
    · exact h.bankNext t hk
    · rfl) _

theorem adrUnwait (s : State) {n : Nat} (hn : n < 48) (cause : Nat) : (s.adrUnwait n cause).rd a = s.rd a := by
  unfold State.adrUnwait
  split
  · rfl
  · dsimp only
    split
    · exact (h.bankRelease _ (by omega)).trans (h.adrDrop _ hn _ _)
    · exact h.adrDrop _ hn _ _

theorem adrSetOpen (s : State) (n : Nat) (v : Bool) : (s.adrSetOpen n v).rd a = s.rd a := by
  unfold State.adrSetOpen State.adrFaultNote
  dsimp only
  split
  · rw [h.notify]; exact h.inc (by decide) _
  · split
    · exact h.notify _ _ _ _
    · rfl

theorem adrRecord (s : State) {n : Nat} (hn : n < 48) : (s.adrRecord n).rd a = s.rd a := by
  unfold State.adrRecord
  extract_lets t c r opn uj last u v w x
  have hu : u.rd a = s.rd a := by
    simp only [u]
    rw [h.wr (by unfold R.ADR_EVT_EN; omega), h.wr (by unfold R.ADR_EVT_TB; omega), h.wr (by unfold R.ADR_EVT_LAST; omega)]
    rfl
  have hw : w.rd a = s.rd a := by
    refine (h.adrMotion v hn _ _).trans ?_
    simp only [v]
    split
    · exact (h.inc (by decide) u).trans hu
    · exact (h.adrDropNote u hn _ _).trans hu
  clear_value w
  change x.rd a = s.rd a
  simp only [x]
  split
  · exact (h.adrSetOpen w n _).trans hw
  · exact hw

theorem adrClose (s : State) {n : Nat} (hn : n < 48) : (s.adrClose n).rd a = s.rd a := by
  have hrecov : (s.adrRecov n).rd a = s.rd a := h.wr (by decide) _ _
  unfold State.adrClose
  extract_lets t
  change (if (s.ch n).run.prop then t else t.adrRecord n).rd a = s.rd a
  split
  · exact hrecov
  · exact (h.adrRecord _ hn).trans hrecov

theorem adrMeasure (s : State) {n : Nat} (hn : n < 48) : (s.adrMeasure n).rd a = s.rd a := by
  unfold State.adrMeasure
  extract_lets c due t ton all sum cnt vb rm u v rref tn
  have hv : v.rd a = s.rd a := h.wr (by unfold R.ADR_CH_RMEAS; omega) t _
  clear_value v
  split
  · rfl
  · split
    · exact hv
    · exact hv

theorem adrLeave (s : State) {n : Nat} (hn : n < 48) : (s.adrLeave n).rd a = s.rd a := by
  unfold State.adrLeave
  split
  · exact h.bankRelease _ (by omega)
  · rfl

theorem adrToDecay (s : State) {n : Nat} (hn : n < 48) (cause : Nat) (fast : Bool) : (s.adrToDecay n cause fast).rd a = s.rd a := by
  unfold State.adrToDecay
  extract_lets c t want f now win other u
  have hu : u.rd a = s.rd a := by
    change t.rd a = s.rd a
    simp only [t]
    split
    · exact h.adrMeasure s hn
    · rfl
  clear_value u
  split
  · rfl
  · rfl
  · split
    · exact (h.adrLeave u hn).trans hu
    · exact hu

theorem adrFlush (s : State) {n : Nat} (hn : n < 48) (cause : Nat) : (s.adrFlush n cause).rd a = s.rd a :=
  State.foldl_rd_of_mem _ (fun t _ _ => h.adrDrop t hn _ _) _

theorem bankOff (s : State) {k : Nat} (hk : k < 12) : (s.bankOff k).rd a = s.rd a := by
  unfold State.bankOff
  refine (State.foldl_rd_of_mem _ (fun t i hi => ?_) _).trans (State.foldl_rd_of_mem _ (fun t i hi => ?_) _)
  · have hn : 4 * k + i < 48 := by have := List.mem_range.1 hi; omega
    extract_lets n u v
    have hu : u.rd a = t.rd a := by
      simp only [u]
      split
      · rfl
      · split
        · exact h.adrClose _ hn
        · exact h.adrToDecay t hn _ _
    clear_value u
    change v.rd a = t.rd a
    simp only [v]
    split
    · exact hu
    · exact (h.adrFlush u hn _).trans hu
  · exact h.adrUnwait t (by have := List.mem_range.1 hi; omega) _

theorem bstShow (s : State) : s.bstShow.rd a = s.rd a := h.wr (by decide) _ _

theorem bstSpill (s : State) : s.bstSpill.rd a = s.rd a := by
  unfold State.bstSpill State.bstNotify
  dsimp only
  refine (h.notify _ _ _ _).trans ((State.foldl_rd_of_mem _ (fun t n _ => ?_) _).trans (h.inc (by decide) _))
  unfold State.adrSlow
  dsimp only
  split <;> rfl

theorem bstSync (s : State) : s.bstSync.rd a = s.rd a := by
  unfold State.bstSync
  extract_lets may v conv un sp t u
  have hu : u.rd a = s.rd a := by
    simp only [u]
    split
    · exact h.notify _ _ _ _
    · rfl
  clear_value u
  refine (h.bstShow _).trans ?_
  split
  · exact (h.bstSpill u).trans hu
  · exact hu

theorem adrShow (s : State) {n : Nat} (hn : n < 48) : (s.adrShow n).rd a = s.rd a := by
  unfold State.adrShow State.bankShow
  extract_lets c r t u v
  have ht : t.rd a = s.rd a := by
    simp only [t]
    split
    · exact h.dropSig s (by omega)
    · rfl
  refine (h.wr (by unfold R.ADR_BANK_STATUS; omega) _ _).trans ?_
  simp only [v, u]
  rw [h.wb (by unfold R.ADR_OPEN0; omega), h.wb (by unfold R.ADR_FAULT0; omega), h.wr (by unfold R.ADR_CH_STATUS; omega), ht]

/-- What may switch in the drive and its displays. -/
theorem adrEnables (s : State) : s.adrEnables.rd a = s.rd a := by
  unfold State.adrEnables State.adrShowAll
  refine (h.bstShow _).trans ((State.foldl_rd_of_mem _ (fun t n hn => h.adrShow t (List.mem_range.1 hn)) _).trans
    ((h.bstSync _).trans (State.foldl_rd_of_mem _ (fun t k hk => ?_) _)))
  have hk := List.mem_range.1 hk
  dsimp only
  split
  · exact h.bankOff t hk
  · split <;> rfl

/-! ### The load switches -/

theorem pswOff (s : State) {n : Nat} (hn : n < 16) : (s.pswOff n).rd a = s.rd a := by
  unfold State.pswOff
  dsimp only
  split
  · exact h.dropSig _ (by omega)
  · rfl

theorem grpDown (s : State) {g : Nat} (hg : g < 4) : (s.grpDown g).rd a = s.rd a :=
  State.foldl_rd_of_mem _ (fun t n hn => h.pswOff t (grpChs_lt hg hn)) _

theorem pswShow (s : State) {n : Nat} (hn : n < 16) : (s.pswShow n).rd a = s.rd a := by
  unfold State.pswShow
  extract_lets c t u
  have ht : t.rd a = s.rd a := by
    simp only [t]
    split
    · exact h.dropSig s (by omega)
    · rfl
  simp only [u]
  rw [h.wb (by decide), h.wb (by decide), h.wb (by decide), h.wr (by unfold R.PSW_CH_STATUS; omega), ht]

/-- What may switch among the load switches and their displays. -/
theorem pswEnables (s : State) : s.pswEnables.rd a = s.rd a := by
  unfold State.pswEnables State.pswShowAll
  extract_lets t u
  have ht : t.rd a = s.rd a := by
    simp only [t]
    split
    · exact State.foldl_rd_of_mem _ (fun t g hg => h.grpDown t (List.mem_range.1 hg)) _
    · rfl
  have hu : u.rd a = t.rd a := by
    refine State.foldl_rd_of_mem _ (fun v g hg => ?_) t
    dsimp only
    split
    · exact (h.notify _ _ _ _).trans (h.grpDown _ (List.mem_range.1 hg))
    · split
      · rfl
      · split <;> rfl
  refine (State.foldl_rd_of_mem _ (fun v g hg => ?_) _).trans
    ((State.foldl_rd_of_mem _ (fun v n hn => h.pswShow v (List.mem_range.1 hn)) _).trans (hu.trans ht))
  have hg := List.mem_range.1 hg
  exact h.wr (by unfold R.PSW_GRP_STATUS; omega) v _

end BesideReg

end Sys2Proof.Machine
end

section
/-!
PROOF. Chapters 04 and 24: hold-up, wake, the resets, the clocks and start-up complete.
-/
namespace Sys2Proof.Machine

namespace BesideReg
variable {a : Nat} (h : BesideReg a)
include h

theorem safRaise (s : State) (cause obj : Nat) : (s.safRaise cause obj).rd a = s.rd a := by
  unfold State.safRaise State.safFaultNote
  split
  · rfl
  · exact h.notify _ _ _ _

theorem safOutputs (s : State) : s.safOutputs.rd a = s.rd a := by
  refine State.foldl_rd_of_mem _ (fun t n _ => ?_) s
  dsimp only
  split
  · split
    · rfl
    · exact h.safRaise t _ _
  · split <;> rfl

theorem safEnter (s : State) (st cause : Nat) : (s.safEnter st cause).rd a = s.rd a := by
  have hsend (t : State) (c : Nat) : (t.jspSend c).rd a = t.rd a := by
    unfold State.jspSend
    dsimp only
    split <;> rfl
  unfold State.safEnter
  split
  · rfl
  · extract_lets from2 t u v w
    have hw : w.rd a = s.rd a :=
      (State.foldl_rd_of_mem _ (fun x c _ => hsend x c) v).trans ((h.notify _ _ _ _).trans ((h.post _ _ _).trans (h.safOutputs t)))
    clear_value w
    exact (h.pswEnables _).trans ((h.adrEnables w).trans hw)

theorem recShow (s : State) : s.recShow.rd a = s.rd a := by
  unfold State.recShow
  dsimp only
  rw [h.wr (by decide), h.wr (by decide)]
  rfl

theorem pnlHoldup (s : State) : s.pnlHoldup.rd a = s.rd a := by
  unfold State.pnlHoldup State.pnlDrive State.pnlShow
  split
  · refine (h.wr (by decide) _ _).trans ((h.wr (by decide) _ _).trans ?_)
    exact (h.wb (by decide) _ _ _).trans ((h.wb (by decide) _ _ _).trans (h.wb (by decide) _ _ _))
  · rfl

theorem returnStages (s : State) : s.returnStages.rd a = s.rd a := by
  have hsup (t : State) (i : Nat) : (t.supUpdate i).rd a = t.rd a := h.wb (by decide) t _ _
  unfold State.returnStages State.safShedReturn State.camPhyReturn State.supUpdateAll
  dsimp only
  rw [State.setSaf_rd, State.setCam_rd, hsup, hsup, hsup, h.pswEnables, h.adrEnables]

/-- A change of Dome's state reaches no register but the one that shows it. -/
theorem domeSet (s : State) (n : Nat) (hne : a ≠ R.MBX_DOME_STATE) : (s.domeSet n).rd a = s.rd a := by
  unfold State.domeSet
  split
  · rfl
  · extract_lets t u v
    have hv : v.rd a = s.rd a :=
      (h.pswEnables _).trans ((h.adrEnables u).trans ((h.post _ _ _).trans (State.wr_rd_ne _ _ hne)))
    clear_value v
    refine (h.recShow _).trans ?_
    split
    · exact hv
    · exact (h.safOutputs v).trans hv

end BesideReg

theorem State.safClockLoss_rd (s : State) {a : Nat} (h : BesideReg a) : s.safClockLoss.rd a = s.rd a := by
  unfold State.safClockLoss
  extract_lets t u
  have hu : u.rd a = s.rd a := by
    simp only [u]
    split
    · exact h.post _ _ _
    · rfl
  clear_value u
  split
  · exact (h.safEnter u _ _).trans hu
  · exact hu

theorem State.safClockLoss_pwr (s : State) : s.safClockLoss.pwr = s.pwr := by
  unfold State.safClockLoss
  extract_lets t u
  have hu : u.pwr = s.pwr := by
    simp only [u]
    split
    · exact State.post_pwr _ _ _
    · rfl
  clear_value u
  split
  · exact (State.pwr_of_powerClk (u.safEnter_powerClk _ _)).trans hu
  · exact hu

/-! ### Dome's state -/

theorem State.raiseIrq_rd (s : State) (a : Nat) : s.raiseIrq.rd a = s.rd a := by
  unfold State.raiseIrq
  dsimp only
  split
  · rfl
  · split <;> rfl

theorem State.advanceProd_rd_dome (s : State) (n : Nat) : (s.advanceProd n).rd R.MBX_DOME_STATE = s.rd R.MBX_DOME_STATE := by
  have hprod : R.MBX_DOME_STATE ≠ R.MBX_Q_PROD n := by unfold R.MBX_DOME_STATE R.MBX_Q_PROD; omega
  have hpend : R.MBX_DOME_STATE ≠ R.MBX_IRQ_PEND (n / 32) := by unfold R.MBX_DOME_STATE R.MBX_IRQ_PEND; omega
  unfold State.advanceProd
  extract_lets t
  have ht : t.rd R.MBX_DOME_STATE = s.rd R.MBX_DOME_STATE := (State.wr_rd_ne _ _ hpend).trans (State.wr_rd_ne _ _ hprod)
  split
  · exact (t.raiseIrq_rd _).trans ht
  · exact ht

theorem State.sendSlot_rd_dome (s : State) (k n : Nat) (x : Slot) : (s.sendSlot k n x).rd R.MBX_DOME_STATE = s.rd R.MBX_DOME_STATE := by
  unfold State.sendSlot State.publish State.publishBytes
  split
  · rfl
  · dsimp only
    refine (State.advanceProd_rd_dome _ n).trans ?_
    split <;> rfl

theorem State.notifySes_rd_dome (s : State) (k cls : Nat) (p : List Byte) :
    (s.notifySes k cls p).rd R.MBX_DOME_STATE = s.rd R.MBX_DOME_STATE := by
  unfold State.notifySes
  extract_lets x held
  split
  · rfl
  · split
    · exact State.sendSlot_rd_dome s k _ _
    · split
      · rfl
      · exact State.wr_rd_ne _ _ (by decide)

theorem State.notify_rd_dome (s : State) (f code : Nat) (p : List Byte) :
    (s.notify f code p).rd R.MBX_DOME_STATE = s.rd R.MBX_DOME_STATE :=
  State.foldl_rd_of_mem _ (fun t k _ => by
    dsimp only
    split
    · exact t.notifySes_rd_dome k _ _
    · rfl) s

theorem State.recLoss_rd_dome (s : State) (sev : Nat) : (s.recLoss sev).rd R.MBX_DOME_STATE = s.rd R.MBX_DOME_STATE := by
  have hloss : R.MBX_DOME_STATE ≠ lossReg sev := by unfold lossReg; split <;> decide
  unfold State.recLoss
  extract_lets t u
  refine (State.notify_rd_dome _ _ _ _).trans ?_
  change u.rd _ = _
  simp only [u]
  split
  · exact (State.wr_rd_ne _ _ (by decide)).trans (State.wr_rd_ne _ _ hloss)
  · exact State.wr_rd_ne _ _ hloss

theorem State.post_rd_dome (s : State) (f : Nat) (e : Ev) : (s.post f e).rd R.MBX_DOME_STATE = s.rd R.MBX_DOME_STATE := by
  unfold State.post State.postRaw
  extract_lets t
  have ht : t.rd R.MBX_DOME_STATE = s.rd R.MBX_DOME_STATE := by
    simp only [t]
    split <;> rfl
  split
  · exact ht
  · exact (t.recLoss_rd_dome _).trans ht

/-- The register of Dome's state is written by its changes alone. -/
theorem BesideReg.dome : BesideReg R.MBX_DOME_STATE where
  notify := State.notify_rd_dome
  post := State.post_rd_dome
  signals := by decide
  drive := by decide

theorem State.domeSet_dome (s : State) {n : Nat} (hn : n < 8) : (s.domeSet n).dome = n := by
  have h := BesideReg.dome
  unfold State.domeSet
  split
  case isTrue hs => exact hs
  case isFalse =>
    extract_lets t u v
    have hv : v.rd R.MBX_DOME_STATE = t.rd R.MBX_DOME_STATE :=
      (h.pswEnables _).trans ((h.adrEnables u).trans (h.post _ _ _))
    have hend : ((if v.fieldOn then v else v.safOutputs).recShow).rd R.MBX_DOME_STATE = t.rd R.MBX_DOME_STATE := by
      refine (h.recShow _).trans ?_
      split
      · exact hv
      · exact (h.safOutputs v).trans hv
    calc ((if v.fieldOn then v else v.safOutputs).recShow).dome
        = fld (t.rd R.MBX_DOME_STATE) 2 0 := congrArg (fld · 2 0) hend
      _ = n := (State.wfSet_fd_same s _ (by decide) n).trans (Nat.mod_eq_of_lt hn)

/-! ### The end of a hold-up -/

theorem State.holdupOver_rd (s : State) (dur : Nat) : (s.holdupOver dur).rd R.PWR_HOLDUP_LAST = word (dur % 65536 + 65536) := by
  have h : BesideReg R.PWR_HOLDUP_LAST := .of_sys_pwr (by decide)
  unfold State.holdupOver
  extract_lets t u v
  refine (h.notify _ _ _ _).trans ((h.post _ _ _).trans ((h.recShow _).trans ((h.pnlHoldup _).trans ((h.returnStages _).trans ?_))))
  exact State.wr_rd_same _ _ _

/-- A recovered hold-up is over by the time that it lasted; what waited is performed from there. -/
theorem State.HoldupRecovers.exec_over {s : State} {f r : Nat} (h : s.HoldupRecovers f r) :
    exec .holdupRecovered s = .next (s.resettle (s.begun.holdupOver ((s.pwr.roseAt.getD r - f) / 2000)).performWaiting) := by
  obtain ⟨hf, hr, hh, hv, hconf, hg⟩ := h
  change execHoldupRecovered s = _
  refine State.runReset_next ?_
  split
  case h_1 f' r' hf' hr' =>
    obtain rfl : f = f' := Option.some.inj (hf.symm.trans hf')
    obtain rfl : r = r' := Option.some.inj (hr.symm.trans hr')
    refine (if_neg (by simp [hh, hv, hg, Nat.not_lt.2 hconf])).trans ?_
    extract_lets dur _ _ _ u
    change _ = u.performWaiting
    rfl
  case h_2 hne => exact absurd hr (hne f r hf)

theorem State.holdupOver_alive (s : State) (dur : Nat) : (s.holdupOver dur).pair.alive = decide (2 ≤ s.dome && s.dome ≤ 5) := by
  unfold State.holdupOver
  extract_lets t u v
  have hpnl (x : State) : x.pnlHoldup.pair = x.pair := by
    unfold State.pnlHoldup
    split <;> rfl
  have hsup (x : State) (i : Nat) : (x.supUpdate i).pair = x.pair := rfl
  have hret (x : State) : x.returnStages.pair = x.pair := by
    unfold State.returnStages State.safShedReturn State.camPhyReturn State.supUpdateAll
    dsimp only
    rw [State.setSaf_pair, State.setCam_pair, hsup, hsup, hsup, State.pair_of_besideDrive x.adrEnables.pswEnables_besideDrive,
      State.pair_of_besideDrive x.adrEnables_besideDrive]
  have hlast : (u.holdupLast dur 1).pair = u.pair := rfl
  rw [State.notify_pair, State.post_pair, State.recShow_pair, hpnl, hret, hlast]
  rfl

/-- Settles O8: each clause follows its command; what it says of registers beside the outputs passes through the enables of the drive,
the switches and the island. -/
theorem resetAndStartupComplete : Obligations.ResetAndStartupComplete := by
  unfold Obligations.ResetAndStartupComplete
  refine ⟨?vbatRiseVrst, ?holdupRecovered, ?holdupExpiry, ?brownOutReset, ?aonPowerLoss, ?wake, ?wake', ?powerOffHoldEnd,
    ?pwrHoldRelease, ?powerOnReset, ?pinReset, ?watchdogReset, ?deviceReset, ?safetyReset, ?pllLock, ?clockLoss,
    ?containerVerified, ?containerVerified', ?initComplete⟩
  case vbatRiseVrst =>
    intro mv s hmv hvbatOk hcoreOn hholdup
    change execVbatRiseVrst mv s = _
    refine State.runReset_next ?_
    simp [State.setPwr, Nat.not_le.2 hmv, hvbatOk, hcoreOn, hholdup]
  case holdupRecovered =>
    intro f r x s hfell hconf hrose hholdup hvbat hr hgood hcycle hreset
    obtain ⟨hp, _⟩ := State.powerClk_iff.1 (s.begun.holdupOver_powerClk ((x - f) / 2000))
    have hnone : (s.begun.holdupOver ((x - f) / 2000)).performWaiting = s.begun.holdupOver ((x - f) / 2000) := by
      unfold State.performWaiting
      rw [hp]
      simp [hcycle, hreset]
    have hexec := State.HoldupRecovers.exec_over ⟨hfell, hconf, hholdup, hvbat, hr, hgood⟩
    rw [hrose, Option.getD_some, hnone] at hexec
    refine ⟨_, hexec, ?_⟩
    rw [State.resettle_pwr, hp]
    have hrd : (s.resettle (s.begun.holdupOver ((x - f) / 2000))).rd R.PWR_HOLDUP_LAST = _ :=
      (State.resettle_rd _ _ _).trans (State.holdupOver_rd _ _)
    have halive := State.holdupOver_alive s.begun ((x - f) / 2000)
    rw [hrd]
    generalize s.begun.holdupOver ((x - f) / 2000) = u at halive ⊢
    exact ⟨rfl, rfl, rfl, rfl, halive⟩
  case holdupExpiry =>
    intro f s hfellAt hroseAt hconfAt hholdup hf
    change execHoldupExpiry s = _
    refine State.runReset_next ?_
    simp [hfellAt, hroseAt, hconfAt, hholdup, Nat.not_lt.2 hf]
  case brownOutReset =>
    intro s haonOn hreleasedAt hwoken
    change execBrownOutReset s = _
    refine State.runReset_next ?_
    simp [haonOn, hreleasedAt, hwoken]
  case aonPowerLoss =>
    intro s hcoreOn hvbatOk haonOn hlowAt
    change ∃ t, execAonPowerLoss s = .next t ∧ _
    refine State.runReset_complete ?_
    rw [if_neg (by simp [hcoreOn, hvbatOk, haonOn, Nat.not_lt.2 hlowAt])]
    exact ⟨rfl, rfl, congrArg Clk.running (s.resettle_clk_of_stands rfl)⟩
  case wake =>
    intro w s hw hstate
    change execWake w s = _
    refine State.runReset_next ?_
    simp [hw, hstate]
  case wake' =>
    intro w s hlow hhigh hen hdin htimer hsentry
    change execWake w s = _
    refine State.runReset_next ?_
    have hsrc : w.src = 1 ∨ w.src = 2 ∨ w.src = 3 ∨ w.src = 4 ∨ w.src = 5 ∨ w.src = 6 := by omega
    rcases hsrc with h | h | h | h | h | h <;> rw [h] at hen
    · simp [h, hen, hdin h]
    · simp [h, hen]
    · simp [h, hen]
    · simp [h, hen, htimer h]
    · simp [h, hen]
    · simp [h, hen, hsentry h]
  case powerOffHoldEnd =>
    intro t0 s hreleased ht0 hstate hpend
    change execPowerOffHoldEnd s = _
    refine State.runReset_next ?_
    simp [State.setPwr_bt, hreleased, Nat.not_lt.2 ht0, hstate, hpend]
  case pwrHoldRelease =>
    intro t0 s hcycleDue ht0 hholdup
    change execPwrHoldRelease s = _
    refine State.runReset_next ?_
    simp [hcycleDue, ht0, hholdup]
  case powerOnReset =>
    intro s
    change execPowerOnReset s = _
    refine State.runReset_next ?_
    simp
  case pinReset =>
    intro us s hcoreOn hwdogCfg hus
    change execPinReset us s = _
    refine State.runReset_next ?_
    simp [hcoreOn, hwdogCfg, hus]
  case watchdogReset =>
    intro s hcoreOn
    change execWatchdogReset s = _
    refine State.runReset_next ?_
    simp [hcoreOn]
  case deviceReset =>
    intro t0 s hresetDue ht0 hholdup
    change execDeviceReset s = _
    refine State.runReset_next ?_
    simp [hresetDue, ht0, hholdup]
  case safetyReset =>
    intro t0 s hsaf ht0 hcoreOn
    change execSafetyReset s = _
    refine State.runReset_next ?_
    simp [hsaf, ht0, hcoreOn]
  case pllLock =>
    intro s hrunning hcore
    change ∃ t, execPllLock s = .next t ∧ _
    unfold execPllLock
    rw [if_neg (by simp [hrunning, hcore])]
    refine ⟨_, State.runAt_next rfl, rfl, rfl, ?_⟩
    unfold State.fd
    rw [State.settleAt_rd]
    change State.fd _ _ _ _ = _
    unfold State.xtalShow
    rw [State.wb_fd_ne _ _ (by decide) (by decide), State.wb_fd_ne _ _ (by decide) (by decide)]
    unfold State.fd
    rw [State.wb_rd, if_neg (by decide)]
    exact State.wfSet_fd_same _ _ (by decide) 3
  case clockLoss =>
    intro tcxo s hrunning hclk
    change ∃ t, execClockLoss tcxo s = .next t ∧ _
    unfold execClockLoss
    have hgo : ¬ (!s.clk.running || (s.clk.lost && !(tcxo && s.bt R.SYS_CLK_STATUS 1))) = true := by
      rcases hclk with h | ⟨h, h'⟩ <;> simp [*]
    rw [if_neg hgo]
    refine ⟨_, State.runAt_next rfl, rfl, ?_⟩
    extract_lets _ b t u
    have hu : u.rd R.SYS_PLL_UNLOCKS = s.rd R.SYS_PLL_UNLOCKS + 1#32 := by
      have ht : t.rd R.SYS_PLL_UNLOCKS = s.rd R.SYS_PLL_UNLOCKS + 1#32 := by
        simp only [t]
        rw [State.wb_rd, if_neg (by decide), State.inc_rd, if_pos rfl]
        rfl
      simp only [u]
      split
      · rw [State.wb_rd, if_neg (by decide), ht]
      · exact ht
    clear_value u
    rw [State.settleAt_rd, State.safClockLoss_rd _ (BesideReg.of_sys_pwr (by decide))]
    refine ⟨?_, hu⟩
    exact congrArg Power.clockEvent (State.safClockLoss_pwr _)
  case containerVerified =>
    intro s hdome hclk hcoreOn hupd hupd' hthird
    change execContainerVerified true s = _
    refine State.runIn_next ?_
    simp [hdome, hclk, hcoreOn, hupd, hupd', hthird]
  case containerVerified' =>
    intro s hdome hclk hcoreOn
    change execContainerVerified false s = _
    refine State.runIn_next ?_
    simp [hdome, hclk, hcoreOn]
  case initComplete =>
    intro subOk loop s hdome hrunning
    refine ⟨?_, State.domeSet_dome _ (by decide), ?_⟩
    · change execInitComplete subOk loop s = _
      refine State.run_next ?_
      simp [hdome, hrunning]
    · exact (BesideReg.of_sys_pwr (by decide)).domeSet _ _ (by decide)

end Sys2Proof.Machine
end

section
/-!
SUPPORT. The state of the safety island (its STATE field: START, STO, RUN, SS1 or LOCK): the operations of the buses, the cameras, the
switch, the pair, the update and the stores leave it alone.
-/
namespace Sys2Proof.Machine

/-- The island's state. -/
def State.islandSt (s : State) : Nat := s.saf.st

theorem State.islandSt_of_saf {s t : State} (h : t.saf = s.saf) : t.islandSt = s.islandSt := congrArg Saf.st h

theorem State.islandSt_of_besideDrive {s t : State} (h : t.besideDrive = s.besideDrive) : t.islandSt = s.islandSt :=
  State.islandSt_of_saf (State.saf_of_besideDrive h)

theorem State.islandSt_of_safCore {s t : State} (h : t.safCore = s.safCore) : t.islandSt = s.islandSt := State.st_of_safCore h

@[simp] theorem State.ite_islandSt (c : Prop) [Decidable c] (s t : State) :
    (if c then s else t).islandSt = if c then s.islandSt else t.islandSt := apply_ite ..

/-- A loop each of whose steps keeps the island's state keeps it. -/
theorem State.foldl_islandSt {α : Type} {g : State → α → State} (hg : ∀ s x, (g s x).islandSt = s.islandSt) (l : List α)
    (s : State) : (l.foldl g s).islandSt = s.islandSt := foldl_keeps State.islandSt hg l s

/-! ### Registers, signals and the parts of the other functions -/

section
variable (s : State)

@[simp] theorem State.begun_islandSt : s.begun.islandSt = s.islandSt := rfl
@[simp] theorem State.wr_islandSt (a : Nat) (v : Word) : (s.wr a v).islandSt = s.islandSt := rfl
@[simp] theorem State.wb_islandSt (a b : Nat) (v : Bool) : (s.wb a b v).islandSt = s.islandSt := rfl
@[simp] theorem State.wfSet_islandSt (a hi lo v : Nat) : (s.wf_ a hi lo v).islandSt = s.islandSt := rfl
@[simp] theorem State.wr64_islandSt (lo hi v : Nat) : (s.wr64 lo hi v).islandSt = s.islandSt := rfl
@[simp] theorem State.inc_islandSt (a : Nat) : (s.inc a).islandSt = s.islandSt := rfl
@[simp] theorem State.addCnt_islandSt (a n : Nat) : (s.addCnt a n).islandSt = s.islandSt := rfl
@[simp] theorem State.setSig_islandSt (n : Nat) (v : Word) : (s.setSig n v).islandSt = s.islandSt := rfl
@[simp] theorem State.dropSig_islandSt (n : Nat) : (s.dropSig n).islandSt = s.islandSt := rfl
@[simp] theorem State.shadowWr_islandSt (a g : Nat) (v : Word) : (s.shadowWr a g v).islandSt = s.islandSt := rfl
@[simp] theorem State.setFn_islandSt (f : Nat) (g : Fn → Fn) : (s.setFn f g).islandSt = s.islandSt := rfl
@[simp] theorem State.setSes_islandSt (k : Nat) (g : Session → Session) : (s.setSes k g).islandSt = s.islandSt := rfl
@[simp] theorem State.setRing_islandSt (n : Nat) (g : DataRing → DataRing) : (s.setRing n g).islandSt = s.islandSt := rfl
@[simp] theorem State.setIn_islandSt (f : Inputs → Inputs) : (s.setIn f).islandSt = s.islandSt := rfl
@[simp] theorem State.setCst_islandSt (f : Cst → Cst) : (s.setCst f).islandSt = s.islandSt := rfl
@[simp] theorem State.setYpl_islandSt (f : Ypl → Ypl) : (s.setYpl f).islandSt = s.islandSt := rfl
@[simp] theorem State.setAst_islandSt (f : Ast → Ast) : (s.setAst f).islandSt = s.islandSt := rfl
@[simp] theorem State.setAstSrc_islandSt (k : Nat) (f : AstSrc → AstSrc) : (s.setAstSrc k f).islandSt = s.islandSt := rfl
@[simp] theorem State.setCam_islandSt (f : Cam → Cam) : (s.setCam f).islandSt = s.islandSt := rfl
@[simp] theorem State.setCamStr_islandSt (i : Nat) (f : CamStr → CamStr) : (s.setCamStr i f).islandSt = s.islandSt := rfl
@[simp] theorem State.setCamCtx_islandSt (c : Nat) (f : CamCtx → CamCtx) : (s.setCamCtx c f).islandSt = s.islandSt := rfl
@[simp] theorem State.setFrame_islandSt (uid : Nat) (f : CamFrame → CamFrame) : (s.setFrame uid f).islandSt = s.islandSt := rfl
@[simp] theorem State.dropFrame_islandSt (uid : Nat) : (s.dropFrame uid).islandSt = s.islandSt := rfl
@[simp] theorem State.setCan_islandSt (f : Can → Can) : (s.setCan f).islandSt = s.islandSt := rfl
@[simp] theorem State.setCtl_islandSt (n : Nat) (f : CanCtl → CanCtl) : (s.setCtl n f).islandSt = s.islandSt := rfl
@[simp] theorem State.setLin_islandSt (k : Nat) (f : LinCh → LinCh) : (s.setLin k f).islandSt = s.islandSt := rfl
@[simp] theorem State.setEth_islandSt (f : Eth → Eth) : (s.setEth f).islandSt = s.islandSt := rfl
@[simp] theorem State.setEthPort_islandSt (k : Nat) (f : EthPort → EthPort) : (s.setEthPort k f).islandSt = s.islandSt := rfl
@[simp] theorem State.setGptp_islandSt (f : Gptp → Gptp) : (s.setGptp f).islandSt = s.islandSt := rfl
@[simp] theorem State.setPair_islandSt (f : Pair → Pair) : (s.setPair f).islandSt = s.islandSt := rfl
@[simp] theorem State.setPos_islandSt (f : Pos → Pos) : (s.setPos f).islandSt = s.islandSt := rfl
@[simp] theorem State.setPrm_islandSt (f : Prm → Prm) : (s.setPrm f).islandSt = s.islandSt := rfl
@[simp] theorem State.setPwr_islandSt (f : Power → Power) : (s.setPwr f).islandSt = s.islandSt := rfl
@[simp] theorem State.setRec_islandSt (f : Recorder → Recorder) : (s.setRec f).islandSt = s.islandSt := rfl
@[simp] theorem State.setUpd_islandSt (f : Upd → Upd) : (s.setUpd f).islandSt = s.islandSt := rfl
@[simp] theorem State.setCh_islandSt (n : Nat) (f : AdrCh → AdrCh) : (s.setCh n f).islandSt = s.islandSt := rfl
@[simp] theorem State.setBank_islandSt (k : Nat) (f : AdrBank → AdrBank) : (s.setBank k f).islandSt = s.islandSt := rfl
@[simp] theorem State.setSw_islandSt (n : Nat) (f : PswCh → PswCh) : (s.setSw n f).islandSt = s.islandSt := rfl
@[simp] theorem State.setGrp_islandSt (g : Nat) (f : PswGrp → PswGrp) : (s.setGrp g f).islandSt = s.islandSt := rfl
@[simp] theorem State.setSo_islandSt (n : Nat) (f : SafSo → SafSo) : (s.setSo n f).islandSt = s.islandSt := rfl
@[simp] theorem State.setConn_islandSt (n : Nat) (f : SafConn → SafConn) : (s.setConn n f).islandSt = s.islandSt := rfl

@[simp] theorem State.notify_islandSt (f code : Nat) (p : List Byte) : (s.notify f code p).islandSt = s.islandSt :=
  State.islandSt_of_saf (s.notify_saf f code p)

@[simp] theorem State.post_islandSt (f : Nat) (e : Ev) : (s.post f e).islandSt = s.islandSt :=
  State.islandSt_of_saf (s.post_saf f e)

@[simp] theorem State.postRaw_islandSt (code src sev : Nat) (w : List Word) : (s.postRaw code src sev w).islandSt = s.islandSt :=
  State.islandSt_of_saf (s.postRaw_saf code src sev w)

/-! ### Rings and answers -/

@[simp] theorem State.raiseIrq_islandSt : s.raiseIrq.islandSt = s.islandSt := by
  unfold State.raiseIrq
  dsimp only
  split
  · rfl
  · split <;> rfl

@[simp] theorem State.advanceProd_islandSt (n : Nat) : (s.advanceProd n).islandSt = s.islandSt := by
  simp [State.advanceProd]

@[simp] theorem State.publishBytes_islandSt (n : Nat) (b : List Byte) : (s.publishBytes n b).islandSt = s.islandSt :=
  State.advanceProd_islandSt _ n

@[simp] theorem State.publish_islandSt (n : Nat) (x : Slot) : (s.publish n x).islandSt = s.islandSt := by
  unfold State.publish
  dsimp only
  rw [State.publishBytes_islandSt]
  split <;> rfl

@[simp] theorem State.sendResp_islandSt (c : Cmd) (x : Slot) : (s.sendResp c x).islandSt = s.islandSt := by
  unfold State.sendResp
  split
  · rfl
  · simp

@[simp] theorem State.keep_islandSt (k : Nat) (c : Cmd) (r : Option Slot) : (s.keep k c r).islandSt = s.islandSt := rfl

@[simp] theorem State.answer_islandSt (k op : Nat) (c : Cmd) (st : Nat) (p : List Byte) :
    (s.answer k op c st p).islandSt = s.islandSt := by
  simp [State.answer]

end

@[simp] theorem State.pump_islandSt (s : State) (n fuel : Nat) : (s.pump n fuel).islandSt = s.islandSt := by
  induction fuel generalizing s with
  | zero => rfl
  | succ fuel ih =>
    unfold State.pump
    split
    · rfl
    · split
      · rfl
      · split
        · dsimp only
          rw [ih, State.publishBytes_islandSt]
          split <;> rfl
        · rfl

@[simp] theorem State.stream_islandSt (s : State) (n : Nat) (p : List Byte) : (s.stream n p).2.islandSt = s.islandSt := by
  unfold State.stream
  split
  · rfl
  · split
    · exact State.pump_islandSt _ n 1
    · rfl

/-! ### CAN -/

section
variable (s : State)

@[simp] theorem State.canLevel_islandSt (n : Nat) : (s.canLevel n).islandSt = s.islandSt := rfl

@[simp] theorem State.canDropSub_islandSt (n : Nat) : (s.canDropSub n).islandSt = s.islandSt := by
  simp [State.canDropSub]

@[simp] theorem State.canClaimTo_islandSt (n st addr : Nat) : (s.canClaimTo n st addr).islandSt = s.islandSt := by
  simp [State.canClaimTo]

@[simp] theorem State.canPush_islandSt (n : Nat) (x : CanTx) : (s.canPush n x).islandSt = s.islandSt := by
  simp [State.canPush]

@[simp] theorem State.canSendClaim_islandSt (n : Nat) : (s.canSendClaim n).islandSt = s.islandSt := State.canPush_islandSt s n _

@[simp] theorem State.canClaimRx_islandSt (n : Nat) (x : CanRx) : (s.canClaimRx n x).islandSt = s.islandSt := by
  unfold State.canClaimRx
  dsimp only
  repeat' split
  all_goals simp

@[simp] theorem State.canShow_islandSt (n st : Nat) : (s.canShow n st).islandSt = s.islandSt := by
  simp [State.canShow]

/-- The objects of a controller that hold a frame lose it. -/
theorem State.clearObjects_islandSt (n : Nat) :
    ((List.range 64).foldl (fun (t : State) o => t.wb (R.CAN_OBJ_ST n o) 0 false) s).islandSt = s.islandSt :=
  State.foldl_islandSt (fun t o => t.wb_islandSt (R.CAN_OBJ_ST n o) 0 false) (List.range 64) s

@[simp] theorem State.canBusOff_islandSt (n : Nat) : (s.canBusOff n).islandSt = s.islandSt := by
  unfold State.canBusOff
  dsimp only
  rw [State.canShow_islandSt]
  split
  · rw [State.wb_islandSt, State.canLevel_islandSt, State.inc_islandSt, State.addCnt_islandSt, State.clearObjects_islandSt]
    rfl
  · rw [State.canLevel_islandSt, State.inc_islandSt, State.addCnt_islandSt, State.clearObjects_islandSt]
    rfl

@[simp] theorem State.canErrState_islandSt (n : Nat) : (s.canErrState n).islandSt = s.islandSt := by
  simp [State.canErrState]

@[simp] theorem State.canImport_islandSt (i : Nat) (data : List Byte) : (s.canImport i data).islandSt = s.islandSt := by
  unfold State.canImport
  dsimp only
  repeat' split
  all_goals simp

@[simp] theorem State.canImports_islandSt (bus ident : Nat) (xtd : Bool) (data : List Byte) :
    (s.canImports bus ident xtd data).islandSt = s.islandSt :=
  State.foldl_islandSt (fun t i => by simp) _ s

@[simp] theorem State.canRing_islandSt (i flags ident sof : Nat) (data : List Byte) :
    (s.canRing i flags ident sof data).islandSt = s.islandSt :=
  State.foldl_islandSt (fun t r => by simp) _ _

@[simp] theorem State.canStep5_islandSt (n : Nat) (x : CanRx) (island : Bool) : (s.canStep5 n x island).islandSt = s.islandSt := by
  unfold State.canStep5
  dsimp only
  split <;> simp

@[simp] theorem State.canClaimStart_islandSt (n : Nat) : (s.canClaimStart n).islandSt = s.islandSt := by
  simp [State.canClaimStart]

@[simp] theorem State.canRunSync_islandSt (n idle : Nat) : (s.canRunSync n idle).islandSt = s.islandSt := by
  simp [State.canRunSync, State.clearObjects_islandSt]

@[simp] theorem State.linSync_islandSt (k : Nat) : (s.linSync k).islandSt = s.islandSt := by
  simp [State.linSync]

@[simp] theorem State.canWakeUp_islandSt : s.canWakeUp.islandSt = s.islandSt := by
  unfold State.canWakeUp
  split
  · rfl
  · refine (State.setCan_islandSt _ _).trans ((State.foldl_islandSt (fun t k => ?_) _ _).trans
      (State.foldl_islandSt (fun t n => ?_) _ s))
    · simp
    · simp

@[simp] theorem State.canTake_islandSt (n : Nat) (x : CanTx) : (s.canTake n x).islandSt = s.islandSt := by
  unfold State.canTake
  split <;> rfl

/-! ### The redundant pair -/

@[simp] theorem State.adrEnables_islandSt : s.adrEnables.islandSt = s.islandSt := State.islandSt_of_saf s.adrEnables_saf

@[simp] theorem State.pswEnables_islandSt : s.pswEnables.islandSt = s.islandSt := State.islandSt_of_saf s.pswEnables_saf

@[simp] theorem State.pairGuard_islandSt (term : Nat) : (s.pairGuard term).islandSt = s.islandSt := rfl

@[simp] theorem State.pairPut_islandSt (can : Bool) (p : List Byte) : (s.pairPut can p).islandSt = s.islandSt := by
  unfold State.pairPut
  split
  · simp
  · split <;> rfl

@[simp] theorem State.pairGrant_islandSt (can : Bool) (ans : Nat) : (s.pairGrant can ans).islandSt = s.islandSt := by
  simp [State.pairGrant]

@[simp] theorem State.pairLeased_islandSt (can : Bool) (term ans : Nat) : (s.pairLeased can term ans).islandSt = s.islandSt := by
  unfold State.pairLeased
  split <;> rfl

@[simp] theorem State.pairNote_islandSt (st cause prev : Nat) : (s.pairNote st cause prev).islandSt = s.islandSt := by
  simp [State.pairNote]

@[simp] theorem State.pairShow_islandSt (st cause : Nat) : (s.pairShow st cause).islandSt = s.islandSt := rfl

@[simp] theorem State.pairLeave_islandSt (cause : Nat) : (s.pairLeave cause).islandSt = s.islandSt := by
  simp [State.pairLeave]

@[simp] theorem State.pairPath_islandSt : s.pairPath.islandSt = s.islandSt := by
  simp [State.pairPath]

@[simp] theorem State.pairRx_islandSt (can : Bool) (p : List Byte) (ack : Option Nat) : (s.pairRx can p ack).islandSt = s.islandSt := by
  unfold State.pairRx
  extract_lets b t kind cyc term u v w g x e c y
  have hx : x.islandSt = s.islandSt := by
    have hw : w.islandSt = s.islandSt := by
      simp only [w, v, u, State.setPair_islandSt, State.ite_islandSt, State.wb_islandSt, ite_self]
    clear_value w
    simp only [x]
    split
    · split
      · exact hw
      · split
        · exact (State.pairLeave_islandSt _ 0).trans hw
        · exact hw
    · exact hw
  have hy : y.islandSt = s.islandSt := by
    clear_value x
    simp only [y]
    split
    · split <;> exact hx
    · split
      · exact (x.pairLeased_islandSt can term _).trans hx
      · exact hx
  clear_value y
  split
  · rfl
  · split
    · rfl
    · split
      · refine (State.pairPath_islandSt _).trans ?_
        split
        · exact (t.pairLeave_islandSt 0).trans rfl
        · rfl
      · refine (State.pairPath_islandSt _).trans ?_
        split
        · exact (y.pairGrant_islandSt can _).trans hy
        · exact hy

/-! ### The corrections of the position service -/

theorem State.posFrame_islandSt (p : List Byte) : (s.posFrame p).2.islandSt = s.islandSt := by
  unfold State.posFrame
  dsimp only
  repeat' split
  all_goals rfl

end

theorem State.posParse_islandSt (s : State) (fuel : Nat) (p : List Byte) (a r : Nat) :
    (s.posParse fuel p a r).2.2.2.islandSt = s.islandSt := by
  induction fuel generalizing s p a r with
  | zero => rfl
  | succ fuel ih =>
    unfold State.posParse
    dsimp only
    split
    · rfl
    · split
      · rfl
      · exact (ih _ _ _ _).trans (s.posFrame_islandSt _)

@[simp] theorem State.posBytes_islandSt (s : State) (k : Nat) (p : List Byte) : (s.posBytes k p).2.2.islandSt = s.islandSt :=
  (State.setPos_islandSt _ _).trans (State.posParse_islandSt s _ _ 0 0)

/-! ### The lists of the sensors -/

section
variable (s : State)

@[simp] theorem State.astDisc_islandSt (k cause : Nat) : (s.astDisc k cause).islandSt = s.islandSt := rfl

@[simp] theorem State.astOfs_islandSt (k : Nat) : (s.astOfs k).islandSt = s.islandSt := rfl

@[simp] theorem State.astState_islandSt (k st : Nat) : (s.astState k st).islandSt = s.islandSt := by
  simp [State.astState]

@[simp] theorem State.astAccept_islandSt (k A seq time : Nat) (raw o : Int) (free filt : Bool) (ds : List AstDet) :
    (s.astAccept k A seq time raw o free filt ds).2.islandSt = s.islandSt := by
  unfold State.astAccept
  extract_lets x ofs tb e est use t n u v w
  have hw : w.islandSt = s.islandSt := by
    simp only [w, v, u, t, State.setAst_islandSt, State.ite_islandSt, State.wb_islandSt, State.wfSet_islandSt, State.setAstSrc_islandSt,
      ite_self]
  clear_value w
  split
  · rfl
  · split
    · rfl
    · exact ((w.astState k 2).astOfs_islandSt k).trans ((w.astState_islandSt k 2).trans hw)

@[simp] theorem State.astList_islandSt (k A seq time : Nat) (ds : List AstDet) : (s.astList k A seq time ds).2.islandSt = s.islandSt := by
  unfold State.astList
  dsimp only
  repeat' split
  all_goals simp

@[simp] theorem State.astPart_islandSt (k stamp : Nat) (p : List Byte) : (s.astPart k stamp p).2.islandSt = s.islandSt := by
  unfold State.astPart
  extract_lets x same t q parts agree got ds u
  have ht : t.islandSt = s.islandSt := by
    simp only [t]
    split
    · simp
    · rfl
  clear_value t
  repeat' split
  all_goals simp [u, ht]

@[simp] theorem State.astRx_islandSt (x : AstRx) : (s.astRx x).islandSt = s.islandSt := by
  unfold State.astRx
  dsimp only
  repeat' split
  all_goals simp

end

end Sys2Proof.Machine
end

section
/-!
SUPPORT. The state of the safety island: the cameras, the switch, Dome's state, the update, the stores, the strobes of the update groups
and the stages of a shed leave it alone, but that a shed ends RUN and SS1.
-/
namespace Sys2Proof.Machine

/-! ### Cameras -/

section
variable (s : State)

@[simp] theorem State.camAdd_islandSt (f : CamFrame) (g : CamPix) : (s.camAdd f g).islandSt = s.islandSt := by
  simp [State.camAdd]

@[simp] theorem State.camClose_islandSt (f : CamFrame) : (s.camClose f).islandSt = s.islandSt := by
  simp [State.camClose]

@[simp] theorem State.camDisc_islandSt (i : Nat) : (s.camDisc i).islandSt = s.islandSt := rfl

@[simp] theorem State.camBegin_islandSt (uid c : Nat) : (s.camBegin uid c).islandSt = s.islandSt := by
  simp [State.camBegin]

@[simp] theorem State.camModeChange_islandSt : s.camModeChange.islandSt = s.islandSt := by
  simp [State.camModeChange]

@[simp] theorem State.camPick_islandSt : s.camPick.islandSt = s.islandSt := by
  unfold State.camPick
  dsimp only
  split
  · simp
  · split
    · split <;> simp
    · split <;> simp

@[simp] theorem State.camShow_islandSt : s.camShow.islandSt = s.islandSt := by
  unfold State.camShow
  refine (State.wfSet_islandSt _ _ _ _ _).trans ((State.foldl_islandSt (fun t c => ?_) _ _).trans
    (State.foldl_islandSt (fun t i => ?_) _ s))
  · rfl
  · rfl

@[simp] theorem State.camStart_islandSt (i num : Nat) (x : CamSeg) (gap : Bool) : (s.camStart i num x gap).islandSt = s.islandSt := by
  unfold State.camStart
  extract_lets z inl mine wait full t u f v
  have hv : v.islandSt = s.islandSt := by
    have ht : t.islandSt = s.islandSt := by simp [t]
    change u.islandSt = s.islandSt
    simp only [u]
    clear_value t full wait
    split
    · exact ht
    · exact ht
  clear_value v
  split
  · split
    · exact (v.camBegin_islandSt _ _).trans hv
    · exact hv
  · exact hv

@[simp] theorem State.camState_islandSt (i st : Nat) : (s.camState i st).islandSt = s.islandSt := by
  simp [State.camState]

@[simp] theorem State.camSegment_islandSt (port : Nat) (x : CamSeg) : (s.camSegment port x).islandSt = s.islandSt := by
  unfold State.camSegment
  extract_lets cfg z gap t u v num line first n depth body w cur same f1 f2 f3 f4
  have hv : v.islandSt = s.islandSt := by
    have hu : u.islandSt = s.islandSt := by simp [u, t]
    simp only [v]
    generalize gap = g
    generalize u.camCur port = o
    cases g <;> cases o <;> exact hu
  have hf : f4.islandSt = s.islandSt := by
    have h1 : f1.islandSt = s.islandSt := by
      simp only [f1]
      generalize same = b
      generalize cur = o
      cases b <;> cases o
      case false.some f => exact (v.camClose_islandSt f).trans hv
      all_goals exact hv
    simp [f4, f3, f2, h1]
  have hw : w.islandSt = s.islandSt := hv
  split
  · rfl
  · split
    · simp [hv]
    · split
      · split <;> simp [hw]
      · split
        · simp [hv]
        · split <;> simp [hf]

/-! ### The switch -/

@[simp] theorem State.ethPolice_islandSt (x : EthRx) (vid : Nat) : (s.ethPolice x vid).2.islandSt = s.islandSt := by
  unfold State.ethPolice
  dsimp only
  repeat' split
  all_goals rfl

@[simp] theorem State.ethOut_islandSt (k : Nat) (x : EthRx) : (s.ethOut k x).islandSt = s.islandSt := rfl

@[simp] theorem State.ethDrain_islandSt (k : Nat) : (s.ethDrain k).islandSt = s.islandSt := by
  unfold State.ethDrain
  dsimp only
  refine (State.setEthPort_islandSt _ k _).trans ?_
  exact foldl_keeps (fun a : State × Nat × List (Nat × EthRx) => a.1.islandSt) (fun a e => by split <;> rfl) _ (s, 0, [])

@[simp] theorem State.ethEgress_islandSt (k : Nat) (x : EthRx) : (s.ethEgress k x).islandSt = s.islandSt := by
  simp [State.ethEgress]

@[simp] theorem State.ethForward_islandSt (x : EthRx) (vid : Nat) : (s.ethForward x vid).islandSt = s.islandSt := by
  unfold State.ethForward
  dsimp only
  split
  · simp
  · exact State.foldl_islandSt (fun t k => t.ethEgress_islandSt k x) _ s

@[simp] theorem State.ethLearn_islandSt (x : EthRx) (vid : Nat) : (s.ethLearn x vid).islandSt = s.islandSt := rfl

@[simp] theorem State.endpointAnswer_islandSt (port kind dip sip : Nat) (p : List Byte) :
    (s.endpointAnswer port kind dip sip p).islandSt = s.islandSt := rfl

@[simp] theorem State.repeated_islandSt (k op : Nat) (c : Cmd) (e : Kept) : (s.repeated k op c e).islandSt = s.islandSt := by
  unfold State.repeated
  dsimp only
  repeat' split
  all_goals simp

theorem State.entryBar_all_islandSt (op : Nat) (c : Cmd) : (s.entryBar op c).all (fun t => t.islandSt == s.islandSt) = true := by
  unfold State.entryBar
  dsimp only
  repeat' split
  all_goals simp

theorem State.entryBar_islandSt {op : Nat} {c : Cmd} {t : State} (h : s.entryBar op c = some t) : t.islandSt = s.islandSt := by
  have hall := s.entryBar_all_islandSt op c
  rw [h] at hall
  exact eq_of_beq hall

@[simp] theorem State.takeIn_islandSt (op : Nat) (c : Cmd) : (s.takeIn op c).islandSt = s.islandSt := rfl

@[simp] theorem State.kmpRx_islandSt (ip port : Nat) (p : List Byte) : (s.kmpRx ip port p).islandSt = s.islandSt := by
  unfold State.kmpRx
  extract_lets op c reply
  have hreply (t : State) (st : Nat) : (reply t st).islandSt = t.islandSt := t.sendResp_islandSt c _
  clear_value reply
  split
  · rfl
  · split
    · rfl
    · split
      · exact hreply s _
      · split
        · exact hreply _ _
        · split
          · exact hreply s _
          · split
            case h_1 t ht => exact s.entryBar_islandSt ht
            case h_2 => rfl

@[simp] theorem State.endpointUdp_islandSt (port sip sport dport : Nat) (p : List Byte) :
    (s.endpointUdp port sip sport dport p).islandSt = s.islandSt := by
  simp [State.endpointUdp]

@[simp] theorem State.endpointFrag_islandSt (port sip ident off : Nat) (more : Bool) (p : List Byte) :
    (s.endpointFrag port sip ident off more p).islandSt = s.islandSt := by
  unfold State.endpointFrag
  extract_lets mine old f parts rest whole
  clear_value whole
  split
  · split
    · rfl
    · exact State.endpointUdp_islandSt _ _ _ _ _ _
  · rfl

@[simp] theorem State.ethModule_islandSt (x : EthRx) : (s.ethModule x).islandSt = s.islandSt := by
  unfold State.ethModule
  split
  · rfl
  · dsimp only
    split <;> simp

@[simp] theorem State.jspRx_islandSt (c : Nat) (p : List Byte) : (s.jspRx c p).islandSt = s.islandSt :=
  State.islandSt_of_safCore (s.jspRx_safCore c p)

@[simp] theorem State.islandUdp_islandSt (sip sport : Nat) (p : List Byte) : (s.islandUdp sip sport p).islandSt = s.islandSt := by
  unfold State.islandUdp
  split
  · simp
  · rfl

@[simp] theorem State.ethSwitch_islandSt (x : EthRx) (vid : Nat) : (s.ethSwitch x vid).islandSt = s.islandSt := by
  unfold State.ethSwitch
  extract_lets cam t u
  have ht : t.islandSt = s.islandSt := s.ethLearn_islandSt x vid
  have hu : u.islandSt = s.islandSt := (t.ethModule_islandSt x).trans ht
  clear_value u t cam
  split
  · simp
  · split
    · split <;> simp [hu]
    · split
      · split <;> simp [ht]
      · simp [ht]

/-! ### Dome's state, the recorder, the update and the parameter store -/

@[simp] theorem State.recShow_islandSt : s.recShow.islandSt = s.islandSt := rfl

@[simp] theorem State.recClose_islandSt : s.recClose.islandSt = s.islandSt := rfl

@[simp] theorem State.safOutputs_islandSt : s.safOutputs.islandSt = s.islandSt := State.islandSt_of_safCore s.safOutputs_safCore

@[simp] theorem State.domeSet_islandSt (n : Nat) : (s.domeSet n).islandSt = s.islandSt := by
  simp [State.domeSet]

@[simp] theorem State.domeRefresh_islandSt : s.domeRefresh.islandSt = s.islandSt := by
  simp [State.domeRefresh]

@[simp] theorem State.updNote_islandSt : s.updNote.islandSt = s.islandSt := State.notify_islandSt s _ _ _

@[simp] theorem State.updStart_islandSt (k : Nat) (p : List Byte) : (s.updStart k p).islandSt = s.islandSt := by
  simp [State.updStart]

@[simp] theorem State.updPhase_islandSt (n : Nat) : (s.updPhase n).islandSt = s.islandSt := State.updNote_islandSt _

@[simp] theorem State.updBlockDone_islandSt (r : Running) : (s.updBlockDone r).islandSt = s.islandSt := by
  simp [State.updBlockDone]

@[simp] theorem State.updEndDone_islandSt (r : Running) : (s.updEndDone r).islandSt = s.islandSt := by
  unfold State.updEndDone
  split
  · simp
  · dsimp only
    refine (State.updPhase_islandSt _ 2).trans ?_
    split
    · split <;> rfl
    · rfl

@[simp] theorem State.prmShow_islandSt : s.prmShow.islandSt = s.islandSt := rfl

@[simp] theorem State.prmTxn_islandSt (g : PrmStore → PrmStore) : (s.prmTxn g).islandSt = s.islandSt := by
  unfold State.prmTxn
  dsimp only
  split
  · exact State.notify_islandSt _ _ _ _
  · rfl

@[simp] theorem State.prmCalDone_islandSt (p : List Byte) : (s.prmCalDone p).islandSt = s.islandSt := rfl

@[simp] theorem State.prmImportDone_islandSt (p : List Byte) : (s.prmImportDone p).islandSt = s.islandSt := by
  simp [State.prmImportDone]

@[simp] theorem State.initCounts_islandSt : s.initCounts.islandSt = s.islandSt := by
  simp [State.initCounts, State.recInit]

@[simp] theorem State.mirrorWrite_islandSt : s.mirrorWrite.islandSt = s.islandSt := by
  simp [State.mirrorWrite]

@[simp] theorem State.patchApplied_islandSt (f o : Nat) (v none_ : List Byte) : (s.patchApplied f o v none_).islandSt = s.islandSt :=
  State.prmTxn_islandSt _ _

theorem State.tareDone_islandSt {x : List Byte × State} (h : s.tareDone = some x) : x.2.islandSt = s.islandSt := by
  unfold State.tareDone at h
  dsimp only at h
  split at h
  · exact absurd h (by simp)
  · split at h
    · exact absurd h (by simp)
    · obtain rfl := Option.some.inj h
      exact State.patchApplied_islandSt _ _ _ _ _

@[simp] theorem State.serviceUp_islandSt : s.serviceUp.islandSt = s.islandSt :=
  State.foldl_islandSt (fun t f => by simp) _ s

/-! ### The strobe that ends a tare -/

@[simp] theorem State.afterUg5_islandSt (old : State) : (old.afterUg5 s).islandSt = s.islandSt := by
  unfold State.afterUg5
  refine (State.foldl_islandSt (fun t n => t.dropSig_islandSt n) _ _).trans ((State.foldl_islandSt (fun t j => ?_) _ _).trans
    (State.setIn_islandSt s _))
  simp [State.setSpd]

@[simp] theorem State.strobe_inputs_islandSt : (s.strobe 5).islandSt = s.islandSt := by
  unfold State.strobe
  dsimp only
  exact State.afterUg5_islandSt s _

/-! ### The stages of a shed and their return -/

@[simp] theorem State.supUpdateAll_islandSt : s.supUpdateAll.islandSt = s.islandSt := by
  have hsup (t : State) (i : Nat) : (t.supUpdate i).islandSt = t.islandSt := rfl
  rw [State.supUpdateAll, hsup, hsup, hsup]

@[simp] theorem State.pswShed_islandSt : s.pswShed.islandSt = s.islandSt := by
  refine (State.islandSt_of_besideDrive (State.pswShowAll_besideDrive _)).trans (State.foldl_islandSt (fun t g => ?_) _ s)
  have hdown (u : State) : (u.grpDown g).islandSt = u.islandSt := State.islandSt_of_besideDrive (u.grpDown_besideDrive g)
  simp [State.grpUvOn, State.pswGroupNote, hdown]

@[simp] theorem State.camShed_islandSt : s.camShed.islandSt = s.islandSt := by
  refine (State.camShow_islandSt _).trans ((State.camPick_islandSt _).trans (State.foldl_islandSt (fun t i => ?_) _ s))
  split
  · simp
  · rfl

@[simp] theorem State.ethShed_islandSt : s.ethShed.islandSt = s.islandSt :=
  State.foldl_islandSt (fun t k => by simp [State.ethLinkSet]) _ s

@[simp] theorem State.returnStages_islandSt : s.returnStages.islandSt = s.islandSt := by
  have hcam (t : State) : t.camPhyReturn.islandSt = t.islandSt := rfl
  have hsaf (t : State) : t.safShedReturn.islandSt = t.islandSt := rfl
  simp [State.returnStages, hcam, hsaf]

/-- A shed finds an island that is neither in RUN nor in SS1 where it leaves it. -/
theorem State.safShed_islandSt (h2 : s.islandSt ≠ 2) (h3 : s.islandSt ≠ 3) : s.safShed.islandSt = s.islandSt := by
  have h2 : s.saf.st ≠ 2 := h2
  have h3 : s.saf.st ≠ 3 := h3
  unfold State.safShed
  rw [State.safOutputs_islandSt, if_neg (by simp [h2, h3])]

theorem State.shedStages_islandSt (h2 : s.islandSt ≠ 2) (h3 : s.islandSt ≠ 3) : s.shedStages.islandSt = s.islandSt := by
  have h : s.adrEnables.pswShed.pswEnables.supUpdateAll.camShed.ethShed.islandSt = s.islandSt := by simp
  unfold State.shedStages
  dsimp only
  rw [State.safShed_islandSt _ (by rw [h]; exact h2) (by rw [h]; exact h3), h]

/-! ### Commands of the mailbox -/

@[simp] theorem State.enter_islandSt (f op k : Nat) (c : Cmd) : (s.enter f op k c).islandSt = s.islandSt :=
  State.islandSt_of_saf (s.enter_saf f op k c)

/-- A command of the mailbox whose body leaves the island's state alone leaves it alone. -/
theorem State.command_islandSt {f b role : Nat} {c : Cmd} {body : Nat → State → Reply × State}
    (h : ∀ k t, (body k t).2.islandSt = t.islandSt) : (s.command f b role c body).islandSt = s.islandSt := by
  have hin (op : Nat) : (s.takeInbox op c).islandSt = s.islandSt := rfl
  have hrespond (k op : Nat) (r : Reply × State) : (State.respond k op c r).islandSt = r.2.islandSt := by
    obtain ⟨st | _ | _, t⟩ := r
    · exact State.answer_islandSt t k op c _ _
    · rfl
    · rfl
  unfold State.command
  dsimp only
  repeat' split
  all_goals simp [hin, hrespond, h]

end

end Sys2Proof.Machine
end

section
/-!
PROOF. Chapter 16: the LOCK state of the island.
-/
namespace Sys2Proof.Machine

/-! ### Commands whose footprint holds the island -/

/-- The commands with a footprint that may write the island. -/
def reachesIsland : Instr → Bool
  | .vrstShed _ | .overvoltageShed _ | .overvoltageRecover _ | .containerVerified _ | .safCycle _ | .safDiscrepancy _
  | .safSpeedDiscrepancy _ | .safTestPulse _ _ | .safStandstill _ | .safTMaxExpiry | .safSoTest _ _ | .safEdmTimeout _
  | .safResetInput _ | .safSelfTestDone _ _ _ _ | .safReadyCheck | .safSealChange _ | .safStopReq _ | .safReadParams _
  | .safFaultLog _ | .safParamWrite _ | .jasperFrameRx _ _ | .jasperWatchdog _ | .jasperProduce _ | .canFrameRx _ _
  | .canTxComplete _ _ _ | .canBusError _ _ _ _ | .ethFrameRx _ | .updBegin _ | .updAbort _ | .classCCommandDone _ => true
  | _ => false

theorem foot_saf (i : Instr) : (foot i).any (fun F => F.parts.contains .saf) = reachesIsland i := by
  cases i <;> rfl

/-- A command whose footprint does not hold the island leaves it alone. -/
theorem exec_saf_of_foot {i : Instr} {F : Foot} {s t : State} (hF : foot i = some F) (hi : reachesIsland i = false)
    (h : exec i s = .next t) : t.saf = s.saf := by
  have hsaf := foot_saf i
  rw [hF, hi, Option.any_some] at hsaf
  exact (commandFrames i F s t hF h).saf hsaf

/-- What an effect leaves of the island's state, its command leaves of it. -/
theorem State.runIn_islandSt {F : Foot} {f : State → State} {s t : State} (hf : (f s.begun).islandSt = s.islandSt)
    (h : s.runIn F f = .next t) : t.islandSt = s.islandSt := by
  obtain rfl : F.finish s (f s.begun) = t := Host.Outcome.next.inj ((State.runIn_next rfl).symm.trans h)
  unfold State.islandSt
  rw [Foot.finish_saf]
  split
  · exact hf
  · rfl

/-- A change of the island that keeps its state. -/
theorem State.setSaf_islandSt (s : State) {f : Saf → Saf} (hf : ∀ x, (f x).st = x.st) : (s.setSaf f).islandSt = s.islandSt :=
  hf s.saf

/-! ### The island's own commands in LOCK -/

theorem exec_safCycle_locked {x : SafIn} {s t : State} (hs : s.islandSt = 4) (h : exec (.safCycle x) s = .next t) :
    t.islandSt = 4 := by
  by_cases hgo : s.saf.powered = true ∧ s.saf.cycleAt + fabMs 1 ≤ s.clk.now
  · obtain ⟨hp, hdue⟩ := hgo
    obtain ⟨t', ht, u, env, still, tmax, reset, hu, -, -, -, -, hst, -⟩ := State.safCycle_decides (x := x) hp hdue
    obtain rfl := Host.Outcome.next.inj (ht.symm.trans h)
    exact hst.trans (State.safDecide_locked (hu.trans hs) env still tmax reset)
  · change execSafCycle x s = _ at h
    unfold execSafCycle at h
    refine (State.runIn_islandSt ?_ h).trans hs
    have hrest : (!s.begun.saf.powered || decide (s.begun.clk.now < s.begun.saf.cycleAt + fabMs 1)) = true := by
      rcases Decidable.not_and_iff_or_not.1 hgo with hp | hdue
      · simp [hp]
      · simp [Nat.lt_of_not_le hdue]
    rw [if_pos hrest]
    rfl

theorem exec_safStandstill_locked {m : Nat} {s t : State} (hs : s.islandSt = 4) (h : exec (.safStandstill m) s = .next t) :
    t.islandSt = 4 := by
  change execSafStandstill m s = _ at h
  unfold execSafStandstill at h
  refine (State.runIn_islandSt ?_ h).trans hs
  extract_lets u
  have hu : u.saf.st ≠ 3 := fun e => by
    have : s.saf.st = 3 := e
    have hs : s.saf.st = 4 := hs
    omega
  split
  · rw [if_neg (by simp [hu])]
    rfl
  · rfl

theorem exec_safReadyCheck_locked {s t : State} (hs : s.islandSt = 4) (h : exec .safReadyCheck s = .next t) : t.islandSt = 4 := by
  change execSafReadyCheck s = _ at h
  unfold execSafReadyCheck at h
  refine (State.runIn_islandSt ?_ h).trans hs
  extract_lets bad u v
  have hu : u.saf.st = 4 := hs
  have hv : v = u := by
    simp only [v]
    rw [if_neg (by simp [hu]), if_neg (by simp [hu])]
  split
  · rfl
  · rw [hv]
    exact (State.islandSt_of_saf u.safMirror_saf).trans rfl

theorem exec_safSealChange_locked {obj : Nat} {s t : State} (hs : s.islandSt = 4) (h : exec (.safSealChange obj) s = .next t) :
    t.islandSt = 4 := by
  change execSafSealChange obj s = _ at h
  unfold execSafSealChange at h
  refine (State.runIn_islandSt ?_ h).trans hs
  extract_lets u v
  have hv : v.islandSt = 4 := by
    have hu : u.islandSt = s.islandSt := s.begun.setSaf_islandSt fun _ => rfl
    exact (State.islandSt_of_saf (u.safFaultNote_saf 17 obj true)).trans (hu.trans hs)
  clear_value v u
  have hst : v.saf.st = 4 := hv
  split
  · rfl
  · rw [if_pos (by simp [hst])]
    exact (State.islandSt_of_saf v.safMirror_saf).trans (hv.trans hs.symm)

theorem exec_safTestPulse_islandSt {k : Nat} {x : SafTp} {s t : State} (h : exec (.safTestPulse k x) s = .next t) :
    t.islandSt = s.islandSt := by
  change execSafTestPulse k x s = _ at h
  unfold execSafTestPulse at h
  refine State.runIn_islandSt ?_ h
  extract_lets p fed badOwn cross bad now u
  split
  · rfl
  · exact State.foldl_islandSt (fun v i => State.islandSt_of_safCore (v.safRaise_safCore 7 i)) _ u

/-! ### What ends a command of class C -/

theorem State.classCAbandon_islandSt (s : State) (r : Running) : (s.classCAbandon r).islandSt = s.islandSt := by
  simp [State.classCAbandon]

theorem State.classCAnswer_islandSt (s : State) (r : Running) (st : Nat) (p : List Byte) :
    (s.classCAnswer r st p).islandSt = s.islandSt := by
  unfold State.classCAnswer
  dsimp only
  split
  · exact State.answer_islandSt _ _ _ _ _ _
  · rfl

theorem State.classCEnd_islandSt {s : State} {r : Running} {x : State × Nat × List Byte} (h : s.classCEnd r = some x) :
    x.1.islandSt = s.islandSt := by
  have hall : (s.classCEnd r).all (fun x => x.1.islandSt == s.islandSt) = true := by
    unfold State.classCEnd
    split
    · cases ht : s.tareDone with
      | none => rfl
      | some y => simp [s.tareDone_islandSt ht]
    · have hwriting : (s.setSaf (fun x => { x with writing := none })).islandSt = s.islandSt := rfl
      repeat' split
      all_goals simp [hwriting]
  rw [h] at hall
  exact eq_of_beq hall

theorem exec_classCCommandDone_islandSt {fn : Nat} {s t : State} (h : exec (.classCCommandDone fn) s = .next t) :
    t.islandSt = s.islandSt := by
  change execClassCCommandDone fn s = _ at h
  unfold execClassCCommandDone at h
  refine State.runIn_islandSt ?_ h
  rw [← s.begun_islandSt]
  generalize s.begun = u
  split
  case h_1 => rfl
  case h_2 r _ =>
    split
    case h_1 x hx => exact (x.1.classCAnswer_islandSt r _ _).trans (State.classCEnd_islandSt hx)
    case h_2 =>
      split
      · exact (State.classCAnswer_islandSt _ r _ _).trans (u.classCAbandon_islandSt r)
      · rfl

/-! ### Every command with a footprint -/

/-- A body that is run and leaves the island's state alone: the command it is the effect of does. -/
theorem State.runIn_command_islandSt {F : Foot} {f b role : Nat} {c : Cmd} {body : Nat → State → Reply × State} {s t : State}
    (hbody : ∀ k u, (body k u).2.islandSt = u.islandSt) (h : s.runIn F (fun s => s.command f b role c body) = .next t) :
    t.islandSt = s.islandSt :=
  State.runIn_islandSt (s.begun.command_islandSt hbody) h

theorem exec_vrstShed_locked {mv : Nat} {s t : State} (hs : s.islandSt = 4) (h : exec (.vrstShed mv) s = .next t) :
    t.islandSt = 4 := by
  change execVrstShed mv s = _ at h
  unfold execVrstShed at h
  refine (State.runIn_islandSt ?_ h).trans hs
  extract_lets u v w
  have hw : w.islandSt = s.islandSt := by
    have hv : (v.setPair (fun p => { p with alive := false })).islandSt = s.islandSt := rfl
    refine (State.recClose_islandSt _).trans ((State.shedStages_islandSt _ ?_ ?_).trans hv)
    · rw [hv, hs]; decide
    · rw [hv, hs]; decide
  clear_value w
  split
  · split <;> rfl
  · split
    · rfl
    · split
      · rfl
      · refine (State.recShow_islandSt _).trans ?_
        split
        · exact hw
        · exact w.mirrorWrite_islandSt.trans hw

theorem exec_overvoltageShed_locked {mv : Nat} {s t : State} (hs : s.islandSt = 4) (h : exec (.overvoltageShed mv) s = .next t) :
    t.islandSt = 4 := by
  change execOvervoltageShed mv s = _ at h
  unfold execOvervoltageShed at h
  refine (State.runIn_islandSt ?_ h).trans hs
  have hset : (s.begun.setPwr (fun p => { p with overShed := true })).islandSt = s.islandSt := rfl
  have hshed := State.shedStages_islandSt (s.begun.setPwr (fun p => { p with overShed := true })) (by rw [hset, hs]; decide)
    (by rw [hset, hs]; decide)
  split
  · rfl
  · exact (State.post_islandSt _ _ _).trans (hshed.trans hset)

theorem exec_overvoltageRecover_islandSt {mv : Nat} {s t : State} (h : exec (.overvoltageRecover mv) s = .next t) :
    t.islandSt = s.islandSt := by
  change execOvervoltageRecover mv s = _ at h
  unfold execOvervoltageRecover at h
  refine State.runIn_islandSt ?_ h
  split
  · rfl
  · exact (State.returnStages_islandSt _).trans rfl

theorem exec_containerVerified_islandSt {ok : Bool} {s t : State} (h : exec (.containerVerified ok) s = .next t) :
    t.islandSt = s.islandSt := by
  change execContainerVerified ok s = _ at h
  unfold execContainerVerified at h
  refine State.runIn_islandSt ?_ h
  extract_lets good u
  have hu : u.islandSt = s.islandSt := rfl
  clear_value u good
  split
  · rfl
  · split
    · exact (State.domeSet_islandSt _ 1).trans hu
    · simp [hu]

theorem exec_safDiscrepancy_islandSt {i : Nat} {s t : State} (h : exec (.safDiscrepancy i) s = .next t) : t.islandSt = s.islandSt := by
  change execSafDiscrepancy i s = _ at h
  unfold execSafDiscrepancy at h
  refine State.runIn_islandSt ?_ h
  split
  · exact State.islandSt_of_safCore (s.begun.safPairFault_safCore i)
  · rfl

theorem exec_safSpeedDiscrepancy_islandSt {m : Nat} {s t : State} (h : exec (.safSpeedDiscrepancy m) s = .next t) :
    t.islandSt = s.islandSt := by
  change execSafSpeedDiscrepancy m s = _ at h
  unfold execSafSpeedDiscrepancy at h
  refine State.runIn_islandSt ?_ h
  split
  · exact State.islandSt_of_safCore (s.begun.safMonFault_safCore m)
  · rfl

theorem exec_safTMaxExpiry_locked {s t : State} (hs : s.islandSt = 4) (h : exec .safTMaxExpiry s = .next t) : t.islandSt = 4 := by
  change execSafTMaxExpiry s = _ at h
  unfold execSafTMaxExpiry at h
  refine (State.runIn_islandSt ?_ h).trans hs
  have hst : s.saf.st = 4 := hs
  rw [if_neg (by simp [hst])]
  rfl

theorem exec_safSoTest_islandSt {n : Nat} {ok : Bool} {s t : State} (h : exec (.safSoTest n ok) s = .next t) :
    t.islandSt = s.islandSt := by
  change execSafSoTest n ok s = _ at h
  unfold execSafSoTest at h
  refine State.runIn_islandSt ?_ h
  extract_lets u
  split
  · split
    · rfl
    · exact State.islandSt_of_safCore (u.safRaise_safCore 8 n)
  · rfl

theorem exec_safEdmTimeout_islandSt {n : Nat} {s t : State} (h : exec (.safEdmTimeout n) s = .next t) : t.islandSt = s.islandSt := by
  change execSafEdmTimeout n s = _ at h
  unfold execSafEdmTimeout at h
  refine State.runIn_islandSt ?_ h
  split
  · exact State.islandSt_of_safCore (s.begun.safEdm_safCore n)
  · rfl

theorem exec_safResetInput_locked {i : Nat} {s t : State} (hs : s.islandSt = 4) (h : exec (.safResetInput i) s = .next t) :
    t.islandSt = 4 := by
  change execSafResetInput i s = _ at h
  unfold execSafResetInput at h
  refine (State.runIn_islandSt ?_ h).trans hs
  split
  · rfl
  · extract_lets u
    have hu : u.saf.st = 4 := hs
    split
    · rw [State.safReset_stopped (by rw [hu]; decide)]
      rfl
    · rfl

theorem exec_safSelfTestDone_locked {ok : Bool} {addr dip : Nat} {image : Bool} {s t : State} (hs : s.islandSt = 4)
    (h : exec (.safSelfTestDone ok addr dip image) s = .next t) :
    t.islandSt = 4 := by
  change execSafSelfTestDone ok addr dip image s = _ at h
  unfold execSafSelfTestDone at h
  refine (State.runIn_islandSt ?_ h).trans hs
  have hst : s.saf.st = 4 := hs
  rw [if_pos (by simp [hst])]
  rfl

theorem exec_jasperFrameRx_islandSt {n : Nat} {p : List Byte} {s t : State} (h : exec (.jasperFrameRx n p) s = .next t) :
    t.islandSt = s.islandSt := by
  change execJasperFrameRx n p s = _ at h
  unfold execJasperFrameRx at h
  refine State.runIn_islandSt ?_ h
  exact s.begun.jspRx_islandSt n p

theorem exec_jasperWatchdog_islandSt {n : Nat} {s t : State} (h : exec (.jasperWatchdog n) s = .next t) : t.islandSt = s.islandSt := by
  change execJasperWatchdog n s = _ at h
  unfold execJasperWatchdog at h
  refine State.runIn_islandSt ?_ h
  extract_lets k b
  split
  · exact State.islandSt_of_safCore (s.begun.connFail_safCore n 4)
  · rfl

theorem exec_jasperProduce_islandSt {n : Nat} {s t : State} (h : exec (.jasperProduce n) s = .next t) : t.islandSt = s.islandSt := by
  change execJasperProduce n s = _ at h
  unfold execJasperProduce at h
  refine State.runIn_islandSt ?_ h
  dsimp only
  split
  · exact (State.islandSt_of_safCore (State.jspSend_safCore _ n)).trans rfl
  · rfl

theorem exec_canFrameRx_islandSt {n : Nat} {x : CanRx} {s t : State} (h : exec (.canFrameRx n x) s = .next t) :
    t.islandSt = s.islandSt := by
  change execCanFrameRx n x s = _ at h
  unfold execCanFrameRx at h
  refine State.runIn_islandSt ?_ h
  dsimp only
  repeat' split
  all_goals simp

theorem exec_canTxComplete_islandSt {n sof res : Nat} {s t : State} (h : exec (.canTxComplete n sof res) s = .next t) :
    t.islandSt = s.islandSt := by
  change execCanTxComplete n sof res s = _ at h
  unfold execCanTxComplete at h
  refine State.runIn_islandSt ?_ h
  split
  · rfl
  · split
    case h_1 => rfl
    case h_2 x l hready =>
      extract_lets ctrl t u v w c y z
      have ht : t.islandSt = s.islandSt := s.begun.canTake_islandSt n x
      have hw : w.islandSt = s.islandSt := by
        have hv : v.islandSt = s.islandSt := ht
        clear_value v
        simp only [w, State.ite_islandSt, State.setCtl_islandSt, hv, ite_self]
      clear_value w
      have hz : z.islandSt = s.islandSt := by
        simp only [z, y, State.ite_islandSt, State.canRing_islandSt, State.wr_islandSt, hw, ite_self]
      clear_value z
      split
      · exact (z.canErrState_islandSt n).trans hz
      · split
        · exact ht
        · split
          · exact (State.notify_islandSt _ _ _ _).trans ht
          · rfl

theorem exec_canBusError_islandSt {n dt dr lec : Nat} {s t : State} (h : exec (.canBusError n dt dr lec) s = .next t) :
    t.islandSt = s.islandSt := by
  change execCanBusError n dt dr lec s = _ at h
  unfold execCanBusError at h
  refine State.runIn_islandSt ?_ h
  dsimp only
  repeat' split
  all_goals simp

theorem exec_ethFrameRx_islandSt {x : EthRx} {s t : State} (h : exec (.ethFrameRx x) s = .next t) : t.islandSt = s.islandSt := by
  change execEthFrameRx x s = _ at h
  unfold execEthFrameRx at h
  refine State.runIn_islandSt ?_ h
  dsimp only
  repeat' split
  all_goals simp

theorem exec_safStopReq_islandSt {c : Cmd} {s t : State} (h : exec (.safStopReq c) s = .next t) : t.islandSt = s.islandSt := by
  change execSafStopReq c s = _ at h
  unfold execSafStopReq at h
  refine State.runIn_command_islandSt (fun k u => ?_) h
  repeat' split
  all_goals rfl

theorem exec_safReadParams_islandSt {c : Cmd} {s t : State} (h : exec (.safReadParams c) s = .next t) : t.islandSt = s.islandSt := by
  change execSafReadParams c s = _ at h
  unfold execSafReadParams at h
  refine State.runIn_command_islandSt (fun k u => ?_) h
  split <;> rfl

theorem exec_safFaultLog_islandSt {c : Cmd} {s t : State} (h : exec (.safFaultLog c) s = .next t) : t.islandSt = s.islandSt := by
  change execSafFaultLog c s = _ at h
  unfold execSafFaultLog at h
  refine State.runIn_command_islandSt (fun k u => ?_) h
  split <;> rfl

theorem exec_safParamWrite_islandSt {c : Cmd} {s t : State} (h : exec (.safParamWrite c) s = .next t) : t.islandSt = s.islandSt := by
  change execSafParamWrite c s = _ at h
  unfold execSafParamWrite at h
  refine State.runIn_command_islandSt (fun k u => ?_) h
  dsimp only
  repeat' split
  all_goals rfl

/-- A body that leaves the island's state alone in either case. -/
theorem body_islandSt_ite {c : Prop} [Decidable c] {a b : Reply × State} {n : Nat} (ha : a.2.islandSt = n) (hb : b.2.islandSt = n) :
    (if c then a else b).2.islandSt = n := by
  split
  · exact ha
  · exact hb

theorem exec_updBegin_islandSt {c : Cmd} {s t : State} (h : exec (.updBegin c) s = .next t) : t.islandSt = s.islandSt := by
  change execUpdBegin c s = _ at h
  unfold execUpdBegin at h
  refine State.runIn_command_islandSt (fun k u => ?_) h
  extract_lets p other go
  have hgo : go.2.islandSt = u.islandSt := by simp only [go, okWith, State.updStart_islandSt]
  clear_value go other p
  exact body_islandSt_ite rfl (body_islandSt_ite rfl (body_islandSt_ite rfl (body_islandSt_ite rfl (body_islandSt_ite hgo
    (body_islandSt_ite rfl (body_islandSt_ite hgo (body_islandSt_ite rfl (body_islandSt_ite hgo (body_islandSt_ite rfl
      (body_islandSt_ite rfl hgo))))))))))

theorem exec_updAbort_islandSt {c : Cmd} {s t : State} (h : exec (.updAbort c) s = .next t) : t.islandSt = s.islandSt := by
  change execUpdAbort c s = _ at h
  unfold execUpdAbort at h
  refine State.runIn_command_islandSt (fun k u => ?_) h
  extract_lets x v
  repeat' split
  all_goals simp [v, refuse, okWith]

theorem exec_keeps_lock {i : Instr} {s t : State} (hi : reachesIsland i = true) (hs : s.islandSt = 4) (h : exec i s = .next t) :
    t.islandSt = 4 := by
  cases i
  case vrstShed => exact exec_vrstShed_locked hs h
  case overvoltageShed => exact exec_overvoltageShed_locked hs h
  case safCycle => exact exec_safCycle_locked hs h
  case safStandstill => exact exec_safStandstill_locked hs h
  case safReadyCheck => exact exec_safReadyCheck_locked hs h
  case safSealChange => exact exec_safSealChange_locked hs h
  case safTestPulse => exact (exec_safTestPulse_islandSt h).trans hs
  case classCCommandDone => exact (exec_classCCommandDone_islandSt h).trans hs
  case overvoltageRecover => exact (exec_overvoltageRecover_islandSt h).trans hs
  case containerVerified => exact (exec_containerVerified_islandSt h).trans hs
  case safDiscrepancy => exact (exec_safDiscrepancy_islandSt h).trans hs
  case safSpeedDiscrepancy => exact (exec_safSpeedDiscrepancy_islandSt h).trans hs
  case safTMaxExpiry => exact exec_safTMaxExpiry_locked hs h
  case safSoTest => exact (exec_safSoTest_islandSt h).trans hs
  case safEdmTimeout => exact (exec_safEdmTimeout_islandSt h).trans hs
  case safResetInput => exact exec_safResetInput_locked hs h
  case safSelfTestDone => exact exec_safSelfTestDone_locked hs h
  case safStopReq => exact (exec_safStopReq_islandSt h).trans hs
  case safReadParams => exact (exec_safReadParams_islandSt h).trans hs
  case safFaultLog => exact (exec_safFaultLog_islandSt h).trans hs
  case safParamWrite => exact (exec_safParamWrite_islandSt h).trans hs
  case jasperFrameRx => exact (exec_jasperFrameRx_islandSt h).trans hs
  case jasperWatchdog => exact (exec_jasperWatchdog_islandSt h).trans hs
  case jasperProduce => exact (exec_jasperProduce_islandSt h).trans hs
  case canFrameRx => exact (exec_canFrameRx_islandSt h).trans hs
  case canTxComplete => exact (exec_canTxComplete_islandSt h).trans hs
  case canBusError => exact (exec_canBusError_islandSt h).trans hs
  case ethFrameRx => exact (exec_ethFrameRx_islandSt h).trans hs
  case updBegin => exact (exec_updBegin_islandSt h).trans hs
  case updAbort => exact (exec_updAbort_islandSt h).trans hs
  all_goals exact absurd hi Bool.false_ne_true

/-! ### Resets -/

theorem State.resetTaken_islandSt (s : State) (k : Nat) : (s.resetTaken k).islandSt = s.islandSt := by
  unfold State.resetTaken
  split <;> rfl

theorem State.resetCause_islandSt (s : State) (k : Nat) (join : Bool) : (s.resetCause k join).islandSt = s.islandSt := rfl

theorem State.resetCount_islandSt (s : State) (k : Nat) (join : Bool) : (s.resetCount k join).islandSt = s.islandSt := by
  unfold State.resetCount
  extract_lets t
  have ht : t.islandSt = s.islandSt := by
    simp only [t]
    split <;> rfl
  clear_value t
  split <;> exact ht

/-- What a warm reset loses is not the island. -/
theorem State.lose_islandSt (s : State) (por warm : Bool) : (s.lose por warm).islandSt = s.islandSt := by
  have hrec (t : State) : (t.recReset por).islandSt = t.islandSt := by
    unfold State.recReset
    dsimp only
    split
    · rfl
    · exact State.foldl_islandSt (fun t (e : Posted) => t.inc_islandSt (lossReg e.sev)) _ _
  have hprm (t : State) : t.prmReset.islandSt = t.islandSt := rfl
  have hupd (t : State) : t.updReset.islandSt = t.islandSt := by
    unfold State.updReset
    dsimp only
    split <;> rfl
  unfold State.lose
  dsimp only
  rw [hupd, hprm, hrec]
  rfl

/-- The reset of the module finds an island that is neither in RUN nor in SS1 where it leaves it. -/
theorem State.safModule_islandSt {s : State} (h2 : s.islandSt ≠ 2) (h3 : s.islandSt ≠ 3) : s.safModule.islandSt = s.islandSt := by
  have h2 : s.saf.st ≠ 2 := h2
  have h3 : s.saf.st ≠ 3 := h3
  unfold State.safModule
  rw [if_neg (by simp [h2, h3])]
  exact s.setSaf_islandSt fun _ => rfl

theorem State.warmReset_locked {s : State} (hs : s.islandSt = 4) : s.warmReset.islandSt = 4 := by
  unfold State.warmReset
  extract_lets _ t
  have ht : t.islandSt = 4 := (s.lose_islandSt false true).trans hs
  clear_value t
  have hu : (((t.wf_ R.PWR_STATE 1 0 3).setPwr Power.restarted).adrEnables.pswEnables).islandSt = 4 := by simp [ht]
  rw [State.safModule_islandSt (by rw [hu]; decide) (by rw [hu]; decide), hu]

/-- A reset that leaves the island running leaves it in LOCK. -/
theorem State.deviceReset_warm_islandSt {s : State} {k : Nat} (hk : 2 ≤ k) (hs : s.islandSt = 4) : (s.deviceReset k).islandSt = 4 := by
  have hscope : resetScope k = 2 := by
    unfold resetScope
    rw [if_neg (by omega), if_neg (by omega)]
  unfold State.deviceReset
  extract_lets join t
  have ht : t.islandSt = 4 := by
    simp only [t]
    rw [hscope]
    split
    · exact hs
    · exact State.warmReset_locked hs
  clear_value t
  rw [State.resetCount_islandSt, State.resetCause_islandSt, State.resetTaken_islandSt, ht]

/-- An island that starts again is in START. -/
theorem State.safPowerUp_islandSt (s : State) : s.safPowerUp.islandSt = 0 := by
  simp only [State.safPowerUp, State.pswEnables_islandSt, State.adrEnables_islandSt]
  rfl

theorem State.deviceReset_cold_islandSt {s : State} {k : Nat} (hk : k ≤ 1) (hrun : s.clk.running = true) :
    (s.deviceReset k).islandSt = 0 := by
  unfold State.deviceReset
  extract_lets join t
  have hjoin : join = false := by simp [join, hrun]
  have ht : t.islandSt = 0 := by
    simp only [t]
    rw [if_neg (by simp [hjoin])]
    have hk : k = 0 ∨ k = 1 := by omega
    rcases hk with rfl | rfl
    · exact State.safPowerUp_islandSt _
    · exact State.safPowerUp_islandSt _
  clear_value t
  rw [State.resetCount_islandSt, State.resetCause_islandSt, State.resetTaken_islandSt, ht]

/-- Settles O49: the LOCK state is entered with no line up and no output on; the island's cycle enters it for a fault of its own, and
neither a press, a command with a footprint nor a reset that leaves the island running leads out of it. -/
theorem islandLock : Obligations.IslandLock := by
  unfold Obligations.IslandLock
  refine ⟨?enters, ?own, ?foot, ?press, ?warm, ?cold⟩
  case enters =>
    intro c s hs
    exact ⟨State.safEnter_st s 4 c, State.safEnter_lines hs c, State.safEnter_cause hs c,
      fun n hn => State.safEnter_off hs (by decide) (by decide) c hn⟩
  case own =>
    intro x s hp hs hdue hown
    obtain ⟨t, ht, u, env, still, tmax, reset, hu, -, -, hfault, -, hst, hlines⟩ := State.safCycle_decides (x := x) hp hdue
    obtain ⟨hlock, hnone⟩ := State.safDecide_own (by rw [hu]; exact hs) (hfault hown) env still tmax reset
    exact ⟨t, ht, hst.trans hlock, hlines.trans hnone⟩
  case foot =>
    intro i F s t hF hs h
    cases hi : reachesIsland i
    case false => rw [exec_saf_of_foot hF hi h]; exact hs
    case true => exact exec_keeps_lock hi hs h
  case press =>
    intro i d s hs hpress hlow hhigh
    change ∃ t, execSafResetInput i s = .next t ∧ _
    refine State.runIn_complete ?_
    split
    case h_1 hnone => exact absurd (hpress.symm.trans hnone) (by simp)
    case h_2 d' hd =>
      obtain rfl : d = d' := Option.some.inj (hpress.symm.trans hd)
      extract_lets u
      have hu : u.saf.st = 4 := hs
      rw [if_pos (by simp [hlow, hhigh]), State.safReset_stopped (by rw [hu]; decide), Foot.finish_saf, if_pos (by decide)]
      exact ⟨hu, rfl⟩
  case warm =>
    intro k s hk hs
    exact (State.deviceReset_warm_islandSt hk hs)
  case cold =>
    intro k s hk hrun
    exact State.deviceReset_cold_islandSt hk hrun

end Sys2Proof.Machine
end
